-- ==== Sys2Proof/Word.lean ====
section
/-!
DEFINITION. The numbers of the model and the plain records that commands carry.
A register value, a byte, an address and a PID are natural numbers (spec/00_scope.md R3 to R10); the width
of a register stands in the catalogue of objects. Signed quantities are integers.
-/

namespace Sys2Proof

/-- Bytes as the manual writes them: numbers below 256, lowest address first (R5). -/
abbrev Bytes := List Nat

/-- The 2^w ring: a value cut to `w` bits. -/
def wrap (w n : Nat) : Nat := n % 2 ^ w

/-- A counter of `w` bits that saturates at its highest value. -/
def satAdd (w n k : Nat) : Nat := min (n + k) (2 ^ w - 1)

/-- The two's-complement reading of `w` bits (R11). -/
def toSigned (w n : Nat) : Int :=
  if n % 2 ^ w < 2 ^ (w - 1) then (n % 2 ^ w : Nat) else (n % 2 ^ w : Nat) - (2 ^ w : Nat)

/-- An integer as `w` bits of two's complement (R11). -/
def ofSigned (w : Nat) (i : Int) : Nat := (i % ((2 ^ w : Nat) : Int)).toNat

/-- The carriage of a Cue frame (spec/07_object_dictionary.md R167). -/
inductive Via where
  | stageLink
  | tirwa
  | stageDoor
deriving DecidableEq, Repr

/-- A Cue request as it stands in a frame (R175), less its OPCODE, with what its transport adds.
`len` is its LENGTH field; `ip` and `port` are the source of the UDP datagram on the Stage link and 0 elsewhere. -/
structure Req where
  via : Via
  ip : Nat
  port : Nat
  version : Nat
  flags : Nat
  seq : Nat
  src : Nat
  dst : Nat
  pid : Nat
  len : Nat
  payload : Bytes
  cmac : Nat
deriving DecidableEq, Repr

/-- A record that a requester asks the journal engine to commit (spec/06_mram_and_prompt_book.md R156, R160). -/
structure JReq where
  typ : Nat
  stime : Nat
  payload : List Nat
  never : Bool
deriving DecidableEq, Repr

end Sys2Proof
end

