-- ==== Sys2Proof/Syntax.lean ====
section
/-!
DEFINITION. The commands the block takes: one constructor per row of spec/opcode_table.json, in the table's order,
with the operands its rule gives it.
-/

namespace Sys2Proof

/-- A command from outside: a Cue request, a bus or fabric access, an event on a pin or a timer's end. -/
inductive Instr where
  /-- A Cue READ request is judged through the checks of R178 and answered with the object's value or a result code. (R176) -/
  | read (r : Req)
  /-- A Cue WRITE request to an object with no row of its own is judged, committed to the journal if RWP, and applied. (R182) -/
  | write (r : Req)
  /-- A Cue CONFIRM checks the pending safety block CRC in the Warden and the Iron, commits a SAFETY_BLOCK record and applies the block. (R187) -/
  | confirm (r : Req)
  /-- A Cue NOTIFY request subscribes the sender to an object, or cancels its subscription, and returns the slot. (R188) -/
  | notify (r : Req)
  /-- A Cue BULK_READ returns the result and value of 1 to 64 objects. (R176) -/
  | bulkRead (r : Req)
  /-- A Cue BULK_WRITE judges every entry, commits its RWP entries in one OBJECT record and applies all entries in order. (R183) -/
  | bulkWrite (r : Req)
  /-- A SEIZE request takes the baton of one area when it is free, already held by the sender, taken by a side-band with Owner rights, or its holder has been silent. (R30) -/
  | seize (r : Req)
  /-- A RELEASE request from the holder frees the baton of one area. (R31) -/
  | release (r : Req)
  /-- A pending safety block not confirmed within SMG_CUE_CONFIRM_TIMEOUT of its last write is discarded. (R187) -/
  | safetyBlockExpiry
  /-- A READ in area E reads a register of an island or the Iron-die window through one proxy fabric transfer. (R190) -/
  | rawWindowRead (r : Req)
  /-- A WRITE in area E writes a register through one proxy fabric transfer without journalling. (R191) -/
  | rawWindowWrite (r : Req)
  /-- A write of a Cue key object decrypts the new key, replies under the old key and logs a key change event. (R194) -/
  | keyChange (r : Req)
  /-- A change of a subscribed object sends an on-change notification, subject to the interval. (R189) -/
  | notificationOnChange (slot : Nat)
  /-- The period of a periodic subscription expires and a notification is sent. (R189) -/
  | notificationPeriodic (slot : Nat)
  /-- A refused self-commit is committed again once per second until it succeeds. (R528) -/
  | objectSelfCommitRetry
  /-- A delimiter ends a stage door frame, which is COBS-decoded, CRC-checked and passed to the Stage manager or discarded. (R450) -/
  | stageDoorFrame
  /-- SDR_FRAME_TIMEOUT_MS passes between two bytes of a frame and the frame is discarded. (R450) -/
  | stageDoorFrameTimeout
  /-- An initiator offers a read request to a bridge, which aborts it, passes it or awaits acknowledgement. (R46) -/
  | fabricReadRequest (init addr tag beats byteEn : Nat) (fetch : Bool)
  /-- An initiator offers a write request, which the target applies before its write response. (R52) -/
  | fabricWriteRequest (init addr tag byteEn : Nat) (data : List Nat)
  /-- The request-phase watchdog expires and the near side withdraws the flit and returns ABORTED. (R46) -/
  | requestWatchdogExpiry (init tag : Nat)
  /-- A listed request has no response after PW_FAB_RSP_TIMEOUT and the hub returns ABORTED. (R48) -/
  | responseWatchdogExpiry (init tag : Nat)
  /-- A port's PRESENT falls and the hub aborts every listed request to it in issue order. (R48) -/
  | portPresentFall (island : Nat)
  /-- A response reaches the initiator's bridge, or is dropped if that island is absent, and read side effects are applied on delivery. (R53) -/
  | fabricResponseReturn (init tag : Nat)
  /-- An event packet is offered to a port and delivered, or discarded and counted if PRESENT is low. (R54) -/
  | fabricEventPacket (island event : Nat)
  /-- The Iron latches an event with its sequence number. (R58) -/
  | ironEventLatch (code unit : Nat)
  /-- The Iron sends latched events over the keeper channel while PD00 is powered. (R58) -/
  | ironEventKeeperDelivery
  /-- The Iron bridge posts a latched event on Callboard channel 0 or 1 once I22 is present. (R58) -/
  | ironEventMainPost (ch : Nat)
  /-- On a channel's result event the Iron bridge posts again an event that was refused as full. (R58) -/
  | ironEventRepost (ch : Nat)
  /-- A judge window ends, is judged pass or fail, and the source may become good or failed. (R65) -/
  | judgeWindowEnd (j count : Nat)
  /-- No run of K passing windows completes within the limit time and the source is marked failed. (R65) -/
  | judgeLimitExpiry (j : Nat)
  /-- Every 10 s a failed XO25, XO32K or REF156 is judged again from the start. (R66) -/
  | judgeRetry (j : Nat)
  /-- A source monitor sees no rising edge within its set time and marks the source failed. (R78) -/
  | monitorDeadEdge (src : Nat)
  /-- A 1 ms count of RC16 against XO25 ends and the trim code steps in the binary search or the later trim. (R69) -/
  | rc16TrimMeasurement (count : Nat)
  /-- CK_RC16_RETRIM seconds pass and a later trim is started. (R70) -/
  | rc16RetrimTimer
  /-- The clock controller requests a switch of an island's input, refused if the source is not good, and kept as the latest waiting one. (R74) -/
  | clockSwitchRequest (island input : Nat)
  /-- The glitch-free multiplexer enables the new input and the switch completes. (R76) -/
  | clockSwitchComplete (island : Nat)
  /-- A switch pending for CK_HANG_TIMEOUT is forced, or listed in CK_HUNG with a NOTIFY when forcing is disabled. (R80) -/
  | clockHangTimeout (island : Nat)
  /-- A write of CK_FORCE_NOW forces each named island to input 0. (R80) -/
  | ckForceNow (r : Req)
  /-- Sixteen cycles of the new clock after a forced switch, the island's reset is released and it restarts. (R79) -/
  | forcedSwitchResetRelease (island : Nat)
  /-- After a PLL fails the Stage manager restarts it, unless it has failed three times within 60 s. (R84) -/
  | pllRestart (pll : Nat)
  /-- A PLL reports lock after enable and its judge starts. (R63) -/
  | pllLock (pll : Nat)
  /-- VSUP falls through 8.5 V, the Iron opens every high-side switch and the power-fail sequence starts. (R89) -/
  | vsupWarning (vsupMv : Nat)
  /-- The last commit marker of the power-fail sequence is written, PD36, PD29 and PD30 switch off and the hold-up figures are stored. (R110) -/
  | powerFailLastCommit (holdupUs vaonMinMv : Nat)
  /-- VSUP falls below 7.0 V or the Iron supervisor check fails and the Iron die is reset. (R103) -/
  | ironPor
  /-- VSUP rises through 8.8 V with the check passing and the Iron domains come on with every output open. (R93) -/
  | ironPorRelease
  /-- VAON falls below 1.72 V and the whole main die is reset. (R103) -/
  | vaonPor
  /-- The VAON POR is released, the RTC restarts stage time at 0 and the cold start begins. (R6) -/
  | vaonPorRelease
  /-- VCORE falls below 0.740 V, every VCORE-fed domain loses power and the Stage manager drops to tier K. (R103) -/
  | vcoreLoss
  /-- A supply monitor declares a supply good on its rising threshold. (R89) -/
  | supplyGood (supply mv : Nat)
  /-- VSUP has stayed good for 100 ms and the Stage manager raises the tier again. (R100) -/
  | vsupGoodHoldExpiry
  /-- VCP_P or VCP_M changes between good and not good and PD55 is switched accordingly. (R100) -/
  | vcpStateChange (pGood mGood : Bool)
  /-- SYS_RST_N is low for 1 µs or longer and a main-die start follows. (R103) -/
  | sysRstNLow
  /-- The Stage manager watchdog is not served for 500 ms and a main-die start follows. (R103) -/
  | stageManagerWatchdogExpiry
  /-- A write of 0x5A to PW_RESET_REQ requests a main-die start after the reply. (R103) -/
  | pwResetReq (r : Req)
  /-- 10 ms after the reply to PW_RESET_REQ has left, the main-die start takes place. (R103) -/
  | resetRequestDelayExpiry
  /-- Within 1 s of VSUP and VCORE next being good together, the firmware requests a main-die start for a deferred copy. (R108) -/
  | deferredCopyStart
  /-- After a main-die start the boot ROM runs on RC16, judges XO25, trims RC16 and powers PD36 and PD28. (R106) -/
  | bootRomStart
  /-- The boot verifier finishes the loader check, and the ROM copies a staged image or hands over, or enters ROM hold. (R106) -/
  | loaderCheckComplete (okCurrent okOther : Bool)
  /-- The boot ROM copies a committed staged image into its active region and writes a copy-complete record. (R109) -/
  | bootStagedCopy
  /-- Once per second in ROM hold, U0 sends the 10-byte status frame. (R107) -/
  | romHoldStatusFrame
  /-- The Stage manager firmware starts, frees the batons, raises and commits the epoch and rebuilds its state. (R172) -/
  | stageManagerStart
  /-- A write of PW_TIER_REQ makes the Stage manager move towards the requested tier. (R100) -/
  | pwTierReq (r : Req)
  /-- Once every domain of the previous group reports PRESENT, the next group of domains is switched. (R101) -/
  | tierGroupStart
  /-- A domain is requested on, clamps its outputs and soft-starts its switch. (R96) -/
  | domainSwitchOn (d : Nat)
  /-- A domain's reset and isolation are released and PRESENT rises. (R96) -/
  | domainOnComplete (d : Nat)
  /-- A domain's power-good does not rise within 40 µs, and it is opened, reported as fault and recorded. (R98) -/
  | domainPowerGoodTimeout (d : Nat)
  /-- A domain switches off: PRESENT falls, isolation, reset and the switch opens. (R97) -/
  | domainSwitchOff (d : Nat)
  /-- Every 100 ms the Stage manager reads the temperature sensors and raises the thermal level if a threshold is reached. (R112) -/
  | thermalSample (t0 t1 : Int)
  /-- PW_TJ has stayed below the level's threshold minus the hysteresis for 10 s and the level falls by one. (R112) -/
  | thermalLevelDrop
  /-- VAON becomes good or fails and the dark source selector moves PD02 between keeper and harvester. (R115) -/
  | darkSourceSwitch (vaonGood : Bool)
  /-- A write to NOTICE is judged and stores a notice, marks the channel full and offers an event to the receiver. (R123) -/
  | noticePost (ch init word beats byteEn : Nat)
  /-- The receiver reads NOTICE, which sets IN_DELIVERY, and on confirmed delivery the channel empties or is marked taken. (R125) -/
  | noticeTake (ch init : Nat) (delivered : Bool)
  /-- The receiver writes a return code to ACK of a taken channel, emptying it with the result acknowledged. (R126) -/
  | noticeAck (ch init code : Nat)
  /-- The sender writes a tag to WITHDRAW and the held notice is removed with the result withdrawn if all conditions hold. (R129) -/
  | noticeWithdraw (ch init tag : Nat)
  /-- A read of STATUS by the last sender clears the channel's bit in CBD_RESULT_NEW. (R128) -/
  | callboardStatusRead (ch init : Nat)
  /-- The Stage manager writes a channel's CONFIG. (R120) -/
  | callboardConfigWrite (ch init value : Nat)
  /-- A receiver island's PRESENT falls and every full channel naming it empties with the result aborted. (R130) -/
  | receiverReset (island : Nat)
  /-- A reset of I07 or loss of PD51 empties every channel and returns the Callboard objects to default. (R136) -/
  | callboardReset
  /-- A sender cancels a provisional notice on each channel by retraction, withdrawal or nothing, as its state requires. (R131) -/
  | provisionalCancel (sender tag : Nat) (channels : List Nat)
  /-- A word is read from the MRAM array with ECC correction or detection. (R140) -/
  | mramWordRead (init addr : Nat) (fetch : Bool) (errs : List Nat) (pairEqual : Bool)
  /-- A whole word is written to the MRAM array in 150 ns. (R140) -/
  | mramWordWrite (init addr word : Nat)
  /-- A partial-byte write is done as read, merge and whole-word write. (R142) -/
  | mramMergeWrite (init addr byteEn word : Nat) (errs : List Nat)
  /-- An instruction fetch that receives DATA makes the Stage manager restart the island, and the image is marked damaged after three. (R152) -/
  | fetchErrorRestart (init addr : Nat)
  /-- The scrub reads the next reference pairs or word in order and rewrites a word with a single error. (R146) -/
  | scrubVisit (errs : List Nat) (pairEqual : Bool) (badColumns badSpares : List Nat)
  /-- The controller reads, corrects and rewrites the next word of a column under repair. (R150) -/
  | columnRepairStep
  /-- All 4,096 words are rewritten, the repair entry is marked done and reads take the bit from the spare. (R150) -/
  | columnRepairComplete
  /-- PBK_BANK_CMD op 0x01 starts a self-test of a bank. (R153) -/
  | bankSelfTest (r : Req)
  /-- PBK_BANK_CMD op 0x02 starts a copy of one bank to another at Vendor level. (R153) -/
  | bankCopy (r : Req)
  /-- PBK_BANK_CMD op 0x03 starts writing every word of a bank to zero at Vendor level. (R153) -/
  | bankWipe (r : Req)
  /-- A bank-wide operation ends and PBK_BANK_CMD_STATUS shows the outcome. (R166) -/
  | bankOperationComplete (faults : Nat)
  /-- A requester asks the journal engine to commit a record, which is accepted, held or refused with BUSY. (R159) -/
  | journalCommitRequest (requester : Nat) (j : JReq)
  /-- The commit word's write ends and the commit is acknowledged to its requester. (R159) -/
  | journalCommitComplete
  /-- A compaction sector of up to 1,024 words is written, after which foreground commits may go. (R162) -/
  | compactionSector
  /-- At PD36 power-up the journal engine scans both halves, chooses the live half and sets the next SEQ. (R163) -/
  | journalRecovery (us : Nat) (badWords : List Nat)
  /-- WDN_SIn_FILTER consecutive equal samples change a contact's filtered state in one channel. (R199) -/
  | safetyInputFilterChange (ch input contact : Nat) (closed : Bool)
  /-- A discrepancy lasts longer than WDN_SIn_DISC_MS and DISCREPANCY is latched with the input held in demand. (R201) -/
  | discrepancyTimeout (ch input : Nat)
  /-- Once per WDN_TP_PERIOD a test-pulse source goes low and samples during it are checked. (R202) -/
  | testPulse (failed : List Nat)
  /-- A contactor mirror does not report released within WDN_SOp_MIRROR_MS of its pair opening, and WELDED is latched. (R203) -/
  | mirrorTimeout (pair : Nat)
  /-- Two consecutive readback samples mismatch the commanded state and READBACK is latched with the pair opened. (R206) -/
  | readbackMismatch (pair : Nat)
  /-- A switch stays in current limit for 100 µs, opens and latches OVERLOAD. (R207) -/
  | switchCurrentLimitTimeout (pair : Nat)
  /-- The sum of load currents exceeds 2.8 A for 10 ms and the Iron opens every pair. (R207) -/
  | totalOverloadTimeout
  /-- Once per WDN_TEST_PERIOD each closed pair's switches are opened briefly in turn and the nodes are read. (R208) -/
  | darkTest (pair : Nat) (ok2 ok6 : Bool)
  /-- The Warden's answer reaches the Iron and is accepted or is a failure. (R210) -/
  | prompterAnswer (word seq dt : Nat) (aborted : Bool)
  /-- No answer arrives within 12.0 ms and the Prompter fails. (R210) -/
  | prompterAnswerTimeout
  /-- The Warden's cores disagree, it stops its drive lines and answers, and I08 is restarted. (R213) -/
  | lockstepMismatch
  /-- When I08 becomes present the Warden loads every active block and the Iron table into the Iron, which checks their CRCs. (R214) -/
  | safetyBlockLoad
  /-- Every 60 s the Warden sends its CRC of each block and a disagreement latches BLOCK. (R214) -/
  | blockCrcCheck
  /-- The brake test runs with the axis at home, passing or latching BRAKE_TEST. (R217) -/
  | brakeTest (movement : Nat)
  /-- A deferred brake test's grace time passes and only the creep move home is permitted. (R218) -/
  | brakeTestGraceExpiry
  /-- The encoder speed exceeds WDN_SLS_LIMIT for longer than WDN_SLS_TOL_MS, SLS is latched and a quick stop starts. (R219) -/
  | slsOverspeed (speed : Int)
  /-- The speed stays below 1 % of the limit for 20 ms or WDN_SS1_MS passes, and SO5 and SO4 open. (R219) -/
  | ss1StopComplete
  /-- A 10 ms window of encoder A edges ends and an excess opens SO4 and SO5 with OVERSPEED latched. (R220) -/
  | ironOverspeedWindow (edges : Nat)
  /-- The Iron's sensor passes 150 °C and the Iron opens every pair and latches OVERTEMP. (R221) -/
  | ironOvertemp (temp : Int)
  /-- The Iron reports a new control pilot state after agreeing samples, which may end permission or start a violation. (R232) -/
  | cpStateReport (high low : Int)
  /-- The Warden recomputes the AC current limit and the PWM duty when an input changes or each allocation period. (R234) -/
  | currentLimitRecompute (ppOhm : Nat)
  /-- The limit has stayed at 6.0 A or above for 60 s and PWM resumes. (R241) -/
  | acResume
  /-- PP is invalid or shows no cable for 3 ms during a session and the contactors open. (R253) -/
  | proximityLost (ppOhm : Nat)
  /-- The vehicle's supportedAppProtocolReq is answered with the first common protocol of WDN_HLC_ORDER. (R249) -/
  | supportedAppProtocolReq (decodable dc : Bool) (protos : List Nat)
  /-- A cable check request starts the cable check phase after the internal test resistor is measured. (R237) -/
  | cableCheckReq (sid : Nat) (decodable : Bool) (testOhm vMax iMax : Nat)
  /-- A PreChargeReq drives the module to the target voltage and is answered Ongoing until SO2 has opened. (R238) -/
  | preChargeReq (sid : Nat) (decodable : Bool) (volt amp : Nat)
  /-- Outlet A and B have been within WDN_PRECHARGE_DV for 100 ms and SO0 closes. (R238) -/
  | prechargeConditionMet
  /-- 50 ms after SO0 closes, SO2 opens. (R238) -/
  | prechargeSo2Open
  /-- The precharge condition is not met within WDN_PRECHARGE_MS and violation 0x29 ends the session. (R238) -/
  | prechargeTimeout (elapsedMs : Nat)
  /-- A PowerDeliveryReq starts or stops energy transfer, or is violation 0x28 if early. (R237) -/
  | powerDeliveryReq (sid : Nat) (decodable start : Bool)
  /-- A CurrentDemandReq is answered within 25 ms with the limits and isolation status. (R250) -/
  | currentDemandReq (sid : Nat) (decodable : Bool) (volt amp : Nat)
  /-- A SessionStop request ends energy transfer and starts the ramp down. (R237) -/
  | sessionStopReq (sid : Nat) (decodable : Bool)
  /-- Outlet A current falls below 1 A or 500 ms pass and the welding check starts. (R237) -/
  | rampDownEnd
  /-- The DC welding check's 200 ms and 1.0 s judgements end and WELDED is latched on failure. (R239) -/
  | dcWeldingCheckEnd (peakMv fallMs : Nat)
  /-- Authorisation is granted for a plugged AC session and the pilot starts PWM. (R240) -/
  | acAuthorisation (auth ident : Nat)
  /-- The vehicle stays out of state B 6 s after the post ends and SO3 opens. (R240) -/
  | acEndingTimeout
  /-- 100 ms after SO3 opens every phase voltage must be below 50 V RMS, otherwise WELDED is latched. (R240) -/
  | acWeldingCheckEnd
  /-- An isolation measuring period ends and the fault resistance is computed against the thresholds. (R242) -/
  | isolationPeriodEnd (ohm100 : Nat)
  /-- Every 1 ms the 20 ms mean residual DC current is updated and judged against the trip curves. (R246) -/
  | residualCurrentUpdate (sumMv : Int)
  /-- IRN_RC_IN lies more than 1.2 V from the reference for 10 ms and RC_SENSOR is latched. (R245) -/
  | rcSensorFault
  /-- The 500 ms residual-current self-test ends and passes or latches RC_SELFTEST. (R247) -/
  | rcSelfTest (meanUa : Int)
  /-- No CM_SLAC_PARM.REQ arrives within 50 s of 5 % PWM and violation 0x21 is answered. (R253) -/
  | slacTimeout (elapsedMs : Nat)
  /-- No vehicle request arrives for 60 s and the session ends with violation 0x22. (R253) -/
  | sequenceTimeout (elapsedMs : Nat)
  /-- No CurrentDemandReq for 1 s during energy transfer ramps the module to 0 A. (R253) -/
  | currentDemandGap (elapsedMs : Nat)
  /-- State D without ventilation permitted lasts 3 s and the session ends. (R253) -/
  | stateDTimeout (elapsedMs : Nat)
  /-- The vehicle stays in state C 6 s after PWM ended and SO3 is opened under load. (R253) -/
  | stateCTimeout (elapsedMs : Nat)
  /-- A phase current stays above 1.1 × I + 0.5 A for 10 s and the session ends. (R253) -/
  | acOvercurrentTimeout (currentMa : Nat)
  /-- 3 s of state F end and CP is driven at constant +12 V. (R253) -/
  | stateFEnd
  /-- The TCP connection closes during energy transfer and the session ends if no new one comes within 2 s. (R253) -/
  | tcpConnectionLoss (elapsedMs : Nat)
  /-- Every 50 µs I21 updates the profile, speed and speed command and hands U5 a frame. (R263) -/
  | flyControlCycle (delta : Int) (gapNs : Nat)
  /-- A and B change together, setting ENC_ERROR. (R260) -/
  | encoderIllegalTransition
  /-- A rising edge of FLY_ENC_Z latches the position count and completes homing when awaited. (R260) -/
  | encoderIndex
  /-- 100 ms without an edge, or SO4 open for FLY_BRAKE_SET_MS, sets ENC_VALID. (R262) -/
  | encValidSet
  /-- FLY_CMD 0x01 starts homing towards the home switch. (R266) -/
  | flyHome (r : Req)
  /-- FLY_CMD 0x03 stops the axis at FLY_DEC and clears TARGET_PENDING. (R271) -/
  | flyStop (r : Req)
  /-- FLY_CMD 0x04 makes a quick stop and clears TARGET_PENDING. (R271) -/
  | flyQuickStop (r : Req)
  /-- FLY_CMD 0x05 resumes the move towards the pending target. (R271) -/
  | flyResume (r : Req)
  /-- FLY_CMD 0x06 jogs the axis positive at creep speed. (R279) -/
  | flyJogPositive (r : Req)
  /-- FLY_CMD 0x07 jogs the axis negative at creep speed. (R279) -/
  | flyJogNegative (r : Req)
  /-- A write of FLY_TARGET takes effect at the next control cycle, continuing or reversing the profile. (R270) -/
  | flyTargetWrite (r : Req)
  /-- FLY_HOME goes low or high during homing and the axis stops, reverses or awaits the index. (R266) -/
  | homingHomeSwitch (low : Bool)
  /-- A tooth edge moves the tooth count and its deviation is judged. (R273) -/
  | toothEdge (rising : Bool)
  /-- The encoder moves 1.5 pitches past the last tooth without an edge. (R274) -/
  | missedTooth
  /-- FLY_POS reaches an armed cue's position in an armed direction and its action runs. (R277) -/
  | cueFire (cue : Nat) (positive contactHigh : Bool)
  /-- FLY_STO_SETTLE_MS after SO5 closes, the Warden closes SO4. (R265) -/
  | motionStoSettle
  /-- FLY_BRAKE_REL_MS after SO4 closes, the profile starts. (R265) -/
  | motionBrakeRelease
  /-- The axis is within tolerance and below 20 counts/s for 20 ms, IN_POSITION is set and SO4 opens. (R265) -/
  | inPositionReached
  /-- FLY_BRAKE_SET_MS after the motion ends, I21 holds cmd at 0. (R265) -/
  | brakeSetHoldEnd
  /-- Every 250 µs the Warden compares the axis position with its own counter and the fault inputs. (R278) -/
  | wardenAxisSupervision (flyDelta ownDelta : Int) (drvLow : Bool)
  /-- A 10 µs metering interval ends and the sequencer sends a metering frame to I09. (R287) -/
  | meteringIntervalEnd (counts : List Int)
  /-- No valid crossing for three periods makes IRN_MAINS_STATE lost. (R289) -/
  | mainsLost
  /-- The Tally processes a metering frame into counts, scaled values and energy. (R288) -/
  | meteringFrameReceive
  /-- Every 100 intervals the Tally updates voltage, current and power of the outlets. (R310) -/
  | supportingUpdate
  /-- At each tracked crossing, or every 20 ms while not tracking, the phase RMS, power and frequency are updated. (R310) -/
  | phaseRmsUpdate
  /-- Every 1 s the Tally refreshes the stage-time anchor of its interval numbering. (R313) -/
  | anchorRefresh
  /-- The Tally takes a seam on channel 9 and applies it in stage-time order. (R315) -/
  | seamReceive (ts old new : Nat)
  /-- Every TLY_COMMIT_MS the Tally closes its registers and posts an energy record and a rate record. (R316) -/
  | energyCommit
  /-- At the start of I09 the Tally restores from the latest energy and rate record pair. (R318) -/
  | tallyRestore
  /-- A session start or stop from E0 latches the outlet's registers and reports them on channel 7. (R319) -/
  | sessionLatch (set : Nat) (start : Bool)
  /-- A write of TLY_OUTx_MODE changes the mode at the next boundary and posts an energy record. (R323) -/
  | tlyOutModeWrite (r : Req)
  /-- A process window ends and the sequencer sends the Tally one result packet. (R291) -/
  | processWindowEnd (counts : List Int)
  /-- The Tally updates every process channel's RAW, VALUE, FLAGS and TIME from a result packet. (R291) -/
  | processResultUpdate
  /-- TLY_CAL_CMD op 0x01 starts averaging the low reference of a channel. (R295) -/
  | calMeasureLow (r : Req)
  /-- TLY_CAL_CMD op 0x02 starts averaging the high reference of a channel. (R295) -/
  | calMeasureHigh (r : Req)
  /-- TLY_CAL_CMD op 0x03 computes GAIN and OFFSET and passes the entry for writing, or refuses it. (R295) -/
  | calCommit (r : Req)
  /-- TLY_CAL_CMD op 0x04 abandons the calibration. (R295) -/
  | calAbandon (r : Req)
  /-- The averaging of a calibration step ends and r_lo or r_hi is set. (R295) -/
  | calAveragingComplete (count : Int) (clocks : Nat)
  /-- The Stage manager writes a calibration entry and acknowledges it, and the new coefficients apply. (R296) -/
  | calEntryAck
  /-- A change of TLY_PCn_MODE writes the channel's entry with GAIN 0. (R296) -/
  | tlyPcModeWrite (r : Req)
  /-- A write of TLY_MCm_FS writes the channel's entry with GAIN 0 and counts a calibration attempt. (R296) -/
  | tlyMcFsWrite (r : Req)
  /-- A phase of 100,000 intervals of the check converter ends and the channel's check is judged. (R298) -/
  | meteringSelfCheckPhase (ch : Nat) (diffPpm refPpm : Int)
  /-- A process channel's check windows end and CHECK_FAIL is set or cleared. (R299) -/
  | processSelfCheck (ch : Nat) (shortPpm refPpm : Int)
  /-- 60 s after the last foreground change, an aborted self-check runs again. (R300) -/
  | selfCheckReschedule
  /-- The Iron detects a stopped converter clock, sets bit 24 and the running session is ended. (R301) -/
  | converterClockLost
  /-- 1 s before each civil minute, or after a calendar write or time setting, the rate is evaluated and a seam posted if it changes. (R329) -/
  | calendarEvaluate (boundary : Bool)
  /-- Every 100 ms the cost of an authorised session accrues and prepaid credit is reduced. (R331) -/
  | costAccrual
  /-- A write of BOX_EMERG_REQ or the EMERG key sets BOX_EMERG_ACTIVE if its conditions hold. (R334) -/
  | boxEmergReq (req : Option Req)
  /-- A demand sub-interval ends, the window demand is computed and a new maximum is recorded. (R335) -/
  | demandSubIntervalEnd
  /-- A write of BOX_MD_RESET resets the maximum demand of each named rate. (R337) -/
  | boxMdReset (r : Req)
  /-- 25 digits and ENTER on the keypad, or a write of BOX_TOKEN_IN, start token decoding. (R338) -/
  | tokenEntry (req : Option Req)
  /-- 60 s without a key discards the keypad entry. (R338) -/
  | tokenEntryTimeout
  /-- Token decryption and checks end, provisional notices are posted and the replay check runs. (R339) -/
  | tokenDecodeComplete
  /-- The Stage manager acknowledges the token record's commit and the Box office applies the class. (R342) -/
  | tokenRecordAck
  /-- A class 0 token adds its value to BOX_CREDIT. (R340) -/
  | creditToken
  /-- A class 1 token holds D1 for 600 s. (R340) -/
  | keyChangePartOne
  /-- A class 2 token with D1 held derives the new token key and raises BOX_TOKEN_REV. (R345) -/
  | keyChangePartTwo
  /-- 600 s after part one, D1 is discarded. (R340) -/
  | keyChangePartOneExpiry
  /-- A class 3 token clears the named BOX_TAMPER_ALARM bits. (R340) -/
  | clearTamperToken
  /-- A class 4 token sets BOX_PRICE_SET. (R340) -/
  | setTariffIndexToken
  /-- A class 5 token consumes its serial with no other effect. (R340) -/
  | testToken
  /-- A tamper input changes after 10 equal samples and the event starts or ends in the log. (R346) -/
  | tamperInputChange (input : Nat) (high : Bool)
  /-- Reverse power on an import-only outlet lasts or ends for 10 s and the reverse-energy event starts or ends. (R346) -/
  | reverseEnergyTimer (set : Nat)
  /-- At the start of I12 the Box office restores credit, window and demand from the journal. (R348) -/
  | boxRestore
  /-- When I03 next becomes present, the Box office posts credit, pending and rate on channel 10. (R343) -/
  | channel10StateReport
  /-- A Tirwa unicast Cue frame is received, acknowledged and forwarded or passed to E1. (R359) -/
  | tirwaCueFrame (fc : Nat) (mac : Bytes)
  /-- An acknowledgement frame ends a unicast exchange with its ACK_STATUS. (R366) -/
  | tirwaAck (fc : Nat)
  /-- A unicast frame gets no good acknowledgement and is retried or dropped after TIR_RETRY_MAX. (R367) -/
  | tirwaAckTimeout
  /-- A preamble is sensed but frame control fails and the node defers. (R366) -/
  | frameControlError
  /-- A node's backoff count reaches zero and it transmits. (R367) -/
  | tirwaBackoffExpiry
  /-- Every TIR_HELLO_S the post sends a hello with its route entries. (R373) -/
  | helloTimer
  /-- A hello updates the neighbour, routes and repeater role. (R370) -/
  | helloReceive (fc : Nat) (mac : Bytes) (viaUs : Bool)
  /-- A route loss or large change sends a hello within 1 s, at most one per second. (R370) -/
  | routeTriggeredHello
  /-- A neighbour unheard for TIR_NEIGH_AGE_S leaves the table and its routes fail. (R368) -/
  | neighbourAgeOut (seat : Nat)
  /-- A route unrefreshed for 480 s expires. (R370) -/
  | routeExpiry (dest : Nat)
  /-- The random relay delay of a flood frame expires and it is relayed unless cancelled. (R371) -/
  | floodRelay (origin count : Nat)
  /-- A beacon segment gives shares, time and the lead, and may make a lead resign. (R379) -/
  | beaconReceive (fc : Nat) (mac : Bytes)
  /-- A claim of lower rank stops this candidate's claiming. (R375) -/
  | claimReceive (fc : Nat) (mac : Bytes)
  /-- No beacon for 2.0 s declares the lead lost and election starts. (R375) -/
  | leadLost
  /-- A candidate's random claim delay expires and it floods a claim. (R375) -/
  | claimSend
  /-- 2.0 s after its claim without hearing lower rank, a candidate becomes lead. (R375) -/
  | electionWin
  /-- The lead takes a join request and answers with a join grant. (R374) -/
  | joinRequest (fc : Nat) (mac : Bytes)
  /-- A join grant gives the post its seat or a refusal. (R374) -/
  | joinGrant (fc : Nat) (mac : Bytes)
  /-- A seat entry without a hello for 600 s is dropped from the lead's table. (R374) -/
  | seatTableAgeOut (seat : Nat)
  /-- Every second in session, and at session end, the post sends a demand report to the lead. (R377) -/
  | demandReportTimer
  /-- The lead takes a demand report, fresh for 3 s. (R377) -/
  | demandReportReceive (fc : Nat) (mac : Bytes)
  /-- At each whole second the lead computes shares and floods them in beacon segments. (R378) -/
  | allocationCycle
  /-- At APPLY_AT an increase of the share takes effect. (R380) -/
  | shareApplyAt
  /-- At APPLY_AT + 1.5 s without a newer share, the share lapses to TIR_SAFE_W. (R380) -/
  | shareLapse
  /-- A sound frame's SNR is measured and a tone-map message is sent within 10 ms. (R363) -/
  | soundFrameReceive (fc : Nat) (snr : List (List Int))
  /-- A tone-map message gives the transmitter a new map generation. (R363) -/
  | toneMapReceive (fc : Nat) (mac : Bytes)
  /-- A map that is old or losing frames is refreshed by a new sound frame. (R365) -/
  | toneMapRefresh (seat : Nat)
  /-- A map 120 s old expires and the link falls back to Robust-4. (R365) -/
  | toneMapExpiry (seat : Nat)
  /-- C1 answers CM_SLAC_PARM.REQ with CM_SLAC_PARM.CNF. (R383) -/
  | cmSlacParmReq (pevMac : Nat)
  /-- C1 starts averaging the sounds of the vehicle. (R383) -/
  | cmStartAttenCharInd (sounds : Nat)
  /-- A sound adds to the average received power of 58 carrier groups. (R383) -/
  | cmMnbcSoundInd (atten : List Nat)
  /-- C1 takes the vehicle's CM_ATTEN_CHAR.RSP. (R383) -/
  | cmAttenCharRsp
  /-- C1 answers CM_SLAC_MATCH.REQ with a new network key, sets it and joins. (R383) -/
  | cmSlacMatchReq
  /-- A write of TIR_TEST_MODE starts a Tirwa test and C0 leaves the house. (R384) -/
  | tirTestMode (r : Req)
  /-- A write of TIR_GP_TEST_MODE starts a Green PHY test unless the pilot is not in state A. (R384) -/
  | tirGpTestMode (r : Req)
  /-- When I10 starts, Tirwa state starts empty and the post sends a hello and asks for its seat. (R385) -/
  | courierStart
  /-- 500 ms without a link make an automatic lane try the other speed. (R391) -/
  | laneSearchTimer (lane : Nat)
  /-- Block lock held 125 µs or auto-negotiation completes and the link is up. (R392) -/
  | laneLinkUp (lane : Nat)
  /-- Loss of lock, LOS or TX fault takes the link down. (R392) -/
  | laneLinkDown (lane : Nat) (fault : Bool) (midFrame : Option Nat)
  /-- 300 ms after SL_MOD_ABSn_N falls, the module ID and diagnostics are read. (R393) -/
  | moduleInsertRead (lane : Nat) (ident a2 : Option Bytes)
  /-- Every 1 s the module diagnostics bytes are read again. (R393) -/
  | moduleA2Poll (lane : Nat) (a2 : Option Bytes)
  /-- A frame on a port is classified, cut through or stored, forwarded, flooded or dropped. (R394) -/
  | switchIngressFrame (port : Nat) (frame : Bytes) (busy full residence : Nat)
  /-- An address entry unused for SL_AGE_S ages out. (R394) -/
  | addressAgeOut (vid mac : Nat)
  /-- Port 4 answers ARP for SL_IP_ADDR. (R401) -/
  | arpRequest (mac ip target : Nat)
  /-- Port 4 answers an ICMP echo. (R401) -/
  | icmpEchoRequest (mac ip target : Nat) (fragment : Bool) (data : Bytes)
  /-- A UDP datagram to port 49320 passes a Cue frame to E2. (R401) -/
  | cueUdpDatagram (port ip udp : Nat) (checksumOk fragment : Bool) (data : Bytes)
  /-- A Sync message updates the offset and the slave's lock state. (R406) -/
  | ptpSyncReceive (offset : Int) (sec ns : Nat)
  /-- 4 s without a Sync unlock the slave. (R406) -/
  | ptpSyncTimeout
  /-- A master-capable clock in master state sends Sync from stage time. (R403) -/
  | ptpSyncSend
  /-- A write of SL_LANEn_PAT_GEN selects a transmitted pattern and clears the counters. (R408) -/
  | slPatternGenWrite (r : Req)
  /-- A write of SL_LANEn_PAT_CHK selects the checker pattern and clears the counters. (R408) -/
  | slPatternChkWrite (r : Req)
  /-- A write of SL_LANEn_LOOPBACK selects a loopback, refused over the same lane. (R409) -/
  | slLoopbackWrite (r : Req)
  /-- Every RDR_POLL_MS the reader switches its field on and seeks cards, judging a card seen twice alone. (R416) -/
  | readerPoll (cards : List (Nat × Bytes))
  /-- A write of RDR_HOST_GRANT grants or refuses the pending card. (R417) -/
  | rdrHostGrant (r : Req)
  /-- RDR_HOST_WAIT_MS passes without a grant and the result is 0x05. (R417) -/
  | hostGrantTimeout
  /-- The SAM's APDU response grants the card on 0x9000 or refuses it. (R417) -/
  | samResponse (sw : Nat)
  /-- A write of RDR_TEST_MODE starts or stops the reader loop test. (R434) -/
  | rdrTestMode (r : Req)
  /-- A reader field powers PD62 and the tag harvester. (R419) -/
  | tagFieldOn
  /-- The field is lost and the tag returns to power-off. (R422) -/
  | tagFieldLoss
  /-- The tag answers REQA with ATQA on the frame-delay grid. (R421) -/
  | reqa
  /-- The tag answers WUPA with ATQA on the frame-delay grid. (R421) -/
  | wupa
  /-- The tag answers anticollision with its UID part. (R420) -/
  | anticollision (level nbits uid : Nat)
  /-- The tag answers SELECT of a cascade level with SAK. (R420) -/
  | selectCascade (level : Nat) (part : Bytes)
  /-- The tag answers RATS with its ATS. (R420) -/
  | rats
  /-- S(DESELECT) puts the tag in HALT. (R422) -/
  | sDeselect
  /-- SELECT of the tag AID enters OPEN and scans the note slots for the next COUNT. (R422) -/
  | selectApplication (aid : Bytes)
  /-- READ IDENTITY returns the post identity and UID. (R423) -/
  | readIdentity
  /-- READ WINDOW returns 16 to 48 bytes of the dark log window. (R423) -/
  | readWindow (index le : Nat) (bad : Bool)
  /-- WRITE NOTE writes a note word if the feed suffices, or returns FIELD_WEAK. (R427) -/
  | writeNote (text : Bytes) (vhMv vrMv : Nat)
  /-- VERIFY PASSWORD compares 8 bytes with TAG_PASSWORD and enters SECURED on match. (R425) -/
  | verifyPassword (pw : Bytes)
  /-- AUTHENTICATE 1 returns the encrypted RndB. (R425) -/
  | authenticate1
  /-- AUTHENTICATE 2 checks RndB′ and returns RndA′ entering SECURED. (R425) -/
  | authenticate2 (data : Bytes)
  /-- GET STATUS returns the tag's state, feed, VH, VR and next COUNT. (R423) -/
  | getStatus (vhMv vrMv : Nat)
  /-- A write of TAG_AES_KEY, TAG_PASSWORD or TAG_AUTH_MODES returns a SECURED tag to OPEN. (R422) -/
  | tagSecurityWrite (r : Req)
  /-- At a tier change, a safety fault or each TAG_PAGE_PERIOD_S, the Stage manager rewrites the status page. (R429) -/
  | statusPageUpdate (cause : Nat)
  /-- A write of 0xC1 to TAG_NOTE_CLEAR writes every note slot to 0. (R435) -/
  | tagNoteClear (r : Req)
  /-- CRDn_PRES_N low for 50 ms starts activation of the module at the first enabled class. (R431) -/
  | cardInsert (slot : Nat)
  /-- An ATR arrives and the slot parses it, negotiates PPS or warm-resets. (R431) -/
  | cardAtr (slot : Nat) (atr : Bytes)
  /-- No ATR within 40,000 clocks deactivates the slot and tries the next class after 10 ms. (R431) -/
  | cardAtrTimeout (slot : Nat)
  /-- CRDn_PRES_N rises and an active module is deactivated within 100 µs. (R432) -/
  | cardRemove (slot : Nat)
  /-- A UART receiver judges a character and stores it with its flags. (R439) -/
  | uartCharacterReceive (u data : Nat) (parityErr framingErr : Bool)
  /-- The receive FIFO falls to the low water mark and XON is sent. (R442) -/
  | xonSend (u : Nat)
  /-- The receive line stays high one character time and an idle-line event closes a tunnel chunk. (R440) -/
  | idleLine (u : Nat)
  /-- A falling edge on SDR_RX in sleep latches and enables RC16. (R446) -/
  | startEdgeWake
  /-- The count of RC16 over 32 XO32K periods ends and RC16 is accepted or characters are flagged. (R447) -/
  | wakeRc16Check (count : Nat)
  /-- SDR_RX held low 100 ms returns U0 to 115,200 bit/s 8N1. (R448) -/
  | breakDetect
  /-- After the reply to an SDR_BAUD or SDR_FORMAT write has been sent, the new settings apply. (R448) -/
  | stageDoorSettingsApply
  /-- Every PMI_PERIOD_MS U1 sends a command frame with ramped limits. (R453) -/
  | pmiCommandFrame
  /-- A valid module reply updates PMI_MEAS and PMI_STATUS. (R454) -/
  | pmiReply (data : Bytes)
  /-- A command without a valid reply within 2 ms counts towards the link loss of three. (R454) -/
  | pmiReplyMissing
  /-- A read of UARTn_RX_DATA returns and removes up to 256 of the oldest bytes. (R455) -/
  | uartRxDataRead (r : Req)
  /-- A write of UARTn_TX_DATA appends all its bytes or returns BUSY. (R455) -/
  | uartTxDataWrite (r : Req)
  /-- A write of UARTn_TEST starts a PRBS15 test and clears its counters. (R456) -/
  | uartTestWrite (r : Req)
  /-- A key's debounced state changes and the event enters the key FIFO. (R457) -/
  | keypadKeyEvent (key : Nat) (down : Bool)
  /-- The Tally reads a key event and acts on token, EMERG, STOP or INFO keys. (R459) -/
  | keypadFifoRead
  /-- A write of DSP_IMAGE sets a new target image. (R471) -/
  | dspImageWrite (r : Req)
  /-- A numeric field's value changes and E1 sets a new target. (R473) -/
  | fieldValueChange
  /-- Every DSP_BLINK_MS the blink set alternates and a new target is set. (R474) -/
  | blinkPhase
  /-- At a frame boundary each segment is judged and the update ends when its longest waveform ends. (R472) -/
  | displayFrameEnd
  /-- The controller reads the panel temperature and chooses the band. (R469) -/
  | displayTempRead
  /-- PD61 switches on, the rails ramp and the clear runs. (R477) -/
  | displayPowerOn
  /-- A rail is late or drops for 1 ms and the update ends with a discharge. (R477) -/
  | railFault (late : Bool)
  /-- The next slot's data is missing at slot end and the Iron discharges the rails. (R476) -/
  | slotDataMissing
  /-- The switch-off request runs the update to its end, a balance frame and the rail discharge. (R478) -/
  | displayPowerOff
  /-- The display has not reported off within 4.5 s and an abrupt discharge is ordered. (R478) -/
  | displayOffTimeout
  /-- The update is cut at the slot boundary and both rail pairs discharge together. (R479) -/
  | abruptDischarge
  /-- The Iron reports the rails discharged and PD61 may switch off. (R478) -/
  | railsDischarged
  /-- Every 60 s in cold hold the controller retries power-on. (R477) -/
  | displayColdRetry
  /-- DSP_FL_HOLD_S after the last INFO press, the frontlight goes off. (R475) -/
  | frontlightHoldExpiry
  /-- A sink cannot reach its current for 10 ms and is switched off and flagged. (R465) -/
  | frontlightSinkFault (sink : Nat)
  /-- At the start of I19 the waveform set is loaded and checked. (R468) -/
  | waveformSetLoad
  /-- A write of WNG_OPEN opens staging of one component. (R487) -/
  | wngOpen (r : Req)
  /-- A write of WNG_CHUNK writes image bytes or applies difference commands. (R487) -/
  | wngChunk (r : Req) (dataBad : Bool)
  /-- A write of WNG_VERIFY starts verification. (R489) -/
  | wngVerify (r : Req)
  /-- Verification ends, passing or failing. (R489) -/
  | verifyComplete (sigOk : Bool)
  /-- A write of WNG_COMMIT copies the active image to bank 7 and commits. (R490) -/
  | wngCommit (r : Req)
  /-- A write of WNG_COMMIT_CRC completes a pending commit of component 0x03 or 0x04. (R490) -/
  | wngCommitCrc (r : Req)
  /-- A write of WNG_CONFIRM ends a trial. (R492) -/
  | wngConfirm (r : Req)
  /-- A write of WNG_ROLLBACK commits bank 7 as the next copy source. (R492) -/
  | wngRollback (r : Req)
  /-- A write of WNG_ABANDON closes an open or verified staging. (R495) -/
  | wngAbandon (r : Req)
  /-- Every WNG_REVERIFY_H hours each active image is hashed again. (R493) -/
  | reverifyTimer
  /-- In tier K, once no frame is being received and SDR_FRAME_TIMEOUT_MS has passed since the last byte, the Stage manager sleeps with RC16 stopped. (R446) -/
  | stageManagerSleep
  /-- The boot ROM's wait of up to 100 ms for VCORE expires and the staged copy is deferred with PW_BOOT_STATUS 0x03. (R108) -/
  | vcoreWaitTimeout
  /-- A SAM stays silent beyond its waiting time during a card judgement, which ends with result 0x04. (R418) -/
  | samWaitingTimeExpiry
  /-- An ISO 15118-3 EVSE time limit expires before a SLAC run reaches step 5, TIR_GP_SLAC_FAILS rises and C1 waits for a new CM_SLAC_PARM.REQ. (R383) -/
  | slacRunTimeout
  /-- The vehicle's session setup request is answered and a SessionID is issued for the high-level session. (R253) -/
  | sessionSetupReq (sid : Nat) (decodable : Bool)
  /-- The vehicle's authorisation request under EIM or PnC is judged, with signature, chain and contract checks giving violations 0x2B and 0x2C. (R253) -/
  | authorizationReq (sid : Nat) (decodable : Bool) (contract : Option (Nat × Nat))
  /-- An Announce message feeds the best master clock algorithm and tells whether the grandmaster announces the PTP timescale. (R406) -/
  | ptpAnnounceReceive (prio1 cls accuracy variance prio2 ident : Nat) (timescale : Bool) (port : Nat)
  /-- SL_MOD_ABSn_N rises, the module is absent and the lane state reads no module. (R412) -/
  | slModuleRemoved (lane : Nat)
  /-- A halt command of ISO/IEC 14443-3 in ACTIVE puts the tag in HALT. (R422) -/
  | tagHalt
deriving DecidableEq, Repr

end Sys2Proof
end

