-- ==== Sys2Proof/Decode.lean ====
section
/-!
DEFINITION. The words of the opcode table. The table gives no row any bits: commands arrive as Cue frames, fabric accesses and
events, and no word spells one.
-/

namespace Sys2Proof

/-- The command that a word of the table spells: none, since no row of spec/opcode_table.json has bits. -/
def decodeTableWord (_nbits _w : Nat) : Option Instr := none

end Sys2Proof
end

