-- ==== Sys2Proof/Machine/Bits.lean ====
section
/-!
DEFINITION. Bit fields, byte order, checksums and byte stuffing (spec/00_scope.md R4, R5; spec/04_power_and_start.md
R107; spec/07_object_dictionary.md R168, R186).
-/

namespace Sys2Proof.Machine

/-- Bits [hi:lo] of a value (R4). -/
def bits (n hi lo : Nat) : Nat := n / 2 ^ lo % 2 ^ (hi + 1 - lo)

/-- A value with bits [hi:lo] replaced. -/
def setBits (n hi lo v : Nat) : Nat :=
  n - bits n hi lo * 2 ^ lo + v % 2 ^ (hi + 1 - lo) * 2 ^ lo

/-- Bit `i` of a value. -/
def bitOf (n i : Nat) : Bool := n / 2 ^ i % 2 == 1

/-- A value with bit `i` set as given. -/
def setBit (n i : Nat) (b : Bool) : Nat := setBits n i i (if b then 1 else 0)

/-- A Boolean as a bit. -/
def ofBool (b : Bool) : Nat := if b then 1 else 0

/-- The `k` bytes of a value, least significant first (R5). -/
def toBytes : Nat → Nat → Bytes
  | 0, _ => []
  | k + 1, n => n % 256 :: toBytes k (n / 256)

/-- The value of bytes, least significant first (R5). -/
def ofBytes : Bytes → Nat
  | [] => 0
  | b :: t => b % 256 + 256 * ofBytes t

/-- The `k` bytes of a value, most significant first (published formats, R5). -/
def toBytesBE (k n : Nat) : Bytes := (toBytes k n).reverse

/-- The value of bytes, most significant first. -/
def ofBytesBE (l : Bytes) : Nat := ofBytes l.reverse

/-- Bytes padded with zeros at the end, or cut, to `k`. -/
def padTo (k : Nat) (l : Bytes) : Bytes := (l ++ List.replicate (k - l.length) 0).take k

/-- `n` bytes of `l` from offset `o`. -/
def slice (l : Bytes) (o n : Nat) : Bytes := (l.drop o).take n

/-- Bytes packed into 128-bit words, the last padded with zeros (R182). -/
def toWords (l : Bytes) : List Nat :=
  (List.range ((l.length + 15) / 16)).map fun i => ofBytes (slice l (16 * i) 16)

/-- The bytes of 128-bit words. -/
def ofWords (ws : List Nat) : Bytes := ws.flatMap (toBytes 16)

/-- Element `i` of a list replaced; the list unchanged where it has none. -/
def setAt {α : Type} (l : List α) (i : Nat) (x : α) : List α := l.set i x

/-- One bit shifted into a CRC that shifts left. -/
def crcStep (w poly c : Nat) : Nat → Nat
  | 0 => c
  | k + 1 =>
    let c' := if c / 2 ^ (w - 1) % 2 = 1 then (2 * c % 2 ^ w) ^^^ poly else 2 * c % 2 ^ w
    crcStep w poly c' k

/-- A CRC of width `w` without reflection, from `init` (R168, R107). -/
def crcLeft (w poly init : Nat) (l : Bytes) : Nat :=
  l.foldl (fun c b => crcStep w poly (c ^^^ (b % 256 * 2 ^ (w - 8))) 8) init

/-- One bit shifted out of a reflected CRC. -/
def crcStepR (poly c : Nat) : Nat → Nat
  | 0 => c
  | k + 1 => crcStepR poly (if c % 2 = 1 then (c / 2) ^^^ poly else c / 2) k

/-- The CRC-16 of the stage door port (R168). -/
def crc16 (l : Bytes) : Nat := crcLeft 16 0x1021 0xFFFF l

/-- The CRC-8 of R107 and R264. -/
def crc8 (l : Bytes) : Nat := crcLeft 8 0x07 0 l

/-- The CRC_A of ISO/IEC 14443-3. -/
def crcA (l : Bytes) : Nat := l.foldl (fun c b => crcStepR 0x8408 (c ^^^ b % 256) 8) 0x6363

/-- The CRC-32 of IEEE 802.3 (R186): polynomial 0x04C1_1DB7 reflected, initial and final inversion. -/
def crc32 (l : Bytes) : Nat :=
  (l.foldl (fun c b => crcStepR 0xEDB88320 (c ^^^ b % 256) 8) 0xFFFFFFFF) ^^^ 0xFFFFFFFF

/-- COBS encoding (R167): `run` is the group in progress, newest byte first. -/
def cobsGo : Bytes → Bytes → Bytes
  | run, [] => (run.length + 1) :: run.reverse
  | run, b :: t =>
    if b = 0 then ((run.length + 1) :: run.reverse) ++ cobsGo [] t
    else if run.length = 253 then (255 :: (b :: run).reverse) ++ (if t = [] then [] else cobsGo [] t)
    else cobsGo (b :: run) t

/-- COBS encoding of a frame, without the delimiter. -/
def cobsEncode (l : Bytes) : Bytes := cobsGo [] l

/-- COBS decoding: `fuel` bounds the number of groups; none for a stuffing that no encoder makes. -/
def cobsDecodeGo : Nat → Bytes → Option Bytes
  | 0, _ => none
  | _ + 1, [] => some []
  | k + 1, c :: t =>
    if c = 0 then none
    else if t.length + 1 < c then none
    else
      let grp := t.take (c - 1)
      let rest := t.drop (c - 1)
      if grp.contains 0 then none
      else
        match cobsDecodeGo k rest with
        | none => none
        | some d => some (grp ++ (if c < 255 ∧ rest ≠ [] then [0] else []) ++ d)

/-- COBS decoding of the bytes between two delimiters. -/
def cobsDecode (l : Bytes) : Option Bytes :=
  if l = [] then none else cobsDecodeGo (l.length + 1) l

end Sys2Proof.Machine
end

