-- ==== Sys2Proof/Machine/Crypto.lean ====
section
/-!
DEFINITION. The published algorithms the manual cites: AES-128 (FIPS 197), AES-CMAC (NIST SP 800-38B), FF1
(NIST SP 800-38G) and SHA-256 (FIPS 180-4); spec/00_scope.md R18. Their tables and steps are those of the
standards (PRESUMED, notes/assumptions/4.md).
-/

namespace Sys2Proof.Machine

/-- Multiplication by x in the field of AES. -/
def gfDouble (a : Nat) : Nat := if a < 128 then 2 * a else (2 * a - 256) ^^^ 0x1B

/-- Multiplication in the field of AES, over the lowest `k` bits of `b`. -/
def gfMul : Nat → Nat → Nat → Nat
  | 0, _, _ => 0
  | k + 1, a, b => (if b % 2 = 1 then a else 0) ^^^ gfMul k (gfDouble a) (b / 2)

/-- The forward substitution table of FIPS 197, entry i in byte i. -/
def sboxTable : Nat :=
  0x16BB54B00F2D99416842E6BF0D89A18CDF2855CEE9871E9B948ED9691198F8E19E1DC186B95735610EF6034866B53E708A8BBD4B1F74DDE8C6B4A61C2E2578BA08AE7A65EAF4566CA94ED58D6D37C8E779E4959162ACD3C25C2406490A3A32E0DB0B5EDE14B8EE4688902A22DC4F816073195D643D7EA7C41744975FEC130CCDD2F3FF1021DAB6BCF5389D928F40A351A89F3C507F02F94585334D43FBAAEFD0CF584C4A39BECB6A5BB1FC20ED00D153842FE329B3D63B52A05A6E1B1A2C830975B227EBE28012079A059618C323C7041531D871F1E5A534CCF73F362693FDB7C072A49CAFA2D4ADF04759FA7DC982CA76ABD7FE2B670130C56F6BF27B777C63

/-- The inverse substitution table of FIPS 197. -/
def invSboxTable : Nat :=
  0x7D0C2155631469E126D677BA7E042B17619953833CBBEBC8B0F52AAE4D3BE0A0EF9CC9939F7AE52D0D4AB519A97F51605FEC8027591012B131C7078833A8DD1FF45ACD78FEC0DB9A2079D2C64B3E56FC1BBE18AA0E62B76F89C5291D711AF1476EDF751CE837F9E28535ADE72274AC9673E6B4F0CECFF297EADC674F4111913A6B8A130103BDAFC1020F3FCA8F1E2CD00645B3B80558E4F70AD3BC8C00ABD890849D8DA75746155EDAB9EDFD5048706C92B6655DCC5CA4D41698688664F6F87225D18B6D49A25B76B224D92866A12E084EC3FA420B954CEE3D23C2A632947B54CBE9DEC444438E3487FF2F9B8239E37CFBD7F3819EA340BF38A53630D56A0952

/-- One byte substituted. -/
def subByte (b : Nat) : Nat := sboxTable / 256 ^ b % 256

/-- One byte substituted back. -/
def invSubByte (b : Nat) : Nat := invSboxTable / 256 ^ b % 256

/-- Byte-wise exclusive or. -/
def xorBytes (a b : Bytes) : Bytes := List.zipWith (fun x y => x ^^^ y) a b

/-- The next round key from the last one. -/
def nextRoundKey (rc : Nat) (k : Bytes) : Bytes :=
  let g (i : Nat) : Nat := k.getD i 0
  let w0 := [g 0 ^^^ subByte (g 13) ^^^ rc, g 1 ^^^ subByte (g 14), g 2 ^^^ subByte (g 15), g 3 ^^^ subByte (g 12)]
  let w1 := xorBytes w0 [g 4, g 5, g 6, g 7]
  let w2 := xorBytes w1 [g 8, g 9, g 10, g 11]
  let w3 := xorBytes w2 [g 12, g 13, g 14, g 15]
  w0 ++ w1 ++ w2 ++ w3

/-- The round keys from the first, one per round constant. -/
def expandKey : List Nat → Bytes → List Bytes
  | [], k => [k]
  | rc :: t, k => k :: expandKey t (nextRoundKey rc k)

/-- The ten round constants of AES-128. -/
def roundConstants : List Nat := [1, 2, 4, 8, 16, 32, 64, 128, 27, 54]

/-- Rows shifted: output byte i takes the input byte named. -/
def shiftRows (b : Bytes) : Bytes :=
  [0, 5, 10, 15, 4, 9, 14, 3, 8, 13, 2, 7, 12, 1, 6, 11].map fun i => b.getD i 0

/-- Rows shifted back. -/
def invShiftRows (b : Bytes) : Bytes :=
  [0, 13, 10, 7, 4, 1, 14, 11, 8, 5, 2, 15, 12, 9, 6, 3].map fun i => b.getD i 0

/-- One column mixed with the four coefficients of its first row. -/
def mixColumn (c0 c1 c2 c3 : Nat) (b : Bytes) : Bytes :=
  let m (c x : Nat) : Nat := gfMul 4 x c
  let g (i : Nat) : Nat := b.getD i 0
  [m c0 (g 0) ^^^ m c1 (g 1) ^^^ m c2 (g 2) ^^^ m c3 (g 3),
   m c3 (g 0) ^^^ m c0 (g 1) ^^^ m c1 (g 2) ^^^ m c2 (g 3),
   m c2 (g 0) ^^^ m c3 (g 1) ^^^ m c0 (g 2) ^^^ m c1 (g 3),
   m c1 (g 0) ^^^ m c2 (g 1) ^^^ m c3 (g 2) ^^^ m c0 (g 3)]

/-- The four columns mixed. -/
def mixColumns (c0 c1 c2 c3 : Nat) (b : Bytes) : Bytes :=
  [0, 4, 8, 12].flatMap fun o => mixColumn c0 c1 c2 c3 (slice b o 4)

/-- The rounds after the first key addition. -/
def aesRounds : List Bytes → Bytes → Bytes
  | [], st => st
  | [k], st => xorBytes (shiftRows (st.map subByte)) k
  | k :: t, st => aesRounds t (xorBytes (mixColumns 2 3 1 1 (shiftRows (st.map subByte))) k)

/-- AES-128 encryption of one block of 16 bytes. -/
def aesEncrypt (key block : Bytes) : Bytes :=
  match expandKey roundConstants (padTo 16 key) with
  | [] => block
  | k :: t => aesRounds t (xorBytes (padTo 16 block) k)

/-- The inverse rounds, over the round keys from the last. -/
def aesInvRounds : List Bytes → Bytes → Bytes
  | [], st => st
  | [k], st => xorBytes ((invShiftRows st).map invSubByte) k
  | k :: t, st => aesInvRounds t (mixColumns 14 11 13 9 (xorBytes ((invShiftRows st).map invSubByte) k))

/-- AES-128 decryption of one block of 16 bytes. -/
def aesDecrypt (key block : Bytes) : Bytes :=
  match (expandKey roundConstants (padTo 16 key)).reverse with
  | [] => block
  | k :: t => aesInvRounds t (xorBytes (padTo 16 block) k)

/-- A CMAC subkey from the one before it (SP 800-38B). -/
def cmacSubkey (l : Bytes) : Bytes :=
  let n := ofBytesBE l
  toBytesBE 16 ((2 * n % 2 ^ 128) ^^^ (if n < 2 ^ 127 then 0 else 0x87))

/-- The CBC chain of CMAC over whole blocks, then the last block already masked. -/
def cmacChain (key : Bytes) : List Bytes → Bytes → Bytes
  | [], x => x
  | b :: t, x => cmacChain key t (aesEncrypt key (xorBytes x b))

/-- AES-CMAC, 16 bytes. -/
def aesCmac (key msg : Bytes) : Bytes :=
  let k1 := cmacSubkey (aesEncrypt key (List.replicate 16 0))
  let n := (msg.length - 1) / 16
  let head := (List.range n).map fun i => slice msg (16 * i) 16
  let last := msg.drop (16 * n)
  let masked := if last.length = 16 then xorBytes last k1 else xorBytes (padTo 16 (last ++ [0x80])) (cmacSubkey k1)
  cmacChain key (head ++ [masked]) (List.replicate 16 0)

/-- The number a digit string spells in radix 10, most significant digit first. -/
def ofDigits (l : List Nat) : Nat := l.foldl (fun a d => 10 * a + d) 0

/-- `k` digits of a number in radix 10, most significant first. -/
def toDigits : Nat → Nat → List Nat
  | 0, _ => []
  | k + 1, n => toDigits k (n / 10) ++ [n % 10]

/-- The round function value of FF1 for numbers of `b` bytes and a tweak, radix 10 (SP 800-38G, algorithm 7, step 6). -/
def ff1Round (key tweak : Bytes) (n u b d i : Nat) (bnum : Nat) : Nat :=
  let p := [1, 2, 1, 0, 0, 10, 10, u % 256] ++ toBytesBE 4 n ++ toBytesBE 4 tweak.length
  let q := tweak ++ List.replicate ((16 * 4096 - tweak.length - b - 1) % 16) 0 ++ [i] ++ toBytesBE b bnum
  let blocks := (List.range (q.length / 16)).map fun j => slice q (16 * j) 16
  let r := cmacChain key (p :: blocks) (List.replicate 16 0)
  ofBytesBE (r.take d)

/-- The ten rounds of FF1 encryption on the halves (A, B) of `u` and `v` digits. -/
def ff1Enc (key tweak : Bytes) (n u v b d : Nat) : List Nat → Nat → Nat → Nat × Nat
  | [], a, c => (a, c)
  | i :: t, a, c =>
    let m := if i % 2 = 0 then u else v
    ff1Enc key tweak n u v b d t c ((a + ff1Round key tweak n u b d i c) % 10 ^ m)

/-- The ten rounds of FF1 decryption on the halves. -/
def ff1Dec (key tweak : Bytes) (n u v b d : Nat) : List Nat → Nat → Nat → Nat × Nat
  | [], a, c => (a, c)
  | i :: t, a, c =>
    let m := if i % 2 = 0 then u else v
    let y := ff1Round key tweak n u b d i a % 10 ^ m
    ff1Dec key tweak n u v b d t ((c + 10 ^ m - y) % 10 ^ m) a

/-- The byte length of FF1's second half: ceil(ceil(v·log2 10)/8), by the size of 10^v − 1. -/
def ff1HalfBytes (v : Nat) : Nat := (Nat.log2 (10 ^ v - 1) + 1 + 7) / 8

/-- FF1 decryption of a string of decimal digits. -/
def ff1Decrypt (key tweak : Bytes) (x : List Nat) : List Nat :=
  let n := x.length
  let u := n / 2
  let v := n - u
  let b := ff1HalfBytes v
  let d := 4 * ((b + 3) / 4) + 4
  let r := ff1Dec key tweak n u v b d [9, 8, 7, 6, 5, 4, 3, 2, 1, 0] (ofDigits (x.take u)) (ofDigits (x.drop u))
  toDigits u r.1 ++ toDigits v r.2

/-- FF1 encryption of a string of decimal digits. -/
def ff1Encrypt (key tweak : Bytes) (x : List Nat) : List Nat :=
  let n := x.length
  let u := n / 2
  let v := n - u
  let b := ff1HalfBytes v
  let d := 4 * ((b + 3) / 4) + 4
  let r := ff1Enc key tweak n u v b d [0, 1, 2, 3, 4, 5, 6, 7, 8, 9] (ofDigits (x.take u)) (ofDigits (x.drop u))
  toDigits u r.1 ++ toDigits v r.2

/-- The primes below 312, the first 64: no other prime up to 17 divides them. -/
def shaPrimes : List Nat := (List.range 312).filter fun n => decide (2 ≤ n) && [2, 3, 5, 7, 11, 13, 17].all fun d => n == d || !(n % d == 0)

/-- The highest number of which the `e`-th power is at most `n`, found bit by bit from bit `k - 1` on top of `r`. -/
def rootBelow (e n : Nat) : Nat → Nat → Nat
  | 0, r => r
  | k + 1, r => rootBelow e n k (if (r + 2 ^ k) ^ e ≤ n then r + 2 ^ k else r)

/-- The first 32 bits of the fractional part of the `e`-th root of `p`, as FIPS 180-4 defines the words of SHA-256. -/
def rootFraction (e p : Nat) : Nat := rootBelow e (p * 2 ^ (32 * e)) 36 0 % 2 ^ 32

/-- The constants of SHA-256: from the cube roots of the first 64 primes. -/
def shaConstants : List Nat := shaPrimes.map (rootFraction 3)

/-- The initial hash value of SHA-256: from the square roots of the first eight primes. -/
def shaInitial : List Nat := (shaPrimes.take 8).map (rootFraction 2)

/-- Rotation right of 32 bits. -/
def rotr32 (k x : Nat) : Nat := x / 2 ^ k + x % 2 ^ k * 2 ^ (32 - k)

/-- The message schedule of SHA-256, newest word first, `k` words still to make. -/
def shaSchedule : Nat → List Nat → List Nat
  | 0, w => w
  | k + 1, w =>
    let x := w.getD 1 0
    let y := w.getD 14 0
    let s1 := rotr32 17 x ^^^ rotr32 19 x ^^^ x / 1024
    let s0 := rotr32 7 y ^^^ rotr32 18 y ^^^ y / 8
    shaSchedule k ((s1 + w.getD 6 0 + s0 + w.getD 15 0) % 2 ^ 32 :: w)

/-- The eight working words of SHA-256. -/
structure ShaWords where
  a : Nat
  b : Nat
  c : Nat
  d : Nat
  e : Nat
  f : Nat
  g : Nat
  h : Nat
deriving DecidableEq, Repr

/-- Working words from a list. -/
def ShaWords.ofList (l : List Nat) : ShaWords :=
  let w (i : Nat) : Nat := l.getD i 0
  ⟨w 0, w 1, w 2, w 3, w 4, w 5, w 6, w 7⟩

/-- One round of SHA-256 with the constant and the message word added. -/
def shaRound (s : ShaWords) (kw : Nat) : ShaWords :=
  let s1 := rotr32 6 s.e ^^^ rotr32 11 s.e ^^^ rotr32 25 s.e
  let ch := (s.e &&& s.f) ^^^ ((2 ^ 32 - 1 - s.e) &&& s.g)
  let t1 := s.h + s1 + ch + kw
  let s0 := rotr32 2 s.a ^^^ rotr32 13 s.a ^^^ rotr32 22 s.a
  let mj := (s.a &&& s.b) ^^^ (s.a &&& s.c) ^^^ (s.b &&& s.c)
  ⟨(t1 + s0 + mj) % 2 ^ 32, s.a, s.b, s.c, (s.d + t1) % 2 ^ 32, s.e, s.f, s.g⟩

/-- One block of 64 bytes hashed in. -/
def shaBlock (s : ShaWords) (b : Bytes) : ShaWords :=
  let w0 := ((List.range 16).map fun i => ofBytesBE (slice b (4 * i) 4)).reverse
  let w := (shaSchedule 48 w0).reverse
  let r := (List.zipWith (· + ·) shaConstants w).foldl shaRound s
  ⟨(s.a + r.a) % 2 ^ 32, (s.b + r.b) % 2 ^ 32, (s.c + r.c) % 2 ^ 32, (s.d + r.d) % 2 ^ 32,
   (s.e + r.e) % 2 ^ 32, (s.f + r.f) % 2 ^ 32, (s.g + r.g) % 2 ^ 32, (s.h + r.h) % 2 ^ 32⟩

/-- SHA-256 of a message, 32 bytes. -/
def sha256 (m : Bytes) : Bytes :=
  let p := m ++ [0x80] ++ List.replicate ((119 - m.length % 64) % 64) 0 ++ toBytesBE 8 (8 * m.length)
  let s := ((List.range (p.length / 64)).map fun i => slice p (64 * i) 64).foldl shaBlock
    (ShaWords.ofList shaInitial)
  [s.a, s.b, s.c, s.d, s.e, s.f, s.g, s.h].flatMap (toBytesBE 4)

end Sys2Proof.Machine
end

