-- ==== Sys2Proof/Config.lean ====
section
/-!
DEFINITION. What one machine fixes for good, and the free values: every value the spec leaves open after an
operation that goes on (notes/assumptions/1.md). A free value has no body, so nothing can be proved of it.
-/

namespace Sys2Proof.Config

/-- The free values of a run, in the order in which the machine draws them: the entropy of the TRNG, the random
delays of the networks, and every result the spec does not state. The state holds how many were drawn. -/
opaque freeValue : Nat → BitVec 256

/-- What a report that the post measures by itself reads, by object and time: no command carries these values
(notes/assumptions/2.md). -/
opaque measured : Nat → Nat → BitVec 256

/-- The check bits that the extended Hamming code of the MRAM gives a word (R139): the manual does not lay out the code. -/
opaque checkBits : BitVec 128 → BitVec 9

/-- The post's lowest DC voltage in V and current in A, below which a vehicle's maximum is inconsistent (R253, 0x27): the manual gives
neither (notes/assumptions/49.md). -/
opaque dcMinimum : Nat × Nat

end Sys2Proof.Config
end

