-- ==== Sys2Proof/Machine/Catalogue.lean ====
section
/-!
DEFINITION. The object dictionary as data: one row per row of the manual's object tables, with its PID, home island,
register offset, type, mark, level, default, what it holds after its island was off, and the limits of its Meaning
that concern it alone (spec/00_scope.md R10 to R14 and the object tables each row's comment names).
-/

namespace Sys2Proof.Machine

/-! ### Parameter identifiers by the manual's names (indices dropped from the name become arguments). -/

/-- SMG_HOUSE_ID (R35). -/
abbrev P.smgHouseId : Nat := 0x100000
/-- SMG_SEAT (R35). -/
abbrev P.smgSeat : Nat := 0x100001
/-- SMG_HOST_SEAT (R35). -/
abbrev P.smgHostSeat : Nat := 0x100002
/-- SMG_ROLE (R35). -/
abbrev P.smgRole : Nat := 0x100003
/-- SMG_TIER (R35). -/
abbrev P.smgTier : Nat := 0x100004
/-- SMG_BATON_HOLDER (R35). -/
abbrev P.smgBatonHolder : Nat := 0x101000
/-- SMG_BATON_TIMEOUT (R35). -/
abbrev P.smgBatonTimeout : Nat := 0x101001
/-- SMG_BATON_SEIZES (R35). -/
abbrev P.smgBatonSeizes : Nat := 0x101002
/-- SMG_LAST_MAIN (R35). -/
abbrev P.smgLastMain : Nat := 0x101003
/-- SMG_LAST_SIDE (R35). -/
abbrev P.smgLastSide : Nat := 0x101004
/-- PW_ISLAND_STATE (R60). -/
abbrev P.pwIslandState : Nat := 0x208000
/-- PW_FAB_REQ_TIMEOUT (R60). -/
abbrev P.pwFabReqTimeout : Nat := 0x208001
/-- PW_FAB_RSP_TIMEOUT (R60). -/
abbrev P.pwFabRspTimeout : Nat := 0x208002
/-- PW_FAB_ABORTS_In (R60). -/
abbrev P.pwFabAborts (n : Nat) : Nat := 0x208100 + 1 * n
/-- PW_FAB_BUS_ERRORS (R60). -/
abbrev P.pwFabBusErrors : Nat := 0x208200
/-- PW_FAB_EVENT_DROPS (R60). -/
abbrev P.pwFabEventDrops : Nat := 0x208201
/-- PW_FAB_RSP_DROPS (R60). -/
abbrev P.pwFabRspDrops : Nat := 0x208202
/-- PW_FAB_LAST_FAULT (R60). -/
abbrev P.pwFabLastFault : Nat := 0x208203
/-- CK_SRC_STATUS (R86). -/
abbrev P.ckSrcStatus : Nat := 0x204000
/-- CK_JUDGE_WINj (R86). -/
abbrev P.ckJudgeWin (n : Nat) : Nat := 0x204100 + 1 * n
/-- CK_JUDGE_TOLj (R86). -/
abbrev P.ckJudgeTol (n : Nat) : Nat := 0x204200 + 1 * n
/-- CK_JUDGE_Kj (R86). -/
abbrev P.ckJudgeK (n : Nat) : Nat := 0x204300 + 1 * n
/-- CK_JUDGE_LIMITj (R86). -/
abbrev P.ckJudgeLimit (n : Nat) : Nat := 0x204400 + 1 * n
/-- CK_RC16_TRIM (R86). -/
abbrev P.ckRc16Trim : Nat := 0x204500
/-- CK_RC16_ERROR (R86). -/
abbrev P.ckRc16Error : Nat := 0x204501
/-- CK_RC16_RETRIM (R86). -/
abbrev P.ckRc16Retrim : Nat := 0x204502
/-- CK_ISLAND_SEL (R86). -/
abbrev P.ckIslandSel : Nat := 0x204600
/-- CK_FORCE_EN (R86). -/
abbrev P.ckForceEn : Nat := 0x204601
/-- CK_HANG_TIMEOUT (R86). -/
abbrev P.ckHangTimeout : Nat := 0x204602
/-- CK_FORCE_NOW (R86). -/
abbrev P.ckForceNow : Nat := 0x204603
/-- CK_HUNG (R86). -/
abbrev P.ckHung : Nat := 0x204604
/-- CK_FORCED_COUNT (R86). -/
abbrev P.ckForcedCount : Nat := 0x204700
/-- CK_LAST_FORCED (R86). -/
abbrev P.ckLastForced : Nat := 0x204701
/-- CK_MON_DEAD (R86). -/
abbrev P.ckMonDead : Nat := 0x204800
/-- CK_PLLA_MHZ (R86). -/
abbrev P.ckPllaMhz : Nat := 0x204801
/-- CK_PLLA_ACTUAL (R86). -/
abbrev P.ckPllaActual : Nat := 0x204802
/-- CK_OBS_SEL (R86). -/
abbrev P.ckObsSel : Nat := 0x204803
/-- CK_IRC8_PPM (R86). -/
abbrev P.ckIrc8Ppm : Nat := 0x204804
/-- PW_TIER_REQ (R116). -/
abbrev P.pwTierReq : Nat := 0x200000
/-- PW_BOOT_STATUS (R116). -/
abbrev P.pwBootStatus : Nat := 0x200001
/-- PW_START_COUNT (R116). -/
abbrev P.pwStartCount : Nat := 0x200002
/-- PW_DOMAIN_STATE (R116). -/
abbrev P.pwDomainState : Nat := 0x200100
/-- PW_RETAIN_EN (R116). -/
abbrev P.pwRetainEn : Nat := 0x200101
/-- PW_RESET_CAUSE (R116). -/
abbrev P.pwResetCause : Nat := 0x200200
/-- PW_RESET_REQ (R116). -/
abbrev P.pwResetReq : Nat := 0x200201
/-- PW_VSUP_MV (R116). -/
abbrev P.pwVsupMv : Nat := 0x200300
/-- PW_VAON_MV (R116). -/
abbrev P.pwVaonMv : Nat := 0x200301
/-- PW_VCORE_MV (R116). -/
abbrev P.pwVcoreMv : Nat := 0x200302
/-- PW_LAST_HOLDUP (R116). -/
abbrev P.pwLastHoldup : Nat := 0x200303
/-- PW_VAON_MIN_MV (R116). -/
abbrev P.pwVaonMinMv : Nat := 0x200304
/-- PW_TJ (R116). -/
abbrev P.pwTj : Nat := 0x200400
/-- PW_THERM_T1 (R116). -/
abbrev P.pwThermT1 : Nat := 0x200401
/-- PW_THERM_T2 (R116). -/
abbrev P.pwThermT2 : Nat := 0x200402
/-- PW_THERM_T3 (R116). -/
abbrev P.pwThermT3 : Nat := 0x200403
/-- PW_THERM_HYST (R116). -/
abbrev P.pwThermHyst : Nat := 0x200404
/-- PW_THERM_LEVEL (R116). -/
abbrev P.pwThermLevel : Nat := 0x200405
/-- PW_THERM_EVENTS (R116). -/
abbrev P.pwThermEvents : Nat := 0x200406
/-- PW_DARK_SRC (R116). -/
abbrev P.pwDarkSrc : Nat := 0x200500
/-- CBD_STATUSn (R133). -/
abbrev P.cbdStatus (n : Nat) : Nat := 0x20C000 + 1 * n
/-- CBD_PEEKn (R133). -/
abbrev P.cbdPeek (n : Nat) : Nat := 0x20C100 + 1 * n
/-- CBD_CONFIGn (R133). -/
abbrev P.cbdConfig (n : Nat) : Nat := 0x20C200 + 1 * n
/-- CBD_PENDING (R133). -/
abbrev P.cbdPending : Nat := 0x20C300
/-- CBD_RESULT_NEW (R133). -/
abbrev P.cbdResultNew : Nat := 0x20C301
/-- CBD_REFUSED (R133). -/
abbrev P.cbdRefused : Nat := 0x20C302
/-- CBD_ABORTED (R133). -/
abbrev P.cbdAborted : Nat := 0x20C303
/-- CBD_RETRACTIONS (R133). -/
abbrev P.cbdRetractions : Nat := 0x20C304
/-- PBK_SCRUB_HOURS (R164). -/
abbrev P.pbkScrubHours : Nat := 0xD02000
/-- PBK_SCRUB_POS (R164). -/
abbrev P.pbkScrubPos : Nat := 0xD02001
/-- PBK_SCRUB_PASSES (R164). -/
abbrev P.pbkScrubPasses : Nat := 0xD02002
/-- PBK_CELL_CORR (R164). -/
abbrev P.pbkCellCorr : Nat := 0xD02100
/-- PBK_STUCK_CELLS (R164). -/
abbrev P.pbkStuckCells : Nat := 0xD02101
/-- PBK_COLUMN_FAULTS (R164). -/
abbrev P.pbkColumnFaults : Nat := 0xD02102
/-- PBK_UNCORR (R164). -/
abbrev P.pbkUncorr : Nat := 0xD02103
/-- PBK_LAST_MRAM_FAULT (R164). -/
abbrev P.pbkLastMramFault : Nat := 0xD02104
/-- PBK_SPARES_FREEb (R164). -/
abbrev P.pbkSparesFree (n : Nat) : Nat := 0xD02200 + 1 * n
/-- PBK_BANK_CMD (R164). -/
abbrev P.pbkBankCmd : Nat := 0xD02300
/-- PBK_BANK_CMD_STATUS (R164). -/
abbrev P.pbkBankCmdStatus : Nat := 0xD02301
/-- PBK_SEQ_NEXT (R164). -/
abbrev P.pbkSeqNext : Nat := 0xD02400
/-- PBK_LIVE_HALF (R164). -/
abbrev P.pbkLiveHalf : Nat := 0xD02401
/-- PBK_FILL (R164). -/
abbrev P.pbkFill : Nat := 0xD02402
/-- PBK_COMPACT_PCT (R164). -/
abbrev P.pbkCompactPct : Nat := 0xD02403
/-- PBK_COMPACTIONS (R164). -/
abbrev P.pbkCompactions : Nat := 0xD02404
/-- PBK_RECOVERY_STATUS (R164). -/
abbrev P.pbkRecoveryStatus : Nat := 0xD02405
/-- PBK_RECOVERY_US (R164). -/
abbrev P.pbkRecoveryUs : Nat := 0xD02406
/-- PBK_RATE_LIMIT (R164). -/
abbrev P.pbkRateLimit : Nat := 0xD02407
/-- PBK_RATE_REFUSALS (R164). -/
abbrev P.pbkRateRefusals : Nat := 0xD02408
/-- SMG_CUE_EPOCH (R193). -/
abbrev P.smgCueEpoch : Nat := 0x102000
/-- SMG_CUE_NOTIFY_PORT (R193). -/
abbrev P.smgCueNotifyPort : Nat := 0x102001
/-- SMG_CUE_CONFIRM_TIMEOUT (R193). -/
abbrev P.smgCueConfirmTimeout : Nat := 0x102002
/-- SMG_CUE_PENDING_PID (R193). -/
abbrev P.smgCuePendingPid : Nat := 0x102003
/-- SMG_CUE_PENDING_CRC (R193). -/
abbrev P.smgCuePendingCrc : Nat := 0x102004
/-- SMG_CUE_REQUESTS (R193). -/
abbrev P.smgCueRequests : Nat := 0x102005
/-- SMG_CUE_AUTH_FAILS (R193). -/
abbrev P.smgCueAuthFails : Nat := 0x102006
/-- SMG_CUE_DISCARDS (R193). -/
abbrev P.smgCueDiscards : Nat := 0x102007
/-- SMG_CUE_SUBS_USED (R193). -/
abbrev P.smgCueSubsUsed : Nat := 0x102008
/-- SMG_CUE_KEY0 to SMG_CUE_KEY2 (R193). -/
abbrev P.smgCueKey (n : Nat) : Nat := 0x102100 + 1 * n
/-- SMG_CUE_KEY3 (R193). -/
abbrev P.smgCueKey3 : Nat := 0x102103
/-- IRN_SAFE_STATE (R228). -/
abbrev P.irnSafeState : Nat := 0x300000
/-- IRN_SI_STATE (R228). -/
abbrev P.irnSiState : Nat := 0x300001
/-- IRN_FAULTS (R228). -/
abbrev P.irnFaults : Nat := 0x300002
/-- IRN_PROMPT_FAILS (R228). -/
abbrev P.irnPromptFails : Nat := 0x300003
/-- IRN_TEMP (R228). -/
abbrev P.irnTemp : Nat := 0x300004
/-- WDN_SPEED (R228). -/
abbrev P.wdnSpeed : Nat := 0x300100
/-- WDN_BRAKE_LAST (R228). -/
abbrev P.wdnBrakeLast : Nat := 0x300101
/-- WDN_SIn_ROLE (R228). -/
abbrev P.wdnSiRole (n : Nat) : Nat := 0x301000 + 256 * n
/-- WDN_SIn_PAIRING (R228). -/
abbrev P.wdnSiPairing (n : Nat) : Nat := 0x301001 + 256 * n
/-- WDN_SIn_DISC_MS (R228). -/
abbrev P.wdnSiDiscMs (n : Nat) : Nat := 0x301002 + 256 * n
/-- WDN_SIn_FILTER (R228). -/
abbrev P.wdnSiFilter (n : Nat) : Nat := 0x301003 + 256 * n
/-- WDN_SIn_TEST (R228). -/
abbrev P.wdnSiTest (n : Nat) : Nat := 0x301004 + 256 * n
/-- WDN_SIn_TARGET (R228). -/
abbrev P.wdnSiTarget (n : Nat) : Nat := 0x301005 + 256 * n
/-- WDN_SOp_DARK (R228). -/
abbrev P.wdnSoDark (n : Nat) : Nat := 0x302000 + 256 * n
/-- WDN_SOp_MIRROR_MS (R228). -/
abbrev P.wdnSoMirrorMs (n : Nat) : Nat := 0x302001 + 256 * n
/-- WDN_TEST_PERIOD (R228). -/
abbrev P.wdnTestPeriod : Nat := 0x303000
/-- WDN_TP_PERIOD (R228). -/
abbrev P.wdnTpPeriod : Nat := 0x303001
/-- WDN_TP_WIDTH (R228). -/
abbrev P.wdnTpWidth : Nat := 0x303002
/-- WDN_SLS_LIMIT (R228). -/
abbrev P.wdnSlsLimit : Nat := 0x304000
/-- WDN_SLS_TOL_MS (R228). -/
abbrev P.wdnSlsTolMs : Nat := 0x304001
/-- WDN_SS1_MS (R228). -/
abbrev P.wdnSs1Ms : Nat := 0x304002
/-- WDN_BRAKE_INTERVAL (R228). -/
abbrev P.wdnBrakeInterval : Nat := 0x304003
/-- WDN_BRAKE_SPEED (R228). -/
abbrev P.wdnBrakeSpeed : Nat := 0x304004
/-- WDN_BRAKE_TIME (R228). -/
abbrev P.wdnBrakeTime : Nat := 0x304005
/-- WDN_BRAKE_MAX (R228). -/
abbrev P.wdnBrakeMax : Nat := 0x304006
/-- IRN_OVERSPEED (R228). -/
abbrev P.irnOverspeed : Nat := 0x304007
/-- WDN_BRAKE_GRACE (R228). -/
abbrev P.wdnBrakeGrace : Nat := 0x304008
/-- WDN_FAULT_ACK (R228). -/
abbrev P.wdnFaultAck : Nat := 0x30F000
/-- IRN_CP_STATE (R255). -/
abbrev P.irnCpState : Nat := 0x400000
/-- IRN_CP_HIGH_MV (R255). -/
abbrev P.irnCpHighMv : Nat := 0x400001
/-- IRN_CP_LOW_MV (R255). -/
abbrev P.irnCpLowMv : Nat := 0x400002
/-- IRN_CP_DUTY (R255). -/
abbrev P.irnCpDuty : Nat := 0x400003
/-- IRN_PP_OHM (R255). -/
abbrev P.irnPpOhm : Nat := 0x400004
/-- IRN_ISO_R (R255). -/
abbrev P.irnIsoR : Nat := 0x400005
/-- IRN_RC_DC_UA (R255). -/
abbrev P.irnRcDcUa : Nat := 0x400006
/-- IRN_EARTH_FAULTS (R255). -/
abbrev P.irnEarthFaults : Nat := 0x400007
/-- IRN_ISO_WARN_OPV (R255). -/
abbrev P.irnIsoWarnOpv : Nat := 0x401000
/-- IRN_ISO_FAULT_OPV (R255). -/
abbrev P.irnIsoFaultOpv : Nat := 0x401001
/-- IRN_ISO_PERIOD_MS (R255). -/
abbrev P.irnIsoPeriodMs : Nat := 0x401002
/-- IRN_RC_SCALE (R255). -/
abbrev P.irnRcScale : Nat := 0x401003
/-- IRN_RC_CURVE (R255). -/
abbrev P.irnRcCurve : Nat := 0x401004
/-- WDN_AC_MAX_DA (R255). -/
abbrev P.wdnAcMaxDa : Nat := 0x402000
/-- WDN_DC_MAX_V (R255). -/
abbrev P.wdnDcMaxV : Nat := 0x402001
/-- WDN_DC_MAX_A (R255). -/
abbrev P.wdnDcMaxA : Nat := 0x402002
/-- WDN_DC_RAMP_AS (R255). -/
abbrev P.wdnDcRampAs : Nat := 0x402003
/-- WDN_PRECHARGE_DV (R255). -/
abbrev P.wdnPrechargeDv : Nat := 0x402004
/-- WDN_PRECHARGE_MS (R255). -/
abbrev P.wdnPrechargeMs : Nat := 0x402005
/-- WDN_ALLOW_D (R255). -/
abbrev P.wdnAllowD : Nat := 0x402006
/-- WDN_PP_MODE (R255). -/
abbrev P.wdnPpMode : Nat := 0x402007
/-- WDN_CHATTER_MAX (R255). -/
abbrev P.wdnChatterMax : Nat := 0x402008
/-- WDN_HLC_ORDER (R255). -/
abbrev P.wdnHlcOrder : Nat := 0x402009
/-- WDN_HLC_AC (R255). -/
abbrev P.wdnHlcAc : Nat := 0x40200A
/-- WDN_SES_STATE (R255). -/
abbrev P.wdnSesState : Nat := 0x403000
/-- WDN_SES_PROTO (R255). -/
abbrev P.wdnSesProto : Nat := 0x403001
/-- WDN_SES_END (R255). -/
abbrev P.wdnSesEnd : Nat := 0x403002
/-- WDN_VIOL_COUNT (R255). -/
abbrev P.wdnViolCount : Nat := 0x403003
/-- WDN_VIOL_LAST (R255). -/
abbrev P.wdnViolLast : Nat := 0x403004
/-- FLY_STATUS (R279). -/
abbrev P.flyStatus : Nat := 0x500000
/-- FLY_POS (R279). -/
abbrev P.flyPos : Nat := 0x500001
/-- FLY_SPEED (R279). -/
abbrev P.flySpeed : Nat := 0x500002
/-- FLY_CMD_OUT (R279). -/
abbrev P.flyCmdOut : Nat := 0x500003
/-- FLY_TOOTH_DEV (R279). -/
abbrev P.flyToothDev : Nat := 0x500004
/-- FLY_TOOTH_COUNT (R279). -/
abbrev P.flyToothCount : Nat := 0x500005
/-- FLY_LAST_REVERSAL (R279). -/
abbrev P.flyLastReversal : Nat := 0x500006
/-- FLY_LAST_EVENT (R279). -/
abbrev P.flyLastEvent : Nat := 0x500007
/-- FLY_EVENTS (R279). -/
abbrev P.flyEvents : Nat := 0x500008
/-- FLY_CMD (R279). -/
abbrev P.flyCmd : Nat := 0x500100
/-- FLY_TARGET (R279). -/
abbrev P.flyTarget : Nat := 0x500101
/-- FLY_VMAX (R279). -/
abbrev P.flyVmax : Nat := 0x501000
/-- FLY_ACC (R279). -/
abbrev P.flyAcc : Nat := 0x501001
/-- FLY_DEC (R279). -/
abbrev P.flyDec : Nat := 0x501002
/-- FLY_JERK (R279). -/
abbrev P.flyJerk : Nat := 0x501003
/-- FLY_QS_DEC (R279). -/
abbrev P.flyQsDec : Nat := 0x501004
/-- FLY_QS_JERK (R279). -/
abbrev P.flyQsJerk : Nat := 0x501005
/-- FLY_CREEP (R279). -/
abbrev P.flyCreep : Nat := 0x501006
/-- FLY_SOFT_MIN (R279). -/
abbrev P.flySoftMin : Nat := 0x501007
/-- FLY_SOFT_MAX (R279). -/
abbrev P.flySoftMax : Nat := 0x501008
/-- FLY_IN_POS_TOL (R279). -/
abbrev P.flyInPosTol : Nat := 0x501009
/-- FLY_PARK_POS (R279). -/
abbrev P.flyParkPos : Nat := 0x50100A
/-- FLY_KP (R279). -/
abbrev P.flyKp : Nat := 0x50100B
/-- FLY_CMD_SCALE (R279). -/
abbrev P.flyCmdScale : Nat := 0x50100C
/-- FLY_OUT_MODE (R279). -/
abbrev P.flyOutMode : Nat := 0x50100D
/-- FLY_ENC_FILTER (R279). -/
abbrev P.flyEncFilter : Nat := 0x50100E
/-- FLY_HOME_DIR (R279). -/
abbrev P.flyHomeDir : Nat := 0x501100
/-- FLY_HOME_SPEED (R279). -/
abbrev P.flyHomeSpeed : Nat := 0x501101
/-- FLY_HOME_OFFSET (R279). -/
abbrev P.flyHomeOffset : Nat := 0x501102
/-- FLY_BRAKE_REL_MS (R279). -/
abbrev P.flyBrakeRelMs : Nat := 0x501103
/-- FLY_BRAKE_SET_MS (R279). -/
abbrev P.flyBrakeSetMs : Nat := 0x501104
/-- FLY_STO_SETTLE_MS (R279). -/
abbrev P.flyStoSettleMs : Nat := 0x501105
/-- FLY_TOOTH_PITCH (R279). -/
abbrev P.flyToothPitch : Nat := 0x502000
/-- FLY_TOOTH_TOL (R279). -/
abbrev P.flyToothTol : Nat := 0x502001
/-- FLY_CUE_GUARD (R279). -/
abbrev P.flyCueGuard : Nat := 0x502002
/-- FLY_TOOTH_EN (R279). -/
abbrev P.flyToothEn : Nat := 0x502003
/-- FLY_CUEk_POS (R279). -/
abbrev P.flyCuePos (n : Nat) : Nat := 0x503000 + 256 * n
/-- FLY_CUEk_CTRL (R279). -/
abbrev P.flyCueCtrl (n : Nat) : Nat := 0x503001 + 256 * n
/-- IRN_MC_STATUS (R302). -/
abbrev P.irnMcStatus : Nat := 0x600000
/-- IRN_MC_SEQ (R302). -/
abbrev P.irnMcSeq : Nat := 0x600001
/-- IRN_MC_FRAMES_LOST (R302). -/
abbrev P.irnMcFramesLost : Nat := 0x600002
/-- IRN_MAINS_PERIOD (R302). -/
abbrev P.irnMainsPeriod : Nat := 0x600003
/-- IRN_MAINS_STATE (R302). -/
abbrev P.irnMainsState : Nat := 0x600004
/-- TLY_PC_PERIOD_SRC (R302). -/
abbrev P.tlyPcPeriodSrc : Nat := 0x601000
/-- TLY_PC_PERIOD (R302). -/
abbrev P.tlyPcPeriod : Nat := 0x601001
/-- TLY_CAL_CMD (R302). -/
abbrev P.tlyCalCmd : Nat := 0x601002
/-- TLY_CAL_STATE (R302). -/
abbrev P.tlyCalState : Nat := 0x601003
/-- TLY_CAL_LO_REF (R302). -/
abbrev P.tlyCalLoRef : Nat := 0x601004
/-- TLY_CAL_HI_REF (R302). -/
abbrev P.tlyCalHiRef : Nat := 0x601005
/-- TLY_CAL_WINDOWS (R302). -/
abbrev P.tlyCalWindows : Nat := 0x601006
/-- TLY_CHECK_HOURS (R302). -/
abbrev P.tlyCheckHours : Nat := 0x601007
/-- TLY_MAINS_CROSS (R302). -/
abbrev P.tlyMainsCross : Nat := 0x601008
/-- TLY_MCm_FS (R302). -/
abbrev P.tlyMcFs (n : Nat) : Nat := 0x603000 + 256 * n
/-- TLY_MCm_OFFSET (R302). -/
abbrev P.tlyMcOffset (n : Nat) : Nat := 0x603001 + 256 * n
/-- TLY_MCm_GAIN (R302). -/
abbrev P.tlyMcGain (n : Nat) : Nat := 0x603002 + 256 * n
/-- TLY_MCm_CAL_TIME (R302). -/
abbrev P.tlyMcCalTime (n : Nat) : Nat := 0x603003 + 256 * n
/-- TLY_MCm_CHECK_PPM (R302). -/
abbrev P.tlyMcCheckPpm (n : Nat) : Nat := 0x603004 + 256 * n
/-- TLY_PCn_MODE (R302). -/
abbrev P.tlyPcMode (n : Nat) : Nat := 0x602000 + 256 * n
/-- TLY_PCn_IN_LO (R302). -/
abbrev P.tlyPcInLo (n : Nat) : Nat := 0x602001 + 256 * n
/-- TLY_PCn_IN_HI (R302). -/
abbrev P.tlyPcInHi (n : Nat) : Nat := 0x602002 + 256 * n
/-- TLY_PCn_ENG_LO (R302). -/
abbrev P.tlyPcEngLo (n : Nat) : Nat := 0x602003 + 256 * n
/-- TLY_PCn_ENG_HI (R302). -/
abbrev P.tlyPcEngHi (n : Nat) : Nat := 0x602004 + 256 * n
/-- TLY_PCn_VALUE (R302). -/
abbrev P.tlyPcValue (n : Nat) : Nat := 0x602005 + 256 * n
/-- TLY_PCn_RAW (R302). -/
abbrev P.tlyPcRaw (n : Nat) : Nat := 0x602006 + 256 * n
/-- TLY_PCn_FLAGS (R302). -/
abbrev P.tlyPcFlags (n : Nat) : Nat := 0x602007 + 256 * n
/-- TLY_PCn_TIME (R302). -/
abbrev P.tlyPcTime (n : Nat) : Nat := 0x602008 + 256 * n
/-- TLY_PCn_OFFSET (R302). -/
abbrev P.tlyPcOffset (n : Nat) : Nat := 0x602009 + 256 * n
/-- TLY_PCn_GAIN (R302). -/
abbrev P.tlyPcGain (n : Nat) : Nat := 0x60200A + 256 * n
/-- TLY_PCn_CAL_TIME (R302). -/
abbrev P.tlyPcCalTime (n : Nat) : Nat := 0x60200B + 256 * n
/-- TLY_SEQ (R322). -/
abbrev P.tlySeq : Nat := 0x604000
/-- TLY_COMMIT_MS (R322). -/
abbrev P.tlyCommitMs : Nat := 0x604001
/-- TLY_LAST_COMMIT (R322). -/
abbrev P.tlyLastCommit : Nat := 0x604002
/-- TLY_GAPS_RECOVERED (R322). -/
abbrev P.tlyGapsRecovered : Nat := 0x604003
/-- TLY_GAP_INTERVALS (R322). -/
abbrev P.tlyGapIntervals : Nat := 0x604004
/-- TLY_LOSSES (R322). -/
abbrev P.tlyLosses : Nat := 0x604005
/-- TLY_IN_RMS (R322). -/
abbrev P.tlyInRms : Nat := 0x604006
/-- TLY_FREQ (R322). -/
abbrev P.tlyFreq : Nat := 0x604007
/-- TLY_OUTx_MODE (R322). -/
abbrev P.tlyOutMode (n : Nat) : Nat := 0x605000 + 256 * n
/-- TLY_OUTx_TOTAL (R322). -/
abbrev P.tlyOutTotal (n : Nat) : Nat := 0x605001 + 256 * n
/-- TLY_OUTx_TOTAL_RES (R322). -/
abbrev P.tlyOutTotalRes (n : Nat) : Nat := 0x605002 + 256 * n
/-- TLY_OUTx_IMPORT (R322). -/
abbrev P.tlyOutImport (n : Nat) : Nat := 0x605003 + 256 * n
/-- TLY_OUTx_EXPORT (R322). -/
abbrev P.tlyOutExport (n : Nat) : Nat := 0x605004 + 256 * n
/-- TLY_OUTx_IE_RES (R322). -/
abbrev P.tlyOutIeRes (n : Nat) : Nat := 0x605005 + 256 * n
/-- TLY_OUTx_V (R322). -/
abbrev P.tlyOutV (n : Nat) : Nat := 0x605006 + 256 * n
/-- TLY_OUTx_I (R322). -/
abbrev P.tlyOutI (n : Nat) : Nat := 0x605007 + 256 * n
/-- TLY_OUTx_P (R322). -/
abbrev P.tlyOutP (n : Nat) : Nat := 0x605008 + 256 * n
/-- TLY_OUTx_FLAGS (R322). -/
abbrev P.tlyOutFlags (n : Nat) : Nat := 0x605009 + 256 * n
/-- TLY_PHp_V_RMS (R322). -/
abbrev P.tlyPhVRms (n : Nat) : Nat := 0x606000 + 256 * n
/-- TLY_PHp_I_RMS (R322). -/
abbrev P.tlyPhIRms (n : Nat) : Nat := 0x606001 + 256 * n
/-- TLY_PHp_P (R322). -/
abbrev P.tlyPhP (n : Nat) : Nat := 0x606002 + 256 * n
/-- TLY_PHp_IMPORT (R322). -/
abbrev P.tlyPhImport (n : Nat) : Nat := 0x606003 + 256 * n
/-- TLY_PHp_EXPORT (R322). -/
abbrev P.tlyPhExport (n : Nat) : Nat := 0x606004 + 256 * n
/-- TLY_PHp_IE_RES (R322). -/
abbrev P.tlyPhIeRes (n : Nat) : Nat := 0x606005 + 256 * n
/-- BOX_CIVIL_OFFSET (R349). -/
abbrev P.boxCivilOffset : Nat := 0x700000
/-- BOX_WEEK_MAP (R349). -/
abbrev P.boxWeekMap : Nat := 0x700001
/-- BOX_RATE_NOW (R349). -/
abbrev P.boxRateNow : Nat := 0x700002
/-- BOX_NEXT_SEAM (R349). -/
abbrev P.boxNextSeam : Nat := 0x700003
/-- BOX_SEASONs (R349). -/
abbrev P.boxSeason (n : Nat) : Nat := 0x701000 + 256 * n
/-- BOX_DAYs_d (R349). -/
abbrev P.boxDay (n m : Nat) : Nat := 0x702000 + 256 * n + 1 * m
/-- BOX_SPECIAL (R349). -/
abbrev P.boxSpecial : Nat := 0x703000
/-- BOX_TMPe_COUNT, _FIRST, _LAST, _DUR (R349). -/
abbrev P.boxTmpCount (n : Nat) : Nat := 0x704000 + 256 * n
/-- BOX_TMPe_COUNT, _FIRST, _LAST, _DUR (R349). -/
abbrev P.boxTmpFirst (n : Nat) : Nat := 0x704001 + 256 * n
/-- BOX_TMPe_COUNT, _FIRST, _LAST, _DUR (R349). -/
abbrev P.boxTmpLast (n : Nat) : Nat := 0x704002 + 256 * n
/-- BOX_TMPe_COUNT, _FIRST, _LAST, _DUR (R349). -/
abbrev P.boxTmpDur (n : Nat) : Nat := 0x704003 + 256 * n
/-- BOX_TAMPER_ALARM (R349). -/
abbrev P.boxTamperAlarm : Nat := 0x705000
/-- BOX_TAMPER_BLOCK (R349). -/
abbrev P.boxTamperBlock : Nat := 0x705001
/-- BOX_CREDIT (R349). -/
abbrev P.boxCredit : Nat := 0x710000
/-- BOX_CREDIT_MAX (R349). -/
abbrev P.boxCreditMax : Nat := 0x710001
/-- BOX_PAY_MIN_START (R349). -/
abbrev P.boxPayMinStart : Nat := 0x710002
/-- BOX_EMERG_AMOUNT (R349). -/
abbrev P.boxEmergAmount : Nat := 0x710003
/-- BOX_EMERG_THRESHOLD (R349). -/
abbrev P.boxEmergThreshold : Nat := 0x710004
/-- BOX_EMERG_REQ (R349). -/
abbrev P.boxEmergReq : Nat := 0x710005
/-- BOX_EMERG_ACTIVE (R349). -/
abbrev P.boxEmergActive : Nat := 0x710006
/-- BOX_PENDING (R349). -/
abbrev P.boxPending : Nat := 0x710007
/-- BOX_COST_REM (R349). -/
abbrev P.boxCostRem : Nat := 0x710008
/-- BOX_SESSION_COST (R349). -/
abbrev P.boxSessionCost : Nat := 0x710009
/-- BOX_IMPORT_ONLY (R349). -/
abbrev P.boxImportOnly : Nat := 0x71000A
/-- BOX_REVERSE_W (R349). -/
abbrev P.boxReverseW : Nat := 0x71000B
/-- BOX_PRICEk_r (R349). -/
abbrev P.boxPrice (n m : Nat) : Nat := 0x711000 + 256 * n + 1 * m
/-- BOX_PRICE_SET (R349). -/
abbrev P.boxPriceSet : Nat := 0x712000
/-- BOX_TOKEN_IN (R349). -/
abbrev P.boxTokenIn : Nat := 0x713000
/-- BOX_TOKEN_RESULT (R349). -/
abbrev P.boxTokenResult : Nat := 0x713001
/-- BOX_TOKEN_REV (R349). -/
abbrev P.boxTokenRev : Nat := 0x713002
/-- BOX_SERIAL_HIGH (R349). -/
abbrev P.boxSerialHigh : Nat := 0x713003
/-- BOX_SERIAL_BITMAP (R349). -/
abbrev P.boxSerialBitmap : Nat := 0x713004
/-- BOX_TOKEN_FAILS (R349). -/
abbrev P.boxTokenFails : Nat := 0x713005
/-- BOX_TOKEN_FAIL_MAX (R349). -/
abbrev P.boxTokenFailMax : Nat := 0x713006
/-- BOX_TOKEN_LOCK_S (R349). -/
abbrev P.boxTokenLockS : Nat := 0x713007
/-- BOX_TOKEN_LOCK_UNTIL (R349). -/
abbrev P.boxTokenLockUntil : Nat := 0x713008
/-- BOX_MD_SET (R349). -/
abbrev P.boxMdSet : Nat := 0x714000
/-- BOX_MD_MIN (R349). -/
abbrev P.boxMdMin : Nat := 0x714001
/-- BOX_MD_SUBS (R349). -/
abbrev P.boxMdSubs : Nat := 0x714002
/-- BOX_MD_RESET (R349). -/
abbrev P.boxMdReset : Nat := 0x714003
/-- BOX_MD_LAST (R349). -/
abbrev P.boxMdLast : Nat := 0x714004
/-- BOX_MDr, _TIME, _CUM, _RESETS (R349). -/
abbrev P.boxMd (n : Nat) : Nat := 0x715000 + 256 * n
/-- BOX_MDr, _TIME, _CUM, _RESETS (R349). -/
abbrev P.boxMdTime (n : Nat) : Nat := 0x715001 + 256 * n
/-- BOX_MDr, _TIME, _CUM, _RESETS (R349). -/
abbrev P.boxMdCum (n : Nat) : Nat := 0x715002 + 256 * n
/-- BOX_MDr, _TIME, _CUM, _RESETS (R349). -/
abbrev P.boxMdResets (n : Nat) : Nat := 0x715003 + 256 * n
/-- TLY_OUTx_RATEr_TOTAL, _TOTAL_RES, _IMPORT, _EXPORT, _IE_RES (R349). -/
abbrev P.tlyOutRateTotal (n m : Nat) : Nat := 0x720000 + 4096 * n + 256 * m
/-- TLY_OUTx_RATEr_TOTAL, _TOTAL_RES, _IMPORT, _EXPORT, _IE_RES (R349). -/
abbrev P.tlyOutRateTotalRes (n m : Nat) : Nat := 0x720001 + 4096 * n + 256 * m
/-- TLY_OUTx_RATEr_TOTAL, _TOTAL_RES, _IMPORT, _EXPORT, _IE_RES (R349). -/
abbrev P.tlyOutRateImport (n m : Nat) : Nat := 0x720002 + 4096 * n + 256 * m
/-- TLY_OUTx_RATEr_TOTAL, _TOTAL_RES, _IMPORT, _EXPORT, _IE_RES (R349). -/
abbrev P.tlyOutRateExport (n m : Nat) : Nat := 0x720003 + 4096 * n + 256 * m
/-- TLY_OUTx_RATEr_TOTAL, _TOTAL_RES, _IMPORT, _EXPORT, _IE_RES (R349). -/
abbrev P.tlyOutRateIeRes (n m : Nat) : Nat := 0x720004 + 4096 * n + 256 * m
/-- TLY_PHp_RATEr_IMPORT, _EXPORT, _IE_RES (R349). -/
abbrev P.tlyPhRateImport (n m : Nat) : Nat := 0x723000 + 4096 * n + 256 * m
/-- TLY_PHp_RATEr_IMPORT, _EXPORT, _IE_RES (R349). -/
abbrev P.tlyPhRateExport (n m : Nat) : Nat := 0x723001 + 4096 * n + 256 * m
/-- TLY_PHp_RATEr_IMPORT, _EXPORT, _IE_RES (R349). -/
abbrev P.tlyPhRateIeRes (n m : Nat) : Nat := 0x723002 + 4096 * n + 256 * m
/-- TIR_LEAD_PREF (R386). -/
abbrev P.tirLeadPref : Nat := 0x110000
/-- TIR_SEAT_CFG (R386). -/
abbrev P.tirSeatCfg : Nat := 0x110001
/-- TIR_BUDGET_W (R386). -/
abbrev P.tirBudgetW : Nat := 0x110002
/-- TIR_PHASE_MAX_W (R386). -/
abbrev P.tirPhaseMaxW : Nat := 0x110003
/-- TIR_HELLO_S (R386). -/
abbrev P.tirHelloS : Nat := 0x110004
/-- TIR_TIME_SRC (R386). -/
abbrev P.tirTimeSrc : Nat := 0x110005
/-- TIR_LEAD_SEAT (R386). -/
abbrev P.tirLeadSeat : Nat := 0x110006
/-- TIR_LEAD_ID (R386). -/
abbrev P.tirLeadId : Nat := 0x110007
/-- TIR_CYCLE (R386). -/
abbrev P.tirCycle : Nat := 0x110008
/-- TIR_PHASE_CLASS (R386). -/
abbrev P.tirPhaseClass : Nat := 0x110009
/-- TIR_ELECTIONS (R386). -/
abbrev P.tirElections : Nat := 0x11000A
/-- TIR_HOUSE_KEY (R386). -/
abbrev P.tirHouseKey : Nat := 0x11000B
/-- TIR_SAFE_W (R386). -/
abbrev P.tirSafeW : Nat := 0x111000
/-- TIR_SHARE_W (R386). -/
abbrev P.tirShareW : Nat := 0x111001
/-- TIR_SHARE_SRC (R386). -/
abbrev P.tirShareSrc : Nat := 0x111002
/-- TIR_SHARE_UNTIL (R386). -/
abbrev P.tirShareUntil : Nat := 0x111003
/-- TIR_GUARD (R386). -/
abbrev P.tirGuard : Nat := 0x800000
/-- TIR_TM_REFRESH_S (R386). -/
abbrev P.tirTmRefreshS : Nat := 0x800001
/-- TIR_TM_MARGIN (R386). -/
abbrev P.tirTmMargin : Nat := 0x800002
/-- TIR_RETRY_MAX (R386). -/
abbrev P.tirRetryMax : Nat := 0x800003
/-- TIR_NEIGH_AGE_S (R386). -/
abbrev P.tirNeighAgeS : Nat := 0x800004
/-- TIR_NEIGH_COUNT (R386). -/
abbrev P.tirNeighCount : Nat := 0x800100
/-- TIR_NEIGH_SEL (R386). -/
abbrev P.tirNeighSel : Nat := 0x800101
/-- TIR_NEIGH_INFO (R386). -/
abbrev P.tirNeighInfo : Nat := 0x800102
/-- TIR_ROUTE_SEL (R386). -/
abbrev P.tirRouteSel : Nat := 0x800103
/-- TIR_ROUTE_INFO (R386). -/
abbrev P.tirRouteInfo : Nat := 0x800104
/-- TIR_TX_FRAMES, TIR_RX_FRAMES, TIR_RETRIES, TIR_DROPS, TIR_FC_ERRORS, TIR_MAC_FAILS, TIR_TM_EXPIRED (R386). -/
abbrev P.tirTxFrames : Nat := 0x800200
/-- TIR_TX_FRAMES, TIR_RX_FRAMES, TIR_RETRIES, TIR_DROPS, TIR_FC_ERRORS, TIR_MAC_FAILS, TIR_TM_EXPIRED (R386). -/
abbrev P.tirRxFrames : Nat := 0x800201
/-- TIR_TX_FRAMES, TIR_RX_FRAMES, TIR_RETRIES, TIR_DROPS, TIR_FC_ERRORS, TIR_MAC_FAILS, TIR_TM_EXPIRED (R386). -/
abbrev P.tirRetries : Nat := 0x800202
/-- TIR_TX_FRAMES, TIR_RX_FRAMES, TIR_RETRIES, TIR_DROPS, TIR_FC_ERRORS, TIR_MAC_FAILS, TIR_TM_EXPIRED (R386). -/
abbrev P.tirDrops : Nat := 0x800203
/-- TIR_TX_FRAMES, TIR_RX_FRAMES, TIR_RETRIES, TIR_DROPS, TIR_FC_ERRORS, TIR_MAC_FAILS, TIR_TM_EXPIRED (R386). -/
abbrev P.tirFcErrors : Nat := 0x800204
/-- TIR_TX_FRAMES, TIR_RX_FRAMES, TIR_RETRIES, TIR_DROPS, TIR_FC_ERRORS, TIR_MAC_FAILS, TIR_TM_EXPIRED (R386). -/
abbrev P.tirMacFails : Nat := 0x800205
/-- TIR_TX_FRAMES, TIR_RX_FRAMES, TIR_RETRIES, TIR_DROPS, TIR_FC_ERRORS, TIR_MAC_FAILS, TIR_TM_EXPIRED (R386). -/
abbrev P.tirTmExpired : Nat := 0x800206
/-- TIR_TEST_MODE (R386). -/
abbrev P.tirTestMode : Nat := 0x800300
/-- TIR_TEST_BITS (R386). -/
abbrev P.tirTestBits : Nat := 0x800301
/-- TIR_TEST_ERRORS (R386). -/
abbrev P.tirTestErrors : Nat := 0x800302
/-- TIR_GP_STATE (R386). -/
abbrev P.tirGpState : Nat := 0x801000
/-- TIR_GP_ATTEN (R386). -/
abbrev P.tirGpAtten : Nat := 0x801001
/-- TIR_GP_PEV_MAC (R386). -/
abbrev P.tirGpPevMac : Nat := 0x801002
/-- TIR_GP_SLAC_FAILS (R386). -/
abbrev P.tirGpSlacFails : Nat := 0x801003
/-- TIR_GP_TEST_MODE (R386). -/
abbrev P.tirGpTestMode : Nat := 0x801004
/-- TIR_GP_TEST_ERRORS (R386). -/
abbrev P.tirGpTestErrors : Nat := 0x801005
/-- SL_MAC_ADDR (R412). -/
abbrev P.slMacAddr : Nat := 0x900000
/-- SL_IP_ADDR (R412). -/
abbrev P.slIpAddr : Nat := 0x900001
/-- SL_IP_MASK (R412). -/
abbrev P.slIpMask : Nat := 0x900002
/-- SL_IP_GW (R412). -/
abbrev P.slIpGw : Nat := 0x900003
/-- SL_HOST_VID (R412). -/
abbrev P.slHostVid : Nat := 0x900004
/-- SL_CUE_PCP (R412). -/
abbrev P.slCuePcp : Nat := 0x900005
/-- SL_AGE_S (R412). -/
abbrev P.slAgeS : Nat := 0x900006
/-- SL_HOST_DISCARDS (R412). -/
abbrev P.slHostDiscards : Nat := 0x900007
/-- SL_VLAN_TABLE (R412). -/
abbrev P.slVlanTable : Nat := 0x900100
/-- SL_PCP_MAP (R412). -/
abbrev P.slPcpMap : Nat := 0x900101
/-- SL_STRICT_FROM (R412). -/
abbrev P.slStrictFrom : Nat := 0x900102
/-- SL_QUEUE_WEIGHTS (R412). -/
abbrev P.slQueueWeights : Nat := 0x900103
/-- SL_PORTn_STATE (R412). -/
abbrev P.slPortState (n : Nat) : Nat := 0x901000 + 256 * n
/-- SL_PORTn_FWD (R412). -/
abbrev P.slPortFwd (n : Nat) : Nat := 0x901001 + 256 * n
/-- SL_PORTn_PVID (R412). -/
abbrev P.slPortPvid (n : Nat) : Nat := 0x901002 + 256 * n
/-- SL_PORTn_PCP (R412). -/
abbrev P.slPortPcp (n : Nat) : Nat := 0x901003 + 256 * n
/-- SL_PORTn_FLOOD_LIMIT (R412). -/
abbrev P.slPortFloodLimit (n : Nat) : Nat := 0x901004 + 256 * n
/-- SL_PORTn_RX_FRAMES, _TX_FRAMES, _RX_FCS_ERR, _RX_STOMPED, _TX_STOMPED, _DROPS (R412). -/
abbrev P.slPortRxFrames (n : Nat) : Nat := 0x901005 + 256 * n
/-- SL_PORTn_RX_FRAMES, _TX_FRAMES, _RX_FCS_ERR, _RX_STOMPED, _TX_STOMPED, _DROPS (R412). -/
abbrev P.slPortTxFrames (n : Nat) : Nat := 0x901006 + 256 * n
/-- SL_PORTn_RX_FRAMES, _TX_FRAMES, _RX_FCS_ERR, _RX_STOMPED, _TX_STOMPED, _DROPS (R412). -/
abbrev P.slPortRxFcsErr (n : Nat) : Nat := 0x901007 + 256 * n
/-- SL_PORTn_RX_FRAMES, _TX_FRAMES, _RX_FCS_ERR, _RX_STOMPED, _TX_STOMPED, _DROPS (R412). -/
abbrev P.slPortRxStomped (n : Nat) : Nat := 0x901008 + 256 * n
/-- SL_PORTn_RX_FRAMES, _TX_FRAMES, _RX_FCS_ERR, _RX_STOMPED, _TX_STOMPED, _DROPS (R412). -/
abbrev P.slPortTxStomped (n : Nat) : Nat := 0x901009 + 256 * n
/-- SL_PORTn_RX_FRAMES, _TX_FRAMES, _RX_FCS_ERR, _RX_STOMPED, _TX_STOMPED, _DROPS (R412). -/
abbrev P.slPortDrops (n : Nat) : Nat := 0x90100A + 256 * n
/-- SL_LANEn_SPEED (R412). -/
abbrev P.slLaneSpeed (n : Nat) : Nat := 0x902000 + 256 * n
/-- SL_LANEn_STATE (R412). -/
abbrev P.slLaneState (n : Nat) : Nat := 0x902001 + 256 * n
/-- SL_LANEn_TX_AMP (R412). -/
abbrev P.slLaneTxAmp (n : Nat) : Nat := 0x902002 + 256 * n
/-- SL_LANEn_TX_EMPH (R412). -/
abbrev P.slLaneTxEmph (n : Nat) : Nat := 0x902003 + 256 * n
/-- SL_LANEn_LOOPBACK (R412). -/
abbrev P.slLaneLoopback (n : Nat) : Nat := 0x902004 + 256 * n
/-- SL_LANEn_PAT_GEN (R412). -/
abbrev P.slLanePatGen (n : Nat) : Nat := 0x902005 + 256 * n
/-- SL_LANEn_PAT_CHK (R412). -/
abbrev P.slLanePatChk (n : Nat) : Nat := 0x902006 + 256 * n
/-- SL_LANEn_PAT_BITS (R412). -/
abbrev P.slLanePatBits (n : Nat) : Nat := 0x902007 + 256 * n
/-- SL_LANEn_PAT_ERR (R412). -/
abbrev P.slLanePatErr (n : Nat) : Nat := 0x902008 + 256 * n
/-- SL_LANEn_LINK_DOWNS (R412). -/
abbrev P.slLaneLinkDowns (n : Nat) : Nat := 0x902009 + 256 * n
/-- SL_MODn_A2 (R412). -/
abbrev P.slModA2 (n : Nat) : Nat := 0x90200A + 256 * n
/-- SL_MODn_ID (R412). -/
abbrev P.slModId (n : Nat) : Nat := 0x90200B + 256 * n
/-- SL_PTP_MODE (R412). -/
abbrev P.slPtpMode : Nat := 0x903000
/-- SL_PTP_DOMAIN (R412). -/
abbrev P.slPtpDomain : Nat := 0x903001
/-- SL_PTP_PRIO1 (R412). -/
abbrev P.slPtpPrio1 : Nat := 0x903002
/-- SL_PTP_PRIO2 (R412). -/
abbrev P.slPtpPrio2 : Nat := 0x903003
/-- SL_PTP_TRANSPORT (R412). -/
abbrev P.slPtpTransport : Nat := 0x903004
/-- SL_PTP_TC_EN (R412). -/
abbrev P.slPtpTcEn : Nat := 0x903005
/-- SL_PTP_LOCK_NS (R412). -/
abbrev P.slPtpLockNs : Nat := 0x903006
/-- SL_PTP_STATE (R412). -/
abbrev P.slPtpState : Nat := 0x903007
/-- SL_PTP_OFFSET_NS (R412). -/
abbrev P.slPtpOffsetNs : Nat := 0x903008
/-- SL_PTP_PORT (R412). -/
abbrev P.slPtpPort : Nat := 0x903009
/-- TAG_STATE (R434). -/
abbrev P.tagState : Nat := 0xA00000
/-- TAG_UID (R434). -/
abbrev P.tagUid : Nat := 0xA00001
/-- TAG_AUTH_MODES (R434). -/
abbrev P.tagAuthModes : Nat := 0xA00002
/-- TAG_PASSWORD (R434). -/
abbrev P.tagPassword : Nat := 0xA00003
/-- TAG_AES_KEY (R434). -/
abbrev P.tagAesKey : Nat := 0xA00004
/-- TAG_AUTH_FAILS (R434). -/
abbrev P.tagAuthFails : Nat := 0xA00005
/-- TAG_WEAK_REFUSALS (R434). -/
abbrev P.tagWeakRefusals : Nat := 0xA00006
/-- TAG_NOTE_NEXT (R434). -/
abbrev P.tagNoteNext : Nat := 0xA00007
/-- TAG_NOTE_SEL (R434). -/
abbrev P.tagNoteSel : Nat := 0xA00008
/-- TAG_NOTE (R434). -/
abbrev P.tagNote : Nat := 0xA00009
/-- TAG_NOTE_CLEAR (R434). -/
abbrev P.tagNoteClear : Nat := 0xA0000A
/-- TAG_PAGE_PERIOD_S (R434). -/
abbrev P.tagPagePeriodS : Nat := 0xA00100
/-- RDR_ENABLE (R434). -/
abbrev P.rdrEnable : Nat := 0xA01000
/-- RDR_TYPES (R434). -/
abbrev P.rdrTypes : Nat := 0xA01001
/-- RDR_POLL_MS (R434). -/
abbrev P.rdrPollMs : Nat := 0xA01002
/-- RDR_AUTH_MODE (R434). -/
abbrev P.rdrAuthMode : Nat := 0xA01003
/-- RDR_SAM_SLOT (R434). -/
abbrev P.rdrSamSlot : Nat := 0xA01004
/-- RDR_SAM_CMD (R434). -/
abbrev P.rdrSamCmd : Nat := 0xA01005
/-- RDR_HOST_WAIT_MS (R434). -/
abbrev P.rdrHostWaitMs : Nat := 0xA01006
/-- RDR_HOST_GRANT (R434). -/
abbrev P.rdrHostGrant : Nat := 0xA01007
/-- RDR_CARD_STOP (R434). -/
abbrev P.rdrCardStop : Nat := 0xA01008
/-- RDR_AUTH_RESULT (R434). -/
abbrev P.rdrAuthResult : Nat := 0xA01009
/-- RDR_LAST_CARD (R434). -/
abbrev P.rdrLastCard : Nat := 0xA0100A
/-- RDR_LAST_UID (R434). -/
abbrev P.rdrLastUid : Nat := 0xA0100B
/-- RDR_TEST_MODE (R434). -/
abbrev P.rdrTestMode : Nat := 0xA0100C
/-- RDR_TEST_FRAMES (R434). -/
abbrev P.rdrTestFrames : Nat := 0xA0100D
/-- RDR_TEST_ERRORS (R434). -/
abbrev P.rdrTestErrors : Nat := 0xA0100E
/-- RDR_ALLOW (R434). -/
abbrev P.rdrAllow : Nat := 0xA01100
/-- CRDn_CLASS_EN (R434). -/
abbrev P.crdClassEn (n : Nat) : Nat := 0xA02000 + 256 * n
/-- CRDn_STATE (R434). -/
abbrev P.crdState (n : Nat) : Nat := 0xA02001 + 256 * n
/-- CRDn_ERRORS (R434). -/
abbrev P.crdErrors (n : Nat) : Nat := 0xA02002 + 256 * n
/-- CRDn_ATR (R434). -/
abbrev P.crdAtr (n : Nat) : Nat := 0xA02003 + 256 * n
/-- SDR_BAUD (R461). -/
abbrev P.sdrBaud : Nat := 0xB00000
/-- SDR_FORMAT (R461). -/
abbrev P.sdrFormat : Nat := 0xB00001
/-- SDR_DE_LEAD_US (R461). -/
abbrev P.sdrDeLeadUs : Nat := 0xB00002
/-- SDR_TURN_US (R461). -/
abbrev P.sdrTurnUs : Nat := 0xB00003
/-- SDR_FRAME_TIMEOUT_MS (R461). -/
abbrev P.sdrFrameTimeoutMs : Nat := 0xB00004
/-- SDR_STATUS (R461). -/
abbrev P.sdrStatus : Nat := 0xB00005
/-- SDR_ERRORS (R461). -/
abbrev P.sdrErrors : Nat := 0xB00006
/-- SDR_FRAMES_IN (R461). -/
abbrev P.sdrFramesIn : Nat := 0xB00007
/-- SDR_WAKE_FLAGGED (R461). -/
abbrev P.sdrWakeFlagged : Nat := 0xB00008
/-- UARTn_MODE (R461). -/
abbrev P.uartMode (n : Nat) : Nat := 0xB01000 + 256 * n
/-- UARTn_BAUD (R461). -/
abbrev P.uartBaud (n : Nat) : Nat := 0xB01001 + 256 * n
/-- UARTn_FORMAT (R461). -/
abbrev P.uartFormat (n : Nat) : Nat := 0xB01002 + 256 * n
/-- UARTn_FLOW (R461). -/
abbrev P.uartFlow (n : Nat) : Nat := 0xB01003 + 256 * n
/-- UARTn_XON (R461). -/
abbrev P.uartXon (n : Nat) : Nat := 0xB01004 + 256 * n
/-- UARTn_XOFF (R461). -/
abbrev P.uartXoff (n : Nat) : Nat := 0xB01005 + 256 * n
/-- UARTn_WM (R461). -/
abbrev P.uartWm (n : Nat) : Nat := 0xB01006 + 256 * n
/-- UARTn_TX_DATA (R461). -/
abbrev P.uartTxData (n : Nat) : Nat := 0xB01007 + 256 * n
/-- UARTn_RX_DATA (R461). -/
abbrev P.uartRxData (n : Nat) : Nat := 0xB01008 + 256 * n
/-- UARTn_STATUS (R461). -/
abbrev P.uartStatus (n : Nat) : Nat := 0xB02000 + 256 * n
/-- UARTn_ERRORS (R461). -/
abbrev P.uartErrors (n : Nat) : Nat := 0xB02001 + 256 * n
/-- UARTn_TEST (R461). -/
abbrev P.uartTest (n : Nat) : Nat := 0xB02002 + 256 * n
/-- UARTn_TEST_BITS (R461). -/
abbrev P.uartTestBits (n : Nat) : Nat := 0xB02003 + 256 * n
/-- UARTn_TEST_ERRORS (R461). -/
abbrev P.uartTestErrors (n : Nat) : Nat := 0xB02004 + 256 * n
/-- UART5_BAUD (R461). -/
abbrev P.uart5Baud : Nat := 0xB03000
/-- PMI_PERIOD_MS (R461). -/
abbrev P.pmiPeriodMs : Nat := 0xB04000
/-- PMI_CMD (R461). -/
abbrev P.pmiCmd : Nat := 0xB04001
/-- PMI_MEAS (R461). -/
abbrev P.pmiMeas : Nat := 0xB04002
/-- PMI_STATUS (R461). -/
abbrev P.pmiStatus : Nat := 0xB04003
/-- PMI_LOST (R461). -/
abbrev P.pmiLost : Nat := 0xB04004
/-- KPD_DEBOUNCE_MS (R461). -/
abbrev P.kpdDebounceMs : Nat := 0xB05000
/-- KPD_LAST (R461). -/
abbrev P.kpdLast : Nat := 0xB05001
/-- KPD_GHOSTS (R461). -/
abbrev P.kpdGhosts : Nat := 0xB05002
/-- KPD_OVERRUNS (R461). -/
abbrev P.kpdOverruns : Nat := 0xB05003
/-- DSP_STATE (R480). -/
abbrev P.dspState : Nat := 0xC00000
/-- DSP_RESULT (R480). -/
abbrev P.dspResult : Nat := 0xC00001
/-- DSP_BAND (R480). -/
abbrev P.dspBand : Nat := 0xC00002
/-- DSP_TEMP (R480). -/
abbrev P.dspTemp : Nat := 0xC00003
/-- DSP_TEMP_USED (R480). -/
abbrev P.dspTempUsed : Nat := 0xC00004
/-- DSP_UPDATES (R480). -/
abbrev P.dspUpdates : Nat := 0xC00005
/-- DSP_REFUSED (R480). -/
abbrev P.dspRefused : Nat := 0xC00006
/-- DSP_LAST_DUR_MS (R480). -/
abbrev P.dspLastDurMs : Nat := 0xC00007
/-- DSP_IMAGE (R480). -/
abbrev P.dspImage : Nat := 0xC01000
/-- DSP_IMAGE_NOW (R480). -/
abbrev P.dspImageNow : Nat := 0xC01001
/-- DSP_BLINK (R480). -/
abbrev P.dspBlink : Nat := 0xC01002
/-- DSP_BLINK_MS (R480). -/
abbrev P.dspBlinkMs : Nat := 0xC01003
/-- DSP_TEMP_SRC (R480). -/
abbrev P.dspTempSrc : Nat := 0xC02000
/-- DSP_TEMP_SET (R480). -/
abbrev P.dspTempSet : Nat := 0xC02001
/-- DSP_TEMP_OFFSET (R480). -/
abbrev P.dspTempOffset : Nat := 0xC02002
/-- DSP_FL_MODE (R480). -/
abbrev P.dspFlMode : Nat := 0xC03000
/-- DSP_FL0_MA (R480). -/
abbrev P.dspFl0Ma : Nat := 0xC03001
/-- DSP_FL1_MA (R480). -/
abbrev P.dspFl1Ma : Nat := 0xC03002
/-- DSP_FL_HOLD_S (R480). -/
abbrev P.dspFlHoldS : Nat := 0xC03003
/-- DSP_FIELDk (R480). -/
abbrev P.dspField (n : Nat) : Nat := 0xC04000 + 1 * n
/-- IRN_DSP_RAILS (R480). -/
abbrev P.irnDspRails : Nat := 0xC00100
/-- IRN_DSP_FAULTS (R480). -/
abbrev P.irnDspFaults : Nat := 0xC00101
/-- SMG_POST_ID (R495). -/
abbrev P.smgPostId : Nat := 0x000100
/-- SMG_DIE_LOT (R495). -/
abbrev P.smgDieLot : Nat := 0x000101
/-- SMG_ROM_VERSION (R495). -/
abbrev P.smgRomVersion : Nat := 0x000102
/-- WNG_CASTc (R495). -/
abbrev P.wngCast (n : Nat) : Nat := 0x000200 + 1 * n
/-- WNG_CAST_STATE (R495). -/
abbrev P.wngCastState : Nat := 0x000300
/-- WNG_OPEN (R495). -/
abbrev P.wngOpen : Nat := 0xD03000
/-- WNG_CHUNK (R495). -/
abbrev P.wngChunk : Nat := 0xD03001
/-- WNG_VERIFY (R495). -/
abbrev P.wngVerify : Nat := 0xD03002
/-- WNG_COMMIT (R495). -/
abbrev P.wngCommit : Nat := 0xD03003
/-- WNG_PENDING_CRC (R495). -/
abbrev P.wngPendingCrc : Nat := 0xD03004
/-- WNG_COMMIT_CRC (R495). -/
abbrev P.wngCommitCrc : Nat := 0xD03005
/-- WNG_CONFIRM (R495). -/
abbrev P.wngConfirm : Nat := 0xD03006
/-- WNG_ROLLBACK (R495). -/
abbrev P.wngRollback : Nat := 0xD03007
/-- WNG_ABANDON (R495). -/
abbrev P.wngAbandon : Nat := 0xD03008
/-- WNG_STATUS (R495). -/
abbrev P.wngStatus : Nat := 0xD03100
/-- WNG_HEADER (R495). -/
abbrev P.wngHeader : Nat := 0xD03101
/-- WNG_REVERIFY_H (R495). -/
abbrev P.wngReverifyH : Nat := 0xD03102
/-- WNG_RELEASE (R495). -/
abbrev P.wngRelease : Nat := 0xD03103
/-- WNG_RELEASE_LAST (R495). -/
abbrev P.wngReleaseLast : Nat := 0xD03104
/-- WNG_AUTO_ROLLBACKS (R495). -/
abbrev P.wngAutoRollbacks : Nat := 0xD03105

/-- The types of R11 with their sizes in bytes; STIME is an unsigned of 8 bytes. -/
inductive Ty where
  | bool
  | uint (bytes : Nat)
  | int (bytes : Nat)
  | str (max : Nat)
  | blob (max : Nat)
deriving DecidableEq, Repr

/-- The access marks of R13. -/
inductive Mark where
  | ro
  | rw
  | wo
  | rwp
deriving DecidableEq, Repr

/-- The Island off column of R14. -/
inductive Keep where
  | kept
  | lost
  | journal
deriving DecidableEq, Repr

/-- The limits a Meaning states for the object's own value; `cross` leaves them to `crossOk`. -/
inductive Lim where
  | any
  | range (lo hi : Nat)
  | srange (lo hi : Int)
  | oneOf (vs : List Nat)
  | mask (m : Nat)
  | hostSeat
  | cross
deriving DecidableEq, Repr

/-- One index of a row: first value, number of values, step in the PID and step in the offset. -/
structure Idx where
  lo : Nat
  cnt : Nat
  pst : Nat
  ost : Nat
deriving DecidableEq, Repr

/-- One row of an object table. `dflt` lists the defaults by index, or one for all. -/
structure Obj where
  pid : Nat
  i1 : Idx
  i2 : Idx
  island : Nat
  off : Option Nat
  ty : Ty
  mark : Mark
  level : Nat
  dflt : List Nat
  keep : Keep
  lim : Lim
deriving DecidableEq, Repr

/-- The row of an object without index. -/
abbrev one : Idx := ⟨0, 1, 1, 0⟩

/-- Rows of area 0x0. -/
def objects0_0 : List Obj := [
  ⟨P.smgPostId, one, one, 0, (some 0x1000), .uint 8, .ro, 0, [0], .kept, .any⟩,
  ⟨P.smgDieLot, one, one, 0, (some 0x1010), .blob 16, .ro, 0, [0], .kept, .any⟩,
  ⟨P.smgRomVersion, one, one, 0, (some 0x1020), .uint 4, .ro, 0, [0], .kept, .any⟩,
  ⟨P.wngCast 0, ⟨1, 8, 1, 16⟩, one, 0, (some 0x1040), .uint 16, .ro, 0, [0], .journal, .any⟩,
  ⟨P.wngCastState, one, one, 0, (some 0x10D0), .uint 1, .ro, 0, [1], .journal, .any⟩]

/-- Every row of area 0x0. -/
def objects0 : List Obj := objects0_0

/-- Rows of area 0x1, part 1. -/
def objects1_0 : List Obj := [
  ⟨P.smgHouseId, one, one, 0, (some 0x80), .uint 4, .rwp, 2, [0], .journal, .any⟩,
  ⟨P.smgSeat, one, one, 0, (some 0x84), .uint 2, .ro, 0, [0xFFFE], .lost, .any⟩,
  ⟨P.smgHostSeat, one, one, 0, (some 0x86), .uint 2, .rwp, 2, [0xFFFE], .journal, .hostSeat⟩,
  ⟨P.smgRole, one, one, 0, (some 0x88), .uint 1, .ro, 0, [0], .lost, .any⟩,
  ⟨P.smgTier, one, one, 0, (some 0x89), .uint 1, .ro, 0, [0x4B], .lost, .any⟩,
  ⟨P.smgBatonHolder, one, one, 0, (some 0x100), .uint 4, .ro, 0, [0], .lost, .any⟩,
  ⟨P.smgBatonTimeout, one, one, 0, (some 0x104), .uint 2, .rwp, 2, [0x1E], .journal, .range 5 3600⟩,
  ⟨P.smgBatonSeizes, one, one, 0, (some 0x108), .uint 4, .ro, 0, [0], .journal, .any⟩,
  ⟨P.smgLastMain, one, one, 0, (some 0x110), .uint 8, .ro, 0, [0], .lost, .any⟩,
  ⟨P.smgLastSide, one, one, 0, (some 0x118), .uint 8, .ro, 0, [0], .lost, .any⟩,
  ⟨P.smgCueEpoch, one, one, 0, (some 0x140), .uint 4, .ro, 0, [1], .journal, .any⟩,
  ⟨P.smgCueNotifyPort, one, one, 0, (some 0x144), .uint 2, .rwp, 2, [0xC0A8], .journal, .range 1 65535⟩,
  ⟨P.smgCueConfirmTimeout, one, one, 0, (some 0x146), .uint 2, .rwp, 3, [0x3C], .journal, .range 10 600⟩,
  ⟨P.smgCuePendingPid, one, one, 0, (some 0x148), .uint 4, .ro, 0, [0xFFFFFFFF], .lost, .any⟩,
  ⟨P.smgCuePendingCrc, one, one, 0, (some 0x14C), .uint 4, .ro, 0, [0], .lost, .any⟩,
  ⟨P.smgCueRequests, one, one, 0, (some 0x150), .uint 4, .ro, 0, [0], .lost, .any⟩,
  ⟨P.smgCueAuthFails, one, one, 0, (some 0x154), .uint 4, .ro, 0, [0], .lost, .any⟩,
  ⟨P.smgCueDiscards, one, one, 0, (some 0x158), .uint 4, .ro, 0, [0], .lost, .any⟩,
  ⟨P.smgCueSubsUsed, one, one, 0, (some 0x15C), .uint 1, .ro, 0, [0], .lost, .any⟩,
  ⟨P.smgCueKey 0, ⟨0, 3, 1, 0⟩, one, 0, none, .blob 16, .wo, 2, [0], .kept, .any⟩,
  ⟨P.smgCueKey3, one, one, 0, none, .blob 16, .wo, 3, [0], .kept, .any⟩,
  ⟨P.tirLeadPref, one, one, 3, (some 0x100), .uint 1, .rwp, 2, [0x80], .journal, .any⟩,
  ⟨P.tirSeatCfg, one, one, 3, (some 0x102), .uint 2, .rwp, 2, [0xFFFE], .journal, .hostSeat⟩,
  ⟨P.tirBudgetW, one, one, 3, (some 0x104), .uint 4, .rwp, 2, [0x186A0], .journal, .any⟩,
  ⟨P.tirPhaseMaxW, one, one, 3, (some 0x108), .uint 4, .rwp, 2, [0xFFFFFFFF], .journal, .any⟩,
  ⟨P.tirHelloS, one, one, 3, (some 0x10C), .uint 1, .rwp, 2, [0xA], .journal, .range 5 60⟩,
  ⟨P.tirTimeSrc, one, one, 3, (some 0x10D), .uint 1, .rwp, 2, [0], .journal, .cross⟩,
  ⟨P.tirLeadSeat, one, one, 3, (some 0x110), .uint 2, .ro, 0, [0xFFFE], .lost, .any⟩,
  ⟨P.tirLeadId, one, one, 3, (some 0x118), .uint 8, .ro, 0, [0], .lost, .any⟩,
  ⟨P.tirCycle, one, one, 3, (some 0x120), .uint 4, .ro, 0, [0], .lost, .any⟩]

/-- Rows of area 0x1, part 2. -/
def objects1_1 : List Obj := [
  ⟨P.tirPhaseClass, one, one, 3, (some 0x124), .uint 1, .ro, 0, [7], .lost, .any⟩,
  ⟨P.tirElections, one, one, 3, (some 0x128), .uint 4, .ro, 0, [0], .journal, .any⟩,
  ⟨P.tirHouseKey, one, one, 3, none, .blob 16, .wo, 2, [0], .kept, .any⟩,
  ⟨P.tirSafeW, one, one, 9, (some 0x3800), .uint 4, .rwp, 2, [0xE74], .journal, .any⟩,
  ⟨P.tirShareW, one, one, 9, (some 0x3804), .uint 4, .ro, 0, [0xE74], .lost, .any⟩,
  ⟨P.tirShareSrc, one, one, 9, (some 0x3808), .uint 1, .ro, 0, [0], .lost, .any⟩,
  ⟨P.tirShareUntil, one, one, 9, (some 0x3810), .uint 8, .ro, 0, [0], .lost, .any⟩]

/-- Every row of area 0x1. -/
def objects1 : List Obj := objects1_0 ++ objects1_1

/-- Rows of area 0x2, part 1. -/
def objects2_0 : List Obj := [
  ⟨P.pwIslandState, one, one, 7, (some 0x200), .uint 8, .ro, 0, [0], .lost, .any⟩,
  ⟨P.pwFabReqTimeout, one, one, 7, (some 0x208), .uint 2, .rwp, 4, [0x400], .journal, .range 64 65535⟩,
  ⟨P.pwFabRspTimeout, one, one, 7, (some 0x20C), .uint 2, .rwp, 4, [0x800], .journal, .range 256 65535⟩,
  ⟨P.pwFabAborts 0, ⟨0, 24, 1, 4⟩, one, 7, (some 0x220), .uint 4, .ro, 0, [0], .lost, .any⟩,
  ⟨P.pwFabBusErrors, one, one, 7, (some 0x280), .uint 4, .ro, 0, [0], .lost, .any⟩,
  ⟨P.pwFabEventDrops, one, one, 7, (some 0x284), .uint 4, .ro, 0, [0], .lost, .any⟩,
  ⟨P.pwFabRspDrops, one, one, 7, (some 0x288), .uint 4, .ro, 0, [0], .lost, .any⟩,
  ⟨P.pwFabLastFault, one, one, 7, (some 0x290), .uint 16, .ro, 0, [0], .lost, .any⟩,
  ⟨P.ckSrcStatus, one, one, 0, (some 0x400), .uint 4, .ro, 0, [0x20], .lost, .any⟩,
  ⟨P.ckJudgeWin 0, ⟨0, 7, 1, 16⟩, one, 0, (some 0x410), .uint 4, .rwp, 4, [0x1000, 0x100000, 0x1900, 0x1900, 0x1900, 0x1900, 0x1900], .journal, .range 256 16777216⟩,
  ⟨P.ckJudgeTol 0, ⟨0, 7, 1, 16⟩, one, 0, (some 0x414), .uint 2, .rwp, 4, [0x190, 0x32, 0xA, 0xA, 0xA, 0xA, 0xA], .journal, .range 1 1000⟩,
  ⟨P.ckJudgeK 0, ⟨0, 7, 1, 16⟩, one, 0, (some 0x418), .uint 1, .rwp, 4, [8, 4, 4, 4, 4, 4, 4], .journal, .range 1 64⟩,
  ⟨P.ckJudgeLimit 0, ⟨0, 7, 1, 16⟩, one, 0, (some 0x41C), .uint 2, .rwp, 4, [0x1F4, 0xBB8, 0x64, 0xA, 0xA, 0xA, 0xA], .journal, .range 1 60000⟩,
  ⟨P.ckRc16Trim, one, one, 0, (some 0x480), .uint 1, .ro, 0, [0x80], .lost, .any⟩,
  ⟨P.ckRc16Error, one, one, 0, (some 0x482), .int 2, .ro, 0, [0], .lost, .any⟩,
  ⟨P.ckRc16Retrim, one, one, 0, (some 0x484), .uint 2, .rwp, 2, [0xA], .journal, .range 1 3600⟩,
  ⟨P.ckIslandSel, one, one, 0, (some 0x490), .uint 8, .ro, 0, [0], .lost, .any⟩,
  ⟨P.ckForceEn, one, one, 0, (some 0x498), .uint 4, .rwp, 2, [0xFFFFFD], .journal, .mask 0x00FFFFFD⟩,
  ⟨P.ckHangTimeout, one, one, 0, (some 0x49C), .uint 2, .rwp, 2, [0x40], .journal, .range 8 4096⟩,
  ⟨P.ckForceNow, one, one, 0, (some 0x4A0), .uint 4, .wo, 2, [0], .lost, .mask 0x00FFFFFD⟩,
  ⟨P.ckHung, one, one, 0, (some 0x4A4), .uint 4, .ro, 0, [0], .lost, .any⟩,
  ⟨P.ckForcedCount, one, one, 0, (some 0x4B0), .uint 4, .ro, 0, [0], .journal, .any⟩,
  ⟨P.ckLastForced, one, one, 0, (some 0x4C0), .uint 16, .ro, 0, [0], .lost, .any⟩,
  ⟨P.ckMonDead, one, one, 0, (some 0x4D0), .uint 1, .rwp, 4, [0x10], .journal, .range 4 255⟩,
  ⟨P.ckPllaMhz, one, one, 0, (some 0x4D2), .uint 2, .rwp, 2, [0x4B0], .journal, .cross⟩,
  ⟨P.ckPllaActual, one, one, 0, (some 0x4D4), .uint 2, .ro, 0, [0], .lost, .any⟩,
  ⟨P.ckObsSel, one, one, 0, (some 0x4D6), .uint 1, .rw, 2, [0xFF], .lost, .cross⟩,
  ⟨P.ckIrc8Ppm, one, one, 0, (some 0x4D8), .int 4, .ro, 0, [0], .lost, .any⟩,
  ⟨P.pwTierReq, one, one, 0, (some 0x600), .uint 1, .rwp, 2, [0x46], .journal, .oneOf [0x4B, 0x4D, 0x44, 0x46]⟩,
  ⟨P.pwBootStatus, one, one, 0, (some 0x601), .uint 1, .ro, 0, [0], .lost, .any⟩]

/-- Rows of area 0x2, part 2. -/
def objects2_1 : List Obj := [
  ⟨P.pwStartCount, one, one, 0, (some 0x604), .uint 4, .ro, 0, [0], .journal, .any⟩,
  ⟨P.pwDomainState, one, one, 0, (some 0x610), .uint 16, .ro, 0, [0x2A], .lost, .any⟩,
  ⟨P.pwRetainEn, one, one, 0, (some 0x620), .uint 2, .rwp, 2, [0], .journal, .mask 0x03FF⟩,
  ⟨P.pwResetCause, one, one, 0, (some 0x630), .uint 4, .ro, 0, [0], .lost, .any⟩,
  ⟨P.pwResetReq, one, one, 0, (some 0x634), .uint 1, .wo, 2, [0], .lost, .oneOf [0x5A]⟩,
  ⟨P.pwVsupMv, one, one, 0, (some 0x640), .uint 2, .ro, 0, [0], .lost, .any⟩,
  ⟨P.pwVaonMv, one, one, 0, (some 0x642), .uint 2, .ro, 0, [0], .lost, .any⟩,
  ⟨P.pwVcoreMv, one, one, 0, (some 0x644), .uint 2, .ro, 0, [0], .lost, .any⟩,
  ⟨P.pwLastHoldup, one, one, 0, (some 0x648), .uint 4, .ro, 0, [0], .journal, .any⟩,
  ⟨P.pwVaonMinMv, one, one, 0, (some 0x64C), .uint 2, .ro, 0, [0], .journal, .any⟩,
  ⟨P.pwTj, one, one, 0, (some 0x650), .int 2, .ro, 0, [0], .lost, .any⟩,
  ⟨P.pwThermT1, one, one, 0, (some 0x652), .int 2, .rwp, 2, [0x4B0], .journal, .cross⟩,
  ⟨P.pwThermT2, one, one, 0, (some 0x654), .int 2, .rwp, 2, [0x514], .journal, .cross⟩,
  ⟨P.pwThermT3, one, one, 0, (some 0x656), .int 2, .rwp, 2, [0x550], .journal, .cross⟩,
  ⟨P.pwThermHyst, one, one, 0, (some 0x658), .uint 1, .rwp, 2, [0x32], .journal, .range 10 200⟩,
  ⟨P.pwThermLevel, one, one, 0, (some 0x659), .uint 1, .ro, 0, [0], .lost, .any⟩,
  ⟨P.pwThermEvents, one, one, 0, (some 0x65C), .uint 4, .ro, 0, [0], .journal, .any⟩,
  ⟨P.pwDarkSrc, one, one, 0, (some 0x660), .uint 1, .ro, 0, [1], .lost, .any⟩,
  ⟨P.cbdStatus 0, ⟨0, 32, 1, 64⟩, one, 7, (some 0x1020), .uint 8, .ro, 0, [0], .lost, .any⟩,
  ⟨P.cbdPeek 0, ⟨0, 32, 1, 64⟩, one, 7, (some 0x1010), .uint 16, .ro, 0, [0], .lost, .any⟩,
  ⟨P.cbdConfig 0, ⟨0, 32, 1, 64⟩, one, 7, (some 0x1030), .uint 8, .ro, 0, [0x880000000, 0xC80000000, 0x2C00000100, 0x2800001000, 0x100000100, 0x2800000002, 0x2900000002, 0x100000200, 0x2C00000200, 0x900001000, 0x200000200, 0x800000200, 0x100000800, 0x2B00000002, 0x200000400, 0x2A00000004, 0x900000004, 0x2C0000000C, 0x200001000, 0x3000F0000, 0x2C00000008, 0x300001000, 0x40000001C, 0x40000001C, 0xC00000000, 0xC00000000, 0xC00000000, 0xC00000000, 0xC00000000, 0xC00000000, 0xC00000000, 0xC00000000], .lost, .any⟩,
  ⟨P.cbdPending, one, one, 7, (some 0x1800), .uint 4, .ro, 0, [0], .lost, .any⟩,
  ⟨P.cbdResultNew, one, one, 7, (some 0x1804), .uint 4, .ro, 0, [0], .lost, .any⟩,
  ⟨P.cbdRefused, one, one, 7, (some 0x1808), .uint 4, .ro, 0, [0], .lost, .any⟩,
  ⟨P.cbdAborted, one, one, 7, (some 0x180C), .uint 4, .ro, 0, [0], .lost, .any⟩,
  ⟨P.cbdRetractions, one, one, 7, (some 0x1810), .uint 4, .ro, 0, [0], .lost, .any⟩]

/-- Every row of area 0x2. -/
def objects2 : List Obj := objects2_0 ++ objects2_1

/-- Rows of area 0x3. -/
def objects3_0 : List Obj := [
  ⟨P.irnSafeState, one, one, 24, (some 0x100), .uint 4, .ro, 0, [0], .kept, .any⟩,
  ⟨P.irnSiState, one, one, 24, (some 0x104), .uint 4, .ro, 0, [0], .kept, .any⟩,
  ⟨P.irnFaults, one, one, 24, (some 0x108), .uint 4, .ro, 0, [0x8000], .kept, .any⟩,
  ⟨P.irnPromptFails, one, one, 24, (some 0x10C), .uint 4, .ro, 0, [0], .kept, .any⟩,
  ⟨P.irnTemp, one, one, 24, (some 0x110), .int 2, .ro, 0, [0], .kept, .any⟩,
  ⟨P.wdnSpeed, one, one, 8, (some 0x700), .int 4, .ro, 0, [0], .lost, .any⟩,
  ⟨P.wdnBrakeLast, one, one, 8, (some 0x708), .uint 8, .ro, 0, [0], .lost, .any⟩,
  ⟨P.wdnSiRole 0, ⟨0, 8, 256, 16⟩, one, 8, (some 0x800), .uint 1, .rwp, 3, [0], .journal, .range 0 6⟩,
  ⟨P.wdnSiPairing 0, ⟨0, 8, 256, 16⟩, one, 8, (some 0x801), .uint 1, .rwp, 3, [0], .journal, .range 0 1⟩,
  ⟨P.wdnSiDiscMs 0, ⟨0, 8, 256, 16⟩, one, 8, (some 0x802), .uint 2, .rwp, 3, [0x64], .journal, .range 4 2000⟩,
  ⟨P.wdnSiFilter 0, ⟨0, 8, 256, 16⟩, one, 8, (some 0x804), .uint 1, .rwp, 3, [0xC], .journal, .range 1 200⟩,
  ⟨P.wdnSiTest 0, ⟨0, 8, 256, 16⟩, one, 8, (some 0x805), .bool, .rwp, 3, [1], .journal, .any⟩,
  ⟨P.wdnSiTarget 0, ⟨0, 8, 256, 16⟩, one, 8, (some 0x806), .uint 1, .rwp, 3, [0], .journal, .mask 0x3F⟩,
  ⟨P.wdnSoDark 0, ⟨0, 6, 256, 16⟩, one, 8, (some 0x900), .bool, .rwp, 3, [1], .journal, .any⟩,
  ⟨P.wdnSoMirrorMs 0, ⟨0, 6, 256, 16⟩, one, 8, (some 0x902), .uint 2, .rwp, 3, [0x32], .journal, .range 10 500⟩,
  ⟨P.wdnTestPeriod, one, one, 8, (some 0xA00), .uint 2, .rwp, 3, [0x3E8], .journal, .range 100 60000⟩,
  ⟨P.wdnTpPeriod, one, one, 8, (some 0xA02), .uint 2, .rwp, 3, [0x32], .journal, .range 10 1000⟩,
  ⟨P.wdnTpWidth, one, one, 8, (some 0xA04), .uint 2, .rwp, 3, [0xFA], .journal, .range 100 1000⟩,
  ⟨P.wdnSlsLimit, one, one, 8, (some 0xB00), .uint 4, .rwp, 3, [0x4E20], .journal, .any⟩,
  ⟨P.wdnSlsTolMs, one, one, 8, (some 0xB04), .uint 2, .rwp, 3, [0xA], .journal, .range 1 100⟩,
  ⟨P.wdnSs1Ms, one, one, 8, (some 0xB06), .uint 2, .rwp, 3, [0x1F4], .journal, .range 50 5000⟩,
  ⟨P.wdnBrakeInterval, one, one, 8, (some 0xB08), .uint 2, .rwp, 3, [0x1E0], .journal, .range 10 1440⟩,
  ⟨P.wdnBrakeSpeed, one, one, 8, (some 0xB0A), .int 2, .rwp, 3, [0x3E8], .journal, .any⟩,
  ⟨P.wdnBrakeTime, one, one, 8, (some 0xB0C), .uint 2, .rwp, 3, [0x1F4], .journal, .range 100 5000⟩,
  ⟨P.wdnBrakeMax, one, one, 8, (some 0xB0E), .uint 2, .rwp, 3, [0x28], .journal, .range 1 10000⟩,
  ⟨P.irnOverspeed, one, one, 8, (some 0xB10), .uint 4, .rwp, 3, [0x3D0900], .journal, .range 10000 40000000⟩,
  ⟨P.wdnBrakeGrace, one, one, 8, (some 0xB14), .uint 2, .rwp, 3, [0x78], .journal, .range 0 1440⟩,
  ⟨P.wdnFaultAck, one, one, 8, (some 0xC00), .uint 4, .rw, 3, [0], .lost, .mask 0xFDFF⟩]

/-- Every row of area 0x3. -/
def objects3 : List Obj := objects3_0

/-- Rows of area 0x4. -/
def objects4_0 : List Obj := [
  ⟨P.irnCpState, one, one, 24, (some 0x200), .uint 1, .ro, 0, [0], .kept, .any⟩,
  ⟨P.irnCpHighMv, one, one, 24, (some 0x202), .int 2, .ro, 0, [0], .kept, .any⟩,
  ⟨P.irnCpLowMv, one, one, 24, (some 0x204), .int 2, .ro, 0, [0], .kept, .any⟩,
  ⟨P.irnCpDuty, one, one, 24, (some 0x206), .uint 2, .ro, 0, [0x3E8], .kept, .any⟩,
  ⟨P.irnPpOhm, one, one, 24, (some 0x208), .uint 2, .ro, 0, [0xFFFF], .kept, .any⟩,
  ⟨P.irnIsoR, one, one, 24, (some 0x20C), .uint 4, .ro, 0, [0xFFFFFFFF], .kept, .any⟩,
  ⟨P.irnRcDcUa, one, one, 24, (some 0x210), .int 4, .ro, 0, [0], .kept, .any⟩,
  ⟨P.irnEarthFaults, one, one, 24, (some 0x214), .uint 1, .ro, 0, [0], .kept, .any⟩,
  ⟨P.irnIsoWarnOpv, one, one, 24, (some 0x240), .uint 2, .rwp, 3, [0x1F4], .journal, .cross⟩,
  ⟨P.irnIsoFaultOpv, one, one, 24, (some 0x242), .uint 2, .rwp, 3, [0x64], .journal, .cross⟩,
  ⟨P.irnIsoPeriodMs, one, one, 24, (some 0x244), .uint 2, .rwp, 3, [0x7D0], .journal, .range 500 4000⟩,
  ⟨P.irnRcScale, one, one, 24, (some 0x246), .uint 2, .rwp, 3, [0x14], .journal, .range 1 1000⟩,
  ⟨P.irnRcCurve, one, one, 24, (some 0x250), .uint 16, .rwp, 3, [0xBB8002807D000640258012C003C2710], .journal, .cross⟩,
  ⟨P.wdnAcMaxDa, one, one, 8, (some 0xD00), .uint 2, .rwp, 2, [0x140], .journal, .range 60 800⟩,
  ⟨P.wdnDcMaxV, one, one, 8, (some 0xD02), .uint 2, .rwp, 2, [0x3E8], .journal, .range 150 1000⟩,
  ⟨P.wdnDcMaxA, one, one, 8, (some 0xD04), .uint 2, .rwp, 2, [0xC8], .journal, .range 1 500⟩,
  ⟨P.wdnDcRampAs, one, one, 8, (some 0xD06), .uint 2, .rwp, 2, [0xC8], .journal, .range 10 2000⟩,
  ⟨P.wdnPrechargeDv, one, one, 8, (some 0xD08), .uint 2, .rwp, 2, [0x14], .journal, .range 5 50⟩,
  ⟨P.wdnPrechargeMs, one, one, 8, (some 0xD0A), .uint 2, .rwp, 2, [0x1B58], .journal, .range 1000 20000⟩,
  ⟨P.wdnAllowD, one, one, 8, (some 0xD0C), .bool, .rwp, 2, [0], .journal, .any⟩,
  ⟨P.wdnPpMode, one, one, 8, (some 0xD0D), .uint 1, .rwp, 2, [0], .journal, .range 0 1⟩,
  ⟨P.wdnChatterMax, one, one, 8, (some 0xD0E), .uint 1, .rwp, 2, [0xA], .journal, .range 4 50⟩,
  ⟨P.wdnHlcOrder, one, one, 8, (some 0xD10), .uint 4, .rwp, 2, [0x30201], .journal, .cross⟩,
  ⟨P.wdnHlcAc, one, one, 8, (some 0xD14), .bool, .rwp, 2, [1], .journal, .any⟩,
  ⟨P.wdnSesState, one, one, 8, (some 0xD40), .uint 1, .ro, 0, [0], .lost, .any⟩,
  ⟨P.wdnSesProto, one, one, 8, (some 0xD41), .uint 1, .ro, 0, [0], .lost, .any⟩,
  ⟨P.wdnSesEnd, one, one, 8, (some 0xD42), .uint 1, .ro, 0, [0], .lost, .any⟩,
  ⟨P.wdnViolCount, one, one, 8, (some 0xD44), .uint 4, .ro, 0, [0], .lost, .any⟩,
  ⟨P.wdnViolLast, one, one, 8, (some 0xD50), .uint 16, .ro, 0, [0], .lost, .any⟩]

/-- Every row of area 0x4. -/
def objects4 : List Obj := objects4_0

/-- Rows of area 0x5, part 1. -/
def objects5_0 : List Obj := [
  ⟨P.flyStatus, one, one, 21, (some 0x0), .uint 4, .ro, 0, [0], .lost, .any⟩,
  ⟨P.flyPos, one, one, 21, (some 0x4), .int 4, .ro, 0, [0], .lost, .any⟩,
  ⟨P.flySpeed, one, one, 21, (some 0x8), .int 4, .ro, 0, [0], .lost, .any⟩,
  ⟨P.flyCmdOut, one, one, 21, (some 0xC), .int 2, .ro, 0, [0], .lost, .any⟩,
  ⟨P.flyToothDev, one, one, 21, (some 0x10), .int 4, .ro, 0, [0], .lost, .any⟩,
  ⟨P.flyToothCount, one, one, 21, (some 0x14), .int 4, .ro, 0, [0], .lost, .any⟩,
  ⟨P.flyLastReversal, one, one, 21, (some 0x18), .int 4, .ro, 0, [0], .lost, .any⟩,
  ⟨P.flyLastEvent, one, one, 21, (some 0x20), .uint 16, .ro, 0, [0], .lost, .any⟩,
  ⟨P.flyEvents, one, one, 21, (some 0x30), .uint 4, .ro, 0, [0], .lost, .any⟩,
  ⟨P.flyCmd, one, one, 21, (some 0x40), .uint 1, .wo, 1, [0], .lost, .oneOf [1, 3, 4, 5, 6, 7]⟩,
  ⟨P.flyTarget, one, one, 21, (some 0x44), .int 4, .rw, 1, [0], .lost, .any⟩,
  ⟨P.flyVmax, one, one, 21, (some 0x100), .uint 4, .rwp, 2, [0x3E80], .journal, .cross⟩,
  ⟨P.flyAcc, one, one, 21, (some 0x104), .uint 4, .rwp, 2, [0x9C40], .journal, .range 100 100000000⟩,
  ⟨P.flyDec, one, one, 21, (some 0x108), .uint 4, .rwp, 2, [0x9C40], .journal, .cross⟩,
  ⟨P.flyJerk, one, one, 21, (some 0x10C), .uint 4, .rwp, 2, [0x61A80], .journal, .cross⟩,
  ⟨P.flyQsDec, one, one, 21, (some 0x110), .uint 4, .rwp, 2, [0x27100], .journal, .cross⟩,
  ⟨P.flyQsJerk, one, one, 21, (some 0x114), .uint 4, .rwp, 2, [0x30D400], .journal, .cross⟩,
  ⟨P.flyCreep, one, one, 21, (some 0x118), .uint 4, .rwp, 2, [0x3E8], .journal, .cross⟩,
  ⟨P.flySoftMin, one, one, 21, (some 0x11C), .int 4, .rwp, 2, [0], .journal, .cross⟩,
  ⟨P.flySoftMax, one, one, 21, (some 0x120), .int 4, .rwp, 2, [0xEA60], .journal, .cross⟩,
  ⟨P.flyInPosTol, one, one, 21, (some 0x124), .uint 2, .rwp, 2, [4], .journal, .range 1 1000⟩,
  ⟨P.flyParkPos, one, one, 21, (some 0x128), .int 4, .rwp, 2, [0x3E8], .journal, .cross⟩,
  ⟨P.flyKp, one, one, 21, (some 0x12C), .uint 2, .rwp, 2, [0x32], .journal, .range 0 2000⟩,
  ⟨P.flyCmdScale, one, one, 21, (some 0x12E), .uint 2, .rwp, 2, [0x3E8], .journal, .range 1 65535⟩,
  ⟨P.flyOutMode, one, one, 21, (some 0x130), .uint 1, .rwp, 2, [0], .journal, .range 0 1⟩,
  ⟨P.flyEncFilter, one, one, 21, (some 0x131), .uint 1, .rwp, 2, [2], .journal, .range 0 10⟩,
  ⟨P.flyHomeDir, one, one, 21, (some 0x140), .uint 1, .rwp, 2, [0], .journal, .range 0 1⟩,
  ⟨P.flyHomeSpeed, one, one, 21, (some 0x144), .uint 4, .rwp, 2, [0xFA0], .journal, .cross⟩,
  ⟨P.flyHomeOffset, one, one, 21, (some 0x148), .int 4, .rwp, 2, [0], .journal, .any⟩,
  ⟨P.flyBrakeRelMs, one, one, 21, (some 0x14C), .uint 2, .rwp, 2, [0x96], .journal, .range 10 2000⟩]

/-- Rows of area 0x5, part 2. -/
def objects5_1 : List Obj := [
  ⟨P.flyBrakeSetMs, one, one, 21, (some 0x14E), .uint 2, .rwp, 2, [0x96], .journal, .range 10 2000⟩,
  ⟨P.flyStoSettleMs, one, one, 21, (some 0x150), .uint 2, .rwp, 2, [0x14], .journal, .range 1 500⟩,
  ⟨P.flyToothPitch, one, one, 21, (some 0x180), .uint 4, .rwp, 2, [0x3E8], .journal, .cross⟩,
  ⟨P.flyToothTol, one, one, 21, (some 0x184), .uint 4, .rwp, 2, [0x64], .journal, .cross⟩,
  ⟨P.flyCueGuard, one, one, 21, (some 0x188), .uint 4, .rwp, 2, [0x7D0], .journal, .range 0 1000000⟩,
  ⟨P.flyToothEn, one, one, 21, (some 0x18C), .bool, .rwp, 2, [1], .journal, .any⟩,
  ⟨P.flyCuePos 0, ⟨0, 16, 256, 16⟩, one, 21, (some 0x400), .int 4, .rw, 1, [0], .lost, .any⟩,
  ⟨P.flyCueCtrl 0, ⟨0, 16, 256, 16⟩, one, 21, (some 0x404), .uint 1, .rw, 1, [0], .lost, .cross⟩]

/-- Every row of area 0x5. -/
def objects5 : List Obj := objects5_0 ++ objects5_1

/-- Rows of area 0x6, part 1. -/
def objects6_0 : List Obj := [
  ⟨P.irnMcStatus, one, one, 24, (some 0x300), .uint 4, .ro, 0, [0], .kept, .any⟩,
  ⟨P.irnMcSeq, one, one, 24, (some 0x304), .uint 4, .ro, 0, [0], .kept, .any⟩,
  ⟨P.irnMcFramesLost, one, one, 24, (some 0x308), .uint 4, .ro, 0, [0], .kept, .any⟩,
  ⟨P.irnMainsPeriod, one, one, 24, (some 0x30C), .uint 4, .ro, 0, [0], .kept, .any⟩,
  ⟨P.irnMainsState, one, one, 24, (some 0x310), .uint 1, .ro, 0, [0], .kept, .any⟩,
  ⟨P.tlyPcPeriodSrc, one, one, 9, (some 0x2000), .uint 1, .rwp, 2, [0], .journal, .cross⟩,
  ⟨P.tlyPcPeriod, one, one, 9, (some 0x2004), .uint 4, .rwp, 2, [0x3D0900], .journal, .range 1000000 16000000⟩,
  ⟨P.tlyCalCmd, one, one, 9, (some 0x2008), .uint 4, .wo, 1, [0], .lost, .cross⟩,
  ⟨P.tlyCalState, one, one, 9, (some 0x200C), .uint 4, .ro, 0, [0], .lost, .any⟩,
  ⟨P.tlyCalLoRef, one, one, 9, (some 0x2010), .int 4, .rw, 1, [0], .lost, .any⟩,
  ⟨P.tlyCalHiRef, one, one, 9, (some 0x2014), .int 4, .rw, 1, [0], .lost, .any⟩,
  ⟨P.tlyCalWindows, one, one, 9, (some 0x2018), .uint 2, .rwp, 1, [0x10], .journal, .range 4 1024⟩,
  ⟨P.tlyCheckHours, one, one, 9, (some 0x201C), .uint 2, .rwp, 2, [0x18], .journal, .range 1 720⟩,
  ⟨P.tlyMainsCross, one, one, 9, (some 0x2020), .uint 8, .ro, 0, [0], .lost, .any⟩,
  ⟨P.tlyMcFs 0, ⟨0, 12, 256, 32⟩, one, 9, (some 0x2100), .uint 4, .rwp, 2, [0x3B9ACA00, 0x2540BE40, 0x3B9ACA00, 0x2540BE40, 0x3B9ACA00, 0x3B9ACA00, 0x3B9ACA00, 0x5F5E100, 0x5F5E100, 0x5F5E100, 0x5F5E100, 0xF4240], .journal, .range 1 4000000000⟩,
  ⟨P.tlyMcOffset 0, ⟨0, 12, 256, 32⟩, one, 9, (some 0x2104), .int 4, .ro, 0, [0], .kept, .any⟩,
  ⟨P.tlyMcGain 0, ⟨0, 12, 256, 32⟩, one, 9, (some 0x2108), .int 4, .ro, 0, [0], .kept, .any⟩,
  ⟨P.tlyMcCalTime 0, ⟨0, 12, 256, 32⟩, one, 9, (some 0x2110), .uint 8, .ro, 0, [0], .kept, .any⟩,
  ⟨P.tlyMcCheckPpm 0, ⟨0, 12, 256, 32⟩, one, 9, (some 0x2118), .int 4, .ro, 0, [0], .lost, .any⟩,
  ⟨P.tlyPcMode 0, ⟨0, 16, 256, 64⟩, one, 9, (some 0x2400), .uint 1, .rwp, 1, [0], .journal, .range 0 3⟩,
  ⟨P.tlyPcInLo 0, ⟨0, 16, 256, 64⟩, one, 9, (some 0x2404), .int 4, .rwp, 1, [0xFA0], .journal, .cross⟩,
  ⟨P.tlyPcInHi 0, ⟨0, 16, 256, 64⟩, one, 9, (some 0x2408), .int 4, .rwp, 1, [0x4E20], .journal, .cross⟩,
  ⟨P.tlyPcEngLo 0, ⟨0, 16, 256, 64⟩, one, 9, (some 0x240C), .int 4, .rwp, 1, [0], .journal, .any⟩,
  ⟨P.tlyPcEngHi 0, ⟨0, 16, 256, 64⟩, one, 9, (some 0x2410), .int 4, .rwp, 1, [0x2710], .journal, .any⟩,
  ⟨P.tlyPcValue 0, ⟨0, 16, 256, 64⟩, one, 9, (some 0x2414), .int 4, .ro, 0, [0], .lost, .any⟩,
  ⟨P.tlyPcRaw 0, ⟨0, 16, 256, 64⟩, one, 9, (some 0x2418), .int 4, .ro, 0, [0], .lost, .any⟩,
  ⟨P.tlyPcFlags 0, ⟨0, 16, 256, 64⟩, one, 9, (some 0x241C), .uint 1, .ro, 0, [0], .lost, .any⟩,
  ⟨P.tlyPcTime 0, ⟨0, 16, 256, 64⟩, one, 9, (some 0x2420), .uint 8, .ro, 0, [0], .lost, .any⟩,
  ⟨P.tlyPcOffset 0, ⟨0, 16, 256, 64⟩, one, 9, (some 0x2428), .int 4, .ro, 0, [0], .kept, .any⟩,
  ⟨P.tlyPcGain 0, ⟨0, 16, 256, 64⟩, one, 9, (some 0x242C), .int 4, .ro, 0, [0], .kept, .any⟩]

/-- Rows of area 0x6, part 2. -/
def objects6_1 : List Obj := [
  ⟨P.tlyPcCalTime 0, ⟨0, 16, 256, 64⟩, one, 9, (some 0x2430), .uint 8, .ro, 0, [0], .kept, .any⟩,
  ⟨P.tlySeq, one, one, 9, (some 0x3000), .uint 4, .ro, 0, [0], .lost, .any⟩,
  ⟨P.tlyCommitMs, one, one, 9, (some 0x3004), .uint 2, .rwp, 2, [0x3E8], .journal, .range 100 60000⟩,
  ⟨P.tlyLastCommit, one, one, 9, (some 0x3008), .uint 8, .ro, 0, [0], .journal, .any⟩,
  ⟨P.tlyGapsRecovered, one, one, 9, (some 0x3010), .uint 4, .ro, 0, [0], .journal, .any⟩,
  ⟨P.tlyGapIntervals, one, one, 9, (some 0x3018), .uint 8, .ro, 0, [0], .journal, .any⟩,
  ⟨P.tlyLosses, one, one, 9, (some 0x3020), .uint 4, .ro, 0, [0], .journal, .any⟩,
  ⟨P.tlyInRms, one, one, 9, (some 0x3024), .int 4, .ro, 0, [0], .lost, .any⟩,
  ⟨P.tlyFreq, one, one, 9, (some 0x3028), .uint 4, .ro, 0, [0], .lost, .any⟩,
  ⟨P.tlyOutMode 0, ⟨0, 3, 256, 128⟩, one, 9, (some 0x3100), .uint 1, .rwp, 2, [0], .journal, .range 0 1⟩,
  ⟨P.tlyOutTotal 0, ⟨0, 3, 256, 128⟩, one, 9, (some 0x3110), .int 16, .ro, 0, [0], .journal, .any⟩,
  ⟨P.tlyOutTotalRes 0, ⟨0, 3, 256, 128⟩, one, 9, (some 0x3120), .uint 8, .ro, 0, [0], .journal, .any⟩,
  ⟨P.tlyOutImport 0, ⟨0, 3, 256, 128⟩, one, 9, (some 0x3130), .uint 16, .ro, 0, [0], .journal, .any⟩,
  ⟨P.tlyOutExport 0, ⟨0, 3, 256, 128⟩, one, 9, (some 0x3140), .uint 16, .ro, 0, [0], .journal, .any⟩,
  ⟨P.tlyOutIeRes 0, ⟨0, 3, 256, 128⟩, one, 9, (some 0x3150), .uint 16, .ro, 0, [0], .journal, .any⟩,
  ⟨P.tlyOutV 0, ⟨0, 3, 256, 128⟩, one, 9, (some 0x3160), .int 4, .ro, 0, [0], .lost, .any⟩,
  ⟨P.tlyOutI 0, ⟨0, 3, 256, 128⟩, one, 9, (some 0x3164), .int 4, .ro, 0, [0], .lost, .any⟩,
  ⟨P.tlyOutP 0, ⟨0, 3, 256, 128⟩, one, 9, (some 0x3168), .int 8, .ro, 0, [0], .lost, .any⟩,
  ⟨P.tlyOutFlags 0, ⟨0, 3, 256, 128⟩, one, 9, (some 0x3170), .uint 1, .ro, 0, [0], .lost, .any⟩,
  ⟨P.tlyPhVRms 0, ⟨0, 3, 256, 64⟩, one, 9, (some 0x3300), .int 4, .ro, 0, [0], .lost, .any⟩,
  ⟨P.tlyPhIRms 0, ⟨0, 3, 256, 64⟩, one, 9, (some 0x3304), .int 4, .ro, 0, [0], .lost, .any⟩,
  ⟨P.tlyPhP 0, ⟨0, 3, 256, 64⟩, one, 9, (some 0x3308), .int 8, .ro, 0, [0], .lost, .any⟩,
  ⟨P.tlyPhImport 0, ⟨0, 3, 256, 64⟩, one, 9, (some 0x3310), .uint 16, .ro, 0, [0], .journal, .any⟩,
  ⟨P.tlyPhExport 0, ⟨0, 3, 256, 64⟩, one, 9, (some 0x3320), .uint 16, .ro, 0, [0], .journal, .any⟩,
  ⟨P.tlyPhIeRes 0, ⟨0, 3, 256, 64⟩, one, 9, (some 0x3330), .uint 16, .ro, 0, [0], .journal, .any⟩]

/-- Every row of area 0x6. -/
def objects6 : List Obj := objects6_0 ++ objects6_1

/-- Rows of area 0x7, part 1. -/
def objects7_0 : List Obj := [
  ⟨P.boxCivilOffset, one, one, 0, (some 0x800), .int 4, .rwp, 2, [0xFFFFFFDB], .journal, .srange (-50400) 50400⟩,
  ⟨P.boxWeekMap, one, one, 0, (some 0x804), .uint 2, .rwp, 2, [0], .journal, .mask 0x3FFF⟩,
  ⟨P.boxRateNow, one, one, 0, (some 0x806), .uint 1, .ro, 0, [0], .lost, .any⟩,
  ⟨P.boxNextSeam, one, one, 0, (some 0x808), .uint 8, .ro, 0, [0], .lost, .any⟩,
  ⟨P.boxSeason 0, ⟨0, 4, 256, 4⟩, one, 0, (some 0x810), .uint 4, .rwp, 2, [0x10800000, 0, 0, 0], .journal, .cross⟩,
  ⟨P.boxDay 0 0, ⟨0, 4, 256, 128⟩, ⟨0, 4, 1, 32⟩, 0, (some 0x840), .blob 24, .rwp, 2, [0x1FFF1FFF1FFF1FFF1FFF1FFF1FFF1FFF1FFF1FFF1FFF0000], .journal, .cross⟩,
  ⟨P.boxSpecial, one, one, 0, (some 0xA40), .blob 256, .rwp, 2, [0], .journal, .cross⟩,
  ⟨P.boxTmpCount 0, ⟨0, 11, 256, 32⟩, one, 0, (some 0xC00), .uint 4, .ro, 0, [0], .journal, .any⟩,
  ⟨P.boxTmpFirst 0, ⟨0, 11, 256, 32⟩, one, 0, (some 0xC08), .uint 8, .ro, 0, [0], .journal, .any⟩,
  ⟨P.boxTmpLast 0, ⟨0, 11, 256, 32⟩, one, 0, (some 0xC10), .uint 8, .ro, 0, [0], .journal, .any⟩,
  ⟨P.boxTmpDur 0, ⟨0, 11, 256, 32⟩, one, 0, (some 0xC18), .uint 8, .ro, 0, [0], .journal, .any⟩,
  ⟨P.boxTamperAlarm, one, one, 0, (some 0xD80), .uint 2, .ro, 0, [0], .journal, .any⟩,
  ⟨P.boxTamperBlock, one, one, 0, (some 0xD82), .uint 2, .rwp, 2, [0], .journal, .cross⟩,
  ⟨P.boxCredit, one, one, 12, (some 0x2000), .int 8, .ro, 0, [0], .journal, .any⟩,
  ⟨P.boxCreditMax, one, one, 12, (some 0x2008), .int 8, .rwp, 2, [0x2540BE400], .journal, .cross⟩,
  ⟨P.boxPayMinStart, one, one, 12, (some 0x2010), .int 8, .rwp, 2, [0x2710], .journal, .cross⟩,
  ⟨P.boxEmergAmount, one, one, 12, (some 0x2018), .int 8, .rwp, 2, [0], .journal, .cross⟩,
  ⟨P.boxEmergThreshold, one, one, 12, (some 0x2020), .int 8, .rwp, 2, [0], .journal, .any⟩,
  ⟨P.boxEmergReq, one, one, 12, (some 0x2028), .bool, .wo, 1, [0], .lost, .cross⟩,
  ⟨P.boxEmergActive, one, one, 12, (some 0x2029), .bool, .ro, 0, [0], .journal, .any⟩,
  ⟨P.boxPending, one, one, 12, (some 0x2030), .int 8, .ro, 0, [0], .lost, .any⟩,
  ⟨P.boxCostRem, one, one, 12, (some 0x2038), .uint 8, .ro, 0, [0], .journal, .any⟩,
  ⟨P.boxSessionCost, one, one, 12, (some 0x2040), .int 8, .ro, 0, [0], .lost, .any⟩,
  ⟨P.boxImportOnly, one, one, 12, (some 0x2048), .uint 1, .rwp, 2, [7], .journal, .mask 0x07⟩,
  ⟨P.boxReverseW, one, one, 12, (some 0x204C), .uint 4, .rwp, 2, [0x989680], .journal, .range 1000 4000000000⟩,
  ⟨P.boxPrice 0 0, ⟨0, 4, 256, 32⟩, ⟨0, 8, 1, 4⟩, 12, (some 0x2100), .uint 4, .rwp, 2, [0], .journal, .any⟩,
  ⟨P.boxPriceSet, one, one, 12, (some 0x2180), .uint 1, .rwp, 2, [0], .journal, .range 0 3⟩,
  ⟨P.boxTokenIn, one, one, 12, none, .str 25, .wo, 1, [0], .lost, .cross⟩,
  ⟨P.boxTokenResult, one, one, 12, (some 0x2200), .uint 4, .ro, 0, [0xFF00], .lost, .any⟩,
  ⟨P.boxTokenRev, one, one, 12, (some 0x2204), .uint 1, .ro, 0, [0], .journal, .any⟩]

/-- Rows of area 0x7, part 2. -/
def objects7_1 : List Obj := [
  ⟨P.boxSerialHigh, one, one, 12, (some 0x2208), .uint 4, .ro, 0, [0xFFFFFFFF], .journal, .any⟩,
  ⟨P.boxSerialBitmap, one, one, 12, (some 0x2280), .blob 128, .ro, 0, [0], .journal, .any⟩,
  ⟨P.boxTokenFails, one, one, 12, (some 0x220C), .uint 4, .ro, 0, [0], .journal, .any⟩,
  ⟨P.boxTokenFailMax, one, one, 12, (some 0x2210), .uint 1, .rwp, 2, [5], .journal, .range 2 50⟩,
  ⟨P.boxTokenLockS, one, one, 12, (some 0x2212), .uint 2, .rwp, 2, [0x384], .journal, .range 60 65535⟩,
  ⟨P.boxTokenLockUntil, one, one, 12, (some 0x2218), .uint 8, .ro, 0, [0], .lost, .any⟩,
  ⟨P.boxMdSet, one, one, 12, (some 0x2400), .uint 1, .rwp, 2, [0], .journal, .range 0 2⟩,
  ⟨P.boxMdMin, one, one, 12, (some 0x2401), .uint 1, .rwp, 2, [0xF], .journal, .cross⟩,
  ⟨P.boxMdSubs, one, one, 12, (some 0x2402), .uint 1, .rwp, 2, [1], .journal, .cross⟩,
  ⟨P.boxMdReset, one, one, 12, (some 0x2403), .uint 1, .wo, 2, [0], .lost, .any⟩,
  ⟨P.boxMdLast, one, one, 12, (some 0x2408), .uint 8, .ro, 0, [0], .lost, .any⟩,
  ⟨P.boxMd 0, ⟨0, 8, 256, 32⟩, one, 12, (some 0x2440), .uint 8, .ro, 0, [0], .journal, .any⟩,
  ⟨P.boxMdTime 0, ⟨0, 8, 256, 32⟩, one, 12, (some 0x2448), .uint 8, .ro, 0, [0], .journal, .any⟩,
  ⟨P.boxMdCum 0, ⟨0, 8, 256, 32⟩, one, 12, (some 0x2450), .uint 8, .ro, 0, [0], .journal, .any⟩,
  ⟨P.boxMdResets 0, ⟨0, 8, 256, 32⟩, one, 12, (some 0x2458), .uint 4, .ro, 0, [0], .journal, .any⟩,
  ⟨P.tlyOutRateTotal 0 0, ⟨0, 3, 4096, 1024⟩, ⟨0, 8, 256, 128⟩, 9, (some 0x4000), .int 16, .ro, 0, [0], .journal, .any⟩,
  ⟨P.tlyOutRateTotalRes 0 0, ⟨0, 3, 4096, 1024⟩, ⟨0, 8, 256, 128⟩, 9, (some 0x4010), .uint 8, .ro, 0, [0], .journal, .any⟩,
  ⟨P.tlyOutRateImport 0 0, ⟨0, 3, 4096, 1024⟩, ⟨0, 8, 256, 128⟩, 9, (some 0x4020), .uint 16, .ro, 0, [0], .journal, .any⟩,
  ⟨P.tlyOutRateExport 0 0, ⟨0, 3, 4096, 1024⟩, ⟨0, 8, 256, 128⟩, 9, (some 0x4030), .uint 16, .ro, 0, [0], .journal, .any⟩,
  ⟨P.tlyOutRateIeRes 0 0, ⟨0, 3, 4096, 1024⟩, ⟨0, 8, 256, 128⟩, 9, (some 0x4040), .uint 16, .ro, 0, [0], .journal, .any⟩,
  ⟨P.tlyPhRateImport 0 0, ⟨0, 3, 4096, 1024⟩, ⟨0, 8, 256, 64⟩, 9, (some 0x5000), .uint 16, .ro, 0, [0], .journal, .any⟩,
  ⟨P.tlyPhRateExport 0 0, ⟨0, 3, 4096, 1024⟩, ⟨0, 8, 256, 64⟩, 9, (some 0x5010), .uint 16, .ro, 0, [0], .journal, .any⟩,
  ⟨P.tlyPhRateIeRes 0 0, ⟨0, 3, 4096, 1024⟩, ⟨0, 8, 256, 64⟩, 9, (some 0x5020), .uint 16, .ro, 0, [0], .journal, .any⟩]

/-- Every row of area 0x7. -/
def objects7 : List Obj := objects7_0 ++ objects7_1

/-- Rows of area 0x8. -/
def objects8_0 : List Obj := [
  ⟨P.tirGuard, one, one, 10, (some 0x100), .uint 1, .rwp, 2, [0], .journal, .range 0 1⟩,
  ⟨P.tirTmRefreshS, one, one, 10, (some 0x101), .uint 1, .rwp, 2, [0x1E], .journal, .range 10 110⟩,
  ⟨P.tirTmMargin, one, one, 10, (some 0x102), .uint 1, .rwp, 2, [0x1E], .journal, .range 0 100⟩,
  ⟨P.tirRetryMax, one, one, 10, (some 0x103), .uint 1, .rwp, 2, [4], .journal, .range 0 7⟩,
  ⟨P.tirNeighAgeS, one, one, 10, (some 0x104), .uint 1, .rwp, 2, [0x3C], .journal, .range 20 240⟩,
  ⟨P.tirNeighCount, one, one, 10, (some 0x110), .uint 2, .ro, 0, [0], .lost, .any⟩,
  ⟨P.tirNeighSel, one, one, 10, (some 0x112), .uint 1, .rw, 1, [0], .lost, .any⟩,
  ⟨P.tirNeighInfo, one, one, 10, (some 0x120), .uint 16, .ro, 0, [0], .lost, .any⟩,
  ⟨P.tirRouteSel, one, one, 10, (some 0x130), .uint 2, .rw, 1, [0], .lost, .range 0 4095⟩,
  ⟨P.tirRouteInfo, one, one, 10, (some 0x138), .uint 8, .ro, 0, [0], .lost, .any⟩,
  ⟨P.tirTxFrames, one, one, 10, (some 0x140), .uint 4, .ro, 0, [0], .lost, .any⟩,
  ⟨P.tirRxFrames, one, one, 10, (some 0x144), .uint 4, .ro, 0, [0], .lost, .any⟩,
  ⟨P.tirRetries, one, one, 10, (some 0x148), .uint 4, .ro, 0, [0], .lost, .any⟩,
  ⟨P.tirDrops, one, one, 10, (some 0x14C), .uint 4, .ro, 0, [0], .lost, .any⟩,
  ⟨P.tirFcErrors, one, one, 10, (some 0x150), .uint 4, .ro, 0, [0], .lost, .any⟩,
  ⟨P.tirMacFails, one, one, 10, (some 0x154), .uint 4, .ro, 0, [0], .lost, .any⟩,
  ⟨P.tirTmExpired, one, one, 10, (some 0x158), .uint 4, .ro, 0, [0], .lost, .any⟩,
  ⟨P.tirTestMode, one, one, 10, (some 0x160), .uint 1, .rw, 2, [0], .lost, .cross⟩,
  ⟨P.tirTestBits, one, one, 10, (some 0x168), .uint 8, .ro, 0, [0], .lost, .any⟩,
  ⟨P.tirTestErrors, one, one, 10, (some 0x170), .uint 4, .ro, 0, [0], .lost, .any⟩,
  ⟨P.tirGpState, one, one, 11, (some 0x100), .uint 1, .ro, 0, [0], .lost, .any⟩,
  ⟨P.tirGpAtten, one, one, 11, (some 0x101), .uint 1, .ro, 0, [0], .lost, .any⟩,
  ⟨P.tirGpPevMac, one, one, 11, (some 0x108), .uint 8, .ro, 0, [0], .lost, .any⟩,
  ⟨P.tirGpSlacFails, one, one, 11, (some 0x110), .uint 4, .ro, 0, [0], .lost, .any⟩,
  ⟨P.tirGpTestMode, one, one, 11, (some 0x114), .uint 1, .rw, 2, [0], .lost, .cross⟩,
  ⟨P.tirGpTestErrors, one, one, 11, (some 0x118), .uint 4, .ro, 0, [0], .lost, .any⟩]

/-- Every row of area 0x8. -/
def objects8 : List Obj := objects8_0

/-- Rows of area 0x9, part 1. -/
def objects9_0 : List Obj := [
  ⟨P.slMacAddr, one, one, 15, (some 0x100), .uint 8, .rwp, 2, [0x20000000000], .journal, .mask 0xFFFFFFFFFFFF⟩,
  ⟨P.slIpAddr, one, one, 15, (some 0x108), .uint 4, .rwp, 2, [0], .journal, .any⟩,
  ⟨P.slIpMask, one, one, 15, (some 0x10C), .uint 4, .rwp, 2, [0xFFFFFF00], .journal, .cross⟩,
  ⟨P.slIpGw, one, one, 15, (some 0x110), .uint 4, .rwp, 2, [0], .journal, .any⟩,
  ⟨P.slHostVid, one, one, 15, (some 0x114), .uint 2, .rwp, 2, [1], .journal, .cross⟩,
  ⟨P.slCuePcp, one, one, 15, (some 0x116), .uint 1, .rwp, 2, [5], .journal, .range 0 7⟩,
  ⟨P.slAgeS, one, one, 15, (some 0x118), .uint 2, .rwp, 2, [0x12C], .journal, .range 10 3600⟩,
  ⟨P.slHostDiscards, one, one, 15, (some 0x11C), .uint 4, .ro, 0, [0], .lost, .any⟩,
  ⟨P.slVlanTable, one, one, 15, (some 0x140), .blob 512, .rwp, 2, [0x1F1F0001], .journal, .cross⟩,
  ⟨P.slPcpMap, one, one, 15, (some 0x340), .uint 4, .rwp, 2, [0xFAC688], .journal, .mask 0x00FFFFFF⟩,
  ⟨P.slStrictFrom, one, one, 15, (some 0x344), .uint 1, .rwp, 2, [6], .journal, .range 0 8⟩,
  ⟨P.slQueueWeights, one, one, 15, (some 0x348), .uint 8, .rwp, 2, [0x101010101010101], .journal, .cross⟩,
  ⟨P.slPortState 0, ⟨0, 5, 256, 64⟩, one, 15, (some 0x400), .uint 1, .rwp, 2, [1], .journal, .range 0 2⟩,
  ⟨P.slPortFwd 0, ⟨0, 5, 256, 64⟩, one, 15, (some 0x401), .uint 1, .rwp, 2, [0, 0, 0, 0, 1], .journal, .cross⟩,
  ⟨P.slPortPvid 0, ⟨0, 5, 256, 64⟩, one, 15, (some 0x402), .uint 2, .rwp, 2, [1], .journal, .range 1 4094⟩,
  ⟨P.slPortPcp 0, ⟨0, 5, 256, 64⟩, one, 15, (some 0x404), .uint 1, .rwp, 2, [0], .journal, .range 0 7⟩,
  ⟨P.slPortFloodLimit 0, ⟨0, 5, 256, 64⟩, one, 15, (some 0x408), .uint 4, .rwp, 2, [0], .journal, .any⟩,
  ⟨P.slPortRxFrames 0, ⟨0, 5, 256, 64⟩, one, 15, (some 0x410), .uint 4, .ro, 0, [0], .lost, .any⟩,
  ⟨P.slPortTxFrames 0, ⟨0, 5, 256, 64⟩, one, 15, (some 0x414), .uint 4, .ro, 0, [0], .lost, .any⟩,
  ⟨P.slPortRxFcsErr 0, ⟨0, 5, 256, 64⟩, one, 15, (some 0x418), .uint 4, .ro, 0, [0], .lost, .any⟩,
  ⟨P.slPortRxStomped 0, ⟨0, 5, 256, 64⟩, one, 15, (some 0x41C), .uint 4, .ro, 0, [0], .lost, .any⟩,
  ⟨P.slPortTxStomped 0, ⟨0, 5, 256, 64⟩, one, 15, (some 0x420), .uint 4, .ro, 0, [0], .lost, .any⟩,
  ⟨P.slPortDrops 0, ⟨0, 5, 256, 64⟩, one, 15, (some 0x424), .uint 4, .ro, 0, [0], .lost, .any⟩,
  ⟨P.slLaneSpeed 0, ⟨0, 4, 256, 128⟩, one, 16, (some 0x100), .uint 1, .rwp, 2, [0], .journal, .range 0 3⟩,
  ⟨P.slLaneState 0, ⟨0, 4, 256, 128⟩, one, 16, (some 0x101), .uint 1, .ro, 0, [0], .lost, .any⟩,
  ⟨P.slLaneTxAmp 0, ⟨0, 4, 256, 128⟩, one, 16, (some 0x102), .uint 1, .rwp, 2, [0x18], .journal, .range 10 40⟩,
  ⟨P.slLaneTxEmph 0, ⟨0, 4, 256, 128⟩, one, 16, (some 0x103), .uint 1, .rwp, 2, [0], .journal, .range 0 12⟩,
  ⟨P.slLaneLoopback 0, ⟨0, 4, 256, 128⟩, one, 16, (some 0x104), .uint 1, .rw, 2, [0], .lost, .cross⟩,
  ⟨P.slLanePatGen 0, ⟨0, 4, 256, 128⟩, one, 16, (some 0x105), .uint 1, .rw, 2, [0], .lost, .cross⟩,
  ⟨P.slLanePatChk 0, ⟨0, 4, 256, 128⟩, one, 16, (some 0x106), .uint 1, .rw, 2, [0], .lost, .cross⟩]

/-- Rows of area 0x9, part 2. -/
def objects9_1 : List Obj := [
  ⟨P.slLanePatBits 0, ⟨0, 4, 256, 128⟩, one, 16, (some 0x108), .uint 8, .ro, 0, [0], .lost, .any⟩,
  ⟨P.slLanePatErr 0, ⟨0, 4, 256, 128⟩, one, 16, (some 0x110), .uint 4, .ro, 0, [0], .lost, .any⟩,
  ⟨P.slLaneLinkDowns 0, ⟨0, 4, 256, 128⟩, one, 16, (some 0x114), .uint 4, .ro, 0, [0], .lost, .any⟩,
  ⟨P.slModA2 0, ⟨0, 4, 256, 128⟩, one, 16, (some 0x118), .blob 16, .ro, 0, [0], .lost, .any⟩,
  ⟨P.slModId 0, ⟨0, 4, 256, 128⟩, one, 16, (some 0x400), .blob 128, .ro, 0, [0], .lost, .any⟩,
  ⟨P.slPtpMode, one, one, 17, (some 0x100), .uint 1, .rwp, 2, [1], .journal, .range 0 2⟩,
  ⟨P.slPtpDomain, one, one, 17, (some 0x101), .uint 1, .rwp, 2, [0], .journal, .range 0 127⟩,
  ⟨P.slPtpPrio1, one, one, 17, (some 0x102), .uint 1, .rwp, 2, [0x80], .journal, .any⟩,
  ⟨P.slPtpPrio2, one, one, 17, (some 0x103), .uint 1, .rwp, 2, [0x80], .journal, .any⟩,
  ⟨P.slPtpTransport, one, one, 17, (some 0x104), .uint 1, .rwp, 2, [0], .journal, .range 0 1⟩,
  ⟨P.slPtpTcEn, one, one, 17, (some 0x105), .bool, .rwp, 2, [1], .journal, .any⟩,
  ⟨P.slPtpLockNs, one, one, 17, (some 0x108), .uint 4, .rwp, 2, [0x64], .journal, .range 10 100000⟩,
  ⟨P.slPtpState, one, one, 17, (some 0x10C), .uint 1, .ro, 0, [0], .lost, .any⟩,
  ⟨P.slPtpOffsetNs, one, one, 17, (some 0x110), .int 8, .ro, 0, [0], .lost, .any⟩,
  ⟨P.slPtpPort, one, one, 17, (some 0x118), .uint 1, .ro, 0, [0xFF], .lost, .any⟩]

/-- Every row of area 0x9. -/
def objects9 : List Obj := objects9_0 ++ objects9_1

/-- Rows of area 0xA, part 1. -/
def objectsA_0 : List Obj := [
  ⟨P.tagState, one, one, 1, (some 0x100), .uint 1, .ro, 0, [0], .lost, .any⟩,
  ⟨P.tagUid, one, one, 1, (some 0x108), .uint 8, .ro, 0, [0], .kept, .any⟩,
  ⟨P.tagAuthModes, one, one, 1, (some 0x110), .uint 1, .rwp, 2, [2], .kept, .mask 0x03⟩,
  ⟨P.tagPassword, one, one, 1, none, .blob 8, .wo, 2, [0], .kept, .any⟩,
  ⟨P.tagAesKey, one, one, 1, none, .blob 16, .wo, 2, [0], .kept, .any⟩,
  ⟨P.tagAuthFails, one, one, 1, (some 0x118), .uint 4, .ro, 0, [0], .lost, .any⟩,
  ⟨P.tagWeakRefusals, one, one, 1, (some 0x11C), .uint 4, .ro, 0, [0], .lost, .any⟩,
  ⟨P.tagNoteNext, one, one, 1, (some 0x120), .uint 4, .ro, 0, [1], .kept, .any⟩,
  ⟨P.tagNoteSel, one, one, 1, (some 0x124), .uint 1, .rw, 1, [0], .lost, .range 0 191⟩,
  ⟨P.tagNote, one, one, 1, (some 0x130), .uint 16, .ro, 1, [0], .kept, .any⟩,
  ⟨P.tagNoteClear, one, one, 1, (some 0x140), .uint 1, .wo, 2, [0], .lost, .oneOf [0xC1]⟩,
  ⟨P.tagPagePeriodS, one, one, 0, (some 0xE40), .uint 2, .rwp, 2, [0x3C], .journal, .range 10 3600⟩,
  ⟨P.rdrEnable, one, one, 20, (some 0x100), .bool, .rwp, 2, [1], .journal, .any⟩,
  ⟨P.rdrTypes, one, one, 20, (some 0x101), .uint 1, .rwp, 2, [7], .journal, .mask 0x07⟩,
  ⟨P.rdrPollMs, one, one, 20, (some 0x102), .uint 2, .rwp, 2, [0x1F4], .journal, .range 100 10000⟩,
  ⟨P.rdrAuthMode, one, one, 20, (some 0x104), .uint 1, .rwp, 2, [0], .journal, .cross⟩,
  ⟨P.rdrSamSlot, one, one, 20, (some 0x105), .uint 1, .rwp, 2, [3], .journal, .oneOf [3, 4]⟩,
  ⟨P.rdrSamCmd, one, one, 20, (some 0x108), .uint 4, .rwp, 2, [0x3080], .journal, .any⟩,
  ⟨P.rdrHostWaitMs, one, one, 20, (some 0x10C), .uint 2, .rwp, 2, [0x1388], .journal, .range 500 30000⟩,
  ⟨P.rdrHostGrant, one, one, 20, (some 0x10E), .uint 1, .wo, 1, [0], .lost, .range 0 1⟩,
  ⟨P.rdrCardStop, one, one, 20, (some 0x10F), .bool, .rwp, 2, [1], .journal, .any⟩,
  ⟨P.rdrAuthResult, one, one, 20, (some 0x110), .uint 1, .ro, 0, [0], .lost, .any⟩,
  ⟨P.rdrLastCard, one, one, 20, (some 0x120), .uint 16, .ro, 0, [0], .lost, .any⟩,
  ⟨P.rdrLastUid, one, one, 20, (some 0x130), .blob 10, .ro, 0, [0], .lost, .any⟩,
  ⟨P.rdrTestMode, one, one, 20, (some 0x140), .uint 1, .rw, 2, [0], .lost, .cross⟩,
  ⟨P.rdrTestFrames, one, one, 20, (some 0x144), .uint 4, .ro, 0, [0], .lost, .any⟩,
  ⟨P.rdrTestErrors, one, one, 20, (some 0x148), .uint 4, .ro, 0, [0], .lost, .any⟩,
  ⟨P.rdrAllow, one, one, 20, (some 0x200), .blob 3072, .rwp, 2, [0], .journal, .cross⟩,
  ⟨P.crdClassEn 0, ⟨3, 2, 256, 64⟩, one, 18, (some 0x400), .uint 1, .rwp, 2, [7], .journal, .mask 0x07⟩,
  ⟨P.crdState 0, ⟨3, 2, 256, 64⟩, one, 18, (some 0x401), .uint 1, .ro, 0, [0], .lost, .any⟩]

/-- Rows of area 0xA, part 2. -/
def objectsA_1 : List Obj := [
  ⟨P.crdErrors 0, ⟨3, 2, 256, 64⟩, one, 18, (some 0x402), .uint 4, .ro, 0, [0], .lost, .any⟩,
  ⟨P.crdAtr 0, ⟨3, 2, 256, 64⟩, one, 18, (some 0x410), .blob 33, .ro, 0, [0], .lost, .any⟩]

/-- Every row of area 0xA. -/
def objectsA : List Obj := objectsA_0 ++ objectsA_1

/-- Rows of area 0xB, part 1. -/
def objectsB_0 : List Obj := [
  ⟨P.sdrBaud, one, one, 0, (some 0xE00), .uint 4, .rwp, 2, [0x1C200], .journal, .range 9600 1000000⟩,
  ⟨P.sdrFormat, one, one, 0, (some 0xE04), .uint 1, .rwp, 2, [0], .journal, .cross⟩,
  ⟨P.sdrDeLeadUs, one, one, 0, (some 0xE06), .uint 2, .rwp, 2, [0xA], .journal, .range 0 1000⟩,
  ⟨P.sdrTurnUs, one, one, 0, (some 0xE08), .uint 2, .rwp, 2, [0x64], .journal, .range 0 10000⟩,
  ⟨P.sdrFrameTimeoutMs, one, one, 0, (some 0xE0A), .uint 2, .rwp, 2, [0x64], .journal, .range 10 10000⟩,
  ⟨P.sdrStatus, one, one, 0, (some 0xE0C), .uint 4, .ro, 0, [0], .lost, .any⟩,
  ⟨P.sdrErrors, one, one, 0, (some 0xE10), .uint 8, .ro, 0, [0], .lost, .any⟩,
  ⟨P.sdrFramesIn, one, one, 0, (some 0xE18), .uint 4, .ro, 0, [0], .lost, .any⟩,
  ⟨P.sdrWakeFlagged, one, one, 0, (some 0xE1C), .uint 4, .ro, 0, [0], .lost, .any⟩,
  ⟨P.uartMode 0, ⟨1, 2, 256, 128⟩, one, 18, (some 0x1000), .uint 1, .rwp, 2, [0], .journal, .cross⟩,
  ⟨P.uartBaud 0, ⟨1, 2, 256, 128⟩, one, 18, (some 0x1004), .uint 4, .rwp, 2, [0x1C200], .journal, .cross⟩,
  ⟨P.uartFormat 0, ⟨1, 2, 256, 128⟩, one, 18, (some 0x1008), .uint 1, .rwp, 2, [0], .journal, .cross⟩,
  ⟨P.uartFlow 0, ⟨1, 2, 256, 128⟩, one, 18, (some 0x1009), .uint 1, .rwp, 2, [0], .journal, .cross⟩,
  ⟨P.uartXon 0, ⟨1, 2, 256, 128⟩, one, 18, (some 0x100A), .uint 1, .rwp, 2, [0x11], .journal, .cross⟩,
  ⟨P.uartXoff 0, ⟨1, 2, 256, 128⟩, one, 18, (some 0x100B), .uint 1, .rwp, 2, [0x13], .journal, .cross⟩,
  ⟨P.uartWm 0, ⟨1, 2, 256, 128⟩, one, 18, (some 0x100C), .uint 2, .rwp, 2, [0x3010], .journal, .cross⟩,
  ⟨P.uartTxData 0, ⟨1, 2, 256, 0⟩, one, 18, none, .blob 256, .wo, 1, [0], .lost, .any⟩,
  ⟨P.uartRxData 0, ⟨1, 2, 256, 0⟩, one, 18, none, .blob 256, .ro, 1, [0], .lost, .any⟩,
  ⟨P.uartStatus 0, ⟨1, 5, 256, 64⟩, one, 18, (some 0x1400), .uint 4, .ro, 0, [0], .lost, .any⟩,
  ⟨P.uartErrors 0, ⟨1, 5, 256, 64⟩, one, 18, (some 0x1408), .uint 8, .ro, 0, [0], .lost, .any⟩,
  ⟨P.uartTest 0, ⟨1, 5, 256, 64⟩, one, 18, (some 0x1410), .uint 1, .rw, 2, [0], .lost, .cross⟩,
  ⟨P.uartTestBits 0, ⟨1, 5, 256, 64⟩, one, 18, (some 0x1418), .uint 8, .ro, 0, [0], .lost, .any⟩,
  ⟨P.uartTestErrors 0, ⟨1, 5, 256, 64⟩, one, 18, (some 0x1420), .uint 4, .ro, 0, [0], .lost, .any⟩,
  ⟨P.uart5Baud, one, one, 18, (some 0x1600), .uint 4, .rwp, 2, [0x1E8480], .journal, .range 1500000 12000000⟩,
  ⟨P.pmiPeriodMs, one, one, 18, (some 0x1700), .uint 1, .rwp, 2, [0xA], .journal, .range 5 100⟩,
  ⟨P.pmiCmd, one, one, 18, (some 0x1708), .uint 8, .ro, 0, [0], .lost, .any⟩,
  ⟨P.pmiMeas, one, one, 18, (some 0x1710), .uint 4, .ro, 0, [0], .lost, .any⟩,
  ⟨P.pmiStatus, one, one, 18, (some 0x1714), .uint 1, .ro, 0, [2], .lost, .any⟩,
  ⟨P.pmiLost, one, one, 18, (some 0x1718), .uint 4, .ro, 0, [0], .lost, .any⟩,
  ⟨P.kpdDebounceMs, one, one, 18, (some 0x1800), .uint 1, .rwp, 2, [0x14], .journal, .range 5 100⟩]

/-- Rows of area 0xB, part 2. -/
def objectsB_1 : List Obj := [
  ⟨P.kpdLast, one, one, 18, (some 0x1802), .uint 2, .ro, 0, [0x1F], .lost, .any⟩,
  ⟨P.kpdGhosts, one, one, 18, (some 0x1804), .uint 4, .ro, 0, [0], .lost, .any⟩,
  ⟨P.kpdOverruns, one, one, 18, (some 0x1808), .uint 4, .ro, 0, [0], .lost, .any⟩]

/-- Every row of area 0xB. -/
def objectsB : List Obj := objectsB_0 ++ objectsB_1

/-- Rows of area 0xC. -/
def objectsC_0 : List Obj := [
  ⟨P.dspState, one, one, 19, (some 0x100), .uint 1, .ro, 0, [0], .lost, .any⟩,
  ⟨P.dspResult, one, one, 19, (some 0x101), .uint 1, .ro, 0, [0], .lost, .any⟩,
  ⟨P.dspBand, one, one, 19, (some 0x102), .uint 1, .ro, 0, [0xFF], .lost, .any⟩,
  ⟨P.dspTemp, one, one, 19, (some 0x104), .int 2, .ro, 0, [0], .lost, .any⟩,
  ⟨P.dspTempUsed, one, one, 19, (some 0x106), .uint 1, .ro, 0, [0], .lost, .any⟩,
  ⟨P.dspUpdates, one, one, 19, (some 0x108), .uint 4, .ro, 0, [0], .lost, .any⟩,
  ⟨P.dspRefused, one, one, 19, (some 0x10C), .uint 4, .ro, 0, [0], .lost, .any⟩,
  ⟨P.dspLastDurMs, one, one, 19, (some 0x110), .uint 4, .ro, 0, [0], .lost, .any⟩,
  ⟨P.dspImage, one, one, 19, (some 0x200), .blob 192, .rw, 1, [0], .lost, .cross⟩,
  ⟨P.dspImageNow, one, one, 19, (some 0x300), .blob 192, .ro, 0, [0], .lost, .any⟩,
  ⟨P.dspBlink, one, one, 19, (some 0x400), .blob 96, .rw, 1, [0], .lost, .any⟩,
  ⟨P.dspBlinkMs, one, one, 19, (some 0x460), .uint 2, .rwp, 2, [0x3E8], .journal, .range 500 10000⟩,
  ⟨P.dspTempSrc, one, one, 19, (some 0x480), .uint 1, .rwp, 2, [0], .journal, .cross⟩,
  ⟨P.dspTempSet, one, one, 19, (some 0x482), .int 2, .rw, 2, [0xFA], .lost, .any⟩,
  ⟨P.dspTempOffset, one, one, 19, (some 0x484), .int 2, .rwp, 2, [0], .journal, .srange (-200) 200⟩,
  ⟨P.dspFlMode, one, one, 19, (some 0x490), .uint 1, .rwp, 2, [1], .journal, .cross⟩,
  ⟨P.dspFl0Ma, one, one, 19, (some 0x492), .uint 2, .rwp, 2, [0xC8], .journal, .range 0 600⟩,
  ⟨P.dspFl1Ma, one, one, 19, (some 0x494), .uint 2, .rwp, 2, [0xC8], .journal, .range 0 600⟩,
  ⟨P.dspFlHoldS, one, one, 19, (some 0x496), .uint 2, .rwp, 2, [0x1E], .journal, .range 1 3600⟩,
  ⟨P.dspField 0, ⟨0, 4, 1, 4⟩, one, 19, (some 0x4A0), .uint 4, .rwp, 2, [0], .journal, .cross⟩,
  ⟨P.irnDspRails, one, one, 24, (some 0x500), .uint 8, .ro, 0, [0], .kept, .any⟩,
  ⟨P.irnDspFaults, one, one, 24, (some 0x508), .uint 1, .ro, 0, [0], .kept, .any⟩]

/-- Every row of area 0xC. -/
def objectsC : List Obj := objectsC_0

/-- Rows of area 0xD, part 1. -/
def objectsD_0 : List Obj := [
  ⟨P.pbkScrubHours, one, one, 14, (some 0x100), .uint 1, .rwp, 2, [6], .journal, .range 1 168⟩,
  ⟨P.pbkScrubPos, one, one, 14, (some 0x104), .uint 4, .ro, 0, [0], .journal, .any⟩,
  ⟨P.pbkScrubPasses, one, one, 14, (some 0x108), .uint 4, .ro, 0, [0], .journal, .any⟩,
  ⟨P.pbkCellCorr, one, one, 14, (some 0x110), .uint 4, .ro, 0, [0], .journal, .any⟩,
  ⟨P.pbkStuckCells, one, one, 14, (some 0x114), .uint 4, .ro, 0, [0], .journal, .any⟩,
  ⟨P.pbkColumnFaults, one, one, 14, (some 0x118), .uint 4, .ro, 0, [0], .journal, .any⟩,
  ⟨P.pbkUncorr, one, one, 14, (some 0x11C), .uint 4, .ro, 0, [0], .journal, .any⟩,
  ⟨P.pbkLastMramFault, one, one, 14, (some 0x120), .uint 16, .ro, 0, [0], .journal, .any⟩,
  ⟨P.pbkSparesFree 0, ⟨0, 8, 1, 4⟩, one, 14, (some 0x130), .uint 4, .ro, 0, [0x44444444], .kept, .any⟩,
  ⟨P.pbkBankCmd, one, one, 14, (some 0x150), .uint 4, .wo, 2, [0], .lost, .cross⟩,
  ⟨P.pbkBankCmdStatus, one, one, 14, (some 0x154), .uint 4, .ro, 0, [0], .lost, .any⟩,
  ⟨P.pbkSeqNext, one, one, 14, (some 0x160), .uint 8, .ro, 0, [1], .journal, .any⟩,
  ⟨P.pbkLiveHalf, one, one, 14, (some 0x168), .uint 1, .ro, 0, [1], .journal, .any⟩,
  ⟨P.pbkFill, one, one, 14, (some 0x16C), .uint 4, .ro, 0, [0], .journal, .any⟩,
  ⟨P.pbkCompactPct, one, one, 14, (some 0x170), .uint 1, .rwp, 4, [0x4B], .journal, .range 50 90⟩,
  ⟨P.pbkCompactions, one, one, 14, (some 0x174), .uint 4, .ro, 0, [0], .journal, .any⟩,
  ⟨P.pbkRecoveryStatus, one, one, 14, (some 0x178), .uint 1, .ro, 0, [0], .journal, .any⟩,
  ⟨P.pbkRecoveryUs, one, one, 14, (some 0x17C), .uint 4, .ro, 0, [0], .journal, .any⟩,
  ⟨P.pbkRateLimit, one, one, 14, (some 0x180), .uint 4, .rwp, 4, [0x10000], .journal, .range 1024 65536⟩,
  ⟨P.pbkRateRefusals, one, one, 14, (some 0x184), .uint 4, .ro, 0, [0], .journal, .any⟩,
  ⟨P.wngOpen, one, one, 0, none, .uint 8, .wo, 2, [0], .lost, .cross⟩,
  ⟨P.wngChunk, one, one, 0, none, .blob 1028, .wo, 2, [0], .lost, .cross⟩,
  ⟨P.wngVerify, one, one, 0, (some 0x1100), .uint 1, .wo, 2, [0], .lost, .oneOf [1]⟩,
  ⟨P.wngCommit, one, one, 0, (some 0x1101), .uint 1, .wo, 2, [0], .lost, .oneOf [1]⟩,
  ⟨P.wngPendingCrc, one, one, 0, (some 0x1104), .uint 4, .ro, 0, [0], .lost, .any⟩,
  ⟨P.wngCommitCrc, one, one, 0, (some 0x1108), .uint 4, .wo, 3, [0], .lost, .any⟩,
  ⟨P.wngConfirm, one, one, 0, (some 0x110C), .uint 1, .wo, 2, [0], .lost, .oneOf [1]⟩,
  ⟨P.wngRollback, one, one, 0, (some 0x110D), .uint 1, .wo, 2, [0], .lost, .oneOf [1]⟩,
  ⟨P.wngAbandon, one, one, 0, (some 0x110E), .uint 1, .wo, 2, [0], .lost, .oneOf [1]⟩,
  ⟨P.wngStatus, one, one, 0, (some 0x1110), .uint 8, .ro, 0, [0], .journal, .any⟩]

/-- Rows of area 0xD, part 2. -/
def objectsD_1 : List Obj := [
  ⟨P.wngHeader, one, one, 0, (some 0x1200), .blob 256, .ro, 0, [0], .lost, .any⟩,
  ⟨P.wngReverifyH, one, one, 0, (some 0x1118), .uint 2, .rwp, 2, [0xA8], .journal, .range 1 8760⟩,
  ⟨P.wngRelease, one, one, 0, (some 0x111C), .uint 4, .ro, 0, [0], .journal, .any⟩,
  ⟨P.wngReleaseLast, one, one, 0, (some 0x1120), .uint 1, .ro, 0, [0], .journal, .any⟩,
  ⟨P.wngAutoRollbacks, one, one, 0, (some 0x1124), .uint 4, .ro, 0, [0], .journal, .any⟩]

/-- Every row of area 0xD. -/
def objectsD : List Obj := objectsD_0 ++ objectsD_1

/-- The rows of the area a PID names (R10, R169). -/
def objectsOf (pid : Nat) : List Obj :=
  match pid / 0x100000 with
  | 0x0 => objects0
  | 0x1 => objects1
  | 0x2 => objects2
  | 0x3 => objects3
  | 0x4 => objects4
  | 0x5 => objects5
  | 0x6 => objects6
  | 0x7 => objects7
  | 0x8 => objects8
  | 0x9 => objects9
  | 0xA => objectsA
  | 0xB => objectsB
  | 0xC => objectsC
  | 0xD => objectsD
  | _ => []

/-- All rows. -/
def objectsAll : List Obj :=
  objects0 ++ objects1 ++ objects2 ++ objects3 ++ objects4 ++ objects5 ++ objects6 ++ objects7 ++ objects8 ++ objects9 ++ objectsA ++ objectsB ++ objectsC ++ objectsD

/-- The index pair at which a row holds a PID. -/
def Obj.indexOf (o : Obj) (pid : Nat) : Option (Nat × Nat) :=
  if pid < o.pid then none
  else
    let d := pid - o.pid
    let i := d / o.i1.pst
    let r := d % o.i1.pst
    let j := r / o.i2.pst
    if r % o.i2.pst = 0 ∧ o.i1.lo ≤ i ∧ i < o.i1.lo + o.i1.cnt ∧ o.i2.lo ≤ j ∧ j < o.i2.lo + o.i2.cnt then some (i, j)
    else none

/-- The size in bytes of a value of a type, the maximum where the length is free (R170). -/
def Ty.size : Ty → Nat
  | .bool => 1
  | .uint n => n
  | .int n => n
  | .str n => n
  | .blob n => n

/-- The row that holds a PID. -/
def findObj (pid : Nat) : Option Obj :=
  (objectsOf pid).find? (fun o => (o.indexOf pid).isSome)

/-- The default of an object (the Default column); 0 where no row holds the PID. -/
def dfltOf (pid : Nat) : Nat :=
  match findObj pid with
  | none => 0
  | some o =>
    match o.indexOf pid with
    | none => 0
    | some (i, j) =>
      match o.dflt with
      | [d] => d
      | l => l.getD ((i - o.i1.lo) * o.i2.cnt + (j - o.i2.lo)) 0

/-- The size in bytes of an object; 16 where no row holds the PID. -/
def sizeOf' (pid : Nat) : Nat :=
  match findObj pid with
  | none => 16
  | some o => o.ty.size

/-- The home island of an object, 24 for the Iron-die bridge window. -/
def homeOf (pid : Nat) : Nat :=
  match findObj pid with
  | none => 0
  | some o => o.island

/-- What an object holds after its island was off. -/
def keepOf (pid : Nat) : Keep :=
  match findObj pid with
  | none => .lost
  | some o => o.keep

/-- The PIDs of a row, in ascending order. -/
def Obj.pids (o : Obj) : List Nat :=
  (List.range o.i1.cnt).flatMap fun i =>
    (List.range o.i2.cnt).map fun j => o.pid + (o.i1.lo + i) * o.i1.pst + (o.i2.lo + j) * o.i2.pst

/-- The registers of a row: offset in the window, size and PID. -/
def Obj.registers (o : Obj) : List (Nat × Nat × Nat) :=
  match o.off with
  | none => []
  | some b =>
    (List.range o.i1.cnt).flatMap fun i =>
      (List.range o.i2.cnt).map fun j =>
        (b + (o.i1.lo + i) * o.i1.ost + (o.i2.lo + j) * o.i2.ost, o.ty.size,
          o.pid + (o.i1.lo + i) * o.i1.pst + (o.i2.lo + j) * o.i2.pst)

/-- The registers of a window that overlap the `w` bytes at `off` (R50, R190). -/
def registersAt (island off w : Nat) : List (Nat × Nat × Nat) :=
  (objectsAll.filter (fun o => o.island == island)).flatMap fun o =>
    o.registers.filter (fun r => decide (r.1 < off + w ∧ off < r.1 + r.2.1))

/-- The objects of an island marked as `k` (R14). -/
def pidsKept (island : Nat) (k : Keep) : List Nat :=
  (objectsAll.filter (fun o => o.island == island && o.keep == k)).flatMap Obj.pids

end Sys2Proof.Machine
end

