-- ==== Sys2Proof/Machine/State.lean ====
section
/-!
DEFINITION. The state of the post: every register, memory, queue and hidden piece of state the manual gives the
MZD1, as plain data, and the state right after reset. Register values of the object dictionary stand in `regs`;
the structures below hold what no object shows.
-/

namespace Sys2Proof.Machine

open Sys2Proof

/-- No command of this block faults: every bad access has a status of its own (R43). -/
inductive Fault where
deriving DecidableEq, Repr

/-- Why a command has no answer. -/
inductive Refusal where
  /-- Raised by Dispatch for a command whose meaning is not written yet; safe. -/
  | notModelled (mnemonic : String)
deriving DecidableEq, Repr

/-- Registers by PID, ascending, without entries equal to the object's default. -/
abbrev Regs := List (Nat × Nat)

/-! ### Cue (spec/01_house_and_post.md, spec/07_object_dictionary.md) -/

/-- A Cue frame the post sends (R175). -/
structure CueFrame where
  flags : Nat
  seq : Nat
  src : Nat
  dst : Nat
  opcode : Nat
  pid : Nat
  payload : Bytes
  cmac : Nat
deriving DecidableEq, Repr

/-- A received frame that waits for its turn in the request queue (R180); `late` marks one that arrived with eight
of its master in progress. -/
structure Inbound where
  opcode : Nat
  req : Req
  late : Bool
deriving DecidableEq, Repr

/-- A stored reply of R179. -/
structure Stored where
  seq : Nat
  frame : CueFrame
deriving DecidableEq, Repr

/-- A master of R21. -/
inductive Master where
  | none
  | main
  | side
deriving DecidableEq, Repr

/-- The pending safety block (R185): its group PID, its writer, the pending values in ascending item order and the
time of its last write. -/
structure PendBlock where
  group : Nat
  writer : Master
  values : List (Nat × Nat)
  written : Nat
deriving DecidableEq, Repr

/-- A subscription (R188). `last` is the value last sent, `gone` whether ISLAND_OFF was sent for the present
absence. -/
structure Sub where
  pid : Nat
  seat : Nat
  via : Via
  ip : Nat
  key : Nat
  seq : Nat
  onChange : Bool
  interval : Nat
  count : Nat
  sentAt : Nat
  last : Bytes
  gone : Bool
deriving DecidableEq, Repr

/-- Where notifications without a subscription go (R189). -/
structure MainRoute where
  via : Via
  seat : Nat
  ip : Nat
deriving DecidableEq, Repr

/-- The Cue server's state: the keys K0 to K4 (R171), the sequence states (R179), the request queue, the pending block,
the 64 subscription slots, and the times on which the silence and the AUTH limit are judged. -/
structure CueState where
  running : Bool
  keys : List Nat
  lastMain : Nat
  lastSide : Nat
  seqMain : Option Nat
  seqSide : Option Nat
  repliesMain : List Stored
  repliesSide : List Stored
  inbox : List Inbound
  pend : Option PendBlock
  subs : List (Option Sub)
  route : Option MainRoute
  authSent : List (Via × Nat)
deriving DecidableEq, Repr

/-! ### The fabric (spec/02_dies_islands_fabric.md) -/

/-- A request offered to a bridge and not yet completed at its initiator (R46, R48): the PRIO that the hub stamps (R44), the
elapsed time of its offer, whether the far side took it, and what the target answered. -/
structure FabReq where
  init : Nat
  tag : Nat
  prio : Nat
  since : Nat
  addr : Nat
  beats : Nat
  byteEn : Nat
  write : Bool
  data : List Nat
  route : Nat
  passed : Bool
  resp : Option (Nat × List Nat)
deriving DecidableEq, Repr

/-- A response as it reaches its initiator's bridge: INIT, TAG, PRIO and STATUS of its header (R42) and its data flits. -/
structure FabResp where
  init : Nat
  tag : Nat
  prio : Nat
  status : Nat
  data : List Nat
deriving DecidableEq, Repr

/-- The fabric's lists: requests in issue order, responses delivered and events delivered, newest first; and by output port the
initiator that the hub served last there (R44). -/
structure FabState where
  reqs : List FabReq
  delivered : List FabResp
  events : List (Nat × Nat)
  last : List (Nat × Nat)
deriving DecidableEq, Repr

/-! ### Clocks (spec/03_clocks.md) -/

/-- A clock judge (R65, R66). -/
structure Judge where
  active : Bool
  passes : Nat
  fails : Nat
deriving DecidableEq, Repr

/-- The clock of an island: its present input, its reset, the switch in progress and whether it hangs, the latest waiting request, a
forced switch whose reset is not yet released (old source, new source, cause), and whether CK_HUNG lists the switch (R74 to R80). -/
structure IslClk where
  sel : Nat
  inReset : Bool
  switchTo : Option Nat
  hung : Bool
  waiting : Option Nat
  forced : Option (Nat × Nat × Nat)
  listed : Bool
deriving DecidableEq, Repr

/-- An island's clock as its domain's reset leaves it: on input 0, nothing in progress (R73). -/
def IslClk.fresh : IslClk := ⟨0, false, none, false, none, none, false⟩

/-- The clock controller. `src` holds the state of each source of CK_SRC_STATUS (R87),
lowest bits first, then of PTP1250, CARR27 and FIELD13, which no status shows. `trim` is the code in use (R71), `plla` the output of
PLL_A in MHz, 0 while stopped (R63), and `owed` the books of forced switches and RC16 restarts that the Stage manager makes once it
runs again (R82, R83): island, old source, new source, cause, stage time of the reset release. -/
structure ClkState where
  src : List Nat
  judges : List Judge
  islands : List IslClk
  factoryCode : Nat
  search : Option Nat
  trimming : Bool
  trimTemp : Int
  trim : Nat
  pllOn : List Bool
  pllFails : List (List Nat)
  pllHeld : List Bool
  plla : Nat
  rtcOnXo : Bool
  owed : List (Nat × Nat × Nat × Nat × Nat)
deriving DecidableEq, Repr

/-! ### Power and start (spec/04_power_and_start.md) -/

/-- The states of a domain (R93, R96, R98); `rising` is the soft start before PRESENT. -/
inductive DomState where
  | off
  | rising
  | retain
  | on
  | fault
deriving DecidableEq, Repr

/-- Where the main die stands in its start (R106 to R108). -/
inductive Boot where
  | held
  | rom
  | checked
  | waitVcore
  | handOver
  | running
  | romHold
deriving DecidableEq, Repr

/-- Supplies, enables, domains, resets, tier movement and the thermal governor. `dropK` says that a loss of VCORE still has to take the
post down to tier K (R103), `shed` lists the domains that the governor switched off and that are not on again (R112). -/
structure PwrState where
  dom : List DomState
  vsup : Bool
  vaon : Bool
  vcore : Bool
  vsrd : Bool
  vio33 : Bool
  vio18 : Bool
  vcpP : Bool
  vcpM : Bool
  coreEn : Bool
  srdEn : Bool
  rstOut : Bool
  vsupHeld : Bool
  failing : Bool
  boot : Boot
  cause : Nat
  forcedStart : Bool
  resetArmed : Bool
  deferred : Bool
  loaderRun : Nat
  ironOn : Bool
  ironReport : Bool
  vcoreLost : Bool
  target : Nat
  asleep : Bool
  thermFirst : Bool
  thermBelow : Option Nat
  shed : List Nat
  dropK : Bool
  dieLot : Nat
  romVersion : Nat
  bootStatus : Nat
  darkKeeper : Bool
deriving DecidableEq, Repr

/-! ### The Callboard (spec/05_callboard.md) -/

/-- One channel: the notice held and the fields of STATUS and CONFIG (R120, R134). -/
structure Channel where
  notice : Nat
  full : Bool
  taken : Bool
  inDelivery : Bool
  config : Nat
  result : Nat
  resultCode : Nat
  resultTag : Nat
  notices : Nat
  lastSender : Nat
deriving DecidableEq, Repr

/-- The 32 channels, and what the senders keep of their notices: the provisional notices posted and not yet made final, each with
its result (R131: sender, tag, channel, and 0 while it is held), the cancellations that wait for a result, the retractions that a
full channel refused, and the notices that a reset of the Callboard lost (R136: channel and notice). -/
structure CbdState where
  ch : List Channel
  prov : List (Nat × Nat × Nat × Nat)
  cancels : List (Nat × Nat × Nat)
  retracts : List (Nat × Nat × Nat)
  lost : List (Nat × Nat)
deriving DecidableEq, Repr

/-! ### MRAM and the prompt book (spec/06_mram_and_prompt_book.md) -/

/-- An entry of the repair table (R150): the column, its spare, how far the repair has come, and the rows whose word could not be
corrected then (row and word): their spare cell holds no bit until that word is written. -/
structure Repair where
  bank : Nat
  sub : Nat
  slot : Nat
  bit : Nat
  spare : Nat
  row : Nat
  done : Bool
  time : Nat
  missed : List (Nat × Nat)
deriving DecidableEq, Repr

/-- The MRAM controller: the repair table, the words with cells that read wrong (address, data word when they were found, cell
positions; an entry stands while that data word does), the corrections of the present pass and of the last ones, the spares found
faulty, the bank each initiator fetches from, the bank-wide operation and the fetch restarts per word. -/
structure MramState where
  repairs : List Repair
  wrong : List (Nat × Nat × List Nat)
  history : List (Nat × Nat × Nat × Nat)
  pass : List (Nat × Nat)
  refDone : Bool
  badSpares : List (Nat × Nat × Nat)
  exhausted : List (Nat × Nat × Nat × Nat)
  fetchBank : List (Nat × Nat)
  op : Option (Nat × Nat × Nat)
  restarts : List (Nat × Nat)
deriving DecidableEq, Repr

/-- A record of the prompt book (R156). -/
structure Rec where
  seq : Nat
  typ : Nat
  stime : Nat
  payload : List Nat
deriving DecidableEq, Repr

/-- A compaction in progress (R161): the base SEQ, the snapshot records still to write, the words written into the
other half, the SEQ of the SNAP_BEGIN and the last live SEQ carried over. -/
structure Compaction where
  base : Nat
  todo : List (Nat × Nat × List Nat)
  pos : Nat
  begin : Nat
  carried : Nat
  written : List Rec
deriving DecidableEq, Repr

/-- The journal engine: its key, the records of the live half (newest first), the persistent value of each object
(PID, length, value), the sliding window of R160, the commit whose commit word is not yet written, the held commits,
the compaction, the objects whose own commit was refused, those that go with the next commit (R110), whether the power-fail
sequence commits its records, and whether the engine itself powered PD36, PD29 and PD30 for a commit in tier K (R155). -/
structure JnlState where
  ready : Bool
  key : Nat
  recs : List Rec
  persist : List (Nat × Nat × Nat)
  window : List (Nat × Nat)
  slot : Option (Nat × Rec)
  held : List (Nat × JReq)
  comp : Option Compaction
  retry : List Nat
  owed : List Nat
  final : Bool
  keeper : Bool
deriving DecidableEq, Repr

/-! ### The Iron's events (R58, R530) -/

/-- A latched event of the Iron: its sequence number, CODE, UNIT, the faults after it, and on which paths it went out. -/
structure IronEvent where
  seq : Nat
  code : Nat
  unit : Nat
  faults : Nat
  keeper : Bool
  main0 : Bool
  main1 : Bool
deriving DecidableEq, Repr

/-- The Iron bridge's events, oldest first, the next sequence number, the channels whose posting was refused as full, and
the sequence numbers the receivers have seen. -/
structure IronState where
  events : List IronEvent
  next : Nat
  wait0 : Bool
  wait1 : Bool
  taken : List Nat
deriving DecidableEq, Repr

/-! ### Safety (spec/08_safety.md) -/

/-- One safety channel: 0 the Iron, 1 the Warden. Filtered contacts (2 n + c), latched faults in the layout of IRN_FAULTS, the
pairs that they name, the inputs held in demand, the failed pulse checks, how far each latched discrepancy has come towards
release (0 nothing, 1 both in demand, 2 one released, 3 both released in time), and when each input's demand began. -/
structure SafChan where
  closed : List Bool
  lat : Nat
  estop : Nat
  readback : Nat
  overload : Nat
  dark : Nat
  disc : Nat
  tp : Nat
  tpFails : List Nat
  clear : List Nat
  clearAt : List Nat
  demandAt : List Nat
deriving DecidableEq, Repr

/-- The safety functions: both channels, the Prompter (consecutive accepted answers, whether the next answer is the first, the
challenge, differing answers in a row), the Iron's copy of the safety blocks, whether it was loaded and its configuration table agreed,
the causes of earth faults that are present and when each fault was latched, the brake test and the stop of R219. -/
structure SafState where
  chans : List SafChan
  prOk : Nat
  prFirst : Bool
  prSeq : Nat
  prVal : Nat
  prDiffer : Nat
  copy : List (Nat × Nat)
  loaded : Bool
  earthCause : Nat
  earthAt : List Nat
  fast : Bool
  brakeDone : Bool
  brakeAt : Nat
  creepOnly : Bool
  ss1 : Option Nat
deriving DecidableEq, Repr

/-! ### The vehicle (spec/09_vehicle_and_earth_fault.md) -/

/-- The requests of the high-level protocols that the manual answers. -/
inductive HlcMsg where
  | appProtocol
  | sessionSetup
  | authorization
  | cableCheck
  | preCharge
  | powerDelivery
  | currentDemand
  | sessionStop
deriving DecidableEq, Repr

/-- Response codes by the names of R253; `failed` is FAILED. -/
inductive HlcRes where
  | ok
  | okOngoing
  | noNegotiation
  | failed
  | sequenceError
  | unknownSession
  | wrongChargeParameter
  | powerDeliveryNotApplied
  | signatureError
  | certChainError
  | certificateExpired
  | certificateRevoked
deriving DecidableEq, Repr

/-- How the control pilot is driven (R231). -/
inductive CpDrive where
  | off
  | high
  | pwm
  | low
deriving DecidableEq, Repr

/-- The session's hidden state: the pilot's drive, whether the session is DC, whether its energy transfer began and whether it
pauses, whether state B was seen since state A, the class of the latest pilot levels, for how many periods it and a missing diode have
stood, an authorisation that waits for state B, the times of recent state changes, until when no session starts, the limit in mA and the cable rating in 0.1 A, SLAC timeouts, whether a SLAC request came and when 5 % PWM was interrupted, the SessionID,
the precharge target in V and whether SO2 has opened, the vehicle's maxima, isolation periods and periods below the fault
threshold, the residual-current sums of the last 20 ms in mV and the times over each curve point, the self-test, the commands to
the power module in 0.1 V and 0.1 A and the Warden's override. -/
structure VehState where
  drive : CpDrive
  dc : Bool
  began : Bool
  paused : Bool
  seenB : Bool
  cls : Nat
  streak : Nat
  noDiode : Nat
  auth : Option (Nat × Nat)
  changes : List Nat
  barred : Option Nat
  limit : Nat
  cable : Nat
  slacTry : Nat
  slacSeen : Bool
  slacAt : Option Nat
  sid : Option Nat
  target : Nat
  so2Open : Bool
  vMax : Nat
  iMax : Nat
  isoLow : Nat
  isoRuns : Nat
  isoValid : Bool
  rcSums : List Int
  rcTimes : List Nat
  rcTested : Bool
  rcTesting : Bool
  modV : Nat
  modI : Nat
  override : Bool
deriving DecidableEq, Repr

/-! ### The Fly axis (spec/10_fly_axis.md) -/

/-- Where a motion stands (R265): at rest, waiting for the brake test, for SO4 or for the brake, running, or holding. -/
inductive FlyPhase where
  | rest
  | test
  | sto
  | brake
  | run
  | hold
deriving DecidableEq, Repr

/-- What the profile aims at (R266, R268, R271). -/
inductive FlyGoal where
  | none
  | target
  | stop
  | quick
  | jogUp
  | jogDown
  | homeOut
  | homeStop
  | homeBack
  | homeIndex
  | homeTooth
  | homePark
deriving DecidableEq, Repr

/-- The axis: phase, goal and its position, a target not yet taken, the profile (position, speed and acceleration in the units
of `flyUnit`), the movement of the last 20 cycles, the cycles without an edge, the direction of travel, the latched index,
the tooth reference, the last tooth and where a discrepancy was declared, the cues held, passed while held and disarmed, the auxiliary
output, FLY_CONTACT, FLY_HOME, the U5 frame count and the sign of the profile's last speed. -/
structure FlyState where
  phase : FlyPhase
  goal : FlyGoal
  goalPos : Int
  newTarget : Option Int
  x : Int
  w : Int
  al : Int
  deltas : List Int
  quiet : Nat
  dir : Int
  zLatch : Int
  toothRef : Int
  lastTooth : Int
  discAt : Int
  held : List Nat
  passed : List Nat
  disarmed : List Nat
  aux : Bool
  contactHigh : Bool
  homeLow : Bool
  frame : Nat
  sign : Int
deriving DecidableEq, Repr

/-! ### Converters (spec/11_converters.md) -/

/-- A metering frame (R287). -/
structure McFrame where
  seq : Nat
  totals : List Nat
  check : Nat
  overBits : Nat
  cross : Bool
  crossAt : Nat
  arrived : Nat
deriving DecidableEq, Repr

/-- A result packet of the process converters (R291). -/
structure PcPacket where
  window : Nat
  clocks : Nat
  counts : List Int
  fallback : Bool
  settling : List Bool
  ended : Nat
deriving DecidableEq, Repr

/-- A calibration entry on its way to the MRAM: channel code, word, and whether it ends a calibration. -/
structure CalEntry where
  code : Nat
  word : Nat
  commits : Bool
deriving DecidableEq, Repr

/-- The sequencers' counters and totals, the frames and packets that wait for the Tally, the mains tracker (last crossing,
crossing intervals, previous count of channel 4 with a positive one where there is none, since when the converter clock is
lost), the process window in progress, settling windows and failed checks per
process channel, the calibration in progress (sums of the low and high steps as count and clocks), the entries not yet
written, the self-checks aborted, and the channel that the check converter shadows. -/
structure CnvState where
  seq : Nat
  totals : List Nat
  frames : List McFrame
  packets : List PcPacket
  lastCross : Option Nat
  crossings : List Nat
  prev4 : Int
  lostAt : Option Nat
  window : Nat
  clocks : Nat
  third : Nat
  fallback : Bool
  settling : List Nat
  pcFail : List Bool
  calLow : Int × Nat
  calHigh : Int × Nat
  entries : List CalEntry
  aborted : List Nat
  shadow : Nat
deriving DecidableEq, Repr

/-! ### Energy (spec/12_energy.md) -/

/-- A tariff seam that waits (R313 to R315): its stage time and the rates before and after. -/
structure Seam where
  at_ : Nat
  old : Nat
  new : Nat
deriving DecidableEq, Repr

/-- The Tally: whether it has restored its registers since its start, the last processed interval with its totals, the
remainders of R304, the registers in units of 2^-64 nJ (sets x as TOTAL, IMPORT, EXPORT at 3 x; phases p as IMPORT, EXPORT at
2 p; rate registers at 3 (8 x + r) and 2 (8 p + r)), the rate in force, waiting seams, the anchor, the sums and bases of the
supporting values, saturation and the times of the causes of the flags, and the FLAGS of the next record. -/
structure NrgState where
  ready : Bool
  last : Option (Nat × List Nat)
  rho : List Nat
  sets : List Int
  phases : List Int
  rates : List Int
  phRates : List Int
  rate : Nat
  seams : List Seam
  anchor : Nat × Nat
  arrival : Nat × Nat
  sums : List Int
  sumN : Nat
  bases : List Int
  squares : List Nat
  squareN : Nat
  phBases : List Int
  sat : List Bool
  overAt : List (Option Nat)
  gapAt : Option Nat
  longAt : Option Nat
  flags : Nat
deriving DecidableEq, Repr

/-! ### The Box office (spec/13_box_office.md) -/

/-- A token in progress (R339 to R342): its digits, whether it came from the keypad, and once decoded its class, serial, value
and TAG; `posted` once the provisional notices are out and `reported` once the replay check has passed. -/
structure Token where
  digits : List Nat
  keypad : Bool
  posted : Bool
  reported : Bool
  cls : Nat
  serial : Nat
  value : Nat
  tag : Nat
deriving DecidableEq, Repr

/-- An authorised session: its set, how it was authorised (R347), its start, number, the latched import and export, the
identity of its card or contract, and the rate imports at the last accrual. -/
structure Session where
  set : Nat
  auth : Nat
  start : Nat
  number : Nat
  imp : Int
  exp : Int
  ident : Nat
  base : List Int
deriving DecidableEq, Repr

/-- The Box office: the tamper inputs' state and the lasting events that are open, the keypad entry with the time of its last
key, the token in progress, the held first part of a key change, the token key and the key-change key, the times of recent
keypad failures, the session, the number of the next one, the demand sub-intervals (import at their ends, oldest last, and
whether one was lost), whether the credit floor was reported, and the rate that follows at a seam still to come. -/
structure BoxState where
  tampOpen : List (Nat × Nat)
  entry : List Nat
  entryAt : Nat
  token : Option Token
  partOne : Option (Nat × Nat)
  tokenKey : Nat
  changeKey : Nat
  failTimes : List Nat
  session : Option Session
  number : Nat
  demand : List Int
  demandBad : Nat
  creditOut : Bool
  rateNext : Option (Nat × Nat)
deriving DecidableEq, Repr

/-! ### Tirwa (spec/14_tirwa_house_network.md) -/

/-- A tone map held for a link (R361, R362): the message body, its generation and the time of its acceptance. -/
structure ToneMap where
  tmi : Nat
  gen : Bool
  body : Bytes
  at_ : Nat
deriving DecidableEq, Repr

/-- A neighbour (R368): seat, identity, when a frame control of it was last decoded, the maps towards it and from it, the
results of the last 32 unicast frames to it, the phase samples in agreement with their class, what it advertises (seat, B,
hops), and whether it has a route through this post. -/
structure Neigh where
  seat : Nat
  ident : Nat
  heard : Nat
  txMaps : List ToneMap
  rxMaps : List ToneMap
  results : List Bool
  sample : Nat
  samples : Nat
  cls : Nat
  adverts : List (Nat × Nat × Nat)
  via : Bool
deriving DecidableEq, Repr

/-- A route (R369): destination, next hop, bottleneck in 0.1 Mbit/s, hops, when it was refreshed, whether it changed since the
last hello, and the bottleneck that the last hello with it carried. -/
structure Route where
  dest : Nat
  next : Nat
  rate : Nat
  hops : Nat
  at_ : Nat
  changed : Bool
  told : Nat
deriving DecidableEq, Repr

/-- A frame that waits for the medium: the header of its MAC frame (R358), its body, its priority, a next hop where it is fixed,
the attempts made, and whether it is a sound frame. -/
structure TxItem where
  kind : Nat
  origin : Nat
  final : Nat
  hops : Nat
  count : Nat
  body : Bytes
  prio : Nat
  next : Option Nat
  tries : Nat
  sound : Bool
deriving DecidableEq, Repr

/-- A flood frame seen (R371): the frame to relay, how many other relays were heard, and whether it was relayed or needs no
relay. -/
structure Flood where
  item : TxItem
  heard : Nat
  done : Bool
deriving DecidableEq, Repr

/-- A demand report held by the lead (R377). -/
structure Report where
  seat : Nat
  word : Nat
  at_ : Nat
deriving DecidableEq, Repr

/-- The state of Tirwa in C0 and E1: the house key, neighbours, routes, the highest COUNT of each originator with its time, the
frames that wait, the one that awaits its acknowledgement with its FSEQ and next hop, the counters, floods, the lead's seat
table (seat, identity, time), whether the post leads, its claim (1 delayed, 2 sent), when a beacon or claim last came, the reports,
the posts in session at the previous cycle with their safe allocations, the share that waits for APPLY_AT, the rotating slice
of hellos, whether a session was reported, the slewing of stage time still due, and whether the post
asks for a seat. -/
structure TirState where
  houseKey : Option Nat
  neigh : List Neigh
  routes : List Route
  counts : List (Nat × Nat × Nat)
  queue : List TxItem
  waiting : Option (TxItem × Nat × Nat)
  fseq : Nat
  count : Nat
  floods : List Flood
  seats : List (Nat × Nat × Nat)
  lead : Bool
  claim : Nat
  reports : List Report
  lastSession : List (Nat × Nat)
  share : Option (Nat × Nat)
  slice : Nat
  reported : Bool
  helloAt : Nat
  slew : Int
  slewAcc : Nat
  asking : Bool
deriving DecidableEq, Repr

/-- The SLAC run of C1 (R383): whether one runs, how many sounds to take and how many came, the sums of the received
attenuation of the 58 carrier groups, whether the characterisation was answered, and the network key. -/
structure SlacState where
  running : Bool
  expected : Nat
  sounds : Nat
  sums : List Nat
  answered : Bool
  key : Nat
deriving DecidableEq, Repr

/-! ### The Stage link (spec/15_stage_link.md) -/

/-- What an Announce message carries of its clock: priority1, class, accuracy, variance, priority2, identity. -/
structure PtpClock where
  prio1 : Nat
  cls : Nat
  accuracy : Nat
  variance : Nat
  prio2 : Nat
  ident : Nat
deriving DecidableEq, Repr

/-- The Stage link: the address table (VID, address, port, time of the last frame), the times of flooded frames per ingress port
in the last second, the port over which each IP address was last heard, which modules are present, which lanes seek 1000BASE-X,
the parent clock, whether it announces the PTP timescale, and the Sync messages in a row inside and outside the lock offset. -/
structure SlState where
  table : List (Nat × Nat × Nat × Nat)
  floods : List (List Nat)
  hosts : List (Nat × Nat)
  mods : List Bool
  slow : List Bool
  parent : Option PtpClock
  timescale : Bool
  inside : Nat
  outside : Nat
deriving DecidableEq, Repr

/-! ### Reader, tag and cards (spec/16_tags_and_cards.md) -/

/-- A card that answers the reader: its type (1 A, 2 B, 3 ISO/IEC 15693) and its identity. -/
structure Card where
  kind : Nat
  ident : Bytes
deriving DecidableEq, Repr

/-- The reader: the card that answered the latest poll alone, the card whose judgement waits with its mode, and the card that
authorised the session with whether a poll has missed it since. -/
structure RdrState where
  seen : Option Card
  judging : Option (Card × Nat)
  holder : Option (Card × Bool)
deriving DecidableEq, Repr

/-- The dark tag beyond TAG_STATE: whether a field is present and since when, the cascade level, whether it was woken from HALT (READY*
and ACTIVE* of ISO/IEC 14443-3), whether RATS came, the challenge of an AUTHENTICATE 1 just before, whether the writer is secured by
AES, the last failed authentication of this field session, the password and key of the key store, and the next slot of a note clear
in progress (R435). -/
structure TagState where
  field : Bool
  fieldAt : Nat
  level : Nat
  woken : Bool
  rats : Bool
  rndB : Option Nat
  byAes : Bool
  failAt : Option Nat
  password : Option Nat
  key : Nat
  clearing : Option Nat
deriving DecidableEq, Repr

/-- A contact slot: the class being tried (0 none, 1 A, 2 B, 3 C), whether the warm reset was given, the TA1 agreed by PPS, whether
the module uses the inverse convention, and the length of its ATR. -/
structure CardSlot where
  cls : Nat
  warm : Bool
  ta1 : Nat
  inverse : Bool
  atrLen : Nat
deriving DecidableEq, Repr

/-- The contact slots U3 and U4. -/
structure CrdState where
  slots : List CardSlot
deriving DecidableEq, Repr

/-- A UART with a tunnel or a test (R441, R442, R455, R456): its receive FIFO as byte and flags, whether the next character
carries the overrun flag, E1's receive and transmit buffers, its transmit FIFO, when the test was written, and the PRBS checker: its last
15 bits and the bits checked in a row without error. -/
structure Uart where
  fifo : List (Nat × Nat)
  lost : Bool
  inBuf : Bytes
  outBuf : Bytes
  txFifo : Bytes
  testAt : Nat
  sr : Nat
  run : Nat
deriving DecidableEq, Repr

/-- The serial ports and the keypad (spec/17_serial_keypad_stage_door.md): the stage door's bytes since the last delimiter with
their flags and the time of the last, its baud and format in force and whether new ones wait, whether the check after a wake
is still to come and whether the first character is lost, when SDR_DE rises, the first start bit leaves and SDR_DE falls in the latest
transmission (R449), the UARTs 1 to 5, the power module interface with its SEQ, current in
mA, unanswered command and misses in a row, and the keypad's keys down, withheld presses and event FIFO. -/
structure SerState where
  door : List (Nat × Nat)
  doorAt : Nat
  doorBaud : Nat
  doorFmt : Nat
  doorPend : Bool
  woken : Bool
  lostFirst : Bool
  deRise : Nat
  deStart : Nat
  deFall : Nat
  uarts : List Uart
  pmiSeq : Nat
  pmiMa : Nat
  pmiWait : Option Nat
  pmiMissed : Nat
  down : List Nat
  withheld : List Nat
  keys : List Nat
deriving DecidableEq, Repr

/-- A segment that runs a waveform (R471): its index, the levels between which it runs, and the frames done. -/
structure SegRun where
  seg : Nat
  old : Nat
  new : Nat
  frame : Nat
deriving DecidableEq, Repr

/-- The display controller (spec/18_display.md): the waveform set, whether it was loaded, the target in progress and the one
that waits, the running segments, the frames since the first of the run, the band in force and the band of the last update,
whether power-off was requested, the levels of the fields and the segments that they add to the blink set, the blink phase,
and whether the time after an INFO press runs. -/
structure DspState where
  set : List Nat
  loaded : Bool
  target : Nat
  waiting : Option Nat
  runs : List SegRun
  frames : Nat
  band : Nat
  lastBand : Option Nat
  offReq : Bool
  fields : List (Nat × Nat)
  fieldBlink : List Nat
  dark : Bool
  hold : Bool
deriving DecidableEq, Repr

/-- An open staging (R487, R488): its owner, its mode (1 whole, 2 difference), the bytes declared, the ranges of a whole image
that have come, the staged image's length, the pending commit of R490, and the difference engine: bytes not yet consumed,
whether its header was read, the bytes put out, the result length, the bytes an INSERT still takes, whether END has come, the CRC of a
factory configuration table, and WNG_STATUS as the next start finds it. -/
structure WngState where
  owner : Master
  mode : Nat
  declared : Nat
  ranges : List (Nat × Nat)
  staged : Nat
  pendCommit : Bool
  buf : Bytes
  headed : Bool
  out : Nat
  resLen : Nat
  insertLeft : Nat
  ended : Bool
  factoryCrc : Nat
  held : Nat
deriving DecidableEq, Repr


/-- What the post sends or drives, in the order in which it does so. -/
inductive Output where
  /-- A Cue reply or notification in a datagram of the Stage link (R401): the PCP of its frame, the IP address that it is handed to
  (the destination or the gateway), the destination and its port. -/
  | slCue (pcp hop ip port : Nat) (f : CueFrame)
  /-- A Cue reply or notification over Tirwa or the stage door port. -/
  | cue (via : Via) (f : CueFrame)
  /-- Bytes on a UART's transmit line. -/
  | uart (u : Nat) (data : Bytes)
  /-- An interrupt event offered to an island and delivered. -/
  | event (island number : Nat)
  /-- The answer to an initiator's bus access: status (R43) and data. -/
  | bus (init status : Nat) (data : List Nat)
  /-- A commit acknowledged to its requester with a return code (R159). -/
  | commitAck (requester code : Nat)
  /-- A high-level response to the vehicle: what it answers, the response code and its values. -/
  | hlc (msg : HlcMsg) (res : HlcRes) (vals : List Nat)
  /-- The TCP connection to the vehicle closed by the post. -/
  | tcpClosed
  /-- The drive command of the Fly axis: FLY_PWM's high time in cycles of 4 ns and FLY_DIR. -/
  | flyPwm (high : Nat) (positive : Bool)
  /-- FLY_AUX. -/
  | flyAux (high : Bool)
  /-- A Tirwa frame sent: its frame control and its MAC frame (R355). -/
  | tirwa (fc : Nat) (mac : Bytes)
  /-- A SLAC message sent by C1: its name's place in R383 (1 PARM.CNF, 2 ATTEN_CHAR.IND, 3 MATCH.CNF) and its contents. -/
  | slac (step : Nat) (vals : List Nat)
  /-- A frame sent on a lane's port: port, egress queue, and the bytes from the destination address to the FCS. -/
  | slFrame (port queue : Nat) (frame : Bytes)
  /-- What port 4 sends for the post: 1 an ARP reply, 2 an ICMP echo reply; its PCP, the MAC and IP address it goes to and its data. -/
  | slHost (kind pcp mac ip : Nat) (data : Bytes)
  /-- A Sync message sent with a stage time: its PCP, domain and transport. -/
  | ptpSync (pcp domain transport stime : Nat)
  /-- An APDU sent to the SAM in a slot. -/
  | sam (slot : Nat) (apdu : Bytes)
  /-- The tag's answer: the bytes, and the frame delay in cycles of the field for an answer on its grid (R421). -/
  | tag (data : Bytes) (delay : Option Nat)
  /-- The tag's answer to a command of the application: data and status word. -/
  | tagApdu (data : Bytes) (sw : Nat)
  /-- The eight slots of a frame written to the display slot buffer (R476): two bits per segment line, slot 0 first. -/
  | slots (codes : List Nat)
deriving DecidableEq, Repr

/-- The state of the post. `now` is stage time (R6), `mono` counts the same unit without steps, `freeCtr` the free values
drawn; `sent` holds the outputs, newest first; `pending` the commands that wait. -/
structure State where
  now : Nat
  mono : Nat
  freeCtr : Nat
  regs : Regs
  mem : List Host.Cell
  cue : CueState
  fab : FabState
  clk : ClkState
  pwr : PwrState
  cbd : CbdState
  mram : MramState
  jnl : JnlState
  iron : IronState
  saf : SafState
  veh : VehState
  fly : FlyState
  cnv : CnvState
  nrg : NrgState
  box : BoxState
  tir : TirState
  slac : SlacState
  sl : SlState
  rdr : RdrState
  tag : TagState
  crd : CrdState
  ser : SerState
  dsp : DspState
  wng : WngState
  sent : List Output
  pending : List Instr
deriving DecidableEq, Repr

/-- The Cue server before the Stage manager runs. -/
def CueState.reset : CueState :=
  { running := false, keys := [0, 0, 0, 0, 0], lastMain := 0, lastSide := 0, seqMain := none, seqSide := none,
    repliesMain := [], repliesSide := [], inbox := [], pend := none, subs := List.replicate 64 none, route := none,
    authSent := [] }

/-- An empty fabric. -/
def FabState.reset : FabState := { reqs := [], delivered := [], events := [], last := [] }

/-- The clocks at the release of the power-on reset: RC16 runs, every island is held on input 0 (R71, R73). -/
def ClkState.reset : ClkState :=
  { src := [0, 0, 2, 0, 0, 0, 0, 0, 0, 0, 0, 0], judges := List.replicate 7 ⟨false, 0, 0⟩, islands := List.replicate 24 IslClk.fresh,
    factoryCode := 0x80, search := none, trimming := false, trimTemp := 0, trim := 0x80, pllOn := [false, false, false, false],
    pllFails := [[], [], [], []], pllHeld := [false, false, false, false], plla := 0, rtcOnXo := false, owed := [] }

/-- The domains after a VAON POR: PD00 to PD02 on (the default of PW_DOMAIN_STATE). -/
def domainsReset : List DomState := [.on, .on, .on] ++ List.replicate 61 .off

/-- Power right after a VAON POR with VAON good and no other supply yet seen good. -/
def PwrState.reset : PwrState :=
  { dom := domainsReset, vsup := false, vaon := true, vcore := false, vsrd := false, vio33 := false, vio18 := false,
    vcpP := false, vcpM := false, coreEn := false, srdEn := false, rstOut := false, vsupHeld := true, failing := false,
    boot := .held, cause := 1, forcedStart := false, resetArmed := false, deferred := false, loaderRun := 0, ironOn := false, ironReport := false, vcoreLost := false, target := 0x4B, asleep := false,
    thermFirst := true, thermBelow := none, shed := [], dropK := false, dieLot := 0, romVersion := 0, bootStatus := 0, darkKeeper := true }

/-- An empty channel with a CONFIG. -/
def Channel.empty (cfg : Nat) : Channel :=
  { notice := 0, full := false, taken := false, inDelivery := false, config := cfg, result := 0, resultCode := 0,
    resultTag := 0, notices := 0, lastSender := 0 }

/-- The MRAM controller of a part without repairs. -/
def MramState.reset : MramState :=
  { repairs := [], wrong := [], history := [], pass := [], refDone := false, badSpares := [], exhausted := [], fetchBank := [],
    op := none, restarts := [] }

/-- The journal engine before its first recovery. -/
def JnlState.reset : JnlState :=
  { ready := false, key := 0, recs := [], persist := [], window := [], slot := none, held := [], comp := none,
    retry := [], owed := [], final := false, keeper := false }

/-- The Iron bridge with nothing latched. -/
def IronState.reset : IronState := { events := [], next := 0, wait0 := false, wait1 := false, taken := [] }

/-- A safety channel that has seen no contact closed. -/
def SafChan.reset (lat : Nat) : SafChan :=
  { closed := List.replicate 16 false, lat := lat, estop := 0, readback := 0, overload := 0, dark := 0, disc := 0, tp := 0,
    tpFails := List.replicate 8 0, clear := List.replicate 8 0, clearAt := List.replicate 8 0,
    demandAt := List.replicate 8 0 }

/-- The safety functions after an Iron POR: BLOCK is latched. -/
def SafState.reset : SafState :=
  { chans := [SafChan.reset 0x8000, SafChan.reset 0], prOk := 0, prFirst := true, prSeq := 0, prVal := 0, prDiffer := 0,
    copy := [], loaded := false, earthCause := 0, earthAt := List.replicate 5 0, fast := false, brakeDone := false, brakeAt := 0,
    creepOnly := false, ss1 := none }

/-- No vehicle. -/
def VehState.reset : VehState :=
  { drive := .off, dc := false, began := false, paused := false, seenB := true, cls := 0, streak := 0, noDiode := 0, auth := none, changes := [], barred := none, limit := 0, cable := 0,
    slacTry := 0, slacSeen := false, slacAt := none, sid := none, target := 0, so2Open := false, vMax := 0, iMax := 0, isoLow := 0,
    isoRuns := 0, isoValid := false, rcSums := [], rcTimes := List.replicate 7 0, rcTested := false, rcTesting := false, modV := 0,
    modI := 0, override := true }
/-- The axis after I21 leaves reset. -/
def FlyState.reset : FlyState :=
  { phase := .rest, goal := .none, goalPos := 0, newTarget := none, x := 0, w := 0, al := 0,
    deltas := List.replicate 20 0, quiet := 0, dir := 0, zLatch := 0, toothRef := 0, lastTooth := 0, discAt := 0, held := [], passed := [],
    disarmed := [], aux := false, contactHigh := false, homeLow := false, frame := 0, sign := 0 }

/-- The converters after the power-up of their domains. -/
def CnvState.reset : CnvState :=
  { seq := 0, totals := List.replicate 12 0, frames := [], packets := [], lastCross := none, crossings := [], prev4 := 1,
    lostAt := none, window := 0, clocks := 4000000, third := 0, fallback := false, settling := List.replicate 16 2,
    pcFail := List.replicate 16 false, calLow := (0, 0), calHigh := (0, 0), entries := [], aborted := [], shadow := 0 }

/-- The Tally before it restores its registers. -/
def NrgState.reset : NrgState :=
  { ready := false, last := none, rho := List.replicate 12 0, sets := List.replicate 9 0, phases := List.replicate 6 0,
    rates := List.replicate 72 0, phRates := List.replicate 48 0, rate := 0, seams := [], anchor := (0, 0), arrival := (0, 0),
    sums := List.replicate 4 0, sumN := 0, bases := List.replicate 9 0, squares := List.replicate 7 0, squareN := 0,
    phBases := List.replicate 6 0, sat := List.replicate 3 false, overAt := List.replicate 3 none, gapAt := none,
    longAt := none, flags := 0 }

/-- The Box office with nothing entered and no session; the keys are those of an empty key store. -/
def BoxState.reset : BoxState :=
  { tampOpen := [], entry := [], entryAt := 0, token := none, partOne := none, tokenKey := 0, changeKey := 0, failTimes := [],
    session := none, number := 0, demand := [], demandBad := 0, creditOut := false, rateNext := none }

/-- Tirwa before I10 starts. -/
def TirState.reset : TirState :=
  { houseKey := none, neigh := [], routes := [], counts := [], queue := [], waiting := none, fseq := 0, count := 0, floods := [],
    seats := [], lead := false, claim := 0, reports := [], lastSession := [], share := none, slice := 0, reported := false,
    helloAt := 0, slew := 0, slewAcc := 0, asking := false }
/-- No SLAC run. -/
def SlacState.reset : SlacState :=
  { running := false, expected := 0, sounds := 0, sums := List.replicate 58 0, answered := false, key := 0 }
/-- The Stage link before it starts. -/
def SlState.reset : SlState :=
  { table := [], floods := List.replicate 5 [], hosts := [], mods := List.replicate 4 false, slow := List.replicate 4 false
    parent := none, timescale := false, inside := 0, outside := 0 }
/-- The reader before its first poll. -/
def RdrState.reset : RdrState := { seen := none, judging := none, holder := none }
/-- The tag without a field; the key is that of an empty key store. -/
def TagState.reset : TagState :=
  { field := false, fieldAt := 0, level := 1, woken := false, rats := false, rndB := none, byAes := false, failAt := none
    password := none, key := 0, clearing := none }
/-- Empty slots. -/
def CrdState.reset : CrdState := { slots := List.replicate 2 ⟨0, false, 0x11, false, 0⟩ }
/-- A UART with nothing received or to send. -/
def Uart.reset : Uart :=
  { fifo := [], lost := false, inBuf := [], outBuf := [], txFifo := [], testAt := 0, sr := 0, run := 0 }

/-- The serial ports and the keypad with nothing received. -/
def SerState.reset : SerState :=
  { door := [], doorAt := 0, doorBaud := 115200, doorFmt := 0, doorPend := false, woken := false, lostFirst := false,
    deRise := 0, deStart := 0, deFall := 0, uarts := List.replicate 5 Uart.reset, pmiSeq := 0, pmiMa := 0, pmiWait := none, pmiMissed := 0, down := [], withheld := [],
    keys := [] }
/-- A display that is off. -/
def DspState.reset : DspState :=
  { set := [], loaded := false, target := 0, waiting := none, runs := [], frames := 0, band := 0, lastBand := none,
    offReq := false, fields := [], fieldBlink := [], dark := false, hold := false }
/-- No staging open. -/
def WngState.reset : WngState :=
  { owner := .none, mode := 0, declared := 0, ranges := [], staged := 0, pendCommit := false, buf := [], headed := false,
    out := 0, resLen := 0, insertLeft := 0, ended := false, factoryCrc := 0, held := 0 }
/-- The post right after the release of the VAON POR: stage time 0, every register at its default, memory as it was
never written, nothing running, no command waiting. -/
def State.reset : State :=
  { now := 0, mono := 0, freeCtr := 0, regs := [], mem := [],
    cue := CueState.reset, fab := FabState.reset, clk := ClkState.reset, pwr := PwrState.reset,
    cbd := { ch := (List.range 32).map fun n => Channel.empty (dfltOf (P.cbdConfig n)), prov := [], cancels := [], retracts := [],
             lost := [] },
    mram := MramState.reset, jnl := JnlState.reset, iron := IronState.reset,
    saf := SafState.reset,
    veh := VehState.reset,
    fly := FlyState.reset,
    cnv := CnvState.reset,
    nrg := NrgState.reset,
    box := BoxState.reset,
    tir := TirState.reset,
    slac := SlacState.reset,
    sl := SlState.reset,
    rdr := RdrState.reset,
    tag := TagState.reset,
    crd := CrdState.reset,
    ser := SerState.reset,
    dsp := DspState.reset,
    wng := WngState.reset,
    sent := [], pending := [] }

end Sys2Proof.Machine
end

