-- ==== Sys2Proof/Machine/Ops.lean ====
section
/-!
DEFINITION. The named operations over registers, memory, time and outputs. Registers are read and written here and
nowhere else, so that widths and defaults are kept in one place; memory likewise keeps its canonical form.
-/

namespace Sys2Proof.Machine

open Sys2Proof

/-! ### Statuses of R43 -/

/-- Completed. -/
abbrev stOk : Nat := 0
/-- Far side not present, a watchdog expired, or the target lost power. -/
abbrev stAborted : Nat := 1
/-- No target at the address. -/
abbrev stDecode : Nat := 2
/-- Initiator not permitted. -/
abbrev stDenied : Nat := 3
/-- Uncorrectable ECC error in the target. -/
abbrev stData : Nat := 4
/-- Target refused the request by its own rule. -/
abbrev stRefused : Nat := 5

/-! ### Registers -/

/-- The value listed for a PID. -/
def Regs.get? : Regs → Nat → Option Nat
  | [], _ => none
  | (k, v) :: t, p => if k = p then some v else Regs.get? t p

/-- A value listed, in PID order. -/
def Regs.insert : Regs → Nat → Nat → Regs
  | [], p, v => [(p, v)]
  | (k, w) :: t, p, v =>
    if p < k then (p, v) :: (k, w) :: t
    else if k = p then (p, v) :: t
    else (k, w) :: Regs.insert t p v

/-- A PID no longer listed. -/
def Regs.erase (r : Regs) (p : Nat) : Regs := r.filter (fun e => !(e.1 == p))

/-- A value stored: listed unless it is the default. -/
def Regs.put (r : Regs) (p v : Nat) : Regs :=
  if v = dfltOf p then Regs.erase r p else Regs.insert r p v

/-- The value of a register (R14: the default where nothing else was stored). -/
def State.reg (s : State) (p : Nat) : Nat := (Regs.get? s.regs p).getD (dfltOf p)

/-- A register written; the value is cut to the object's width. -/
def State.setReg (s : State) (p v : Nat) : State :=
  { s with regs := Regs.put s.regs p (v % 2 ^ (8 * sizeOf' p)) }

/-- A register returned to its default. -/
def State.clearReg (s : State) (p : Nat) : State := { s with regs := Regs.erase s.regs p }

/-- Several registers written in order. -/
def State.setRegs (s : State) (l : List (Nat × Nat)) : State := l.foldl (fun s e => s.setReg e.1 e.2) s

/-- A register read as a signed value of the object's width (R11). -/
def State.regI (s : State) (p : Nat) : Int := toSigned (8 * sizeOf' p) (s.reg p)

/-- A register written with a signed value. -/
def State.setRegI (s : State) (p : Nat) (i : Int) : State := s.setReg p (ofSigned (8 * sizeOf' p) i)

/-- A counter raised, saturating at its width. -/
def State.count (s : State) (p k : Nat) : State := s.setReg p (satAdd (8 * sizeOf' p) (s.reg p) k)

/-! ### Memory -/

/-- What an address that is not listed reads as (notes/assumptions/3.md). -/
def blankByte : Nat := 0

/-- The byte at an address. -/
def Memory.read : List Host.Cell → Nat → Nat
  | [], _ => blankByte
  | (a, b) :: t, x => if a = x then b.toNat else Memory.read t x

/-- A byte written; a blank byte is not listed. -/
def Memory.write : List Host.Cell → Nat → Nat → List Host.Cell
  | [], x, v => if v % 256 = blankByte then [] else [(x, BitVec.ofNat 8 v)]
  | (a, b) :: t, x, v =>
    if x < a then (if v % 256 = blankByte then (a, b) :: t else (x, BitVec.ofNat 8 v) :: (a, b) :: t)
    else if a = x then (if v % 256 = blankByte then t else (x, BitVec.ofNat 8 v) :: t)
    else (a, b) :: Memory.write t x v

/-- Every cell of the list lies above `lo` and is not blank, and the addresses rise strictly. -/
def Memory.wfAbove : Nat → List Host.Cell → Bool
  | _, [] => true
  | lo, (a, b) :: t => decide (lo ≤ a) && !(b.toNat == blankByte) && Memory.wfAbove (a + 1) t

/-- The canonical form of memory: addresses strictly rising, no blank cell listed. -/
def Memory.wf (m : List Host.Cell) : Bool := Memory.wfAbove 0 m

/-- Bytes written at rising addresses. -/
def Memory.writeBytes : List Host.Cell → Nat → Bytes → List Host.Cell
  | m, _, [] => m
  | m, x, v :: t => Memory.writeBytes (Memory.write m x v) (x + 1) t

/-- `k` bytes from an address. -/
def Memory.readBytes (m : List Host.Cell) (x : Nat) : Nat → Bytes
  | 0 => []
  | k + 1 => Memory.read m x :: Memory.readBytes m (x + 1) k

/-- The cells of a range made blank. -/
def Memory.clear (m : List Host.Cell) (lo hi : Nat) : List Host.Cell :=
  m.filter (fun c => decide (c.1 < lo ∨ hi ≤ c.1))

/-- `n` cells from `src` copied to `dst`. -/
def Memory.copyRange (m : List Host.Cell) (src dst n : Nat) : List Host.Cell :=
  (m.filter (fun c => decide (src ≤ c.1 ∧ c.1 < src + n))).foldl
    (fun acc c => Memory.write acc (c.1 - src + dst) c.2.toNat) (Memory.clear m dst (dst + n))

/-- The byte at an address of the post's memory. -/
def State.byte (s : State) (x : Nat) : Nat := Memory.read s.mem x

/-- `k` bytes of memory. -/
def State.bytes (s : State) (x k : Nat) : Bytes := Memory.readBytes s.mem x k

/-- Bytes of memory written. -/
def State.setBytes (s : State) (x : Nat) (l : Bytes) : State := { s with mem := Memory.writeBytes s.mem x l }

/-- The 128-bit word at an address, least significant byte first (R5, R139). -/
def State.word (s : State) (x : Nat) : Nat := ofBytes (s.bytes x 16)

/-- A 128-bit word written whole. -/
def State.setWord (s : State) (x w : Nat) : State := s.setBytes x (toBytes 16 w)

/-- The start of the SRAM (R50). -/
def sramBase : Nat := 0x01000000

/-- The start of MRAM bank `b` (R137). -/
def bankBase (b : Nat) : Nat := 0x02000000 + b * 0x400000

/-- The 8 bytes of the post identity, in stored order (R9, R145). -/
def State.postId (s : State) : Bytes := s.bytes (bankBase 0) 8

/-! ### Time, free values and outputs -/

/-- One second of stage time (R6). -/
def second : Nat := 0x1000000

/-- A stage time as its 64 bits (R6). -/
def wrapTime (t : Nat) : Nat := t % 2 ^ 64

/-- A number of milliseconds in units of stage time, rounded down. -/
def ms (n : Nat) : Nat := n * 0x1000000 / 1000

/-- A number of microseconds in units of stage time, rounded down. -/
def us (n : Nat) : Nat := n * 0x1000000 / 1000000

/-- A number of microseconds in units of stage time, rounded up. -/
def usUp (n : Nat) : Nat := (n * 0x1000000 + 999999) / 1000000

/-- A free value drawn (notes/assumptions/1.md): nothing constrains it. -/
def State.draw (s : State) : Nat × State :=
  ((Config.freeValue s.freeCtr).toNat, { s with freeCtr := s.freeCtr + 1 })

/-- A free value of `w` bits. -/
def State.drawBits (s : State) (w : Nat) : Nat × State :=
  (s.draw.1 % 2 ^ w, s.draw.2)

/-- Whether an output leaves by balls of the VIO33 bank (spec/10, 16 and 17: the drive, the contact slots, U1, U2 and U5). -/
def Output.onVio33 : Output → Bool
  | .uart u _ => !(u == 0)
  | .flyPwm _ _ => true
  | .flyAux _ => true
  | .sam _ _ => true
  | _ => false

/-- Whether the balls of an output are driven: an unpowered I/O bank holds them at high impedance (R90). -/
def State.drives (s : State) (o : Output) : Bool := !o.onVio33 || s.pwr.vio33

/-- An output added, where its balls are driven. -/
def State.emit (s : State) (o : Output) : State := { s with sent := if s.drives o then o :: s.sent else s.sent }

/-! ### Domains, islands and presence -/

/-- The state of a domain. -/
def State.dom (s : State) (d : Nat) : DomState := s.pwr.dom.getD d .off

/-- Whether a domain is on. -/
def State.domOn (s : State) (d : Nat) : Bool := s.dom d == .on

/-- A domain put into a state. -/
def State.setDom (s : State) (d : Nat) (x : DomState) : State :=
  { s with pwr := { s.pwr with dom := setAt s.pwr.dom d x } }

/-- The bridge-side domain of each island (R38, R39). -/
def firstDom (n : Nat) : Nat :=
  [0, 2, 3, 4, 5, 6, 11, 13, 14, 15, 16, 17, 18, 20, 36, 37, 38, 42, 43, 44, 45, 46, 47, 50].getD n 64

/-- The island whose bridge-side domain is `d`. -/
def islandOfDom (d : Nat) : Option Nat := (List.range 24).find? (fun n => firstDom n == d)

/-- The clock of an island. -/
def State.isl (s : State) (n : Nat) : IslClk := s.clk.islands.getD n IslClk.fresh

/-- The clock of an island changed. -/
def State.setIsl (s : State) (n : Nat) (c : IslClk) : State :=
  { s with clk := { s.clk with islands := setAt s.clk.islands n c } }

/-- The PRESENT line of an island (R41): its bridge domain is on and it is out of reset. -/
def State.present (s : State) (n : Nat) : Bool := s.domOn (firstDom n) && !(s.isl n).inReset

/-- Whether the Iron answers through the main channel (R59): I22 present, PD52 on. -/
def State.ironPresent (s : State) : Bool := s.present 22 && s.domOn 52 && s.pwr.ironOn

/-- Whether the home of an object is present (R14, R59); home 24 is the Iron-die bridge window. -/
def State.homePresent (s : State) (h : Nat) : Bool := if h = 24 then s.ironPresent else s.present h

/-- The domain of the part that an object's register sits in, where its island has further domains (R38, R39): PD51 for the
Callboard, PD19 for the Box office (R325), PD38 to PD41 for the lanes (R411). -/
def partDom (p : Nat) : Option Nat :=
  match findObj p with
  | none => none
  | some o =>
    if o.island = 7 then (if P.cbdStatus 0 ≤ p then some 51 else none)
    else if o.island = 12 then some 19
    else if o.island = 16 then (o.indexOf p).map fun i => 38 + i.1
    else none

/-- Whether the part that holds an object is powered (R39). -/
def State.partOn (s : State) (p : Nat) : Bool :=
  match partDom p with
  | none => true
  | some d => s.domOn d

/-- The island of an initiator (R45). -/
def initIsland (i : Nat) : Nat :=
  if i ≤ 4 then i + 1
  else if i = 8 then 8
  else if i = 9 then 9
  else if i = 0xA then 10
  else if i = 0xB then 11
  else if i = 0xC then 0
  else if 0x10 ≤ i ∧ i ≤ 0x13 then 7
  else if i = 0x18 ∨ i = 0x19 then 0
  else if i = 0x1A then 1
  else if i = 0x1B then 19
  else 22

/-- The initiators that exist (R45). -/
def initiators : List Nat :=
  [1, 2, 3, 4, 8, 9, 0xA, 0xB, 0xC, 0x10, 0x11, 0x12, 0x13, 0x18, 0x19, 0x1A, 0x1B, 0x1F]

/-- The PRIO that the hub stamps from the initiator (R44). -/
def stampedPrio (init : Nat) : Nat :=
  if init = 0x08 ∨ init = 0x1F then 3
  else if (0x09 ≤ init ∧ init ≤ 0x0B) ∨ (0x10 ≤ init ∧ init ≤ 0x13) ∨ init = 0x1B then 2
  else 1

/-- An event offered to an island (R54): delivered, or counted as dropped while PRESENT is low. -/
def State.offerEvent (s : State) (island number : Nat) : State :=
  if s.present island then
    { s with fab := { s.fab with events := (island, number) :: s.fab.events } }.emit (.event island number)
  else s.count P.pwFabEventDrops 1

/-! ### Completions of the fabric (R43, R59, R61) -/

/-- The latest ABORTED or bus error (R61), with its counter (R48, R59). -/
def fabFault (init route status addr : Nat) (s : State) : State :=
  let s := s.setReg P.pwFabLastFault
    (addr % 2 ^ 40 + status % 256 * 2 ^ 46 + route % 32 * 2 ^ 54 + init % 32 * 2 ^ 59 + s.now % 2 ^ 64 * 2 ^ 64)
  if status = stAborted then s.count (P.pwFabAborts route) 1 else s.count P.pwFabBusErrors 1

/-- The answer to an access that a command spells whole: an ABORTED or a bus error is counted and recorded (R59, R60). -/
def busAnswer (init route status addr : Nat) (data : List Nat) (s : State) : State :=
  (if status = stOk then s else fabFault init route status addr s).emit (.bus init status data)

/-! ### Sources (R87) -/

/-- The place of a source code in `ClkState.src`. -/
def srcIndex (code : Nat) : Nat := [2, 0, 1, 3, 4, 5, 6, 7, 8, 11, 9, 10].getD code 11

/-- The state of a source: 0 off, 1 judging, 2 good, 3 failed. -/
def State.src (s : State) (code : Nat) : Nat := s.clk.src.getD (srcIndex code) 0

/-- Whether an island's clock has stopped although the island is powered: its old source stopped during a switch (R77), or it is
I01 without a reader's field or with FIELD13 failed (R73, R78). -/
def State.clockStopped (s : State) (n : Nat) : Bool := (s.isl n).hung || (n == 1 && (!s.tag.field || s.src 9 == 3))

/-- The state of a source set. -/
def State.setSrc (s : State) (code v : Nat) : State :=
  { s with clk := { s.clk with src := setAt s.clk.src (srcIndex code) v } }

/-! ### Batons (R27, R35) -/

/-- The holder of an area's baton: 0 free, 1 the main host, 2 the side-band. -/
def State.holder (s : State) (a : Nat) : Nat := bits (s.reg P.smgBatonHolder) (2 * a + 1) (2 * a)

/-- The post's seat (R8). -/
def State.seat (s : State) : Nat := s.reg P.smgSeat

end Sys2Proof.Machine
end

