-- ==== Sys2Proof/Machine/Address.lean ====
section
/-!
DEFINITION. The address map and who may use it (spec/02_dies_islands_fabric.md R39, R50, R51; spec/06_mram_and_prompt_book.md
R145).
-/

namespace Sys2Proof.Machine

open Sys2Proof

/-- The regions of the 40-bit address space (R50), each with the offset in it. -/
inductive Region where
  | rom
  | sram (bank : Nat)
  | mram (bank off : Nat)
  | window (island off : Nat)
  | iron (off : Nat)
  | vendor
  | nowhere
deriving DecidableEq, Repr

/-- The region of an address. -/
def regionOf (a : Nat) : Region :=
  if a < 0x40000 then .rom
  else if 0x01000000 ≤ a ∧ a < 0x01800000 then .sram ((a - 0x01000000) / 0x100000)
  else if 0x02000000 ≤ a ∧ a < 0x04000000 then .mram ((a - 0x02000000) / 0x400000) ((a - 0x02000000) % 0x400000)
  else if 0x10000000 ≤ a ∧ a < 0x10180000 then .window ((a - 0x10000000) / 0x10000) (a % 0x10000)
  else if 0x20000000 ≤ a ∧ a < 0x20100000 then .iron (a - 0x20000000)
  else if 0x40000000 ≤ a ∧ a < 0x10000000000 then .vendor
  else .nowhere

/-- The island that a request for a region goes to. Vendor and debug space and an address in no region belong to no island: the
hub answers there, and ROUTE is 7 (DESIGN CHOICE, notes/assumptions/16.md). -/
def Region.island : Region → Nat
  | .rom => 0
  | .sram _ => 13
  | .mram _ _ => 14
  | .window n _ => n
  | .iron _ => 22
  | .vendor => 7
  | .nowhere => 7

/-- Initiators 0x01 to 0x0C and the DMA engines, as far as they exist (R45, R51). -/
def coreOrDma (i : Nat) : Bool := (initiators.contains i) && (decide (i ≤ 0x0C) || decide (0x10 ≤ i ∧ i ≤ 0x13))

/-- Whether an offset of bank 0 lies in the dark log window (R145). -/
def inDarkLog (off : Nat) : Bool := decide (0x1000 ≤ off ∧ off < 0x2000)

/-- Whether an initiator may read a region (R51). The boot ROM is readable until the hand-over. -/
def mayRead (s : State) (init : Nat) : Region → Bool
  | .rom => init == 0x0C && !(s.pwr.boot == .handOver || s.pwr.boot == .running)
  | .sram _ => coreOrDma init
  | .mram b _ => coreOrDma init || (b == 0 && init == 0x1A)
  | .window _ _ => initiators.contains init
  | .iron _ => initiators.contains init
  | .vendor => false
  | .nowhere => true

/-- Whether an initiator may write a region (R51, R145). -/
def mayWrite (init : Nat) : Region → Bool
  | .rom => false
  | .sram _ => coreOrDma init
  | .mram b off =>
    if b = 0 then
      if inDarkLog off then init == 0x0C || init == 0x1A
      else init == 0x0C && decide (0x4000 ≤ off ∧ off < 0x80000)
    else if b ≤ 2 then false
    else if b ≤ 5 then init == 0x0C
    else init == 0x0C || (decide (1 ≤ init ∧ init ≤ 4)) || decide (0x10 ≤ init ∧ init ≤ 0x13)
  | .window _ _ => initiators.contains init
  | .iron off => init == 0x08 || init == 0x0C || (init == 0x1B && decide (0x10000 ≤ off ∧ off < 0x10040))
  | .vendor => false
  | .nowhere => true

/-- Whether a part of an island that has a domain of its own is powered (R39). -/
def partPowered (s : State) : Region → Bool
  | .sram b => s.domOn (20 + b)
  | .mram b _ => s.domOn (28 + b)
  | .iron _ => s.domOn 52 && s.pwr.ironOn
  | _ => true

/-- Whether a word of bank 0 reads as 0 through the fabric: the key store and the reserved part (R145). -/
def readsZero : Region → Bool
  | .mram b off => b == 0 && (decide (0x3000 ≤ off ∧ off < 0x4000) || decide (0x80000 ≤ off))
  | _ => false

end Sys2Proof.Machine
end

