-- ==== Sys2Proof/Machine/Callboard.lean ====
section
/-!
DEFINITION. The Callboard (spec/05_callboard.md): posting, taking, acknowledging, withdrawing and losing notices, and
the Iron's events that are posted on it (spec/02_dies_islands_fabric.md R58, R530).
-/

namespace Sys2Proof.Machine

open Sys2Proof

/-! ### Channels -/

/-- A channel. -/
def State.chan (s : State) (n : Nat) : Channel := s.cbd.ch.getD n (Channel.empty 0)

/-- A channel replaced. -/
def State.setChan (s : State) (n : Nat) (c : Channel) : State :=
  { s with cbd := { s.cbd with ch := setAt s.cbd.ch n c } }

/-- Acknowledge mode (R120). -/
def Channel.ackMode (c : Channel) : Bool := bitOf c.config 37

/-- The receiver's initiator identity. -/
def Channel.receiver (c : Channel) : Nat := bits c.config 36 32

/-- Whether the sender mask permits an initiator. -/
def Channel.permits (c : Channel) (init : Nat) : Bool := decide (init < 32) && bitOf c.config init

/-- The TAG of a notice (R121). -/
def noticeTag (w : Nat) : Nat := bits w 79 64

/-- The KIND of a notice. -/
def noticeKind (w : Nat) : Nat := bits w 63 60

/-- The SENDER of a notice. -/
def noticeSender (w : Nat) : Nat := bits w 84 80

/-- A notice word (R121). -/
def mkNotice (sender tag kind length addr : Nat) : Nat :=
  addr % 2 ^ 40 + length % 2 ^ 20 * 2 ^ 40 + kind % 16 * 2 ^ 60 + tag % 2 ^ 16 * 2 ^ 64 + sender % 32 * 2 ^ 80

/-- Whether the Callboard is powered: I07 present and PD51 on. -/
def State.cbdOn (s : State) : Bool := s.present 7 && s.domOn 51

/-- STATUS of a channel (R134). -/
def Channel.status (c : Channel) : Nat :=
  ofBool c.full + 2 * ofBool c.taken + 4 * ofBool c.inDelivery + c.result % 8 * 2 ^ 8 + c.lastSender % 32 * 2 ^ 11
    + c.notices % 2 ^ 16 * 2 ^ 16 + c.resultCode % 2 ^ 16 * 2 ^ 32 + c.resultTag % 2 ^ 16 * 2 ^ 48

/-- CBD_PENDING: the channels full and not taken (R127). -/
def State.cbdPending (s : State) : Nat :=
  ((List.range 32).map fun n => if (s.chan n).full && !(s.chan n).taken then 2 ^ n else 0).foldl (· + ·) 0

/-! ### Posting (R123, R124) -/

/-- The channel after an accepted posting. -/
def Channel.posted (c : Channel) (init word : Nat) : Channel :=
  { c with
      notice := setBits (word % 2 ^ 85) 84 80 init, full := true, taken := false, inDelivery := false, result := 0,
      resultCode := 0, resultTag := noticeTag word, notices := (c.notices + 1) % 2 ^ 16, lastSender := init }

/-- The provisional notices after an accepted posting: one of kind 0x5 is kept, any other with its tag makes it final (R122). -/
def provPosted (n init word : Nat) (l : List (Nat × Nat × Nat × Nat)) : List (Nat × Nat × Nat × Nat) :=
  let others := l.filter fun e => !(e.1 == init && e.2.1 == noticeTag word && e.2.2.1 == n)
  if noticeKind word = 5 then (init, noticeTag word, n, 0) :: others else others

/-- An accepted posting with its event and its counters. -/
def storeNotice (n init word : Nat) (s : State) : State :=
  let c := s.chan n
  let s := (s.setChan n (c.posted init word)).setReg P.cbdResultNew (setBit (s.reg P.cbdResultNew) n false)
  let s := { s with cbd := { s.cbd with prov := provPosted n init word s.cbd.prov } }
  let s := if noticeKind word = 4 then s.count P.cbdRetractions 1 else s
  s.offerEvent (initIsland c.receiver) n

/-- A write to NOTICE judged in the order of R123: status and next state. -/
def postNotice (n init word beats byteEn : Nat) (s : State) : Nat × State :=
  let c := s.chan n
  if s.cbdOn = false then (stAborted, s)
  else if c.permits init = false then (stDenied, s)
  else if beats ≠ 1 ∨ byteEn ≠ 0xFFFF then (stRefused, s)
  else if s.present (initIsland c.receiver) = false then (stAborted, s)
  else if c.full then (stRefused, s.count P.cbdRefused 1)
  else (stOk, storeNotice n init word s)

/-- A notice posted whole by a unit of the post. -/
def post (n sender tag kind length addr : Nat) (s : State) : State :=
  (postNotice n sender (mkNotice sender tag kind length addr) 1 0xFFFF s).2

/-! ### Results (R128, R131) -/

/-- The retractions that wait for a channel, offered in order: one that the full channel refuses goes on waiting. A retraction
describes no memory: its LENGTH and ADDR are 0 (DESIGN CHOICE, notes/assumptions/80.md). -/
def offerRetracts (n : Nat) (s : State) : State :=
  match s.cbd.retracts.find? fun e => e.2.2 == n with
  | none => s
  | some e =>
    let r := postNotice n e.1 (mkNotice e.1 e.2.1 4 0 0) 1 0xFFFF s
    if r.1 = stRefused then r.2
    else { r.2 with cbd := { r.2.cbd with retracts := r.2.cbd.retracts.erase e } }

/-- A retraction of a notice that was read: posted, or kept until its channel has room (R131). -/
def retract (n sender tag : Nat) (s : State) : State :=
  offerRetracts n { s with cbd := { s.cbd with
    prov := s.cbd.prov.filter fun e => !(e.1 == sender && e.2.1 == tag && e.2.2.1 == n)
    retracts := s.cbd.retracts ++ [(sender, tag, n)] } }

/-- A retraction posted in place of a cancellation that waited for its result. -/
def cancelWaiting (n sender tag result : Nat) (s : State) : State :=
  if s.cbd.cancels.contains (sender, tag, n) then
    let s := { s with cbd := { s.cbd with cancels := s.cbd.cancels.filter (fun e => !(e == (sender, tag, n))) } }
    if result = 1 ∨ result = 2 then retract n sender tag s else s
  else s

/-- The result that a sender keeps of a provisional notice. -/
def provResult (n sender tag result : Nat) (l : List (Nat × Nat × Nat × Nat)) : List (Nat × Nat × Nat × Nat) :=
  l.map fun e => if e.1 = sender ∧ e.2.1 = tag ∧ e.2.2.1 = n then (sender, tag, n, result) else e

/-- A result recorded for the notice of a channel, which empties. -/
def recordResult (n result code : Nat) (s : State) : State :=
  let c := s.chan n
  let s := (s.setChan n { c with
    notice := 0, full := false, taken := false, inDelivery := false, result := result,
    resultCode := code, resultTag := noticeTag c.notice }).setReg P.cbdResultNew
      (setBit (s.reg P.cbdResultNew) n true)
  let s := { s with cbd := { s.cbd with prov := provResult n c.lastSender (noticeTag c.notice) result s.cbd.prov } }
  let s := cancelWaiting n c.lastSender (noticeTag c.notice) result (s.offerEvent (initIsland c.lastSender) n)
  if (s.chan n).full then s else offerRetracts n s

/-! ### Taking (R125, R53) -/

/-- A read of NOTICE: status, data, and IN_DELIVERY set on a notice not yet taken. -/
def readNotice (n init : Nat) (s : State) : Nat × Nat × State :=
  let c := s.chan n
  if s.cbdOn = false then (stAborted, 0, s)
  else if c.receiver ≠ init then (stDenied, 0, s)
  else if c.full = false then (stRefused, 0, s)
  else if c.taken then (stOk, c.notice, s)
  else (stOk, c.notice, s.setChan n { c with inDelivery := true })

/-- The side effect of a read of NOTICE once its response was delivered, or not (R53). -/
def deliverNotice (n : Nat) (delivered : Bool) (s : State) : State :=
  let c := s.chan n
  if c.inDelivery = false then s
  else if delivered = false then s.setChan n { c with inDelivery := false }
  else if c.ackMode then s.setChan n { c with inDelivery := false, taken := true }
  else recordResult n 1 0 s

/-- A write to ACK (R126). -/
def ackNotice (n init code : Nat) (s : State) : Nat × State :=
  let c := s.chan n
  if s.cbdOn = false then (stAborted, s)
  else if c.receiver ≠ init then (stDenied, s)
  else if c.ackMode = false ∨ c.full = false ∨ c.taken = false then (stRefused, s)
  else (stOk, recordResult n 2 (code % 2 ^ 16) s)

/-- A write to WITHDRAW (R129). -/
def withdrawNotice (n init tag : Nat) (s : State) : Nat × State :=
  let c := s.chan n
  if s.cbdOn = false then (stAborted, s)
  else if c.permits init = false then (stDenied, s)
  else if c.full ∧ c.taken = false ∧ c.inDelivery = false ∧ noticeSender c.notice = init ∧ noticeTag c.notice = tag % 2 ^ 16
  then (stOk, recordResult n 4 0 s)
  else (stRefused, s)

/-- A read of STATUS (R128): the last sender's read clears CBD_RESULT_NEW. -/
def readStatus (n init : Nat) (s : State) : Nat × Nat × State :=
  let c := s.chan n
  if s.cbdOn = false then (stAborted, 0, s)
  else if c.lastSender = init then
    (stOk, c.status, s.setReg P.cbdResultNew (setBit (s.reg P.cbdResultNew) n false))
  else (stOk, c.status, s)

/-- A write to CONFIG by the Stage manager (R119, R133). -/
def writeConfig (n init value : Nat) (s : State) : Nat × State :=
  if s.cbdOn = false then (stAborted, s)
  else if init ≠ 0x0C then (stDenied, s)
  else (stOk, s.setChan n { s.chan n with config := value % 2 ^ 38 })

/-! ### Losses (R130, R136) -/

/-- One channel emptied with the result aborted if it holds a notice for an island. -/
def loseNotice (island n : Nat) (s : State) : State :=
  if (s.chan n).full ∧ initIsland (s.chan n).receiver = island then (recordResult n 3 0 s).count P.cbdAborted 1 else s

/-- The fall of a receiver's PRESENT (R130). -/
def receiverReset (island : Nat) (s : State) : State :=
  (List.range 32).foldl (fun s n => loseNotice island n s) s

/-- The notices held on channel `n`, for their sender to post again unless it cancels them (R131, R136). -/
def heldNotice (s : State) (n : Nat) : List (Nat × Nat) :=
  let c := s.chan n
  if c.full ∧ s.cbd.cancels.contains (c.lastSender, noticeTag c.notice, n) = false then [(n, c.notice)] else []

/-- A reset of I07 or a loss of PD51 (R136, R120): empty channels, CONFIG as the table of R132, objects at default. No result is
recorded; each sender keeps what it held, and forgets of its provisional notices those that no receiver has read. -/
def callboardReset (s : State) : State :=
  let s := { s with cbd :=
    { ch := (List.range 32).map fun n => Channel.empty (dfltOf (P.cbdConfig n))
      prov := s.cbd.prov.filter fun e => !(e.2.2.2 == 0)
      cancels := [], retracts := s.cbd.retracts
      lost := s.cbd.lost ++ (List.range 32).flatMap (heldNotice s) } }
  ((((s.clearReg P.cbdResultNew).clearReg P.cbdRefused).clearReg P.cbdAborted).clearReg P.cbdRetractions)

/-- One lost notice posted again by its sender, while the sender's island is present (R136): a notice that the sender still holds
is taken as still needed (DESIGN CHOICE, notes/assumptions/80.md). -/
def repost (e : Nat × Nat) (s : State) : State :=
  if s.present (initIsland (noticeSender e.2)) then (postNotice e.1 (noticeSender e.2) e.2 1 0xFFFF s).2 else s

/-- The senders' postings once I07 is present and PD51 powered again, and its CONFIG registers hold their table (R136). -/
def callboardReturns (s : State) : State :=
  if s.cbdOn then
    (List.range 32).foldl (fun s n => offerRetracts n s)
      (s.cbd.lost.foldl (fun s e => repost e s) { s with cbd := { s.cbd with lost := [] } })
  else s

/-- What the senders of an island forget with it: their lost notices, cancellations and provisional notices. -/
def senderGone (island : Nat) (s : State) : State :=
  { s with cbd := { s.cbd with
      prov := s.cbd.prov.filter fun e => !(initIsland e.1 == island)
      cancels := s.cbd.cancels.filter fun e => !(initIsland e.1 == island)
      retracts := s.cbd.retracts.filter fun e => !(initIsland e.1 == island)
      lost := s.cbd.lost.filter fun e => !(initIsland (noticeSender e.2) == island) } }

/-! ### Cancelling a provisional notice (R131) -/

/-- The result of a sender's provisional notice on a channel, 0 while it is held. -/
def State.provisional (s : State) (sender tag n : Nat) : Option Nat :=
  (s.cbd.prov.find? fun e => e.1 == sender && e.2.1 == tag && e.2.2.1 == n).map (·.2.2.2)

/-- The cancellation on one channel: a notice that is held is withdrawn, or its result awaited where it is being read; one that
was delivered or acknowledged, however long ago, is retracted; one that was aborted or withdrawn needs nothing. -/
def cancelOn (sender tag n : Nat) (s : State) : State :=
  let c := s.chan n
  match s.provisional sender tag n with
  | none => s
  | some 0 =>
    if c.taken ∨ c.inDelivery then { s with cbd := { s.cbd with cancels := (sender, tag, n) :: s.cbd.cancels } }
    else (withdrawNotice n sender tag s).2
  | some r => if r = 1 ∨ r = 2 then retract n sender tag s else s

/-- The cancellation on every channel on which the notice was posted. -/
def cancelNotice (sender tag : Nat) (channels : List Nat) (s : State) : State :=
  channels.foldl (fun s n => cancelOn sender tag n s) s

/-! ### The Iron's events (R58, R530) -/

/-- The notice of an Iron event (R530). -/
def ironNotice (e : IronEvent) : Nat :=
  mkNotice 0x1F (e.seq % 2 ^ 16) 3 0
    (e.code % 256 * 2 ^ 32 + e.unit % 256 * 2 ^ 24 + e.seq / 2 ^ 16 % 256 * 2 ^ 16 + e.faults % 2 ^ 16)

/-- An event latched in the Iron with the next of its 24-bit sequence numbers. -/
def ironLatch (code unit : Nat) (s : State) : State :=
  let e : IronEvent :=
    { seq := s.iron.next, code := code, unit := unit, faults := s.reg P.irnFaults % 2 ^ 16,
      keeper := false, main0 := false, main1 := false };
  { s with iron := { s.iron with events := s.iron.events ++ [e], next := (s.iron.next + 1) % 2 ^ 24 } }

/-- The events still to post on a channel of the Iron bridge. -/
def IronState.toPost (i : IronState) (n : Nat) : List IronEvent :=
  i.events.filter fun e => if n = 0 then !e.main0 else !e.main1

/-- An event marked as posted on a channel, and dropped once both channels and the keeper channel have had it. -/
def ironPosted (seq n : Nat) (s : State) : State :=
  let mark (e : IronEvent) : IronEvent :=
    if e.seq = seq then (if n = 0 then { e with main0 := true } else { e with main1 := true }) else e
  let ev := (s.iron.events.map mark).filter fun e => !(e.main0 && e.main1 && e.keeper);
  { s with iron := { s.iron with events := ev } }

/-- Whether the Iron bridge waits for a channel's result event. -/
def setIronWait (n : Nat) (b : Bool) (s : State) : State :=
  { s with iron := if n = 0 then { s.iron with wait0 := b } else { s.iron with wait1 := b } }

/-- The oldest event that a channel has not had posted on it while I22 is present (R58, R123). -/
def ironPost (n : Nat) (s : State) : State :=
  if s.present 22 = false then s
  else
    match s.iron.toPost n with
    | [] => s
    | e :: _ =>
      let r := postNotice n 0x1F (ironNotice e) 1 0xFFFF s
      if r.1 = stOk then setIronWait n false (ironPosted e.seq n r.2)
      else if r.1 = stRefused then setIronWait n true r.2
      else r.2

/-! ### Notices that pass through at once -/

/-- A notice posted, taken by its receiver and, in acknowledge mode, acknowledged with a code. Its TAG is the sender's choice, a
free value; it describes no memory. -/
def relay (n sender kind code : Nat) (s : State) : State :=
  let f := s.drawBits 16
  let p := postNotice n sender (mkNotice sender f.1 kind 0 0) 1 0xFFFF f.2
  if p.1 = stOk then
    let rcv := (p.2.chan n).receiver
    let r := readNotice n rcv p.2
    let t := deliverNotice n true r.2.2
    if (t.chan n).ackMode then (ackNotice n rcv code t).2 else t
  else p.2

/-! ### The commands -/

/-- The address of a channel's registers (R119). -/
def chanAddr (n : Nat) : Nat := 0x10071000 + 0x40 * n

/-- NOTICE_POST. -/
def execNoticePost (ch init word beats byteEn : Nat) (s : State) : Host.Outcome State Fault Refusal :=
  let r := postNotice ch init word beats byteEn s
  .next (busAnswer init 7 r.1 (chanAddr ch) [] r.2)

/-- NOTICE_TAKE: the read, and on its delivery the side effect. -/
def execNoticeTake (ch init : Nat) (delivered : Bool) (s : State) : Host.Outcome State Fault Refusal :=
  let r := readNotice ch init s
  .next (busAnswer init 7 r.1 (chanAddr ch) [r.2.1] (if r.1 = stOk then deliverNotice ch delivered r.2.2 else r.2.2))

/-- NOTICE_ACK. -/
def execNoticeAck (ch init code : Nat) (s : State) : Host.Outcome State Fault Refusal :=
  let r := ackNotice ch init code s
  .next (busAnswer init 7 r.1 (chanAddr ch + 0x28) [] r.2)

/-- NOTICE_WITHDRAW. -/
def execNoticeWithdraw (ch init tag : Nat) (s : State) : Host.Outcome State Fault Refusal :=
  let r := withdrawNotice ch init tag s
  .next (busAnswer init 7 r.1 (chanAddr ch + 0x2C) [] r.2)

/-- CALLBOARD_STATUS_READ. -/
def execCallboardStatusRead (ch init : Nat) (s : State) : Host.Outcome State Fault Refusal :=
  let r := readStatus ch init s
  .next (busAnswer init 7 r.1 (chanAddr ch + 0x20) [r.2.1] r.2.2)

/-- CALLBOARD_CONFIG_WRITE. -/
def execCallboardConfigWrite (ch init value : Nat) (s : State) : Host.Outcome State Fault Refusal :=
  let r := writeConfig ch init value s
  .next (busAnswer init 7 r.1 (chanAddr ch + 0x30) [] r.2)

/-- RECEIVER_RESET. -/
def execReceiverReset (island : Nat) (s : State) : Host.Outcome State Fault Refusal :=
  .next (receiverReset island s)

/-- CALLBOARD_RESET. -/
def execCallboardReset (s : State) : Host.Outcome State Fault Refusal :=
  .next (callboardReset s)

/-- PROVISIONAL_CANCEL. -/
def execProvisionalCancel (sender tag : Nat) (channels : List Nat) (s : State) : Host.Outcome State Fault Refusal :=
  .next (cancelNotice sender tag channels s)

/-- IRON_EVENT_LATCH. -/
def execIronEventLatch (code unit : Nat) (s : State) : Host.Outcome State Fault Refusal :=
  .next (if s.pwr.ironOn then ironLatch code unit s else s)

/-- IRON_EVENT_MAIN_POST. -/
def execIronEventMainPost (ch : Nat) (s : State) : Host.Outcome State Fault Refusal :=
  .next (ironPost ch s)

/-- IRON_EVENT_REPOST: the result event of a channel releases the event that was refused as full. -/
def execIronEventRepost (ch : Nat) (s : State) : Host.Outcome State Fault Refusal :=
  .next (if (if ch = 0 then s.iron.wait0 else s.iron.wait1) then ironPost ch s else s)

end Sys2Proof.Machine
end

