-- ==== Sys2Proof/Machine/Journal.lean ====
section
/-!
DEFINITION. The prompt book (spec/06_mram_and_prompt_book.md R155 to R163, R527 to R529): records, commits, the rate
window, compaction and recovery, and the persistent value of each object (R182, R184).
-/

namespace Sys2Proof.Machine

open Sys2Proof

/-! ### Words of a record (R156, R157) -/

/-- The words of a half (R137). -/
def halfWords : Nat := 262144

/-- The first of the kept words of a half (R527). -/
def keptFrom : Nat := 258048

/-- The header word of a record. -/
def headWord (r : Rec) : Nat :=
  r.payload.length % 256 + r.typ % 256 * 2 ^ 8 + r.seq % 2 ^ 48 * 2 ^ 16 + r.stime % 2 ^ 64 * 2 ^ 64

/-- The MAC of a record: the first 64 bits of AES-CMAC over header and payload under the journal key (R157). The first byte of the
CMAC stands in bits [71:64] of the commit word (DESIGN CHOICE, notes/assumptions/94.md). -/
def recMac (key : Nat) (r : Rec) : Nat :=
  ofBytes ((aesCmac (toBytes 16 key) (ofWords (headWord r :: r.payload))).take 8)

/-- The commit word of a record. -/
def commitWord (key : Nat) (r : Rec) : Nat :=
  0xA5C3 + r.seq % 2 ^ 48 * 2 ^ 16 + recMac key r * 2 ^ 64

/-- The words a record takes: header, payload and commit word. -/
def Rec.words (r : Rec) : Nat := r.payload.length + 2

/-- Words written at rising addresses. -/
def State.setWords (s : State) (x : Nat) : List Nat → State
  | [] => s
  | w :: t => State.setWords (s.setWord x w) (x + 16) t

/-- The bank of the live half (R155, R164). -/
def State.liveBank (s : State) : Nat := if s.reg P.pbkLiveHalf = 2 then 2 else 1

/-- The next SEQ (R164). -/
def State.nextSeq (s : State) : Nat := s.reg P.pbkSeqNext

/-- A record written whole into a half at a word position. -/
def writeRec (s : State) (bank pos : Nat) (r : Rec) : State :=
  s.setWords (bankBase bank + 16 * pos) (headWord r :: r.payload ++ [commitWord s.jnl.key r])

/-! ### Persistent values -/

/-- One OBJECT entry: descriptor word and value words (R182). -/
def objEntry (seat master level len pid value : Nat) : List Nat :=
  (pid % 2 ^ 24 + len % 2 ^ 16 * 2 ^ 24 + level % 8 * 2 ^ 40 + master % 32 * 2 ^ 43 + seat % 2 ^ 16 * 2 ^ 48)
    :: toWords (toBytes len value)

/-- The entry of a value that the MZD1 itself changed (R528). -/
def ownEntry (len pid value : Nat) : List Nat := objEntry 0xFFFE 0 0 len pid value

/-- The entries of an OBJECT payload (PID, length, value); `fuel` bounds their number. -/
def parseEntries : Nat → List Nat → List (Nat × Nat × Nat)
  | 0, _ => []
  | _ + 1, [] => []
  | k + 1, d :: t =>
    let len := bits d 39 24
    let n := (len + 15) / 16;
    (bits d 23 0, len, ofBytes ((ofWords (t.take n)).take len)) :: parseEntries k (t.drop n)

/-- The items of a SAFETY_BLOCK payload (R225): PID and value by turns. -/
def parseItems : Nat → Bytes → List (Nat × Nat × Nat)
  | 0, _ => []
  | k + 1, l =>
    let pid := ofBytes (l.take 3)
    let len := sizeOf' pid;
    (pid, len, ofBytes (slice l 3 len)) :: parseItems k (l.drop (3 + len))

/-- The persistent value listed for a PID: length and value. -/
def persistGet : List (Nat × Nat × Nat) → Nat → Option (Nat × Nat)
  | [], _ => none
  | (p, l, v) :: t, q => if p = q then some (l, v) else persistGet t q

/-- A persistent value replaced. -/
def persistPut (m : List (Nat × Nat × Nat)) (e : Nat × Nat × Nat) : List (Nat × Nat × Nat) :=
  e :: m.filter (fun x => !(x.1 == e.1))

/-- A counter among the persistent values raised by one, saturating (R529). -/
def persistCount (m : List (Nat × Nat × Nat)) (p : Nat) : List (Nat × Nat × Nat) :=
  persistPut m (p, 4, satAdd 32 (((persistGet m p).map (·.2)).getD 0) 1)

/-- The counter that an MRAM record of a kind raises (R529). A column fault without a spare, which is written as kind 0x5, counts as
a column fault too (DESIGN CHOICE, notes/assumptions/92.md). -/
def mramCounter (payload : Nat) : List Nat :=
  match bits payload 63 60 with
  | 2 => [P.pbkStuckCells]
  | 3 => [P.pbkColumnFaults]
  | 5 => [P.pbkColumnFaults]
  | 4 => [P.pbkUncorr]
  | _ => []

/-- Where the persistent values keep the newest energy record (with its stage time before it), the newest energy and rate
pair, the newest copy-complete record of component 0, the newest update record that is no damage, whether a copy-complete
record is newer than it, and the version of each component marked damaged plus 1 (notes/assumptions/7.md). -/
abbrev keptEnergy : Nat := 0xF00020
abbrev keptPair : Nat := 0xF00021
abbrev keptCopy : Nat := 0xF00330
abbrev keptUpdate : Nat := 0xF00400
abbrev keptCopied : Nat := 0xF00401
abbrev keptDamage : Nat := 0xF00410

/-- Where the persistent values keep the CRC-32 of the latest SAFETY_BLOCK record of a group (R214). -/
def keptCrc (g : Nat) : Nat := 0xF00000 + g / 0x100000 % 16 * 0x10000 + g / 0x100 % 0x1000

/-- A value of the persistent list, or a default. -/
def persistVal (m : List (Nat × Nat × Nat)) (p d : Nat) : Nat := ((persistGet m p).map (·.2)).getD d

/-- The serial window after an accepted serial (R341): H and the bitmap, whose bit i - 1 marks serial H - i. -/
def windowAccept (h bm s : Nat) : Nat × Nat :=
  if h = 0xFFFFFFFF then (s, bm)
  else if h < s then
    if 1025 ≤ s - h then (s, 0) else (s, (bm * 2 ^ (s - h) + 2 ^ (s - h - 1)) % 2 ^ 1024)
  else if s < h then (h, setBit bm (h - s - 1) true)
  else (h, bm)

/-- A token record applied (R347, R348): credit, and the window for the classes that have one. -/
def applyToken (m : List (Nat × Nat × Nat)) (w0 w1 : Nat) : List (Nat × Nat × Nat) :=
  let cls := bits w0 63 56
  let m := persistPut m (P.boxCredit, 8, bits w0 127 64)
  let m := if cls = 0 ∧ 0 < toSigned 64 (bits w0 127 64) then persistPut m (P.boxEmergActive, 1, 0) else m
  if cls = 0 ∨ cls = 3 ∨ cls = 4 ∨ cls = 5 then
    let w := windowAccept (persistVal m P.boxSerialHigh 0xFFFFFFFF) (persistVal m P.boxSerialBitmap 0) (bits w1 127 64)
    persistPut (persistPut m (P.boxSerialHigh, 4, w.1)) (P.boxSerialBitmap, 128, w.2)
  else m

/-- A rate record applied: with the energy record of the same stage time it makes a pair (R318), and gives the credit (R348). -/
def applyRate (m : List (Nat × Nat × Nat)) (stime : Nat) (payload : List Nat) : List (Nat × Nat × Nat) :=
  match persistGet m keptEnergy with
  | none => m
  | some e =>
    if e.2 % 2 ^ 128 = stime then
      let m := persistPut m (keptPair, e.1 + 16 * 195, ofBytes (toBytes e.1 e.2 ++ ofWords payload))
      let w1 := payload.getD 1 0
      let w2 := payload.getD 2 0
      persistPut (persistPut (persistPut m (P.boxCredit, 8, bits w1 127 64)) (P.boxCostRem, 8, bits w1 63 0))
        (P.boxEmergActive, 1, bits w2 0 0)
    else m

/-- A tamper record applied (R347). -/
def applyTamper (m : List (Nat × Nat × Nat)) (stime w0 w1 : Nat) : List (Nat × Nat × Nat) :=
  let e := bits w0 31 24
  let m := persistPut m (P.boxTmpCount e, 4, bits w0 127 96)
  let m := persistPut (persistPut m (P.boxTmpDur e, 8, bits w0 95 32)) (P.boxTmpFirst e, 8, bits w1 127 64)
  if bits w0 23 16 = 1 then persistPut m (P.boxTmpLast e, 8, stime) else m

/-- A demand record applied, two words per rate (R347). -/
def applyDemand : Nat → List (Nat × Nat × Nat) → List Nat → List (Nat × Nat × Nat)
  | 0, m, _ => m
  | k + 1, m, w0 :: w1 :: t =>
    let r := bits w0 7 0
    let m := persistPut (persistPut m (P.boxMd r, 8, bits w0 127 64)) (P.boxMdResets r, 4, bits w0 63 32)
    applyDemand k (persistPut (persistPut m (P.boxMdCum r, 8, bits w1 127 64)) (P.boxMdTime r, 8, bits w1 63 0)) t
  | _ + 1, m, _ => m

/-- The objects that a record of the energy, billing or update chapters restores. -/
def applyOwned (m : List (Nat × Nat × Nat)) (r : Rec) : List (Nat × Nat × Nat) :=
  let w0 := r.payload.getD 0 0
  let w1 := r.payload.getD 1 0
  if r.typ = 0x20 then
    persistPut (persistPut m (keptEnergy, 16 * 26, ofBytes (ofWords (r.stime :: r.payload.take 25))))
      (P.tlyLastCommit, 8, r.stime)
  else if r.typ = 0x21 then
    if w0 % 256 = 2 then applyRate m r.stime r.payload else applyToken m w0 w1
  else if r.typ = 0x22 then applyTamper m r.stime w0 w1
  else if r.typ = 0x23 then applyDemand 8 m r.payload
  else if r.typ = 0x33 then
    let c := bits w0 79 72
    let m := persistPut (persistPut m (keptCopy + c, 64, ofBytes (ofWords r.payload))) (keptCopied, 1, 1)
    persistPut m (keptDamage + c, 8, 0)
  else if r.typ = 0x40 then
    (if bits w0 127 120 = 6 then persistPut m (keptDamage + bits w0 119 112, 8, bits w0 103 72 + 1) else persistPut (persistPut m (keptUpdate, 16, w0)) (keptCopied, 1, 0))
  else m

/-- The persistent values after a record (R184, R225, R529 and the records each chapter restores from). -/
def applyRec (m : List (Nat × Nat × Nat)) (r : Rec) : List (Nat × Nat × Nat) :=
  if r.typ = 0x10 ∨ r.typ = 0x03 then (parseEntries 255 r.payload).foldl persistPut m
  else if r.typ = 0x11 then
    match r.payload with
    | [] => m
    | d :: t => (parseItems (bits d 63 56) (ofWords t)).foldl persistPut (persistPut m (keptCrc (bits d 23 0), 4, bits d 55 24))
  else if r.typ = 0x35 then
    match r.payload with
    | [] => m
    | w :: _ => (mramCounter w).foldl persistCount (persistPut m (P.pbkLastMramFault, 16, w))
  else applyOwned m r

/-! ### Commits -/

/-- The words committed within the last 10 s (R160). -/
def State.windowWords (s : State) : Nat :=
  ((s.jnl.window.filter (fun e => decide (s.mono < e.1 + 10 * second))).map (·.2)).foldl (· + ·) 0

/-- The rate rule of R160 for a record of `n` words. -/
def State.rateOk (s : State) (n : Nat) : Bool :=
  decide (s.windowWords + n ≤ 10 * s.reg P.pbkRateLimit)

/-- The record types that are never refused (R160). -/
def neverType (t : Nat) : Bool := t == 0x11 || t == 0x32 || t == 0x34 || t == 0x35

/-- Whether a commit is never refused: by its type, by its request, or as one of the power-fail sequence (R160). -/
def State.isNever (s : State) (j : JReq) : Bool := neverType j.typ || j.never || s.jnl.final

/-- Where the live half's next record goes (R163, R164). -/
def State.fill (s : State) : Nat := s.reg P.pbkFill

/-- Whether a commit goes into the live half now (R527). -/
def State.fits (s : State) (never : Bool) (n : Nat) : Bool :=
  if never then decide (s.fill + n ≤ halfWords) else decide (s.fill + n ≤ keptFrom)

/-- The engine's books after a record of the live half is committed. -/
def noteRec (r : Rec) (counted : Bool) (s : State) : State :=
  { s with jnl := { s.jnl with
      recs := r :: s.jnl.recs
      persist := applyRec s.jnl.persist r
      window := if counted then (s.mono, r.words) :: s.jnl.window.filter (fun e => decide (s.mono < e.1 + 10 * second))
                else s.jnl.window } }

/-- The record that a request becomes under the next SEQ. -/
def State.recOf (s : State) (j : JReq) : Rec := ⟨s.nextSeq, j.typ, j.stime, j.payload⟩

/-- A record appended to the live half and acknowledged: words, SEQ, fill and books (R159). -/
def appendRec (j : JReq) (s : State) : State :=
  let r := s.recOf j;
  ((noteRec r true (writeRec s s.liveBank s.fill r)).setReg P.pbkFill (s.fill + r.words)).setReg P.pbkSeqNext (s.nextSeq + 1)

/-- A record begun in the live half: header and payload are written and its SEQ is taken, the commit word is still to come (R159). -/
def beginSlot (who : Nat) (j : JReq) (s : State) : State :=
  let r := s.recOf j
  let s := (s.setWords (bankBase s.liveBank + 16 * s.fill) (headWord r :: r.payload)).setReg P.pbkSeqNext (s.nextSeq + 1);
  { s with jnl := { s.jnl with slot := some (who, r) } }

/-- The commit word of the record in progress written, and its requester acknowledged (R159). -/
def finishSlot (s : State) : State :=
  match s.jnl.slot with
  | none => s
  | some (who, r) =>
    let s := s.setWord (bankBase s.liveBank + 16 * (s.fill + r.payload.length + 1)) (commitWord s.jnl.key r)
    let s := (noteRec r true s).setReg P.pbkFill (s.fill + r.words);
    { s with jnl := { s.jnl with slot := none } }.emit (.commitAck who 0)

/-! ### The engine's own objects (R529) -/

/-- The objects that the engine itself keeps, less those that each recovery computes. -/
def ownPids : List Nat :=
  [P.pbkScrubPos, P.pbkScrubPasses, P.pbkCellCorr, P.pbkStuckCells, P.pbkColumnFaults, P.pbkUncorr,
   P.pbkLastMramFault, P.pbkCompactions, P.pbkRateRefusals]

/-- The own objects that differ from their last entry. -/
def State.ownChanged (s : State) : List Nat :=
  ownPids.filter fun p => !((((persistGet s.jnl.persist p).map (·.2)).getD (dfltOf p)) == s.reg p)

/-- The payload of OBJECT entries of the MZD1 itself for the present values of objects (R528). -/
def State.ownPayload (s : State) (pids : List Nat) : List Nat :=
  pids.flatMap fun p => ownEntry (sizeOf' p) p (s.reg p)

/-- Entries packed into payloads of at most 254 words each. -/
def packEntries : List Nat → List (List Nat) → List (List Nat)
  | cur, [] => if cur = [] then [] else [cur]
  | cur, e :: t =>
    if cur.length + e.length ≤ 254 then packEntries (cur ++ e) t
    else if cur = [] then e.take 254 :: packEntries [] t
    else cur :: packEntries (e.take 254) t

/-! ### Compaction (R161, R162, R527) -/

/-- The persistent values that a snapshot holds: those in force, the engine's own objects with PBK_COMPACTIONS counting
this compaction, and the objects whose own commit was refused or still goes with the next one (R110, R161, R528, R529). -/
def State.snapshotValues (s : State) : List (Nat × Nat × Nat) :=
  let base := (ownPids ++ s.jnl.retry ++ s.jnl.owed).foldl (fun m p => persistPut m (p, sizeOf' p, s.reg p)) s.jnl.persist
  persistPut base (P.pbkCompactions, 4, satAdd 32 (s.reg P.pbkCompactions) 1)

/-- The last SEQ of the live half. -/
def State.lastSeq (s : State) : Nat := ((s.jnl.recs.head?).map (·.seq)).getD 0

/-- A compaction started into the other half. -/
def startCompaction (s : State) : State :=
  match s.jnl.comp with
  | some _ => s
  | none =>
    let base := s.lastSeq
    let states := packEntries [] (s.snapshotValues.map fun e => ownEntry e.2.1 e.1 e.2.2);
    let c : Compaction :=
      { base := base, todo := (0x01, s.now, [base]) :: states.map (fun p => (0x03, s.now, p)), pos := 0,
        begin := 0, carried := base, written := [] };
    { s with jnl := { s.jnl with comp := some c } }

/-- The half that is not live. -/
def State.otherBank (s : State) : Nat := if s.liveBank = 1 then 2 else 1

/-- One record of a compaction written into the other half under the next SEQ; the SEQ of SNAP_BEGIN is kept for SNAP_COMMIT. -/
def compactRec (c : Compaction) (typ stime : Nat) (payload : List Nat) (s : State) : Compaction × State :=
  let r : Rec := ⟨s.nextSeq, typ, stime, payload⟩;
  ({ c with pos := c.pos + r.words, begin := if typ = 0x01 then r.seq else c.begin, written := r :: c.written },
   (writeRec s s.otherBank c.pos r).setReg P.pbkSeqNext (s.nextSeq + 1))

/-- Records written in order while the sector has room; answers what is left (R162). -/
def compactSome : Nat → Nat → Compaction → List (Nat × Nat × List Nat) → State → List (Nat × Nat × List Nat) × Compaction × State
  | 0, _, c, l, s => (l, c, s)
  | _ + 1, _, c, [], s => ([], c, s)
  | k + 1, room, c, (typ, stime, p) :: t, s =>
    if room < p.length + 2 then ((typ, stime, p) :: t, c, s)
    else
      let r := compactRec c typ stime p s
      compactSome k (room - (p.length + 2)) r.1 t r.2

/-- The live records above a SEQ, oldest first. -/
def State.tail (s : State) (above : Nat) : List Rec :=
  (s.jnl.recs.filter (fun r => decide (above < r.seq))).reverse

/-- The words of records. -/
def wordsOf (l : List Rec) : Nat := (l.map Rec.words).foldl (· + ·) 0

/-- The other half made live after its SNAP_COMMIT (R161, step 4). -/
def switchHalf (c : Compaction) (s : State) : State :=
  let s := (((s.setReg P.pbkLiveHalf (if s.liveBank = 1 then 2 else 1)).setReg P.pbkFill c.pos).count P.pbkCompactions 1);
  { s with jnl := { s.jnl with comp := none, recs := c.written, persist := c.written.reverse.foldl applyRec [] } }

/-- Held commits released in their order of arrival and acknowledged (R161, R527). -/
def releaseHeld : Nat → State → State
  | 0, s => s
  | k + 1, s =>
    match s.jnl.held with
    | [] => s
    | (who, j) :: t =>
      releaseHeld k ((appendRec j { s with jnl := { s.jnl with held := t } }).emit (.commitAck who 0))

/-- One sector of a compaction (R161, R162): snapshot records, then the tail, and with the last tail the SNAP_COMMIT. -/
def compactionSector (s : State) : State :=
  match s.jnl.comp with
  | none => s
  | some c =>
    if c.todo = [] then
      let tl := s.tail c.carried
      let items := tl.map fun r => (r.typ, r.stime, r.payload)
      let carried := ((tl.getLast?).map (·.seq)).getD c.carried
      if wordsOf tl + 3 ≤ 1024 then
        let r := compactSome 1024 1024 c items s
        let e := compactRec r.2.1 0x02 s.now [c.begin % 2 ^ 48 + carried % 2 ^ 48 * 2 ^ 48] r.2.2
        let s := switchHalf e.1 e.2
        releaseHeld s.jnl.held.length s
      else
        let r := compactSome 1024 1024 c items s
        let done := tl.take (tl.length - r.1.length);
        let c' := { r.2.1 with carried := ((done.getLast?).map (·.seq)).getD c.carried };
        { r.2.2 with jnl := { r.2.2.jnl with comp := some c' } }
    else
      let r := compactSome 1024 1024 c c.todo s;
      let c' := { r.2.1 with todo := r.1 };
      { r.2.2 with jnl := { r.2.2.jnl with comp := some c' } }

/-- The compaction run to its end without yielding (R527); a half holds at most 256 sectors. -/
def compactAll : Nat → State → State
  | 0, s => s
  | k + 1, s => if s.jnl.comp = none then s else compactAll k (compactionSector s)

/-- The compaction in progress completed, or one started and completed. -/
def compactNow (s : State) : State := compactAll 600 (startCompaction s)

/-- A compaction started once the live half is full to PBK_COMPACT_PCT (R161). -/
def compactIfFull (s : State) : State :=
  if s.reg P.pbkCompactPct * halfWords ≤ 100 * s.fill then startCompaction s else s

/-! ### Recovery (R163, R529) -/

/-- What the scan of a half found. -/
structure Scan where
  pos : Nat
  top : Nat
  recs : List Rec
  first : Option (Nat × Nat)
  complete : Bool
  torn : Bool
  damaged : Bool
  bads : List Nat
deriving DecidableEq, Repr

/-- The record types that are not reserved (R158). -/
def knownType (t : Nat) : Bool :=
  [0x01, 0x02, 0x03, 0x10, 0x11, 0x20, 0x21, 0x22, 0x23, 0x24, 0x30, 0x31, 0x32, 0x33, 0x34, 0x35, 0x40].contains t

/-- The words of a record's body read from memory. -/
def State.wordsAt (s : State) (x : Nat) : Nat → List Nat
  | 0 => []
  | k + 1 => s.word x :: State.wordsAt s (x + 16) k

/-- The words known to hold two wrong cells: they read as DATA (R139). -/
def State.badWords (s : State) : List Nat :=
  (s.mram.wrong.filter fun e => decide (2 ≤ e.2.2.length) && s.word e.1 == e.2.1).map (·.1)

/-- The scan of one half from a position (R163); `bad` holds the addresses of uncorrectable words, of which those read are kept. -/
def scanHalf (s : State) (bad : List Nat) (bank : Nat) : Nat → Scan → Scan
  | 0, c => c
  | k + 1, c =>
    let a := bankBase bank + 16 * c.pos
    if bad.contains a then { c with damaged := true, bads := a :: c.bads }
    else
      let h := s.word a
      let n := bits h 7 0
      let typ := bits h 15 8
      let seq := bits h 63 16
      if n = 255 ∨ knownType typ = false ∨ halfWords < c.pos + 2 + n ∨ seq ≤ c.top then c
      else
        let first := match c.first with
          | none => some (typ, seq)
          | some f => some f
        let body := (List.range (n + 1)).map fun i => a + 16 * (i + 1)
        let read := body.filter fun x => bad.contains x
        if ¬ (read = []) then
          scanHalf s bad bank k
            { c with damaged := true, first := first, top := seq, pos := c.pos + 2 + n, bads := read ++ c.bads }
        else
          let payload := s.wordsAt (a + 16) n
          let r : Rec := ⟨seq, typ, bits h 127 64, payload⟩
          let cw := s.word (a + 16 * (n + 1))
          if bits cw 15 0 ≠ 0xA5C3 ∨ bits cw 63 16 ≠ seq then { c with torn := true }
          else if bits cw 127 64 ≠ recMac s.jnl.key r then { c with damaged := true }
          else
            let done := c.complete ||
              (typ == 0x02 && (match first with
                | some (0x01, fs) => bits (payload.headD 0) 47 0 == fs
                | _ => false))
            scanHalf s bad bank k
              { c with first := first, complete := done, top := seq, pos := c.pos + 2 + n, recs := r :: c.recs }

/-- A scan before its first word. -/
def Scan.start : Scan := ⟨0, 0, [], none, false, false, false, []⟩

/-- The SEQ of a half's first record. -/
def Scan.firstSeq (c : Scan) : Nat := ((c.first).map (·.2)).getD 0

/-- The objects of the engine restored, each to its persistent value or its default (R529). -/
def restoreOwn (s : State) : State :=
  s.setRegs ((ownPids ++ [P.pbkScrubHours, P.pbkCompactPct, P.pbkRateLimit]).map fun p =>
    (p, ((persistGet s.jnl.persist p).map (·.2)).getD (dfltOf p)))

/-- The books of the engine set from the live half after its scan. -/
def adoptHalf (bank : Nat) (c : Scan) (next status us : Nat) (s : State) : State :=
  let s := { s with jnl := { s.jnl with
    ready := true, recs := c.recs, persist := c.recs.reverse.foldl applyRec [], slot := none, held := [], comp := none,
    window := [] } };
  (restoreOwn s).setRegs [(P.pbkSeqNext, next), (P.pbkLiveHalf, bank), (P.pbkFill, c.pos),
    (P.pbkRecoveryStatus, status), (P.pbkRecoveryUs, us)]

/-- The scan of a half from its first word. -/
def State.scan (s : State) (bad : List Nat) (bank : Nat) : Scan := scanHalf s bad bank 131073 Scan.start

/-- The uncorrectable words that a recovery reads (R152). -/
def recoveryReads (bad : List Nat) (s : State) : List Nat := (s.scan bad 1).bads ++ (s.scan bad 2).bads

/-- The recovery of R163 in `us` µs, where `bad` holds the addresses of words that read as DATA. -/
def recover (us : Nat) (bad : List Nat) (s : State) : State :=
  let a := s.scan bad 1
  let b := s.scan bad 2
  let top := max a.top b.top
  if a.complete = false ∧ b.complete = false then
    let r1 : Rec := ⟨top + 1, 0x01, s.now, [top % 2 ^ 48]⟩
    let r2 : Rec := ⟨top + 2, 0x02, s.now, [(top + 1) % 2 ^ 48 + top % 2 ^ 48 * 2 ^ 48]⟩
    let s := writeRec (writeRec s 1 0 r1) 1 3 r2
    adoptHalf 1 { Scan.start with pos := 6, top := top + 2, recs := [r2, r1] } (top + 3) 0x04 us s
  else
    let useA := a.complete && (!b.complete || decide (b.firstSeq < a.firstSeq))
    let live := if useA then a else b
    let other := if useA then b else a
    let newer := !other.complete && decide (other.first.map (·.1) = some 0x01) && decide (live.firstSeq < other.firstSeq)
    let status := if live.damaged then 0x02 else if live.torn then 0x01 else if newer then 0x03 else 0x00
    let s := adoptHalf (if useA then 1 else 2) live (top + 1) status us s
    if live.damaged then startCompaction s else s

/-- The engine made ready: a request that comes before the recovery waits for it (R163). -/
def ensureReady (s : State) : State :=
  if s.jnl.ready then s
  else
    let r := s.drawBits 15
    recover (r.1 % 25001) s.badWords r.2

/-! ### Commit requests -/

/-- What becomes of a commit request. -/
inductive Verdict where
  | accepted
  | held
  | busy
deriving DecidableEq, Repr

/-- How the engine judges a request (R160, R527): the rate first, then the room in the live half. While VSUP falls, a
refusable commit that would be held is refused. -/
def State.judgeCommit (s : State) (j : JReq) : Verdict :=
  let n := j.payload.length + 2
  let never := s.isNever j
  if never = false ∧ s.rateOk n = false then .busy
  else if s.fits never n then .accepted
  else if s.pwr.failing ∧ never = false then .busy
  else .held

/-- The objects whose values go with the next commit written behind it (R110). -/
def payOwed (s : State) : State :=
  if s.jnl.owed = [] then s
  else
    let j : JReq := ⟨0x10, s.now, s.ownPayload s.jnl.owed, true⟩
    appendRec j { s with jnl := { s.jnl with owed := [] } }

/-- The record in progress ended, and held commits released by the compaction that they wait for (R159, R527). -/
def bookRest (s : State) : State :=
  let s := finishSlot s
  if s.jnl.held = [] then s else compactNow s

/-- One commit of a powered engine from request to acknowledgement: answers whether it was committed. A commit that R527 holds goes
into the new half after the compaction that the engine completes at once. -/
def commitOn (j : JReq) (s : State) : Bool × State :=
  let s := bookRest s
  match s.judgeCommit j with
  | .busy => (false, s.count P.pbkRateRefusals 1)
  | .accepted => (true, compactIfFull (payOwed (appendRec j s)))
  | .held => (true, payOwed (appendRec j (compactNow s)))

/-- The engine's own entry written by a powered engine (R529); never refused. -/
def ownEntryOn (s : State) : State :=
  let l := s.ownChanged
  if l = [] then s else (commitOn ⟨0x10, s.now, s.ownPayload l, true⟩ s).2

/-- Whether the engine and both halves have power. -/
def State.bookPowered (s : State) : Bool := s.domOn 36 && s.domOn 29 && s.domOn 30

/-- PD36, PD29 and PD30 powered over the keeper path for a commit (R23, R155): the engine recovers the prompt book and its window
starts empty where PD36 was off (R160, R163). -/
def keeperUp (s : State) : State :=
  let s := if s.domOn 36 then s else { s with jnl := { s.jnl with ready := false, window := [] } }
  ensureReady (((s.setDom 36 .on).setDom 29 .on).setDom 30 .on)

/-- The end of such a commit: a compaction that it began is completed, the engine writes its own entry where PD36 goes off again
(R529), and the switches stand as before. -/
def keeperDown (was s : State) : State :=
  let s := if was.domOn 36 then s else ownEntryOn (compactAll 600 s)
  let s := if was.domOn 36 then s else { s with jnl := { s.jnl with ready := false } }
  ((s.setDom 36 (was.dom 36)).setDom 29 (was.dom 29)).setDom 30 (was.dom 30)

/-- One commit from request to acknowledgement: answers whether it was committed. -/
def commit (j : JReq) (s : State) : Bool × State :=
  if s.bookPowered then commitOn j (ensureReady s)
  else
    let r := commitOn j (keeperUp s)
    (r.1, keeperDown s r.2)

/-- A commit whose refusal changes nothing else (a record of history). -/
def record (typ : Nat) (payload : List Nat) (s : State) : State :=
  (commit ⟨typ, s.now, payload, false⟩ s).2

/-- Objects that the MZD1 itself changed committed in one OBJECT record; a refused commit is tried again once per second
(R528). -/
def selfCommit (never : Bool) (pids : List Nat) (s : State) : State :=
  let r := commit ⟨0x10, s.now, s.ownPayload pids, never⟩ s
  let rest := r.2.jnl.retry.filter fun p => !(pids.contains p);
  { r.2 with jnl := { r.2.jnl with retry := if r.1 then rest else rest ++ pids } }

/-- A journalled object changed by the MZD1 itself and committed (R528). -/
def setJournalled (p v : Nat) (s : State) : State := selfCommit false [p] (s.setReg p v)

/-- A journalled counter raised and committed (R528). -/
def countJournalled (p : Nat) (s : State) : State := selfCommit false [p] (s.count p 1)

/-- What the engine does before PD36 loses power or before a main-die start (R529): the record in progress and the held commits are
ended, and its own OBJECT entry is written. -/
def ownObjectEntry (s : State) : State := if s.jnl.ready then ownEntryOn (bookRest s) else s

end Sys2Proof.Machine
end

