-- ==== Sys2Proof/Machine/Mram.lean ====
section
/-!
DEFINITION. The MRAM array: correction, faults, repair, scrub and bank-wide operations (spec/06_mram_and_prompt_book.md R137
to R154, R165, R166).
-/

namespace Sys2Proof.Machine

open Sys2Proof

/-! ### Places (R138) -/

/-- The bank of an MRAM address. -/
def bankOf (a : Nat) : Nat := (a - 0x02000000) / 0x400000
/-- The word index in its bank. -/
def wordIndex (a : Nat) : Nat := (a - 0x02000000) % 0x400000 / 16
/-- The sub-array of a word. -/
def subOf (a : Nat) : Nat := wordIndex a % 8
/-- The slot of a word. -/
def slotOf (a : Nat) : Nat := wordIndex a / 8 % 8
/-- The row of a word in its sub-array. -/
def rowOf (a : Nat) : Nat := wordIndex a / 64
/-- The address of row 0 of a column's slot. -/
def columnAddr (bank sub slot : Nat) : Nat := bankBase bank + 16 * (sub + 8 * slot)

/-! ### Cells (R139) -/

/-- The 137 cells that a data word is written as: positions 0 to 127 its bits, 128 to 136 the check bits of the code. -/
def codeword (w : Nat) : Nat := w % 2 ^ 128 + (Config.checkBits (BitVec.ofNat 128 w)).toNat * 2 ^ 128

/-- The cells of a word known to read wrong since it was last written. -/
def State.wrongAt (s : State) (a : Nat) : List Nat :=
  match s.mram.wrong.find? (fun e => e.1 == a) with
  | some e => if s.word a = e.2.1 then e.2.2 else []
  | none => []

/-- The cells of a word as they read: as written, but for the wrong ones. -/
def State.cells (s : State) (a : Nat) : Nat := (s.wrongAt a).foldl (fun c b => c ^^^ 2 ^ b) (codeword (s.word a))

/-- The wrong cells of a word noted. -/
def noteWrong (a : Nat) (errs : List Nat) (s : State) : State :=
  let rest := s.mram.wrong.filter fun e => !(e.1 == a);
  { s with mram := { s.mram with wrong := if errs = [] then rest else (a, s.word a, errs) :: rest } }

/-- A word written to the array: every cell holds what was written, and so do the spares of its columns (R150, step 2). -/
def mramStore (a w : Nat) (s : State) : State :=
  let s := (noteWrong a [] s).setWord a w;
  { s with mram := { s.mram with
      repairs := s.mram.repairs.map fun r =>
        if r.bank = bankOf a ∧ r.sub = subOf a ∧ r.slot = slotOf a then
          { r with missed := r.missed.filter fun m => !(m.1 == rowOf a) }
        else r } }

/-! ### Findings (R148, R165) -/

/-- The layout of R165. -/
def mramFault (time kind bank sub slot bit spare addr : Nat) : Nat :=
  addr % 2 ^ 40 + spare % 8 * 2 ^ 40 + bit % 256 * 2 ^ 43 + slot % 8 * 2 ^ 51 + sub % 8 * 2 ^ 54 + bank % 8 * 2 ^ 57
    + kind % 16 * 2 ^ 60 + time % 2 ^ 64 * 2 ^ 64

/-- A finding kept in PBK_LAST_MRAM_FAULT and written as an MRAM record. -/
def recordFault (w : Nat) (s : State) : State := record 0x35 [w] (s.setReg P.pbkLastMramFault w)

/-- The repair entry that covers a cell position of a word. -/
def repairAt (s : State) (bank sub slot bit : Nat) : Option Repair :=
  s.mram.repairs.find? fun r => r.bank == bank && r.sub == sub && r.slot == slot && r.bit == bit

/-- Whether a column fault is already known in a column. -/
def knownColumn (s : State) (bank sub slot bit : Nat) : Bool :=
  (repairAt s bank sub slot bit).isSome || s.mram.exhausted.contains (bank, sub, slot, bit)

/-- Whether a spare of a sub-array is free and usable. -/
def spareFree (s : State) (bank sub k : Nat) : Bool :=
  !(s.mram.repairs.any fun r => r.bank == bank && r.sub == sub && r.spare == k) && !(s.mram.badSpares.contains (bank, sub, k))

/-- PBK_SPARES_FREEb brought up to date for a sub-array. -/
def updateSpares (bank sub : Nat) (s : State) : State :=
  let n := ((List.range 4).filter (fun k => spareFree s bank sub k)).length
  s.setReg (P.pbkSparesFree bank) (setBits (s.reg (P.pbkSparesFree bank)) (4 * sub + 3) (4 * sub) n)

/-- An entry of the repair table written to bank 0; its form in memory is open, so its word is a free value. -/
def writeRepairEntry (i : Nat) (s : State) : State :=
  let r := s.drawBits 128
  r.2.setWord (0x02002000 + 16 * (i % 256)) r.1

/-- A column fault (R150, R151): the lowest free spare is taken, or the sub-array has none; then it counts as a column fault beside the
record of kind 0x5, whose ADDR is the word of row 0 (DESIGN CHOICE, notes/assumptions/92.md). -/
def columnFault (bank sub slot bit : Nat) (s : State) : State :=
  if knownColumn s bank sub slot bit then s
  else
    match (List.range 4).find? (fun k => spareFree s bank sub k) with
    | some k =>
      let e : Repair := { bank := bank, sub := sub, slot := slot, bit := bit, spare := k, row := 0, done := false, time := s.now, missed := [] }
      let s := { s with mram := { s.mram with repairs := s.mram.repairs ++ [e] } }
      updateSpares bank sub (writeRepairEntry (s.mram.repairs.length - 1) s)
    | none =>
      let s := { s with mram := { s.mram with exhausted := (bank, sub, slot, bit) :: s.mram.exhausted } }
      recordFault (mramFault s.now 5 bank sub slot bit 7 (columnAddr bank sub slot)) (s.count P.pbkColumnFaults 1)

/-- A cell fault (R148): counted, no record. -/
def cellFault (a bit : Nat) (s : State) : State :=
  (s.count P.pbkCellCorr 1).setReg P.pbkLastMramFault (mramFault s.now 1 (bankOf a) (subOf a) (slotOf a) bit 7 a)

/-- An uncorrectable word (R152). -/
def uncorrectable (a : Nat) (s : State) : State :=
  recordFault (mramFault s.now 4 (bankOf a) (subOf a) (slotOf a) 0xFF 7 a) (s.count P.pbkUncorr 1)

/-! ### Reads (R139, R142, R149) -/

/-- Whether the spare of a repair holds the bit of a word: the repair has passed its row and found it correctable, or the word was
written since (R150). -/
def spareHolds (s : State) (r : Repair) (a : Nat) : Bool :=
  decide (rowOf a < r.row) && !(r.missed.contains (rowOf a, s.word a))

/-- The spare cell of a repair beside a word: the column's bit of the word, once the spare holds it (R150). -/
def spareCell (s : State) (r : Repair) (a : Nat) : Option Bool :=
  if spareHolds s r a then some (bitOf (codeword (s.word a)) r.bit) else none

/-- The cell positions that read wrong once repaired columns take their bit from the spare (R150, step 4). -/
def liveErrs (s : State) (a : Nat) (errs : List Nat) : List Nat :=
  (errs.eraseDups.filter fun b => decide (b < 137)).filter fun b =>
    match repairAt s (bankOf a) (subOf a) (slotOf a) b with
    | some r => !(r.done && spareHolds s r a)
    | none => true

/-- A correction noted in the present pass. -/
def notePass (a bit : Nat) (s : State) : State :=
  { s with mram := { s.mram with pass := if s.mram.pass.contains (a, bit) then s.mram.pass else (a, bit) :: s.mram.pass } }

/-- Whether another word of the same column was corrected at the same bit in this pass. -/
def columnSeen (s : State) (a bit : Nat) : Bool :=
  s.mram.pass.any fun e => !(e.1 == a) && e.2 == bit && bankOf e.1 == bankOf a && subOf e.1 == subOf a && slotOf e.1 == slotOf a

/-- What a reference pair reads: equal or not as the command says, a free value where the access carries no such finding. -/
def pairReads (pairEqual : Option Bool) (s : State) : Bool × State :=
  match pairEqual with
  | some b => (b, s)
  | none =>
    let r := s.drawBits 1
    (r.1 == 1, r.2)

/-- A single error corrected: a known column's is no cell fault; a second word of the column has the reference pair read at
once, which finds a column fault where the pair is equal (R149). -/
def corrected (a bit : Nat) (pairEqual : Option Bool) (s : State) : State :=
  if knownColumn s (bankOf a) (subOf a) (slotOf a) bit then s
  else if columnSeen s a bit then
    let r := pairReads pairEqual (notePass a bit s)
    if r.1 then columnFault (bankOf a) (subOf a) (slotOf a) bit r.2 else cellFault a bit r.2
  else cellFault a bit (notePass a bit s)

/-- The array read of one word whose cells in `errs` read wrong: status, data and next state. More than two wrong cells are
beyond the code (R139): the outcome is a free value. -/
def mramRead (addr : Nat) (errs : List Nat) (pairEqual : Option Bool) (s : State) : Nat × Nat × State :=
  let a := addr / 16 * 16
  let s := noteWrong a errs s
  match liveErrs s a errs with
  | [] => (stOk, s.word a, s)
  | [b] => (stOk, s.word a, corrected a b pairEqual s)
  | [_, _] => (stData, 0, uncorrectable a s)
  | _ =>
    let f := s.drawBits 129
    if f.1 < 2 ^ 128 then (stOk, f.1, f.2) else (stData, 0, uncorrectable a f.2)

/-- What a read through the fabric gives: the key store and the reserved part of bank 0 read as 0. -/
def mramReadFabric (addr : Nat) (errs : List Nat) (pairEqual : Option Bool) (s : State) : Nat × Nat × State :=
  let r := mramRead addr errs pairEqual s
  (r.1, if readsZero (regionOf addr) then 0 else r.2.1, r.2.2)

/-- The bytes of a word merged under byte enables (R142). -/
def mergeBytes (old new byteEn : Nat) : Nat :=
  ofBytes ((List.range 16).map fun i => if bitOf byteEn i then new / 256 ^ i % 256 else old / 256 ^ i % 256)

/-- A write of some bytes (R142): read, merge and write; an uncorrectable word is not written. -/
def mramMerge (addr byteEn word : Nat) (errs : List Nat) (s : State) : Nat × State :=
  let r := mramRead addr errs none s
  (r.1, if r.1 = stOk then mramStore (addr / 16 * 16) (mergeBytes r.2.1 word byteEn) r.2.2 else r.2.2)

/-- The bank of an initiator's latest instruction fetch (R153). -/
def State.fetchBankOf (s : State) (init : Nat) : Option Nat :=
  (s.mram.fetchBank.find? fun e => e.1 == init).map (·.2)

/-- An instruction fetch noted: from MRAM it names the bank, from elsewhere it clears it. -/
def noteFetch (init addr : Nat) (s : State) : State :=
  let l := s.mram.fetchBank.filter fun e => !(e.1 == init)
  match regionOf addr with
  | .mram b _ => { s with mram := { s.mram with fetchBank := (init, b) :: l } }
  | _ => { s with mram := { s.mram with fetchBank := l } }

/-- The fetch banks of the initiators of an island cleared by its reset. -/
def clearFetch (island : Nat) (s : State) : State :=
  { s with mram := { s.mram with fetchBank := s.mram.fetchBank.filter fun e => !(initIsland e.1 == island) } }

/-- Whether a word access by an initiator may go to the array: its status otherwise (R43, R39, R51). I14 takes no request before its
recovery (R163). -/
def mramAdmit (s : State) (init addr : Nat) (write : Bool) : Nat :=
  match regionOf addr with
  | .mram b off =>
    if s.present 14 = false ∨ s.jnl.ready = false then stAborted
    else if (if write then mayWrite init (.mram b off) else mayRead s init (.mram b off)) = false then stDenied
    else if partPowered s (.mram b off) = false then stAborted
    else stOk
  | _ => stDecode

/-! ### Scrub (R146, R148) -/

/-- The word at the scrub position. -/
def scrubAddr (s : State) : Nat :=
  let p := s.reg P.pbkScrubPos
  bankBase (bits p 20 18) + 16 * bits p 17 0

/-- A correction by the scrub noted across passes; the third pass in a row finds a stuck cell (R148). -/
def noteStuck (a bit : Nat) (s : State) : State :=
  let n := s.reg P.pbkScrubPasses
  let run := match s.mram.history.find? (fun e => e.1 == a && e.2.1 == bit) with
    | some e => if e.2.2.1 + 1 = n then e.2.2.2 + 1 else if e.2.2.1 = n then e.2.2.2 else 1
    | none => 1
  let s := { s with mram := { s.mram with
      history := (a, bit, n, run) :: s.mram.history.filter fun e => !(e.1 == a && e.2.1 == bit) } }
  if run = 3 then
    recordFault (mramFault s.now 2 (bankOf a) (subOf a) (slotOf a) bit 7 a) (s.count P.pbkStuckCells 1)
  else s

/-- The position after a word: the next row of the sub-array, the next sub-array, the next bank, the next pass. -/
def nextScrub (s : State) : State :=
  let p := s.reg P.pbkScrubPos
  let b := bits p 20 18
  let i := bits p 17 0
  let again (s : State) : State := { s with mram := { s.mram with refDone := false } }
  if i + 8 < 262144 then s.setReg P.pbkScrubPos (b * 2 ^ 18 + (i + 8))
  else if i % 8 < 7 then again (s.setReg P.pbkScrubPos (b * 2 ^ 18 + i % 8 + 1))
  else if b < 7 then again (s.setReg P.pbkScrubPos ((b + 1) * 2 ^ 18))
  else
    let s := again ((s.setReg P.pbkScrubPos 0).count P.pbkScrubPasses 1);
    { s with mram := { s.mram with pass := [] } }

/-- A spare whose reference pair reads equal (R148). A spare has no slot and no cell position: the record carries slot 0, bit 0 and the
address of row 0 in slot 0 (DESIGN CHOICE, notes/assumptions/95.md). -/
def spareFault (bank sub k : Nat) (s : State) : State :=
  if s.mram.badSpares.contains (bank, sub, k) then s
  else
    let s := updateSpares bank sub { s with mram := { s.mram with badSpares := (bank, sub, k) :: s.mram.badSpares } }
    recordFault (mramFault s.now 6 bank sub 0 0 k (columnAddr bank sub 0)) s

/-- The reference pairs of a sub-array read: columns are named slot × 256 + cell position, spares 0 to 3. -/
def scrubRefs (badColumns badSpares : List Nat) (s : State) : State :=
  let b := bits (s.reg P.pbkScrubPos) 20 18
  let sub := bits (s.reg P.pbkScrubPos) 17 0 % 8
  let s := badColumns.foldl (fun s c => if c / 256 < 8 ∧ c % 256 < 137 then columnFault b sub (c / 256) (c % 256) s else s) s
  let s := badSpares.foldl (fun s k => if k < 4 then spareFault b sub k s else s) s;
  { s with mram := { s.mram with refDone := true } }

/-- One word of the scrub: read, and a single error rewritten and read back (R146); a cell of a faulty column stays wrong. -/
def scrubWord (errs : List Nat) (pairEqual : Bool) (s : State) : State :=
  let a := scrubAddr s
  let known (b : Nat) : Bool := knownColumn s (bankOf a) (subOf a) (slotOf a) b
  let r := mramRead a errs (some pairEqual) s
  match liveErrs s a errs with
  | [b] => nextScrub (if known b then r.2.2 else noteStuck a b (mramStore a r.2.1 r.2.2))
  | _ => nextScrub r.2.2

/-- One visit of the scrub: while PD36 is on in tier M or above. A bank whose periphery is off is passed over. -/
def scrubVisit (errs : List Nat) (pairEqual : Bool) (badColumns badSpares : List Nat) (s : State) : State :=
  let p := s.reg P.pbkScrubPos
  let b := bits p 20 18
  if s.present 14 = false ∨ s.reg P.smgTier = 0x4B then s
  else if s.domOn (28 + b) = false then nextScrub (s.setReg P.pbkScrubPos (b * 2 ^ 18 + 262143))
  else if bits p 17 0 < 8 ∧ s.mram.refDone = false then scrubRefs badColumns badSpares s
  else scrubWord errs pairEqual s

/-! ### Column repair (R150) -/

/-- An entry of the repair table replaced. -/
def setRepair (e e' : Repair) (s : State) : State :=
  { s with mram := { s.mram with repairs := s.mram.repairs.map fun r => if r = e then e' else r } }

/-- One more word of the oldest repair in progress read, corrected and rewritten, its bit into the spare too (R150, step 3). An
uncorrectable word is counted and stays as it is (R152). -/
def repairStep (s : State) : State :=
  match s.mram.repairs.find? (fun r => !r.done && decide (r.row < 4096)) with
  | none => s
  | some e =>
    let a := columnAddr e.bank e.sub e.slot + 1024 * e.row
    let r := mramRead a (s.wrongAt a) none s
    if r.1 = stOk then mramStore a r.2.1 (setRepair e { e with row := e.row + 1 } r.2.2)
    else setRepair e { e with row := e.row + 1, missed := (e.row, s.word a) :: e.missed } r.2.2

/-- The oldest repair in progress marked done once all its words are rewritten, with its record. -/
def repairDone (s : State) : State :=
  match s.mram.repairs.find? (fun r => !r.done && r.row == 4096) with
  | none => s
  | some e =>
    let i := s.mram.repairs.findIdx (fun r => r == e)
    let s := setRepair e { e with done := true } s
    recordFault (mramFault e.time 3 e.bank e.sub e.slot e.bit e.spare (columnAddr e.bank e.sub e.slot))
      ((writeRepairEntry i s).count P.pbkColumnFaults 1)

/-- The controller at the power-up of PD36: repairs in progress start again, no bank operation runs. -/
def mramStart (s : State) : State :=
  { s with mram := { s.mram with
      repairs := s.mram.repairs.map fun r => if r.done then r else { r with row := 0, missed := [] }
      op := none
      refDone := false } }

/-! ### Bank-wide operations (R153, R154, R166) -/

/-- PBK_BANK_CMD_STATUS set. -/
def bankStatus (st faults : Nat) (s : State) : State :=
  s.setReg P.pbkBankCmdStatus (st % 256 + min faults 0xFFFFFF * 256)

/-- Whether another initiator executes from a bank. -/
def otherExecutes (s : State) (req b : Nat) : Bool := s.mram.fetchBank.any fun e => !(e.1 == req) && e.2 == b

/-- The outcome of a bank-wide request by an initiator. -/
inductive BankVerdict where
  | started
  | busy
  | aborted
deriving DecidableEq, Repr

/-- A bank-wide operation requested: 1 self-test, 2 copy, 3 wipe. While another one runs, PBK_BANK_CMD_STATUS keeps saying so, which is
the reason of the refusal (R166). -/
def bankRequest (req op b dest : Nat) (s : State) : BankVerdict × State :=
  let banks := if op = 2 then [b, dest] else [b]
  if s.present 14 = false ∨ (banks.any fun x => !(s.domOn (28 + x))) then (.aborted, s)
  else if s.mram.op.isSome then (.busy, s)
  else if banks.any fun x => s.fetchBankOf req == some x then (.busy, bankStatus 3 0 s)
  else if banks.any fun x => otherExecutes s req x then (.busy, bankStatus 4 0 s)
  else (.started, bankStatus 1 0 { s with mram := { s.mram with op := some (op, b, dest) } })

/-- The ranges of a bank, as offset and length, that a bank-wide operation writes. Of bank 0 it leaves the identity, the repair table,
the key store and the reserved part as they are: R9 gives no means to change the post identity, and R145 gives those ranges to other
writers (DESIGN CHOICE, notes/assumptions/91.md). -/
def bankRanges (b : Nat) : List (Nat × Nat) := if b = 0 then [(0x1000, 0x1000), (0x4000, 0x7C000)] else [(0, 0x400000)]

/-- A bank written to zero. -/
def wipeBank (b : Nat) (s : State) : State :=
  (bankRanges b).foldl
    (fun s r => { s with mem := Memory.clear s.mem (bankBase b + r.1) (bankBase b + r.1 + r.2) }) s

/-- A bank written from another. -/
def copyBank (b dest : Nat) (s : State) : State :=
  (bankRanges dest).foldl
    (fun s r => { s with mem := Memory.copyRange s.mem (bankBase b + r.1) (bankBase dest + r.1) r.2 }) s

/-- A bank-wide operation on a bank that loses its power ends without a result (DESIGN CHOICE, notes/assumptions/93.md). -/
def bankCut (b : Nat) (s : State) : State :=
  match s.mram.op with
  | none => s
  | some (op, x, dest) =>
    if x = b ∨ (op = 2 ∧ dest = b) then bankStatus 0 0 { s with mram := { s.mram with op := none } } else s

/-- The end of a bank-wide operation, which found `faults` faults. -/
def bankComplete (faults : Nat) (s : State) : State :=
  match s.mram.op with
  | none => s
  | some (op, b, dest) =>
    let s := { s with mram := { s.mram with op := none } }
    let s := if op = 2 then copyBank b dest s else if op = 3 then wipeBank b s else s
    bankStatus (if faults = 0 then 2 else 5) faults s

/-! ### The commands -/

/-- A word read by an initiator and answered. -/
def wordRead (init addr : Nat) (fetch : Bool) (errs : List Nat) (pairEqual : Bool) (s : State) : State :=
  let st := mramAdmit s init addr false
  if st = stOk then
    let r := mramReadFabric addr errs (some pairEqual) (if fetch then noteFetch init addr s else s)
    busAnswer init 14 r.1 addr (if r.1 = stOk then [r.2.1] else []) r.2.2
  else busAnswer init 14 st addr [] s

/-- MRAM_WORD_READ: `fetch` marks an instruction fetch (R153). -/
def execMramWordRead (init addr : Nat) (fetch : Bool) (errs : List Nat) (pairEqual : Bool) (s : State) :
    Host.Outcome State Fault Refusal := .next (wordRead init addr fetch errs pairEqual s)

/-- A word written by an initiator lands whole (R141) and is answered. -/
def wordWrite (init addr word : Nat) (s : State) : State :=
  let st := mramAdmit s init addr true
  busAnswer init 14 st addr [] (if st = stOk then mramStore (addr / 16 * 16) word s else s)

/-- MRAM_WORD_WRITE. -/
def execMramWordWrite (init addr word : Nat) (s : State) : Host.Outcome State Fault Refusal := .next (wordWrite init addr word s)

/-- Some bytes of a word written by an initiator, and answered. -/
def wordMerge (init addr byteEn word : Nat) (errs : List Nat) (s : State) : State :=
  let st := mramAdmit s init addr true
  if st = stOk then
    let r := mramMerge addr byteEn word errs s
    busAnswer init 14 r.1 addr [] r.2
  else busAnswer init 14 st addr [] s

/-- MRAM_MERGE_WRITE. -/
def execMramMergeWrite (init addr byteEn word : Nat) (errs : List Nat) (s : State) : Host.Outcome State Fault Refusal :=
  .next (wordMerge init addr byteEn word errs s)

/-- SCRUB_VISIT. -/
def execScrubVisit (errs : List Nat) (pairEqual : Bool) (badColumns badSpares : List Nat) (s : State) :
    Host.Outcome State Fault Refusal := .next (scrubVisit errs pairEqual badColumns badSpares s)

/-- COLUMN_REPAIR_STEP. -/
def execColumnRepairStep (s : State) : Host.Outcome State Fault Refusal := .next (if s.present 14 then repairStep s else s)

/-- COLUMN_REPAIR_COMPLETE. -/
def execColumnRepairComplete (s : State) : Host.Outcome State Fault Refusal :=
  .next (if s.present 14 then repairDone s else s)

/-- BANK_OPERATION_COMPLETE. -/
def execBankOperationComplete (faults : Nat) (s : State) : Host.Outcome State Fault Refusal := .next (bankComplete faults s)

/-- A commit requested of a powered engine: accepted and its header and payload written, held, or refused with BUSY (R159, R160,
R527). -/
def journalRequest (who : Nat) (j : JReq) (s : State) : State :=
  let s := finishSlot s
  match (if s.jnl.held = [] then s.judgeCommit j else
      (match s.judgeCommit j with | .busy => .busy | _ => .held)) with
  | .busy => (s.count P.pbkRateRefusals 1).emit (.commitAck who 0x0005)
  | .held => startCompaction { s with jnl := { s.jnl with held := s.jnl.held ++ [(who, j)] } }
  | .accepted => beginSlot who j s

/-- A recovery in which every uncorrectable word that it reads is counted and recorded (R152, R163). -/
def recoverCounting (us : Nat) (bad : List Nat) (s : State) : State :=
  (recoveryReads bad s).foldl (fun s a => uncorrectable a s) (recover us bad s)

/-- JOURNAL_RECOVERY: `badWords` holds the addresses that read as DATA, beside the words known to be uncorrectable. -/
def execJournalRecovery (us : Nat) (badWords : List Nat) (s : State) : Host.Outcome State Fault Refusal :=
  .next (if s.domOn 36 ∧ s.jnl.ready = false then recoverCounting us (badWords ++ s.badWords) s else s)

end Sys2Proof.Machine
end

