-- ==== Sys2Proof/Machine/Notify.lean ====
section
/-!
DEFINITION. Cue frames that the post sends: their CMAC (R173), replies, and notifications (R188, R189).
-/

namespace Sys2Proof.Machine

open Sys2Proof

/-! ### Result codes (R181) -/

abbrev resOk : Nat := 0x00
abbrev resNoObject : Nat := 0x01
abbrev resAccess : Nat := 0x02
abbrev resType : Nat := 0x03
abbrev resRange : Nat := 0x04
abbrev resBusy : Nat := 0x05
abbrev resIslandOff : Nat := 0x06
abbrev resNotConfirmed : Nat := 0x07
abbrev resAuth : Nat := 0x08
abbrev resSequence : Nat := 0x09
abbrev resAborted : Nat := 0x0A
abbrev resStale : Nat := 0x0B
abbrev resCrc : Nat := 0x0C
abbrev resBaton : Nat := 0x0D

/-- The bytes of a frame before its CMAC (R175). -/
def frameBytes (version flags seq src dst opcode pid : Nat) (len : Nat) (payload : Bytes) : Bytes :=
  [version % 256, flags % 256] ++ toBytes 2 seq ++ toBytes 2 src ++ toBytes 2 dst ++ [opcode % 256] ++ toBytes 3 pid
    ++ toBytes 2 len ++ payload

/-- The CMAC field (R173): identity, epoch and frame under a key. -/
def cueMac (key : Nat) (ident : Bytes) (epoch : Nat) (frame : Bytes) : Nat :=
  ofBytes ((aesCmac (toBytes 16 key) (ident ++ toBytes 4 epoch ++ frame)).take 8)

/-- Key Kk of the post (R171). -/
def State.key (s : State) (k : Nat) : Nat := s.cue.keys.getD k 0

/-- The eight bytes of a broadcast (R173). -/
def broadcastIdent : Bytes := List.replicate 8 0xFF

/-- The epoch in force (R172). -/
def State.epoch (s : State) : Nat := s.reg P.smgCueEpoch

/-- A frame of the post with its CMAC under a key, identity and epoch. -/
def mkFrame (key : Nat) (ident : Bytes) (epoch flags seq src dst opcode pid : Nat) (payload : Bytes) : CueFrame :=
  { flags := flags, seq := seq, src := src, dst := dst, opcode := opcode, pid := pid, payload := payload,
    cmac := cueMac key ident epoch (frameBytes 1 flags seq src dst opcode pid payload.length payload) }

/-- The bytes of a frame with its CMAC. -/
def CueFrame.bytes (f : CueFrame) : Bytes :=
  frameBytes 1 f.flags f.seq f.src f.dst f.opcode f.pid f.payload.length f.payload ++ toBytes 8 f.cmac

/-- A frame as it leaves on the stage door port (R167, R168): CRC-16 appended low byte first, COBS, delimiter. -/
def doorBytes (l : Bytes) : Bytes := cobsEncode (l ++ toBytes 2 (crc16 l)) ++ [0]

/-- The bits of a character of a format: start, data, parity and stop bits (R438, R462). -/
def charBits (f : Nat) : Nat :=
  1 + (if bitOf f 0 then 7 else 8) + (if bits f 2 1 = 0 then 0 else 1) + (if bitOf f 3 then 2 else 1)

/-- How long a number of characters takes at a rate and format, in units of stage time, rounded up. -/
def charTime (baud f n : Nat) : Nat := (n * charBits f * second + (baud - 1)) / baud

/-- Bytes sent on the stage door port (R449): SDR_DE rises `turn` after the last stop bit received, `lead` before the first start bit,
and falls with the last stop bit; bytes that follow others still to be sent leave in the same transmission (DESIGN CHOICE,
notes/assumptions/101.md). -/
def doorSend (baud f turn lead : Nat) (b : Bytes) (s : State) : State :=
  let going := decide (s.mono < s.ser.deFall)
  let rise := if going then s.ser.deRise else max s.mono (s.ser.doorAt + usUp turn)
  let start := if going then s.ser.deStart else rise + usUp lead
  let from_ := if going then s.ser.deFall else start;
  { s with ser := { s.ser with deRise := rise, deStart := start, deFall := from_ + charTime baud f b.length } }.emit (.uart 0 b)

/-- SDR_DE (R449): high during a transmission, low while VAON is not good. -/
def sdrDe (s : State) : Bool := s.pwr.vaon && decide (s.ser.deRise ≤ s.mono) && decide (s.mono < s.ser.deFall)

/-- Whether the stage door port sends characters now: TX_ACTIVE of SDR_STATUS (R463). -/
def doorSending (s : State) : Bool := sdrDe s && decide (s.ser.deStart ≤ s.mono)

/-- Whether the post belongs to a house and C0 may send for it (R360, R384, R352). -/
def inHouse (s : State) : Bool :=
  s.tir.houseKey.isSome && !(s.reg P.smgHouseId == 0) && s.reg P.tirTestMode == 0 && s.present 10 && s.domOn 59

/-- A frame put at the end of C0's queue (R359); a post outside a house sends nothing. -/
def tirSend (t : TxItem) (s : State) : State :=
  if inHouse s then { s with tir := { s.tir with queue := s.tir.queue ++ [t] } } else s

/-- A unicast frame of the post for a seat, without count. -/
def tirCue (s : State) (final : Nat) (body : Bytes) : TxItem :=
  { kind := 1, origin := s.seat, final := final, hops := 0, count := 0, body := body, prio := 2, next := none, tries := 0
    sound := false }

/-- Whether a transport's islands have power: E1 and C0 in a house for Tirwa; E2, the switch and the lanes for the Stage link; the
stage door port lives with the Stage manager (R32, R167). -/
def State.carries (s : State) : Via → Bool
  | .stageDoor => true
  | .tirwa => s.present 3 && inHouse s
  | .stageLink => s.present 4 && s.present 15 && s.present 16

/-- Where traffic for an IP address goes: to the address itself within SL_IP_ADDR and SL_IP_MASK, else to the gateway, with none
nowhere (R401). -/
def nextHop (s : State) (ip : Nat) : Option Nat :=
  let m := s.reg P.slIpMask
  if Nat.land ip m = Nat.land (s.reg P.slIpAddr) m then some ip
  else if s.reg P.slIpGw = 0 then none
  else some (s.reg P.slIpGw)

/-- A frame put on a transport: over Tirwa it leaves through C0, over the Stage link for an address that has a way (R401). -/
def putCue (via : Via) (ip port : Nat) (f : CueFrame) (s : State) : State :=
  match via with
  | .stageDoor =>
    (doorSend s.ser.doorBaud s.ser.doorFmt (s.reg P.sdrTurnUs) (s.reg P.sdrDeLeadUs) (doorBytes f.bytes) s).emit (.cue via f)
  | .tirwa => (tirSend (tirCue s f.dst f.bytes) (relay 15 2 7 0 s)).emit (.cue via f)
  | .stageLink =>
    match nextHop s ip with
    | some h => s.emit (.slCue (s.reg P.slCuePcp) h ip port f)
    | none => s

/-- A frame sent on a transport; where the transport has no power nobody is reached, and the frame is dropped (R32). -/
def sendCue (via : Via) (ip port : Nat) (f : CueFrame) (s : State) : State :=
  if s.carries via then putCue via ip port f s else s

/-! ### Notifications -/

/-- The payload of a notification (R189): count, result and, where the result is OK, the value. -/
def notePayload (count result : Nat) (value : Bytes) : Bytes :=
  toBytes 2 count ++ [result] ++ (if result = resOk then value else [])

/-- A notification that a chapter requires without a subscription (R189): K2, count 0 and SEQ 0, to the main host's latest
address, or dropped. -/
def notifyMain (pid : Nat) (s : State) : State :=
  match s.cue.route with
  | none => s
  | some r =>
    sendCue r.via r.ip (s.reg P.smgCueNotifyPort)
      (mkFrame (s.key 2) s.postId s.epoch 0x42 0 s.seat r.seat 4 pid (notePayload 0 resOk (toBytes (sizeOf' pid) (s.reg pid)))) s

/-- The subscription in a slot. -/
def State.sub (s : State) (slot : Nat) : Option Sub := s.cue.subs.getD slot none

/-- A slot set; SMG_CUE_SUBS_USED follows. -/
def State.setSub (s : State) (slot : Nat) (x : Option Sub) : State :=
  let subs := setAt s.cue.subs slot x
  { s with cue := { s.cue with subs := subs } }.setReg P.smgCueSubsUsed (subs.filter Option.isSome).length

/-- The count after the next notification: from 65,535 to 1 (R189). -/
def nextCount (n : Nat) : Nat := if n = 65535 then 1 else n + 1

/-- One notification of a subscription sent, with a value where its result is OK; only a value sent is compared with later ones. -/
def sendNoteOf (slot : Nat) (u : Sub) (result : Nat) (v : Bytes) (s : State) : State :=
  let n := nextCount u.count
  let s := sendCue u.via u.ip (s.reg P.smgCueNotifyPort)
    (mkFrame (s.key u.key) s.postId s.epoch (0x40 + u.key) u.seq s.seat u.seat 4 u.pid (notePayload n result v)) s
  s.setSub slot (some { u with
    count := n, sentAt := s.mono, last := if result = resOk then v else u.last, gone := decide (result = resIslandOff) })

/-- The ISLAND_OFF notification of one slot when its object's home has ceased to be present (R189). -/
def noteGone (slot : Nat) (s : State) : State :=
  match s.sub slot with
  | none => s
  | some u =>
    if u.gone = false ∧ s.homePresent (homeOf u.pid) = false then sendNoteOf slot u resIslandOff [] s else s

/-- The ISLAND_OFF notifications of every slot. -/
def notesGone (s : State) : State := (List.range 64).foldl (fun s i => noteGone i s) s

/-- A slot whose object's home is present again: its next absence is notified too (R189). -/
def noteBack (slot : Nat) (s : State) : State :=
  match s.sub slot with
  | none => s
  | some u => if u.gone ∧ s.homePresent (homeOf u.pid) then s.setSub slot (some { u with gone := false }) else s

/-- Every slot after an island or the Iron has returned. -/
def notesBack (s : State) : State := (List.range 64).foldl (fun s i => noteBack i s) s

/-! ### Frames that arrive -/

/-- A Cue frame read from its bytes (R175); none where it is too short to be one. -/
def parseCue (via : Via) (ip port : Nat) (l : Bytes) : Option (Nat × Req) :=
  if l.length < 22 then none
  else
    some (l.getD 8 0,
      { via := via, ip := ip, port := port, version := l.getD 0 0, flags := l.getD 1 0, seq := ofBytes (slice l 2 2)
        src := ofBytes (slice l 4 2), dst := ofBytes (slice l 6 2), pid := ofBytes (slice l 9 3), len := ofBytes (slice l 12 2)
        payload := slice l 14 (l.length - 22), cmac := ofBytes (l.drop (l.length - 8)) })

/-- Which transports belong to the main host (R21): all but the stage door, from SMG_HOST_SEAT. -/
def masterOf (s : State) (r : Req) : Master :=
  if r.via = .stageDoor then .side
  else if r.src = s.reg P.smgHostSeat ∧ ¬ (r.src = 0xFFFE) then .main
  else .none

/-- A Cue frame that a transport passes to the Cue server: it waits for its turn, late where eight of its master already
wait (R180), which limits masters only; a frame too short to be one is discarded and counted (R176). -/
def cueArrive (via : Via) (ip port : Nat) (l : Bytes) (s : State) : State :=
  if s.cue.running = false then s
  else
    match parseCue via ip port l with
    | none => s.count P.smgCueDiscards 1
    | some (op, r) =>
      let m := masterOf s r
      let n := (s.cue.inbox.filter fun i => masterOf s i.req == m).length;
      { s with cue := { s.cue with inbox := s.cue.inbox ++ [⟨op, r, decide (¬ (m = .none) ∧ 8 ≤ n)⟩] } }

end Sys2Proof.Machine
end

