-- ==== Sys2Proof/Machine/Warden.lean ====
section
/-!
DEFINITION. The two safety channels (spec/08_safety.md): inputs, output pairs, latched faults, the Prompter and the Iron's copy
of the safety blocks. Channel 0 is the Iron, channel 1 the Warden (R224).
-/

namespace Sys2Proof.Machine

open Sys2Proof

/-! ### Safety events (R224) -/

/-- The payload of a safety event record. -/
def eventWord (code ch unit detail : Nat) : Nat :=
  detail % 2 ^ 32 + unit % 256 * 2 ^ 40 + ch % 256 * 2 ^ 48 + code % 256 * 2 ^ 56

/-- Whether the Stage manager firmware runs. -/
def State.managerRuns (s : State) : Bool := s.pwr.boot == .running

/-- The latched events that the keeper channel has not delivered, delivered while the Stage manager runs: each is recorded. -/
def keeperDeliver (s : State) : State :=
  if s.managerRuns ∧ s.domOn 0 ∧ s.pwr.ironOn then
    let todo := s.iron.events.filter fun e => !e.keeper
    let kept := (s.iron.events.map fun e => { e with keeper := true }).filter fun e => !(e.main0 && e.main1)
    let s := { s with iron := { s.iron with events := kept } }
    todo.foldl (fun s e =>
      let s := record 0x34 [eventWord e.code 0 e.unit e.faults] s
      if e.code = 0x12 then
        { s with pwr := { s.pwr with ironReport := false } }.setReg P.pwResetCause (setBit (s.reg P.pwResetCause) 8 true)
      else s) s
  else s

/-- An event that the Iron decides: latched, and sent over the keeper channel whenever the Stage manager can take it (R58). -/
def ironEvent (code unit : Nat) (s : State) : State :=
  if s.pwr.ironOn then keeperDeliver (ironLatch code unit s) else s

/-- An event that the Warden decides: on Callboard channel 2, and recorded. -/
def wardenEvent (code unit detail : Nat) (s : State) : State :=
  if s.present 8 then record 0x34 [eventWord code 1 unit detail] (relay 2 0x08 3 0 s) else s

/-- A safety event of a channel with IRN_FAULTS as its detail. -/
def safetyEvent (ch code unit : Nat) (s : State) : State :=
  if ch = 0 then ironEvent code unit s else wardenEvent code unit (s.reg P.irnFaults) s

/-! ### Channels -/

/-- A channel's state. -/
def State.saf? (s : State) (ch : Nat) : SafChan := s.saf.chans.getD ch (SafChan.reset 0)

/-- A channel changed; IRN_FAULTS shows what either channel has latched (R223). -/
def State.setChan' (s : State) (ch : Nat) (c : SafChan) : State :=
  let chans := setAt s.saf.chans ch c
  { s with saf := { s.saf with chans := chans } }.setReg P.irnFaults ((chans.map SafChan.lat).foldl (· ||| ·) 0)

/-- A parameter as a channel holds it: the Iron's own copy, or the active value of the Warden (R214). -/
def chanVal (s : State) (ch p : Nat) : Nat :=
  if ch = 0 then ((s.saf.copy.find? fun e => e.1 == p).map (·.2)).getD (dfltOf p) else s.reg p

/-- Whether a channel works: the Iron out of its reset, I08 present. -/
def chanAlive (s : State) (ch : Nat) : Bool := if ch = 0 then s.pwr.ironOn else s.present 8

/-- Whether a filtered contact of an input shows demand (R200): contact 0 is A, 1 is B. -/
def contactDemand (s : State) (ch n c : Nat) : Bool :=
  let shut := (s.saf? ch).closed.getD (2 * n + c) false
  if chanVal s ch (P.wdnSiPairing n) = 1 ∧ c = 1 then shut else !shut

/-- Whether an input is in demand in a channel: by a contact, or held by a latch (R200 to R202). -/
def inDemand (s : State) (ch n : Nat) : Bool :=
  contactDemand s ch n 0 || contactDemand s ch n 1 || bitOf (s.saf? ch).disc n || bitOf (s.saf? ch).tp n

/-- Whether the two contacts of an input disagree (R201). -/
def inDiscrepancy (s : State) (ch n : Nat) : Bool := contactDemand s ch n 0 != contactDemand s ch n 1

/-- The role of an input. -/
def roleOf (s : State) (ch n : Nat) : Nat := chanVal s ch (P.wdnSiRole n)

/-- The pairs that an input opens: WDN_SIn_TARGET, where 0 stands for the default of its role (R196). -/
def targetOf (s : State) (ch n : Nat) : Nat :=
  let t := chanVal s ch (P.wdnSiTarget n) % 64
  if t = 0 then (if roleOf s ch n = 1 then 0x3F else if roleOf s ch n = 5 then 0x30 else 0) else t

/-- Whether a session runs (R237, R240). -/
def sessionOpen (s : State) : Bool := !(s.reg P.wdnSesState == 0) && !(s.reg P.wdnSesState == 8)

/-- Whether a demand of an input opens pairs now: roles 1, 2 and 5, and role 3 during a session (R196). -/
def demandActs (s : State) (ch n : Nat) : Bool :=
  let r := roleOf s ch n
  (r == 1 || r == 2 || r == 5 || (r == 3 && sessionOpen s)) && inDemand s ch n

/-- The pairs that inputs in demand hold open in a channel. -/
def demandMask (s : State) (ch : Nat) : Nat :=
  (List.range 8).foldl (fun m n => if demandActs s ch n then m ||| targetOf s ch n else m) 0

/-- The pairs that a channel's latched faults name. -/
def SafChan.names (c : SafChan) : Nat :=
  (if bitOf c.lat 0 || bitOf c.lat 1 || bitOf c.lat 2 || bitOf c.lat 14 || bitOf c.lat 15 then 0x3F else 0)
    ||| (if bitOf c.lat 13 then c.estop else 0) ||| c.overload ||| c.readback ||| c.dark
    ||| (if bitOf c.lat 8 then 0x0F else 0)
    ||| (if bitOf c.lat 10 || bitOf c.lat 12 then 0x30 else 0)

/-- Whether SLS is latched. -/
def slsLatched (s : State) : Bool := s.saf.chans.any fun c => bitOf c.lat 11

/-- The pairs that latched faults other than SLS name: those of the channels, and the earth faults (R243, R245, R246, R247). -/
def otherFaults (s : State) : Nat :=
  (s.saf.chans.map SafChan.names).foldl (· ||| ·) 0 ||| (if bits (s.reg P.irnEarthFaults) 4 1 = 0 then 0 else 0x0F)

/-- The pairs that any latched fault names: none of them may close (R197). -/
def faultNames (s : State) : Nat := otherFaults s ||| (if slsLatched s then 0x30 else 0)

/-- The pairs that latched faults open now: those that SLS names stay as they are until its stop has ended (R219). -/
def faultMask (s : State) : Nat := otherFaults s ||| (if slsLatched s && s.saf.ss1.isNone then 0x30 else 0)

/-- Whether the Prompter is satisfied (R210, R211). -/
def prompterOk (s : State) : Bool := decide (0 < s.saf.prOk) && !(bitOf (s.reg P.irnFaults) 0)

/-! ### Output pairs -/

/-- The high-side switches that are closed. -/
def highSide (s : State) : Nat := bits (s.reg P.irnSafeState) 5 0
/-- The low-side switches that are closed. -/
def lowSide (s : State) : Nat := bits (s.reg P.irnSafeState) 13 8

/-- The switches set. -/
def setSwitches (hs ls : Nat) (s : State) : State := s.setReg P.irnSafeState (hs % 64 + ls % 64 * 256)

/-- Whether a pair is closed: both its switches (R196). -/
def pairClosed (s : State) (p : Nat) : Bool := bitOf (highSide s) p && bitOf (lowSide s) p

/-- Whether any pair is closed. -/
def anyClosed (s : State) : Bool := (List.range 6).any fun p => pairClosed s p

/-- Whether the cast lets SO0 to SO3 close (R485). -/
def castOk (s : State) : Bool := s.reg P.wngCastState == 0 || s.reg P.wngCastState == 3

/-- Whether the two dies reach one another and the Prompter is satisfied (R197, R198). -/
def channelsUp (s : State) : Bool := s.pwr.ironOn && s.present 8 && s.present 22 && prompterOk s

/-- The pairs that a channel may hold closed (R197, R198). -/
def mayHold (s : State) (ch : Nat) : Nat :=
  if channelsUp s then 0x3F - ((faultMask s ||| demandMask s ch) &&& 0x3F) else 0

/-- The pairs that a channel may close (R197). -/
def mayClose (s : State) (ch : Nat) : Nat :=
  if channelsUp s then 0x3F - ((faultNames s ||| demandMask s ch) &&& 0x3F) else 0

/-- SO4 opens with SO5 in one channel (R216). -/
def brakeFollows (before after : Nat) : Nat := if bitOf before 5 && !(bitOf after 5) then setBit after 4 false else after

/-- Every switch that may no longer be held opens; none closes. While the Iron may not hold any, VSUP included, its high sides
are open. -/
def settle (s : State) : State :=
  let h := highSide s
  let l := lowSide s
  setSwitches (brakeFollows h (h &&& mayHold s 0)) (brakeFollows l (l &&& mayHold s 1)) s

/-- Pairs opened on command, SO4 with SO5. -/
def openPairs (mask : Nat) (s : State) : State :=
  let m := if bitOf mask 5 then mask ||| 0x10 else mask
  let keep := 0x3F - (m &&& 0x3F)
  setSwitches (highSide s &&& keep) (lowSide s &&& keep) s

/-- Pairs closed on the Warden's command, as far as both channels allow (R197) and the cast lets SO0 to SO3 (R485). -/
def closePairs (mask : Nat) (s : State) : State :=
  let m := if castOk s then mask else mask &&& 0x30
  if s.pwr.vsup ∧ s.pwr.failing = false then
    setSwitches (highSide s ||| (m &&& mayClose s 0)) (lowSide s ||| (m &&& mayClose s 1)) s
  else s

/-! ### Latching (R223) -/

/-- A fault bit latched in a channel with what it names, and the switches that follow. -/
def latchWith (ch bit : Nat) (f : SafChan → SafChan) (s : State) : State :=
  let c := s.saf? ch
  settle (s.setChan' ch (f { c with lat := setBit c.lat bit true }))

/-- A fault bit latched in a channel. -/
def latchFault (ch bit : Nat) (s : State) : State := latchWith ch bit id s

/-- A fault bit latched in both channels, each with its event (R224). -/
def latchBoth (bit code unit : Nat) (f : SafChan → SafChan) (s : State) : State :=
  let s := latchWith 1 bit f (latchWith 0 bit f s)
  safetyEvent 1 code unit (safetyEvent 0 code unit s)

/-! ### Clearing (R201, R204, R211, R221, R223, R248) -/

/-- The latched discrepancies whose release condition holds (R201). -/
def discReleased (c : SafChan) : Nat :=
  (List.range 8).foldl (fun m n => if bitOf c.disc n && c.clear.getD n 0 == 3 then setBit m n true else m) 0

/-- The latched pulse faults whose latest check passed (R202). -/
def tpReleased (c : SafChan) : Nat :=
  (List.range 8).foldl (fun m n => if bitOf c.tp n && c.tpFails.getD n 0 == 0 then setBit m n true else m) 0

/-- Whether a mirror of an open pair reports the contactor closed (R203). -/
def mirrorStuck (s : State) (ch : Nat) : Bool :=
  (List.range 8).any fun n => roleOf s ch n == 4 && !(pairClosed s (chanVal s ch (P.wdnSiTarget n) % 8)) && inDemand s ch n

/-- Whether an input of role 0x01 is in demand. -/
def estopHeld (s : State) (ch : Nat) : Bool := (List.range 8).any fun n => roleOf s ch n == 1 && inDemand s ch n

/-- Whether the cause of a latched fault of a channel has gone (R223). -/
def causeGone (s : State) (ch bit : Nat) : Bool :=
  if bit = 0 then decide (4 ≤ s.saf.prOk)
  else if bit = 1 then s.saf.prDiffer == 0
  else if bit = 2 then decide (s.regI P.irnTemp < 1350)
  else if bit = 8 then !(mirrorStuck s ch)
  else if bit = 11 then decide (s.reg P.wdnSlsLimit = 0 ∨ (s.regI P.wdnSpeed).natAbs ≤ s.reg P.wdnSlsLimit)
  else if bit = 12 then !s.saf.fast
  else if bit = 13 then !(estopHeld s ch)
  else if bit = 14 then s.present 8
  else if bit = 15 then false
  else true

/-- One fault bit of a channel cleared if its cause has gone. -/
def clearBit (ch bit : Nat) (s : State) : State :=
  let c := s.saf? ch
  if bitOf c.lat bit = false then s
  else if bit = 4 then
    let d := c.disc - discReleased c
    s.setChan' ch { c with disc := d, lat := setBit c.lat 4 (!(d == 0)) }
  else if bit = 5 then
    let d := c.tp - tpReleased c
    s.setChan' ch { c with tp := d, lat := setBit c.lat 5 (!(d == 0)) }
  else if causeGone s ch bit then
    s.setChan' ch
      { c with
          lat := setBit c.lat bit false, estop := if bit = 13 then 0 else c.estop,
          overload := if bit = 3 then 0 else c.overload, readback := if bit = 6 then 0 else c.readback,
          dark := if bit = 7 then 0 else c.dark }
  else s

/-- Several fault bits of a channel cleared where their causes have gone. -/
def clearBits (ch mask : Nat) (s : State) : State :=
  (List.range 16).foldl (fun s b => if bitOf mask b then clearBit ch b s else s) s

/-- Whether the residual current is measured (R245): SO3 may close. -/
def rcMeasured (s : State) : Bool :=
  s.pwr.ironOn && s.domOn 58 && !s.veh.dc && decide (2 ≤ s.reg P.wdnSesState ∧ s.reg P.wdnSesState ≤ 6)

/-- The earth faults of a mask whose cause has gone cleared (R248): bits 1 to 4 of IRN_EARTH_FAULTS. While no residual current is
measured, whether the cause of RC_TRIP and of RC_SENSOR has gone is a free value (notes/assumptions/50.md). -/
def clearEarth (mask : Nat) (s : State) : State :=
  let e := s.reg P.irnEarthFaults
  let kept := 1 ||| (0x1E &&& (mask ^^^ 0x1F))
  if rcMeasured s ∨ bits (e &&& mask) 3 2 = 0 then s.setReg P.irnEarthFaults (e &&& (s.saf.earthCause ||| kept))
  else
    let f := s.drawBits 2
    f.2.setReg P.irnEarthFaults (e &&& (setBits s.saf.earthCause 3 2 f.1 ||| kept))

/-- The earth faults latched at least 10 s ago (R248). -/
def earthOld (s : State) : Nat :=
  (List.range 5).foldl (fun m b => setBit m b (decide (s.saf.earthAt.getD b 0 + 10 * second ≤ s.mono))) 0

/-! ### Inputs (R199 to R205) -/

/-- IRN_SI_STATE of one input (R228): test-pulse fault, discrepancy, demand, released, as the Iron sees it. -/
def siCode (s : State) (n : Nat) : Nat :=
  if bitOf (s.saf? 0).tp n then 3
  else if bitOf (s.saf? 0).disc n || inDiscrepancy s 0 n then 2
  else if inDemand s 0 n then 1
  else 0

/-- IRN_SI_STATE brought up to date for an input. -/
def updateSi (n : Nat) (s : State) : State :=
  s.setReg P.irnSiState (setBits (s.reg P.irnSiState) (2 * n + 1) (2 * n) (siCode s n))

/-- IRN_SI_STATE brought up to date for every input. -/
def refreshSi (s : State) : State := if s.pwr.ironOn then (List.range 8).foldl (fun s n => updateSi n s) s else s

/-- A reset given on an input in one channel (R204): every latched fault whose cause has gone. -/
def giveReset (ch n : Nat) (s : State) : State :=
  safetyEvent ch 0x0F n (refreshSi (clearEarth 0x1F (clearBits ch 0x7FFF s)))

/-- A confirmed WDN_FAULT_ACK (R223): every bit named but ESTOP and BLOCK. -/
def faultAck (mask : Nat) (s : State) : State :=
  let m := mask &&& 0x5FFF
  refreshSi ((clearBits 1 m (clearBits 0 m s)).setReg P.wdnFaultAck 0)

/-- How a latched discrepancy comes towards its release after a contact changed (R201). -/
def discProgress (ch n : Nat) (s : State) : State :=
  let c := s.saf? ch
  let a := contactDemand s ch n 0
  let b := contactDemand s ch n 1
  let st := c.clear.getD n 0
  let limit := ms (chanVal s ch (P.wdnSiDiscMs n))
  let r : Nat × Nat :=
    if a && b then (1, c.clearAt.getD n 0)
    else if a || b then (if st = 1 then (2, s.mono) else if st = 2 then (2, c.clearAt.getD n 0) else (0, 0))
    else if st = 1 then (3, s.mono)
    else if st = 2 ∧ s.mono ≤ c.clearAt.getD n 0 + limit then (3, s.mono)
    else (0, 0)
  s.setChan' ch { c with clear := setAt c.clear n r.1, clearAt := setAt c.clearAt n r.2 }

/-- ESTOP latched for an input of role 0x01 in demand, whatever put it there, unless it is latched for its pairs already (R205). -/
def latchEstop (ch n : Nat) (s : State) : State :=
  let c := s.saf? ch
  let t := targetOf s ch n
  if chanAlive s ch ∧ roleOf s ch n = 1 ∧ inDemand s ch n ∧ ¬ (bitOf c.lat 13 ∧ c.estop &&& t = t) then
    safetyEvent ch 0x01 n (latchWith ch 13 (fun c => { c with estop := c.estop ||| t }) s)
  else s

/-- ESTOP latched wherever a channel now sees such a demand: after its parameters have changed or were loaded. -/
def latchEstops (s : State) : State :=
  (List.range 16).foldl (fun s i => latchEstop (i / 8) (i % 8) s) s

/-- What a new demand of an input does in its channel: ESTOP for role 0x01, the pairs open, the event. -/
def newDemand (ch n : Nat) (s : State) : State :=
  if roleOf s ch n = 1 then
    let s := latchWith ch 13 (fun c => { c with estop := c.estop ||| targetOf s ch n }) s
    safetyEvent ch 0x01 n s
  else
    let s := settle s
    if demandActs s ch n then safetyEvent ch 0x01 n s else s

/-- A reset input in demand, then released: a reset is given if the demand began with a release before it and lasted 0.2 s to 3.0 s
(R204). The start is kept as elapsed time plus 1; 0 means that no demand began. -/
def resetInput (ch n : Nat) (was now : Bool) (s : State) : State :=
  let c := s.saf? ch
  if now ∧ was = false then s.setChan' ch { c with demandAt := setAt c.demandAt n (s.mono + 1) }
  else if was ∧ now = false then
    let t := c.demandAt.getD n 0
    let dt := s.mono + 1 - t
    let s := s.setChan' ch { c with demandAt := setAt c.demandAt n 0 }
    if 0 < t ∧ 2 * second ≤ 10 * dt ∧ dt ≤ 3 * second then giveReset ch n s else s
  else s

/-- The filtered state of a contact changes in a channel. -/
def filterChange (ch n c : Nat) (shut : Bool) (s : State) : State :=
  if chanAlive s ch = false then s
  else
    let was := inDemand s ch n
    let k := s.saf? ch
    let s := discProgress ch n (s.setChan' ch { k with closed := setAt k.closed (2 * n + c) shut })
    let now := inDemand s ch n
    let s := if ch = 0 then updateSi n s else s
    let s := if roleOf s ch n = 6 then resetInput ch n was now s else s
    let s := if now ∧ was = false then newDemand ch n s else settle s
    if ch = 0 then updateSi n s else s

/-- A discrepancy that lasted too long (R201). -/
def discTimeout (ch n : Nat) (s : State) : State :=
  if chanAlive s ch = false ∨ inDiscrepancy s ch n = false ∨ bitOf (s.saf? ch).disc n then s
  else
    let s := latchWith ch 4 (fun c => { c with disc := setBit c.disc n true, clear := setAt c.clear n 0 }) s
    safetyEvent ch 0x02 n (if ch = 0 then updateSi n s else s)

/-- One input's check during a test pulse in a channel (R202): two failures in a row latch TEST_PULSE. -/
def pulseCheck (ch n : Nat) (failed : Bool) (s : State) : State :=
  if chanAlive s ch = false ∨ chanVal s ch (P.wdnSiTest n) = 0 then s
  else
    let c := s.saf? ch
    let k := if failed then min 2 (c.tpFails.getD n 0 + 1) else 0
    let s := s.setChan' ch { c with tpFails := setAt c.tpFails n k }
    if k = 2 ∧ bitOf c.tp n = false then
      let s := latchWith ch 5 (fun c => { c with tp := setBit c.tp n true }) s
      latchEstop ch n (safetyEvent ch 0x03 n (if ch = 0 then updateSi n s else s))
    else s

/-- A test pulse: `failed` names the checks that failed as 8 × channel + input. -/
def testPulse (failed : List Nat) (s : State) : State :=
  (List.range 16).foldl (fun s i => pulseCheck (i / 8) (i % 8) (failed.contains i) s) s

/-- The mirrors of a pair, as the Warden has them (R203). -/
def mirrorsOf (s : State) (p : Nat) : List Nat :=
  (List.range 8).filter fun n => roleOf s 1 n == 4 && chanVal s 1 (P.wdnSiTarget n) % 8 == p

/-- The end of a mirror's follow time (R203): one that does not report released after its pair opened is welded; one that does not
follow a closing pair is reported to E0 on Callboard channel 4. -/
def mirrorTimeout (p : Nat) (s : State) : State :=
  if pairClosed s p then
    (if (mirrorsOf s p).any fun n => !(inDemand s 1 n) then relay 4 0x08 3 0 s else s)
  else if (mirrorsOf s p).any fun n => inDemand s 1 n then latchBoth 8 0x0A p id s
  else s

/-! ### Readback and overload (R206, R207) -/

/-- A readback mismatch: the pair opens in both channels. -/
def readbackMismatch (p : Nat) (s : State) : State :=
  if 6 ≤ p then s else latchBoth 6 0x04 p (fun c => { c with readback := setBit c.readback p true }) s

/-- A switch that stayed in current limit: the Iron decides and the pair is named. -/
def currentLimit (p : Nat) (s : State) : State :=
  if 6 ≤ p then s
  else ironEvent 0x08 p (latchWith 0 3 (fun c => { c with overload := setBit c.overload p true }) s)

/-- The sum of load currents too high for 10 ms: every pair opens. -/
def totalOverload (s : State) : State :=
  ironEvent 0x08 0xFF (latchWith 0 3 (fun c => { c with overload := 0x3F }) s)

/-! ### Dark tests (R208) -/

/-- A dark test of a closed pair with its two readings. -/
def darkTest (p : Nat) (ok2 ok6 : Bool) (s : State) : State :=
  if 6 ≤ p ∨ pairClosed s p = false ∨ s.reg (P.wdnSoDark p) = 0 then s
  else if ok2 && ok6 then ironEvent 0x05 p s
  else latchBoth 7 0x05 p (fun c => { c with dark := setBit c.dark p true }) s

/-! ### The Prompter (R209 to R212) -/

/-- The next challenge: its sequence number follows on, its value from the Iron's LFSR is a free value. -/
def challenge (s : State) : State :=
  let f := s.drawBits 16
  { f.2 with saf := { f.2.saf with prSeq := (f.2.saf.prSeq + 1) % 256, prVal := f.1 } }

/-- A Prompter failure (R211). -/
def prompterFail (s : State) : State :=
  if s.pwr.ironOn = false then s
  else
    let was := bitOf (s.saf? 0).lat 0
    let s := { s with saf := { s.saf with prOk := 0, prFirst := true, prDiffer := 0 } }.count P.irnPromptFails 1
    let s := latchFault 0 0 s
    challenge (if was then s else ironEvent 0x06 0xFF s)

/-- The Iron's own filtered demands, bit n for input n. -/
def demandBits (s : State) (ch : Nat) : Nat :=
  (List.range 8).foldl (fun m n => if inDemand s ch n then setBit m n true else m) 0

/-- Two differing answers in a row latch CHANNEL (R212). -/
def compareAnswer (word : Nat) (s : State) : State :=
  let same := bits word 13 6 == demandBits s 0 && bits word 5 0 == lowSide s
  let k := if same then 0 else s.saf.prDiffer + 1
  let s := { s with saf := { s.saf with prDiffer := min 2 k } }
  if 2 ≤ k then
    if bitOf (s.saf? 0).lat 1 then settle s else ironEvent 0x07 0xFF (latchFault 0 1 s)
  else s

/-- The check field of an answer to the present challenge (R209). -/
def challengeCheck (s : State) : Nat := crc16 [s.saf.prSeq, s.saf.prVal % 256, s.saf.prVal / 256]

/-- An answer with its sequence number, `dt` µs after the previous accepted answer, or after its challenge where it is the
first (R210). -/
def prompterAnswer (word seq dt : Nat) (aborted : Bool) (s : State) : State :=
  if s.pwr.ironOn = false then s
  else
    let inTime := if s.saf.prFirst then decide (dt ≤ 12000) else decide (8000 ≤ dt ∧ dt ≤ 12000)
    if aborted = false ∧ bits word 31 16 = challengeCheck s ∧ seq = s.saf.prSeq ∧ inTime then
      let s := { s with saf := { s.saf with prOk := s.saf.prOk + 1, prFirst := false } }
      let s := compareAnswer word s
      let s := if s.saf.prOk = 4 ∧ bitOf (s.saf? 0).lat 0 then ironEvent 0x06 0xFF s else s
      challenge s
    else prompterFail s

/-! ### The Iron's copy of the safety blocks (R186, R214) -/

/-- The group PIDs of the safety blocks whose copy the Iron keeps (R185). -/
def blockGroups : List Nat :=
  ((List.range 8).map fun n => 0x301000 + 256 * n) ++ ((List.range 6).map fun p => 0x302000 + 256 * p)
    ++ [0x303000, 0x304000, 0x401000]

/-- The items of a group in ascending order. -/
def groupItems (g : Nat) : List Nat :=
  ((objectsOf g).flatMap Obj.pids).filter fun p => decide (p / 256 = g / 256)

/-- The bytes of a block's items: each PID and its value (R186). -/
def blockBytes (items : List (Nat × Nat)) : Bytes :=
  items.flatMap fun e => toBytes 3 e.1 ++ toBytes (sizeOf' e.1) e.2

/-- The active values of a block. -/
def blockValues (s : State) (g : Nat) : List (Nat × Nat) := (groupItems g).map fun p => (p, s.reg p)

/-- The CRC-32 of values of a block. -/
def blockCrc (items : List (Nat × Nat)) : Nat := crc32 (blockBytes items)

/-- The values of a block in the Iron's copy. -/
def copyValues (s : State) (g : Nat) : List (Nat × Nat) := (groupItems g).map fun p => (p, chanVal s 0 p)

/-- Whether the Iron finds its copy of a block right: its own CRC against the one of the latest SAFETY_BLOCK record, or the values
against the defaults of its table where there is none (R214). -/
def blockAgrees (s : State) (g : Nat) : Bool :=
  match persistGet s.jnl.persist (keptCrc g) with
  | some e => blockCrc (copyValues s g) == e.2
  | none => (copyValues s g).all fun e => e.2 == dfltOf e.1

/-- BLOCK latched with its event, or cleared. -/
def setBlockFault (bad : Bool) (s : State) : State :=
  let c := s.saf? 0
  if bad then
    if bitOf c.lat 15 then settle s else ironEvent 0x10 0xFF (latchFault 0 15 s)
  else s.setChan' 0 { c with lat := setBit c.lat 15 false }

/-- Whether every block agrees: the Iron holds a copy that its table allows, finds each block right, and the Warden's CRC of each
active block is the Iron's (R214). -/
def blocksAgree (s : State) : Bool :=
  s.saf.loaded && blockGroups.all fun g => blockAgrees s g && blockCrc (blockValues s g) == blockCrc (copyValues s g)

/-- The Warden's CRC of each block compared (R214, R223): BLOCK is latched, or clears when the blocks agree. -/
def checkBlocks (s : State) : State :=
  if s.pwr.ironOn = false ∨ s.present 8 = false ∨ s.present 22 = false then s else setBlockFault (!blocksAgree s) s

/-- Every active block loaded into the Iron, which checks them and its configuration table (R214, R491); a stop that is pressed is
seen from here on (R205). -/
def loadBlocks (tableOk : Bool) (s : State) : State :=
  if s.pwr.ironOn = false ∨ s.present 8 = false ∨ s.present 22 = false then s
  else
    let s := { s with saf := { s.saf with copy := blockGroups.flatMap fun g => blockValues s g, loaded := tableOk } }
    latchEstops (refreshSi (checkBlocks s))

/-! ### Temperature and losses (R213, R221, R254) -/

/-- The Iron's temperature read: above 150 °C every pair opens. -/
def ironTemp (t : Int) (s : State) : State :=
  if s.pwr.ironOn = false then s
  else
    let s := s.setRegI P.irnTemp t
    if 1500 < t ∧ bitOf (s.saf? 0).lat 2 = false then ironEvent 0x09 0xFF (latchFault 0 2 s) else settle s

/-- A VSUP warning (R89, R221): every high-side switch opens without a latch. -/
def ironVsupWarning (s : State) : State :=
  if s.pwr.ironOn then ironEvent 0x11 0xFF (setSwitches 0 (lowSide s) s) else s

/-- The Warden gone: its drive lines stop and the low sides open (R56), and with it the stop that it commanded (R219); the missing
answer follows as a Prompter failure. -/
def wardenGone (s : State) : State := setSwitches (highSide s) 0 { s with saf := { s.saf with ss1 := none } }

/-- What the safety functions lose at an Iron POR: what the Iron holds. The Warden keeps its channel (R103), and IRN_FAULTS shows
what either has latched (R223). -/
def safetyIronReset (s : State) : State :=
  let s := { s with saf := { SafState.reset with
    chans := [SafChan.reset 0x8000, s.saf? 1], brakeDone := s.saf.brakeDone, brakeAt := s.saf.brakeAt,
    creepOnly := s.saf.creepOnly, ss1 := s.saf.ss1 } };
  (((((s.setReg P.irnSafeState 0).setReg P.irnSiState 0).setReg P.irnFaults (0x8000 ||| (s.saf? 1).lat)).setReg P.irnPromptFails
    0).setReg P.irnTemp 0)

end Sys2Proof.Machine
end

