-- ==== Sys2Proof/Machine/Tamper.lean ====
section
/-!
DEFINITION. The tamper log (spec/13_box_office.md R346, R347), which every chapter that logs an event uses.
-/

namespace Sys2Proof.Machine

open Sys2Proof

/-- A tamper record (R347): form 1 a start or occurrence, 2 an end. -/
def tamperRecord (e form detail : Nat) (s : State) : State :=
  record 0x22
    [detail % 2 ^ 16 + form % 256 * 2 ^ 16 + e % 256 * 2 ^ 24 + s.reg (P.boxTmpDur e) % 2 ^ 64 * 2 ^ 32
       + s.reg (P.boxTmpCount e) * 2 ^ 96,
     s.reg (P.boxTmpFirst e) * 2 ^ 64] s

/-- An event that starts or occurs: counted, its times kept, its alarm bit set, its record written. -/
def tamperStart (e detail : Nat) (s : State) : State :=
  let first := s.reg (P.boxTmpCount e) == 0
  let s := (s.count (P.boxTmpCount e) 1).setReg (P.boxTmpLast e) s.now
  let s := if first then s.setReg (P.boxTmpFirst e) s.now else s
  let a := setBit (s.reg P.boxTamperAlarm) e true
  let s := if a = s.reg P.boxTamperAlarm then s else setJournalled P.boxTamperAlarm a s
  tamperRecord e 1 detail s

/-- A lasting event that starts, and is noted as open. -/
def tamperOpen (e : Nat) (s : State) : State :=
  if s.box.tampOpen.any fun x => x.1 == e then s
  else tamperStart e 0 { s with box := { s.box with tampOpen := (e, s.mono) :: s.box.tampOpen } }

/-- A lasting event that ends: its duration in ms is added. -/
def tamperClose (e : Nat) (s : State) : State :=
  match s.box.tampOpen.find? fun x => x.1 == e with
  | none => s
  | some x =>
    let d := (s.mono - x.2) * 1000 / second
    let s := { s with box := { s.box with tampOpen := s.box.tampOpen.filter fun y => !(y.1 == e) } }
    tamperRecord e 2 0 (s.setReg (P.boxTmpDur e) (satAdd 64 (s.reg (P.boxTmpDur e)) d))

end Sys2Proof.Machine
end

