-- ==== Sys2Proof/Machine/Converters.lean ====
section
/-!
DEFINITION. The metering and process converters, their calibration and their self-check (spec/11_converters.md).
-/

namespace Sys2Proof.Machine

open Sys2Proof

/-! ### Calibration entries (R292, R296) -/

/-- The address of a channel's calibration entry. -/
def calAddr (code : Nat) : Nat := 0x02005000 + 16 * code
/-- A channel's entry in bank 0. -/
def calWord (s : State) (code : Nat) : Nat := s.word (calAddr code)
/-- The GAIN code of an entry. -/
def calGain (s : State) (code : Nat) : Nat := bits (calWord s code) 63 32
/-- The OFFSET code of an entry. -/
def calOffset (s : State) (code : Nat) : Nat := bits (calWord s code) 31 0
/-- The stage time of an entry. -/
def calTime (s : State) (code : Nat) : Nat := bits (calWord s code) 127 64
/-- GAIN as used: 1.0 while the channel is uncalibrated. -/
def gainUsed (s : State) (code : Nat) : Int := if calGain s code = 0 then 2 ^ 30 else toSigned 32 (calGain s code)
/-- OFFSET as used: 0 while the channel is uncalibrated. -/
def offsetUsed (s : State) (code : Nat) : Int := if calGain s code = 0 then 0 else toSigned 32 (calOffset s code)

/-- An entry word. -/
def entryWord (time gain offset : Nat) : Nat := offset % 2 ^ 32 + gain % 2 ^ 32 * 2 ^ 32 + time % 2 ^ 64 * 2 ^ 64

/-- An entry passed to the Stage manager on Callboard channel 8. -/
def passEntry (e : CalEntry) (s : State) : State :=
  relay 8 0x09 3 0 { s with cnv := { s.cnv with entries := s.cnv.entries ++ [e] } }

/-- The self-checks of channel codes aborted (R300). -/
def abortChecks (codes : List Nat) (s : State) : State :=
  { s with cnv := { s.cnv with aborted := s.cnv.aborted ++ codes.filter fun c => !(s.cnv.aborted.contains c) } }

/-- The next entry written by the Stage manager and acknowledged (R296): the coefficients apply and the remainder restarts. -/
def entryAck (s : State) : State :=
  match s.cnv.entries with
  | [] => s
  | e :: t =>
    let s := { s with cnv := { s.cnv with entries := t } }.setWord (calAddr e.code) e.word
    let s := if e.code < 12 then { s with nrg := { s.nrg with rho := setAt s.nrg.rho e.code 0 } } else s
    if e.commits then s.setReg P.tlyCalState (e.code * 256 + 5) else s

/-! ### Metering converters (R286 to R289) -/

/-- The middle of the crossing tracker (R289): a crossing at an absolute clock. -/
def trackCrossing (t : Nat) (s : State) : State :=
  match s.cnv.lastCross with
  | none => { s with cnv := { s.cnv with lastCross := some t } }
  | some l =>
    let d := (t + 2000 * 2 ^ 32 - l) % (2000 * 2 ^ 32)
    let n := s.cnv.crossings.length
    let sum := s.cnv.crossings.foldl (· + ·) 0
    let ok := decide (3076923 ≤ d ∧ d ≤ 4444444) && (n == 0 || decide (100 * (d * n - sum) ≤ 5 * sum ∧ 100 * (sum - d * n) ≤ 5 * sum))
    let s := { s with cnv := { s.cnv with lastCross := some t } }
    if ok then
      let c := (d :: s.cnv.crossings).take 8
      let s := { s with cnv := { s.cnv with crossings := c } }
      if c.length = 8 then
        (s.setReg P.irnMainsPeriod (c.foldl (· + ·) 0 / 8)).setReg P.irnMainsState 1
      else s
    else s

/-- The crossing's position in its interval, interpolated from the two counts to the nearest clock. -/
def crossPlace (c0 c1 : Int) : Nat :=
  if c1 - c0 = 0 then 0 else (min 1999 ((2 * (-c0) * 2000 + (c1 - c0)) / (2 * (c1 - c0)))).toNat

/-- The channels whose count is 1,950 or more in magnitude (R286). -/
def overMask (counts : List Int) : Nat :=
  (List.range 12).foldl (fun m i => if 1950 ≤ (counts.getD i 0).natAbs then setBit m i true else m) 0

/-- Whether the metering converters run: PD56 on with the Iron, and their clock good. -/
def meteringRuns (s : State) : Bool := s.pwr.ironOn && s.domOn 56 && !(bitOf (s.reg P.irnMcStatus) 24)

/-- The CHECK field of a frame (R287): the shadowed channel's bit, none while its self-check is aborted (R300). -/
def checkBits (s : State) : Nat := if s.cnv.aborted.contains s.cnv.shadow then 0 else 2 ^ s.cnv.shadow

/-- A metering interval ends with the counts of the twelve channels (R287): the frame goes to I09, or is lost (R288). -/
def intervalEnd (counts : List Int) (s : State) : State :=
  if meteringRuns s = false then s
  else
    let totals := (List.range 12).map fun i =>
      (((s.cnv.totals.getD i 0 : Int) + max (-2000) (min 2000 (counts.getD i 0))) % 16777216).toNat
    let c1 := counts.getD 4 0
    let cross := decide (s.cnv.prev4 ≤ 0 ∧ 0 < c1)
    let place := if cross then crossPlace s.cnv.prev4 c1 else 0
    let sq := s.cnv.seq
    let over' := overMask counts
    let s := (s.setReg P.irnMcSeq sq).setReg P.irnMcStatus (setBits (s.reg P.irnMcStatus) 11 0 over')
    let s := if cross then trackCrossing (sq * 2000 + place) s else s
    let f : McFrame :=
      { seq := sq, totals := totals, check := checkBits s, overBits := over', cross := cross, crossAt := place,
        arrived := s.now }
    let s := { s with cnv := { s.cnv with totals := totals, prev4 := c1, seq := (sq + 1) % 2 ^ 32 } }
    if s.present 22 ∧ s.present 9 then { s with cnv := { s.cnv with frames := s.cnv.frames ++ [f] } }
    else s.count P.irnMcFramesLost 1

/-- No valid crossing for three periods (R289). -/
def mainsLost (s : State) : State :=
  if s.reg P.irnMainsState = 1 then { s with cnv := { s.cnv with crossings := [], lastCross := none } }.setReg P.irnMainsState 2 else s

/-! ### Process converters (R290 to R294) -/

/-- The length of the next process window, and whether the tracked period is only held. -/
def nextWindow (s : State) : Nat × Bool :=
  let src := s.reg P.tlyPcPeriodSrc
  if src = 1 then (4000000, false)
  else if src = 2 then (if s.cnv.third = 2 then 3333334 else 3333333, false)
  else if src = 3 then (s.reg P.tlyPcPeriod, false)
  else if s.reg P.irnMainsState = 0 then (s.reg P.tlyPcPeriod, false)
  else (s.reg P.irnMainsPeriod, s.reg P.irnMainsState == 2)

/-- The next process window starts, its length fixed. -/
def startWindow (s : State) : State :=
  let nx := nextWindow s
  { s with cnv := { s.cnv with
    clocks := nx.1, fallback := nx.2, third := if s.reg P.tlyPcPeriodSrc = 2 then (s.cnv.third + 1) % 3 else 0 } }

/-- A result packet that I09 does not take (R301): an ABORTED of the Iron bridge, at an address that the manual does not give. -/
def resultAborted (s : State) : State :=
  let f := s.drawBits 40
  fabFault 0x1F 9 stAborted f.1 f.2

/-- A process window ends with the counts of the sixteen channels; the next one is fixed. -/
def processWindowEnd (counts : List Int) (s : State) : State :=
  if s.pwr.ironOn = false ∨ s.domOn 57 = false ∨ bitOf (s.reg P.irnMcStatus) 24 then s
  else
    let p : PcPacket :=
      { window := s.cnv.window, clocks := s.cnv.clocks, counts := counts, fallback := s.cnv.fallback
        settling := s.cnv.settling.map fun k => decide (0 < k), ended := s.now }
    let s := startWindow { s with cnv :=
      { s.cnv with window := s.cnv.window + 1, settling := s.cnv.settling.map fun k => k - 1 } }
    if s.present 22 = false then s
    else if s.present 9 then { s with cnv := { s.cnv with packets := s.cnv.packets ++ [p] } }
    else resultAborted s

/-- FS_phys of a process mode (R284). -/
def pcFs (mode : Nat) : Int := if mode = 1 then 25000 else if mode = 2 then 12500000 else 5000000

/-- The physical value of a process reading as a fraction (R292): numerator and denominator. -/
def pcPhys (s : State) (n mode : Nat) (count : Int) (clocks : Nat) : Int × Int :=
  (pcFs mode * gainUsed s (0x10 + n) * (count * 2 ^ 31 - clocks * offsetUsed s (0x10 + n)), 2 ^ 61 * (clocks : Int))

/-- A fraction with a positive or negative denominator rounded to nearest. -/
def roundDiv (a b : Int) : Int :=
  if b = 0 then 0 else if 0 < b then (2 * a + b) / (2 * b) else (2 * (-a) + (-b)) / (2 * (-b))

/-- Limited to the I32 range. -/
def limit32 (i : Int) : Int := max (-2147483648) (min 2147483647 i)

/-- R(T) of a Pt1000 at t m°C in mΩ × 10^21 (R293). -/
def ptOhm (t : Int) : Int :=
  10 ^ 27 + 3908300000000000000000 * t - 577500000000000 * t * t - (if t < 0 then 4183 * (t - 100000) * t * t * t else 0)

/-- The highest temperature in m°C whose resistance does not exceed a fraction of mΩ, by halving an interval. -/
def ptSolve (num den : Int) : Nat → Int → Int → Int
  | 0, lo, _ => lo
  | k + 1, lo, hi =>
    let mid := (lo + hi) / 2
    if ptOhm mid * den ≤ num * 10 ^ 21 then ptSolve num den k mid hi else ptSolve num den k lo mid

/-- The temperature in m°C of a Pt1000 reading. -/
def ptTemp (num den : Int) : Int := ptSolve num den 22 (-273150) 2000000

/-- Whether a fraction lies below a value. -/
def below (x : Int × Int) (v : Int) : Bool := decide (x.1 < v * x.2)
/-- Whether a fraction lies above a value. -/
def above (x : Int × Int) (v : Int) : Bool := decide (v * x.2 < x.1)

/-- OPEN, SHORT, UNDER and OVER as bits 3 to 0 (R294, R303). -/
def rangeFlags (mode : Nat) (x : Int × Int) (t : Int) : Nat :=
  if mode = 1 then
    8 * ofBool (below x 500) + 2 * ofBool (!(below x 500) && below x 3600) + ofBool (above x 21000)
  else if mode = 2 then 2 * ofBool (below x (-100000)) + ofBool (above x 10500000)
  else
    8 * ofBool (above x 4500000) + 4 * ofBool (below x 50000) + 2 * ofBool (decide (t < -200000)) + ofBool (decide (850000 < t))

/-- VALUE of a process channel (R293). -/
def pcValue (s : State) (n mode : Nat) (x : Int × Int) (t : Int) : Int :=
  if mode = 3 then limit32 t
  else
    let inLo := s.regI (P.tlyPcInLo n)
    let inHi := s.regI (P.tlyPcInHi n)
    let lo := s.regI (P.tlyPcEngLo n)
    let hi := s.regI (P.tlyPcEngHi n)
    limit32 (roundDiv (lo * (inHi - inLo) * x.2 + (x.1 - inLo * x.2) * (hi - lo)) ((inHi - inLo) * x.2))

/-- One process channel updated from a result packet (R291). -/
def updateChannel (p : PcPacket) (s : State) (n : Nat) : State :=
  let mode := s.reg (P.tlyPcMode n)
  if mode = 0 then s
  else
    let c := p.counts.getD n 0
    let x := pcPhys s n mode c p.clocks
    let t := if mode = 3 then ptTemp x.1 x.2 else 0
    let flags := rangeFlags mode x t + 16 * ofBool (calGain s (0x10 + n) == 0) + 32 * ofBool p.fallback
      + 64 * ofBool (p.settling.getD n false) + 128 * ofBool (s.cnv.pcFail.getD n false)
    (((s.setRegI (P.tlyPcRaw n) c).setRegI (P.tlyPcValue n) (pcValue s n mode x t)).setReg (P.tlyPcFlags n) flags).setReg
      (P.tlyPcTime n) p.ended

/-- The Tally updates every channel from the oldest result packet (R291). -/
def processResult (s : State) : State :=
  if s.present 9 = false then s
  else
    match s.cnv.packets with
    | [] => s
    | p :: t => (List.range 16).foldl (updateChannel p) { s with cnv := { s.cnv with packets := t } }

/-! ### System calibration (R295 to R297) -/

/-- Whether a channel code exists. -/
def calCodeOk (code : Nat) : Bool := decide (code < 12) || decide (16 ≤ code ∧ code < 32)

/-- Whether a calibration of a metering channel meets closed contactors (R297). -/
def calBusy (s : State) (code : Nat) : Bool :=
  if code ≤ 3 then pairClosed s 0 || pairClosed s 1 else if code ≤ 10 then pairClosed s 3 else false

/-- FS_phys of a channel code. -/
def calFs (s : State) (code : Nat) : Int :=
  if code < 12 then (s.reg (P.tlyMcFs code) : Int) else pcFs (s.reg (P.tlyPcMode (code - 16)))

/-- TLY_CAL_STATE set. -/
def setCal (code st : Nat) (s : State) : State := s.setReg P.tlyCalState (code % 256 * 256 + st)

/-- The family of a channel code, whose self-checks a calibration aborts (R300). -/
def calFamily (code : Nat) : List Nat := if code < 12 then List.range 12 else (List.range 16).map (· + 16)

/-- GAIN as a fraction: (HI - LO) over FS × (r_hi - r_lo), with r as counts over clocks. -/
def calGainFrac (s : State) (code : Nat) : Int × Int :=
  let l := s.cnv.calLow
  let h := s.cnv.calHigh
  let d := h.1 * l.2 - l.1 * h.2
  ((s.regI P.tlyCalHiRef - s.regI P.tlyCalLoRef) * (l.2 * h.2), calFs s code * d)

/-- The commit of a calibration (R295, step 3): the entry passed on, or refused. -/
def calCommit (code : Nat) (s : State) : State :=
  let l := s.cnv.calLow
  let h := s.cnv.calHigh
  let d := h.1 * l.2 - l.1 * h.2
  let g := calGainFrac s code
  let lo := s.regI P.tlyCalLoRef
  let span := s.regI P.tlyCalHiRef - lo
  let okSpan := decide (10 * d ≥ (l.2 * h.2 : Int)) && decide (0 < d) && decide (span ≠ 0)
  let okGain := decide (g.2 ≤ 2 * g.1 ∧ 2 * g.1 ≤ 3 * g.2)
  let oNum := l.1 * h.2 * span - lo * d
  let oDen := span * (l.2 * h.2)
  let okOff := decide (20 * oNum.natAbs ≤ oDen.natAbs)
  if okSpan && okGain && okOff then
    passEntry ⟨code, entryWord s.now (ofSigned 32 (roundDiv (g.1 * 2 ^ 30) g.2)) (ofSigned 32 (roundDiv (oNum * 2 ^ 31) oDen)), true⟩ s
  else setCal code 6 s

/-- A write of TLY_CAL_CMD that passed the access check (R295, R297): result and state. -/
def actCalCmd (level v : Nat) (s : State) : Nat × State :=
  let op := bits v 7 0
  let code := bits v 15 8
  let st := bits (s.reg P.tlyCalState) 7 0
  let cur := bits (s.reg P.tlyCalState) 15 8
  if code < 12 ∧ level < 2 then (resAccess, s)
  else
    let s := if code < 12 then tamperStart 0xA 0 s else s
    if calCodeOk code = false ∨ op = 0 ∨ 4 < op then (resRange, s)
    else if op ≠ 4 ∧ calBusy s code then (resBusy, s)
    else
      let t := abortChecks (calFamily code) s
      if op = 1 then (if st = 0 ∨ st = 5 ∨ st = 6 then (resOk, setCal code 1 t) else (resRange, s))
      else if st = 0 ∨ st = 5 ∨ st = 6 ∨ ¬ (cur = code) then (resRange, s)
      else if op = 2 then (if st = 2 then (resOk, setCal code 3 t) else (resRange, s))
      else if op = 3 then (if st = 4 ∧ (s.cnv.entries.any fun e => e.commits) = false then (resOk, calCommit code t) else (resRange, s))
      else (resOk, t.setReg P.tlyCalState 0)

/-- The averaging of a calibration step ends with the summed count over its clocks. -/
def calAveraged (count : Int) (clocks : Nat) (s : State) : State :=
  let st := bits (s.reg P.tlyCalState) 7 0
  let code := bits (s.reg P.tlyCalState) 15 8
  if s.present 9 = false ∨ clocks = 0 then s
  else if st = 1 then setCal code 2 { s with cnv := { s.cnv with calLow := (count, clocks) } }
  else if st = 3 then setCal code 4 { s with cnv := { s.cnv with calHigh := (count, clocks) } }
  else s

/-- Whether a metering channel of a set is being calibrated (R297). -/
def calibrating (s : State) (set : Nat) : Bool :=
  let st := bits (s.reg P.tlyCalState) 7 0
  let code := bits (s.reg P.tlyCalState) 15 8
  decide (1 ≤ st ∧ st ≤ 4) &&
    (if set = 0 then decide (code ≤ 1) else if set = 1 then decide (2 ≤ code ∧ code ≤ 3) else decide (4 ≤ code ∧ code ≤ 10))

/-- A change of TLY_PCn_MODE (R294, R296). -/
def actPcMode (n v : Nat) (s : State) : Nat × State :=
  if s.reg (P.tlyPcMode n) = v then (resOk, s)
  else
    let s := abortChecks [0x10 + n] (s.setReg (P.tlyPcMode n) v)
    (resOk, passEntry ⟨0x10 + n, entryWord s.now 0 0, false⟩
      { s with cnv := { s.cnv with settling := setAt s.cnv.settling n 2 } })

/-- A write of TLY_MCm_FS (R296, R297). -/
def actMcFs (m v : Nat) (s : State) : Nat × State :=
  let s := abortChecks [m] (s.setReg (P.tlyMcFs m) v)
  (resOk, tamperStart 0xA 0 (passEntry ⟨m, entryWord s.now 0 0, false⟩ s))

/-! ### Self-check and clock loss (R298 to R301) -/

/-- A phase of the check converter judged: the two totals' difference and the reference's deviation in ppm (R298). -/
def meteringCheck (m : Nat) (diff ref : Int) (s : State) : State :=
  if 12 ≤ m ∨ meteringRuns s = false ∨ s.cnv.aborted.contains m then s
  else
    let bad := decide (500 < diff.natAbs ∨ 500 < ref.natAbs)
    let s := s.setReg P.irnMcStatus (setBit (s.reg P.irnMcStatus) (12 + m) bad)
    let s := if s.present 9 then s.setRegI (P.tlyMcCheckPpm m) diff else s;
    { s with cnv := { s.cnv with shadow := (m + 1) % 12 } }

/-- A process channel's two check windows judged in ppm; VALUE was held during them with CHECK flagged (R299). -/
def processCheck (n : Nat) (short ref : Int) (s : State) : State :=
  if 16 ≤ n ∨ s.reg (P.tlyPcMode n) = 0 ∨ s.domOn 57 = false ∨ s.cnv.aborted.contains (0x10 + n) then s
  else
    let s := if s.present 9 then s.setReg (P.tlyPcFlags n) (setBit (s.reg (P.tlyPcFlags n)) 7 true) else s;
    { s with cnv := { s.cnv with pcFail := setAt s.cnv.pcFail n (decide (100 < short.natAbs ∨ 500 < ref.natAbs)) } }

/-- The aborted self-checks run again (R300). -/
def checksAgain (s : State) : State := { s with cnv := { s.cnv with aborted := [] } }

/-- The converter clock stops (R301): bit 24, and the window in progress is discarded. -/
def converterClockLost (s : State) : State :=
  if s.pwr.ironOn then
    { s with cnv := { s.cnv with
        settling := List.replicate 16 2, lastCross := none, prev4 := 1
        lostAt := match s.cnv.lostAt with
          | none => some s.mono
          | some t => some t } }.setReg P.irnMcStatus (setBit (s.reg P.irnMcStatus) 24 true)
  else s

/-- The intervals, at least one, that the converter clock missed. -/
def missedIntervals (s : State) : Nat :=
  match s.cnv.lostAt with
  | none => 1
  | some t => max 1 ((s.mono - t) * 100000 / 16777216)

/-- The converter clock runs again: SEQ counts the intervals missed (R312), and a process window starts (R294). -/
def converterClockBack (s : State) : State :=
  if s.pwr.ironOn ∧ bitOf (s.reg P.irnMcStatus) 24 then
    startWindow ({ s with cnv := { s.cnv with seq := (s.cnv.seq + missedIntervals s) % 2 ^ 32, lostAt := none } }.setReg
      P.irnMcStatus (setBit (s.reg P.irnMcStatus) 24 false))
  else s

/-- The metering converters at the power-up of PD56 (R301). -/
def meteringStart (s : State) : State :=
  let s := { s with cnv := { s.cnv with
    seq := 0, totals := List.replicate 12 0, lastCross := none, crossings := [], prev4 := 1, lostAt := none, shadow := 0 } }
  (((s.setReg P.irnMcStatus (setBits (setBit (s.reg P.irnMcStatus) 24 false) 11 0 0)).setReg P.irnMcSeq 0).setReg
    P.irnMainsPeriod 0).setReg P.irnMainsState 0

/-- The process converters at the power-up of PD57 (R301). -/
def processStart (s : State) : State :=
  startWindow { s with cnv := { s.cnv with window := 0, third := 0, settling := List.replicate 16 2 } }

/-- The frames and results on their way when I09 stops (R301). -/
def framesLost (s : State) : State := { s with cnv := { s.cnv with frames := [], packets := [] } }

/-! ### The commands -/

/-- METERING_INTERVAL_END. -/
def execMeteringIntervalEnd (counts : List Int) (s : State) : Host.Outcome State Fault Refusal := .next (intervalEnd counts s)

/-- MAINS_LOST. -/
def execMainsLost (s : State) : Host.Outcome State Fault Refusal := .next (mainsLost s)

/-- PROCESS_WINDOW_END. -/
def execProcessWindowEnd (counts : List Int) (s : State) : Host.Outcome State Fault Refusal := .next (processWindowEnd counts s)

/-- PROCESS_RESULT_UPDATE. -/
def execProcessResultUpdate (s : State) : Host.Outcome State Fault Refusal := .next (processResult s)

/-- CAL_AVERAGING_COMPLETE. -/
def execCalAveragingComplete (count : Int) (clocks : Nat) (s : State) : Host.Outcome State Fault Refusal :=
  .next (calAveraged count clocks s)

/-- CAL_ENTRY_ACK. -/
def execCalEntryAck (s : State) : Host.Outcome State Fault Refusal := .next (entryAck s)

/-- METERING_SELF_CHECK_PHASE. -/
def execMeteringSelfCheckPhase (ch : Nat) (diffPpm refPpm : Int) (s : State) : Host.Outcome State Fault Refusal :=
  .next (meteringCheck ch diffPpm refPpm s)

/-- PROCESS_SELF_CHECK. -/
def execProcessSelfCheck (ch : Nat) (shortPpm refPpm : Int) (s : State) : Host.Outcome State Fault Refusal :=
  .next (processCheck ch shortPpm refPpm s)

/-- SELF_CHECK_RESCHEDULE. -/
def execSelfCheckReschedule (s : State) : Host.Outcome State Fault Refusal := .next (checksAgain s)

end Sys2Proof.Machine
end

