-- ==== Sys2Proof/Machine/Energy.lean ====
section
/-!
DEFINITION. The Tally (spec/12_energy.md): scaled values, energy registers, gaps, seams, supporting values, commits and their
restoration.
-/

namespace Sys2Proof.Machine

open Sys2Proof

/-! ### Scaled values and interval energy (R304, R305) -/

/-- The coefficients of a channel: FS, GAIN and OFFSET as used. -/
def tallyCoefs (s : State) : List (Int × Int × Int) :=
  (List.range 12).map fun m => ((s.reg (P.tlyMcFs m) : Int), gainUsed s m, offsetUsed s m)

/-- D of R304. -/
def scaleD : Int := 2 ^ 30 * 10 ^ 7

/-- X + ρ of a channel. -/
def scaleX (c : Int × Int × Int) (count rho : Int) : Int := c.1 * c.2.1 * (count * 2 ^ 31 - 2000 * c.2.2) + rho

/-- The scaled value and the new remainder of a channel. -/
def scaled (c : Int × Int × Int) (count : Int) (rho : Nat) : Int × Nat :=
  let x := scaleX c count rho
  (x / scaleD, (x % scaleD).toNat)

/-- The interval energies of the three phases. -/
def phaseEnergies (v : List Int) : List Int := (List.range 3).map fun p => v.getD (4 + p) 0 * v.getD (7 + p) 0

/-- The interval energies of the three sets. -/
def setEnergies (v : List Int) : List Int :=
  [v.getD 0 0 * v.getD 1 0, v.getD 2 0 * v.getD 3 0, (phaseEnergies v).foldl (· + ·) 0]

/-- What an interval adds to TOTAL, IMPORT and EXPORT of a set (R307). -/
def setGains (mode : Nat) (q : Int) : List Int := [if mode = 1 then q.natAbs else q, max q 0, max (-q) 0]

/-- What an interval adds to IMPORT and EXPORT of a phase. -/
def phaseGains (q : Int) : List Int := [max q 0, max (-q) 0]

/-! ### Seams (R313 to R315) -/

/-- The clocks of interval `k` before a seam, limited to 0 to 2,000; none where the seam lies in a later interval. -/
def seamClock (anchor : Nat × Nat) (k ts : Nat) : Option Nat :=
  let c := ((ts : Int) - anchor.2) * 200000000 / 16777216 - 2000 * toSigned 32 (k + 2 ^ 32 - anchor.1)
  if 2000 ≤ c then none else some (max 0 c).toNat

/-- The shares of an interval: rate, from which clock and to which, oldest seam first; the rate after it and the seams left. -/
def seamShares (anchor : Nat × Nat) (k : Nat) : Nat → Nat → List Seam → List (Nat × Nat × Nat) × Nat × List Seam
  | rate, c0, [] => ([(rate, c0, 2000)], rate, [])
  | rate, c0, m :: t =>
    match seamClock anchor k m.at_ with
    | none => ([(rate, c0, 2000)], rate, m :: t)
    | some c =>
      let c1 := max c0 c
      let r := seamShares anchor k m.new c1 t
      ((m.old, c0, c1) :: r.1, r.2)

/-- The part of an energy between two clocks of its interval, so that the parts of all shares sum to it exactly. -/
def sharePart (q : Int) (a b : Nat) : Int := q * b / 2000 - q * a / 2000

/-- What the shares of an interval add to one rate register. -/
def rateGain (shares : List (Nat × Nat × Nat)) (r : Nat) (q : Int) : Int :=
  ((shares.filter fun e => e.1 == r).map fun e => sharePart q e.2.1 e.2.2).foldl (· + ·) 0

/-- A seam put into its place in stage-time order. -/
def insertSeam (m : Seam) : List Seam → List Seam
  | [] => [m]
  | h :: t => if m.at_ < h.at_ then m :: h :: t else h :: insertSeam m t

/-! ### One interval -/

/-- Two lists added place by place; the first gives the length. -/
def addLists (a b : List Int) : List Int := (List.range a.length).map fun i => a.getD i 0 + b.getD i 0

/-- The registers after an interval with these energies (R307, R314). -/
def NrgState.gain (n : NrgState) (modes : List Nat) (k : Nat) (v : List Int) : NrgState :=
  let sh := seamShares n.anchor k n.rate 0 n.seams
  let sg := (List.range 3).flatMap fun x => setGains (modes.getD x 0) ((setEnergies v).getD x 0)
  let pg := (phaseEnergies v).flatMap phaseGains;
  { n with
      sets := addLists n.sets sg, phases := addLists n.phases pg
      rates := (List.range 72).map fun i => n.rates.getD i 0 + rateGain sh.1 (i / 3 % 8) (sg.getD (i / 24 * 3 + i % 3) 0)
      phRates := (List.range 48).map fun i => n.phRates.getD i 0 + rateGain sh.1 (i / 2 % 8) (pg.getD (i / 16 * 2 + i % 2) 0)
      rate := sh.2.1, seams := sh.2.2 }

/-- The sums that the supporting values need (R310). -/
def NrgState.support (n : NrgState) (v : List Int) : NrgState :=
  { n with
      sums := addLists n.sums v, sumN := n.sumN + 1
      squares := (List.range 7).map fun i => n.squares.getD i 0 + (v.getD (4 + i) 0).natAbs ^ 2
      squareN := n.squareN + 1 }

/-- Interval `k` with its twelve counts. -/
def NrgState.interval (coefs : List (Int × Int × Int)) (modes : List Nat) (k : Nat) (counts : List Int) (n : NrgState) :
    NrgState :=
  let sc := (List.range 12).map fun i => scaled (coefs.getD i (0, 0, 0)) (counts.getD i 0) (n.rho.getD i 0)
  let v := sc.map Prod.fst
  ({ n with rho := sc.map Prod.snd }.gain modes k v).support v

/-- The counts of the `i`th of `g` intervals over which summed counts are spread (R311). -/
def spreadCounts (sums : List Int) (g i : Nat) : List Int :=
  sums.map fun c => c / g + (if (i : Int) < c % g then 1 else 0)

/-- The `g` intervals from `first` on, the next of them the `i`th. -/
def NrgState.intervals (coefs : List (Int × Int × Int)) (modes : List Nat) (sums : List Int) (g first : Nat) :
    Nat → Nat → NrgState → NrgState
  | 0, _, n => n
  | k + 1, i, n =>
    NrgState.intervals coefs modes sums g first k (i + 1)
      (n.interval coefs modes ((first + i) % 2 ^ 32) (spreadCounts sums g i))

/-! ### Restoration (R318) -/

/-- A register in 2^-64 nJ from its integer word and its residue. -/
def energyOf (signed : Bool) (word res : Nat) : Int :=
  (if signed then toSigned 128 word else (word % 2 ^ 128 : Nat)) * 2 ^ 64 + (res % 2 ^ 64 : Nat)

/-- TOTAL, IMPORT and EXPORT of five words (R316). -/
def fiveOf (w : List Nat) : List Int :=
  [energyOf true (w.getD 0 0) (bits (w.getD 3 0) 127 64), energyOf false (w.getD 1 0) (bits (w.getD 3 0) 63 0),
   energyOf false (w.getD 2 0) (bits (w.getD 4 0) 127 64)]

/-- IMPORT and EXPORT of three words. -/
def threeOf (w : List Nat) : List Int :=
  [energyOf false (w.getD 0 0) (bits (w.getD 2 0) 127 64), energyOf false (w.getD 1 0) (bits (w.getD 2 0) 63 0)]

/-- The registers of a pair of an energy record and a rate record. -/
def NrgState.ofPair (energy rate : List Nat) (n : NrgState) : NrgState :=
  { n with
      sets := (List.range 3).flatMap fun x => fiveOf (energy.drop (1 + 5 * x))
      phases := (List.range 3).flatMap fun p => threeOf (energy.drop (16 + 3 * p))
      rates := (List.range 24).flatMap fun i => fiveOf (rate.drop (3 + 5 * i))
      phRates := (List.range 24).flatMap fun i => threeOf (rate.drop (123 + 3 * i)) }

/-- The words kept of the newest pair, empty where there is none. -/
def keptPairWords (s : State) : List Nat :=
  match persistGet s.jnl.persist keptPair with
  | none => []
  | some e => toWords (toBytes (16 * 221) e.2)

/-- The rate in force: BOX_RATE_NOW follows a seam at its t_s (R329). -/
def rateNow (s : State) : Nat :=
  match s.box.rateNext with
  | some (t, r) => if t ≤ s.now then r else s.reg P.boxRateNow
  | none => s.reg P.boxRateNow

/-- The Tally restored at the start of I09 (R318), with the rate in force as its first seam (R329). -/
def tallyRestore (s : State) : State :=
  let w := keptPairWords s
  let n0 : NrgState := { NrgState.reset with ready := true, rate := rateNow s }
  let n := if w = [] then n0 else n0.ofPair ((w.drop 1).take 25) (w.drop 26)
  let lost := decide (w ≠ []) && !(bitOf (w.getD 1 0) 80)
  let n := { n with
    bases := n.sets, phBases := n.phases, flags := if lost then 2 else 0
    seams := [⟨s.now, rateNow s, rateNow s⟩] }
  let s := relay 9 0x0C 3 0 { s with nrg := n }
  if lost then countJournalled P.tlyLosses s else s

/-- The Tally restored where it has not been since its start. -/
def ensureTally (s : State) : State := if s.nrg.ready then s else tallyRestore s

/-! ### Frames (R288, R311, R312) -/

/-- The energy registers changed by a function of them. -/
def State.setNrg (s : State) (n : NrgState) : State := { s with nrg := n }

/-- The modes in force. -/
def tallyModes (s : State) : List Nat := (List.range 3).map fun x => s.reg (P.tlyOutMode x)

/-- The channels of a set (R305). -/
def setChannels (x : Nat) : List Nat := if x = 0 then [0, 1] else if x = 1 then [2, 3] else [4, 5, 6, 7, 8, 9]

/-- The supporting sums begun again after a restart of the accounting. -/
def NrgState.rebase (n : NrgState) : NrgState :=
  { n with
      sums := List.replicate 4 0, sumN := 0, bases := n.sets, squares := List.replicate 7 0, squareN := 0,
      phBases := n.phases }

/-- The stage time of a clock of interval `k` (R313). -/
def clockTime (anchor : Nat × Nat) (k clock : Nat) : Nat :=
  ((anchor.2 : Int) + (2000 * toSigned 32 (k + 2 ^ 32 - anchor.1) + clock) * 16777216 / 200000000).toNat

/-- A frame becomes the last one processed; the first frame after the start also sets the anchor. -/
def adoptFrame (f : McFrame) (s : State) : State :=
  let n := s.nrg
  let here := ((f.seq + 1) % 2 ^ 32, f.arrived)
  let over' := (List.range 3).map fun x =>
    if (setChannels x).any fun m => bitOf f.overBits m then some s.mono else n.overAt.getD x none
  let s := (s.setNrg { n with
    last := some (f.seq, f.totals), arrival := here, anchor := if n.last.isNone then here else n.anchor,
    overAt := over' }).setReg P.tlySeq f.seq
  if f.cross then s.setReg P.tlyMainsCross (clockTime s.nrg.anchor f.seq f.crossAt) else s

/-- The intervals that a frame closes: one, or a gap recovered (R311), or a gap too long (R312). -/
def frameGap (f : McFrame) (g : Nat) (old : List Nat) (s : State) : State :=
  let sums := (List.range 12).map fun i => toSigned 24 (f.totals.getD i 0 + 2 ^ 24 - old.getD i 0)
  if g = 0 then s
  else if 4194 < g then
    let s := s.setNrg { s.nrg.rebase with longAt := some s.mono, flags := s.nrg.flags ||| 0x10 }
    selfCommit false [P.tlyGapIntervals] (s.count P.tlyGapIntervals (g - 1))
  else
    let s := s.setNrg (NrgState.intervals (tallyCoefs s) (tallyModes s) sums g (f.seq + 2 ^ 32 + 1 - g) g 0 s.nrg)
    if 2 ≤ g then
      countJournalled P.tlyGapsRecovered (s.setNrg { s.nrg with gapAt := some s.mono, flags := s.nrg.flags ||| 0x08 })
    else s

/-- The oldest metering frame processed. -/
def frameReceive (s : State) : State :=
  if s.present 9 = false then s
  else
    let s := ensureTally s
    match s.cnv.frames with
    | [] => s
    | f :: t =>
      let s := { s with cnv := { s.cnv with frames := t } }
      match s.nrg.last with
      | none => adoptFrame f s
      | some l => adoptFrame f (frameGap f ((f.seq + 2 ^ 32 - l.1) % 2 ^ 32) l.2 s)

/-! ### Supporting values (R310) -/

/-- A mean scaled value in µV or µA, truncated towards zero. -/
def meanMicro (sum : Int) (n : Nat) : Int := (sum * 10000).tdiv (n * 2 ^ 32)

/-- The power in µW of an energy change over `n` intervals. -/
def powerOf (d : Int) (n : Nat) : Int := (d * 100).tdiv (n * 2 ^ 64)

/-- The energy change that gives a set's power. -/
def powerChange (s : State) (x : Nat) : Int :=
  let d (i : Nat) : Int := s.nrg.sets.getD (3 * x + i) 0 - s.nrg.bases.getD (3 * x + i) 0
  if s.reg (P.tlyOutMode x) = 1 then d 1 - d 2 else d 0

/-- Voltage and current of one DC set. -/
def supportSet (s : State) (x : Nat) : State :=
  let v := meanMicro (s.nrg.sums.getD (2 * x) 0) s.nrg.sumN
  let i := meanMicro (s.nrg.sums.getD (2 * x + 1) 0) s.nrg.sumN
  let sat := !(limit32 v == v) || !(limit32 i == i)
  ((s.setNrg { s.nrg with sat := setAt s.nrg.sat x sat }).setRegI (P.tlyOutV x) (limit32 v)).setRegI (P.tlyOutI x) (limit32 i)

/-- The millisecond update. -/
def supportingUpdate (s : State) : State :=
  if s.present 9 = false ∨ s.nrg.sumN = 0 then s
  else
    let s := [0, 1].foldl supportSet s
    let s := [0, 1, 2].foldl (fun s x => s.setRegI (P.tlyOutP x) (powerOf (powerChange s x) s.nrg.sumN)) s
    s.setNrg { s.nrg with sums := List.replicate 4 0, sumN := 0, bases := s.nrg.sets }

/-- The RMS of summed squares in µV or µA. -/
def rmsMicro (sq n : Nat) : Nat := Nat.sqrt (sq * 10 ^ 8 / (n * 2 ^ 64))

/-- One phase's RMS values and power. -/
def phaseSet (s : State) (p : Nat) : State :=
  let v : Int := rmsMicro (s.nrg.squares.getD p 0) s.nrg.squareN
  let i : Int := rmsMicro (s.nrg.squares.getD (3 + p) 0) s.nrg.squareN
  let d (k : Nat) : Int := s.nrg.phases.getD (2 * p + k) 0 - s.nrg.phBases.getD (2 * p + k) 0
  let sat := s.nrg.sat.getD 2 false || !(limit32 v == v) || !(limit32 i == i)
  (((s.setNrg { s.nrg with sat := setAt s.nrg.sat 2 sat }).setRegI (P.tlyPhVRms p) (limit32 v)).setRegI
    (P.tlyPhIRms p) (limit32 i)).setRegI (P.tlyPhP p) (powerOf (d 0 - d 1) s.nrg.squareN)

/-- The update at a tracked crossing, or every 20 ms while the mains is not tracked. -/
def phaseUpdate (s : State) : State :=
  if s.present 9 = false ∨ s.nrg.squareN = 0 then s
  else
    let s := [0, 1, 2].foldl phaseSet (s.setNrg { s.nrg with sat := setAt s.nrg.sat 2 false })
    let s := s.setRegI P.tlyInRms (limit32 (rmsMicro (s.nrg.squares.getD 6 0) s.nrg.squareN))
    let s := if s.reg P.irnMainsState = 1 then s.setReg P.tlyFreq (200000000000 / s.reg P.irnMainsPeriod) else s
    s.setNrg { s.nrg with squares := List.replicate 7 0, squareN := 0, phBases := s.nrg.phases }

/-- TLY_OUTx_FLAGS (R324). -/
def tallyFlags (s : State) (x : Nat) : Nat :=
  let recent (t : Option Nat) : Bool := match t with
    | none => false
    | some a => decide (s.mono < a + second)
  ofBool (s.nrg.sat.getD x false) + 2 * ofBool ((setChannels x).any fun m => calGain s m == 0)
    + 4 * ofBool (recent (s.nrg.overAt.getD x none)) + 8 * ofBool (recent s.nrg.gapAt) + 16 * ofBool (recent s.nrg.longAt)
    + 32 * ofBool ((setChannels x).any fun m => bitOf (s.reg P.irnMcStatus) (12 + m))

/-! ### The registers as objects (R306) -/

/-- The integer part of a register. -/
def nanoJoule (e : Int) : Int := e / 2 ^ 64
/-- The residue of a register. -/
def residue (e : Int) : Nat := (e % 2 ^ 64).toNat

/-- TOTAL, TOTAL_RES, IMPORT, EXPORT and IE_RES by item. -/
def fiveItem (l : List Int) (i : Nat) : Nat :=
  let t := l.getD 0 0
  let m := l.getD 1 0
  let e := l.getD 2 0
  if i = 0 then ofSigned 128 (nanoJoule t)
  else if i = 1 then residue t
  else if i = 2 then ofSigned 128 (nanoJoule m)
  else if i = 3 then ofSigned 128 (nanoJoule e)
  else residue e + residue m * 2 ^ 64

/-- IMPORT, EXPORT and IE_RES by item. -/
def threeItem (l : List Int) (i : Nat) : Nat :=
  let m := l.getD 0 0
  let e := l.getD 1 0
  if i = 0 then ofSigned 128 (nanoJoule m) else if i = 1 then ofSigned 128 (nanoJoule e) else residue e + residue m * 2 ^ 64

/-- The objects that show energy registers and flags: the value of a PID where it is one of them. -/
def tallyView (s : State) (p : Nat) : Option Nat :=
  let g := p / 256
  let i := p % 256
  if 0x6050 ≤ g ∧ g ≤ 0x6052 ∧ 1 ≤ i ∧ i ≤ 5 then some (fiveItem (s.nrg.sets.drop (3 * (g - 0x6050))) (i - 1))
  else if 0x6050 ≤ g ∧ g ≤ 0x6052 ∧ i = 9 then some (tallyFlags s (g - 0x6050))
  else if 0x6060 ≤ g ∧ g ≤ 0x6062 ∧ 3 ≤ i ∧ i ≤ 5 then some (threeItem (s.nrg.phases.drop (2 * (g - 0x6060))) (i - 3))
  else if 0x7200 ≤ g ∧ g < 0x7230 ∧ g % 16 < 8 ∧ i ≤ 4 then
    some (fiveItem (s.nrg.rates.drop (3 * (8 * ((g - 0x7200) / 16) + g % 16))) i)
  else if 0x7230 ≤ g ∧ g < 0x7260 ∧ g % 16 < 8 ∧ i ≤ 2 then
    some (threeItem (s.nrg.phRates.drop (2 * (8 * ((g - 0x7230) / 16) + g % 16))) i)
  else none

/-! ### Commits (R316, R317) -/

/-- Five words of a set. -/
def fiveWords (l : List Int) (mode : Nat) : List Nat :=
  [fiveItem l 0, fiveItem l 2, fiveItem l 3, residue (l.getD 1 0) + residue (l.getD 0 0) * 2 ^ 64,
   mode % 256 + residue (l.getD 2 0) * 2 ^ 64]

/-- Three words of a phase. -/
def threeWords (l : List Int) : List Nat := [threeItem l 0, threeItem l 1, threeItem l 2]

/-- The payload of an energy record. -/
def energyPayload (s : State) (flags : Nat) : List Nat :=
  [s.reg P.tlySeq * 2 ^ 96 + flags % 2 ^ 16 * 2 ^ 80]
    ++ ((List.range 3).flatMap fun x => fiveWords (s.nrg.sets.drop (3 * x)) (s.reg (P.tlyOutMode x)))
    ++ ((List.range 3).flatMap fun p => threeWords (s.nrg.phases.drop (2 * p)))

/-- The payload of a rate record (R347). -/
def ratePayload (s : State) (flags : Nat) : List Nat :=
  [s.reg P.tlySeq * 2 ^ 96 + flags % 256 * 2 ^ 88 + 2,
   s.reg P.boxCredit * 2 ^ 64 + s.reg P.boxCostRem, s.reg P.boxSessionCost * 2 ^ 64 + s.reg P.boxEmergActive % 2]
    ++ ((List.range 24).flatMap fun i => fiveWords (s.nrg.rates.drop (3 * i)) 0)
    ++ ((List.range 24).flatMap fun i => threeWords (s.nrg.phRates.drop (2 * i)))

/-- The stage time of the boundary after the last processed interval (R313). -/
def boundaryTime (s : State) : Nat :=
  if s.nrg.last.isNone then s.now
  else
    let k := toSigned 32 (s.reg P.tlySeq + 1 + 2 ^ 32 - s.nrg.anchor.1);
    ((s.nrg.anchor.2 : Int) + k * 16777216 / 100000).toNat

/-- A record committed through the Stage manager on channel 8: answers whether it was. Its notice follows one that the channel still
holds. -/
def viaManager (j : JReq) (s : State) : Bool × State :=
  if s.managerRuns && s.cbdOn then
    let r := commit j s
    (r.1, if (r.2.chan 8).full then r.2 else relay 8 0x09 3 (if r.1 then 0 else 5) r.2)
  else (false, s)

/-- The energy record and its rate record for the present boundary, with more FLAGS; a refusal leaves the registers as they
are, and the next commit carries the flags not yet recorded. -/
def energyCommit (flags : Nat) (s : State) : State :=
  let f := flags ||| s.nrg.flags
  let t := boundaryTime s
  let r := viaManager ⟨0x20, t, energyPayload s f, false⟩ s
  if r.1 then
    let s := (r.2.setNrg { r.2.nrg with flags := 0 }).setReg P.tlyLastCommit t
    (viaManager ⟨0x21, t, ratePayload s f, false⟩ s).2
  else r.2

/-- A commit at the Tally's interval. -/
def tallyCommit (flags : Nat) (s : State) : State :=
  if s.present 9 = false then s else energyCommit flags (ensureTally s)

/-! ### Seams, anchor, modes -/

/-- A seam taken from channel 9 (R315). -/
def seamReceive (ts old new : Nat) (s : State) : State :=
  if s.present 9 = false then s
  else
    let s := ensureTally s
    let r := readNotice 9 0x09 s
    let s := deliverNotice 9 true r.2.2
    s.setNrg { s.nrg with seams := insertSeam ⟨ts, old % 8, new % 8⟩ s.nrg.seams }

/-- The anchor refreshed from the latest frame's arrival (R313). -/
def anchorRefresh (s : State) : State :=
  if s.present 9 = false ∨ s.nrg.last.isNone then s else s.setNrg { s.nrg with anchor := s.nrg.arrival }

/-- The anchor after stage time moved by a step: interval k keeps its moment. -/
def moveAnchor (d : Int) (s : State) : State :=
  let mv (a : Nat × Nat) : Nat × Nat := (a.1, ((a.2 : Int) + d).toNat)
  s.setNrg { s.nrg with anchor := mv s.nrg.anchor, arrival := mv s.nrg.arrival }

/-- Whether a session runs on a set. -/
def sessionOn (s : State) (x : Nat) : Bool :=
  sessionOpen s && (match s.box.session with
    | none => false
    | some e => e.set == x)

/-- An accepted write of TLY_OUTx_MODE (R323): the value, and where it changes the energy record at once. -/
def actOutMode (x v : Nat) (s : State) : Nat × State :=
  if sessionOn s x then (resBusy, s)
  else if s.reg (P.tlyOutMode x) = v then (resOk, s)
  else (resOk, tallyCommit 4 (s.setReg (P.tlyOutMode x) v))

/-! ### The commands -/

/-- METERING_FRAME_RECEIVE. -/
def execMeteringFrameReceive (s : State) : Host.Outcome State Fault Refusal := .next (frameReceive s)

/-- SUPPORTING_UPDATE. -/
def execSupportingUpdate (s : State) : Host.Outcome State Fault Refusal := .next (supportingUpdate s)

/-- PHASE_RMS_UPDATE. -/
def execPhaseRmsUpdate (s : State) : Host.Outcome State Fault Refusal := .next (phaseUpdate s)

/-- ANCHOR_REFRESH. -/
def execAnchorRefresh (s : State) : Host.Outcome State Fault Refusal := .next (anchorRefresh s)

/-- SEAM_RECEIVE. -/
def execSeamReceive (ts old new : Nat) (s : State) : Host.Outcome State Fault Refusal := .next (seamReceive ts old new s)

/-- ENERGY_COMMIT. -/
def execEnergyCommit (s : State) : Host.Outcome State Fault Refusal := .next (tallyCommit 0 s)

/-- TALLY_RESTORE. -/
def execTallyRestore (s : State) : Host.Outcome State Fault Refusal := .next (if s.present 9 then tallyRestore s else s)

end Sys2Proof.Machine
end

