-- ==== Sys2Proof/Machine/BoxOffice.lean ====
section
/-!
DEFINITION. The Box office (spec/13_box_office.md): calendar, cost, credit, demand, tokens, tamper inputs and restoration.
-/

namespace Sys2Proof.Machine

open Sys2Proof

/-! ### Civil time (R326) -/

/-- Civil seconds since 2000-01-01 of a stage time, before the season's offset. -/
def civilSeconds (s : State) (t : Nat) : Int := (t : Int) / 16777216 + s.regI P.boxCivilOffset

/-- Year, month and day of a number of days since 2000-01-01. -/
def civilDate (days : Int) : Int × Nat × Nat :=
  let z := days + 730425
  let era := z / 146097
  let doe := z % 146097
  let yoe := (doe - doe / 1460 + doe / 36524 - doe / 146096) / 365
  let doy := doe - (365 * yoe + yoe / 4 - yoe / 100)
  let mp := (5 * doy + 2) / 153
  let d := doy - (153 * mp + 2) / 5 + 1
  let m := if mp < 10 then mp + 3 else mp - 9
  (yoe + era * 400 + (if m ≤ 2 then 1 else 0), m.toNat, d.toNat)

/-- The weekday of a number of days since 2000-01-01, 0 Monday; that day was a Saturday. -/
def weekday (days : Int) : Nat := ((days + 5) % 7).toNat

/-! ### The calendar (R327) -/

/-- A date as a number that orders by month and day. -/
def monthDay (m d : Nat) : Nat := 32 * m + d

/-- The start of a season, none where it is unused. -/
def seasonStart (s : State) (n : Nat) : Option Nat :=
  let w := s.reg (P.boxSeason n)
  if bits w 31 28 = 0 then none else some (monthDay (bits w 31 28) (bits w 27 23))

/-- The season with the greatest start among those that satisfy a test, the lower number where two are equal. -/
def latestSeason (s : State) (ok : Nat → Bool) : Option Nat :=
  (List.range 4).foldl (fun best n =>
    match seasonStart s n with
    | none => best
    | some a =>
      if ok a then
        match best with
        | none => some n
        | some b => if (seasonStart s b).getD 0 < a then some n else best
      else best) none

/-- The season of a month and day: the latest start on or before it, else round the year end; season 0 where none is used. -/
def seasonOf (s : State) (md : Nat) : Nat :=
  match latestSeason s (fun a => decide (a ≤ md)) with
  | some n => n
  | none => (latestSeason s (fun _ => true)).getD 0

/-- The entries of BOX_SPECIAL. -/
def specials (s : State) : List Nat :=
  (List.range 64).map fun i => s.reg P.boxSpecial / 2 ^ (32 * i) % 2 ^ 32

/-- The day type of the special day with a year, month and day. -/
def specialType (s : State) (y : Nat) (m d : Nat) : Option Nat :=
  ((specials s).find? fun w =>
    bits w 31 16 == y && bits w 15 12 == m && bits w 11 7 == d && !(bits w 15 12 == 0)).map fun w => bits w 1 0

/-- The day type of a day. -/
def dayType (s : State) (days : Int) : Nat :=
  let c := civilDate days
  match (if 0 < c.1 then specialType s c.1.toNat c.2.1 c.2.2 else none) with
  | some t => t
  | none =>
    match specialType s 0 c.2.1 c.2.2 with
    | some t => t
    | none => bits (s.reg P.boxWeekMap) (2 * weekday days + 1) (2 * weekday days)

/-- The entries of a day profile (R328). -/
def dayPoints (w : Nat) : List Nat := (List.range 12).map fun i => w / 2 ^ (16 * i) % 2 ^ 16

/-- The rate of the last used point whose minute is not after `m`. -/
def profileRate (w m : Nat) : Nat :=
  (dayPoints w).foldl (fun r e => if bits e 12 0 ≠ 0x1FFF ∧ bits e 12 0 ≤ m then bits e 15 13 else r) 0

/-- The rate in force at a stage time (R327). -/
def rateAt (s : State) (t : Nat) : Nat :=
  let sec := civilSeconds s t
  let c := civilDate (sec / 86400)
  let n := seasonOf s (monthDay c.2.1 c.2.2)
  let sec := sec + 60 * toSigned 16 (s.reg (P.boxSeason n))
  profileRate (s.reg (P.boxDay n (dayType s (sec / 86400)))) (sec % 86400 / 60).toNat

/-- The next civil minute boundary after now, in stage time. -/
def nextMinute (s : State) : Nat :=
  let o := s.regI P.boxCivilOffset
  (((s.now : Int) + o * 16777216) / 1006632960 * 1006632960 + 1006632960 - o * 16777216).toNat

/-- BOX_RATE_NOW brought up to a seam whose time has come. -/
def settleRate (s : State) : State :=
  match s.box.rateNext with
  | some (t, r) => if t ≤ s.now then { s with box := { s.box with rateNext := none } }.setReg P.boxRateNow r else s
  | none => s

/-- BOX_NEXT_SEAM (R349). -/
def nextSeam (s : State) : Nat :=
  match s.box.rateNext with
  | some (t, _) => if t ≤ s.now then 0 else t
  | none => 0

/-- A seam posted by the Stage manager on channel 9. -/
def postSeam (s : State) : State :=
  let f := s.drawBits 16
  post 9 0x0C f.1 3 0 0 f.2

/-- The calendar evaluated for the next minute boundary or for the present moment (R329). -/
def calendarEvaluate (boundary : Bool) (s : State) : State :=
  if s.managerRuns = false then s
  else
    let s := settleRate s
    let t := if boundary then nextMinute s else s.now
    let r := rateAt s t
    if r = rateNow s then s
    else if boundary then postSeam { s with box := { s.box with rateNext := some (t, r) } }
    else postSeam (s.setReg P.boxRateNow r)

/-! ### Cost and credit (R330 to R334) -/

/-- The import of each rate of a set in nJ. -/
def rateImports (s : State) (x : Nat) : List Int :=
  (List.range 8).map fun r => nanoJoule (s.nrg.rates.getD (3 * (8 * x + r) + 1) 0)

/-- The units by which cost is divided. -/
def costUnit : Int := 3600000000000000

/-- Whether a session is prepaid (R333): authorised by token or stored credit. -/
def Session.prepaid (e : Session) : Bool := e.auth == 1 || e.auth == 2

/-- The credit floor (R332). -/
def creditFloor (s : State) : Int := if s.reg P.boxEmergActive = 1 then -(s.regI P.boxEmergAmount) else 0

/-- Cost accrued since the last accrual (R331). -/
def costAccrue (s : State) : State :=
  match s.box.session with
  | none => s
  | some e =>
    if s.present 9 = false ∨ s.present 12 = false then s
    else
      let now := rateImports s e.set
      let k := s.reg P.boxPriceSet
      let n : Int := ((List.range 8).map fun r =>
        (now.getD r 0 - e.base.getD r 0) * (s.reg (P.boxPrice k r) : Int)).foldl (· + ·) 0 + (s.reg P.boxCostRem : Int)
      let inc := n / costUnit
      let s := { s with box := { s.box with session := some { e with base := now } } }
      let s := (s.setReg P.boxCostRem (n % costUnit).toNat).setRegI P.boxSessionCost (s.regI P.boxSessionCost + inc)
      if e.prepaid then s.setRegI P.boxCredit (s.regI P.boxCredit - inc) else s

/-- Whether the credit of a prepaid session has reached the floor. -/
def floorReached (s : State) : Bool :=
  match s.box.session with
  | none => false
  | some e => e.prepaid && decide (s.regI P.boxCredit ≤ creditFloor s)

/-- The zero credit limit sent to the Warden on channel 11, once (R333). -/
def reportFloor (s : State) : State :=
  if floorReached s ∧ s.box.creditOut = false then
    relay 11 0x09 3 0 { s with box := { s.box with creditOut := true } }
  else s

/-- A write of BOX_EMERG_REQ or the emergency key (R334): the result and the state. -/
def actEmergReq (v : Nat) (s : State) : Nat × State :=
  if v = 0 then (resOk, s)
  else if 0 < s.regI P.boxEmergAmount ∧ s.reg P.boxEmergActive = 0 ∧ s.regI P.boxCredit ≤ s.regI P.boxEmergThreshold then
    (resOk, s.setReg P.boxEmergActive 1)
  else (resRange, s)

/-! ### Maximum demand (R335 to R337) -/

/-- The two words of a rate in a demand record (R347). -/
def demandWords (s : State) (r : Nat) : List Nat :=
  [r % 256 + s.reg (P.boxMdResets r) * 2 ^ 32 + s.reg (P.boxMd r) * 2 ^ 64,
   s.reg (P.boxMdTime r) + s.reg (P.boxMdCum r) * 2 ^ 64]

/-- A demand record for the rates concerned. -/
def demandRecord (rs : List Nat) (s : State) : State :=
  (viaManager ⟨0x23, s.now, rs.flatMap fun r => demandWords s r, false⟩ s).2

/-- The present window and the ones that share its sub-interval are not judged: a long gap or a setback (R336). -/
def spoilDemand (s : State) : State := { s with box := { s.box with demandBad := s.reg P.boxMdSubs } }

/-- No window holds a sub-interval that was lost, or one of another set or length (R336). -/
def demandAnew (s : State) : State := { s with box := { s.box with demand := [], demandBad := 0 } }

/-- Whether a long gap fell into the sub-interval that ends now. -/
def gapInSub (s : State) : Bool :=
  match s.nrg.longAt with
  | none => false
  | some t => decide ((s.mono - t) * s.reg P.boxMdSubs < s.reg P.boxMdMin * 60 * second)

/-- A sub-interval ends. -/
def demandEnd (s : State) : State :=
  if s.present 9 = false ∨ s.present 12 = false then s
  else
    let s := if gapInSub s then spoilDemand s else s
    let subs := s.reg P.boxMdSubs
    let span := s.reg P.boxMdMin * 60
    let now := nanoJoule (s.nrg.sets.getD (3 * s.reg P.boxMdSet + 1) 0)
    let bad := s.box.demandBad
    let base := s.box.demand[subs - 1]?
    let s := { s with box := { s.box with demand := (now :: s.box.demand).take 16, demandBad := bad - 1 } }
    match base with
    | none => s
    | some b =>
      let md := ((now - b) / ((span : Int) * 1000)).toNat
      let s := s.setReg P.boxMdLast md
      let r := rateNow s
      if bad = 0 ∧ s.reg (P.boxMd r) < md then demandRecord [r] ((s.setReg (P.boxMd r) md).setReg (P.boxMdTime r) s.now)
      else s

/-- One rate's maximum reset (R337). -/
def resetMd (s : State) (r : Nat) : State :=
  ((s.setReg (P.boxMdCum r) (s.reg (P.boxMdCum r) + s.reg (P.boxMd r))).setReg (P.boxMd r) 0).count (P.boxMdResets r) 1

/-- A write of BOX_MD_RESET. -/
def actMdReset (mask : Nat) (s : State) : Nat × State :=
  let rs := (List.range 8).filter fun r => bitOf mask r
  if rs = [] then (resOk, s) else (resOk, demandRecord rs (rs.foldl resetMd s))

/-! ### Tokens (R338 to R345) -/

/-- K_TE (k = 1) and K_TM (k = 2) of R339. -/
def tokenSubkey (s : State) (k : Nat) : Bytes := aesEncrypt (toBytes 16 s.box.tokenKey) (k :: List.replicate 15 0)

/-- The check digits of 19 digits. -/
def tokenCheck (s : State) (head : List Nat) : Nat :=
  ofBytesBE ((aesCmac (tokenSubkey s 2) (head.map fun d => 0x30 + d)).take 8) % 1000000

/-- The plaintext digits of a token. -/
def tokenPlain (s : State) (digits : List Nat) : List Nat := ff1Decrypt (tokenSubkey s 1) s.postId digits

/-- Whether the Box office works: I12 and the Tally that serves it. -/
def boxWorks (s : State) : Bool := s.present 12 && s.present 9

/-- The token in progress replaced. -/
def setToken (t : Option Token) (s : State) : State := { s with box := { s.box with token := t } }

/-- BOX_TOKEN_RESULT set (R349). -/
def tokenResult (res cls : Nat) (keypad : Bool) (s : State) : State :=
  s.setReg P.boxTokenResult (res * 2 ^ 16 + cls * 2 ^ 8 + (if keypad then 1 else 2))

/-- Whether a result is a token failure (R344). -/
def isTokenFailure (res : Nat) : Bool := decide (2 ≤ res ∧ res ≤ 6) || res == 0x0A

/-- A failure from the keypad counted, and the keypad locked after too many within 600 s (R344). -/
def keypadFailure (s : State) : State :=
  let s := countJournalled P.boxTokenFails s
  let l := s.mono :: s.box.failTimes.filter fun t => decide (s.mono < t + 600 * second)
  if s.reg P.boxTokenFailMax ≤ l.length then
    let s := { s with box := { s.box with failTimes := [] } }
    (tamperStart 5 0 (relay 8 0x09 3 0 s)).setReg P.boxTokenLockUntil (s.now + s.reg P.boxTokenLockS * second)
  else { s with box := { s.box with failTimes := l } }

/-- A token that ends with a result. -/
def tokenEnd (t : Token) (res cls : Nat) (s : State) : State :=
  let s := tokenResult res cls t.keypad (setToken none s)
  if t.keypad ∧ isTokenFailure res then keypadFailure s else s

/-- 25 digits entered (R338): a locked keypad gives 0x07 at once (R344). -/
def tokenStart (digits : List Nat) (keypad : Bool) (s : State) : State :=
  let t : Token := ⟨digits, keypad, false, false, 0, 0, 0, 0⟩
  if keypad ∧ s.now < s.reg P.boxTokenLockUntil then tokenResult 0x07 0xFF true s else setToken (some t) s

/-- A write of BOX_TOKEN_IN: 25 ASCII digits. -/
def actTokenIn (text : Bytes) (s : State) : Nat × State :=
  if text.length ≠ 25 ∨ (text.any fun b => decide (b < 0x30 ∨ 0x39 < b)) then (resType, s)
  else if s.box.token.isSome ∨ boxWorks s = false then (resBusy, s)
  else (resOk, tokenStart (text.map fun b => b - 0x30) false s)

/-- ENTER on the keypad: an entry of 25 digits is a token; any other entry is discarded. The keys wait while a token is in
progress. -/
def keypadEnter (s : State) : State :=
  if s.box.token.isSome then s
  else
    let d := s.box.entry
    let s := { s with box := { s.box with entry := [] } }
    if d.length = 25 ∧ boxWorks s then tokenStart d true s else s

/-- Whether part one of a key change is held (R340). -/
def heldPart (s : State) : Option Nat :=
  match s.box.partOne with
  | none => none
  | some (d, t) => if s.mono ≤ t + 600 * second then some d else none

/-- The judgement of a class's own conditions (R340): a result, 0 where they hold. -/
def classJudge (s : State) (cls value : Nat) : Nat :=
  if cls = 0 ∧ s.regI P.boxCreditMax < s.regI P.boxCredit + value * 100 then 0x09
  else if cls = 2 ∧ heldPart s = none then 0x0A
  else if cls = 4 ∧ 3 < value then 0x06
  else 0

/-- The serial window's judgement (R341): a result, 0 where the serial is accepted. -/
def serialJudge (s : State) (serial : Nat) : Nat :=
  let h := s.reg P.boxSerialHigh
  if h = 0xFFFFFFFF ∨ h < serial then 0
  else if serial = h then 0x04
  else if 1024 < h - serial then 0x05
  else if bitOf (s.reg P.boxSerialBitmap) (h - serial - 1) then 0x04
  else 0

/-- Whether a class has a serial window. -/
def windowed (cls : Nat) : Bool := cls == 0 || cls == 3 || cls == 4 || cls == 5

/-- The Stage manager takes the notice with a TAG that a channel holds, and acknowledges it with a code. -/
def answerTag (n tag code : Nat) (s : State) : State :=
  if (s.chan n).full ∧ noticeTag (s.chan n).notice = tag then
    let t := deliverNotice n true (readNotice n 0x0C s).2.2
    (ackNotice n 0x0C code t).2
  else s

/-- A Report or provisional notice to E1 on channel 10 while it is present (R343). -/
def postTen (tag kind length : Nat) (s : State) : State := if s.present 3 then post 10 0x09 tag kind length 0 s else s

/-- A provisional token refused (R342): cancelled on both channels, its result recorded. -/
def tokenCancel (t : Token) (res : Nat) (s : State) : State :=
  tokenEnd t res t.cls ((cancelNotice 0x09 t.tag [10, 8] s).setReg P.boxPending 0)

/-- The decoding of a token ends (R339, R341, R342). -/
def tokenDecode (s : State) : State :=
  match s.box.token with
  | none => s
  | some t =>
    if t.posted ∨ boxWorks s = false then s
    else
      let p := tokenPlain s t.digits
      let cls := p.getD 0 0
      let serial := ofDigits (slice p 1 8)
      let value := ofDigits (slice p 9 8)
      if tokenCheck s (p.take 19) ≠ ofDigits (p.drop 19) then tokenEnd t 0x02 0xFF s
      else if ofDigits (slice p 17 2) ≠ s.reg P.boxTokenRev then tokenEnd t 0x03 cls s
      else if 5 < cls then tokenEnd t 0x06 cls s
      else
        let f := s.drawBits 16
        let t : Token := { t with
          posted := true, cls := cls, serial := serial, tag := f.1
          value := if cls = 1 ∨ cls = 2 then ofDigits (slice p 1 16) else value }
        let s := answerTag 8 t.tag 1 (post 8 0x09 t.tag 5 48 0 (postTen t.tag 5 48 (setToken (some t) f.2)))
        let s := if cls = 0 then s.setReg P.boxPending (value * 100) else s
        let bad := classJudge s cls value
        let bad := if bad = 0 ∧ windowed cls then serialJudge s serial else bad
        if bad = 0 then post 8 0x09 t.tag 3 48 0 (setToken (some { t with reported := true }) s) else tokenCancel t bad s

/-- The credit that a token adds. -/
def Token.credit (t : Token) : Nat := if t.cls = 0 then t.value * 100 else 0

/-- The window after a token. -/
def tokenWindow (s : State) (t : Token) : Nat × Nat :=
  if windowed t.cls then windowAccept (s.reg P.boxSerialHigh) (s.reg P.boxSerialBitmap) t.serial
  else (s.reg P.boxSerialHigh, s.reg P.boxSerialBitmap)

/-- The payload of a token record (R347). -/
def tokenPayload (s : State) (t : Token) : List Nat :=
  [1 + s.reg P.boxTokenRev * 2 ^ 40 + t.cls * 2 ^ 56 + ofSigned 64 (s.regI P.boxCredit + t.credit) * 2 ^ 64,
   t.credit + t.serial * 2 ^ 64, t.tag * 2 ^ 48 + (tokenWindow s t).1 * 2 ^ 64]

/-- A new token key from both parts (R345). -/
def keyChange (d1 d2 : Nat) (s : State) : State :=
  let k := aesEncrypt (toBytes 16 s.box.changeKey) (toBytesBE 8 d1 ++ toBytesBE 8 d2)
  let rev := s.reg P.boxTokenRev
  let s := { s with box := { s.box with tokenKey := ofBytes k, partOne := none } }
  tamperStart 9 0 (setJournalled P.boxTokenRev (if rev = 99 then 1 else rev + 1) s)

/-- The effect of an accepted token of its class (R340). -/
def classEffect (t : Token) (s : State) : State :=
  if t.cls = 0 then
    let s := s.setRegI P.boxCredit (s.regI P.boxCredit + t.credit)
    let s := { s with box := { s.box with creditOut := false } }
    if 0 < s.regI P.boxCredit then s.setReg P.boxEmergActive 0 else s
  else if t.cls = 1 then { s with box := { s.box with partOne := some (t.value, s.mono) } }
  else if t.cls = 2 then
    match heldPart s with
    | some d => keyChange d t.value s
    | none => s
  else if t.cls = 3 then
    let a := s.reg P.boxTamperAlarm
    let b := a - (a &&& bits t.value 10 0)
    if b = a then s else setJournalled P.boxTamperAlarm b s
  else if t.cls = 4 then (if s.reg P.boxPriceSet = t.value then s else setJournalled P.boxPriceSet t.value s)
  else s

/-- The Stage manager commits the token record and acknowledges the Report, with 0x0005 where the journal refuses, and the class applies
(R342); `only` limits this to tokens of one class. -/
def tokenAck (only : Nat → Bool) (s : State) : State :=
  match s.box.token with
  | none => s
  | some t =>
    if t.reported = false ∨ boxWorks s = false ∨ s.managerRuns = false ∨ only t.cls = false then s
    else
      let r := commit ⟨0x21, s.now, tokenPayload s t, false⟩ s
      let s := answerTag 8 t.tag (if r.1 then 0 else 5) r.2
      if r.1 then
        let w := tokenWindow s t
        let s := classEffect t ((s.setReg P.boxSerialHigh w.1).setReg P.boxSerialBitmap w.2)
        let f := s.drawBits 16
        tokenEnd t 0 t.cls (postTen f.1 3 48 (f.2.setReg P.boxPending 0))
      else tokenCancel t 0x08 s

/-! ### Tamper inputs and reverse energy (R346) -/

/-- A tamper input after ten equal samples: cover, terminal cover, magnet. -/
def tamperInput (e : Nat) (high : Bool) (s : State) : State :=
  if s.managerRuns = false ∨ 2 < e then s
  else
    let starts := if e = 2 then !high else high
    if starts then tamperOpen e s else tamperClose e s

/-- Whether an import-only set runs in reverse. -/
def reverseRuns (s : State) (x : Nat) : Bool :=
  bitOf (s.reg P.boxImportOnly) x && decide (s.regI (P.tlyOutP x) < -(s.reg P.boxReverseW : Int))

/-- A set's reverse power has lasted, or been absent, for 10 s. -/
def reverseTimer (x : Nat) (s : State) : State :=
  if boxWorks s = false ∨ s.managerRuns = false ∨ 2 < x then s
  else if reverseRuns s x then
    (if s.box.tampOpen.any fun e => e.1 == 3 then s else tamperOpen 3 (relay 8 0x09 3 0 s))
  else if (List.range 3).any fun y => reverseRuns s y then s
  else if s.box.tampOpen.any fun e => e.1 == 3 then tamperClose 3 (relay 8 0x09 3 0 s)
  else s

/-- A setting of stage time that moved it back by `d` units (R346 event 0x4, R336). -/
def clockSetBack (d : Nat) (s : State) : State :=
  let s := spoilDemand s
  if 5 * second < d then tamperStart 4 (min 65535 (d / second)) s else s

/-- Stage time set (R6): the anchor moves with it, a setback is logged, and the calendar is evaluated again. -/
def setStageTime (time : Nat) (s : State) : State :=
  let t := wrapTime time
  let was := s.now
  let s := moveAnchor ((t : Int) - was) { s with now := t }
  calendarEvaluate false (if t < was then clockSetBack (was - t) s else s)

/-! ### Restoration (R348) -/

/-- The objects of I12 that billing records restore. -/
def billingPids : List Nat :=
  [P.boxCredit, P.boxCostRem, P.boxEmergActive, P.boxSerialHigh, P.boxSerialBitmap]
    ++ (List.range 8).flatMap fun r => [P.boxMd r, P.boxMdTime r, P.boxMdCum r, P.boxMdResets r]

/-- What I12 holds only while it runs. -/
def boxForget (s : State) : State :=
  { s with box := { s.box with
    entry := [], token := none, partOne := none, failTimes := [], demand := [], demandBad := 0, creditOut := false } }

/-- The Box office at the start of I12. -/
def boxRestore (s : State) : State :=
  (boxForget s).setRegs (billingPids.map fun p => (p, persistVal s.jnl.persist p (dfltOf p)))

/-- The report when I03 becomes present (R343). -/
def tenReport (s : State) : State :=
  if boxWorks s then
    let f := s.drawBits 16
    postTen f.1 3 0 f.2
  else s

/-! ### Session latches (R319, R347) -/

/-- The payload of a session record. -/
def sessionPayload (s : State) (e : Session) (imp exp : Int) : List Nat :=
  [e.number % 2 ^ 32 + s.reg P.wdnSesProto * 2 ^ 32 + e.auth % 256 * 2 ^ 40 + e.set % 256 * 2 ^ 48
     + s.reg P.wdnSesEnd * 2 ^ 56 + e.start % 2 ^ 64 * 2 ^ 64,
   ofSigned 128 (nanoJoule (imp - e.imp)), ofSigned 128 (nanoJoule (exp - e.exp)),
   s.reg P.boxCredit + s.reg P.boxSessionCost * 2 ^ 64, e.ident % 2 ^ 128]

/-- The outlet's registers latched at the start of a session, or at its end with the session record, and reported on channel
7. -/
def sessionLatch (set : Nat) (start : Bool) (s : State) : State :=
  if s.present 9 = false ∨ 2 < set then s
  else
    let s := relay 7 0x09 3 0 (ensureTally s)
    let imp := s.nrg.sets.getD (3 * set + 1) 0
    let exp := s.nrg.sets.getD (3 * set + 2) 0
    match s.box.session with
    | none => s
    | some e =>
      if ¬ (e.set = set) then s
      else if start then
        { s with box := { s.box with session := some { e with imp := imp, exp := exp, base := rateImports s set } } }
      else
        let s := costAccrue s
        let r := viaManager ⟨0x24, s.now, sessionPayload s e imp exp, false⟩ s;
        { r.2 with box := { r.2.box with session := none, creditOut := false } }

/-! ### The commands -/

/-- CALENDAR_EVALUATE. -/
def execCalendarEvaluate (boundary : Bool) (s : State) : Host.Outcome State Fault Refusal := .next (calendarEvaluate boundary s)

/-- DEMAND_SUB_INTERVAL_END. -/
def execDemandSubIntervalEnd (s : State) : Host.Outcome State Fault Refusal := .next (demandEnd s)

/-- TOKEN_ENTRY_TIMEOUT. -/
def execTokenEntryTimeout (s : State) : Host.Outcome State Fault Refusal :=
  .next { s with box := { s.box with entry := [] } }

/-- TOKEN_DECODE_COMPLETE. -/
def execTokenDecodeComplete (s : State) : Host.Outcome State Fault Refusal := .next (tokenDecode s)

/-- TOKEN_RECORD_ACK. -/
def execTokenRecordAck (s : State) : Host.Outcome State Fault Refusal := .next (tokenAck (fun _ => true) s)

/-- CREDIT_TOKEN. -/
def execCreditToken (s : State) : Host.Outcome State Fault Refusal := .next (tokenAck (fun c => c == 0) s)

/-- KEY_CHANGE_PART_ONE. -/
def execKeyChangePartOne (s : State) : Host.Outcome State Fault Refusal := .next (tokenAck (fun c => c == 1) s)

/-- KEY_CHANGE_PART_TWO. -/
def execKeyChangePartTwo (s : State) : Host.Outcome State Fault Refusal := .next (tokenAck (fun c => c == 2) s)

/-- KEY_CHANGE_PART_ONE_EXPIRY. -/
def execKeyChangePartOneExpiry (s : State) : Host.Outcome State Fault Refusal :=
  .next { s with box := { s.box with partOne := none } }

/-- CLEAR_TAMPER_TOKEN. -/
def execClearTamperToken (s : State) : Host.Outcome State Fault Refusal := .next (tokenAck (fun c => c == 3) s)

/-- SET_TARIFF_INDEX_TOKEN. -/
def execSetTariffIndexToken (s : State) : Host.Outcome State Fault Refusal := .next (tokenAck (fun c => c == 4) s)

/-- TEST_TOKEN. -/
def execTestToken (s : State) : Host.Outcome State Fault Refusal := .next (tokenAck (fun c => c == 5) s)

/-- TAMPER_INPUT_CHANGE. -/
def execTamperInputChange (input : Nat) (high : Bool) (s : State) : Host.Outcome State Fault Refusal :=
  .next (tamperInput input high s)

/-- REVERSE_ENERGY_TIMER. -/
def execReverseEnergyTimer (set : Nat) (s : State) : Host.Outcome State Fault Refusal := .next (reverseTimer set s)

/-- BOX_RESTORE. -/
def execBoxRestore (s : State) : Host.Outcome State Fault Refusal := .next (if s.present 12 then boxRestore s else s)

/-- CHANNEL10_STATE_REPORT. -/
def execChannel10StateReport (s : State) : Host.Outcome State Fault Refusal := .next (tenReport s)

/-- SESSION_LATCH. -/
def execSessionLatch (set : Nat) (start : Bool) (s : State) : Host.Outcome State Fault Refusal :=
  .next (sessionLatch set start s)

end Sys2Proof.Machine
end

