-- ==== Sys2Proof/Machine/Fly.lean ====
section
/-!
DEFINITION. The connector axis (spec/10_fly_axis.md) with the Warden's brake test, safely limited speed and supervision of it
(spec/08_safety.md R216 to R220).
-/

namespace Sys2Proof.Machine

open Sys2Proof

/-! ### Status and events (R281, R282) -/

/-- A bit of FLY_STATUS. -/
def flyBit (s : State) (b : Nat) : Bool := bitOf (s.reg P.flyStatus) b

/-- A bit of FLY_STATUS set. -/
def setFly (b : Nat) (v : Bool) (s : State) : State := s.setReg P.flyStatus (setBit (s.reg P.flyStatus) b v)

/-- FLY_STATUS as it reads: BRAKE_HELD and TORQUE follow SO4 and SO5. -/
def flyStatusWord (s : State) : Nat :=
  setBit (setBit (s.reg P.flyStatus) 14 (!(pairClosed s 4))) 13 (pairClosed s 5)

/-- An event logged with a cue number and a position. -/
def flyEventAt (code cue : Nat) (pos : Int) (s : State) : State :=
  (s.setReg P.flyLastEvent
    (ofSigned 32 pos + cue % 256 * 2 ^ 48 + code % 256 * 2 ^ 56 + s.now % 2 ^ 64 * 2 ^ 64)).count P.flyEvents 1

/-- An event logged at the present position without a cue. -/
def flyEvent (code : Nat) (s : State) : State := flyEventAt code 0xFF (s.regI P.flyPos) s

/-! ### The profile (R268 to R271)

Positions are held in 1 ÷ (6 × 20,000³) counts and times in control cycles of 50 µs, so that a cycle at constant jerk is
exact in integers. -/

/-- Profile units in one count. -/
abbrev flyUnit : Int := 48000000000000
/-- Profile speed of one count/s. -/
abbrev flySpeedUnit : Int := 2400000000
/-- Profile acceleration of one count/s². -/
abbrev flyAccUnit : Int := 120000

/-- A profile's position, speed and acceleration. -/
structure Prof where
  x : Int
  w : Int
  al : Int
deriving DecidableEq, Repr

/-- One cycle at a jerk in counts/s³. -/
def Prof.jerk (p : Prof) (j : Int) : Prof :=
  { x := p.x + p.w + p.al / 2 + j, w := p.w + p.al + 3 * j, al := p.al + 6 * j }

/-- The stopping distance of R269 from a speed with zero acceleration, in profile units. -/
def restDist (v d k : Int) : Int :=
  if d * d ≤ v * k then (v * v * k + v * d * d) / (2 * d * k) else ((v * v * v / k).toNat.sqrt : Nat)

/-- The stopping distance from a speed that is not negative and any acceleration. A braking that the speed no longer covers runs
through zero: the profile comes to rest on the other side. -/
def stopDist (w al d k : Int) : Int :=
  if al < 0 ∧ 2 * w * k < al * al then
    let a := -al
    (3 * w * a * k - a * a * a) / (3 * k * k) - restDist (a * a / (2 * k) - w) d k
  else
    let v := w + al * al / (2 * k)
    restDist v d k + (v * al / k - al * al * al / (6 * k * k))

/-- The stopping point (R268): where the profile comes to rest at a deceleration and jerk in counts. -/
def stopPoint (p : Prof) (dec jerk : Nat) : Int :=
  let d := flyAccUnit * dec
  let k : Int := 6 * jerk
  if d = 0 ∨ k = 0 then p.x
  else if 0 ≤ p.w then p.x + stopDist p.w p.al d k else p.x - stopDist (-p.w) (-p.al) d k

/-- The acceleration of a cycle on the way to a limit: by at most one cycle of jerk. -/
def towards (al lim jerk : Int) : Int :=
  if al + 6 * jerk ≤ lim then jerk else if al - 6 * jerk ≤ lim then (lim - al) / 6 else -jerk

/-- One cycle towards a speed: acceleration limited to ACC while the speed's magnitude rises and to DEC while it falls. A speed of the
other sign is reached through rest (R270). -/
def velStep (speed acc dec jerk : Int) (p : Prof) : Prof :=
  let want := if p.w * speed < 0 then 0 else speed
  let k := 6 * jerk
  let ends := if k = 0 then p.w else p.w + p.al * p.al.natAbs / (2 * k)
  let up := if 0 ≤ p.w then acc else dec
  let down := if 0 ≤ p.w then dec else acc
  let j := if ends < want then towards p.al (flyAccUnit * up) jerk
           else if want < ends then -(towards (-p.al) (flyAccUnit * down) jerk)
           else towards p.al 0 jerk
  let q := p.jerk j
  if (q.w - want).natAbs ≤ (2 * k).natAbs ∧ q.al.natAbs ≤ (2 * k).natAbs then { q with w := want, al := 0 } else q

/-- The speed limit in counts/s (R268): the lower of FLY_VMAX and 0.95 × WDN_SLS_LIMIT, or FLY_CREEP. -/
def flyLimit (s : State) : Nat :=
  let sls := s.reg P.wdnSlsLimit
  let v := if sls = 0 then s.reg P.flyVmax else min (s.reg P.flyVmax) (sls * 95 / 100)
  if flyBit s 6 || s.saf.creepOnly then s.reg P.flyCreep else v

/-- The profile of the axis. -/
def State.prof (s : State) : Prof := ⟨s.fly.x, s.fly.w, s.fly.al⟩

/-- Whether a profile cycle crosses zero speed: the speed takes the other sign, or comes to rest short of the target or beyond it. -/
def reverses (s : State) (q : Prof) (sg : Int) : Bool :=
  (!(q.w == 0) && !(s.fly.sign == 0) && !(sg == s.fly.sign))
    || (q.w == 0 && !(s.fly.w == 0) && s.fly.goal == .target && !(q.x == s.fly.goalPos * flyUnit))

/-- The profile replaced; where it crosses zero speed, the nearest count stays in FLY_LAST_REVERSAL (R270). -/
def setProf (q : Prof) (s : State) : State :=
  let sg : Int := if q.w = 0 then s.fly.sign else if 0 < q.w then 1 else -1
  let s' := if reverses s q sg then s.setRegI P.flyLastReversal ((2 * q.x + flyUnit) / (2 * flyUnit)) else s;
  { s' with fly := { s'.fly with x := q.x, w := q.w, al := q.al, sign := sg } }

/-- One cycle towards a position (R268, R270). -/
def posStep (s : State) (goal : Int) (p : Prof) : Prof :=
  let acc := s.reg P.flyAcc
  let dec := s.reg P.flyDec
  let jerk := s.reg P.flyJerk
  let v := flySpeedUnit * flyLimit s
  let up := decide (stopPoint p dec jerk ≤ goal)
  let cand := velStep (if up then v else -v) acc dec jerk p
  let past := if up then decide (goal < stopPoint cand dec jerk) else decide (stopPoint cand dec jerk < goal)
  let q := if past then velStep 0 acc dec jerk p else cand
  if (goal - q.x).natAbs ≤ flyUnit.natAbs ∧ q.w.natAbs ≤ (20 * flySpeedUnit).natAbs then ⟨goal, 0, 0⟩ else q

/-! ### Starting and ending a motion (R265, R272) -/

/-- The phase and goal of the axis. -/
def setGoal (ph : FlyPhase) (g : FlyGoal) (s : State) : State := { s with fly := { s.fly with phase := ph, goal := g } }

/-- "At home" (R267): at rest with IN_POSITION within tolerance of FLY_PARK_POS. -/
def atHome (s : State) : Bool :=
  s.present 21 && flyBit s 5 && !(flyBit s 4)
    && decide ((s.regI P.flyPos - s.regI P.flyParkPos).natAbs ≤ s.reg P.flyInPosTol)

/-- Whether the brake test is due (R217): before the first motion after a start of I08, and once the interval has passed. -/
def brakeDue (s : State) : Bool :=
  !s.saf.brakeDone || decide (s.saf.brakeAt + s.reg P.wdnBrakeInterval * 60 * second ≤ s.mono)

/-- The first step of a motion: SO5 closed, first for the brake test where that is due at home (R217); IN_POSITION ends with the
motion's start. -/
def beginMotion (g : FlyGoal) (s : State) : State :=
  if s.fly.phase = .run then (setFly 5 false (setFly 8 false { s with fly := { s.fly with goal := g } }))
  else if brakeDue s ∧ atHome s then closePairs 0x20 (setGoal .test g (setFly 8 false s))
  else closePairs 0x20 (setGoal .sto g (setFly 5 false (setFly 8 false s)))

/-- Whether the axis can be put in motion at all: I08 present, I18 too in U5 mode, and SO4 and SO5 may close. -/
def flyCan (s : State) : Bool :=
  s.present 8 && (s.reg P.flyOutMode == 0 || s.present 18) && (mayClose s 0 &&& mayClose s 1 &&& 0x30) == 0x30

/-- The refusal common to every motion command (R272, R278, R259, R218), or none. `home` marks a homing or a move home: both end at
home, so both are permitted, at creep, while a brake test is overdue (DEDUCED, notes/assumptions/98.md). -/
def motionRefused (home : Bool) (s : State) : Option State :=
  if flyBit s 1 = false then some (flyEvent 0x06 s)
  else if flyCan s = false ∨ (flyBit s 12 ∧ home = false) ∨ (s.saf.creepOnly ∧ home = false) then some s
  else none

/-- A move towards a position. -/
def moveTo (t : Int) (s : State) : State :=
  beginMotion .target { s with fly := { s.fly with goalPos := t, newTarget := none } }

/-- Whether a position lies within the soft limits. -/
def inSoft (s : State) (t : Int) : Bool := decide (s.regI P.flySoftMin ≤ t ∧ t ≤ s.regI P.flySoftMax)

/-- A write of FLY_TARGET (R266, R270, R271, R272): result and state. Its limits come first, as in R178. -/
def actFlyTarget (v : Nat) (s : State) : Nat × State :=
  let t := toSigned 32 v
  let home := decide (t = s.regI P.flyParkPos)
  if inSoft s t = false then (resRange, s)
  else
    match motionRefused home s with
    | some s' => (resBusy, s')
    | none =>
      if flyBit s 2 = false ∨ flyBit s 12 then (resBusy, s) else
      let s := s.setReg P.flyTarget v
      if flyBit s 8 ∧ s.fly.goal = .quick then (resOk, s)
      else
        let s := if flyBit s 9 then s else setFly 6 false s
        (resOk, { s with fly := { s.fly with newTarget := some t } })

/-- FLY_CMD 0x01 (R266). -/
def actFlyHome (s : State) : Nat × State :=
  match motionRefused true s with
  | some s' => (resBusy, s')
  | none =>
    let s := [2, 3, 7, 8, 9, 10, 12].foldl (fun s b => setFly b false s) s
    let s := { s with fly := { s.fly with held := [], passed := [], newTarget := none } }
    (resOk, beginMotion .homeOut (setFly 0 true (setFly 6 false s)))

/-- FLY_CMD 0x03 and 0x04 (R271): a stop at FLY_DEC or a quick stop, both clearing TARGET_PENDING. A quick stop under way goes on. -/
def actFlyStop (g : FlyGoal) (s : State) : Nat × State :=
  let s := setFly 0 false (setFly 7 false { s with fly := { s.fly with newTarget := none } })
  (resOk, if s.fly.phase = .run then { s with fly := { s.fly with goal := if s.fly.goal = .quick then .quick else g } }
    else if s.fly.phase = .hold ∨ s.fly.phase = .rest then s else setGoal .rest .none (openPairs 0x10 s))

/-- FLY_CMD 0x05 (R271). -/
def actFlyResume (s : State) : Nat × State :=
  match motionRefused (decide (s.regI P.flyTarget = s.regI P.flyParkPos)) s with
  | some s' => (resBusy, s')
  | none =>
    if flyBit s 2 = false ∨ flyBit s 7 = false ∨ flyBit s 12 ∨ flyBit s 4 then (resBusy, s)
    else if inSoft s (s.regI P.flyPos) = false then (resRange, s)
    else (resOk, moveTo (s.regI P.flyTarget) (setFly 7 false s))

/-- FLY_CMD 0x06 and 0x07: a jog at creep. -/
def actFlyJog (g : FlyGoal) (s : State) : Nat × State :=
  match motionRefused false s with
  | some s' => (resBusy, s')
  | none => (resOk, beginMotion g (setFly 6 true { s with fly := { s.fly with newTarget := none } }))

/-- The profile of a motion starts at the measured speed with zero acceleration (R272). -/
def startProfile (s : State) : State :=
  let s := setFly 4 true (setGoal .run s.fly.goal s);
  { s with fly := { s.fly with x := s.regI P.flyPos * flyUnit, w := s.regI P.flySpeed * flySpeedUnit, al := 0, sign := 0 } }

/-- A motion ends (R265): SO4 opens and the position loop holds. -/
def endMotion (s : State) : State := setFly 4 false (openPairs 0x10 (setGoal .hold .none s))

/-! ### Cues and teeth (R273 to R277) -/

/-- The direction bit of FLY_CUEk_CTRL that an armed cue needs. -/
def cueArmed (s : State) (k : Nat) (positive : Bool) : Bool :=
  bitOf (s.reg (P.flyCueCtrl k)) (if positive then 6 else 7) && !(s.fly.disarmed.contains k)

/-- Whether the axis travels positive. -/
def flyUp (s : State) : Bool := decide (0 ≤ s.fly.dir)

/-- Whether an open tooth discrepancy holds cues: none is held while no tooth check runs, nor once the discrepancy has ended as a fault
(R274 to R276). -/
def cuesWait (s : State) : Bool := flyBit s 9 && !(flyBit s 10) && !(s.reg P.flyToothEn == 0) && flyBit s 3

/-- The armed cues within FLY_CUE_GUARD ahead held, each with its event (R274). -/
def holdCues (s : State) : State :=
  (List.range 16).foldl (fun s k =>
    let d := (s.regI (P.flyCuePos k) - s.regI P.flyPos) * (if flyUp s then 1 else -1)
    if cueArmed s k (flyUp s) ∧ ¬ s.fly.held.contains k ∧ 0 ≤ d ∧ d ≤ s.reg P.flyCueGuard then
      flyEventAt 0x08 k (s.regI P.flyPos) { s with fly := { s.fly with held := s.fly.held ++ [k] } }
    else s) s

/-- A stop at FLY_DEC with the target left pending; a quick stop under way goes on. -/
def stopPending (s : State) : State :=
  let s := setFly 7 true s
  if s.fly.phase = .run ∧ ¬ (s.fly.goal = .quick) then { s with fly := { s.fly with goal := .stop } } else s

/-- The action of a cue (R277). -/
def cueAction (k : Nat) (s : State) : State :=
  let a := bits (s.reg (P.flyCueCtrl k)) 3 0
  if a = 2 then setFly 6 true s
  else if a = 3 then { s with fly := { s.fly with aux := true } }.emit (.flyAux true)
  else if a = 4 then { s with fly := { s.fly with aux := false } }.emit (.flyAux false)
  else if a = 5 then (if s.fly.contactHigh then flyEventAt 0x09 k (s.regI P.flyPos) (stopPending s) else s)
  else if a = 6 then stopPending s
  else s

/-- A cue fires: its event, its action, and its disarming. -/
def fireCue (k : Nat) (s : State) : State :=
  let s := cueAction k (flyEventAt 0x07 k (s.regI (P.flyCuePos k)) s)
  if bitOf (s.reg (P.flyCueCtrl k)) 5 then { s with fly := { s.fly with disarmed := k :: s.fly.disarmed } } else s

/-- A cue's position is reached: it fires, or waits while a tooth discrepancy holds it. -/
def cueReached (k : Nat) (positive contactHigh : Bool) (s : State) : State :=
  if s.present 21 = false ∨ 16 ≤ k then s
  else
    let s := { s with fly := { s.fly with contactHigh := contactHigh } }
    if cueArmed s k positive = false then s
    else if cuesWait s then
      let s := if s.fly.held.contains k then s
        else flyEventAt 0x08 k (s.regI P.flyPos) { s with fly := { s.fly with held := s.fly.held ++ [k] } };
      { s with fly := { s.fly with passed := if s.fly.passed.contains k then s.fly.passed else s.fly.passed ++ [k] } }
    else fireCue k s

/-- A tooth discrepancy declared (R274). -/
def toothDisc (s : State) : State :=
  let s := flyEvent 0x02 (setFly 9 true s)
  setFly 6 true (holdCues { s with fly := { s.fly with discAt := s.regI P.flyPos } })

/-- A discrepancy that is not confirmed (R275): the held cues are discarded, so that they do not fire until their control byte is
written again. -/
def toothFault (s : State) : State :=
  let s := flyEvent 0x04 (setFly 10 true s);
  { s with fly := { s.fly with disarmed := s.fly.held ++ s.fly.disarmed, held := [], passed := [] } }

/-- The whole number of pitches nearest to a distance. -/
def nearest (d pitch : Int) : Int := (2 * d + pitch) / (2 * pitch)

/-- A discrepancy resolved by an edge (R275). -/
def toothResolve (s : State) : State :=
  let pitch : Int := s.reg P.flyToothPitch
  let d := s.regI P.flyPos - s.fly.toothRef
  let k := nearest d pitch
  if (d - k * pitch).natAbs ≤ s.reg P.flyToothTol then
    let fired := s.fly.passed
    let s := flyEvent 0x03 (setFly 6 false (setFly 9 false (s.setRegI P.flyToothCount k)))
    fired.foldl (fun s k => fireCue k s) { s with fly := { s.fly with held := [], passed := [] } }
  else toothFault s

/-- The first tooth edge after HOMED: the reference (R266, step 4), where D is 0; homing goes on to FLY_PARK_POS without soft limits
(step 5). -/
def toothReference (s : State) : State :=
  let s := setFly 3 true ((s.setRegI P.flyToothCount 0).setRegI P.flyToothDev 0)
  let s := { s with fly := { s.fly with toothRef := s.regI P.flyPos, lastTooth := s.regI P.flyPos } }
  if s.fly.goal = .homeTooth then
    beginMotion .homePark { s with fly := { s.fly with goalPos := s.regI P.flyParkPos, newTarget := none } }
  else s

/-- A tooth counted in the direction of travel, and D (R273). -/
def toothCounted (s : State) : State :=
  let s := s.setRegI P.flyToothCount (s.regI P.flyToothCount + (if flyUp s then 1 else -1))
  let pitch : Int := s.reg P.flyToothPitch
  let s := s.setRegI P.flyToothDev (s.regI P.flyPos - (s.fly.toothRef + s.regI P.flyToothCount * pitch));
  { s with fly := { s.fly with lastTooth := s.regI P.flyPos } }

/-- A tooth edge (R273): rising edges count while the encoder travels positive, falling ones while it travels negative. -/
def toothEdge (rising : Bool) (s : State) : State :=
  if s.present 21 = false ∨ ¬ (rising = flyUp s) then s
  else if flyBit s 2 ∧ flyBit s 3 = false then toothReference s
  else
    let s := toothCounted s
    if s.reg P.flyToothEn = 0 ∨ flyBit s 3 = false ∨ flyBit s 10 then s
    else if flyBit s 9 then toothResolve s
    else if s.reg P.flyToothPitch < 2 * (s.regI P.flyToothDev).natAbs then toothDisc s
    else s

/-- Twice the travel since a place, in the direction of travel. -/
def twiceTravel (s : State) (x : Int) : Int := 2 * (s.regI P.flyPos - x) * (if flyUp s then 1 else -1)

/-- A tooth missed: more than 1.5 pitches past the last tooth without an edge (R274); or none within 1.5 pitches of further travel
after a discrepancy (R275). -/
def missedTooth (s : State) : State :=
  let far : Int := 3 * s.reg P.flyToothPitch
  if s.present 21 = false ∨ s.reg P.flyToothEn = 0 ∨ flyBit s 3 = false ∨ flyBit s 10 then s
  else if flyBit s 9 then (if far ≤ twiceTravel s s.fly.discAt then toothFault s else s)
  else if far < twiceTravel s s.fly.lastTooth then toothDisc s
  else s

/-! ### The control cycle (R261, R263, R264, R268) -/

/-- FLY_SPEED (R261) from the movement of the last 20 cycles, or from the time in ns between the last two edges. -/
def flySpeedOf (f : FlyState) (gapNs : Nat) : Int :=
  let edges := (f.deltas.map Int.natAbs).foldl (· + ·) 0
  if 2000 ≤ f.quiet then 0
  else if 8 ≤ edges then (f.deltas.foldl (· + ·) 0) * 1000
  else if gapNs = 0 then 0
  else f.dir * ((1000000000 / gapNs : Nat) : Int)

/-- The encoder's movement of a cycle. -/
def flyMove (delta : Int) (gapNs : Nat) (s : State) : State :=
  let f := { s.fly with
    deltas := (delta :: s.fly.deltas).take 20, quiet := if delta = 0 then s.fly.quiet + 1 else 0,
    dir := if delta = 0 then s.fly.dir else if 0 < delta then 1 else -1 }
  let s := { s with fly := f }.setRegI P.flyPos (s.regI P.flyPos + delta)
  s.setRegI P.flySpeed (flySpeedOf f gapNs)

/-- A target written is taken at the start of the next cycle, whatever the axis is doing (R270); a homing ends with it. -/
def takeTarget (s : State) : State :=
  match s.fly.newTarget with
  | none => s
  | some t => moveTo t (setFly 0 false (setFly 7 false s))

/-- Whether the stopping point would cross a soft limit (R271); homing has none. -/
def limitAhead (s : State) : Bool :=
  let g := s.fly.goal
  let p := stopPoint s.prof (s.reg P.flyDec) (s.reg P.flyJerk)
  (g == .target || g == .jogUp || g == .jogDown) && s.fly.phase == .run
    && (decide (0 < s.fly.w ∧ s.regI P.flySoftMax * flyUnit < p) || decide (s.fly.w < 0 ∧ p < s.regI P.flySoftMin * flyUnit))

/-- A limit in the path: the quick stop, with the target pending. -/
def limitStop (s : State) : State :=
  flyEvent 0x01 (setFly 7 true (setFly 8 true { s with fly := { s.fly with goal := .quick } }))

/-- The speed of the homing moves within the limit of R268, in the direction of step 1 or against it. -/
def homeVel (s : State) (out : Bool) (v : Nat) : Int :=
  let v := flySpeedUnit * (min v (flyLimit s) : Nat)
  if (s.reg P.flyHomeDir == 1) == out then v else -v

/-- One cycle of the profile. -/
def profStep (s : State) : Prof :=
  let p := s.prof
  let acc := s.reg P.flyAcc
  let dec := s.reg P.flyDec
  let jerk := s.reg P.flyJerk
  match s.fly.goal with
  | .none => { p with w := 0, al := 0 }
  | .target => posStep s (s.fly.goalPos * flyUnit) p
  | .stop => velStep 0 acc dec jerk p
  | .quick => velStep 0 acc (s.reg P.flyQsDec) (s.reg P.flyQsJerk) p
  | .jogUp => velStep (flySpeedUnit * s.reg P.flyCreep) acc dec jerk p
  | .jogDown => velStep (-(flySpeedUnit * s.reg P.flyCreep)) acc dec jerk p
  | .homeOut => velStep (homeVel s true (s.reg P.flyHomeSpeed)) acc dec jerk p
  | .homeStop => velStep 0 acc dec jerk p
  | .homeBack => velStep (homeVel s false (s.reg P.flyCreep)) acc dec jerk p
  | .homeIndex => velStep (homeVel s false (s.reg P.flyCreep)) acc dec jerk p
  | .homeTooth => velStep (homeVel s false (s.reg P.flyCreep)) acc dec jerk p
  | .homePark => posStep s (s.fly.goalPos * flyUnit) p

/-- What follows when a profile that stops has come to rest. -/
def atRest (s : State) : State :=
  if s.fly.w = 0 ∧ s.fly.al = 0 then
    match s.fly.goal with
    | .stop => endMotion s
    | .quick => endMotion s
    | .homeStop => { s with fly := { s.fly with goal := if s.fly.homeLow then .homeBack else .homeIndex } }
    | _ => s
  else s

/-- The speed command (R263), rounded towards zero and limited; in a brake test the Warden's (R217, step 2). -/
def flyCommand (s : State) : Int :=
  if s.fly.phase = .test then s.regI P.wdnBrakeSpeed
  else if s.fly.phase = .run ∨ s.fly.phase = .hold then
    let e := s.fly.w * 20000 + (s.reg P.flyKp : Int) * (s.fly.x - s.regI P.flyPos * flyUnit)
    let c := Int.tdiv (e * (s.reg P.flyCmdScale : Int)) (flyUnit * 1000)
    max (-32767) (min 32767 c)
  else 0

/-- The command given to the drive: PWM and direction, or a frame on U5 (R263, R264). -/
def driveOut (c : Int) (s : State) : State :=
  let s := s.setRegI P.flyCmdOut c
  if s.reg P.flyOutMode = 0 then s.emit (.flyPwm (c.natAbs * 12500 / 32768) (decide (0 ≤ c)))
  else if s.present 18 = false ∨ ¬ (s.src 6 = 2) ∨ ¬ (s.reg (P.uartTest 5) = 0) then s
  else
    let b := [0xA5] ++ toBytes 2 (ofSigned 16 c) ++ [ofBool (pairClosed s 5), s.fly.frame % 256]
    { s with fly := { s.fly with frame := (s.fly.frame + 1) % 256 } }.emit (.uart 5 (b ++ [crc8 b]))

/-- A control cycle: `delta` is the encoder's movement, `gapNs` the time between its last two edges. -/
def controlCycle (delta : Int) (gapNs : Nat) (s : State) : State :=
  if s.present 21 = false then s
  else
    let s := takeTarget (flyMove delta gapNs s)
    let s := if cuesWait s then holdCues s else s
    let s := if limitAhead s then limitStop s else s
    let s := if s.fly.phase = .run then atRest (setProf (profStep s) s) else s
    driveOut (flyCommand s) s

/-! ### Encoder, homing and the motion's steps -/

/-- An illegal transition (R260, R262). -/
def encIllegal (s : State) : State :=
  if s.present 21 then flyEvent 0x05 (setFly 1 false (setFly 11 true s)) else s

/-- The index: latched; in homing it sets the position (R266, step 3). -/
def encIndex (s : State) : State :=
  if s.present 21 = false then s
  else
    let s := { s with fly := { s.fly with zLatch := s.regI P.flyPos } }
    if s.fly.goal = .homeIndex then
      let shift := s.regI P.flyHomeOffset - s.regI P.flyPos
      let s := (setFly 2 true s).setRegI P.flyPos (s.regI P.flyHomeOffset)
      flyEvent 0x0B { s with fly := { s.fly with
        goal := .homeTooth, x := s.fly.x + shift * flyUnit, lastTooth := s.fly.lastTooth + shift } }
    else s

/-- ENC_VALID set (R262): standstill proven, or the brake applied, with no illegal transition since the reset. -/
def encValid (s : State) : State :=
  if s.present 21 ∧ flyBit s 11 = false ∧ (s.fly.quiet ≥ 2000 ∨ pairClosed s 4 = false) then setFly 1 true s else s

/-- The home switch (R266). -/
def homeSwitch (low : Bool) (s : State) : State :=
  let s := { s with fly := { s.fly with homeLow := low } }
  if s.fly.goal = .homeOut ∧ low then { s with fly := { s.fly with goal := .homeStop } }
  else if s.fly.goal = .homeBack ∧ low = false then { s with fly := { s.fly with goal := .homeIndex } }
  else s

/-- SO4 closed after the settling of SO5 (R265, step 2). -/
def stoSettle (s : State) : State :=
  if s.fly.phase = .sto ∧ pairClosed s 5 then closePairs 0x10 (setGoal .brake s.fly.goal s) else s

/-- The profile starts after the brake's release (R265, step 3). -/
def brakeRelease (s : State) : State := if s.fly.phase = .brake ∧ pairClosed s 4 then startProfile s else s

/-- IN_POSITION (R265, R281): the profile at its target, FLY_POS within tolerance and slow. -/
def inPosition (s : State) : State :=
  if s.fly.phase = .run ∧ (s.fly.goal = .target ∨ s.fly.goal = .homePark)
      ∧ (s.regI P.flyPos - s.fly.goalPos).natAbs ≤ s.reg P.flyInPosTol
      ∧ (s.regI P.flySpeed).natAbs < 20 then
    endMotion (setFly 0 false (setFly 5 true s))
  else s

/-- The hold ends and cmd stays at 0 (R265). -/
def holdEnd (s : State) : State := if s.fly.phase = .hold then (setGoal .rest .none s).setRegI P.flyCmdOut 0 else s

/-! ### The Warden (R217 to R220, R278) -/

/-- The first two steps of a brake test (R217): SO4 open, SO5 closed, WDN_BRAKE_SPEED commanded to the drive. A motion that waits for
the test has begun it already. -/
def brakeTestRuns (s : State) : State :=
  if s.fly.phase = .test then s else driveOut (s.regI P.wdnBrakeSpeed) (closePairs 0x20 (openPairs 0x10 s))

/-- A test ended: the drive is commanded to zero and SO5 opens (R217, step 4). -/
def brakeTestEnds (s : State) : State := openPairs 0x30 (driveOut 0 s)

/-- The brake test with the encoder's movement (R217). A motion that waited for it then starts. -/
def brakeTest (movement : Nat) (s : State) : State :=
  if s.present 8 = false ∨ atHome s = false ∨ brakeDue s = false ∨ bitOf (mayClose s 0 &&& mayClose s 1) 5 = false then s
  else if movement ≤ s.reg P.wdnBrakeMax then
    let s := brakeTestEnds (brakeTestRuns s)
    let s := { s with saf := { s.saf with brakeDone := true, brakeAt := s.mono, creepOnly := false } }
    let s := wardenEvent 0x0B 0xFF movement (s.setReg P.wdnBrakeLast s.now)
    if s.fly.phase = .test then closePairs 0x20 (setGoal .sto s.fly.goal (setFly 5 false s)) else s
  else
    let s := wardenEvent 0x0C 0xFF movement (latchFault 1 10 (brakeTestEnds (brakeTestRuns s)))
    if s.fly.phase = .test then setGoal .rest .none s else s

/-- Whether the axis is on its way home: in homing, or towards FLY_PARK_POS. -/
def goesHome (s : State) : Bool :=
  match s.fly.goal with
  | .homeOut | .homeStop | .homeBack | .homeIndex | .homeTooth | .homePark => true
  | .target => decide (s.fly.goalPos = s.regI P.flyParkPos)
  | _ => false

/-- A motion that the Warden no longer permits: it stops at FLY_DEC, or does not start (R218). -/
def barMotion (s : State) : State :=
  let s := { s with fly := { s.fly with newTarget := s.fly.newTarget.filter fun t => decide (t = s.regI P.flyParkPos) } }
  if goesHome s ∨ s.fly.phase = .hold ∨ s.fly.phase = .rest then s
  else if s.fly.phase = .run then (if s.fly.goal = .quick then s else { s with fly := { s.fly with goal := .stop } })
  else setGoal .rest .none (openPairs 0x10 s)

/-- The grace time of a deferred test passes (R218): only the move home is permitted from here on. -/
def graceExpiry (s : State) : State :=
  if s.present 8 ∧ brakeDue s ∧ atHome s = false then barMotion { s with saf := { s.saf with creepOnly := true } } else s

/-- The stop of R219: quick stop, and SO5 and SO4 to open when it ends; a motion that has not started does not start. -/
def wardenStop (s : State) : State :=
  let s := { s with saf := { s.saf with ss1 := some s.mono }, fly := { s.fly with newTarget := none } }
  if s.present 21 = false then s
  else if s.fly.phase = .run then { s with fly := { s.fly with goal := .quick } }
  else if s.fly.phase = .hold then s
  else setGoal .rest .none s

/-- SLS latched (R219). -/
def slsOverspeed (speed : Int) (s : State) : State :=
  if s.present 8 = false then s
  else
    let s := s.setRegI P.wdnSpeed speed
    let lim := s.reg P.wdnSlsLimit
    if lim = 0 ∨ speed.natAbs ≤ lim then s
    else
      let s := latchFault 1 11 (wardenStop s)
      let s := if s.present 21 then setFly 7 false { s with fly := { s.fly with newTarget := none } } else s
      wardenEvent 0x0D 0xFF (s.reg P.irnFaults) s

/-- The stop of R219 ends: SO5 and SO4 open in both channels. -/
def ss1Complete (s : State) : State :=
  if s.saf.ss1.isSome then openPairs 0x30 { s with saf := { s.saf with ss1 := none } } else s

/-- A 10 ms window of rising edges of encoder channel A ends in the Iron (R220). -/
def overspeedWindow (edges : Nat) (s : State) : State :=
  if s.pwr.ironOn = false then s
  else
    let fast := decide (chanVal s 0 P.irnOverspeed < 400 * edges)
    let s := { s with saf := { s.saf with fast := fast } }
    if fast ∧ bitOf (s.saf? 0).lat 12 = false then ironEvent 0x0E 0xFF (latchFault 0 12 s) else s

/-- The stop of an axis whose island stands with its clock stopped (R278): no quick stop, the pairs at once, and the axis
stays stopped until a new homing. -/
def unreachedStop (s : State) : State :=
  let s := if flyBit s 12 then s else flyEvent 0x0C (setFly 12 true s)
  openPairs 0x30 { s with fly := { s.fly with phase := .rest, goal := .none, newTarget := none } }

/-- The Warden's supervision of the axis (R278): the movement of FLY_POS and of its own counter in 250 µs, and the drive fault
input. -/
def superviseAxis (flyDelta ownDelta : Int) (drvLow : Bool) (s : State) : State :=
  if s.present 8 = false then s
  else
    let s := s.setRegI P.wdnSpeed (ownDelta * 4000)
    if s.present 21 = false then (if pairClosed s 4 then openPairs 0x30 s else s)
    else if s.clockStopped 21 then (if pairClosed s 4 then unreachedStop s else s)
    else
      let s := setFly 15 drvLow s
      let bad := decide (8 < (flyDelta - ownDelta).natAbs) || flyBit s 11 || flyBit s 10
      if (drvLow || bad) = false ∨ flyBit s 12 then s
      else
        let s := flyEvent (if drvLow then 0x0A else 0x0C) (setFly 12 true s)
        if drvLow then openPairs 0x30 { s with fly := { s.fly with phase := .rest, goal := .none, newTarget := none } }
        else wardenStop s

/-- I21 lost: its outputs fall to low, which commands zero speed, and U5 falls silent (R259). -/
def flyGone (s : State) : State := ({ s with fly := FlyState.reset }.emit (.flyPwm 0 false)).emit (.flyAux false)

/-! ### The commands -/

/-- FLY_CONTROL_CYCLE. -/
def execFlyControlCycle (delta : Int) (gapNs : Nat) (s : State) : Host.Outcome State Fault Refusal :=
  .next (controlCycle delta gapNs s)

/-- ENCODER_ILLEGAL_TRANSITION. -/
def execEncoderIllegalTransition (s : State) : Host.Outcome State Fault Refusal := .next (encIllegal s)

/-- ENCODER_INDEX. -/
def execEncoderIndex (s : State) : Host.Outcome State Fault Refusal := .next (encIndex s)

/-- ENC_VALID_SET. -/
def execEncValidSet (s : State) : Host.Outcome State Fault Refusal := .next (encValid s)

/-- HOMING_HOME_SWITCH. -/
def execHomingHomeSwitch (low : Bool) (s : State) : Host.Outcome State Fault Refusal := .next (homeSwitch low s)

/-- TOOTH_EDGE. -/
def execToothEdge (rising : Bool) (s : State) : Host.Outcome State Fault Refusal := .next (toothEdge rising s)

/-- MISSED_TOOTH. -/
def execMissedTooth (s : State) : Host.Outcome State Fault Refusal := .next (missedTooth s)

/-- CUE_FIRE. -/
def execCueFire (cue : Nat) (positive contactHigh : Bool) (s : State) : Host.Outcome State Fault Refusal :=
  .next (cueReached cue positive contactHigh s)

/-- MOTION_STO_SETTLE. -/
def execMotionStoSettle (s : State) : Host.Outcome State Fault Refusal := .next (stoSettle s)

/-- MOTION_BRAKE_RELEASE. -/
def execMotionBrakeRelease (s : State) : Host.Outcome State Fault Refusal := .next (brakeRelease s)

/-- IN_POSITION_REACHED. -/
def execInPositionReached (s : State) : Host.Outcome State Fault Refusal := .next (inPosition s)

/-- BRAKE_SET_HOLD_END. -/
def execBrakeSetHoldEnd (s : State) : Host.Outcome State Fault Refusal := .next (holdEnd s)

/-- WARDEN_AXIS_SUPERVISION. -/
def execWardenAxisSupervision (flyDelta ownDelta : Int) (drvLow : Bool) (s : State) : Host.Outcome State Fault Refusal :=
  .next (superviseAxis flyDelta ownDelta drvLow s)

/-- BRAKE_TEST. -/
def execBrakeTest (movement : Nat) (s : State) : Host.Outcome State Fault Refusal := .next (brakeTest movement s)

/-- BRAKE_TEST_GRACE_EXPIRY. -/
def execBrakeTestGraceExpiry (s : State) : Host.Outcome State Fault Refusal := .next (graceExpiry s)

/-- SLS_OVERSPEED. -/
def execSlsOverspeed (speed : Int) (s : State) : Host.Outcome State Fault Refusal := .next (slsOverspeed speed s)

/-- SS1_STOP_COMPLETE. -/
def execSs1StopComplete (s : State) : Host.Outcome State Fault Refusal := .next (ss1Complete s)

/-- IRON_OVERSPEED_WINDOW. -/
def execIronOverspeedWindow (edges : Nat) (s : State) : Host.Outcome State Fault Refusal := .next (overspeedWindow edges s)

end Sys2Proof.Machine
end

