-- ==== Sys2Proof/Machine/Vehicle.lean ====
section
/-!
DEFINITION. The vehicle session (spec/09_vehicle_and_earth_fault.md): control pilot, AC and DC sequences, earth faults, the
high-level messages, and the answers to violations. Also the safety commands that may end a session (spec/08_safety.md).
-/

namespace Sys2Proof.Machine

open Sys2Proof

/-! ### Small readings -/

/-- WDN_SES_STATE. -/
def ses (s : State) : Nat := s.reg P.wdnSesState
/-- WDN_SES_STATE set. -/
def setSes (n : Nat) (s : State) : State := s.setReg P.wdnSesState n
/-- The vehicle's state replaced. -/
def State.setVeh (s : State) (v : VehState) : State := { s with veh := v }
/-- Whether E0 runs. -/
def e0On (s : State) : Bool := s.present 2
/-- Whether the pilot interface is powered (spec/04_power_and_start.md). -/
def pilotOn (s : State) : Bool := s.pwr.ironOn && s.domOn 55 && s.pwr.vcpP && s.pwr.vcpM && s.present 8
/-- Whether the post charges with DC: E0 runs and U1 is the power module's interface. -/
def dcPost (s : State) : Bool := e0On s && s.reg (P.uartMode 1) == 3
/-- Whether the pilot announces high-level communication: 5 % duty. -/
def fivePercent (s : State) : Bool := s.veh.drive == .pwm && s.reg P.irnCpDuty == 50

/-- Whether a session may start: pilot, Prompter, cast, a tier above K and XO25 not failed (R68), no alarm that blocks, no welded contactor, and no wait after chatter. -/
def sessionsAllowed (s : State) : Bool :=
  pilotOn s && prompterOk s && castOk s && !(s.reg P.smgTier == 0x4B) && !(s.src 1 == 3)
    && (s.reg P.boxTamperAlarm &&& s.reg P.boxTamperBlock) == 0 && !(bitOf (s.reg P.irnFaults) 8)
    && (match s.veh.barred with
        | none => true
        | some t => decide (t ≤ s.mono))

/-! ### The pilot (R231 to R233) -/

/-- The state of a high level in mV. -/
def pilotState (mv : Int) : Nat :=
  if 11000 ≤ mv ∧ mv ≤ 13000 then 1
  else if 8000 ≤ mv ∧ mv ≤ 10000 then 2
  else if 5000 ≤ mv ∧ mv ≤ 7000 then 3
  else if 2000 ≤ mv ∧ mv ≤ 4000 then 4
  else if -1000 ≤ mv ∧ mv ≤ 1000 then 5
  else 7

/-- The duty in 0.1 % of a limit in mA (R233); 1,000 where no PWM runs. -/
def pilotDuty (ma : Nat) : Nat :=
  if ma < 6000 then 1000 else if ma ≤ 51000 then ma / 60 else min 960 (ma / 250 + 640)

/-- The pilot driven; the periods counted of a level start afresh with another drive (R232). -/
def drive (d : CpDrive) (duty : Nat) (s : State) : State :=
  let s := if d = s.veh.drive then s else s.setVeh { s.veh with drive := d, streak := 0, noDiode := 0 }
  let s := s.setReg P.irnCpDuty duty
  if d = .low then s.setReg P.irnCpState 6 else if d = .off then s.setReg P.irnCpState 0 else s

/-- The pilot at constant +12 V. -/
def driveHigh (s : State) : State := drive .high 1000 s

/-- The pilot at the duty of the limit, or constant below 6 A. -/
def driveLimit (s : State) : State := if s.veh.limit < 6000 then driveHigh s else drive .pwm (pilotDuty s.veh.limit) s

/-- The pilot at 5 %: C1 awaits SLAC parameters. -/
def driveFive (s : State) : State :=
  let s := drive .pwm 50 s
  if s.present 11 ∧ s.reg P.tirGpState = 0 then s.setReg P.tirGpState 1 else s

/-! ### The end of a session -/

/-- Zero current commanded (R236). -/
def moduleZero (s : State) : State := s.setVeh { s.veh with modI := 0, override := true }

/-- The welding check begins: in DC the module holds the link at 100 V (R239), without current. -/
def startWeldCheck (s : State) : State :=
  setSes 7 (if s.veh.dc then s.setVeh { s.veh with modV := 1000, modI := 0, override := false, paused := false }
    else s.setVeh { s.veh with paused := false })

/-- A session cut: SO0 to SO3 open at once; the welding check follows where energy transfer began. -/
def cutSession (cause : Nat) (s : State) : State :=
  let s := openPairs 0x0F s
  if ses s = 0 ∨ ses s = 8 ∨ ses s = 7 then s
  else
    let s := moduleZero (s.setReg P.wdnSesEnd cause)
    if s.veh.began then startWeldCheck s else setSes 8 s

/-- A session brought to its end in order: ramp down, the Ending phase of AC, or at once before energy flows. -/
def windSession (cause : Nat) (s : State) : State :=
  if ses s = 0 ∨ 6 ≤ ses s then s
  else if ses s = 5 ∧ s.veh.dc then setSes 6 (moduleZero (s.setReg P.wdnSesEnd cause))
  else if ses s = 5 then setSes 6 (driveHigh ((s.setVeh { s.veh with paused := false }).setReg P.wdnSesEnd cause))
  else driveHigh (cutSession cause s)

/-- The pairs that the present phase needs closed. -/
def neededPairs (s : State) : Nat :=
  if ses s = 3 then 0x06
  else if ses s = 4 then (if s.veh.so2Open then 0x03 else 0x06)
  else if ses s = 5 ∧ s.veh.dc then 0x03
  else if ses s = 5 ∧ s.veh.paused = false ∧ (s.reg P.irnCpState = 3 ∨ (s.reg P.irnCpState = 4 ∧ s.reg P.wdnAllowD = 1)) then 0x08
  else 0

/-- Whether a pair that the phase needs is open. -/
def pairMissing (s : State) : Bool := (List.range 4).any fun p => bitOf (neededPairs s) p && !(pairClosed s p)

/-- What the session does after a safety function acted: a pair that it needs is open, and it ends with a cause. -/
def sessionCheck (cause : Nat) (s : State) : State :=
  if s.present 8 ∧ pairMissing s then driveHigh (cutSession cause s) else s

/-! ### Violations (R251, R253) -/

/-- Whether a violation is also a safety event of each channel. -/
def violationEvent (code : Nat) : Bool := [0x11, 0x12, 0x13, 0x17, 0x18].contains code

/-- WDN_VIOL_LAST (R257). -/
def violationWord (s : State) (code detail : Nat) : Nat :=
  detail % 2 ^ 32 + s.reg P.wdnSesProto * 2 ^ 32 + s.reg P.wdnSesState * 2 ^ 40 + s.reg P.irnCpState * 2 ^ 48
    + code % 256 * 2 ^ 56 + s.now % 2 ^ 64 * 2 ^ 64

/-- A violation decided: written, counted, notified, and recorded where the manual says so. -/
def violation (code detail : Nat) (s : State) : State :=
  let s := (s.setReg P.wdnViolLast (violationWord s code detail)).count P.wdnViolCount 1
  let s := notifyMain P.wdnViolLast s
  if violationEvent code then safetyEvent 1 0x01 0xFF (safetyEvent 0 0x01 0xFF s) else s

/-- A violation that opens the contactors and ends the session, with the pilot's answer. -/
def violationCut (code detail : Nat) (d : CpDrive) (s : State) : State :=
  drive d 1000 (cutSession code (violation code detail s))

/-! ### The current limit (R234, R235, R241) -/

/-- The cable rating in 0.1 A of a PP resistance: 0 for no cable or an invalid value. -/
def cableRating (ohm : Nat) : Nat :=
  if 80 ≤ ohm ∧ ohm ≤ 140 then 630
  else if 164 ≤ ohm ∧ ohm ≤ 308 then 320
  else if 400 ≤ ohm ∧ ohm ≤ 936 then 200
  else if 1100 ≤ ohm ∧ ohm ≤ 2460 then 130
  else 0

/-- IRN_PP_OHM of a resistance. -/
def ppReading (ohm : Nat) : Nat := if 4500 < ohm then 0xFFFF else ohm

/-- The rating in force: a tethered cable is rated as WDN_AC_MAX_DA. -/
def ratingNow (s : State) : Nat := if s.reg P.wdnPpMode = 1 then s.reg P.wdnAcMaxDa else s.veh.cable

/-- The sum of the phase voltages in use in µV: the phases of at least 50 V. -/
def phaseVoltSum (s : State) : Nat :=
  ((List.range 3).map fun p => if 50000000 ≤ s.regI (P.tlyPhVRms p) then s.reg (P.tlyPhVRms p) else 0).foldl (· + ·) 0

/-- The share in force divided by the voltages, in mA; no bound while no phase voltage is measured. -/
def shareLimit (s : State) : Option Nat :=
  if s.reg P.tirShareW = 0 then some 0
  else if phaseVoltSum s = 0 then none
  else some (s.reg P.tirShareW * 1000000000 / phaseVoltSum s)

/-- I in mA (R234). -/
def currentLimitMa (s : State) : Nat :=
  let a := min (100 * s.reg P.wdnAcMaxDa) (100 * ratingNow s)
  match shareLimit s with
  | none => a
  | some b => min a b

/-- The limit recomputed, and the pilot with it. -/
def recomputeLimit (s : State) : State :=
  if s.present 8 = false then s
  else
    let s := s.setVeh { s.veh with limit := currentLimitMa s }
    if s.veh.dc ∨ fivePercent s then s
    else if ses s = 5 ∧ s.veh.paused = false then
      (if s.veh.limit < 6000 then driveHigh (s.setVeh { s.veh with paused := true }) else driveLimit s)
    else if ses s = 2 ∧ s.veh.slacAt = none then driveLimit s
    else s

/-- 5 % PWM again 4 s after the first SLAC timeout of a DC session (R253, 0x21). -/
def slacAgain (s : State) : State :=
  match s.veh.slacAt with
  | none => s
  | some t => if t + 4 * second ≤ s.mono then driveFive (s.setVeh { s.veh with slacAt := none }) else s

/-- The limit has stood at 6 A or above for 60 s. -/
def acResume (s : State) : State :=
  if ses s = 5 ∧ s.veh.paused ∧ s.veh.dc = false then
    if s.veh.limit < 6000 then s else driveLimit (s.setVeh { s.veh with paused := false })
  else s

/-- PP invalid or no cable during a session. -/
def proximityLost (ohm : Nat) (s : State) : State :=
  if pilotOn s = false ∨ s.reg P.wdnPpMode = 1 then s
  else
    let s := (s.setReg P.irnPpOhm (ppReading ohm)).setVeh { s.veh with cable := cableRating ohm }
    if sessionOpen s ∧ cableRating ohm = 0 then violationCut 0x18 0 .high s else s

/-! ### Authorisation (R240, R333) -/

/-- Whether a prepaid session may start. -/
def creditStarts (s : State) : Bool := decide (s.regI P.boxPayMinStart ≤ s.regI P.boxCredit - creditFloor s)

/-- The session opened in the Box office. -/
def openSession (auth ident set : Nat) (s : State) : State :=
  let e : Session :=
    { set := set, auth := auth, start := s.now, number := s.box.number, imp := s.nrg.sets.getD (3 * set + 1) 0
      exp := s.nrg.sets.getD (3 * set + 2) 0, ident := ident, base := rateImports s set }
  ({ s with box := { s.box with session := some e, number := s.box.number + 1, creditOut := false } }).setReg P.boxSessionCost 0

/-- Phase Authorised entered: prepaid sessions need credit. -/
def authorise (auth ident : Nat) (s : State) : State :=
  let s := s.setVeh { s.veh with auth := none }
  if (auth = 1 ∨ auth = 2) ∧ creditStarts s = false then
    (if s.regI P.boxCredit ≤ creditFloor s then relay 11 0x09 3 0 s else s)
  else
    let s := setSes 2 (openSession auth ident (if s.veh.dc then 0 else 2) s)
    if s.veh.dc then s
    else if s.reg P.wdnHlcAc = 1 ∧ e0On s then driveFive s
    else driveLimit (s.setVeh { s.veh with limit := currentLimitMa s })

/-- Phase Plugged is left once authorisation is granted and no channel of the outlet is being calibrated (R297); in AC the cable must be
valid and the vehicle in state B (R240). -/
def leavePlugged (s : State) : State :=
  match s.veh.auth with
  | none => s
  | some (auth, ident) =>
    if ses s = 1 ∧ sessionsAllowed s ∧ calibrating s (if s.veh.dc then 0 else 2) = false ∧ (s.veh.dc ∨ (0 < ratingNow s ∧ s.reg P.irnCpState = 2)) then authorise auth ident s else s

/-- Authorisation granted to a plugged session: it stands until the phase can be left. -/
def grantSession (auth ident : Nat) (s : State) : State :=
  if ses s = 1 ∧ sessionsAllowed s then leavePlugged (s.setVeh { s.veh with auth := some (auth, ident) }) else s

/-- The proximity pilot measured and the limit recomputed; a cable that is now valid lets phase Plugged be left. -/
def limitRecompute (ohm : Nat) (s : State) : State :=
  let s := if pilotOn s then (s.setReg P.irnPpOhm (ppReading ohm)).setVeh { s.veh with cable := cableRating ohm } else s
  leavePlugged (slacAgain (recomputeLimit s))

/-! ### State changes of the pilot (R232, R237, R240, R253) -/

/-- The hidden state of a new session. -/
def VehState.fresh (v : VehState) (dc : Bool) : VehState :=
  { v with
      dc := dc, began := false, paused := false, auth := none, slacTry := 0, slacSeen := false, slacAt := none, sid := none, target := 0
      so2Open := false, vMax := 0, iMax := 0, isoLow := 0, isoRuns := 0, isoValid := false, rcSums := []
      rcTimes := List.replicate 7 0, rcTested := false, rcTesting := false }

/-- A vehicle plugged. -/
def newPlug (s : State) : State :=
  if sessionsAllowed s = false then driveHigh s
  else
    let s := ((setSes 1 s).setReg P.wdnSesProto 0).setReg P.wdnSesEnd 0
    let s := s.setVeh (s.veh.fresh (dcPost s))
    if s.veh.dc then driveFive s else driveHigh s

/-- SO3 closed for energy transfer, after the residual-current self-test and three periods in the state (R232, R240, R247). -/
def closeAc (s : State) : State :=
  if s.veh.rcTested = false then s.setVeh { s.veh with rcTesting := true }
  else if s.veh.streak < 3 then s
  else
    let s := closePairs 0x08 s
    if pairClosed s 3 then setSes 5 (s.setVeh { s.veh with began := true }) else s

/-- State A: unplugged. Earth faults latched at least 10 s ago clear with their cause (R248). -/
def stateA (s : State) : State :=
  let s := clearEarth (earthOld s) s
  let was := ses s
  let s := { s.setVeh { s.veh with seenB := false } with slac := SlacState.reset }
  let s := if s.present 11 then s.setReg P.tirGpState 0 else s
  if (List.range 4).any fun p => pairClosed s p then violationCut 0x17 0 .high s
  else
    let s := driveHigh (cutSession 0x00 s)
    if was = 8 then setSes 0 s else s

/-- State B. -/
def stateB (s : State) : State :=
  let s := s.setVeh { s.veh with seenB := true }
  if ses s = 0 ∨ ses s = 8 then newPlug s
  else if ses s = 1 then leavePlugged s
  else if ses s = 5 ∧ s.veh.dc = false then
    let s := openPairs 0x08 s
    if s.veh.paused then s else setSes 2 s
  else if ses s = 6 ∧ s.veh.dc = false then startWeldCheck (openPairs 0x08 s)
  else if 3 ≤ ses s ∧ ses s ≤ 5 then driveHigh (cutSession 0x00 s)
  else s

/-- State C, or D where ventilation is permitted. -/
def stateC (s : State) : State :=
  if ses s = 0 then newPlug s
  else if s.veh.dc = false ∧ (ses s = 2 ∨ ses s = 5) ∧ s.veh.drive = .pwm ∧ s.veh.paused = false then closeAc s
  else s

/-- The state changes within the last second, this one included. -/
def noteChange (s : State) : State :=
  s.setVeh { s.veh with changes := s.mono :: s.veh.changes.filter fun t => decide (s.mono < t + second) }

/-- A classified state acted upon. -/
def pilotAct (st : Nat) (high low : Int) (s : State) : State :=
  if st = 7 then violationCut 0x11 (ofSigned 32 high) .low s
  else if 2 ≤ s.veh.noDiode then violationCut 0x12 (ofSigned 32 low) .low s
  else if st = 5 then violationCut 0x13 (ofSigned 32 high) .low s
  else if s.reg P.wdnChatterMax < s.veh.changes.length then
    let s := violationCut 0x14 0 .high s
    s.setVeh { s.veh with barred := some (s.mono + 10 * second), changes := [] }
  else if st = 1 then stateA s
  else if 3 ≤ st ∧ s.veh.seenB = false then driveHigh (violation 0x15 0 s)
  else if st = 2 then stateB s
  else if st = 4 ∧ s.reg P.wdnAllowD = 0 then openPairs 0x0F s
  else stateC s

/-- The periods for which the class of the levels and a missing diode have stood. A report is one period's while PWM runs, and three
agreeing samples' without it (R232; DEDUCED, notes/assumptions/99.md). -/
def countPeriod (st : Nat) (low : Int) (s : State) : State :=
  let n := if s.veh.drive = .pwm then (if st = s.veh.cls then s.veh.streak + 1 else 1) else 3
  let d := if s.veh.drive = .pwm ∧ 2 ≤ st ∧ st ≤ 4 ∧ -11000 < low then s.veh.noDiode + 1 else 0
  s.setVeh { s.veh with cls := st, streak := n, noDiode := d }

/-- A report of the pilot's levels in mV. An out-of-band level keeps the last state for three periods (R253, 0x11). -/
def pilotReport (high low : Int) (s : State) : State :=
  if pilotOn s = false then drive .off 1000 s
  else if s.veh.drive = .low then (s.setRegI P.irnCpHighMv high).setRegI P.irnCpLowMv low
  else
    let s := if s.veh.drive = .off then driveHigh s else s
    let st := pilotState high
    let was := s.reg P.irnCpState
    let s := countPeriod st low ((s.setRegI P.irnCpHighMv high).setRegI P.irnCpLowMv low)
    if st = 7 ∧ s.veh.streak < 3 then s
    else pilotAct st high low (if st = was then s else noteChange (s.setReg P.irnCpState st))

/-! ### AC timers -/

/-- 6 s after the post ended or paused (R240, R241): SO3 opens. -/
def acEndingTimeout (s : State) : State :=
  if s.veh.dc then s
  else if ses s = 6 then startWeldCheck (openPairs 0x08 s)
  else if ses s = 5 ∧ s.veh.paused then openPairs 0x08 s
  else s

/-- WELDED latched in both channels (R239, R240). -/
def welded (unit : Nat) (s : State) : State := (latchBoth 8 0x0A unit id s).setReg P.wdnSesEnd 0x05

/-- The AC welding check ends: every phase below 50 V RMS. -/
def acWeldEnd (s : State) : State :=
  if ses s = 7 ∧ s.veh.dc = false then
    let ok := s.present 9 && (List.range 3).all fun p => decide (s.regI (P.tlyPhVRms p) < 50000000)
    setSes 8 (if ok then s else welded 3 s)
  else s

/-- State D lasted 3 s without permission. -/
def stateDTimeout (ms' : Nat) (s : State) : State :=
  if sessionOpen s ∧ s.reg P.irnCpState = 4 ∧ s.reg P.wdnAllowD = 0 then
    cutSession 0x16 (violation 0x16 ms' s)
  else s

/-- State C 6 s after the post ended PWM: SO3 opens under load. A pause keeps the session open (R241). -/
def stateCTimeout (ms' : Nat) (s : State) : State :=
  if s.reg P.irnCpState = 3 ∧ s.veh.dc = false ∧ ses s = 6 then
    startWeldCheck ((openPairs 0x08 (violation 0x1A ms' s)).setReg P.wdnSesEnd 0x1A)
  else s

/-- A phase current above 1.1 × I + 0.5 A for 10 s. -/
def acOvercurrent (ma : Nat) (s : State) : State :=
  if ses s = 5 ∧ s.veh.dc = false ∧ 11 * s.veh.limit + 5000 < 10 * ma then windSession 0x19 (violation 0x19 ma s) else s

/-- 3 s of state F end. -/
def stateFEnd (s : State) : State := if s.veh.drive = .low then driveHigh s else s

/-! ### Isolation (R242 to R244) -/

/-- The warning threshold in Ω. -/
def isoWarn (s : State) : Nat := s.reg P.irnIsoWarnOpv * s.reg P.wdnDcMaxV
/-- The fault threshold in Ω, never below the Iron's fixed term. -/
def isoFault (s : State) : Nat := max (s.reg P.irnIsoFaultOpv * s.reg P.wdnDcMaxV) (100 * s.reg P.wdnDcMaxV)

/-- Whether the DC path is energised. -/
def dcPath (s : State) : Bool := s.veh.dc && decide (3 ≤ ses s ∧ ses s ≤ 7)

/-- An earth fault latched by both channels: SO0 to SO3 open (R243, R245, R246, R247). -/
def earthFault (bit : Nat) (s : State) : State :=
  let s := s.setReg P.irnEarthFaults (setBit (s.reg P.irnEarthFaults) bit true)
  let s := settle { s with saf :=
    { s.saf with earthCause := setBit s.saf.earthCause bit true, earthAt := s.saf.earthAt.set bit s.mono } }
  safetyEvent 1 0x01 0xFF (safetyEvent 0 0x01 0xFF s)

/-- The cause of an earth fault is present or gone. -/
def earthCause (bit : Nat) (b : Bool) (s : State) : State :=
  { s with saf := { s.saf with earthCause := setBit s.saf.earthCause bit b } }

/-- An isolation period ends with a resistance in 0.1 kΩ. -/
def isolationPeriod (ohm100 : Nat) (s : State) : State :=
  if dcPath s = false ∨ s.pwr.ironOn = false ∨ s.domOn 58 = false then s
  else
    let r := min ohm100 0xFFFFFFFF
    let s := s.setReg P.irnIsoR (if 50000 < r then 0xFFFFFFFF else r)
    let s := s.setReg P.irnEarthFaults (setBit (s.reg P.irnEarthFaults) 0 (decide (100 * r < isoWarn s)))
    let low := decide (100 * r < isoFault s)
    let n := if low then s.veh.isoLow + 1 else 0
    let runs := s.veh.isoRuns + 1
    let s := earthCause 1 low
      (s.setVeh { s.veh with isoLow := n, isoRuns := runs, isoValid := s.veh.isoValid || (ses s == 3 && decide (2 ≤ runs) && !low) })
    if n = 2 then cutSession 0x02 (earthFault 1 s) else s

/-- EVSEIsolationStatus (R244): 0 Invalid, 1 Valid, 2 Warning, 3 Fault. -/
def isoStatus (s : State) : Nat :=
  if bitOf (s.reg P.irnEarthFaults) 1 then 3
  else if s.veh.isoRuns = 0 then 0
  else if bitOf (s.reg P.irnEarthFaults) 0 then 2
  else 1

/-- EVSEIsolationStatus, and whether EVSEStatusCode is EVSE_EmergencyShutdown: it is with a fault decided (R244). -/
def isoReport (s : State) : List Nat := [isoStatus s, ofBool (isoStatus s == 3)]

/-! ### Residual current (R245 to R247) -/

/-- The points of both curves: current in µA and time in ms. -/
def rcPoints (s : State) : List (Nat × Nat) :=
  ((List.range 4).map fun k =>
    let w := s.reg P.irnRcCurve / 2 ^ (32 * k) % 2 ^ 32
    (100 * bits w 31 16, bits w 15 0)) ++ [(6000, 10000), (60000, 300), (200000, 100)]

/-- The mean updated from the sum of ten more samples in mV, and judged. Samples of before measuring stopped do not count. -/
def residualUpdate (sumMv : Int) (s : State) : State :=
  if rcMeasured s = false then s.setVeh { s.veh with rcSums := [], rcTimes := List.replicate 7 0 }
  else
    let h := (sumMv :: s.veh.rcSums).take 20
    let sum : Int := h.foldl (· + ·) 0
    let mean := (sum * (s.reg P.irnRcScale : Int)).tdiv (10 * h.length)
    let s := (s.setVeh { s.veh with rcSums := h }).setRegI P.irnRcDcUa mean
    let s := earthCause 3 (decide (12000 < sumMv.natAbs)) s
    if s.veh.rcTesting then s
    else
      let pts := rcPoints s
      let ts := (List.range 7).map fun i =>
        if (pts.getD i (0, 0)).1 ≤ mean.natAbs then s.veh.rcTimes.getD i 0 + 1 else 0
      let trip := (List.range 7).any fun i => decide ((pts.getD i (0, 0)).2 ≤ ts.getD i 0 ∧ 0 < ts.getD i 0)
      let s := earthCause 2 ((List.range 7).any fun i => decide (0 < ts.getD i 0)) (s.setVeh { s.veh with rcTimes := ts })
      if trip ∧ bitOf (s.reg P.irnEarthFaults) 2 = false then driveHigh (cutSession 0x03 (earthFault 2 s)) else s

/-- The sensor signal out of range for 10 ms. -/
def rcSensorFault (s : State) : State :=
  if rcMeasured s then driveHigh (cutSession 0x03 (earthFault 3 s)) else s

/-- The self-test ends. -/
def rcSelfTest (mean : Int) (s : State) : State :=
  if s.veh.rcTesting = false ∨ rcMeasured s = false then s
  else
    let s := s.setVeh { s.veh with rcTesting := false }
    if 4900 ≤ mean ∧ mean ≤ 9100 then
      let s := s.setVeh { s.veh with rcTested := true }
      if s.reg P.irnCpState = 3 ∨ (s.reg P.irnCpState = 4 ∧ s.reg P.wdnAllowD = 1) then stateC s else s
    else earthCause 4 false (driveHigh (cutSession 0x03 (earthFault 4 s)))

/-! ### High-level messages (R249 to R253) -/

/-- A response sent. -/
def hlcReply (m : HlcMsg) (r : HlcRes) (vals : List Nat) (s : State) : State := s.emit (.hlc m r vals)

/-- The connection closed by the post. -/
def closeTcp (s : State) : State := (s.emit .tcpClosed).setVeh { s.veh with sid := none }

/-- The response code that the protocol in use has: ISO 15118-2 has the one named; another may answer FAILED instead. -/
def codeFor (r : HlcRes) (s : State) : HlcRes × State :=
  if s.reg P.wdnSesProto = 2 then (r, s)
  else
    let f := s.drawBits 1
    (if f.1 = 0 then r else .failed, f.2)

/-- A violation answered with a FAILED response: the connection closes and the session ends. -/
def hlcFail (m : HlcMsg) (code : Nat) (r : HlcRes) (s : State) : State :=
  let c := codeFor r (violation code 0 s)
  let s := closeTcp (hlcReply m c.1 [] c.2)
  if s.veh.dc ∧ ses s = 5 then windSession code s else driveHigh (cutSession code s)

/-- A message judged before its own meaning: decodable, of the session issued, and allowed in this phase. -/
def hlcGuard (m : HlcMsg) (sid : Nat) (decodable allowed : Bool) (ok : State → State) (s : State) : State :=
  if e0On s = false ∨ s.reg P.wdnSesProto = 0 ∨ sessionOpen s = false then s
  else if decodable = false then driveHigh (cutSession 0x25 (closeTcp (violation 0x25 0 s)))
  else if ¬ (s.veh.sid = some sid) then hlcFail m 0x24 .unknownSession s
  else if allowed = false then hlcFail m 0x23 .sequenceError s
  else ok s

/-- The first protocol of WDN_HLC_ORDER that the vehicle offers too (R249). -/
def chooseProto (s : State) (dc : Bool) (protos : List Nat) : Option Nat :=
  ((List.range 4).map fun k => s.reg P.wdnHlcOrder / 256 ^ k % 256).find? fun p =>
    decide (0 < p) && protos.contains p && (!(p == 3) || dc)

/-- supportedAppProtocolReq. -/
def appProtocol (decodable dc : Bool) (protos : List Nat) (s : State) : State :=
  if e0On s = false ∨ sessionOpen s = false ∨ (s.reg P.wdnSesProto = 0 ∧ fivePercent s = false) then s
  else if decodable = false then driveHigh (cutSession 0x25 (closeTcp (violation 0x25 0 s)))
  else if ¬ (s.reg P.wdnSesProto = 0) ∨ ¬ (ses s = 1 ∨ ses s = 2) then hlcFail .appProtocol 0x23 .sequenceError s
  else
    let s := s.setVeh { s.veh with dc := dc }
    match chooseProto s dc protos with
    | some p => hlcReply .appProtocol .ok [p] (s.setReg P.wdnSesProto p)
    | none =>
      let s := closeTcp (hlcReply .appProtocol .noNegotiation [] (violation 0x2E 0 s))
      if dc then driveHigh (cutSession 0x2E s)
      else if ses s = 2 then driveLimit (s.setVeh { s.veh with limit := currentLimitMa s })
      else driveHigh s

/-- SessionSetupReq: a SessionID issued, or the one in force taken up again on a new connection. -/
def sessionSetup (sid : Nat) (decodable : Bool) (s : State) : State :=
  if e0On s = false ∨ s.reg P.wdnSesProto = 0 ∨ sessionOpen s = false then s
  else if decodable = false then driveHigh (cutSession 0x25 (closeTcp (violation 0x25 0 s)))
  else
    match s.veh.sid with
    | some k => if sid = k then hlcReply .sessionSetup .ok [k] s else hlcFail .sessionSetup 0x23 .sequenceError s
    | none =>
      let f := s.drawBits 64
      hlcReply .sessionSetup .ok [f.1] (f.2.setVeh { f.2.veh with sid := some f.1 })

/-- The violation and response of a contract that is not usable: 1 signature, 2 chain, 3 expired, 4 revoked. -/
def contractFault (v : Nat) : Option (Nat × HlcRes) :=
  if v = 1 then some (0x2B, .signatureError)
  else if v = 2 then some (0x2B, .certChainError)
  else if v = 3 then some (0x2C, .certificateExpired)
  else if v = 4 then some (0x2C, .certificateRevoked)
  else none

/-- AuthorizationReq, with the verdict on a contract and its identity where it carries one. DIN SPEC 70121 has no PnC (R230): a contract
counts for nothing there. -/
def authorization (contract : Option (Nat × Nat)) (s : State) : State :=
  match (if s.reg P.wdnSesProto = 3 then none else contract) with
  | none => hlcReply .authorization (if ses s = 2 then .ok else .okOngoing) [] s
  | some (v, id') =>
    match contractFault v with
    | some (code, r) => hlcFail .authorization code r s
    | none =>
      let s := grantSession 4 id' s
      hlcReply .authorization (if ses s = 2 then .ok else .okOngoing) [] s

/-- CableCheckReq (R237). -/
def cableCheck (testOhm vMax iMax : Nat) (s : State) : State :=
  if ses s = 3 then hlcReply .cableCheck (if s.veh.isoValid then .ok else .okOngoing) (isoReport s) s
  else if vMax < Config.dcMinimum.1 ∨ iMax < Config.dcMinimum.2 then hlcFail .cableCheck 0x27 .wrongChargeParameter s
  else if testOhm < 85000 ∨ 115000 < testOhm then
    driveHigh (cutSession 0x01 (closeTcp (hlcReply .cableCheck .failed [0, 0] s)))
  else
    let s := s.setVeh { s.veh with
      vMax := vMax, iMax := iMax, modV := 10 * min vMax (s.reg P.wdnDcMaxV), modI := 0, override := false }
    let s := closePairs 0x06 s
    if pairClosed s 1 && pairClosed s 2 then hlcReply .cableCheck .okOngoing (isoReport s) (setSes 3 s)
    else driveHigh (cutSession 0x04 s)

/-- A target judged against the post's limits and the vehicle's own (R253, 0x26 and 0x27): none where it is inconsistent; else
the values in force and whether each limit was reached. -/
def clampTarget (volt amp : Nat) (s : State) : Option (Nat × Nat × Bool × Bool × State) :=
  if s.veh.vMax < volt ∨ s.veh.iMax < amp then none
  else
    let hv := decide (s.reg P.wdnDcMaxV < volt)
    let hi := decide (s.reg P.wdnDcMaxA < amp)
    let s := if hv || hi then violation 0x26 0 s else s
    some (min volt (s.reg P.wdnDcMaxV), min amp (s.reg P.wdnDcMaxA), hv, hi, s)

/-- PreChargeReq (R238). -/
def preCharge (volt amp : Nat) (s : State) : State :=
  match clampTarget volt amp s with
  | none => hlcFail .preCharge 0x27 .wrongChargeParameter s
  | some (v, a, hv, hi, s) =>
    let s := setSes 4 (s.setVeh { s.veh with target := v, modV := 10 * v, modI := 10 * a, override := false })
    hlcReply .preCharge (if s.veh.so2Open then .ok else .okOngoing) [ofBool hv, ofBool hi] s

/-- Whether both voltages stand within WDN_PRECHARGE_DV. -/
def prechargeNear (s : State) : Bool :=
  let dv := s.reg P.wdnPrechargeDv * 1000000
  let a := s.regI (P.tlyOutV 0)
  let b := s.regI (P.tlyOutV 1)
  decide ((a - s.veh.target * 1000000).natAbs ≤ dv) && decide ((b - a).natAbs ≤ dv)

/-- Both outlets have been near the target for 100 ms: SO0 closes. -/
def prechargeMet (s : State) : State :=
  if ses s = 4 ∧ s.veh.dc ∧ s.present 9 ∧ prechargeNear s then closePairs 0x01 s else s

/-- 50 ms after SO0 closed: SO2 opens. -/
def prechargeSo2 (s : State) : State :=
  if ses s = 4 ∧ s.veh.dc ∧ pairClosed s 0 then (openPairs 0x04 s).setVeh { s.veh with so2Open := true } else s

/-- The precharge condition was not met in time. -/
def prechargeTimeout (ms' : Nat) (s : State) : State :=
  if ses s = 4 ∧ pairClosed s 0 = false then
    let s := hlcReply .preCharge .failed [] (violation 0x29 ms' s)
    let s := closeTcp (s.setVeh { s.veh with modV := 0 })
    driveHigh (cutSession 0x29 s)
  else s

/-- PowerDeliveryReq start or stop. -/
def powerDelivery (start : Bool) (s : State) : State :=
  if start then
    if s.veh.dc then
      if ses s = 4 ∧ s.veh.so2Open then
        hlcReply .powerDelivery .ok [] (setSes 5 (s.setVeh { s.veh with began := true }))
      else hlcFail .powerDelivery 0x28 .powerDeliveryNotApplied s
    else if ses s = 1 then hlcFail .powerDelivery 0x28 .powerDeliveryNotApplied s
    else hlcReply .powerDelivery .ok [] s
  else windSession 0x00 (hlcReply .powerDelivery .ok [] s)

/-- EVSEMaximumCurrentLimit in A: the post's, and what the share allows at the present voltage. -/
def maxCurrent (s : State) : Nat :=
  let v := (s.regI (P.tlyOutV 0)).toNat
  if s.reg P.tirShareW = 0 then 0
  else if v = 0 then s.reg P.wdnDcMaxA
  else min (s.reg P.wdnDcMaxA) (s.reg P.tirShareW * 1000000 / v)

/-- CurrentDemandReq: limits, isolation and the limits reached. -/
def currentDemand (volt amp : Nat) (s : State) : State :=
  if ses s = 5 then
    match clampTarget volt amp s with
    | none => hlcFail .currentDemand 0x27 .wrongChargeParameter s
    | some (v, a, hv, hi, s) =>
      let s := s.setVeh { s.veh with modV := 10 * v, modI := 10 * min a (maxCurrent s), override := false, paused := false }
      hlcReply .currentDemand .ok (isoReport s ++ [maxCurrent s, ofBool hv, ofBool hi]) s
  else hlcReply .currentDemand .ok (isoReport s ++ [0, 0, 0]) s

/-- SessionStopReq. -/
def sessionStop (s : State) : State := windSession 0x00 (hlcReply .sessionStop .ok [] s)

/-- Whether a CurrentDemandReq is answered: in energy transfer, and after an isolation fault with the fault. -/
def demandAllowed (s : State) : Bool := s.veh.dc && (ses s == 5 || (ses s == 7 && s.reg P.wdnSesEnd == 2))

/-- Outlet A's current has fallen, or 500 ms have passed: the contactors open and the welding check starts. -/
def rampDownEnd (s : State) : State :=
  if ses s = 6 ∧ s.veh.dc then startWeldCheck (openPairs 0x0F s) else s

/-- WELDED of the DC path: the mirrors of SO0 and SO1 that report closed name the pole (R239). -/
def dcWelded (s : State) : State :=
  match [0, 1].filter fun p => (mirrorsOf s p).any fun n => inDemand s 1 n with
  | [] => welded 0xFF s
  | poles => poles.foldl (fun s p => welded p s) s

/-- The DC welding check ends: outlet A's peak in mV and the time of its fall below 60 V in ms. -/
def dcWeldEnd (peakMv fallMs : Nat) (s : State) : State :=
  if ses s = 7 ∧ s.veh.dc then
    let s := s.setVeh { s.veh with modV := 0, override := true }
    setSes 8 (driveHigh (if peakMv < 30000 ∧ fallMs ≤ 1000 then s else dcWelded s))
  else s

/-- No CM_SLAC_PARM.REQ within 50 s of 5 % PWM. -/
def slacTimeout (ms' : Nat) (s : State) : State :=
  if fivePercent s = false ∨ s.veh.slacSeen ∨ ¬ (ses s = 1 ∨ ses s = 2) then s
  else
    let s := violation 0x21 ms' s
    if s.veh.dc = false then driveLimit (s.setVeh { s.veh with limit := currentLimitMa s })
    else if s.veh.slacTry = 0 then driveHigh (s.setVeh { s.veh with slacTry := 1, slacAt := some s.mono })
    else drive .low 1000 (cutSession 0x21 s)

/-- No request for 60 s. -/
def sequenceTimeout (ms' : Nat) (s : State) : State :=
  if s.reg P.wdnSesProto = 0 ∨ sessionOpen s = false ∨ 6 ≤ ses s then s
  else
    let s := closeTcp (violation 0x22 ms' s)
    if s.veh.dc ∧ ses s = 5 then windSession 0x22 s else driveHigh (cutSession 0x22 s)

/-- No CurrentDemandReq for 1 s in energy transfer. -/
def demandGap (ms' : Nat) (s : State) : State :=
  if ses s = 5 ∧ s.veh.dc ∧ s.veh.paused = false then
    let s := violation 0x2A ms' s
    s.setVeh { s.veh with modI := 0, paused := true }
  else s

/-- The connection was lost in energy transfer and none came within 2 s. -/
def tcpLost (ms' : Nat) (s : State) : State :=
  if ses s = 5 ∧ ¬ (s.reg P.wdnSesProto = 0) then
    let s := (violation 0x2D ms' s).setVeh { s.veh with sid := none }
    if s.veh.dc then windSession 0x2D s else driveHigh (cutSession 0x2D s)
  else s

/-! ### What other units do to a session -/

/-- I02 stops: a DC session ramps down (R236). -/
def e0Lost (s : State) : State :=
  if s.veh.dc ∧ 1 ≤ ses s ∧ ses s ≤ 5 then windSession 0x07 (s.setVeh { s.veh with override := true })
  else s.setVeh { s.veh with override := true }

/-- The pilot interface lost its supplies: the running session ends. -/
def pilotLost (s : State) : State := if pilotOn s then s else drive .off 1000 (cutSession 0x06 s)

/-- I08 stops: the session is gone. -/
def vehicleForget (s : State) : State := s.setVeh { VehState.reset with barred := s.veh.barred }

/-- A VSUP warning ends every session (R254). -/
def sessionPowerLoss (s : State) : State :=
  if s.present 8 ∧ sessionOpen s then setSes 8 (moduleZero (openPairs 0x0F (s.setReg P.wdnSesEnd 0x06))) else s

/-- The Tally stops or its clock is lost: a running session ends within 100 ms with end cause 0x01 (R301, R318). -/
def meterLost (s : State) : State := if sessionOpen s then driveHigh (cutSession 0x01 s) else s

/-! ### The commands -/

/-- CP_STATE_REPORT. -/
def execCpStateReport (high low : Int) (s : State) : Host.Outcome State Fault Refusal := .next (pilotReport high low s)
/-- CURRENT_LIMIT_RECOMPUTE. -/
def execCurrentLimitRecompute (ppOhm : Nat) (s : State) : Host.Outcome State Fault Refusal := .next (limitRecompute ppOhm s)
/-- AC_RESUME. -/
def execAcResume (s : State) : Host.Outcome State Fault Refusal := .next (acResume s)
/-- PROXIMITY_LOST. -/
def execProximityLost (ppOhm : Nat) (s : State) : Host.Outcome State Fault Refusal := .next (proximityLost ppOhm s)
/-- SUPPORTED_APP_PROTOCOL_REQ. -/
def execSupportedAppProtocolReq (decodable dc : Bool) (protos : List Nat) (s : State) : Host.Outcome State Fault Refusal :=
  .next (appProtocol decodable dc protos s)
/-- CABLE_CHECK_REQ. -/
def execCableCheckReq (sid : Nat) (decodable : Bool) (testOhm vMax iMax : Nat) (s : State) : Host.Outcome State Fault Refusal :=
  .next (hlcGuard .cableCheck sid decodable (s.veh.dc && (ses s == 2 || ses s == 3)) (cableCheck testOhm vMax iMax) s)
/-- PRE_CHARGE_REQ. -/
def execPreChargeReq (sid : Nat) (decodable : Bool) (volt amp : Nat) (s : State) : Host.Outcome State Fault Refusal :=
  .next (hlcGuard .preCharge sid decodable (s.veh.dc && (ses s == 4 || (ses s == 3 && s.veh.isoValid))) (preCharge volt amp) s)
/-- PRECHARGE_CONDITION_MET. -/
def execPrechargeConditionMet (s : State) : Host.Outcome State Fault Refusal := .next (prechargeMet s)
/-- PRECHARGE_SO2_OPEN. -/
def execPrechargeSo2Open (s : State) : Host.Outcome State Fault Refusal := .next (prechargeSo2 s)
/-- PRECHARGE_TIMEOUT. -/
def execPrechargeTimeout (elapsedMs : Nat) (s : State) : Host.Outcome State Fault Refusal := .next (prechargeTimeout elapsedMs s)
/-- POWER_DELIVERY_REQ. -/
def execPowerDeliveryReq (sid : Nat) (decodable start : Bool) (s : State) : Host.Outcome State Fault Refusal :=
  .next (hlcGuard .powerDelivery sid decodable (start || ses s == 5) (powerDelivery start) s)
/-- CURRENT_DEMAND_REQ. -/
def execCurrentDemandReq (sid : Nat) (decodable : Bool) (volt amp : Nat) (s : State) : Host.Outcome State Fault Refusal :=
  .next (hlcGuard .currentDemand sid decodable (demandAllowed s) (currentDemand volt amp) s)
/-- SESSION_STOP_REQ. -/
def execSessionStopReq (sid : Nat) (decodable : Bool) (s : State) : Host.Outcome State Fault Refusal :=
  .next (hlcGuard .sessionStop sid decodable true sessionStop s)
/-- RAMP_DOWN_END. -/
def execRampDownEnd (s : State) : Host.Outcome State Fault Refusal := .next (rampDownEnd s)
/-- DC_WELDING_CHECK_END. -/
def execDcWeldingCheckEnd (peakMv fallMs : Nat) (s : State) : Host.Outcome State Fault Refusal := .next (dcWeldEnd peakMv fallMs s)
/-- AC_AUTHORISATION. -/
def execAcAuthorisation (auth ident : Nat) (s : State) : Host.Outcome State Fault Refusal :=
  .next (if s.veh.dc then s else grantSession auth ident s)
/-- AC_ENDING_TIMEOUT. -/
def execAcEndingTimeout (s : State) : Host.Outcome State Fault Refusal := .next (acEndingTimeout s)
/-- AC_WELDING_CHECK_END. -/
def execAcWeldingCheckEnd (s : State) : Host.Outcome State Fault Refusal := .next (acWeldEnd s)
/-- ISOLATION_PERIOD_END. -/
def execIsolationPeriodEnd (ohm100 : Nat) (s : State) : Host.Outcome State Fault Refusal := .next (isolationPeriod ohm100 s)
/-- RESIDUAL_CURRENT_UPDATE. -/
def execResidualCurrentUpdate (sumMv : Int) (s : State) : Host.Outcome State Fault Refusal := .next (residualUpdate sumMv s)
/-- RC_SENSOR_FAULT. -/
def execRcSensorFault (s : State) : Host.Outcome State Fault Refusal := .next (rcSensorFault s)
/-- RC_SELF_TEST. -/
def execRcSelfTest (meanUa : Int) (s : State) : Host.Outcome State Fault Refusal := .next (rcSelfTest meanUa s)
/-- SLAC_TIMEOUT. -/
def execSlacTimeout (elapsedMs : Nat) (s : State) : Host.Outcome State Fault Refusal := .next (slacTimeout elapsedMs s)
/-- SEQUENCE_TIMEOUT. -/
def execSequenceTimeout (elapsedMs : Nat) (s : State) : Host.Outcome State Fault Refusal := .next (sequenceTimeout elapsedMs s)
/-- CURRENT_DEMAND_GAP. -/
def execCurrentDemandGap (elapsedMs : Nat) (s : State) : Host.Outcome State Fault Refusal := .next (demandGap elapsedMs s)
/-- STATE_D_TIMEOUT. -/
def execStateDTimeout (elapsedMs : Nat) (s : State) : Host.Outcome State Fault Refusal := .next (stateDTimeout elapsedMs s)
/-- STATE_C_TIMEOUT. -/
def execStateCTimeout (elapsedMs : Nat) (s : State) : Host.Outcome State Fault Refusal := .next (stateCTimeout elapsedMs s)
/-- AC_OVERCURRENT_TIMEOUT. -/
def execAcOvercurrentTimeout (currentMa : Nat) (s : State) : Host.Outcome State Fault Refusal := .next (acOvercurrent currentMa s)
/-- STATE_F_END. -/
def execStateFEnd (s : State) : Host.Outcome State Fault Refusal := .next (stateFEnd s)
/-- TCP_CONNECTION_LOSS. -/
def execTcpConnectionLoss (elapsedMs : Nat) (s : State) : Host.Outcome State Fault Refusal := .next (tcpLost elapsedMs s)
/-- SESSION_SETUP_REQ. -/
def execSessionSetupReq (sid : Nat) (decodable : Bool) (s : State) : Host.Outcome State Fault Refusal :=
  .next (sessionSetup sid decodable s)
/-- AUTHORIZATION_REQ. -/
def execAuthorizationReq (sid : Nat) (decodable : Bool) (contract : Option (Nat × Nat)) (s : State) :
    Host.Outcome State Fault Refusal :=
  .next (hlcGuard .authorization sid decodable (ses s == 1 || ses s == 2) (authorization contract) s)
/-- COST_ACCRUAL: at the credit floor the Warden ends the session in order. -/
def execCostAccrual (s : State) : Host.Outcome State Fault Refusal :=
  let s := costAccrue s
  let s' := reportFloor s
  .next (if floorReached s ∧ s.present 8 then windSession 0x01 s' else s')
/-- CONVERTER_CLOCK_LOST. -/
def execConverterClockLost (s : State) : Host.Outcome State Fault Refusal := .next (meterLost (converterClockLost s))

/-- SAFETY_INPUT_FILTER_CHANGE. -/
def execSafetyInputFilterChange (ch input contact : Nat) (closed : Bool) (s : State) : Host.Outcome State Fault Refusal :=
  .next (sessionCheck 0x04 (filterChange ch input contact closed s))
/-- DISCREPANCY_TIMEOUT. -/
def execDiscrepancyTimeout (ch input : Nat) (s : State) : Host.Outcome State Fault Refusal :=
  .next (sessionCheck 0x04 (discTimeout ch input s))
/-- TEST_PULSE. -/
def execTestPulse (failed : List Nat) (s : State) : Host.Outcome State Fault Refusal :=
  .next (sessionCheck 0x04 (testPulse failed s))
/-- MIRROR_TIMEOUT. -/
def execMirrorTimeout (pair : Nat) (s : State) : Host.Outcome State Fault Refusal :=
  .next (sessionCheck 0x05 (mirrorTimeout pair s))
/-- READBACK_MISMATCH. -/
def execReadbackMismatch (pair : Nat) (s : State) : Host.Outcome State Fault Refusal :=
  .next (sessionCheck 0x04 (readbackMismatch pair s))
/-- SWITCH_CURRENT_LIMIT_TIMEOUT. -/
def execSwitchCurrentLimitTimeout (pair : Nat) (s : State) : Host.Outcome State Fault Refusal :=
  .next (sessionCheck 0x04 (currentLimit pair s))
/-- TOTAL_OVERLOAD_TIMEOUT. -/
def execTotalOverloadTimeout (s : State) : Host.Outcome State Fault Refusal := .next (sessionCheck 0x04 (totalOverload s))
/-- DARK_TEST. -/
def execDarkTest (pair : Nat) (ok2 ok6 : Bool) (s : State) : Host.Outcome State Fault Refusal :=
  .next (sessionCheck 0x04 (darkTest pair ok2 ok6 s))
/-- PROMPTER_ANSWER. -/
def execPrompterAnswer (word seq dt : Nat) (aborted : Bool) (s : State) : Host.Outcome State Fault Refusal :=
  .next (sessionCheck 0x04 (prompterAnswer word seq dt aborted s))
/-- PROMPTER_ANSWER_TIMEOUT. -/
def execPrompterAnswerTimeout (s : State) : Host.Outcome State Fault Refusal := .next (sessionCheck 0x04 (prompterFail s))
/-- BLOCK_CRC_CHECK. -/
def execBlockCrcCheck (s : State) : Host.Outcome State Fault Refusal := .next (sessionCheck 0x04 (checkBlocks s))
/-- IRON_OVERTEMP. -/
def execIronOvertemp (temp : Int) (s : State) : Host.Outcome State Fault Refusal := .next (sessionCheck 0x04 (ironTemp temp s))
/-- IRON_EVENT_KEEPER_DELIVERY. -/
def execIronEventKeeperDelivery (s : State) : Host.Outcome State Fault Refusal := .next (keeperDeliver s)

end Sys2Proof.Machine
end

