-- ==== Sys2Proof/Machine/Tirwa.lean ====
section
/-!
DEFINITION. The Tirwa house network (spec/14_tirwa_house_network.md R351 to R388): frames, neighbours, routes, floods, seats, the
lead, the solar allocation and tone maps. A frame is its frame control and its MAC frame; symbols and codewords appear only as
the SYMBOLS count.
-/

namespace Sys2Proof.Machine

open Sys2Proof

/-! ### Frame control (R357) -/

/-- The state of Tirwa replaced. -/
def State.setTir (s : State) (t : TirState) : State := { s with tir := t }
/-- TYPE. -/
def fcType (fc : Nat) : Nat := bits fc 127 124
/-- PRIO. -/
def fcPrio (fc : Nat) : Nat := bits fc 123 122
/-- FSEQ. -/
def fcSeq (fc : Nat) : Nat := bits fc 103 96
/-- SRC. -/
def fcSrc (fc : Nat) : Nat := bits fc 63 48
/-- DST. -/
def fcDst (fc : Nat) : Nat := bits fc 47 32
/-- ACK_REQ. -/
def fcAckReq (fc : Nat) : Bool := bitOf fc 115
/-- ACK_STATUS. -/
def fcAckStatus (fc : Nat) : Nat := bits fc 31 30

/-- The FCS over bits [127:16]. -/
def fcCheck (fc : Nat) : Nat := crc16 ((toBytes 16 fc).drop 2)

/-- A frame control with its FCS. -/
def sealFc (fc : Nat) : Nat := setBits fc 15 0 (fcCheck fc)

/-- A seat that a frame may carry (R8). -/
def seatOk (n : Nat) : Bool := decide (n ≤ 0x0FFF) || n == 0xFFFE || n == 0xFFFF

/-- The own L1 phase at a moment, 65,536 units to the turn, where the mains are tracked (R289). -/
def ownPhase (s : State) (t : Nat) : Option Nat :=
  let p := s.reg P.irnMainsPeriod
  if s.reg P.irnMainsState = 1 ∧ 0 < p ∧ s.reg P.tlyMainsCross ≤ t then
    some ((t - s.reg P.tlyMainsCross) * 200000000 / (p * 256) % 65536)
  else none

/-- Whether a received frame control is accepted: FCS, house tag and seats. -/
def fcOk (s : State) (fc : Nat) : Bool :=
  inHouse s && bits fc 15 0 == fcCheck fc && bits fc 79 64 == s.reg P.smgHouseId % 65536 && seatOk (fcSrc fc)
    && seatOk (fcDst fc)

/-- The frame control of a frame that the post sends now. -/
def mkFc (s : State) (type prio mode tmi gen ack symbols fseq dst status guard : Nat) : Nat :=
  let ph := ownPhase s s.now
  sealFc (status % 4 * 2 ^ 30 + dst % 2 ^ 16 * 2 ^ 32 + s.seat % 2 ^ 16 * 2 ^ 48 + s.reg P.smgHouseId % 2 ^ 16 * 2 ^ 64
    + ph.getD 0 * 2 ^ 80 + fseq % 256 * 2 ^ 96 + symbols % 1024 * 2 ^ 104 + ofBool ph.isSome * 2 ^ 114 + ack % 2 * 2 ^ 115
    + gen % 2 * 2 ^ 116 + tmi % 4 * 2 ^ 117 + mode % 4 * 2 ^ 119 + guard % 2 * 2 ^ 121 + prio % 4 * 2 ^ 122
    + type % 16 * 2 ^ 124)

/-! ### MAC frames (R358, R360) -/

/-- The header word of a MAC frame. -/
def macHead (mac : Bytes) : Nat := ofBytes (mac.take 16)
/-- KIND. -/
def macKind (mac : Bytes) : Nat := bits (macHead mac) 63 56
/-- ORIGIN. -/
def macOrigin (mac : Bytes) : Nat := bits (macHead mac) 95 80
/-- FINAL. -/
def macFinal (mac : Bytes) : Nat := bits (macHead mac) 79 64
/-- HOPS. -/
def macHops (mac : Bytes) : Nat := bits (macHead mac) 55 52
/-- COUNT. -/
def macCount (mac : Bytes) : Nat := bits (macHead mac) 31 0
/-- The body. -/
def macBody (mac : Bytes) : Bytes := slice mac 16 (bits (macHead mac) 47 32)

/-- The house MAC of header and body. -/
def houseMac (s : State) (l : Bytes) : Bytes := (aesCmac (toBytes 16 (s.tir.houseKey.getD 0)) l).take 8

/-- The header of an item. -/
def TxItem.head (t : TxItem) (house : Nat) : Nat :=
  t.count % 2 ^ 32 + t.body.length % 2 ^ 16 * 2 ^ 32 + t.hops % 16 * 2 ^ 52 + t.kind % 256 * 2 ^ 56 + t.final % 2 ^ 16 * 2 ^ 64
    + t.origin % 2 ^ 16 * 2 ^ 80 + house % 2 ^ 32 * 2 ^ 96

/-- The MAC frame of an item. -/
def TxItem.mac (t : TxItem) (s : State) : Bytes :=
  let l := toBytes 16 (t.head (s.reg P.smgHouseId)) ++ t.body
  let l := if t.kind = 1 then l else l ++ houseMac s l
  l ++ toBytes 4 (crc32 l)

/-- The length of a MAC frame that its header gives. -/
def macLength (mac : Bytes) : Nat := 16 + bits (macHead mac) 47 32 + (if macKind mac = 1 then 4 else 12)

/-- Whether the CRC-32 of a received MAC frame holds. -/
def macCrcOk (mac : Bytes) : Bool :=
  decide (20 ≤ mac.length) && mac.length == macLength mac && ofBytes (mac.drop (mac.length - 4)) == crc32 (mac.take (mac.length - 4))

/-- Whether the house MAC of a received control frame holds. -/
def macAuthentic (s : State) (mac : Bytes) : Bool :=
  let n := mac.length - 12
  slice mac n 8 == houseMac s (mac.take n)

/-- The post's identity as a number. -/
def State.ident (s : State) : Nat := ofBytes s.postId

/-! ### Neighbours (R368) and tone maps (R361 to R365) -/

/-- The 120 s for which a map lives. -/
def mapLife : Nat := 120 * second

/-- Whether a map is in force. -/
def ToneMap.valid (m : ToneMap) (mono : Nat) : Bool := !(m.body == []) && decide (mono < m.at_ + mapLife)
/-- Information bits per symbol of a map. -/
def ToneMap.info (m : ToneMap) : Nat := ofBytes (slice m.body 5 2)
/-- The symbol time of a map in µs. -/
def ToneMap.symbol (m : ToneMap) : Nat := if bitOf (m.body.getD 0 0) 5 then 40 else 36
/-- The information bits of a codeword of a map. -/
def ToneMap.codeword (m : ToneMap) : Nat := [972, 1296, 1620, 972].getD (bits (m.body.getD 0 0) 4 3) 972
/-- The link rate of a map in 0.1 Mbit/s. -/
def ToneMap.rate (m : ToneMap) : Nat := m.info * 10 / m.symbol

/-- A neighbour newly heard. -/
def Neigh.fresh (seat mono : Nat) : Neigh :=
  { seat := seat, ident := 0, heard := mono, txMaps := [], rxMaps := [], results := [], sample := 7, samples := 0, cls := 7
    adverts := [], via := false }

/-- The default map in force among maps. -/
def defaultMap (mono : Nat) (l : List ToneMap) : Option ToneMap := l.find? fun m => m.tmi == 0 && m.valid mono

/-- The rate towards a neighbour in 0.1 Mbit/s. -/
def Neigh.rate (n : Neigh) (mono : Nat) : Nat := ((defaultMap mono n.txMaps).map ToneMap.rate).getD 48
/-- The rate from a neighbour. -/
def Neigh.rateRx (n : Neigh) (mono : Nat) : Nat := ((defaultMap mono n.rxMaps).map ToneMap.rate).getD 48

/-- A neighbour of the table. -/
def State.neigh (s : State) (seat : Nat) : Option Neigh := s.tir.neigh.find? fun n => n.seat == seat

/-- The table replaced, and TIR_NEIGH_COUNT with it. -/
def setNeighs (l : List Neigh) (s : State) : State := (s.setTir { s.tir with neigh := l }).setReg P.tirNeighCount l.length

/-- A neighbour of the table changed. -/
def updNeigh (seat : Nat) (f : Neigh → Neigh) (s : State) : State :=
  s.setTir { s.tir with neigh := s.tir.neigh.map fun n => if n.seat = seat then f n else n }

/-- The place of the neighbour with the lowest rate. -/
def slowest (mono : Nat) (l : List Neigh) : Nat :=
  (List.range l.length).foldl (fun b i =>
    if (l.getD i (Neigh.fresh 0 0)).rate mono < (l.getD b (Neigh.fresh 0 0)).rate mono then i else b) 0

/-- A neighbour put into the table; in a full one it replaces the neighbour with the lowest rate. -/
def addNeigh (seat : Nat) (s : State) : State :=
  let l := s.tir.neigh
  let n := Neigh.fresh seat s.mono
  if l.length < 256 then setNeighs (l ++ [n]) s else setNeighs (setAt l (slowest s.mono l) n) s

/-- The phase class of a difference of 65,536 units: k within 20° of k × 60°, 7 otherwise (R376). -/
def phaseClass (d : Nat) : Nat :=
  ((List.range 6).find? fun k =>
    let x := (d * 36 + 65536 * (36 + 2 - 6 * k)) % (36 * 65536)
    decide (x ≤ 4 * 65536)).getD 7

/-- A phase sample of a neighbour; one of no class ends the run of samples that agree. -/
def Neigh.sampled (n : Neigh) (k : Nat) : Neigh :=
  if 5 < k then { n with sample := 7, samples := 0 }
  else
    let c := if k = n.sample then min 4 (n.samples + 1) else 1
    { n with sample := k, samples := c, cls := if c = 4 then k else n.cls }

/-- The map that a frame used is in force at the receiver, and the older generation goes (R363). -/
def noteGeneration (fc : Nat) (s : State) : State :=
  if bits fc 120 119 = 0 then
    updNeigh (fcSrc fc) (fun n => { n with rxMaps := n.rxMaps.filter fun m =>
      !(m.tmi == bits fc 118 117) || m.gen == bitOf fc 116 || !(n.rxMaps.any fun k => k.tmi == m.tmi && k.gen == bitOf fc 116) }) s
  else s

/-- The result of a unicast frame to a neighbour kept among the last 32. -/
def noteResult (seat : Nat) (ok : Bool) (s : State) : State :=
  updNeigh seat (fun n => { n with results := (ok :: n.results).take 32 }) s

/-! ### Routes (R369, R370) -/

/-- A candidate: bottleneck, hops, next hop. -/
abbrev Cand := Nat × Nat × Nat

/-- Whether a candidate is better than another: highest B, fewest hops, lowest seat. -/
def Cand.better (a b : Cand) : Bool :=
  decide (b.1 < a.1) || (a.1 == b.1 && (decide (a.2.1 < b.2.1) || (a.2.1 == b.2.1 && decide (a.2.2 < b.2.2))))

/-- The candidate that a neighbour gives for a destination. -/
def candOf (mono dest : Nat) (n : Neigh) : Option Cand :=
  if n.seat = dest then some (n.rate mono, 1, n.seat)
  else
    match n.adverts.find? fun a => a.1 == dest with
    | none => none
    | some a => if a.2.2 + 1 ≤ 8 then some (min a.2.1 (n.rate mono), a.2.2 + 1, n.seat) else none

/-- The best candidate for a destination. -/
def bestCand (s : State) (dest : Nat) : Option Cand :=
  s.tir.neigh.foldl (fun (b : Option Cand) n =>
    match candOf s.mono dest n, b with
    | none, b => b
    | some c, none => some c
    | some c, some d => if c.better d then some c else some d) none

/-- A route of the table. -/
def State.route (s : State) (dest : Nat) : Option Route := s.tir.routes.find? fun r => r.dest == dest

/-- A route stored. -/
def putRoute (r : Route) (s : State) : State :=
  s.setTir { s.tir with routes := (s.tir.routes.filter fun x => !(x.dest == r.dest)) ++ [r] }

/-- Whether a route works. -/
def Route.works (r : Route) : Bool := decide (r.hops ≤ 8)

/-- A route that fails with no other candidate: the destination is unreachable. -/
def Route.lost (r : Route) (mono : Nat) : Route :=
  { r with next := 0xFFFF, rate := 0, hops := 15, at_ := mono, changed := true }

/-- The route to a destination chosen again; `fresh` is the neighbour whose hello refreshes what goes through it. -/
def chooseRoute (fresh dest : Nat) (s : State) : State :=
  if dest = s.seat ∨ 0x0FFF < dest then s
  else
    let old := s.route dest
    let cur := match old with
      | some r => if r.works then (s.neigh r.next).bind (candOf s.mono dest) else none
      | none => none
    match cur, bestCand s dest, old with
    | none, none, some r => if r.works then putRoute (r.lost s.mono) s else s
    | none, none, none => s
    | none, some b, _ => putRoute ⟨dest, b.2.2, b.1, b.2.1, s.mono, true, (old.map Route.told).getD 0⟩ s
    | some c, some b, some r =>
      let k := if b.1 * 5 > c.1 * 6 then b else c
      putRoute ⟨dest, k.2.2, k.1, k.2.1, if k.2.2 = fresh ∨ ¬ (k.2.2 = r.next) then s.mono else r.at_,
        r.changed || !(k.2.2 == r.next && k.1 == r.rate && k.2.1 == r.hops), r.told⟩ s
    | some _, _, _ => s

/-- The destinations that the post knows of. -/
def knownDests (s : State) : List Nat :=
  (s.tir.routes.map Route.dest ++ s.tir.neigh.flatMap fun n => n.seat :: n.adverts.map (·.1)).eraseDups

/-- Every route chosen again. -/
def chooseRoutes (fresh : Nat) (s : State) : State := (knownDests s).foldl (fun s d => chooseRoute fresh d s) s

/-- The repeater role follows the neighbours' routes (R370). -/
def updateRepeater (s : State) : State :=
  s.setReg P.smgRole (setBit (s.reg P.smgRole) 0 (s.tir.neigh.any Neigh.via))

/-- What every accepted frame control does: its sender is a neighbour, and it may give a phase sample. -/
def heardFrom (fc : Nat) (s : State) : State :=
  let src := fcSrc fc
  if 0x0FFF < src ∨ src = s.seat then s
  else
    let s := match s.neigh src with
      | none => if s.tir.neigh.length < 256 then addNeigh src s else updateRepeater (chooseRoutes 0xFFFF (addNeigh src s))
      | some _ => updNeigh src (fun n => { n with heard := s.mono }) s
    match ownPhase s s.now with
    | none => s
    | some p =>
      if bitOf fc 114 then updNeigh src (fun n => n.sampled (phaseClass ((p + 65536 - bits fc 95 80) % 65536))) s else s

/-! ### Sending -/

/-- A control frame of the post under its next COUNT. -/
def sendControl (kind final prio : Nat) (next : Option Nat) (body : Bytes) (s : State) : State :=
  let c := s.tir.count + 1
  let t : TxItem :=
    { kind := kind, origin := s.seat, final := final, hops := 0, count := c, body := body, prio := prio, next := next, tries := 0
      sound := false }
  tirSend t (if inHouse s then s.setTir { s.tir with count := c } else s)

/-- The body of a hello (R373). -/
def helloBody (s : State) (l : List Route) : Bytes :=
  toBytes 16 (s.reg P.tirLeadSeat * 2 ^ 16 + l.length % 256 * 2 ^ 32 + s.reg P.smgRole * 2 ^ 40 + s.reg P.smgTier * 2 ^ 48
      + s.reg P.tirLeadPref * 2 ^ 56 + s.ident * 2 ^ 64)
    ++ l.flatMap fun r => toBytes 2 r.dest ++ toBytes 2 r.rate ++ [r.hops % 256, 0, 0, 0]

/-- A hello: every route that changed, then a rotating slice of the rest, 160 in all (R370). C0 sends it also while E1 is shed (R114). -/
def sendHello (s : State) : State :=
  if inHouse s = false then s
  else
    let ch := (s.tir.routes.filter Route.changed).take 160
    let rest := s.tir.routes.filter fun r => !r.changed
    let k := if rest.length = 0 then 0 else s.tir.slice % rest.length
    let part := (rest.drop k ++ rest.take k).take (160 - ch.length)
    let sent := ch.map Route.dest
    let s' := sendControl 2 0xFFFF 1 none (helloBody s (ch ++ part)) s
    s'.setTir { s'.tir with
      slice := k + part.length
      helloAt := s.mono
      routes := s'.tir.routes.map fun r => if sent.contains r.dest then { r with changed := false, told := r.rate } else r }

/-- A join request sent through a seated neighbour: the one with the highest rate (R374). -/
def askSeat (s : State) : State :=
  let best := s.tir.neigh.foldl (fun (b : Option Neigh) n =>
    match b with
    | none => some n
    | some m => if m.rate s.mono < n.rate s.mono then some n else some m) none
  match best with
  | none => s
  | some n =>
    if s.tir.asking ∧ ¬ (s.tir.queue.any fun t => t.kind == 5 && t.origin == s.seat) then
      sendControl 5 (if s.reg P.tirLeadSeat = 0xFFFE then n.seat else s.reg P.tirLeadSeat) 2 (some n.seat)
        (s.postId ++ toBytes 2 s.seat) s
    else s

/-- The map for a frame of a length that starts now: a slot map that holds the whole frame, else the default map (R364). -/
def slotFits (s : State) (m : ToneMap) (bytes : Nat) : Bool :=
  match ownPhase s s.now with
  | none => false
  | some p =>
    let a := ofBytes (slice m.body 1 2)
    let b := ofBytes (slice m.body 3 2)
    let cw := (bytes * 8 + m.codeword - 1) / m.codeword
    let sym := if m.info = 0 then 0 else (cw * m.codeword + m.info - 1) / m.info
    let dur := ((76 + sym * m.symbol) * 200 * 65536 + s.reg P.irnMainsPeriod - 1) / s.reg P.irnMainsPeriod
    decide (0 < m.info ∧ (p + 65536 - a) % 65536 + dur ≤ (b + 65536 - a) % 65536)

/-- The map that a unicast frame uses. -/
def chooseMap (s : State) (seat bytes : Nat) : Option ToneMap :=
  match s.neigh seat with
  | none => none
  | some n =>
    match defaultMap s.mono n.txMaps with
    | none => none
    | some d =>
      some (n.txMaps.foldl (fun b m =>
        if 0 < m.tmi ∧ m.valid s.mono ∧ slotFits s m bytes ∧ b.info < m.info then m else b) d)

/-- SYMBOLS of a MAC frame on a map, or in Robust-4 (R354 to R356). -/
def symbolsOf (m : Option ToneMap) (bytes : Nat) : Nat :=
  match m with
  | none => ((bytes * 8 + 971) / 972 * 972 + 191) / 192
  | some m =>
    let cw := (bytes * 8 + m.codeword - 1) / m.codeword
    if m.info = 0 then 0 else (cw * m.codeword + m.info - 1) / m.info

/-- The next hop of an item: fixed, broadcast, or by the routes. -/
def hopOf (s : State) (t : TxItem) : Option Nat :=
  match t.next with
  | some n => some n
  | none =>
    if t.final = 0xFFFF then some 0xFFFF
    else
      match s.route t.final with
      | some r => if r.works then some r.next else none
      | none => if (s.neigh t.final).isSome then some t.final else none

/-- A beacon's TIME and OFFSET at the start of its transmission (R379). -/
def stampBeacon (s : State) (t : TxItem) : TxItem :=
  if t.kind = 3 then
    let w := ofBytes (t.body.take 16)
    let w := setBits (setBits w 127 64 s.now) 2 0 (if s.tir.lead then 0 else s.reg P.tirPhaseClass)
    { t with body := toBytes 16 w ++ t.body.drop 16 }
  else t

/-- The item to send next: the highest priority, the oldest of it. -/
def nextItem (l : List TxItem) : Option Nat :=
  (List.range l.length).foldl (fun b i =>
    match b with
    | none => some i
    | some j => if ((l[j]?).map TxItem.prio).getD 0 < ((l[i]?).map TxItem.prio).getD 0 then some i else some j) none

/-- A sound frame: eight symbols of PRBS15, no MAC frame (R363). -/
def sendSound (t : TxItem) (hop : Nat) (s : State) : State :=
  let s := (s.emit (.tirwa (mkFc s 3 t.prio 0 0 0 0 8 s.tir.fseq hop 0 1) [])).count P.tirTxFrames 1
  s.setTir { s.tir with fseq := (s.tir.fseq + 1) % 256 }

/-- A data frame sent; a unicast one then awaits its acknowledgement. -/
def sendData (t : TxItem) (hop : Nat) (s : State) : State :=
  let mac := (stampBeacon s t).mac s
  let uni := decide (hop ≠ 0xFFFF)
  let m := if uni ∧ ¬ (t.kind = 7) then chooseMap s hop mac.length else none
  let f := s.tir.fseq
  let fc := match m with
    | none => mkFc s 1 t.prio 1 0 0 (ofBool uni) (symbolsOf none mac.length) f hop 0 1
    | some m =>
      mkFc s 1 t.prio 0 m.tmi (ofBool m.gen) (ofBool uni) (symbolsOf (some m) mac.length) f hop 0
        (ofBool (bitOf (m.body.getD 0 0) 5))
  let s := (s.emit (.tirwa fc mac)).count P.tirTxFrames 1
  s.setTir { s.tir with fseq := (f + 1) % 256, waiting := if uni then some (t, f, hop) else none }

/-- The backoff ends and the post transmits. -/
def transmit (s : State) : State :=
  if inHouse s = false ∨ s.tir.waiting.isSome then s
  else
    match nextItem s.tir.queue with
    | none => s
    | some i =>
      match s.tir.queue[i]? with
      | none => s
      | some t =>
        let s := s.setTir { s.tir with queue := s.tir.queue.eraseIdx i }
        match hopOf s t with
        | none => s.count P.tirDrops 1
        | some hop => if t.sound then sendSound t hop s else sendData t hop s

/-! ### Acknowledgements (R366, R367) -/

/-- The unicast frame in progress got no good acknowledgement: tried again, or dropped. -/
def unacked (s : State) : State :=
  match s.tir.waiting with
  | none => s
  | some (t, _, hop) =>
    let s := noteResult hop false (s.setTir { s.tir with waiting := none })
    if t.tries < s.reg P.tirRetryMax then
      (s.setTir { s.tir with queue := { t with tries := t.tries + 1 } :: s.tir.queue }).count P.tirRetries 1
    else s.count P.tirDrops 1

/-- An acknowledgement frame. -/
def ackFrame (fc : Nat) (s : State) : State :=
  if fcOk s fc = false ∨ ¬ (fcType fc = 2) then s
  else
    let s := heardFrom fc s
    match s.tir.waiting with
    | none => s
    | some (_, f, hop) =>
      if fcDst fc = s.seat ∧ fcSrc fc = hop ∧ fcSeq fc = f then
        (if fcAckStatus fc = 0 then noteResult hop true (s.setTir { s.tir with waiting := none }) else unacked s)
      else s

/-- An acknowledgement sent. -/
def sendAck (fc status : Nat) (s : State) : State :=
  if fcAckReq fc ∧ fcDst fc = s.seat then
    s.emit (.tirwa (mkFc s 2 (fcPrio fc) 0 0 0 0 0 (fcSeq fc) (fcSrc fc) status 0) [])
  else s

/-! ### Receiving -/

/-- Whether a MAC frame's ORIGIN and FINAL may be carried (R8). -/
def macSeatsOk (mac : Bytes) : Bool := seatOk (macOrigin mac) && seatOk (macFinal mac)

/-- A data frame taken off the medium: whether its MAC frame is for the post and whole, and what its arrival does. One whose ORIGIN or
FINAL is no seat is discarded without an acknowledgement (R8). -/
def takeFrame (fc : Nat) (mac : Bytes) (s : State) : Bool × State :=
  if fcOk s fc = false ∨ ¬ (fcType fc = 1) then (false, s)
  else
    let s := heardFrom fc s
    if ¬ (fcDst fc = s.seat ∨ fcDst fc = 0xFFFF) then (false, s)
    else
      let s := noteGeneration fc (s.count P.tirRxFrames 1)
      if macCrcOk mac = false then (false, sendAck fc 1 s)
      else if macSeatsOk mac = false then (false, s)
      else (bits (macHead mac) 127 96 == s.reg P.smgHouseId, sendAck fc 0 s)

/-- The originator of a control frame: its seat, or above the seats its identity where it has none. -/
def originKey (mac : Bytes) : Nat :=
  if macOrigin mac = 0xFFFE then
    65536 + ofBytes (slice (macBody mac) (if macKind mac = 2 then 8 else if macKind mac = 3 then 24 else 0) 8)
  else macOrigin mac

/-- Whether a COUNT is above the highest kept for its originator, or nothing came from it for 120 s. -/
def countFresh (s : State) (mac : Bytes) : Bool :=
  match s.tir.counts.find? fun e => e.1 == originKey mac with
  | none => true
  | some e => decide (e.2.1 < macCount mac) || decide (e.2.2 + 120 * second ≤ s.mono)

/-- The highest COUNT of an originator kept. -/
def keepCount (mac : Bytes) (s : State) : State :=
  s.setTir { s.tir with
    counts := (originKey mac, macCount mac, s.mono) :: s.tir.counts.filter fun e => !(e.1 == originKey mac) }

/-- A frame of an originator that came though its COUNT is not new: the highest COUNT kept stands, and the 120 s count from now. -/
def touchCount (mac : Bytes) (s : State) : State :=
  s.setTir { s.tir with counts := s.tir.counts.map fun e => if e.1 = originKey mac then (e.1, e.2.1, s.mono) else e }

/-- Another relay of a flood frame heard (R371). -/
def heardRelay (mac : Bytes) (s : State) : State :=
  s.setTir { s.tir with floods := s.tir.floods.map fun f =>
    if f.item.origin = macOrigin mac ∧ f.item.count = macCount mac then { f with heard := f.heard + 1 } else f }

/-- The frame of a kind accepted as a control frame (R360): discarded and counted where its MAC fails or its COUNT is not new. -/
def takeControl (kind fc : Nat) (mac : Bytes) (s : State) : Bool × State :=
  let r := takeFrame fc mac s
  let s := r.2
  if r.1 = false ∨ ¬ (macKind mac = kind) then (false, s)
  else if macAuthentic s mac = false then (false, s.count P.tirMacFails 1)
  else if macOrigin mac = s.seat ∧ s.seat ≤ 0x0FFF then (false, s)
  else if countFresh s mac = false then
    (false, touchCount mac ((if kind = 3 ∨ kind = 4 then heardRelay mac s else s).count P.tirMacFails 1))
  else (true, keepCount mac s)

/-- A received MAC frame sent on with HOPS raised. -/
def relayItem (mac : Bytes) (prio : Nat) : TxItem :=
  { kind := macKind mac, origin := macOrigin mac, final := macFinal mac, hops := macHops mac + 1, count := macCount mac
    body := macBody mac, prio := prio, next := none, tries := 0, sound := false }

/-- A unicast frame for another seat forwarded; at eight hops it ends. -/
def forward (fc : Nat) (mac : Bytes) (s : State) : State :=
  if 8 ≤ macHops mac then s.count P.tirDrops 1 else tirSend (relayItem mac (fcPrio fc)) s

/-- A Cue frame received (R359): for this post to E1 on channel 14 and to the Cue server, or discarded and counted while E1 is off
(R114); else forwarded. -/
def cueFrame (fc : Nat) (mac : Bytes) (s : State) : State :=
  let r := takeFrame fc mac s
  if r.1 = false ∨ ¬ (macKind mac = 1) then r.2
  else if macFinal mac = r.2.seat then
    (if r.2.present 3 then cueArrive .tirwa 0 0 (macBody mac) (relay 14 0x0A 7 0 r.2) else r.2.count P.tirDrops 1)
  else forward fc mac r.2

/-- A new flood frame's relay scheduled unless HOPS is 8 (R371). -/
def scheduleRelay (mac : Bytes) (s : State) : State :=
  if 8 ≤ macHops mac then s
  else s.setTir { s.tir with floods := (⟨relayItem mac 3, 0, false⟩ :: s.tir.floods).take 64 }

/-- The relay delay of a flood frame ends. -/
def floodRelay (origin count : Nat) (s : State) : State :=
  match s.tir.floods.find? fun f => f.item.origin == origin && f.item.count == count && !f.done with
  | none => s
  | some f =>
    let s := s.setTir { s.tir with floods := s.tir.floods.map fun x =>
      if x.item.origin = origin ∧ x.item.count = count then { x with done := true } else x }
    if 2 ≤ f.heard then s else tirSend f.item s

/-! ### The share in force (R380) -/

/-- The share passed to the Tally and the Warden, and the current limit with it. -/
def setShare (w src : Nat) (s : State) : State :=
  let s := (s.setReg P.tirShareW w).setReg P.tirShareSrc src
  recomputeLimit (relay 11 0x09 3 0 (relay 16 2 3 0 s))

/-- A share from the lead. -/
def takeShare (w applyAt : Nat) (s : State) : State :=
  if s.present 9 = false then s
  else
    let s := s.setReg P.tirShareUntil (applyAt + ms 1500)
    if w ≤ s.reg P.tirShareW ∨ applyAt ≤ s.now then setShare w 1 (s.setTir { s.tir with share := none })
    else s.setTir { s.tir with share := some (w, applyAt) }

/-- APPLY_AT of an increase. -/
def shareApply (s : State) : State :=
  match s.tir.share with
  | none => s
  | some (w, _) => if s.present 9 then setShare w 1 (s.setTir { s.tir with share := none }) else s

/-- The share lapses to the safe allocation. -/
def shareLapse (s : State) : State :=
  if s.present 9 then setShare (s.reg P.tirSafeW) 0 (s.setTir { s.tir with share := none }) else s

/-! ### Seats (R374) -/

/-- SMG_SEAT taken; a post without a seat enforces its safe allocation (R20). -/
def takeSeat (v : Nat) (s : State) : State :=
  let s := s.setReg P.smgSeat v
  if v ≤ 0x0FFF then s else shareLapse s

/-- The lead's table with an entry refreshed or added. -/
def noteSeat (seat ident : Nat) (s : State) : State :=
  s.setTir { s.tir with seats := (seat, ident, s.mono) :: s.tir.seats.filter fun e => !(e.1 == seat) }

/-- Whether the lead may grant a seat. -/
def seatFree (s : State) (n : Nat) : Bool :=
  decide (n ≤ 0x0FFF) && !(n == s.seat) && !(n == s.reg P.smgHostSeat) && !(s.tir.seats.any fun e => e.1 == n)

/-- The lowest seat free in the lead's table. -/
def lowestFree (s : State) : Option Nat := (List.range 4096).find? fun n => seatFree s n

/-- A join grant sent to a requester: by its seat, or as one broadcast hop to a post without one. -/
def sendGrant (dest ident seat result : Nat) (s : State) : State :=
  sendControl 6 (if dest ≤ 0x0FFF then dest else 0xFFFF) 2 none (toBytes 8 ident ++ toBytes 2 seat ++ [result]) s

/-- The lead's answer to a join request. -/
def answerJoin (dest ident wanted : Nat) (s : State) : State :=
  match s.tir.seats.find? fun e => e.2.1 == ident with
  | some e => sendGrant dest ident e.1 0 (noteSeat e.1 ident s)
  | none =>
    match (if seatFree s wanted then some wanted else lowestFree s) with
    | some n => sendGrant dest ident n 0 (noteSeat n ident s)
    | none => sendGrant dest ident 0xFFFE 2 s

/-- A join request: answered by the lead, carried on by a proxy, or forwarded. -/
def joinRequest (fc : Nat) (mac : Bytes) (s : State) : State :=
  let r := takeControl 5 fc mac s
  let s := r.2
  if r.1 = false then s
  else
    let ident := ofBytes ((macBody mac).take 8)
    let wanted := ofBytes (slice (macBody mac) 8 2)
    if s.tir.lead ∧ s.present 3 then answerJoin (macOrigin mac) ident wanted s
    else if macOrigin mac = 0xFFFE ∨ macFinal mac = s.seat then
      (if s.reg P.tirLeadSeat = 0xFFFE ∨ 0x0FFF < s.seat then s else sendControl 5 (s.reg P.tirLeadSeat) 2 none (macBody mac) s)
    else forward fc mac s

/-- A join grant: for this post, to hand on to a post without a seat, or to forward. -/
def joinGrant (fc : Nat) (mac : Bytes) (s : State) : State :=
  let r := takeControl 6 fc mac s
  let s := r.2
  if r.1 = false then s
  else
    let ident := ofBytes ((macBody mac).take 8)
    let seat := ofBytes (slice (macBody mac) 8 2)
    let result := (macBody mac).getD 10 0
    if ident = s.ident ∧ s.present 3 then
      if result = 0 ∧ seat ≤ 0x0FFF then takeSeat seat (s.setTir { s.tir with asking := false })
      else if result = 1 then takeSeat 0xFFFE (s.setTir { s.tir with asking := s.reg P.tirSeatCfg == 0xFFFE })
      else s
    else if macFinal mac = s.seat then sendControl 6 0xFFFF 2 none (macBody mac) s
    else if macFinal mac = 0xFFFF then s
    else forward fc mac s

/-- A write of TIR_SEAT_CFG: a fixed seat at once, or a seat to be asked for. -/
def actSeatCfg (v : Nat) (s : State) : State :=
  if v ≤ 0x0FFF then takeSeat v (s.setTir { s.tir with asking := false }) else askSeat (s.setTir { s.tir with asking := true })

/-- A lead without a seat takes the lowest seat free in its table (R375). -/
def leadSeat (s : State) : State :=
  if s.seat ≤ 0x0FFF then s
  else
    match lowestFree s with
    | some n => (takeSeat n s).setReg P.tirLeadSeat n
    | none => s

/-- The seat after a start of the Stage manager, of E1 or of C0 (R19, R374, R385): a fixed seat at once; a lead keeps or takes one; any
other post asks for the seat it holds, or for any. -/
def regainSeat (s : State) : State :=
  let cfg := persistVal s.jnl.persist P.tirSeatCfg (dfltOf P.tirSeatCfg)
  if cfg ≤ 0x0FFF then takeSeat cfg (s.setTir { s.tir with asking := false })
  else if s.tir.lead then leadSeat s
  else takeSeat s.seat (s.setTir { s.tir with asking := true })

/-- The roles that Tirwa has given the post, and its seat, shown again after a start of the Stage manager (R19). -/
def houseStart (s : State) : State :=
  regainSeat (s.setReg P.smgRole (ofBool (s.tir.neigh.any Neigh.via) + 2 * ofBool s.tir.lead))

/-! ### Hellos (R370, R373) -/

/-- The route entries of a hello. -/
def helloEntries : Nat → Bytes → List (Nat × Nat × Nat)
  | 0, _ => []
  | k + 1, l => (ofBytes (l.take 2), ofBytes (slice l 2 2), l.getD 4 0) :: helloEntries k (l.drop 8)

/-- Advertised entries merged over earlier ones. -/
def mergeAdverts (old new : List (Nat × Nat × Nat)) : List (Nat × Nat × Nat) :=
  new ++ old.filter fun a => !(new.any fun b => b.1 == a.1)

/-- The lead's table and a seat clash (R374): the identity recorded first keeps the seat. -/
def leadHears (seat ident : Nat) (s : State) : State :=
  if s.tir.lead = false ∨ 0x0FFF < seat then s
  else
    match s.tir.seats.find? fun e => e.1 == seat with
    | none => if seat = s.seat then sendGrant seat ident seat 1 s else noteSeat seat ident s
    | some e => if e.2.1 = ident then noteSeat seat ident s else sendGrant seat ident seat 1 s

/-- A hello; `viaUs` tells that it names this post as the next hop of a route. -/
def helloReceive (fc : Nat) (mac : Bytes) (viaUs : Bool) (s : State) : State :=
  let r := takeControl 2 fc mac s
  let s := r.2
  if r.1 = false then s
  else
    let w := ofBytes ((macBody mac).take 16)
    let n := min 160 (bits w 39 32)
    let src := fcSrc fc
    let l := helloEntries n ((macBody mac).drop 16)
    let s := updNeigh src (fun x => { x with ident := bits w 127 64, via := viaUs, adverts := mergeAdverts x.adverts l }) s
    let s := updateRepeater (chooseRoutes src s)
    let s := leadHears src (bits w 127 64) s
    if s.tir.asking then askSeat s else s

/-- Every TIR_HELLO_S. -/
def helloTimer (s : State) : State := askSeat (sendHello s)

/-- Whether a route calls for a hello at once (R370): lost, or its B more than 20 % from the one last told. -/
def Route.urgent (r : Route) : Bool :=
  r.changed && (!r.works || decide (r.told < 5 * (r.rate - r.told) ∨ r.told < 5 * (r.told - r.rate)))

/-- A route was lost or its B changed by more than 20 %: a hello, at most one per second. -/
def triggeredHello (s : State) : State :=
  if (s.tir.routes.any Route.urgent) ∧ s.tir.helloAt + second ≤ s.mono then sendHello s else s

/-- A neighbour leaves the table, and its routes fail. -/
def neighGone (seat : Nat) (s : State) : State :=
  updateRepeater (chooseRoutes 0xFFFF (setNeighs (s.tir.neigh.filter fun n => !(n.seat == seat)) s))

/-- A route unrefreshed for 480 s: unreachable, and forgotten once it was so already. -/
def routeExpires (dest : Nat) (s : State) : State :=
  match s.route dest with
  | none => s
  | some r =>
    if r.works then putRoute (r.lost s.mono) s
    else s.setTir { s.tir with routes := s.tir.routes.filter fun x => !(x.dest == dest) }

/-! ### Allocation (R377, R378) -/

/-- A post in the filling: seat, demand, least useful power, the lead phases it uses (none for DC), its share and whether it is
frozen. -/
structure Filler where
  seat : Nat
  demand : Rat
  least : Nat
  phases : List Nat
  share : Rat
  frozen : Bool
deriving DecidableEq, Repr

/-- The lead phase of a post's own phase under its class. -/
def leadPhase (cls p : Nat) : Nat :=
  let m := if cls = 2 ∨ cls = 5 then 1 else if cls = 4 ∨ cls = 1 then 2 else 0
  (p + 3 - m) % 3

/-- A fresh report as a post in the filling. -/
def Report.filler (r : Report) : Filler :=
  { seat := r.seat, demand := (bits r.word 127 96 : Nat), least := bits r.word 95 64
    phases := if bitOf r.word 25 then []
      else ((List.range 3).filter fun p => bitOf r.word (26 + p)).map fun p => leadPhase (bits r.word 31 29) p
    share := 0, frozen := false }

/-- What a post puts on a lead phase per watt of its share. -/
def Filler.part (f : Filler) (q : Nat) : Rat := if f.phases.contains q then 1 / (f.phases.length : Rat) else 0

/-- The load of a lead phase. -/
def phaseLoad (l : List Filler) (q : Nat) : Rat := (l.map fun f => f.share * f.part q).foldl (· + ·) 0

/-- The parts of the unfrozen posts on a lead phase. -/
def phaseRate (l : List Filler) (q : Nat) : Rat := (l.map fun f => if f.frozen then 0 else f.part q).foldl (· + ·) 0

/-- How far every unfrozen share can rise together. -/
def riseBy (budget cap : Rat) (l : List Filler) : Rat :=
  let n := (l.filter fun f => !f.frozen).length
  let a := (budget - (l.map Filler.share).foldl (· + ·) 0) / (n : Rat)
  let a := l.foldl (fun a f => if f.frozen then a else min a (f.demand - f.share)) a
  (List.range 3).foldl (fun a q =>
    if phaseRate l q = 0 then a else min a ((cap - phaseLoad l q) / phaseRate l q)) a

/-- The shares raised together until they sum to the budget or every post is frozen. -/
def fillShares (budget cap : Rat) : Nat → List Filler → List Filler
  | 0, l => l
  | k + 1, l =>
    if (l.all Filler.frozen) ∨ budget ≤ (l.map Filler.share).foldl (· + ·) 0 then l
    else
      let d := max 0 (riseBy budget cap l)
      let l := l.map fun f => if f.frozen then f else { f with share := f.share + d }
      let full := (List.range 3).filter fun q => decide (cap ≤ phaseLoad l q)
      fillShares budget cap k
        (l.map fun (f : Filler) =>
          if f.demand ≤ f.share ∨ (f.phases.any fun q => full.contains q) = true then { f with frozen := true } else f)

/-- Step 4: while a share is below its least, the post with the highest seat among them gets 0 and the rest are filled again. -/
def fillAgain (budget cap : Rat) : Nat → List Filler → List (Nat × Nat) → List (Nat × Nat)
  | 0, _, out => out
  | k + 1, l, out =>
    let f := fillShares budget cap (l.length + 4) l
    let low := f.filter fun x => decide (x.share < (x.least : Rat))
    match low.foldl (fun b x => match b with
        | none => some x.seat
        | some m => some (max m x.seat)) (none : Option Nat) with
    | none => f.map (fun x => (x.seat, x.share.floor.toNat)) ++ out
    | some m => fillAgain budget cap k (l.filter fun x => !(x.seat == m)) ((m, 0) :: out)

/-- Entries in the order of their seats. -/
def insertEntry (e : Nat × Nat) : List (Nat × Nat) → List (Nat × Nat)
  | [] => [e]
  | x :: t => if e.1 ≤ x.1 then e :: x :: t else x :: insertEntry e t

/-- The fresh reports of posts in session. -/
def freshReports (s : State) : List Report :=
  s.tir.reports.filter fun r => decide (s.mono < r.at_ + 3 * second) && bitOf r.word 24

/-- B of R378. -/
def budgetOf (s : State) : Nat :=
  let gone := s.tir.lastSession.filter fun e => !(s.tir.reports.any fun r =>
    r.seat == e.1 && decide (s.mono < r.at_ + 3 * second))
  s.reg P.tirBudgetW - (gone.map (·.2)).foldl (· + ·) 0

/-- The shares of a cycle. -/
def allocate (s : State) : List (Nat × Nat) :=
  let l := freshReports s
  (fillAgain (budgetOf s : Nat) (s.reg P.tirPhaseMaxW : Nat) (l.length + 1) (l.map Report.filler) []).foldl
    (fun acc e => insertEntry e acc) []

/-- A beacon segment's body (R379). -/
def beaconBody (s : State) (cycle applyAt budget total index : Nat) (l : List (Nat × Nat)) : Bytes :=
  toBytes 16 (s.reg P.tirLeadPref * 2 ^ 8 + s.seat * 2 ^ 16 + cycle * 2 ^ 32 + s.now * 2 ^ 64)
    ++ toBytes 16 (applyAt % 2 ^ 64 + s.ident * 2 ^ 64)
    ++ toBytes 16 (l.length * 2 ^ 48 + index * 2 ^ 64 + total * 2 ^ 80 + budget * 2 ^ 96)
    ++ l.flatMap fun e => toBytes 2 e.1 ++ [0, 0] ++ toBytes 4 e.2

/-- The share among entries for the seat that the post holds (R20). -/
def ownShare (s : State) (l : List (Nat × Nat)) : Option Nat :=
  if s.seat ≤ 0x0FFF then (l.find? fun e => e.1 == s.seat).map fun e => e.2 else none

/-- The allocation of a whole second and its beacon segments, one at least. -/
def allocationCycle (s : State) : State :=
  if s.tir.lead = false ∨ s.present 3 = false ∨ inHouse s = false then s
  else
    let tc := s.now / second * second
    let shares := allocate s
    let budget := budgetOf s
    let cycle := (s.reg P.tirCycle + 1) % 2 ^ 32
    let now := (freshReports s).map fun r => (r.seat, bits r.word 63 32)
    let s := (s.setReg P.tirCycle cycle).setTir { s.tir with lastSession := now }
    let segs := max 1 ((shares.length + 159) / 160)
    let s := (List.range segs).foldl (fun s i =>
      sendControl 3 0xFFFF 3 none (beaconBody s cycle (tc + ms 500) budget shares.length i ((shares.drop (160 * i)).take 160)) s) s
    match ownShare s shares with
    | none => s
    | some w => takeShare w (tc + ms 500) s

/-- The word of a demand report (R377); DEMAND is a free value, since the manual gives no rule for it. -/
def demandWord (s : State) (demand : Nat) : Nat :=
  let on := sessionOpen s
  let ph := ((List.range 3).map fun p => if 50000000 ≤ s.regI (P.tlyPhVRms p) then 2 ^ p else 0).foldl (· + ·) 0
  demand % 2 ^ 32 * 2 ^ 96 + (if s.veh.dc then 0 else 6 * phaseVoltSum s / 1000000) % 2 ^ 32 * 2 ^ 64
    + s.reg P.tirSafeW * 2 ^ 32 + s.reg P.tirPhaseClass * 2 ^ 29 + (if s.veh.dc then 0 else ph) * 2 ^ 26
    + ofBool s.veh.dc * 2 ^ 25 + ofBool on * 2 ^ 24

/-- A report kept by the lead, of a post that holds a seat. -/
def keepReport (seat word : Nat) (s : State) : State :=
  if 0x0FFF < seat then s else s.setTir { s.tir with reports := ⟨seat, word, s.mono⟩ :: s.tir.reports.filter fun r => !(r.seat == seat) }

/-- Every second in session, and once when it ends. -/
def demandTimer (s : State) : State :=
  let on := sessionOpen s
  if s.present 3 = false ∨ (on = false ∧ s.tir.reported = false) then s
  else
    let f := s.drawBits 32
    let s := f.2.setTir { f.2.tir with reported := on }
    let w := demandWord s f.1
    if s.tir.lead then keepReport s.seat w s
    else if s.reg P.tirLeadSeat = 0xFFFE then s
    else sendControl 8 (s.reg P.tirLeadSeat) 2 none (toBytes 16 w) s

/-- A demand report for the lead, or on its way. -/
def demandReceive (fc : Nat) (mac : Bytes) (s : State) : State :=
  let r := takeControl 8 fc mac s
  let s := r.2
  if r.1 = false then s
  else if macFinal mac = s.seat then
    (if s.tir.lead then keepReport (macOrigin mac) (ofBytes ((macBody mac).take 16)) s else s)
  else forward fc mac s

/-! ### The lead (R372, R375, R381) -/

/-- A rank: the preference, then the identity. -/
def rankOf (pref ident : Nat) : Nat := pref * 2 ^ 64 + ident

/-- The post's own rank. -/
def ownRank (s : State) : Nat := rankOf (s.reg P.tirLeadPref) s.ident

/-- Whether the post stands for lead. -/
def candidate (s : State) : Bool :=
  s.reg P.smgTier == 0x46 && decide (s.reg P.tirLeadPref < 0xFF) && inHouse s && s.present 3

/-- The lead's role taken or dropped. -/
def setLead (b : Bool) (s : State) : State :=
  (s.setTir { s.tir with lead := b, claim := 0 }).setReg P.smgRole (setBit (s.reg P.smgRole) 1 b)

/-- No beacon for 2.0 s: a candidate's claim is scheduled. -/
def leadLost (s : State) : State :=
  if s.tir.lead ∨ s.present 3 = false then s
  else
    let s := (s.setReg P.tirLeadSeat 0xFFFE).setReg P.tirLeadId 0
    if candidate s then s.setTir { s.tir with claim := 1 } else s

/-- The claim's delay ends. -/
def claimSend (s : State) : State :=
  if s.tir.claim = 1 ∧ candidate s then
    sendControl 4 0xFFFF 3 none (s.postId ++ [s.reg P.tirLeadPref]) (s.setTir { s.tir with claim := 2 })
  else s

/-- A claim: relayed, and one of lower rank stops the post's own. -/
def claimReceive (fc : Nat) (mac : Bytes) (s : State) : State :=
  let r := takeControl 4 fc mac s
  if r.1 = false then r.2
  else
    let s := scheduleRelay mac r.2
    if s.present 3 = false then s
    else if rankOf ((macBody mac).getD 8 0) (ofBytes ((macBody mac).take 8)) < ownRank s then s.setTir { s.tir with claim := 0 } else s

/-- 2.0 s after its claim the post leads. -/
def electionWin (s : State) : State :=
  if s.tir.claim = 2 ∧ candidate s then
    let s := leadSeat (countJournalled P.tirElections (setLead true s))
    let s := s.setTir { s.tir with asking := false }
    allocationCycle (((s.setReg P.tirLeadSeat s.seat).setReg P.tirLeadId s.ident).setReg P.tirPhaseClass 0)
  else s

/-- Stage time taken from the lead (R381). -/
def timeFromLead (t : Nat) (s : State) : State :=
  if s.tir.lead ∨ s.reg P.tirTimeSrc = 2 ∨ (s.reg P.tirTimeSrc = 0 ∧ s.reg P.slPtpState = 3) then s
  else
    let d : Int := (t : Int) - s.now
    if d.natAbs < ms 1 then s.setTir { s.tir with slew := d, slewAcc := 0 } else setStageTime t s

/-- The class to the lead from a relay's OFFSET and the class to the relay (R376). -/
def classToLead (src off : Nat) (s : State) : State :=
  match s.neigh src with
  | none => s
  | some n => if n.cls ≤ 5 ∧ off ≤ 5 then s.setReg P.tirPhaseClass ((n.cls + off) % 6) else s

/-- The entries of a beacon segment. -/
def beaconEntries : Nat → Bytes → List (Nat × Nat)
  | 0, _ => []
  | k + 1, l => (ofBytes (l.take 2), ofBytes (slice l 4 4)) :: beaconEntries k (l.drop 8)

/-- A segment of the lead in force acted upon. -/
def beaconAct (src : Nat) (body : Bytes) (s : State) : State :=
  let w0 := ofBytes (body.take 16)
  let w1 := ofBytes (slice body 16 16)
  let w2 := ofBytes (slice body 32 16)
  let s := ((s.setReg P.tirLeadSeat (bits w0 31 16)).setReg P.tirLeadId (bits w1 127 64)).setReg P.tirCycle (bits w0 63 32)
  let s := timeFromLead (bits w0 127 64) (classToLead src (bits w0 2 0) (s.setTir { s.tir with claim := 0 }))
  match ownShare s (beaconEntries (min 160 (bits w2 63 48)) (body.drop 48)) with
  | none => s
  | some w => takeShare w (bits w1 63 0) s

/-- A beacon segment: relayed; a lead resigns before one of lower rank and ignores one of higher rank. While E1 is off, C0 only relays
(R114). -/
def beaconReceive (fc : Nat) (mac : Bytes) (s : State) : State :=
  let r := takeControl 3 fc mac s
  if r.1 = false then r.2
  else
    let s := scheduleRelay mac r.2
    let body := macBody mac
    let rank := rankOf (bits (ofBytes (body.take 16)) 15 8) (bits (ofBytes (slice body 16 16)) 127 64)
    if s.present 3 = false then s
    else if s.tir.lead then (if rank < ownRank s then beaconAct (fcSrc fc) body (setLead false s) else s)
    else beaconAct (fcSrc fc) body s

/-! ### Building tone maps (R363 to R365) -/

/-- The thresholds at rate 5/6 in 0.1 dB of codes 1 to 6. -/
def snrThresholds : List Int := [40, 70, 130, 190, 250, 310]

/-- The bits per carrier of a modulation code. -/
def codeBits (c : Nat) : Nat := [0, 1, 2, 4, 6, 8, 10].getD c 0

/-- The modulation code of a carrier at FEC 0, 1 or 2. -/
def loadCode (margin : Int) (fec : Nat) (snr : Int) : Nat :=
  let less : Int := if fec = 0 then 30 else if fec = 1 then 15 else 0
  (snrThresholds.filter fun t => decide (t - less + margin ≤ snr)).length

/-- Coded bits to information bits at a rate. -/
def infoBits (fec coded : Nat) : Nat := if fec = 0 then coded / 2 else if fec = 1 then coded * 2 / 3 else coded * 5 / 6

/-- The loading of carriers: FEC, information bits and codes, the rate with the most bits and the lower one on a tie. -/
def loading (margin : Int) (snr : List Int) : Nat × Nat × List Nat :=
  (List.range 3).foldl (fun (b : Nat × Nat × List Nat) fec =>
    let l := snr.map (loadCode margin fec)
    let n := infoBits fec ((l.map codeBits).foldl (· + ·) 0)
    if fec = 0 ∨ b.2.1 < n then (fec, n, l) else b) (0, 0, [])

/-- The worst of two bins per carrier. -/
def worstBin (a b : List Int) : List Int := List.zipWith min a b

/-- The worst bin of each carrier. -/
def worstBins (l : List (List Int)) : List Int :=
  match l with
  | [] => List.replicate 768 0
  | b :: t => t.foldl worstBin b

/-- Codes packed two to a byte. -/
def packCodes : Nat → List Nat → Bytes
  | 0, _ => []
  | k + 1, l => (l.getD 0 0 + 16 * l.getD 1 0) :: packCodes k (l.drop 2)

/-- The body of a tone-map message (R362). -/
def mapBody (tmi : Nat) (gen : Bool) (guard start stop : Nat) (ld : Nat × Nat × List Nat) : Bytes :=
  [tmi % 4 + 4 * ofBool gen + 8 * ld.1 + 32 * (guard % 2)] ++ toBytes 2 start ++ toBytes 2 stop ++ toBytes 2 ld.2.1 ++ [0]
    ++ packCodes 384 ld.2.2

/-- The longest runs of adjacent bins, round the circle, that pass a test of first bin and length. -/
def binRuns (ok : Nat → Nat → Bool) : List (Nat × Nat) :=
  if ok 0 8 then [(0, 8)]
  else
    let len (b : Nat) : Nat := ((List.range 8).takeWhile fun k => ok b (k + 1)).length
    ((List.range 8).filter fun b => decide (0 < len b ∧ len ((b + 7) % 8) ≤ len b)).map fun b => (b, len b)

/-- Runs in falling order of their gain. -/
def insertRun (e : Nat × Nat × Nat × Nat × List Nat) :
    List (Nat × Nat × Nat × Nat × List Nat) → List (Nat × Nat × Nat × Nat × List Nat)
  | [] => [e]
  | x :: t => if x.2.2.2.1 < e.2.2.2.1 then e :: x :: t else x :: insertRun e t

/-- The loading of a run of bins: the worst of its bins on each carrier. -/
def runLoading (margin : Int) (snr : List (List Int)) (b n : Nat) : Nat × Nat × List Nat :=
  loading margin (worstBins ((List.range n).map fun k => snr.getD ((b + k) % 8) []))

/-- The slot maps of eight bins (R364): START, END and loading, at most three. -/
def slotMaps (margin : Int) (snr : List (List Int)) (base : Nat) : List (Nat × Nat × Nat × Nat × List Nat) :=
  let ok (b n : Nat) : Bool := let i := (runLoading margin snr b n).2.1; decide (base * 5 ≤ i * 4 ∧ base < i)
  let runs := (binRuns ok).map fun e =>
    let ld := runLoading margin snr e.1 e.2
    (e.1 * 8192, (e.1 + e.2) * 8192 % 65536, ld.1, ld.2.1, ld.2.2)
  (runs.foldl (fun acc e => insertRun e acc) []).take 3

/-- One tone-map message built and sent, with the generation inverted; the receiver holds both generations. -/
def sendMap (src prio tmi start stop : Nat) (ld : Nat × Nat × List Nat) (s : State) : State :=
  let gen := match (s.neigh src).bind fun n => n.rxMaps.find? fun m => m.tmi == tmi with
    | some m => !m.gen
    | none => true
  let body := mapBody tmi gen (s.reg P.tirGuard) start stop ld
  let s := updNeigh src (fun n =>
    let older := (n.rxMaps.filter fun m => m.tmi == tmi).take 1
    { n with rxMaps := ⟨tmi, gen, body, s.mono⟩ :: older ++ n.rxMaps.filter fun m => !(m.tmi == tmi) }) s
  sendControl 7 src prio (some src) body s

/-- A sound frame measured: SNR in 0.1 dB of the 768 carriers, in one bin or in eight of the transmitter's phase. -/
def soundReceive (fc : Nat) (snr : List (List Int)) (s : State) : State :=
  if fcOk s fc = false ∨ ¬ (fcType fc = 3) then s
  else
    let s := heardFrom fc s
    if ¬ (fcDst fc = s.seat) then s
    else
      let s := s.count P.tirRxFrames 1
      let margin : Int := s.reg P.tirTmMargin
      let ld := loading margin (worstBins snr)
      let s := sendMap (fcSrc fc) (fcPrio fc) 0 0 0 ld s
      if snr.length = 8 ∧ bitOf fc 114 ∧ (ownPhase s s.now).isSome then
        let l := slotMaps margin snr ld.2.1
        (List.range l.length).foldl (fun s i =>
          match l[i]? with
          | none => s
          | some e => sendMap (fcSrc fc) (fcPrio fc) (i + 1) e.1 e.2.1 e.2.2 s) s
      else s

/-- A tone-map message: the transmitter's new map. -/
def mapReceive (fc : Nat) (mac : Bytes) (s : State) : State :=
  let r := takeControl 7 fc mac s
  let s := r.2
  if r.1 = false ∨ ¬ ((macBody mac).length = 392) then s
  else
    let b := macBody mac
    let tmi := bits (b.getD 0 0) 1 0
    let m : ToneMap := ⟨tmi, bitOf (b.getD 0 0) 2, b, s.mono⟩
    let s := updNeigh (fcSrc fc) (fun n =>
      { n with txMaps := m :: n.txMaps.filter (fun x => !(x.tmi == tmi)), results := if tmi = 0 then [] else n.results }) s
    chooseRoutes 0xFFFF s

/-- A new sound frame to a neighbour: CA0 as a refresh, CA2 once the map has expired, CA1 for the first map. -/
def mapRefresh (seat : Nat) (s : State) : State :=
  match s.neigh seat with
  | none => s
  | some n =>
    let prio := if (defaultMap s.mono n.txMaps).isSome then 0 else if n.txMaps = [] then 1 else 2
    tirSend { kind := 0, origin := s.seat, final := seat, hops := 0, count := 0, body := [], prio := prio, next := some seat
              tries := 0, sound := true } s

/-- A map reaches 120 s: the link falls back to Robust-4. -/
def mapExpires (seat : Nat) (s : State) : State :=
  match s.neigh seat with
  | none => s
  | some n =>
    if n.txMaps.any fun m => !(m.body == []) then
      let s := updNeigh seat (fun n => { n with txMaps := [⟨0, ((n.txMaps.head?).map ToneMap.gen).getD false, [], s.mono⟩] }) s
      chooseRoutes 0xFFFF (s.count P.tirTmExpired 1)
    else s

/-! ### Start, tests and what other units do (R384, R385) -/

/-- What C0 forgets when it stops; the house key and the COUNT last. -/
def courierForget (s : State) : State :=
  s.setTir { s.tir with
    neigh := [], routes := [], counts := [], queue := [], waiting := none, fseq := 0, floods := [], helloAt := 0, slice := 0 }

/-- C0 starts: its first hello, and its seat asked for again. -/
def courierStart (s : State) : State :=
  if s.present 10 = false then s
  else
    let s := updateRepeater (setNeighs [] (courierForget s))
    helloTimer (regainSeat s)

/-- I03 stops: the post cannot be lead and its reports end (R385). -/
def e1Lost (s : State) : State :=
  let s := setLead false s;
  { s with tir := { s.tir with reports := [], seats := [], lastSession := [], share := none } }

/-- A write of TIR_TEST_MODE: counters cleared; a test takes the post out of its house and back to its safe allocation. -/
def actTirTest (v : Nat) (s : State) : State :=
  let s := (s.setReg P.tirTestBits 0).setReg P.tirTestErrors 0
  if v = 0 then s
  else
    let s := setNeighs [] (courierForget s)
    shareLapse (if s.tir.lead then setLead false s else s)

/-- A write of TIR_GP_TEST_MODE: refused unless the pilot is in state A. -/
def actGpTest (s : State) : Nat × State :=
  if s.reg P.irnCpState = 1 then (resOk, s.setReg P.tirGpTestErrors 0) else (resBusy, s)

/-- TIR_NEIGH_INFO of the selected neighbour (R387). -/
def neighInfo (s : State) : Nat :=
  match s.tir.neigh[s.reg P.tirNeighSel]? with
  | none => 0
  | some n =>
    let age := match defaultMap s.mono n.txMaps with
      | some m => min 255 ((s.mono - m.at_) / second)
      | none => 0
    n.ident % 2 ^ 64 + age * 2 ^ 64 + n.rateRx s.mono % 2 ^ 16 * 2 ^ 72 + n.rate s.mono % 2 ^ 16 * 2 ^ 88 + n.cls % 8 * 2 ^ 109
      + n.seat % 2 ^ 16 * 2 ^ 112

/-- TIR_ROUTE_INFO of the selected destination (R388). -/
def routeInfo (s : State) : Nat :=
  match s.route (s.reg P.tirRouteSel) with
  | none => 0xFFFF * 2 ^ 48
  | some r =>
    min 65535 ((s.mono - r.at_) / second) + r.hops % 16 * 2 ^ 28 + r.rate % 2 ^ 16 * 2 ^ 32 + r.next % 2 ^ 16 * 2 ^ 48

/-! ### The pilot-line link (R382, R383) -/

/-- The SLAC run replaced. -/
def State.setSlac (s : State) (x : SlacState) : State := { s with slac := x }

/-- Whether C1 serves a vehicle: it runs, its front end is on, and the pilot is not in state A. -/
def slacServes (s : State) : Bool :=
  s.present 11 && s.domOn 55 && decide (2 ≤ s.reg P.irnCpState ∧ s.reg P.irnCpState ≤ 4) && s.reg P.tirGpTestMode == 0

/-- CM_SLAC_PARM.REQ answered. -/
def slacParm (mac : Nat) (s : State) : State :=
  if slacServes s = false then s
  else
    let s := (s.setSlac { SlacState.reset with running := true }).setVeh { s.veh with slacSeen := true }
    ((s.setReg P.tirGpPevMac (mac % 2 ^ 48)).setReg P.tirGpState 1).emit (.slac 1 [mac % 2 ^ 48])

/-- CM_START_ATTEN_CHAR.IND: the sounds are averaged. -/
def slacStart (sounds : Nat) (s : State) : State :=
  if slacServes s ∧ s.slac.running ∧ 0 < sounds then
    (s.setSlac { s.slac with expected := sounds, sounds := 0, sums := List.replicate 58 0, answered := false }).setReg P.tirGpState 2
  else s

/-- A sound: its attenuation in dB in each of the 58 groups; the last one brings CM_ATTEN_CHAR.IND. -/
def slacSound (atten : List Nat) (s : State) : State :=
  if slacServes s = false ∨ s.slac.running = false ∨ ¬ (s.reg P.tirGpState = 2) ∨ s.slac.expected ≤ s.slac.sounds then s
  else
    let sums := (List.range 58).map fun g => s.slac.sums.getD g 0 + atten.getD g 0
    let n := s.slac.sounds + 1
    let s := s.setSlac { s.slac with sums := sums, sounds := n }
    if n < s.slac.expected then s
    else
      let avg := sums.map fun x => x / n
      (s.setReg P.tirGpAtten (min 255 (avg.foldl (· + ·) 0 / 58))).emit (.slac 2 avg)

/-- CM_ATTEN_CHAR.RSP taken. -/
def slacAnswer (s : State) : State :=
  if slacServes s ∧ s.reg P.tirGpState = 2 ∧ s.slac.expected ≤ s.slac.sounds then s.setSlac { s.slac with answered := true } else s

/-- CM_SLAC_MATCH.REQ answered with a key from the TRNG, and the logical network joined. -/
def slacMatch (s : State) : State :=
  if slacServes s = false ∨ s.slac.answered = false then s
  else
    let f := s.drawBits 128
    let s := f.2.setSlac { f.2.slac with running := false, answered := false, key := f.1 }
    (relay 12 0x0B 7 0 (s.emit (.slac 3 [f.1]))).setReg P.tirGpState 4

/-- A run that does not come to its end. -/
def slacFails (s : State) : State :=
  if s.present 11 ∧ s.slac.running then
    ((s.setSlac SlacState.reset).count P.tirGpSlacFails 1).setReg P.tirGpState 1
  else s

/-! ### The commands -/

/-- TIRWA_CUE_FRAME. -/
def execTirwaCueFrame (fc : Nat) (mac : Bytes) (s : State) : Host.Outcome State Fault Refusal := .next (cueFrame fc mac s)
/-- TIRWA_ACK. -/
def execTirwaAck (fc : Nat) (s : State) : Host.Outcome State Fault Refusal := .next (ackFrame fc s)
/-- TIRWA_ACK_TIMEOUT. -/
def execTirwaAckTimeout (s : State) : Host.Outcome State Fault Refusal := .next (unacked s)
/-- FRAME_CONTROL_ERROR. -/
def execFrameControlError (s : State) : Host.Outcome State Fault Refusal :=
  .next (if s.present 10 then s.count P.tirFcErrors 1 else s)
/-- TIRWA_BACKOFF_EXPIRY. -/
def execTirwaBackoffExpiry (s : State) : Host.Outcome State Fault Refusal := .next (transmit s)
/-- HELLO_TIMER. -/
def execHelloTimer (s : State) : Host.Outcome State Fault Refusal := .next (helloTimer s)
/-- HELLO_RECEIVE. -/
def execHelloReceive (fc : Nat) (mac : Bytes) (viaUs : Bool) (s : State) : Host.Outcome State Fault Refusal :=
  .next (helloReceive fc mac viaUs s)
/-- ROUTE_TRIGGERED_HELLO. -/
def execRouteTriggeredHello (s : State) : Host.Outcome State Fault Refusal := .next (triggeredHello s)
/-- NEIGHBOUR_AGE_OUT. -/
def execNeighbourAgeOut (seat : Nat) (s : State) : Host.Outcome State Fault Refusal := .next (neighGone seat s)
/-- ROUTE_EXPIRY. -/
def execRouteExpiry (dest : Nat) (s : State) : Host.Outcome State Fault Refusal := .next (routeExpires dest s)
/-- FLOOD_RELAY. -/
def execFloodRelay (origin count : Nat) (s : State) : Host.Outcome State Fault Refusal := .next (floodRelay origin count s)
/-- BEACON_RECEIVE. -/
def execBeaconReceive (fc : Nat) (mac : Bytes) (s : State) : Host.Outcome State Fault Refusal := .next (beaconReceive fc mac s)
/-- CLAIM_RECEIVE. -/
def execClaimReceive (fc : Nat) (mac : Bytes) (s : State) : Host.Outcome State Fault Refusal := .next (claimReceive fc mac s)
/-- LEAD_LOST. -/
def execLeadLost (s : State) : Host.Outcome State Fault Refusal := .next (leadLost s)
/-- CLAIM_SEND. -/
def execClaimSend (s : State) : Host.Outcome State Fault Refusal := .next (claimSend s)
/-- ELECTION_WIN. -/
def execElectionWin (s : State) : Host.Outcome State Fault Refusal := .next (electionWin s)
/-- JOIN_REQUEST. -/
def execJoinRequest (fc : Nat) (mac : Bytes) (s : State) : Host.Outcome State Fault Refusal := .next (joinRequest fc mac s)
/-- JOIN_GRANT. -/
def execJoinGrant (fc : Nat) (mac : Bytes) (s : State) : Host.Outcome State Fault Refusal := .next (joinGrant fc mac s)
/-- SEAT_TABLE_AGE_OUT. -/
def execSeatTableAgeOut (seat : Nat) (s : State) : Host.Outcome State Fault Refusal :=
  .next (s.setTir { s.tir with seats := s.tir.seats.filter fun e => !(e.1 == seat) })
/-- DEMAND_REPORT_TIMER. -/
def execDemandReportTimer (s : State) : Host.Outcome State Fault Refusal := .next (demandTimer s)
/-- DEMAND_REPORT_RECEIVE. -/
def execDemandReportReceive (fc : Nat) (mac : Bytes) (s : State) : Host.Outcome State Fault Refusal := .next (demandReceive fc mac s)
/-- ALLOCATION_CYCLE. -/
def execAllocationCycle (s : State) : Host.Outcome State Fault Refusal := .next (allocationCycle s)
/-- SHARE_APPLY_AT. -/
def execShareApplyAt (s : State) : Host.Outcome State Fault Refusal := .next (shareApply s)
/-- SHARE_LAPSE. -/
def execShareLapse (s : State) : Host.Outcome State Fault Refusal := .next (shareLapse s)
/-- SOUND_FRAME_RECEIVE. -/
def execSoundFrameReceive (fc : Nat) (snr : List (List Int)) (s : State) : Host.Outcome State Fault Refusal :=
  .next (soundReceive fc snr s)
/-- TONE_MAP_RECEIVE. -/
def execToneMapReceive (fc : Nat) (mac : Bytes) (s : State) : Host.Outcome State Fault Refusal := .next (mapReceive fc mac s)
/-- TONE_MAP_REFRESH. -/
def execToneMapRefresh (seat : Nat) (s : State) : Host.Outcome State Fault Refusal := .next (mapRefresh seat s)
/-- TONE_MAP_EXPIRY. -/
def execToneMapExpiry (seat : Nat) (s : State) : Host.Outcome State Fault Refusal := .next (mapExpires seat s)
/-- CM_SLAC_PARM_REQ. -/
def execCmSlacParmReq (pevMac : Nat) (s : State) : Host.Outcome State Fault Refusal := .next (slacParm pevMac s)
/-- CM_START_ATTEN_CHAR_IND. -/
def execCmStartAttenCharInd (sounds : Nat) (s : State) : Host.Outcome State Fault Refusal := .next (slacStart sounds s)
/-- CM_MNBC_SOUND_IND. -/
def execCmMnbcSoundInd (atten : List Nat) (s : State) : Host.Outcome State Fault Refusal := .next (slacSound atten s)
/-- CM_ATTEN_CHAR_RSP. -/
def execCmAttenCharRsp (s : State) : Host.Outcome State Fault Refusal := .next (slacAnswer s)
/-- CM_SLAC_MATCH_REQ. -/
def execCmSlacMatchReq (s : State) : Host.Outcome State Fault Refusal := .next (slacMatch s)
/-- SLAC_RUN_TIMEOUT. -/
def execSlacRunTimeout (s : State) : Host.Outcome State Fault Refusal := .next (slacFails s)
/-- COURIER_START. -/
def execCourierStart (s : State) : Host.Outcome State Fault Refusal := .next (courierStart s)

end Sys2Proof.Machine
end

