-- ==== Sys2Proof/Machine/StageLink.lean ====
section
/-!
DEFINITION. The Stage link (spec/15_stage_link.md R389 to R413): lanes and modules, the switch, port 4, IEEE 1588, test
patterns and loopbacks. A frame is its bytes from the destination address to the FCS.
-/

namespace Sys2Proof.Machine

open Sys2Proof

/-! ### Lanes (R391 to R393, R410, R411) -/

/-- The Stage link's state replaced. -/
def State.setSl (s : State) (x : SlState) : State := { s with sl := x }

/-- Whether a lane is powered: I16 runs and the lane's own domain is on. -/
def lanePowered (s : State) (n : Nat) : Bool := decide (n < 4) && s.present 16 && s.domOn (38 + n)

/-- Whether a lane has a test setting. -/
def laneTests (s : State) (n : Nat) : Bool :=
  !(s.reg (P.slLanePatGen n) == 0 && s.reg (P.slLanePatChk n) == 0 && s.reg (P.slLaneLoopback n) == 0)

/-- The state of a lane that is not up. -/
def laneRest (s : State) (n : Nat) : Nat :=
  if laneTests s n then 5
  else if s.reg (P.slLaneSpeed n) = 3 then 0
  else if s.sl.mods.getD n false then 2
  else 1

/-- Whether the thermal governor sheds a lane (R112). -/
def laneShed (s : State) (n : Nat) : Bool :=
  (decide (s.reg P.pwThermLevel = 2) && decide (2 ≤ n)) || (decide (3 ≤ s.reg P.pwThermLevel) && decide (1 ≤ n))

/-- SL_LANEn_STATE: shed or off without power, else test while a test is set (R410), else what the lane does. -/
def laneState (s : State) (n : Nat) : Nat :=
  if lanePowered s n then (if laneTests s n then 5 else s.reg (P.slLaneState n))
  else if laneShed s n then 7
  else 0

/-- The level of SL_TX_DISn, none while VIO33 is off and the output is at high impedance (R90): low only while the lane's domain is
on, its port is not disabled, I15 is present and no shedding applies (R392, R394, R411). -/
def slTxDis (s : State) (n : Nat) : Option Bool :=
  if s.pwr.vio33 = false then none
  else some (!(decide (n < 4) && s.domOn (38 + n) && !(s.reg (P.slPortState n) == 0) && s.present 15 && !(laneShed s n)))

/-- What a lane sends on SL_TXn (R408, R409). -/
inductive LaneSends where
  /-- No swing: the lane has no power or is off. -/
  | idle
  /-- The frames of its port, or idle characters. -/
  | frames
  /-- A test pattern by its code. -/
  | pattern (code : Nat)
  /-- The data received, retimed. -/
  | received
deriving DecidableEq, Repr

/-- SL_TXn: the far-end loopback sends back what it receives; else a selected pattern, which the near-end loopback sends too. -/
def laneSends (s : State) (n : Nat) : LaneSends :=
  if lanePowered s n = false then .idle
  else if s.reg (P.slLaneLoopback n) = 2 then .received
  else if ¬ (s.reg (P.slLanePatGen n) = 0) then .pattern (s.reg (P.slLanePatGen n))
  else if s.reg (P.slLaneSpeed n) = 3 then .idle
  else .frames

/-- Whether a lane's link is up. -/
def laneUp (s : State) (n : Nat) : Bool := laneState s n == 3 || laneState s n == 4

/-- A lane put in a state without a link: an automatic search starts again at 10GBASE-R (R391). -/
def laneInto (n v : Nat) (s : State) : State :=
  (s.setSl { s.sl with slow := setAt s.sl.slow n false }).setReg (P.slLaneState n) v

/-- A lane returned to what its settings and its module make of it. -/
def laneReset (n : Nat) (s : State) : State := laneInto n (laneRest s n) s

/-- A lane's link goes down: counted, and the search starts again. -/
def laneDown (n rest : Nat) (s : State) : State :=
  laneInto n rest (if laneUp s n then s.count (P.slLaneLinkDowns n) 1 else s)

/-- A lane that is up loses its lock: with REF156 (R85), or with its own supply. -/
def laneLoses (n : Nat) (s : State) : State := if laneUp s n then laneDown n (laneRest s n) s else s

/-- Every lane loses its lock. -/
def lanesLoseLock (s : State) : State := (List.range 4).foldl (fun s n => laneLoses n s) s

/-- 500 ms without a link: an automatic lane tries the other speed. -/
def laneSearch (n : Nat) (s : State) : State :=
  if lanePowered s n ∧ s.reg (P.slLaneState n) = 2 ∧ s.reg (P.slLaneSpeed n) = 0 then
    s.setSl { s.sl with slow := setAt s.sl.slow n (!(s.sl.slow.getD n false)) }
  else s

/-- Whether a lane seeks 1000BASE-X. -/
def laneSlow (s : State) (n : Nat) : Bool :=
  s.reg (P.slLaneSpeed n) == 2 || (s.reg (P.slLaneSpeed n) == 0 && s.sl.slow.getD n false)

/-- The link comes up at the speed sought, also once a transmitter fault has gone. -/
def laneLinkUp (n : Nat) (s : State) : State :=
  if lanePowered s n ∧ (s.reg (P.slLaneState n) = 2 ∨ s.reg (P.slLaneState n) = 6) ∧ s.src 4 = 2 then
    s.setReg (P.slLaneState n) (if laneSlow s n then 4 else 3)
  else s

/-- Loss of lock, LOS or a transmitter fault; a frame cut short counts as a drop of its ingress port. -/
def laneLinkDown (n : Nat) (fault : Bool) (midFrame : Option Nat) (s : State) : State :=
  if lanePowered s n = false then s
  else
    let s := match midFrame with
      | some p => if laneUp s n ∧ p < 5 then s.count (P.slPortDrops p) 1 else s
      | none => s
    laneDown n (if fault then 6 else laneRest s n) s

/-- A module read 300 ms after its insertion; a read that fails leaves its object at 0. -/
def moduleInsert (n : Nat) (ident a2 : Option Bytes) (s : State) : State :=
  if s.present 16 = false ∨ 3 < n then s
  else
    let s := s.setSl { s.sl with mods := setAt s.sl.mods n true }
    let s := (s.setReg (P.slModId n) (((ident.map fun b => ofBytes (padTo 128 b))).getD 0)).setReg (P.slModA2 n)
      (((a2.map fun b => ofBytes (padTo 16 b))).getD 0)
    if laneUp s n then s else laneReset n s

/-- The diagnostics read again. -/
def modulePoll (n : Nat) (a2 : Option Bytes) (s : State) : State :=
  if s.present 16 ∧ n < 4 ∧ s.sl.mods.getD n false then
    s.setReg (P.slModA2 n) (((a2.map fun b => ofBytes (padTo 16 b))).getD 0)
  else s

/-- A module removed. -/
def moduleRemoved (n : Nat) (s : State) : State :=
  if s.present 16 = false ∨ 3 < n then s
  else
    let s := s.setSl { s.sl with mods := setAt s.sl.mods n false }
    laneDown n (laneRest s n) s

/-! ### Ethernet frames -/

/-- The FCS of bytes. -/
def fcsOf (l : Bytes) : Nat := crc32 l
/-- The bytes of a frame before its FCS. -/
def frameBody (l : Bytes) : Bytes := l.take (l.length - 4)
/-- The FCS that a frame carries. -/
def frameFcs (l : Bytes) : Nat := ofBytes (l.drop (l.length - 4))
/-- An address as a number, its first byte highest. -/
def macAt (l : Bytes) (o : Nat) : Nat := ofBytesBE (slice l o 6)
/-- Two bytes in network order. -/
def be16 (l : Bytes) (o : Nat) : Nat := ofBytesBE (slice l o 2)
/-- Whether a frame is tagged. -/
def tagged (l : Bytes) : Bool := be16 l 12 == 0x8100
/-- The tag's 16 bits of a frame on an ingress port (R395): its own, or those of the port. -/
def frameTci (s : State) (port : Nat) (l : Bytes) : Nat :=
  if tagged l ∧ ¬ (be16 l 14 % 4096 = 0) then be16 l 14
  else s.reg (P.slPortPcp port) * 8192 + s.reg (P.slPortPvid port)
/-- PCP and VID of a frame on an ingress port. -/
def frameVlan (s : State) (port : Nat) (l : Bytes) : Nat × Nat := (frameTci s port l / 8192, frameTci s port l % 4096)
/-- A frame's bytes without tag and FCS. -/
def untag (l : Bytes) : Bytes := if tagged l then l.take 12 ++ (frameBody l).drop 16 else frameBody l

/-- The entry of SL_VLAN_TABLE for a VID (R413). -/
def vlanEntry (s : State) (vid : Nat) : Option Nat :=
  if vid = 0 then none
  else ((List.range 64).map fun i => s.reg P.slVlanTable / 2 ^ (64 * i) % 2 ^ 64).find? fun e => bits e 11 0 == vid

/-- Whether a port is a member of an entry. -/
def vlanMember (e port : Nat) : Bool := bitOf e (16 + port)
/-- Whether a port sends an entry's frames untagged. -/
def vlanUntagged (e port : Nat) : Bool := bitOf e (24 + port)

/-- Where the data of an IPv4 datagram begins in an untagged frame: behind the header's length in words. -/
def ipData (l : Bytes) : Nat := 14 + 4 * (l.getD 14 0 % 16)

/-- The destination port of an unfragmented UDP datagram over IPv4. -/
def udpPort (l : Bytes) : Option Nat :=
  if be16 l 12 = 0x0800 ∧ l.getD 14 0 / 16 = 4 ∧ l.getD 23 0 = 17 ∧ be16 l 20 % 0x4000 = 0 then some (be16 l (ipData l + 2))
  else none

/-- The sum of bytes as 16-bit words in network order. -/
def sum16 : Bytes → Nat
  | a :: b :: t => a * 256 + b + sum16 t
  | [a] => a * 256
  | [] => 0

/-- Whether the UDP checksum of an untagged frame is zero or holds, over the pseudo header and the datagram. -/
def udpSumOk (l : Bytes) : Bool :=
  let o := ipData l
  be16 l (o + 6) == 0 || (sum16 (slice l 26 8) + 17 + be16 l (o + 4) + sum16 (slice l o (be16 l (o + 4)))) % 65535 == 0

/-- The PTP message type of an untagged frame, over Layer 2 or UDP/IPv4, and where its header lies. -/
def ptpType (l : Bytes) : Option (Nat × Nat) :=
  if be16 l 12 = 0x88F7 then some (l.getD 14 0 % 16, 14)
  else if udpPort l = some 319 ∨ udpPort l = some 320 then some (l.getD (ipData l + 8) 0 % 16, ipData l + 8)
  else none

/-- Whether a message type is one whose residence time is added (R404). -/
def ptpCorrected (t : Nat) : Bool := t == 0 || t == 1 || t == 9
/-- Whether a message type is an event message. -/
def ptpEvent (t : Nat) : Bool := decide (t < 4)

/-- The residence time in 2^-16 ns added to correctionField, and the UDP checksum left as zero (R404). -/
def addResidence (residence : Nat) (l : Bytes) : Bytes :=
  match ptpType l with
  | none => l
  | some (t, o) =>
    if ptpCorrected t then
      let c := (ofBytesBE (slice l (o + 8) 8) + residence) % 2 ^ 64
      let l := l.take (o + 8) ++ toBytesBE 8 c ++ l.drop (o + 16)
      if o = 14 then l else l.take (o - 2) ++ [0, 0] ++ l.drop o
    else l

/-! ### The switch (R394 to R400) -/

/-- Whether a port takes part in switching: its lane is up without a test and its state is not disabled. -/
def portTakes (s : State) (p : Nat) : Bool :=
  if p = 4 then !(s.reg (P.slPortState 4) == 0) else laneUp s p && !(s.reg (P.slPortState p) == 0)

/-- Whether a port forwards. -/
def portForwards (s : State) (p : Nat) : Bool := portTakes s p && s.reg (P.slPortState p) == 1

/-- A source address learned, if the table has it or has room. -/
def learn (vid mac port : Nat) (s : State) : State :=
  if mac / 2 ^ 40 % 2 = 1 then s
  else
    let t := s.sl.table.filter fun e => !(e.1 == vid && e.2.1 == mac)
    if t.length < 4096 then s.setSl { s.sl with table := (vid, mac, port, s.mono) :: t } else s

/-- The port of an address: port 4 for the post's own in its VLAN, else by the table. -/
def lookupPort (s : State) (vid mac : Nat) : Option Nat :=
  if vid = s.reg P.slHostVid ∧ mac = s.reg P.slMacAddr then some 4
  else (s.sl.table.find? fun e => e.1 == vid && e.2.1 == mac).map fun e => e.2.2.1

/-- The link-local group addresses 01-80-C2-00-00-00 to 0F. -/
def reservedGroup (mac : Nat) : Bool := mac / 16 == 0x0180C200000

/-- The egress ports of a frame and whether it is a flood (R394). -/
def egressPorts (s : State) (port vid mac : Nat) (ptp : Bool) : List Nat × Bool :=
  if s.reg (P.slPortState port) = 2 then (if (ptp || reservedGroup mac) && !(port == 4) && portTakes s 4 then [4] else [], false)
  else
    let e := (vlanEntry s vid).getD 0
    let ok (p : Nat) : Bool := !(p == port) && vlanMember e p && portForwards s p
    if mac / 2 ^ 40 % 2 = 0 then
      match lookupPort s vid mac with
      | some p => (if ok p then [p] else [], false)
      | none => ((List.range 5).filter ok, true)
    else ((List.range 5).filter ok, true)

/-- Whether a flood of an ingress port is within its limit now. -/
def floodAllowed (s : State) (port : Nat) : Bool :=
  let n := s.reg (P.slPortFloodLimit port)
  n == 0 || decide (((s.sl.floods.getD port []).filter fun t => decide (s.mono < t + second)).length < n)

/-- A flood of an ingress port noted. -/
def noteFlood (port : Nat) (s : State) : State :=
  s.setSl { s.sl with
    floods := setAt s.sl.floods port (s.mono :: (s.sl.floods.getD port []).filter fun t => decide (s.mono < t + second)) }

/-- The egress queue of a frame (R396). -/
def queueOf (s : State) (pcp : Nat) (l : Bytes) : Nat :=
  match ptpType l with
  | some (t, _) => if ptpEvent t then 7 else bits (s.reg P.slPcpMap) (3 * pcp + 2) (3 * pcp)
  | none => bits (s.reg P.slPcpMap) (3 * pcp + 2) (3 * pcp)

/-- The bytes of a frame on an egress port, without FCS: tagged or not, with the residence time where the clock is transparent. -/
def egressBytes (s : State) (port tci residence : Nat) (l : Bytes) : Bytes :=
  let l := if s.reg P.slPtpTcEn = 1 then addResidence residence l else l
  if vlanUntagged ((vlanEntry s (tci % 4096)).getD 0) port then l
  else l.take 12 ++ [0x81, 0] ++ toBytesBE 2 tci ++ l.drop 12

/-- Whether a frame is cut through from a port to another (R398); `busy` has a bit per egress port that is not idle. -/
def cutsThrough (s : State) (from_ port busy : Nat) : Bool :=
  s.reg (P.slPortFwd from_) == 0 && !(port == 4) && !(from_ == 4) && !(bitOf busy port)
    && !(laneState s from_ == 4 && laneState s port == 3)

/-- Whether an untagged frame is no datagram, or one whose non-zero UDP checksum holds. -/
def datagramOk (l : Bytes) : Bool := !(be16 l 12 == 0x0800 && l.getD 23 0 == 17) || udpSumOk l

/-- What port 4 serves while I04 runs (R401): ARP and UDP or ICMP for the post's address, unfragmented, with a checksum that holds,
and PTP while its clock is not off (R403). -/
def hostServes (s : State) (vid : Nat) (l : Bytes) : Bool :=
  let ip := s.reg P.slIpAddr
  s.present 4 && vid == s.reg P.slHostVid && datagramOk l && (macAt l 0 == s.reg P.slMacAddr || macAt l 0 / 2 ^ 40 % 2 == 1)
    && (((ptpType l).isSome && !(s.reg P.slPtpMode == 0))
      || (!(ip == 0) && ((be16 l 12 == 0x0806 && ofBytesBE (slice l 38 4) == ip)
        || (be16 l 12 == 0x0800 && ofBytesBE (slice l 30 4) == ip && be16 l 20 % 0x4000 == 0
            && (l.getD 23 0 == 1 || udpPort l == some 49320)))))

/-- A stored frame for port 4: posted on channel 19 by the DMA engine of its lane, or discarded (R401, R402). -/
def portFour (from_ vid : Nat) (l : Bytes) (s : State) : State :=
  if hostServes s vid l = false ∨ (s.chan 19).full ∨ s.cbdOn = false then s.count P.slHostDiscards 1
  else relay 19 (0x10 + from_ % 4) 7 0 s

/-- One egress port of a frame; `good` tells whether its FCS held and `full` has a bit per port whose queue has no room. -/
def egress (from_ tci busy full residence : Nat) (good : Bool) (l : Bytes) (port : Nat) (s : State) : State :=
  if bitOf full port then (if good then s.count (P.slPortDrops from_) 1 else s)
  else if port = 4 then (if good then portFour from_ (tci % 4096) l s else s)
  else
    let b := egressBytes s port tci residence l
    let out (fcs : Nat) (s : State) : State :=
      (s.emit (.slFrame port (queueOf s (tci / 8192) l) (b ++ toBytes 4 fcs))).count (P.slPortTxFrames port) 1
    if good then out (fcsOf b) s
    else if cutsThrough s from_ port busy then (out (0xFFFFFFFF - fcsOf b) s).count (P.slPortTxStomped port) 1
    else s

/-- A frame of good length on a VLAN of its ingress port. -/
def switchFrame (port busy full residence : Nat) (good : Bool) (l : Bytes) (s : State) : State :=
  let vid := (frameVlan s port l).2
  let u := untag l
  match vlanEntry s vid with
  | none => if good then s.count (P.slPortDrops port) 1 else s
  | some e =>
    if vlanMember e port = false then (if good then s.count (P.slPortDrops port) 1 else s)
    else
      let s := if good ∧ portForwards s port then learn vid (macAt l 6) port s else s
      let p := egressPorts s port vid (macAt l 0) (ptpType u).isSome
      if p.2 ∧ floodAllowed s port = false then (if good then s.count (P.slPortDrops port) 1 else s)
      else p.1.foldl (fun s q => egress port (frameTci s port l) busy full residence good u q s) (if p.2 then noteFlood port s else s)

/-- A frame received on a lane's port. -/
def ingressFrame (port : Nat) (l : Bytes) (busy full residence : Nat) (s : State) : State :=
  if s.present 15 = false ∨ 3 < port ∨ portTakes s port = false then s
  else
    let fcs := fcsOf (frameBody l)
    if l.length < 64 ∨ 9216 < l.length then s.count (P.slPortDrops port) 1
    else if frameFcs l = fcs then
      switchFrame port busy full residence true l (s.count (P.slPortRxFrames port) 1)
    else if frameFcs l = 0xFFFFFFFF - fcs then s.count (P.slPortRxStomped port) 1
    else switchFrame port busy full residence false l (s.count (P.slPortRxFcsErr port) 1)

/-- An address entry ages out. -/
def addressAge (vid mac : Nat) (s : State) : State :=
  s.setSl { s.sl with table := s.sl.table.filter fun e => !(e.1 == vid && e.2.1 == mac) }

/-! ### Port 4 (R401, R402) -/

/-- Whether the switch delivers frames to port 4. -/
def hostReached (s : State) : Bool := s.present 15 && portForwards s 4

/-- Whether E2 serves the post's address. -/
def hostServing (s : State) : Bool := s.present 4 && !(s.reg P.slIpAddr == 0)

/-- What port 4 sends to a station under SL_CUE_PCP, through the ports that lead there; with none of them up it goes nowhere. -/
def hostSend (kind mac ip : Nat) (data : Bytes) (s : State) : State :=
  let ports := (egressPorts s 4 (s.reg P.slHostVid) mac false).1
  if ports = [] then s
  else (ports.foldl (fun s p => s.count (P.slPortTxFrames p) 1) s).emit (.slHost kind (s.reg P.slCuePcp) mac ip data)

/-- An ARP request: answered for the post's address, else discarded. -/
def arpRequest (mac ip target : Nat) (s : State) : State :=
  if hostReached s = false then s
  else if hostServing s ∧ target = s.reg P.slIpAddr then hostSend 1 mac ip (toBytesBE 6 (s.reg P.slMacAddr)) s
  else s.count P.slHostDiscards 1

/-- An ICMP echo request: answered for the post's address where the requester has a way, else discarded, as a fragment is. -/
def icmpEcho (mac ip target : Nat) (fragment : Bool) (data : Bytes) (s : State) : State :=
  if hostReached s = false then s
  else if hostServing s ∧ target = s.reg P.slIpAddr ∧ fragment = false then
    (if (nextHop s ip).isSome then hostSend 2 mac ip data s else s)
  else s.count P.slHostDiscards 1

/-- A UDP datagram to port 49320 of the post's address, received through a lane's port: its Cue frame goes to the server. -/
def cueDatagram (port ip udp : Nat) (checksumOk fragment : Bool) (data : Bytes) (s : State) : State :=
  if hostReached s = false ∨ portForwards s port = false then s
  else if hostServing s = false ∨ checksumOk = false ∨ fragment then s.count P.slHostDiscards 1
  else
    cueArrive .stageLink ip udp data
      (s.setSl { s.sl with hosts := (ip, port) :: s.sl.hosts.filter fun e => !(e.1 == ip) })

/-! ### IEEE 1588 (R403 to R407) -/

/-- Whether the ordinary clock works: its mode, E2, the PTP island and REF156. -/
def ptpWorks (s : State) : Bool := !(s.reg P.slPtpMode == 0) && s.present 4 && s.present 17 && s.src 4 == 2

/-- SL_PTP_STATE at a start, or after a write of SL_PTP_MODE. -/
def ptpStart (s : State) : State :=
  let s := s.setSl { s.sl with parent := none, timescale := false, inside := 0, outside := 0 }
  (s.setReg P.slPtpState (if s.reg P.slPtpMode = 0 then 0 else 1)).setReg P.slPtpPort 0xFF

/-- Stage time of a PTP time (R406). -/
def ptpTime (sec ns : Nat) : Nat := wrapTime ((sec - 946684800) * 2 ^ 24 + ns * 2 ^ 24 / 1000000000)

/-- Whether stage time follows PTP now (R381, R406). -/
def ptpLeads (s : State) : Bool :=
  s.reg P.slPtpState == 3 && s.sl.timescale && (!(s.reg P.tirTimeSrc == 1) || s.tir.lead)

/-- Stage time slewed or stepped to a time. -/
def followTime (t : Nat) (s : State) : State :=
  let d : Int := (t : Int) - s.now
  if d.natAbs < ms 1 then s.setTir { s.tir with slew := d, slewAcc := 0 } else setStageTime t s

/-- A Sync message with its offset and its time. -/
def ptpSync (offset : Int) (sec ns : Nat) (s : State) : State :=
  if ptpWorks s = false ∨ s.reg P.slPtpState = 4 then s
  else
    let s := (s.setRegI P.slPtpOffsetNs offset).setReg P.slPtpState (if s.reg P.slPtpState = 3 then 3 else 2)
    let good := decide (offset.natAbs < s.reg P.slPtpLockNs)
    let i := if good then s.sl.inside + 1 else 0
    let o := if good then 0 else s.sl.outside + 1
    let s := s.setSl { s.sl with inside := min i 16, outside := min o 4 }
    let s := if 16 ≤ i then s.setReg P.slPtpState 3 else if 4 ≤ o then s.setReg P.slPtpState 2 else s
    if ptpLeads s ∧ 946684800 ≤ sec then followTime (ptpTime sec ns) s else s

/-- Whether a clock is better than another in the data set comparison of IEEE 1588: lower values first. -/
def PtpClock.better (a b : PtpClock) : Bool :=
  let l := [(a.prio1, b.prio1), (a.cls, b.cls), (a.accuracy, b.accuracy), (a.variance, b.variance), (a.prio2, b.prio2),
    (a.ident, b.ident)]
  match l.find? fun e => !(e.1 == e.2) with
  | none => false
  | some e => decide (e.1 < e.2)

/-- The post's own clock; its accuracy and variance are those of an unknown clock. -/
def ownClock (s : State) : PtpClock :=
  let m := s.reg P.slMacAddr
  { prio1 := s.reg P.slPtpPrio1, cls := 248, accuracy := 0xFE, variance := 0xFFFF, prio2 := s.reg P.slPtpPrio2
    ident := m / 2 ^ 24 * 2 ^ 40 + 0xFFFE * 2 ^ 24 + m % 2 ^ 24 }

/-- An Announce message on an external port. -/
def ptpAnnounce (c : PtpClock) (timescale : Bool) (port : Nat) (s : State) : State :=
  if ptpWorks s = false then s
  else
    let new := match s.sl.parent with
      | none => true
      | some p => c.better p || c.ident == p.ident
    if new = false then s
    else
      let same : Bool := match s.sl.parent with
        | none => false
        | some p => c.ident == p.ident
      let s := s.setSl { s.sl with
        parent := some c, timescale := timescale, inside := if same then s.sl.inside else 0
        outside := if same then s.sl.outside else 0 }
      if s.reg P.slPtpMode = 2 ∧ (ownClock s).better c then (s.setReg P.slPtpState 4).setReg P.slPtpPort 0xFF
      else
        let st := s.reg P.slPtpState
        (s.setReg P.slPtpPort port).setReg P.slPtpState (if same ∧ st = 3 then 3 else 2)

/-- 4 s without a Sync: unlocked; a clock that may be master then takes that state. -/
def ptpTimeout (s : State) : State :=
  if ptpWorks s = false ∨ s.reg P.slPtpState = 4 then s
  else
    let s := s.setSl { s.sl with inside := 0, outside := 0 }
    if s.reg P.slPtpMode = 2 then
      ((s.setSl { s.sl with parent := none, timescale := false }).setReg P.slPtpState 4).setReg P.slPtpPort 0xFF
    else if s.reg P.slPtpState = 3 then s.setReg P.slPtpState 2
    else s

/-- REF156 is good again: a clock that was faulty listens. -/
def ptpRecovers (s : State) : State := if s.reg P.slPtpState = 5 then ptpStart s else s

/-- REF156 fails: the PTP timer stops (R407). -/
def ptpFaulty (s : State) : State :=
  if s.present 17 ∧ ¬ (s.reg P.slPtpMode = 0) then
    (s.setSl { s.sl with inside := 0, outside := 0 }).setReg P.slPtpState 5
  else s

/-! ### Tests and starts (R408 to R411) -/

/-- Whether a request came through a lane's port. -/
def throughLane (s : State) (via : Via) (ip n : Nat) : Bool :=
  via == .stageLink && (s.sl.hosts.any fun e => e.1 == ip && e.2 == n)

/-- A write of a lane's pattern or loopback setting: refused over the lane itself; a pattern selector clears the counters. -/
def actLaneTest (p n v : Nat) (clears : Bool) (via : Via) (ip : Nat) (s : State) : Nat × State :=
  if ¬ (v = 0) ∧ throughLane s via ip n then (resBusy, s)
  else
    let was := laneTests s n
    let s := s.setReg p v
    let s := if clears then (s.setReg (P.slLanePatBits n) 0).setReg (P.slLanePatErr n) 0 else s
    (resOk, if laneTests s n = was then s else laneReset n s)

/-- A write of SL_LANEn_SPEED: a lane that is up stays so, unless it is switched off. -/
def actLaneSpeed (n v : Nat) (s : State) : State := if laneUp s n ∧ ¬ (v = 3) then s else laneDown n (laneRest s n) s

/-- I15 starts: an empty address table; the address of port 4 follows the post's identity until one is written. -/
def switchStart (s : State) : State :=
  let s := s.setSl { s.sl with table := [], floods := List.replicate 5 [], hosts := [] }
  match persistGet s.jnl.persist P.slMacAddr with
  | some _ => s
  | none => s.setReg P.slMacAddr (0x02 * 2 ^ 40 + ofBytesBE (s.postId.drop 3))

/-- I16 starts: each lane looks for its module. -/
def lanesStart (s : State) : State := (List.range 4).foldl (fun s n => laneReset n s) s

/-! ### The commands -/

/-- LANE_SEARCH_TIMER. -/
def execLaneSearchTimer (lane : Nat) (s : State) : Host.Outcome State Fault Refusal := .next (laneSearch lane s)
/-- LANE_LINK_UP. -/
def execLaneLinkUp (lane : Nat) (s : State) : Host.Outcome State Fault Refusal := .next (laneLinkUp lane s)
/-- LANE_LINK_DOWN. -/
def execLaneLinkDown (lane : Nat) (fault : Bool) (midFrame : Option Nat) (s : State) : Host.Outcome State Fault Refusal :=
  .next (laneLinkDown lane fault midFrame s)
/-- MODULE_INSERT_READ. -/
def execModuleInsertRead (lane : Nat) (ident a2 : Option Bytes) (s : State) : Host.Outcome State Fault Refusal :=
  .next (moduleInsert lane ident a2 s)
/-- MODULE_A2_POLL. -/
def execModuleA2Poll (lane : Nat) (a2 : Option Bytes) (s : State) : Host.Outcome State Fault Refusal := .next (modulePoll lane a2 s)
/-- SL_MODULE_REMOVED. -/
def execSlModuleRemoved (lane : Nat) (s : State) : Host.Outcome State Fault Refusal := .next (moduleRemoved lane s)
/-- SWITCH_INGRESS_FRAME. -/
def execSwitchIngressFrame (port : Nat) (frame : Bytes) (busy full residence : Nat) (s : State) :
    Host.Outcome State Fault Refusal := .next (ingressFrame port frame busy full residence s)
/-- ADDRESS_AGE_OUT. -/
def execAddressAgeOut (vid mac : Nat) (s : State) : Host.Outcome State Fault Refusal := .next (addressAge vid mac s)
/-- ARP_REQUEST. -/
def execArpRequest (mac ip target : Nat) (s : State) : Host.Outcome State Fault Refusal := .next (arpRequest mac ip target s)
/-- ICMP_ECHO_REQUEST. -/
def execIcmpEchoRequest (mac ip target : Nat) (fragment : Bool) (data : Bytes) (s : State) : Host.Outcome State Fault Refusal :=
  .next (icmpEcho mac ip target fragment data s)
/-- CUE_UDP_DATAGRAM. -/
def execCueUdpDatagram (port ip udp : Nat) (checksumOk fragment : Bool) (data : Bytes) (s : State) :
    Host.Outcome State Fault Refusal := .next (cueDatagram port ip udp checksumOk fragment data s)
/-- PTP_SYNC_RECEIVE. -/
def execPtpSyncReceive (offset : Int) (sec ns : Nat) (s : State) : Host.Outcome State Fault Refusal := .next (ptpSync offset sec ns s)
/-- PTP_ANNOUNCE_RECEIVE. -/
def execPtpAnnounceReceive (prio1 cls accuracy variance prio2 ident : Nat) (timescale : Bool) (port : Nat) (s : State) :
    Host.Outcome State Fault Refusal := .next (ptpAnnounce ⟨prio1, cls, accuracy, variance, prio2, ident⟩ timescale port s)
/-- PTP_SYNC_TIMEOUT. -/
def execPtpSyncTimeout (s : State) : Host.Outcome State Fault Refusal := .next (ptpTimeout s)
/-- PTP_SYNC_SEND. -/
def execPtpSyncSend (s : State) : Host.Outcome State Fault Refusal :=
  .next (if ptpWorks s ∧ s.reg P.slPtpState = 4 then s.emit (.ptpSync (s.reg P.slCuePcp) (s.reg P.slPtpDomain) (s.reg P.slPtpTransport) s.now) else s)

end Sys2Proof.Machine
end

