-- ==== Sys2Proof/Machine/Tags.lean ====
section
/-!
DEFINITION. The card reader, the dark tag and the contact slots (spec/16_tags_and_cards.md R414 to R435).
-/

namespace Sys2Proof.Machine

open Sys2Proof

/-! ### The reader (R416 to R418) -/

/-- The reader replaced. -/
def State.setRdr (s : State) (x : RdrState) : State := { s with rdr := x }

/-- An allow-list entry of a card: type, length, identity zero-padded to 10 bytes. -/
def Card.entry (c : Card) : Bytes := [c.kind % 256, c.ident.length % 256] ++ padTo 10 c.ident

/-- Whether RDR_ALLOW holds a card. -/
def cardAllowed (s : State) (c : Card) : Bool :=
  (List.range 256).any fun i => toBytes 12 (s.reg P.rdrAllow / 2 ^ (96 * i)) == c.entry

/-- Whether the session that runs was authorised by card. -/
def cardSession (s : State) : Bool :=
  sessionOpen s && (match s.box.session with
    | some e => e.auth == 3
    | none => false)

/-- A judgement that ends with a result. -/
def cardResult (res : Nat) (s : State) : State := (s.setRdr { s.rdr with judging := none }).setReg P.rdrAuthResult res

/-- A card granted: a postpaid session starts with its identity. -/
def cardGrant (c : Card) (s : State) : State :=
  let s := grantSession 3 (ofBytes c.ident) (cardResult 0 s)
  if cardSession s then s.setRdr { s.rdr with holder := some (c, false) } else s

/-- Whether the SAM of a slot is active. -/
def samActive (s : State) (slot : Nat) : Bool :=
  s.present 18 && (s.reg (P.crdState slot) == 2 || s.reg (P.crdState slot) == 3)

/-- The APDU for a card (R417). -/
def samApdu (s : State) (c : Card) : Bytes := toBytes 4 (s.reg P.rdrSamCmd) ++ [0x0C] ++ c.entry ++ [0]

/-- A card seen alone in two consecutive polls is judged. -/
def judgeCard (c : Card) (s : State) : State :=
  let s := (s.setReg P.rdrLastCard (c.ident.length % 256 * 2 ^ 48 + c.kind % 256 * 2 ^ 56 + s.now % 2 ^ 64 * 2 ^ 64)).setReg
    P.rdrLastUid (ofBytes (padTo 10 c.ident))
  let mode := s.reg P.rdrAuthMode
  if mode = 0 then (if cardAllowed s c then cardGrant c s else cardResult 1 s)
  else if mode = 1 then notifyMain P.rdrLastCard (s.setRdr { s.rdr with judging := some (c, 1) })
  else if samActive s (s.reg P.rdrSamSlot) then
    (s.setRdr { s.rdr with judging := some (c, 2) }).emit (.sam (s.reg P.rdrSamSlot) (samApdu s c))
  else cardResult 4 s

/-- A poll during a card-authorised session: only the authorising card counts (R417). -/
def pollHolder (cards : List Card) (s : State) : State :=
  match s.rdr.holder with
  | none => s
  | some (c, absent) =>
    let alone := cards == [c]
    let twice := alone && s.rdr.seen == some c
    let s := s.setRdr { s.rdr with
      seen := if alone then some c else none, holder := some (c, absent || !(cards.contains c)) }
    if twice ∧ absent then windSession 0x01 (s.setRdr { s.rdr with holder := none }) else s

/-- A poll without a card-authorised session. -/
def pollCards (cards : List Card) (s : State) : State :=
  match cards with
  | [c] =>
    let twice := s.rdr.seen == some c
    let s := s.setRdr { s.rdr with seen := some c }
    match s.rdr.judging with
    | some (d, _) => if d = c then s else cardResult 6 s
    | none => if twice then judgeCard c s else s
  | [] =>
    let s := s.setRdr { s.rdr with seen := none }
    if s.rdr.judging.isSome then cardResult 6 s else s
  | _ => cardResult 3 (s.setRdr { s.rdr with seen := none })

/-- Every RDR_POLL_MS: the cards that answer, of the types that are enabled. -/
def readerPoll (cards : List Card) (s : State) : State :=
  if s.present 20 = false ∨ s.domOn 60 = false ∨ s.reg P.rdrEnable = 0 ∨ ¬ (s.reg P.rdrTestMode = 0) then s
  else
    let l := cards.filter fun c => decide (1 ≤ c.kind ∧ c.kind ≤ 3) && bitOf (s.reg P.rdrTypes) (c.kind - 1)
    if cardSession s then (if s.reg P.rdrCardStop = 1 then pollHolder l s else s)
    else pollCards l (s.setRdr { s.rdr with holder := none })

/-- A write of RDR_HOST_GRANT. -/
def actHostGrant (v : Nat) (s : State) : State :=
  match s.rdr.judging with
  | some (c, 1) => if v = 1 then cardGrant c s else cardResult 5 s
  | _ => s

/-- RDR_HOST_WAIT_MS passes without a grant. -/
def hostGrantTimeout (s : State) : State :=
  match s.rdr.judging with
  | some (_, 1) => cardResult 5 s
  | _ => s

/-- The SAM's status word. -/
def samResponse (sw : Nat) (s : State) : State :=
  match s.rdr.judging with
  | some (c, 2) => if sw = 0x9000 then cardGrant c s else cardResult 2 s
  | _ => s

/-- The SAM is lost or silent during a judgement. -/
def samLost (s : State) : State :=
  match s.rdr.judging with
  | some (_, 2) => cardResult 4 s
  | _ => s

/-! ### The tag (R419 to R425) -/

/-- The tag replaced. -/
def State.setTag (s : State) (x : TagState) : State := { s with tag := x }

/-- TAG_STATE. -/
abbrev tagOff : Nat := 0
abbrev tagIdle : Nat := 1
abbrev tagReady : Nat := 2
abbrev tagOpen : Nat := 3
abbrev tagSecured : Nat := 4
abbrev tagActive : Nat := 5
abbrev tagHalted : Nat := 6

/-- TAG_STATE read. -/
def tagSt (s : State) : Nat := s.reg P.tagState
/-- TAG_STATE set; what a state does not carry is forgotten. -/
def tagTo (n : Nat) (s : State) : State := s.setReg P.tagState n
/-- The challenge of AUTHENTICATE 1 does not outlast another command. -/
def dropChallenge (s : State) : State := s.setTag { s.tag with rndB := none }

/-- A field appears: PD62 and, where VAON is not good, PD02 rise; the tag is idle. -/
def fieldOn (s : State) : State :=
  if s.tag.field then s
  else
    let s := ((s.setDom 62 .on).setDom 2 .on).setSrc 9 0
    tagTo tagIdle (s.setTag { s.tag with
      field := true, fieldAt := s.mono, level := 1, woken := false, rats := false, rndB := none, byAes := false, failAt := none })

/-- What the tag loses with PD02. -/
def tagPowerLost (s : State) : State :=
  (([P.tagAuthFails, P.tagWeakRefusals, P.tagNoteSel].foldl State.clearReg s).setReg P.tagState tagOff).setTag
    { s.tag with level := 1, woken := false, rats := false, rndB := none, byAes := false, failAt := none }

/-- The field is lost: power-off; without VAON PD02 falls too. -/
def fieldLoss (s : State) : State :=
  let s := tagTo tagOff ((s.setDom 62 .off).setTag { s.tag with
    field := false, level := 1, woken := false, rats := false, rndB := none, byAes := false, failAt := none })
  if s.pwr.darkKeeper then s else tagPowerLost (s.setDom 2 .off)

/-- Whether the tag is powered and answers (R419): 5 ms after the field came. -/
def tagReadyToAnswer (s : State) : Bool := s.tag.field && s.domOn 2 && decide (s.tag.fieldAt + ms 5 ≤ s.mono)

/-- ATQA, low byte first. -/
def atqa : Bytes := [0x44, 0x00]

/-- The frame delay in cycles of the field, by the command's last bit (R421). -/
def frameDelay (lastBit : Bool) : Nat := if lastBit then 1236 else 1172

/-- Whether the tag is in READY, or in ACTIVE before RATS: the states in which a command that ISO/IEC 14443-3 does not expect sends it
back. -/
def tagSelecting (s : State) : Bool := tagSt s == tagReady || (tagSt s == tagActive && !s.tag.rats)

/-- Back to where the tag was woken from: IDLE, or HALT from READY* and ACTIVE*. -/
def tagBack (s : State) : State := if tagSelecting s then tagTo (if s.tag.woken then tagHalted else tagIdle) s else s

/-- REQA (0x26) or WUPA (0x52), whose last bits are 0 and 1; only WUPA wakes a halted tag. -/
def requestA (wake : Bool) (s : State) : State :=
  if tagReadyToAnswer s = false then s
  else if tagSt s = tagIdle ∨ (wake ∧ tagSt s = tagHalted) then
    (tagTo tagReady (s.setTag { s.tag with level := 1, rats := false, woken := tagSt s == tagHalted })).emit
      (.tag atqa (some (frameDelay wake)))
  else tagBack s

/-- UID0 to UID6 (R420). -/
def tagUid (s : State) : Bytes := s.postId.drop 1

/-- The UID part of a cascade level with its BCC. -/
def uidPart (s : State) (level : Nat) : Bytes :=
  let p := if level = 1 then 0x88 :: (tagUid s).take 3 else slice (tagUid s) 3 4
  p ++ [p.foldl (fun a b => a ^^^ b) 0]

/-- Anticollision: the tag answers where the bits received match its part. The command ends with the last bit of the prefix, or of the
number of valid bits. -/
def anticollision (level nbits prefix_ : Nat) (s : State) : State :=
  if tagSt s = tagReady ∧ level = s.tag.level ∧ nbits ≤ 40 then
    (if ofBytes (uidPart s level) % 2 ^ nbits = prefix_ % 2 ^ nbits then
      s.emit (.tag (uidPart s level) (some (frameDelay (!(nbits == 0) && bitOf prefix_ (nbits - 1)))))
    else s)
  else tagBack s

/-- The delay of the answer to a SELECT, whose last bit is the last of its CRC_A. -/
def selectDelay (level : Nat) (part : Bytes) : Nat := frameDelay (bitOf (crcA ([0x91 + 2 * level, 0x70] ++ part)) 15)

/-- SELECT of a cascade level. -/
def selectCascade (level : Nat) (part : Bytes) (s : State) : State :=
  if ¬ (tagSt s = tagReady) ∨ ¬ (level = s.tag.level) ∨ ¬ (part = uidPart s level) then tagBack s
  else if level = 1 then (s.setTag { s.tag with level := 2 }).emit (.tag [0x04] (some (selectDelay level part)))
  else (tagTo tagActive s).emit (.tag [0x20] (some (selectDelay level part)))

/-- The tag's ATS (R420). -/
def tagAts : Bytes := [0x05, 0x75, 0x00, 0x40, 0x02]

/-- RATS. -/
def tagRats (s : State) : State :=
  if tagSt s = tagActive ∧ s.tag.rats = false then (s.setTag { s.tag with rats := true }).emit (.tag tagAts none) else tagBack s

/-- The halt command of ISO/IEC 14443-3. -/
def tagHalt (s : State) : State := if tagSt s = tagActive ∧ s.tag.rats = false then tagTo tagHalted s else tagBack s

/-- S(DESELECT). -/
def tagDeselect (s : State) : State :=
  if s.tag.rats ∧ (tagSt s = tagActive ∨ tagSt s = tagOpen ∨ tagSt s = tagSecured) then
    (tagTo tagHalted (s.setTag { s.tag with rats := false, rndB := none, byAes := false })).emit (.tag [0xC2] none)
  else s

/-- The answer to an application command. -/
def tagSay (data : Bytes) (sw : Nat) (s : State) : State := s.emit (.tagApdu data sw)

/-- The address of a slot of the notes region, 0 to 191 (R428, R430). -/
def noteAddr (i : Nat) : Nat := 0x02001000 + 16 * (64 + i % 192)

/-- Whether a word of bank 0 reads as uncorrectable through the dark port: more than one of its cells is wrong (R139). -/
def darkBad (s : State) (a : Nat) : Bool := decide (2 ≤ (liveErrs s a (s.wrongAt a)).length)

/-- One word of bank 0 as the tag reads it (R426): through the fabric while I14 is present, with what I14 finds recorded, else through
the dark port. -/
def tagRead (a : Nat) (s : State) : Nat × Nat × State :=
  if s.present 14 then mramRead a (s.wrongAt a) none s
  else if darkBad s a then (stData, 0, s)
  else (stOk, s.word a, s)

/-- Words read one after the other: their bytes, none where one cannot be read. -/
def tagWords : List Nat → State → Option Bytes × State
  | [], s => (some [], s)
  | a :: l, s =>
    let r := tagRead a s
    if r.1 = stOk then
      let q := tagWords l r.2.2
      (q.1.map fun b => toBytes 16 r.2.1 ++ b, q.2)
    else (none, r.2.2)

/-- The scan of the notes region: the highest COUNT found, where an uncorrectable slot counts as empty (R430). -/
def noteScan : List Nat → Nat × State → Nat × State
  | [], x => x
  | i :: l, x =>
    let r := tagRead (noteAddr i) x.2
    noteScan l (if r.1 = stOk then max x.1 (bits r.2.1 31 0) else x.1, r.2.2)

/-- The next COUNT: one more than the highest found. -/
def nextNote (s : State) : Nat := (noteScan (List.range 192) (0, s)).1 + 1

/-- Whether the block protocol runs. -/
def tagBlock (s : State) : Bool := s.tag.rats && (tagSt s == tagActive || tagSt s == tagOpen || tagSt s == tagSecured)
/-- Whether the application is selected. -/
def tagApp (s : State) : Bool := tagSt s == tagOpen || tagSt s == tagSecured

/-- The tag's AID. -/
def tagAid : Bytes := [0xF0, 0x4D, 0x5A, 0x44, 0x31]

/-- SELECT of the application. -/
def selectApplication (aid : Bytes) (s : State) : State :=
  let s := dropChallenge s
  if tagBlock s = false then s
  else if ¬ (aid.length = 5) then tagSay [] 0x6700 s
  else if ¬ (aid = tagAid) then tagSay [] 0x6A82 s
  else if tagSt s = tagActive then
    let x := noteScan (List.range 192) (0, s)
    tagSay [] 0x9000 ((tagTo tagOpen x.2).setReg P.tagNoteNext (x.1 + 1))
  else tagSay [] 0x9000 s

/-- READ IDENTITY. -/
def readIdentity (s : State) : State :=
  let s := dropChallenge s
  if tagBlock s = false then s
  else if tagApp s = false then tagSay [] 0x6982 s
  else tagSay (s.postId ++ tagUid s ++ [0]) 0x9000 s

/-- READ WINDOW; `bad` tells that a word of it is found uncorrectable at this read. -/
def readWindow (index le : Nat) (bad : Bool) (s : State) : State :=
  let s := dropChallenge s
  if tagBlock s = false then s
  else if tagApp s = false then tagSay [] 0x6982 s
  else if ¬ (le = 16 ∨ le = 32 ∨ le = 48) then tagSay [] 0x6700 s
  else if 256 < index + le / 16 then tagSay [] 0x6A86 s
  else if bad then tagSay [] 0x6F00 s
  else
    let x := tagWords ((List.range (le / 16)).map fun i => 0x02001000 + 16 * (index + i)) s
    match x.1 with
    | some b => tagSay b 0x9000 x.2
    | none => tagSay [] 0x6F00 x.2

/-- Whether a note write may start (R427). -/
def noteFeed (s : State) (vh vr : Nat) : Bool := s.pwr.darkKeeper || (decide (2400 ≤ vh) && decide (2200 ≤ vr))

/-- A note word (R430). -/
def noteWord (text : Bytes) (dark aes : Bool) (count : Nat) : Nat :=
  count % 2 ^ 32 + ofBool aes * 2 ^ 32 + ofBool dark * 2 ^ 33 + ofBytes text * 2 ^ 40

/-- WRITE NOTE with the voltages of the harvester and the reservoir in mV. -/
def writeNote (text : Bytes) (vh vr : Nat) (s : State) : State :=
  let s := dropChallenge s
  if tagBlock s = false then s
  else if ¬ (tagSt s = tagSecured) then tagSay [] 0x6982 s
  else if ¬ (text.length = 11) then tagSay [] 0x6700 s
  else if s.tag.clearing.isSome then tagSay [] 0x6985 s
  else if noteFeed s vh vr = false then tagSay [] 0x6400 (if s.pwr.vaon then s.count P.tagWeakRefusals 1 else s)
  else
    let c := s.reg P.tagNoteNext
    let s := mramStore (noteAddr (c % 192)) (noteWord text (!s.pwr.vaon) s.tag.byAes c) s
    tagSay (toBytes 4 c) 0x9000 (s.setReg P.tagNoteNext (c + 1))

/-- Whether authentication is barred: the mode is not allowed, or a failure came less than 1.0 s ago. -/
def authBarred (s : State) (mode : Nat) : Bool :=
  !(bitOf (s.reg P.tagAuthModes) mode) || (match s.tag.failAt with
    | some t => decide (s.mono < t + second)
    | none => false)

/-- A failed authentication: counted while VAON is good, and back to OPEN. -/
def authFailed (s : State) : State :=
  let s := tagTo tagOpen (s.setTag { s.tag with failAt := some s.mono, rndB := none, byAes := false })
  tagSay [] 0x6300 (if s.pwr.vaon then s.count P.tagAuthFails 1 else s)

/-- VERIFY PASSWORD. -/
def verifyPassword (pw : Bytes) (s : State) : State :=
  let s := dropChallenge s
  if tagBlock s = false then s
  else if tagApp s = false then tagSay [] 0x6982 s
  else if ¬ (pw.length = 8) then tagSay [] 0x6700 s
  else
    match s.tag.password with
    | none => tagSay [] 0x6983 s
    | some k =>
      if authBarred s 0 then tagSay [] 0x6983 s
      else if ofBytes pw = k then tagSay [] 0x9000 (tagTo tagSecured (s.setTag { s.tag with byAes := false }))
      else authFailed s

/-- The tag key as bytes. -/
def tagKey (s : State) : Bytes := toBytes 16 s.tag.key
/-- A block rotated left by one byte. -/
def rotl (l : Bytes) : Bytes := l.drop 1 ++ l.take 1

/-- AUTHENTICATE 1. -/
def authenticateOne (s : State) : State :=
  let s := dropChallenge s
  if tagBlock s = false then s
  else if tagApp s = false then tagSay [] 0x6982 s
  else if authBarred s 1 then tagSay [] 0x6983 s
  else
    let f := s.drawBits 128
    tagSay (aesEncrypt (tagKey s) (toBytes 16 f.1)) 0x9000 (f.2.setTag { f.2.tag with rndB := some f.1 })

/-- AUTHENTICATE 2: RndA followed by the rotated RndB, in CBC with an IV of zero. -/
def authenticateTwo (data : Bytes) (s : State) : State :=
  if tagBlock s = false then s
  else
    match s.tag.rndB with
    | none => tagSay [] 0x6982 s
    | some b =>
      if ¬ (data.length = 32) then tagSay [] 0x6700 (dropChallenge s)
      else
        let a := aesDecrypt (tagKey s) (data.take 16)
        let p := xorBytes (aesDecrypt (tagKey s) (data.drop 16)) (data.take 16)
        if p = rotl (toBytes 16 b) then
          tagSay (aesEncrypt (tagKey s) (rotl a)) 0x9000
            (tagTo tagSecured (s.setTag { s.tag with rndB := none, byAes := true }))
        else authFailed s

/-- GET STATUS. -/
def tagStatus (vh vr : Nat) (s : State) : State :=
  let s := dropChallenge s
  if tagBlock s = false then s
  else if tagApp s = false then tagSay [] 0x6982 s
  else
    tagSay ([tagSt s, if s.pwr.darkKeeper then 2 else 1] ++ toBytes 2 vh ++ toBytes 2 vr ++ toBytes 4 (s.reg P.tagNoteNext)) 0x9000 s

/-- Any write of the tag's keys or modes returns a SECURED tag to OPEN (R422). -/
def tagSecurityDrop (s : State) : State :=
  if tagSt s = tagSecured then tagTo tagOpen (s.setTag { s.tag with byAes := false, rndB := none }) else s

/-- TAG_AES_KEY written with a value already decrypted, or TAG_PASSWORD with its eight bytes as they result. -/
def actTagKey (aes : Bool) (value : Bytes) (s : State) : State :=
  tagSecurityDrop (s.setTag (if aes then { s.tag with key := ofBytes value } else { s.tag with password := some (ofBytes (value.take 8)) }))

/-- A note clear begins with slot 0 (R435). -/
def clearNotes (s : State) : State := s.setTag { s.tag with clearing := some 0 }

/-- The next slot of a note clear written to 0; the last ends it. One slot is written in one unit of time (DESIGN CHOICE,
notes/assumptions/100.md). -/
def clearStep (s : State) : State :=
  match s.tag.clearing with
  | none => s
  | some i =>
    let s := mramStore (noteAddr i) 0 s
    if i < 191 then s.setTag { s.tag with clearing := some (i + 1) }
    else (s.setTag { s.tag with clearing := none }).setReg P.tagNoteNext 1

/-- The Stage manager is lost, and a clear that it wrote with it. -/
def clearLost (s : State) : State := s.setTag { s.tag with clearing := none }

/-! ### The status page (R428, R429) -/

/-- A value of the page as it stands, or as the page last had it while its home has no power (R429). -/
def pageKnown (s : State) (p word hi lo : Nat) : Nat :=
  if s.homePresent (homeOf p) && s.partOn p then s.reg p % 2 ^ (hi - lo + 1) else bits (s.word (0x02001000 + 16 * word)) hi lo

/-- Words 1 to 5 of the page. -/
def pageWords (s : State) : List Nat :=
  let s := ensureTally s
  [pageKnown s P.boxCredit 1 63 0 + pageKnown s P.wdnSesEnd 1 79 72 * 2 ^ 72 + pageKnown s P.boxTamperAlarm 1 95 80 * 2 ^ 80
      + pageKnown s P.irnFaults 1 127 96 * 2 ^ 96,
   pageKnown s P.tlyLastCommit 2 63 0 + s.reg P.pwStartCount * 2 ^ 64 + s.reg P.pwResetCause * 2 ^ 96]
    ++ (List.range 3).map fun x => ofSigned 128 (nanoJoule (s.nrg.sets.getD (3 * x + 1) 0))

/-- Word 0 with a cause. -/
def pageHead (s : State) (cause : Nat) : Nat :=
  cause % 256 + s.reg P.smgTier * 2 ^ 8 + s.seat * 2 ^ 16 + s.reg P.smgHouseId * 2 ^ 32 + s.now % 2 ^ 64 * 2 ^ 64

/-- The Stage manager rewrites the page: word 0 with CAUSE 0x00, words 1 to 5, then word 0 with its cause. In tier K PD36 and PD28 have
power for this update only (R23), which begins and ends here. -/
def statusPage (cause : Nat) (s : State) : State :=
  if s.managerRuns = false then s
  else
    let w := pageWords s
    let s := s.setWord 0x02001000 (pageHead s 0)
    (s.setWords 0x02001010 w).setWord 0x02001000 (pageHead s cause)

/-! ### Contact slots (R431, R432) -/

/-- A slot, n = 3 or 4. -/
def State.slot (s : State) (n : Nat) : CardSlot := s.crd.slots.getD (n - 3) ⟨0, false, 0x11, false, 0⟩
/-- A slot replaced. -/
def State.setSlot (s : State) (n : Nat) (x : CardSlot) : State := { s with crd := { s.crd with slots := setAt s.crd.slots (n - 3) x } }
/-- CRDn_STATE set. -/
def setCrd (n v : Nat) (s : State) : State := s.setReg (P.crdState n) v

/-- The next enabled class below one, in the order C, B, A. -/
def nextClass (s : State) (n below : Nat) : Option Nat :=
  [3, 2, 1].find? fun c => decide (c < below) && bitOf (s.reg (P.crdClassEn n)) (c - 1)

/-- The slot tries the next class, or gives up. -/
def tryClass (n below : Nat) (s : State) : State :=
  match nextClass s n below with
  | some c => setCrd n 1 (s.setSlot n ⟨c, false, 0x11, false, (s.slot n).atrLen⟩)
  | none =>
    let s := setCrd n 4 (s.setSlot n ⟨0, false, 0x11, false, (s.slot n).atrLen⟩)
    if s.reg P.rdrSamSlot = n then samLost s else s

/-- CRDn_EN: high while a class is tried or in use. -/
def crdEn (s : State) (n : Nat) : Bool := !((s.slot n).cls == 0)
/-- CRDn_VSEL1 and CRDn_VSEL0: the class. -/
def crdVsel (s : State) (n : Nat) : Nat := (s.slot n).cls

/-- A module has sat in the slot for 50 ms. -/
def cardInsert (n : Nat) (s : State) : State := if s.present 18 ∧ (n = 3 ∨ n = 4) then tryClass n 4 s else s

/-- What an ATR says: TA1, the protocols in order, the class indicator, and whether its form and TCK hold. -/
structure Atr where
  ta1 : Option Nat
  protos : List Nat
  classes : Nat
  rest : Bytes
  whole : Bool
deriving DecidableEq, Repr

/-- The interface bytes of an ATR from the format nibble `y` of the group for protocol `t`; `first` marks TA1. -/
def atrGroups : Nat → Bool → Nat → Nat → Bytes → Atr → Atr
  | 0, _, _, _, _, a => { a with whole := false }
  | k + 1, first, t, y, l, a =>
    let need := (y % 2) + (y / 2 % 2) + (y / 4 % 2) + (y / 8 % 2)
    if l.length < need then { a with whole := false }
    else
      let ta := if y % 2 = 1 then l.head? else none
      let a := if first then { a with ta1 := ta } else if t = 15 ∧ ta.isSome then { a with classes := ta.getD 0 % 64 } else a
      let rest := l.drop need
      if y / 8 % 2 = 1 then
        let td := l.getD (need - 1) 0
        atrGroups k false (td % 16) (td / 16) rest { a with protos := a.protos ++ [td % 16] }
      else { a with rest := rest }

/-- An ATR read (ISO/IEC 7816-3). -/
def parseAtr (l : Bytes) : Option Atr :=
  match l with
  | ts :: t0 :: rest =>
    if ¬ (ts = 0x3B ∨ ts = 0x3F) then none
    else
      let a := atrGroups 8 true 0 (t0 / 16) rest { ta1 := none, protos := [], classes := 1, rest := [], whole := true }
      let tck := a.protos.any fun t => !(t == 0)
      let n := t0 % 16 + (if tck then 1 else 0)
      if a.whole = false ∨ ¬ (a.rest.length = n) then none
      else if tck ∧ ¬ ((t0 :: rest).foldl (fun x b => x ^^^ b) 0 = 0) then none
      else some a
  | _ => none

/-- F and D of TA1: F ÷ D × 1, none for a reserved code. -/
def fdRatio (ta1 : Nat) : Option Nat :=
  let f := [372, 372, 558, 744, 1116, 1488, 1860, 0, 0, 512, 768, 1024, 1536, 2048, 0, 0].getD (ta1 / 16) 0
  let d := [0, 1, 2, 4, 8, 16, 32, 64, 12, 20, 0, 0, 0, 0, 0, 0].getD (ta1 % 16) 0
  if f = 0 ∨ d = 0 then none else some (f / d)

/-- The TA1 that PPS agrees: the module's, or the defaults where it is absent or F ÷ D falls below 16. -/
def agreedTa1 (a : Atr) : Nat :=
  match a.ta1 with
  | none => 0x11
  | some v =>
    match fdRatio v with
    | some q => if q < 16 then 0x11 else v
    | none => 0x11

/-- The PPS request for a protocol and TA1. -/
def ppsRequest (t ta1 : Nat) : Bytes :=
  let l := [0xFF, 0x10 + t, ta1]
  l ++ [l.foldl (fun a b => a ^^^ b) 0]

/-- S(IFS request) with IFSD 254, the last byte its LRC. -/
def ifsRequest : Bytes := [0x00, 0xC1, 0x01, 0xFE, 0x3E]

/-- What a slot sends after an ATR: the PPS request, and in T=1 the size of its blocks (R432). -/
def slotAgree (n t ta1 : Nat) (s : State) : State :=
  let s := s.emit (.uart n (ppsRequest t ta1))
  if t = 1 then s.emit (.uart n ifsRequest) else s

/-- The bit of a class in a class indicator: A 1, B 2, C 4. -/
def classBit (c : Nat) : Nat := c - 1

/-- An ATR arrives. -/
def cardAtr (n : Nat) (l : Bytes) (s : State) : State :=
  if s.present 18 = false ∨ ¬ (n = 3 ∨ n = 4) ∨ ¬ (s.reg (P.crdState n) = 1) then s
  else
    let s := s.setReg (P.crdAtr n) (ofBytes (padTo 33 l))
    let x := { s.slot n with atrLen := min 33 l.length }
    let s := s.setSlot n x
    match parseAtr l with
    | none => if x.warm then tryClass n x.cls s else s.setSlot n { x with warm := true }
    | some a =>
      let t := (a.protos.head?).getD 0
      if bitOf a.classes (classBit x.cls) = false ∨ 1 < t then tryClass n x.cls s
      else slotAgree n t (agreedTa1 a) (setCrd n (2 + t) (s.setSlot n { x with ta1 := agreedTa1 a, inverse := l.headD 0 == 0x3F }))

/-- No ATR within 40,000 clocks. -/
def cardAtrTimeout (n : Nat) (s : State) : State :=
  if s.present 18 ∧ (n = 3 ∨ n = 4) ∧ s.reg (P.crdState n) = 1 then tryClass n (s.slot n).cls s else s

/-- The module is removed: the slot deactivates, and a judgement that waits for it ends. -/
def cardRemove (n : Nat) (s : State) : State :=
  if s.present 18 = false ∨ ¬ (n = 3 ∨ n = 4) then s
  else
    let s := setCrd n 0 (s.setSlot n ⟨0, false, 0x11, false, (s.slot n).atrLen⟩)
    if s.reg P.rdrSamSlot = n then samLost s else s

/-! ### The commands -/

/-- READER_POLL. -/
def execReaderPoll (cards : List (Nat × Bytes)) (s : State) : Host.Outcome State Fault Refusal :=
  .next (readerPoll (cards.map fun c => ⟨c.1, c.2⟩) s)
/-- HOST_GRANT_TIMEOUT. -/
def execHostGrantTimeout (s : State) : Host.Outcome State Fault Refusal := .next (hostGrantTimeout s)
/-- SAM_RESPONSE. -/
def execSamResponse (sw : Nat) (s : State) : Host.Outcome State Fault Refusal := .next (samResponse sw s)
/-- SAM_WAITING_TIME_EXPIRY. -/
def execSamWaitingTimeExpiry (s : State) : Host.Outcome State Fault Refusal := .next (samLost s)
/-- TAG_FIELD_ON. -/
def execTagFieldOn (s : State) : Host.Outcome State Fault Refusal := .next (fieldOn s)
/-- TAG_FIELD_LOSS. -/
def execTagFieldLoss (s : State) : Host.Outcome State Fault Refusal := .next (fieldLoss s)
/-- REQA. -/
def execReqa (s : State) : Host.Outcome State Fault Refusal := .next (requestA false s)
/-- WUPA. -/
def execWupa (s : State) : Host.Outcome State Fault Refusal := .next (requestA true s)
/-- ANTICOLLISION. -/
def execAnticollision (level nbits uid : Nat) (s : State) : Host.Outcome State Fault Refusal :=
  .next (anticollision level nbits uid s)
/-- SELECT_CASCADE. -/
def execSelectCascade (level : Nat) (part : Bytes) (s : State) : Host.Outcome State Fault Refusal :=
  .next (selectCascade level part s)
/-- RATS. -/
def execRats (s : State) : Host.Outcome State Fault Refusal := .next (tagRats s)
/-- TAG_HALT. -/
def execTagHalt (s : State) : Host.Outcome State Fault Refusal := .next (tagHalt s)
/-- S_DESELECT. -/
def execSDeselect (s : State) : Host.Outcome State Fault Refusal := .next (tagDeselect s)
/-- SELECT_APPLICATION. -/
def execSelectApplication (aid : Bytes) (s : State) : Host.Outcome State Fault Refusal := .next (selectApplication aid s)
/-- READ_IDENTITY. -/
def execReadIdentity (s : State) : Host.Outcome State Fault Refusal := .next (readIdentity s)
/-- READ_WINDOW. -/
def execReadWindow (index le : Nat) (bad : Bool) (s : State) : Host.Outcome State Fault Refusal := .next (readWindow index le bad s)
/-- WRITE_NOTE. -/
def execWriteNote (text : Bytes) (vhMv vrMv : Nat) (s : State) : Host.Outcome State Fault Refusal := .next (writeNote text vhMv vrMv s)
/-- VERIFY_PASSWORD. -/
def execVerifyPassword (pw : Bytes) (s : State) : Host.Outcome State Fault Refusal := .next (verifyPassword pw s)
/-- AUTHENTICATE_1. -/
def execAuthenticate1 (s : State) : Host.Outcome State Fault Refusal := .next (authenticateOne s)
/-- AUTHENTICATE_2. -/
def execAuthenticate2 (data : Bytes) (s : State) : Host.Outcome State Fault Refusal := .next (authenticateTwo data s)
/-- GET_STATUS. -/
def execGetStatus (vhMv vrMv : Nat) (s : State) : Host.Outcome State Fault Refusal := .next (tagStatus vhMv vrMv s)
/-- STATUS_PAGE_UPDATE. -/
def execStatusPageUpdate (cause : Nat) (s : State) : Host.Outcome State Fault Refusal := .next (statusPage cause s)
/-- CARD_INSERT. -/
def execCardInsert (slot : Nat) (s : State) : Host.Outcome State Fault Refusal := .next (cardInsert slot s)
/-- CARD_ATR. -/
def execCardAtr (slot : Nat) (atr : Bytes) (s : State) : Host.Outcome State Fault Refusal := .next (cardAtr slot atr s)
/-- CARD_ATR_TIMEOUT. -/
def execCardAtrTimeout (slot : Nat) (s : State) : Host.Outcome State Fault Refusal := .next (cardAtrTimeout slot s)
/-- CARD_REMOVE. -/
def execCardRemove (slot : Nat) (s : State) : Host.Outcome State Fault Refusal := .next (cardRemove slot s)

end Sys2Proof.Machine
end

