-- ==== Sys2Proof/Machine/Wings.lean ====
section
/-!
DEFINITION. Firmware update, the Wings (spec/19_firmware_update.md R481 to R497): images, the cast, staging with its
difference engine, verification, commit, trial, confirm and rollback, damage, and the staged copy of the boot ROM.
-/

namespace Sys2Proof.Machine

open Sys2Proof

/-- Who makes a write: its seat, its master, the level granted and the transport. -/
structure Writer where
  seat : Nat
  master : Master
  level : Nat
  via : Via
deriving DecidableEq, Repr

/-- The code of a master in a record (R33, R182, R494). -/
def Master.code : Master → Nat
  | .none => 0
  | .main => 0x19
  | .side => 0x18

/-- The MZD1 itself as the author of a record (R528). -/
def Writer.self : Writer := ⟨0xFFFE, .none, 0, .stageDoor⟩

/-! ### Regions and headers (R481, R482) -/

/-- The start of a loader slot. -/
def loaderSlot (k : Nat) : Nat := if k = 0 then 0x02040000 else 0x02060000

/-- The generation count of a loader slot's marker. -/
def slotCount (s : State) (k : Nat) : Nat := bits (s.word (loaderSlot k + 0x1FFF0)) 63 0

/-- The current loader slot: the higher count; slot A where both are equal. -/
def loaderCurrent (s : State) : Nat := if slotCount s 0 < slotCount s 1 then 1 else 0

/-- The marker of a loader slot written with the other slot's count plus 1. -/
def markSlot (k : Nat) (s : State) : State := s.setWord (loaderSlot k + 0x1FFF0) ((slotCount s (1 - k) + 1) % 2 ^ 64)

/-- The largest image of a component. -/
def imageMax (c : Nat) : Nat :=
  if c = 1 then 131056 else if c = 3 ∨ c = 8 then 0x10000 else if c = 7 then 0x400000 else 0x100000

/-- The start of the active region of a component; the loader's is the slot that runs. -/
def activeBase (s : State) (c : Nat) : Nat :=
  if c = 1 then loaderSlot s.pwr.loaderRun
  else [0, 0, 0x02C00000, 0x02F00000, 0x02D00000, 0x02E00000, 0x03400000, 0x03000000, 0x02F10000].getD c 0x02000000

/-- The staged image's place, bank 6. -/
abbrev wingsBank : Nat := 0x03800000
/-- The previous image's place, bank 7. -/
abbrev previousBank : Nat := 0x03C00000

/-- Word `i` of the header at `x`. -/
def hdr (s : State) (x i : Nat) : Nat := s.word (x + 16 * i)
/-- VERSION of an image. -/
def hdrVersion (s : State) (x : Nat) : Nat := bits (hdr s x 0) 63 32
/-- GEN of an image. -/
def hdrGen (s : State) (x : Nat) : Nat := bits (hdr s x 0) 79 64
/-- LENGTH of an image's body. -/
def hdrLength (s : State) (x : Nat) : Nat := bits (hdr s x 0) 31 0
/-- The ACCEPT entry of an image for component `c`: highest and lowest generation. -/
def hdrAccept (s : State) (x c : Nat) : Nat := bits (hdr s x 1 + hdr s x 2 * 2 ^ 128) (32 * (c - 1) + 31) (32 * (c - 1))
/-- HASH of an image. -/
def hdrHash (s : State) (x : Nat) : Bytes := s.bytes (x + 48) 32
/-- RELEASE of an image. -/
def hdrRelease (s : State) (x : Nat) : Nat := bits (hdr s x 5) 63 32
/-- Whether an image is a bridging image (R484). -/
def hdrBridging (s : State) (x : Nat) : Bool := bitOf (hdr s x 5) 0

/-- Whether the header of component `c` stands at `x`: MAGIC, FORMAT and COMPONENT. -/
def headerOk (s : State) (x c : Nat) : Bool :=
  let w := hdr s x 0
  decide (bits w 127 96 = 0x4D5A4431 ∧ bits w 87 80 = 1 ∧ bits w 95 88 = c)

/-- Whether an image of component `c` stands at `x` by its header, of a length its region holds. -/
def imageAt (s : State) (x c : Nat) : Bool := headerOk s x c && decide (256 + hdrLength s x ≤ imageMax c)

/-- The whole length of the image at `x`. -/
def imageLen (s : State) (x : Nat) : Nat := 256 + hdrLength s x

/-- SHA-256 of the body of the image at `x`. -/
def bodyHash (s : State) (x : Nat) : Bytes := sha256 (s.bytes (x + 256) (hdrLength s x))

/-- The components. -/
def components : List Nat := [1, 2, 3, 4, 5, 6, 7, 8]

/-! ### The cast (R484, R496) -/

/-- STATE of a component in WNG_CASTc: 0 absent, 1 good, 2 damaged, 3 trial, 4 bridging. -/
def castOf (s : State) (c : Nat) : Nat := bits (s.reg (P.wngCast c)) 79 72

/-- WNG_CASTc of an image at `x` in a state. -/
def castWord (s : State) (x st : Nat) : Nat :=
  if st = 0 then 0
  else ofBytes ((hdrHash s x).take 8) + st % 256 * 2 ^ 72 + hdrGen s x * 2 ^ 80 + hdrVersion s x * 2 ^ 96

/-- Whether a generation lies within an ACCEPT entry. -/
def accepts (entry gen : Nat) : Bool := decide (bits entry 15 0 ≤ gen ∧ gen ≤ bits entry 31 16)

/-- Whether every pair of images fits (R484), where `at'` gives the place of each component's image. -/
def compatible (s : State) (place : Nat → Nat) (present : Nat → Bool) : Bool :=
  components.all fun a => components.all fun b =>
    a == b || !(present a) || !(present b) || accepts (hdrAccept s (place a) b) (hdrGen s (place b))

/-- Whether a component has an active image that is not damaged. -/
def castStands (s : State) (c : Nat) : Bool := !(castOf s c == 0) && !(castOf s c == 2)

/-- WNG_CAST_STATE as R495 codes it. -/
def castState (s : State) : Nat :=
  if !(components.all (castStands s)) then 1
  else if compatible s (activeBase s) (castStands s) = false then 2
  else if components.any fun c => castOf s c == 3 || castOf s c == 4 then 3
  else 0

/-- WNG_CAST_STATE brought up to date (R528: no OBJECT entry). -/
def updateCast (s : State) : State := s.setReg P.wngCastState (castState s)

/-- WNG_CASTc of a component set. -/
def setCast (c w : Nat) (s : State) : State := s.setReg (P.wngCast c) w

/-! ### WNG_STATUS and the update record (R494, R497) -/

/-- STATE of WNG_STATUS. -/
def wngState (s : State) : Nat := bits (s.reg P.wngStatus) 7 0
/-- COMPONENT of WNG_STATUS. -/
def wngComponent (s : State) : Nat := bits (s.reg P.wngStatus) 15 8
/-- RECEIVED of WNG_STATUS. -/
def wngReceived (s : State) : Nat := bits (s.reg P.wngStatus) 63 32

/-- WNG_STATUS set, and held for the next start (notes/assumptions/36.md). -/
def setStatus (v : Nat) (s : State) : State := { s with wng := { s.wng with held := v } }.setReg P.wngStatus v

/-- STATE and RESULT set. -/
def wngTo (st result : Nat) (s : State) : State :=
  setStatus (setBits (setBits (s.reg P.wngStatus) 7 0 st) 23 16 result) s

/-- The one word of an update record. -/
def updateWord (s : State) (event version : Nat) (w : Writer) : Nat :=
  w.level % 8 * 2 ^ 48 + w.master.code % 32 * 2 ^ 51 + w.seat % 2 ^ 16 * 2 ^ 56 + version % 2 ^ 32 * 2 ^ 72
    + bits (s.reg P.wngStatus) 23 16 * 2 ^ 104 + wngComponent s * 2 ^ 112 + event % 256 * 2 ^ 120

/-- An update record whose refusal changes nothing else. -/
def updateRecord (event : Nat) (w : Writer) (s : State) : State :=
  record 0x40 [updateWord s event (hdrVersion s wingsBank) w] s

/-- An update record that decides: whether it was committed. -/
def updateCommit (event : Nat) (w : Writer) (s : State) : Bool × State :=
  commit ⟨0x40, s.now, [updateWord s event (hdrVersion s wingsBank) w], false⟩ s

/-- Whether a staging is open: it keeps PD32 to PD35 powered (R487). -/
def stagingOpen (s : State) : Bool := decide (1 ≤ wngState s ∧ wngState s ≤ 4)

/-- The staging closed: state idle. -/
def closeStaging (s : State) : State :=
  wngTo 0 0 { s with wng := { WngState.reset with factoryCrc := s.wng.factoryCrc, held := s.wng.held } }

/-- A staging that fails with a result. -/
def failStaging (result : Nat) (s : State) : State :=
  updateRecord 8 Writer.self (wngTo 8 result { s with wng := { s.wng with pendCommit := false } })

/-- A delivery refused with a result (R488): state failed. -/
def refuseDiff (result : Nat) (s : State) : State := wngTo 8 result s

/-! ### Opening (R486, R487) -/

/-- Whether the tier lets a transport open a staging. -/
def stagingTier (s : State) (via : Via) : Bool :=
  if via = .stageDoor then !(s.reg P.smgTier == 0x4B) else s.reg P.smgTier == 0x46

/-- The level that a component asks for beyond level 2. -/
def wngLevelOk (c : Nat) (w : Writer) : Bool := !(c == 3 || c == 4) || decide (3 ≤ w.level)

/-- A write of WNG_OPEN. -/
def actWngOpen (v : Nat) (w : Writer) (s : State) : Nat × State :=
  let c := bits v 7 0
  let mode := bits v 15 8
  let len := bits v 63 32
  if wngLevelOk c w = false then (resAccess, s)
  else if ¬ (wngState s = 0) then
    (resBusy, setStatus (setBits (s.reg P.wngStatus) 23 16 6) s)
  else if stagingTier s w.via = false then (resBusy, s)
  else if c = 0 ∨ 8 < c ∨ mode = 0 ∨ 2 < mode ∨ ¬ (bits v 31 16 = 0) ∨ (if mode = 1 then imageMax c else 0x800000) < len then
    (resRange, s)
  else
    let s := [32, 33, 34, 35].foldl (fun s d => s.setDom d .on) s
    let s := { s with wng := { WngState.reset with
      factoryCrc := s.wng.factoryCrc, held := s.wng.held, owner := w.master, mode := mode, declared := len, staged := if mode = 1 then len else 0 } }
    let s := (s.clearReg P.wngPendingCrc).clearReg P.wngHeader
    let s := setStatus ((if len = 0 then 2 else 1) + c * 256) s
    (resOk, record 0x40 [updateWord s 1 0 w] s)

/-! ### Delivery (R487, R488) -/

/-- A range joined to disjoint rising ranges. -/
def addRange : List (Nat × Nat) → Nat → Nat → List (Nat × Nat)
  | [], lo, hi => [(lo, hi)]
  | (a, b) :: t, lo, hi =>
    if hi < a then (lo, hi) :: (a, b) :: t
    else if b < lo then (a, b) :: addRange t lo hi
    else addRange t (min a lo) (max b hi)

/-- Whether every declared byte of a whole image has come. -/
def wholeCame (s : State) : Bool := s.wng.ranges == [(0, s.wng.declared)]

/-- Whether a range of MRAM holds a word known to be uncorrectable, which reads as DATA (R152). -/
def rangeBad (s : State) (lo n : Nat) : Bool :=
  s.mram.wrong.any fun e => decide (lo < e.1 + 16 ∧ e.1 < lo + n) && darkBad s e.1

/-- One step of the difference engine: none where more bytes are needed. `dataBad` says that a read of the active image is found to
return DATA. -/
def diffStep (dataBad : Bool) (s : State) : Option State :=
  let w := s.wng
  let c := wngComponent s
  let base := activeBase s c
  let actLen := if castOf s c = 0 then 0 else imageLen s base
  if wngState s = 8 then none
  else if w.headed = false then
    if w.buf.length < 64 then none
    else
      let h := w.buf.take 64
      let cast := s.reg (P.wngCast c)
      let zeros := slice h 3 1 ++ slice h 12 4 ++ slice h 48 16
      let s' := { s with wng := { w with headed := true, buf := w.buf.drop 64, resLen := ofBytes (slice h 8 4), staged := 0 } }
      if ofBytes (h.take 2) ≠ 1 ∨ h.getD 2 0 ≠ c ∨ (zeros.any fun b => !(b == 0)) then some (refuseDiff 8 s')
      else if castOf s c = 2 ∨ ofBytes (slice h 4 4) ≠ bits cast 127 96 ∨ ofBytes (slice h 16 8) ≠ bits cast 63 0 then
        some (refuseDiff 4 s')
      else if imageMax c < ofBytes (slice h 8 4) then some (refuseDiff 7 s')
      else some s'
  else if w.buf = [] then none
  else if w.ended then some (refuseDiff 8 s)
  else if 0 < w.insertLeft then
    let n := min w.insertLeft w.buf.length
    some { (s.setBytes (wingsBank + w.out) (w.buf.take n)) with wng := { w with
      insertLeft := w.insertLeft - n, out := w.out + n, staged := w.out + n, buf := w.buf.drop n } }
  else if w.buf.headD 0 = 0 then
    if w.out = w.resLen then some { s with wng := { w with ended := true, buf := w.buf.drop 1 } } else some (refuseDiff 8 s)
  else if w.buf.headD 0 = 1 then
    if w.buf.length < 9 then none
    else
      let src := ofBytes (slice w.buf 1 4)
      let n := ofBytes (slice w.buf 5 4)
      if actLen < src + n ∨ w.resLen < w.out + n ∨ dataBad ∨ rangeBad s (base + src) n then some (refuseDiff 8 s)
      else some { s with
        mem := Memory.copyRange s.mem (base + src) (wingsBank + w.out) n
        wng := { w with out := w.out + n, staged := w.out + n, buf := w.buf.drop 9 } }
  else if w.buf.headD 0 = 2 then
    if w.buf.length < 5 then none
    else
      let n := ofBytes (slice w.buf 1 4)
      if w.resLen < w.out + n then some (refuseDiff 8 s)
      else some { s with wng := { w with insertLeft := n, buf := w.buf.drop 5 } }
  else some (refuseDiff 8 s)

/-- The difference engine run over what has come. -/
def diffRun (dataBad : Bool) : Nat → State → State
  | 0, s => s
  | k + 1, s =>
    match diffStep dataBad s with
    | none => s
    | some s' => diffRun dataBad k s'

/-- The header of the staged image shown once every byte has come. -/
def allCame (s : State) : State :=
  wngTo 2 (bits (s.reg P.wngStatus) 23 16) (s.setReg P.wngHeader (ofBytes (s.bytes wingsBank 256)))

/-- A write of WNG_CHUNK: `data` is the BLOB's content, offset first. -/
def actWngChunk (data : Bytes) (dataBad : Bool) (w : Writer) (s : State) : Nat × State :=
  let o := ofBytes (data.take 4)
  let b := data.drop 4
  if ¬ (wngState s = 1 ∨ wngState s = 2) ∨ ¬ (s.wng.owner = w.master) then (resBusy, s)
  else if data.length < 5 ∨ 1028 < data.length ∨ s.wng.declared < o + b.length
      ∨ (s.wng.mode = 2 ∧ ¬ (o = wngReceived s)) then (resRange, s)
  else
    let s := setStatus (setBits (s.reg P.wngStatus) 63 32 (satAdd 32 (wngReceived s) b.length)) s
    let s :=
      if s.wng.mode = 1 then
        { (s.setBytes (wingsBank + o) b) with wng := { s.wng with ranges := addRange s.wng.ranges o (o + b.length) } }
      else
        let s1 := { s with wng := { s.wng with buf := s.wng.buf ++ b } }
        diffRun dataBad (2 * s1.wng.buf.length + 2) s1
    let came := if s.wng.mode = 1 then wholeCame s else decide (wngReceived s = s.wng.declared)
    (resOk, if wngState s = 8 then s else if came then allCame s else s)

/-! ### Verification (R483, R486, R489) -/

/-- A write of WNG_VERIFY. -/
def actWngVerify (w : Writer) (s : State) : Nat × State :=
  if wngState s = 2 ∧ s.wng.owner = w.master then (resOk, wngTo 3 0 s) else (resBusy, s)

/-- The first check that fails, or 0. -/
def verifyResult (sigOk : Bool) (s : State) : Nat :=
  let c := wngComponent s
  if s.wng.mode = 2 ∧ s.wng.ended = false then 8
  else if s.wng.staged < 256 ∨ headerOk s wingsBank c = false then 3
  else if imageMax c < imageLen s wingsBank ∨ s.wng.staged < imageLen s wingsBank then 7
  else if ¬ (bodyHash s wingsBank = hdrHash s wingsBank) then 1
  else if sigOk = false then 2
  else if hdrRelease s wingsBank < s.reg P.wngRelease
      ∨ (hdrRelease s wingsBank = s.reg P.wngRelease ∧ c ≤ s.reg P.wngReleaseLast) then 6
  else if compatible s (fun x => if x = c then wingsBank else activeBase s x) (fun x => x == c || castStands s x) = false then 5
  else 0

/-- VERIFY_COMPLETE. -/
def verifyComplete (sigOk : Bool) (s : State) : State :=
  if ¬ (wngState s = 3) then s
  else
    let r := verifyResult sigOk s
    let s := s.setReg P.wngPendingCrc (crc32 (s.bytes wingsBank (min s.wng.staged (imageLen s wingsBank))))
    if r = 0 then updateRecord 2 Writer.self (wngTo 4 0 s) else failStaging r s

/-! ### Commit (R490) -/

/-- The active image copied into bank 7; the loader's stays in its slot. -/
def keepPrevious (c : Nat) (s : State) : State :=
  if c = 1 then s
  else
    let n := if castOf s c = 0 then 0 else imageLen s (activeBase s c);
    { s with mem := Memory.copyRange (Memory.clear s.mem previousBank (previousBank + 256)) (activeBase s c) previousBank n }

/-- The commit carried out: refused where its record is. -/
def commitImage (w : Writer) (s : State) : Nat × State :=
  let r := updateCommit 3 w (keepPrevious (wngComponent s) s)
  if r.1 then (resOk, wngTo 5 0 { r.2 with wng := { r.2.wng with pendCommit := false } }) else (resBusy, r.2)

/-- A write of WNG_COMMIT. -/
def actWngCommit (w : Writer) (s : State) : Nat × State :=
  let c := wngComponent s
  if wngLevelOk c w = false then (resAccess, s)
  else if ¬ (wngState s = 4) then (resBusy, s)
  else if c = 3 ∨ c = 4 then (resOk, { s with wng := { s.wng with pendCommit := true } })
  else commitImage w s

/-- Whether any of the six pairs is closed. -/
def anyPairClosed (s : State) : Bool :=
  let w := s.reg P.irnSafeState
  (List.range 6).any fun p => bitOf w p && bitOf w (8 + p)

/-- A write of WNG_COMMIT_CRC. -/
def actWngCommitCrc (v : Nat) (w : Writer) (s : State) : Nat × State :=
  if s.wng.pendCommit = false ∨ ¬ (wngState s = 4) then (resNotConfirmed, s)
  else if anyPairClosed s then (resBusy, s)
  else if ¬ (v = s.reg P.wngPendingCrc) then (resCrc, { s with wng := { s.wng with pendCommit := false } })
  else commitImage w s

/-! ### Trial, confirm, rollback and damage (R492) -/

/-- A write of WNG_CONFIRM. -/
def actWngConfirm (w : Writer) (s : State) : Nat × State :=
  let c := wngComponent s
  let x := activeBase s c
  if wngLevelOk c w = false then (resAccess, s)
  else if ¬ (wngState s = 6) then (resBusy, s)
  else
    let s := record 0x40 [updateWord s 4 (hdrVersion s x) w] s
    let s := setCast c (castWord s x (if hdrBridging s x then 4 else 1)) (wngTo 0 0 s)
    (resOk, updateCast (selfCommit false [P.wngRelease, P.wngReleaseLast]
      ((s.setReg P.wngRelease (hdrRelease s x)).setReg P.wngReleaseLast c)))

/-- Whether the previous image of a component on trial is there to go back to. -/
def previousThere (s : State) (c : Nat) : Bool :=
  if c = 1 then imageAt s (loaderSlot (1 - s.pwr.loaderRun)) 1 else imageAt s previousBank c

/-- A rollback committed: the loader's old slot becomes current, for the rest bank 7 is the next copy's source. -/
def rollback (w : Writer) (s : State) : Bool × State :=
  let c := wngComponent s
  let x := if c = 1 then loaderSlot (1 - s.pwr.loaderRun) else previousBank
  let r := commit ⟨0x40, s.now, [updateWord s 5 (hdrVersion s x) w], false⟩ s
  if r.1 then (true, wngTo 7 0 (if c = 1 then markSlot (1 - loaderCurrent r.2) r.2 else r.2)) else (false, r.2)

/-- A write of WNG_ROLLBACK. -/
def actWngRollback (w : Writer) (s : State) : Nat × State :=
  if wngLevelOk (wngComponent s) w = false then (resAccess, s)
  else if ¬ (wngState s = 6) ∨ previousThere s (wngComponent s) = false then (resBusy, s)
  else
    let r := rollback w s
    (if r.1 then resOk else resBusy, r.2)

/-- A write of WNG_ABANDON. -/
def actWngAbandon (w : Writer) (s : State) : Nat × State :=
  if wngLevelOk (wngComponent s) w = false then (resAccess, s)
  else if stagingOpen s ∨ wngState s = 8 then (resOk, closeStaging (updateRecord 7 w s))
  else (resBusy, s)

/-- The staging abandoned when the baton of area D changes its holder (R487). -/
def wingsAbandon (s : State) : State :=
  if stagingOpen s ∨ wngState s = 8 then closeStaging (updateRecord 7 Writer.self s) else s

/-- A component's active image marked damaged; a trial image is rolled back (R492, R493). -/
def markDamaged (c : Nat) (s : State) : State :=
  if castOf s c = 0 ∨ castOf s c = 2 then s
  else
    let word := bits (s.reg P.wngStatus) 23 16 * 2 ^ 104 + 0xFFFE * 2 ^ 56
      + bits (s.reg (P.wngCast c)) 127 96 * 2 ^ 72 + c * 2 ^ 112 + 6 * 2 ^ 120
    let s := record 0x40 [word] (setCast c (setBits (s.reg (P.wngCast c)) 79 72 2) s)
    let s := updateCast s
    if wngState s = 6 ∧ wngComponent s = c ∧ previousThere s c then
      countJournalled P.wngAutoRollbacks (rollback Writer.self s).2
    else s

/-- The components whose active image no longer has the hash of its WNG_CASTc entry. -/
def hashDiffers (s : State) : List Nat :=
  components.filter fun c =>
    castStands s c && !(ofBytes ((bodyHash s (activeBase s c)).take 8) == bits (s.reg (P.wngCast c)) 63 0)

/-- Every active image hashed again (R493). -/
def reverify (s : State) : State := (hashDiffers s).foldl (fun s c => markDamaged c s) s

/-- The component whose active region holds an address. -/
def componentAt (s : State) (a : Nat) : Option Nat :=
  components.find? fun c => decide (activeBase s c ≤ a ∧ a < activeBase s c + imageMax c)

/-! ### The boot ROM's copy (R109, R491) -/

/-- The newest update record that is no damage, and whether its copy is done. -/
def updateEvent (s : State) : Nat := bits (persistVal s.jnl.persist keptUpdate 0) 127 120
/-- The component of the newest update record. -/
def updateComponent (s : State) : Nat := bits (persistVal s.jnl.persist keptUpdate 0) 119 112
/-- Whether a copy-complete record is newer than the newest update record. -/
def updateCopied (s : State) : Bool := persistVal s.jnl.persist keptCopied 0 == 1

/-- Whether a committed image waits for the boot ROM (R106): a commit or a rollback other than the loader's. -/
def imageWaits (s : State) : Bool :=
  !(updateCopied s) && (updateEvent s == 3 || (updateEvent s == 5 && !(updateComponent s == 1)))

/-- The payload of a copy-complete record. -/
def copyPayload (s : State) (c src len kind : Nat) : List Nat :=
  [kind + len % 2 ^ 32 * 2 ^ 32 + (if src = wingsBank then 6 else 7) * 2 ^ 64 + c % 256 * 2 ^ 72 + hdrGen s src * 2 ^ 80
     + hdrVersion s src * 2 ^ 96, hdr s src 3, hdr s src 4, crc32 (s.bytes src len) * 2 ^ 96]

/-- The copy done, with its record: answers whether there was one. -/
def bootCopy (s : State) : State :=
  let c := updateComponent s
  let new := updateEvent s == 3
  let src := if new then wingsBank else previousBank
  let len := min (imageLen s src) (imageMax c)
  let slot := 1 - loaderCurrent s
  let dst := if c = 1 then loaderSlot slot else activeBase s c
  let payload := copyPayload s c src len (if new then 1 else 2)
  let s := { s with mem := Memory.copyRange s.mem src dst len }
  let s := if c = 1 then markSlot slot { s with pwr := { s.pwr with loaderRun := slot } } else s
  record 0x33 payload s

/-! ### The start of the Stage manager (R491, R492, R494, R497) -/

/-- WNG_CASTc rebuilt from the image's header; a recorded damage stays until the component is copied anew. -/
def rebuildCast (trial c : Nat) (s : State) : State :=
  let x := activeBase s c
  let st :=
    if imageAt s x c = false then 0
    else if persistVal s.jnl.persist (keptDamage + c) 0 = hdrVersion s x + 1 then 2
    else if trial = c then 3 else if hdrBridging s x then 4 else 1
  setCast c (castWord s x st) s

/-- The state of the Wings at a start, from the newest update record. -/
def startState (s : State) : Nat :=
  let e := updateEvent s
  if e = 3 then (if updateCopied s then 6 else 5)
  else if e = 5 then (if updateCopied s || updateComponent s == 1 then 0 else 7)
  else 0

/-- What the Stage manager does for the Wings at its start. -/
def wingsStart (s : State) : State :=
  let was := bits s.wng.held 7 0
  let now := startState s
  let s := s.setReg P.wngStatus s.wng.held;
  let s := { s with wng := { WngState.reset with
    held := s.wng.held
    factoryCrc := crc32 (s.bytes (activeBase s 3) (min (imageLen s (activeBase s 3)) (imageMax 3))) } }
  let s := if now = 0 ∧ ([1, 2, 3, 4, 8].contains was || [1, 2, 8].contains (updateEvent s)) then
    updateRecord 7 Writer.self s else s
  let s := if now = 0 then s else setStatus (setBits (s.reg P.wngStatus) 15 8 (updateComponent s)) s
  let s := if now = was then s else wngTo now 0 s
  let s := if (was = 5 ∧ now = 6) ∨ (was = 7 ∧ now = 0) then tamperStart 8 0 s else s
  let s := components.foldl (fun s c => rebuildCast (if now = 6 then wngComponent s else 0) c s) s
  let s := updateCast s
  if now = 6 ∧ wngComponent s = 1 ∧ s.reg P.pwBootStatus = 1 then
    countJournalled P.wngAutoRollbacks (rollback Writer.self s).2
  else s

/-- Whether the Iron configuration table that the Warden loads has the CRC that the Iron compares it with (R491). -/
def ironTableOk (s : State) : Bool :=
  let x := activeBase s 3
  let crc := crc32 (s.bytes x (min (imageLen s x) (imageMax 3)))
  match persistGet s.jnl.persist (keptCopy + 3) with
  | some e => crc == bits (e.2 / 2 ^ 384) 127 96
  | none => crc == s.wng.factoryCrc

/-! ### The commands -/

/-- VERIFY_COMPLETE: `sigOk` says whether the signature verifies under the vendor key. -/
def execVerifyComplete (sigOk : Bool) (s : State) : Host.Outcome State Fault Refusal := .next (verifyComplete sigOk s)

/-- REVERIFY_TIMER. -/
def execReverifyTimer (s : State) : Host.Outcome State Fault Refusal :=
  .next (if s.pwr.boot = .running then reverify s else s)

end Sys2Proof.Machine
end

