-- ==== Sys2Proof/Machine/Display.lean ====
section
/-!
DEFINITION. The cholesteric segment display (spec/18_display.md R464 to R480): the waveform set, temperature and bands,
updates judged segment by segment at frame boundaries, numeric fields, blinking, the frontlight, power-on and power-off.
-/

namespace Sys2Proof.Machine

open Sys2Proof

/-- The state of the display replaced. -/
def State.setDsp (s : State) (d : DspState) : State := { s with dsp := d }

/-- DSP_STATE. -/
def dspState (s : State) : Nat := s.reg P.dspState

/-- DSP_STATE set. -/
def toDsp (n : Nat) (s : State) : State := s.setReg P.dspState n

/-- DSP_RESULT set. -/
def dspResult (n : Nat) (s : State) : State := s.setReg P.dspResult n

/-- The number of segments. -/
def segCount : Nat := 768

/-- The level of segment `i` in an image (R480). -/
def levelAt (image i : Nat) : Nat := bits image (2 * i + 1) (2 * i)

/-- An image with the level of segment `i` replaced. -/
def setLevel (image i v : Nat) : Nat := setBits image (2 * i + 1) (2 * i) v

/-! ### The waveform set (R467, R468) -/

/-- Word `i` of the set. -/
def setWord' (s : State) (i : Nat) : Nat := s.dsp.set.getD i 0

/-- The bands of the set. -/
def bandCount (s : State) : Nat := bits (setWord' s 0) 15 8
/-- T_LOW of a band in 0.1 °C. -/
def bandLow (s : State) (b : Nat) : Int := toSigned 16 (bits (setWord' s (1 + b)) 127 112)
/-- FRAME_US of a band. -/
def bandFrame (s : State) (b : Nat) : Nat := bits (setWord' s (1 + b)) 111 96
/-- The VC code of a band. -/
def bandVc (s : State) (b : Nat) : Nat := bits (setWord' s (1 + b)) 95 88
/-- The VS code of a band. -/
def bandVs (s : State) (b : Nat) : Nat := bits (setWord' s (1 + b)) 87 80

/-- The code words of waveform (old, new) in a band. -/
def waveCodes (s : State) (b old new : Nat) : Nat := setWord' s (9 + 32 * b + 2 * (4 * old + new))
/-- The frame data of waveform (old, new) in a band. -/
def waveInfo (s : State) (b old new : Nat) : Nat := setWord' s (10 + 32 * b + 2 * (4 * old + new))
/-- The LENGTH of a waveform. -/
def waveLen (s : State) (b old new : Nat) : Nat := bits (waveInfo s b old new) 63 56
/-- Whether the end of frame `f` is safe; the end of the last frame always is. -/
def waveSafe (s : State) (b old new f : Nat) : Bool :=
  bitOf (bits (waveInfo s b old new) 127 64) f || decide (f + 1 = waveLen s b old new)

/-- Whether one waveform of a used band is well formed. -/
def waveOk (s : State) (b w : Nat) : Bool :=
  let c := setWord' s (9 + 32 * b + 2 * w)
  let i := setWord' s (10 + 32 * b + 2 * w)
  let l := bits i 63 56
  decide (l ≤ 64) && decide (bits i 55 0 = 0) && ((List.range l).all fun f => !(bits c (2 * f + 1) (2 * f) == 3))

/-- Whether a used band is well formed. -/
def bandOk (s : State) (b : Nat) : Bool :=
  decide (1000 ≤ bandFrame s b) && decide (bandVc s b ≤ 120) && decide (bandVs s b ≤ 72)
    && decide (bits (setWord' s (1 + b)) 79 0 = 0)
    && (if b = 0 then bandLow s 0 == -400 else decide (bandLow s (b - 1) < bandLow s b))
    && ((List.range 16).all fun w => waveOk s b w) && decide (1 ≤ waveLen s b 3 0)

/-- Whether an unused band is all zero. -/
def bandEmpty (s : State) (b : Nat) : Bool :=
  (setWord' s (1 + b) == 0) && ((List.range 32).all fun i => setWord' s (9 + 32 * b + i) == 0)

/-- Whether the set is accepted (R468). -/
def setOk (s : State) : Bool :=
  let h := setWord' s 0
  decide (bits h 127 64 = 0 ∧ bits h 63 48 = 8 ∧ bits h 47 32 = 96 ∧ bits h 31 16 = 1 ∧ 1 ≤ bits h 15 8 ∧ bits h 15 8 ≤ 8
    ∧ bits h 7 0 = 4)
  && ((List.range 8).all fun b => if b < bandCount s then bandOk s b else bandEmpty s b)

/-- The set loaded from the cast and judged; a bad set leaves the display off and damages the component. -/
def loadSet (s : State) : State :=
  let s := s.setDsp { s.dsp with set := s.wordsAt 0x02F10100 265, loaded := true }
  if castStands s 8 && setOk s then s
  else markDamaged 8 (toDsp 8 (s.setDsp { s.dsp with set := [] }))

/-! ### Temperature and bands (R469, R470) -/

/-- Whether a process channel gives a temperature to be used. -/
def channelGood (s : State) (n : Nat) : Bool :=
  s.homePresent (homeOf (P.tlyPcFlags n)) && (s.reg (P.tlyPcMode n) == 3) && (s.reg (P.tlyPcFlags n) &&& 0xCC) == 0

/-- The source in use and its temperature in 0.1 °C. -/
def panelTemp (s : State) : Nat × Int :=
  let src := s.reg P.dspTempSrc
  if src = 0x20 then (0x20, s.regI P.dspTempSet)
  else if 0x10 ≤ src ∧ src < 0x20 ∧ channelGood s (src - 0x10) then (src, s.regI (P.tlyPcValue (src - 0x10)) / 100)
  else (0, s.regI P.irnTemp)

/-- The highest band whose T_LOW is at or below a temperature. -/
def bandFor (s : State) (t : Int) : Option Nat :=
  ((List.range (bandCount s)).filter fun b => decide (bandLow s b ≤ t)).getLast?

/-- The panel temperature read, and the band it calls for shown. -/
def readTemp (s : State) : State :=
  let p := panelTemp s
  let t := max (-32768) (min 32767 (p.2 + s.regI P.dspTempOffset))
  let s := (s.setRegI P.dspTemp t).setReg P.dspTempUsed p.1
  s.setReg P.dspBand ((bandFor s t).getD 0xFF)

/-- Whether the panel is too cold to be driven. -/
def tooCold (s : State) : Bool := decide (s.regI P.dspTemp < -400)

/-- IRN_DSP_RAILS for a band: magnitudes in 10 mV (R464). -/
def railWord (s : State) (b : Nat) : Nat :=
  let vc := 1000 + 25 * bandVc s b
  let vs := 200 + 25 * bandVs s b
  vs + vs * 2 ^ 16 + vc * 2 ^ 32 + vc * 2 ^ 48

/-! ### Numeric fields (R473) -/

/-- The segments a to g of a digit, bit 0 being a (notes/assumptions/35.md). -/
def glyph (d : Nat) : Nat := [0x3F, 0x06, 0x5B, 0x4F, 0x66, 0x6D, 0x7D, 0x07, 0x7F, 0x6F].getD d 0

/-- The decimal digits of a number, most significant first, at least `least` of them. -/
def digitsOf (n least : Nat) : List Nat :=
  let l := (Nat.toDigits 10 n).map fun c => c.toNat - 48
  List.replicate (least - l.length) 0 ++ l

/-- The patterns of a field's digits for a number: none lit left of it but the sign, and all g where it does not fit. -/
def numberPatterns (v : Int) (digits dec : Nat) : List Nat :=
  let ds := digitsOf v.natAbs (dec + 1)
  let neg := decide (v < 0)
  if digits < ds.length + ofBool neg then List.replicate digits 0x40
  else
    let l := (if neg then [0x40] else []) ++ ds.map glyph
    let l := List.replicate (digits - l.length) 0 ++ l
    if dec = 0 then l else setAt l (digits - dec - 1) (l.getD (digits - dec - 1) 0 + 0x80)

/-- The patterns of the digits typed so far. -/
def entryPatterns (s : State) (digits : Nat) : List Nat :=
  let e := (s.box.entry.drop (s.box.entry.length - digits)).map glyph
  List.replicate (digits - e.length) 0 ++ e

/-- The import of the session in nJ. -/
def sessionNj (s : State) : Int :=
  match s.box.session with
  | none => 0
  | some e => nanoJoule (s.nrg.sets.getD (3 * e.set + 1) 0 - e.imp)

/-- The value of a field of a kind with its decimals (R473); the session energy divides by the manual's number (DEDUCED,
notes/assumptions/102.md). -/
def fieldValue (s : State) (kind dec : Nat) : Int :=
  if kind = 1 then (s.regI P.boxCredit + s.regI P.boxPending).tdiv (10 ^ (4 - dec))
  else if kind = 2 then (sessionNj s * 10 ^ dec).tdiv 3600000000000
  else (s.regI P.boxSessionCost).tdiv (10 ^ (4 - dec))

/-- The segments of a field with their levels. -/
def fieldLevels (s : State) (w : Nat) : List (Nat × Nat) :=
  let kind := bits w 31 24
  let n := bits w 7 4
  let dec := bits w 3 0
  if kind = 0 ∨ 4 < kind then []
  else
    let pats := if kind = 4 then entryPatterns s n else numberPatterns (fieldValue s kind dec) n dec
    let start := 96 * bits w 23 16 + bits w 15 8
    (List.range (8 * n)).map fun j => (start + j, if bitOf (pats.getD (j / 8) 0) (j % 8) then 3 else 0)

/-- The fields' levels brought up to date by E1; without I03 they keep their last. -/
def renderFields (s : State) : State :=
  if s.present 3 = false then s
  else
    let ws := (List.range 4).map fun k => s.reg (P.dspField k)
    s.setDsp { s.dsp with
      fields := ws.flatMap (fieldLevels s)
      fieldBlink := (ws.filter fun w => decide (bits w 31 24 = 1 ∧ ¬ (s.reg P.boxPending = 0))).flatMap
        fun w => (fieldLevels s w).map (·.1) }

/-- Whether a segment is in the blink set. -/
def blinks (s : State) (i : Nat) : Bool := bitOf (s.reg P.dspBlink) i || s.dsp.fieldBlink.contains i

/-- The target: the host's image, the fields over it, and level 0 for the blink set in its dark phase. -/
def composeTarget (s : State) : Nat :=
  let image := s.dsp.fields.foldl (fun a e => setLevel a e.1 e.2) (s.reg P.dspImage)
  if s.dsp.dark then (List.range segCount).foldl (fun a i => if blinks s i then setLevel a i 0 else a) image else image

/-! ### Updates (R471, R472, R476) -/

/-- The codes of the eight slots of the next frame (R466): a running segment takes its waveform's code, the rest Hold. -/
def frameSlots (s : State) : List Nat :=
  (List.range 8).map fun c =>
    ((List.range 96).map fun i =>
      (match s.dsp.runs.find? fun r => r.seg == 96 * c + i with
        | some r => bits (waveCodes s s.dsp.band r.old r.new) (2 * r.frame + 1) (2 * r.frame)
        | none => 1) * 4 ^ i).foldl (· + ·) 0

/-- A frame written out slot by slot; the buffer of the Iron-die bridge window ends with its last two (R476, R50). -/
def putSlots (codes : List Nat) (s : State) : State :=
  (s.emit (.slots codes)).setBytes 0x20010000 (toBytes 32 (codes.getD 6 0) ++ toBytes 32 (codes.getD 7 0))

/-- A waveform started on a segment; one without frames ends at once. -/
def startRun (i old new : Nat) (s : State) : State :=
  if waveLen s s.dsp.band old new = 0 then s.setReg P.dspImageNow (setLevel (s.reg P.dspImageNow) i new)
  else s.setDsp { s.dsp with runs := s.dsp.runs ++ [⟨i, old, new, 0⟩] }

/-- Segments at rest whose target differs from their level started. -/
def startResting (s : State) : State :=
  let busy := s.dsp.runs.map (·.seg)
  let now := s.reg P.dspImageNow
  let t := s.dsp.target
  (List.range segCount).foldl (fun s i =>
    if busy.contains i ∨ levelAt now i = levelAt t i then s else startRun i (levelAt now i) (levelAt t i) s) s

/-- The frame after a boundary written out, or the update ended when no segment runs (R471). -/
def updateGoes (s : State) : State :=
  if s.dsp.runs = [] then
    let ms := s.dsp.frames * bandFrame s s.dsp.band / 1000
    let s := (dspResult (if s.dsp.offReq then s.reg P.dspResult else 0) s).setReg P.dspLastDurMs ms
    toDsp (if s.dsp.offReq then 5 else 3) (s.setDsp { s.dsp with waiting := none })
  else putSlots (frameSlots s) s

/-- An update from idle (R470, R471): the band is fixed, the rails follow it. -/
def startUpdate (t : Nat) (s : State) : State :=
  let b := s.reg P.dspBand
  let s := s.setDsp { s.dsp with target := t, waiting := none, runs := [], frames := 0, band := b, lastBand := some b }
  updateGoes (startResting (toDsp 4 (s.setReg P.irnDspRails (railWord s b))))

/-- A target offered from idle: refused cold, or drawn. -/
def idleTarget (t : Nat) (s : State) : State :=
  let s := readTemp s
  if tooCold s then dspResult 1 (s.count P.dspRefused 1) else startUpdate t (s.count P.dspUpdates 1)

/-- A new target (R471, R472), refused where the display cannot draw it. -/
def newTarget (s : State) : State :=
  if s.present 19 = false then s
  else
    let s := renderFields s
    let t := composeTarget s
    let d := dspState s
    if d = 8 then dspResult 5 (s.count P.dspRefused 1)
    else if d = 0 ∨ d = 5 ∨ s.dsp.offReq then dspResult 2 s
    else if d = 6 then dspResult 1 (s.count P.dspRefused 1)
    else if d = 7 then dspResult 3 s
    else if d = 3 then idleTarget t s
    else if d = 4 then dspResult 4 ((s.setDsp { s.dsp with waiting := some t }).count P.dspUpdates 1)
    else
      let s := if s.dsp.waiting.isSome then dspResult 4 s else s
      (s.setDsp { s.dsp with waiting := some t }).count P.dspUpdates 1

/-- One running segment judged at a boundary (R472): it ends, continues, or turns to its changed target at a safe frame. -/
def judgeRun (r : SegRun) (s : State) : State :=
  let b := s.dsp.band
  let want := if s.dsp.offReq then r.new else levelAt s.dsp.target r.seg
  if r.frame + 1 = waveLen s b r.old r.new then
    let s := s.setReg P.dspImageNow (setLevel (s.reg P.dspImageNow) r.seg r.new)
    if want = r.new then s else startRun r.seg r.new want s
  else if want ≠ r.new ∧ waveSafe s b r.old r.new r.frame then startRun r.seg r.new want s
  else s.setDsp { s.dsp with runs := s.dsp.runs ++ [{ r with frame := r.frame + 1 }] }

/-- The end of a frame of an update. -/
def updateFrame (s : State) : State :=
  let old := s.dsp.runs
  let t := s.dsp.waiting.getD s.dsp.target
  let s := s.setDsp { s.dsp with target := t, waiting := none, runs := [], frames := s.dsp.frames + 1 }
  let s := old.foldl (fun s r => judgeRun r s) s
  updateGoes (if s.dsp.offReq then s else startResting s)

/-- The clear has ended (R477, steps 5 and 6): every level is 0 and the first target is drawn. -/
def clearEnd (s : State) : State :=
  let s := s.setReg P.dspImageNow 0
  let w := s.dsp.waiting
  let s := s.setDsp { s.dsp with waiting := none, runs := [] }
  if s.dsp.offReq then toDsp 5 s
  else
    let s := renderFields (toDsp 3 s)
    match w with
    | some t =>
      let s := readTemp s
      if tooCold s then dspResult 1 (s.count P.dspRefused 1) else startUpdate t s
    | none => if composeTarget s = 0 then s else idleTarget (composeTarget s) s

/-- Frame `f` of the clear: every segment takes the code of waveform 3→0. -/
def clearSlots (s : State) (f : Nat) : List Nat :=
  let c := bits (waveCodes s s.dsp.band 3 0) (2 * f + 1) (2 * f)
  List.replicate 8 (c * ((4 ^ 96 - 1) / 3))

/-- The end of a frame of the clear: the next is written out, or the clear ends. -/
def clearFrame (s : State) : State :=
  let n := s.dsp.frames + 1
  let s := s.setDsp { s.dsp with frames := n }
  if waveLen s s.dsp.band 3 0 ≤ n then clearEnd s else putSlots (clearSlots s n) s

/-- The clear begins: the rails are good, so the power-on succeeded and the faults are cleared. -/
def clearBegin (s : State) : State :=
  let s := (s.setReg P.irnDspRails (railWord s s.dsp.band)).setReg P.irnDspFaults 0
  putSlots (clearSlots s 0) (toDsp 2 (s.setDsp { s.dsp with frames := 0 }))

/-- DISPLAY_FRAME_END. With the rails still rising it is the first frame of the clear that ends. -/
def frameEnd (s : State) : State :=
  if s.present 19 = false ∨ s.domOn 61 = false then s
  else if dspState s = 1 then clearFrame (clearBegin s)
  else if dspState s = 2 then clearFrame s
  else if dspState s = 4 then updateFrame s
  else s

/-! ### Power-on and power-off (R477 to R479) -/

/-- Power-on (R477): PD61 is on, the set is loaded; the rails ramp unless the panel is too cold. -/
def powerOn (s : State) : State :=
  if s.present 19 = false ∨ s.domOn 61 = false ∨ ¬ (dspState s = 0 ∨ dspState s = 6) then s
  else
    let s := if s.dsp.loaded then s else loadSet s
    if dspState s = 8 then s
    else
      let s := readTemp s
      if tooCold s then toDsp 6 s
      else
        let b := s.reg P.dspBand
        toDsp 1 (s.setDsp { s.dsp with band := b, lastBand := some b, frames := 0, runs := [], waiting := none, offReq := false })

/-- Whether the panel is being driven. -/
def dspDriven (s : State) : Bool := decide (1 ≤ dspState s ∧ dspState s ≤ 4)

/-- The update cut at the slot boundary with a result and a state. -/
def cutUpdate (result st : Nat) (s : State) : State :=
  let s := if dspState s = 4 ∨ s.dsp.waiting.isSome then dspResult result s else s
  toDsp st (s.setDsp { s.dsp with runs := [], waiting := none })

/-- A rail late at power-on or a move, or 10 % low for 1 ms (R477). -/
def railFault (late : Bool) (s : State) : State :=
  if dspDriven s = false then s
  else cutUpdate 3 7 (s.setReg P.irnDspFaults (setBit (s.reg P.irnDspFaults) (if late then 0 else 1) true))

/-- The abrupt discharge (R479). -/
def abruptDischarge (s : State) : State := if dspDriven s then cutUpdate 2 5 s else s

/-- The next slot's data has not arrived (R476): the Iron discharges the rails by itself. -/
def slotMissing (s : State) : State :=
  if s.domOn 61 = false ∨ s.reg P.irnDspRails = 0 then s
  else abruptDischarge (s.setReg P.irnDspFaults (setBit (s.reg P.irnDspFaults) 2 true))

/-- The switch-off request (R478): the update in progress runs to its end, as done unless it is cut; a target that waits is
refused. Without voltage on the rails the display reports off at once. -/
def displayPowerOff (s : State) : State :=
  let d := dspState s
  let s := if s.dsp.waiting.isSome then dspResult 2 s else if d = 4 then dspResult 0 s else s
  let s := s.setDsp { s.dsp with offReq := true, waiting := none }
  if d = 3 then toDsp 5 s else if d = 1 then toDsp 5 (s.setDsp { s.dsp with runs := [] }) else if d = 6 ∨ (d = 7 ∧ s.reg P.irnDspRails = 0) then toDsp 0 s
  else s

/-- The display has not reported off in 4.5 s (R478). -/
def offTimeout (s : State) : State := if s.dsp.offReq then abruptDischarge s else s

/-- The rails are discharged: the display reports off, and PD61 may switch off. -/
def railsDischarged (s : State) : State :=
  if ¬ (dspState s = 5 ∨ dspState s = 7 ∨ dspState s = 0 ∨ dspState s = 8) then s
  else
    let s := s.setReg P.irnDspRails 0
    let s := if dspState s = 5 ∨ (dspState s = 7 ∧ s.dsp.offReq) then toDsp 0 s else s
    if s.dsp.offReq then (s.setDsp { s.dsp with offReq := false }).setDom 61 .off else s

/-- The controller forgets everything with I19; the Iron's registers stay. -/
def displayForget (s : State) : State := s.setDsp DspState.reset

/-! ### Blinking and the frontlight (R474, R475) -/

/-- A blink phase. -/
def blinkPhase (s : State) : State :=
  let any := !(s.reg P.dspBlink == 0) || !(s.dsp.fieldBlink == [])
  let s := s.setDsp { s.dsp with dark := !s.dsp.dark }
  if s.present 19 ∧ (any ∨ ¬ (composeTarget s = s.dsp.target)) then newTarget s else s

/-- The current that a frontlight sink takes, in 0.1 mA. -/
def sinkCurrent (s : State) (k : Nat) : Nat :=
  let m := s.reg P.dspFlMode
  let lit := (decide (m = 2) || (decide (m = 1) && s.dsp.hold)) && (dspState s == 3 || dspState s == 4) && !s.dsp.offReq
  if lit && !(bitOf (s.reg P.irnDspFaults) (3 + k)) then s.reg (if k = 0 then P.dspFl0Ma else P.dspFl1Ma) else 0

/-- INFO was pressed: the hold time starts again. -/
def infoPress (s : State) : State :=
  if s.present 19 ∧ s.present 3 then s.setDsp { s.dsp with hold := true } else s

/-- A sink that cannot reach its current (R465). -/
def sinkFault (k : Nat) (s : State) : State :=
  if k < 2 ∧ ¬ (sinkCurrent s k = 0) then s.setReg P.irnDspFaults (setBit (s.reg P.irnDspFaults) (3 + k) true) else s

/-- A value that a DSP_FIELDk can hold (R473, R480). -/
def fieldOk (v : Nat) : Bool :=
  let n := bits v 7 4
  decide (bits v 31 24 = 0) ||
    decide (bits v 31 24 ≤ 4 ∧ bits v 23 16 ≤ 7 ∧ 1 ≤ n ∧ n ≤ 12 ∧ bits v 3 0 ≤ 4 ∧ bits v 3 0 < n ∧ bits v 15 8 + 8 * n ≤ 96)

/-! ### The commands -/

/-- FIELD_VALUE_CHANGE: a target that E1 sets. -/
def execFieldValueChange (s : State) : Host.Outcome State Fault Refusal := .next (if s.present 3 then newTarget s else s)

/-- BLINK_PHASE. -/
def execBlinkPhase (s : State) : Host.Outcome State Fault Refusal := .next (blinkPhase s)

/-- DISPLAY_FRAME_END. -/
def execDisplayFrameEnd (s : State) : Host.Outcome State Fault Refusal := .next (frameEnd s)

/-- DISPLAY_TEMP_READ: once a second while idle. -/
def execDisplayTempRead (s : State) : Host.Outcome State Fault Refusal :=
  .next (if s.present 19 ∧ dspState s = 3 then readTemp s else s)

/-- DISPLAY_POWER_ON. -/
def execDisplayPowerOn (s : State) : Host.Outcome State Fault Refusal := .next (if dspState s = 0 then powerOn s else s)

/-- RAIL_FAULT. -/
def execRailFault (late : Bool) (s : State) : Host.Outcome State Fault Refusal := .next (railFault late s)

/-- SLOT_DATA_MISSING. -/
def execSlotDataMissing (s : State) : Host.Outcome State Fault Refusal := .next (slotMissing s)

/-- DISPLAY_POWER_OFF. -/
def execDisplayPowerOff (s : State) : Host.Outcome State Fault Refusal :=
  .next (if s.present 19 then displayPowerOff s else s)

/-- DISPLAY_OFF_TIMEOUT. -/
def execDisplayOffTimeout (s : State) : Host.Outcome State Fault Refusal := .next (offTimeout s)

/-- ABRUPT_DISCHARGE. -/
def execAbruptDischarge (s : State) : Host.Outcome State Fault Refusal := .next (abruptDischarge s)

/-- DISPLAY_COLD_RETRY. -/
def execDisplayColdRetry (s : State) : Host.Outcome State Fault Refusal := .next (if dspState s = 6 then powerOn s else s)

/-- FRONTLIGHT_HOLD_EXPIRY. -/
def execFrontlightHoldExpiry (s : State) : Host.Outcome State Fault Refusal := .next (s.setDsp { s.dsp with hold := false })

/-- FRONTLIGHT_SINK_FAULT. -/
def execFrontlightSinkFault (sink : Nat) (s : State) : Host.Outcome State Fault Refusal := .next (sinkFault sink s)

/-- WAVEFORM_SET_LOAD: at the start of I19. -/
def execWaveformSetLoad (s : State) : Host.Outcome State Fault Refusal :=
  .next (if s.present 19 ∧ (dspState s = 0 ∨ dspState s = 8) then loadSet (toDsp 0 s) else s)

end Sys2Proof.Machine
end

