-- ==== Sys2Proof/Machine/Serial.lean ====
section
/-!
DEFINITION. The UARTs, the stage door port, the power module interface, the tunnels and the keypad
(spec/17_serial_keypad_stage_door.md R436 to R463).
-/

namespace Sys2Proof.Machine

open Sys2Proof

/-- The serial state replaced. -/
def State.setSer (s : State) (x : SerState) : State := { s with ser := x }

/-- UART `n` of 1 to 5. -/
def State.uart (s : State) (n : Nat) : Uart := s.ser.uarts.getD (n - 1) Uart.reset

/-- UART `n` replaced. -/
def State.setUart (s : State) (n : Nat) (u : Uart) : State := s.setSer { s.ser with uarts := setAt s.ser.uarts (n - 1) u }

/-- The status object of UART `u`. -/
def statusPid (u : Nat) : Nat := if u = 0 then P.sdrStatus else P.uartStatus u

/-- The error object of UART `u`. -/
def errorPid (u : Nat) : Nat := if u = 0 then P.sdrErrors else P.uartErrors u

/-- A bit of a UART's status set. -/
def setUstat (u bit : Nat) (b : Bool) (s : State) : State := s.setReg (statusPid u) (setBit (s.reg (statusPid u)) bit b)

/-- A bit of a UART's status. -/
def ustat (s : State) (u bit : Nat) : Bool := bitOf (s.reg (statusPid u)) bit

/-- One of the three saturating counts of a UART's errors raised: 0 framing, 1 parity, 2 overrun (R461). -/
def uartError (u k : Nat) (s : State) : State :=
  let v := s.reg (errorPid u)
  s.setReg (errorPid u) (setBits v (16 * k + 15) (16 * k) (satAdd 16 (bits v (16 * k + 15) (16 * k)) 1))

/-! ### Format, rate and mode -/

/-- The format of UART `u` in force. -/
def formatOf (s : State) (u : Nat) : Nat := if u = 0 then s.ser.doorFmt else if u ≤ 2 then s.reg (P.uartFormat u) else 0

/-- Whether a format byte has a parity bit (R462). -/
def hasParity (u f : Nat) : Bool := u == 3 || u == 4 || !(bits f 2 1 == 0)

/-- The rate of UART `u`. -/
def baudOf (s : State) (u : Nat) : Nat :=
  if u = 0 then s.ser.doorBaud else if u ≤ 2 then s.reg (P.uartBaud u) else s.reg P.uart5Baud

/-- Whether a UART runs on RC16 because PLL_B is not good (R438). -/
def clockFallback (s : State) (u : Nat) : Bool := (u == 1 || u == 2 || u == 5) && !(s.src 6 == 2)

/-- Whether a UART is halted at mark: a rate above 1,000,000 bit/s on RC16. -/
def uartHalted (s : State) (u : Nat) : Bool := clockFallback s u && decide (1000000 < baudOf s u)

/-- The mode in force: a tunnel needs I03 (R455), and a test replaces the mode (R456). -/
def uartModeNow (s : State) (n : Nat) : Nat :=
  let m := s.reg (P.uartMode n)
  if (m = 1 ∨ m = 2) ∧ s.present 3 = false then 0 else m

/-- Whether a tunnel runs on UART `n`. -/
def tunnels (s : State) (n : Nat) : Bool :=
  (n == 1 || n == 2) && s.present 18 && (uartModeNow s n == 1 || uartModeNow s n == 2) && s.reg (P.uartTest n) == 0
    && !(uartHalted s n)

/-- Whether XON/XOFF runs on UART `n` (R442). -/
def flows (s : State) (n : Nat) : Bool := tunnels s n && uartModeNow s n == 1 && s.reg (P.uartFlow n) == 1

/-! ### Transmission of a tunnel (R442, R455) -/

/-- The transmit FIFO filled from E1's buffer. -/
def fillTx (n : Nat) (s : State) : State :=
  let u := s.uart n
  let k := 64 - u.txFifo.length
  s.setUart n { u with txFifo := u.txFifo ++ u.outBuf.take k, outBuf := u.outBuf.drop k }

/-- What waits is sent unless a received XOFF holds the transmitter. -/
def flushTx (n : Nat) (s : State) : State :=
  let u := s.uart n
  if tunnels s n = false then s
  else if flows s n ∧ ustat s n 4 then fillTx n s
  else
    let l := u.txFifo ++ u.outBuf
    let s := s.setUart n { u with txFifo := [], outBuf := [] }
    if l = [] then s else s.emit (.uart n l)

/-- The mode or the flow control of UART `n` written: without XON/XOFF nothing is held (R442). -/
def flowWritten (n : Nat) (s : State) : State :=
  flushTx n (if flows s n then s else setUstat n 3 false (setUstat n 4 false s))

/-- A write of UARTn_TX_DATA: all its bytes, or BUSY. -/
def actTxData (n : Nat) (data : Bytes) (s : State) : Nat × State :=
  let u := s.uart n
  if tunnels s n = false ∨ 1024 < u.outBuf.length + data.length then (resBusy, s)
  else (resOk, flushTx n (s.setUart n { u with outBuf := u.outBuf ++ data }))

/-! ### Reception (R439 to R442, R455) -/

/-- E1 moves bytes from the receive FIFO while its buffer has room. -/
def drainFifo (n : Nat) (s : State) : State :=
  let u := s.uart n
  let k := 1024 - u.inBuf.length
  s.setUart n { u with inBuf := u.inBuf ++ (u.fifo.take k).map (·.1), fifo := u.fifo.drop k }

/-- XOFF sent when the receive FIFO has reached the high water mark. -/
def sendXoff (n : Nat) (s : State) : State :=
  if flows s n ∧ ustat s n 3 = false ∧ bits (s.reg (P.uartWm n)) 15 8 ≤ (s.uart n).fifo.length then
    setUstat n 3 true (s.emit (.uart n [s.reg (P.uartXoff n)]))
  else s

/-- XON sent when the receive FIFO has fallen to the low water mark. -/
def sendXon (n : Nat) (s : State) : State :=
  if flows s n ∧ ustat s n 3 ∧ (s.uart n).fifo.length ≤ bits (s.reg (P.uartWm n)) 7 0 then
    setUstat n 3 false (s.emit (.uart n [s.reg (P.uartXon n)]))
  else s

/-- A character of a tunnel stored, or lost where the FIFO is full (R441); flags are bit 0 framing, bit 1 parity, bit 2 overrun. -/
def storeChar (n data flags : Nat) (s : State) : State :=
  let u := s.uart n
  if 64 ≤ u.fifo.length then uartError n 2 (s.setUart n { u with lost := true })
  else
    let s := s.setUart n { u with fifo := u.fifo ++ [(data, flags + (if u.lost then 4 else 0))], lost := false }
    sendXoff n (drainFifo n s)

/-- A character that a tunnel receives: XON and XOFF act, unless flagged. -/
def tunnelChar (n data flags : Nat) (s : State) : State :=
  if flows s n ∧ flags = 0 ∧ data = s.reg (P.uartXoff n) then setUstat n 4 true s
  else if flows s n ∧ flags = 0 ∧ data = s.reg (P.uartXon n) then flushTx n (setUstat n 4 false s)
  else storeChar n data flags s

/-- One received bit of an external loop checked against PRBS15, x^15 + x^14 + 1 (R456). -/
def prbsBit (n bit : Nat) (s : State) : State :=
  let u := s.uart n
  let want := (u.sr / 2 ^ 14 + u.sr / 2 ^ 13) % 2
  let ok := decide (bit = want) && !(u.sr == 0)
  let s := s.setUart n { u with sr := (2 * u.sr + bit) % 2 ^ 15, run := if u.run = 16 then 16 else if ok then u.run + 1 else 0 }
  if u.run = 16 then
    let s := s.count (P.uartTestBits n) 1
    if ok then s else s.count (P.uartTestErrors n) 1
  else s

/-- The eight bits of a received character checked, least significant first. -/
def prbsChar (n data : Nat) (s : State) : State := (List.range 8).foldl (fun s i => prbsBit n (data / 2 ^ i % 2) s) s

/-! ### The stage door port (R446 to R451) -/

/-- Whether the Stage manager receives on U0. -/
def doorOpen (s : State) : Bool := s.pwr.boot == .running && s.present 0

/-- The frame between two delimiters judged and passed to the Cue server (R450). -/
def doorEnd (s : State) : State :=
  let l := s.ser.door
  let s := s.setSer { s.ser with door := [], doorAt := s.mono }
  if l = [] then s
  else if l.any fun e => !(e.2 == 0) then
    let s := s.count P.smgCueDiscards 1
    if l.any fun e => 8 ≤ e.2 then s.count P.sdrWakeFlagged 1 else s
  else
    match cobsDecode (l.map (·.1)) with
    | none => s.count P.smgCueDiscards 1
    | some b =>
      if 1424 < b.length ∨ b.length < 2 ∨ ¬ (crc16 (b.take (b.length - 2)) = ofBytes (b.drop (b.length - 2))) then
        s.count P.smgCueDiscards 1
      else cueArrive .stageDoor 0 0 (b.take (b.length - 2)) (s.count P.sdrFramesIn 1)

/-- A character of the stage door; flag 8 marks one under WAKE_SUSPECT (R447). -/
def doorChar (data flags : Nat) (s : State) : State :=
  if s.ser.lostFirst then s.setSer { s.ser with lostFirst := false }
  else if data = 0 ∧ flags = 0 then doorEnd s
  else
    let f := flags + (if ustat s 0 7 then 8 else 0)
    s.setSer { s.ser with door := s.ser.door ++ [(data, f)], doorAt := s.mono }

/-- SDR_FRAME_TIMEOUT_MS passes inside a frame. -/
def doorTimeout (s : State) : State :=
  if s.ser.door = [] then s else (s.setSer { s.ser with door := [] }).count P.smgCueDiscards 1

/-- A character judged by a receiver (R439). What the stage door receives while SDR_DE is high is lost (R449). -/
def uartChar (u data : Nat) (parityErr framingErr : Bool) (s : State) : State :=
  let data := data % (if bitOf (formatOf s u) 0 then 128 else 256)
  let p := parityErr && hasParity u (formatOf s u)
  let flags := ofBool framingErr + 2 * ofBool p
  if u = 0 then
    if doorOpen s = false ∨ s.pwr.asleep ∨ sdrDe s then s
    else
      let s := setUstat 0 2 false s
      let s := if p then uartError 0 1 s else s
      doorChar data flags (if framingErr then uartError 0 0 s else s)
  else if s.present 18 = false ∨ 4 < u ∨ uartHalted s u then s
  else if (u = 1 ∨ u = 2) ∧ s.reg (P.uartTest u) = 1 then prbsChar u data s
  else if (u = 1 ∨ u = 2) ∧ (s.reg (P.uartTest u) = 2 ∨ uartModeNow s u = 0) then s
  else
    let s := setUstat u 2 false s
    let s := if p then uartError u 1 s else s
    let s := if p ∧ 3 ≤ u then s.count (P.crdErrors u) 1 else s
    let s := if framingErr then uartError u 0 s else s
    if tunnels s u then tunnelChar u data flags s else s

/-- A falling edge on SDR_RX in sleep (R446): RC16 runs again; above 230,400 bit/s the first character is lost. -/
def startEdge (s : State) : State :=
  if s.pwr.asleep = false then s
  else
    let s := (s.setSrc 0 2).setSer { s.ser with woken := true, lostFirst := decide (230400 < s.ser.doorBaud) };
    { s with pwr := { s.pwr with asleep := false } }

/-- The accepted counts of RC16 after a wake (R447). -/
def wakeCountOk (s : State) (count : Nat) : Bool :=
  if s.src 2 = 2 then decide (15313 ≤ count ∧ count ≤ 15937) else decide (15000 ≤ count ∧ count ≤ 16250)

/-- The count after a wake judged: a bad one flags every character since the wake. -/
def wakeCheck (count : Nat) (s : State) : State :=
  if s.ser.woken = false ∧ ustat s 0 7 = false then s
  else if wakeCountOk s count then setUstat 0 7 false (s.setSer { s.ser with woken := false })
  else
    setUstat 0 7 true (s.setSer { s.ser with
      woken := false, door := s.ser.door.map fun e => (e.1, e.2 % 8 + 8) })

/-- SDR_RX held low for 100 ms (R448). -/
def breakDetect (s : State) : State :=
  if doorOpen s = false then s
  else setUstat 0 6 true (s.setSer { s.ser with doorBaud := 115200, doorFmt := 0 })

/-- A write of SDR_BAUD or SDR_FORMAT: it waits for its reply (R448). -/
def doorWritten (s : State) : State := setUstat 0 6 false (s.setSer { s.ser with doorPend := true })

/-- The settings of the stage door as the objects hold them. -/
def doorSettings (s : State) : State :=
  s.setSer { s.ser with doorBaud := s.reg P.sdrBaud, doorFmt := s.reg P.sdrFormat, doorPend := false }

/-- What the stage door loses at a start of the Stage manager (R460). -/
def doorStart (s : State) : State :=
  doorSettings (s.setSer { s.ser with
    door := [], doorAt := s.mono, woken := false, lostFirst := false, deRise := 0, deStart := 0, deFall := 0 })

/-- The stage door port is lost with I00: SDR_DE is low. -/
def doorLost (s : State) : State := s.setSer { s.ser with deRise := 0, deStart := 0, deFall := 0 }

/-- The Stage manager sleeps in tier K with RC16 stopped (R446, R451). -/
def managerSleep (s : State) : State :=
  if doorOpen s ∧ s.reg P.smgTier = 0x4B ∧ s.ser.door = [] ∧ s.ser.doorAt + ms (s.reg P.sdrFrameTimeoutMs) ≤ s.mono then
    { s with pwr := { s.pwr with asleep := true } }.setSrc 0 0
  else s

/-! ### The power module interface (R453, R454) -/

/-- Whether override is set. -/
def pmiOverride (s : State) : Bool := s.veh.override || !(e0On s)

/-- Whether U1 is the power module interface. -/
def pmiRuns (s : State) : Bool :=
  s.present 18 && s.reg (P.uartMode 1) == 3 && s.reg (P.uartTest 1) == 0 && !(uartHalted s 1)

/-- The current after one frame: it moves towards its target by at most the ramp. -/
def rampTo (now target step : Nat) : Nat := if now < target then min target (now + step) else max target (now - step)

/-- A command frame. -/
def pmiCommand (s : State) : State :=
  if pmiRuns s = false then s
  else
    let ov := pmiOverride s
    let ma := rampTo s.ser.pmiMa (if ov then 0 else s.veh.modI * 100) (s.reg P.wdnDcRampAs * s.reg P.pmiPeriodMs)
    let v := s.veh.modV % 65536
    let i := ma / 100 % 65536
    let w := s.reg P.tirShareW % 2 ^ 32
    let en := !ov && !(s.veh.modV == 0)
    let b := [0xC3, s.ser.pmiSeq % 256] ++ toBytes 2 v ++ toBytes 2 i ++ toBytes 4 w ++ [ofBool en + 2 * ofBool ov, 0, 0, 0]
    let s := s.setSer { s.ser with pmiMa := ma, pmiWait := some (s.ser.pmiSeq % 256), pmiSeq := (s.ser.pmiSeq + 1) % 256 }
    let s := (s.setReg P.pmiCmd (v + i * 2 ^ 16 + w * 2 ^ 32)).setReg P.pmiStatus (setBit (s.reg P.pmiStatus) 1 ov)
    s.emit (.uart 1 (b ++ toBytes 2 (crc16 b)))

/-- The session of the module's loss or fault (R454): the Warden ends it with cause 0x01. -/
def moduleLost (s : State) : State :=
  if s.present 8 ∧ s.veh.dc ∧ 1 ≤ ses s ∧ ses s ≤ 5 then windSession 0x01 s else s

/-- Whether a reply is valid for the command that waits. -/
def pmiReplyOk (s : State) (b : Bytes) : Bool :=
  decide (b.length = 12) && b.headD 0 == 0x3C && s.ser.pmiWait == some (b.getD 1 0)
    && decide (crc16 (b.take 10) = ofBytes (slice b 10 2))

/-- A reply of the module. -/
def pmiReply (b : Bytes) (s : State) : State :=
  if pmiRuns s = false ∨ pmiReplyOk s b = false then s
  else
    let st := s.reg P.pmiStatus
    let s := s.setSer { s.ser with pmiWait := none, pmiMissed := 0 }
    let s := (s.setReg P.pmiMeas (ofBytes (slice b 2 2) + ofBytes (slice b 4 2) * 2 ^ 16)).setReg P.pmiStatus
      (setBits (setBit st 0 true) 4 2 (b.getD 6 0))
    if bitOf (b.getD 6 0) 1 then moduleLost s else s

/-- A command without a valid reply within 2 ms; the third in a row loses the link. -/
def pmiMissing (s : State) : State :=
  if pmiRuns s = false ∨ s.ser.pmiWait = none then s
  else
    let n := min 3 (s.ser.pmiMissed + 1)
    let was := s.ser.pmiMissed
    let s := s.setSer { s.ser with pmiWait := none, pmiMissed := n }
    if n = 3 ∧ was < 3 then moduleLost ((s.setReg P.pmiStatus (setBit (s.reg P.pmiStatus) 0 false)).count P.pmiLost 1) else s

/-! ### Reads and tests of the tunnels (R455, R456) -/

/-- The oldest bytes of E1's buffer, at most 256. -/
def rxBytes (s : State) (n : Nat) : Bytes := (s.uart n).inBuf.take 256

/-- Those bytes removed once their reply is delivered. -/
def rxTaken (n : Nat) (s : State) : State :=
  let u := s.uart n
  drainFifo n (s.setUart n { u with inBuf := u.inBuf.drop 256 })

/-- A write of UARTn_TEST. -/
def actUartTest (n v : Nat) (s : State) : Nat × State :=
  if 2 < v ∨ ¬ (n = 1 ∨ n = 2 ∨ n = 5) then (resRange, s)
  else if ¬ (v = 0) ∧ ((n = 5 ∧ pairClosed s 5) ∨ (n = 1 ∧ s.reg (P.uartMode 1) = 3 ∧ (pairClosed s 0 ∨ pairClosed s 1))) then
    (resBusy, s)
  else
    let s := ((s.setReg (P.uartTest n) v).clearReg (P.uartTestBits n)).clearReg (P.uartTestErrors n)
    (resOk, s.setUart n { s.uart n with testAt := s.mono, sr := 0, run := 0 })

/-- The bits checked so far: looped inside the UART they follow the time at the UART's rate, without error. -/
def testBits (s : State) (n : Nat) : Nat :=
  if s.reg (P.uartTest n) = 2 then ((s.mono - (s.uart n).testAt) * baudOf s n / second - 16) % 2 ^ 64
  else s.reg (P.uartTestBits n)

/-- I18 starts (R460): FIFOs, buffers and keys are empty, and override is set until E0 writes. -/
def serialStart (s : State) : State :=
  let s := s.setSer { s.ser with
    uarts := List.replicate 5 Uart.reset, pmiSeq := 0, pmiMa := 0, pmiWait := none, pmiMissed := 0, down := [], withheld := []
    keys := [] }
  s.setVeh { s.veh with override := true }

/-! ### The keypad (R457 to R459) -/

/-- Whether three keys stand at three corners of a rectangle. -/
def ghosted (l : List Nat) : Bool :=
  l.any fun a => (l.any fun b => !(b == a) && b / 4 == a / 4) && (l.any fun c => !(c == a) && c % 4 == a % 4)

/-- A key event reported: into the FIFO, or lost where it is full. -/
def keyReport (key : Nat) (down : Bool) (s : State) : State :=
  let n := (bits (s.reg P.kpdLast) 15 8 + 1) % 256
  let s := s.setReg P.kpdLast (key + (if down then 0 else 128) + n * 256)
  if 32 ≤ s.ser.keys.length then s.count P.kpdOverruns 1
  else s.setSer { s.ser with keys := s.ser.keys ++ [key + (if down then 0 else 128)] }

/-- A key's debounced state changes. -/
def keyEvent (key : Nat) (down : Bool) (s : State) : State :=
  if s.present 18 = false ∨ 20 ≤ key ∨ s.ser.down.contains key = down then s
  else if down then
    let s := s.setSer { s.ser with down := key :: s.ser.down }
    if ghosted s.ser.down then (s.setSer { s.ser with withheld := s.ser.withheld ++ [key] }).count P.kpdGhosts 1
    else keyReport key true s
  else
    let s := keyReport key false (s.setSer { s.ser with
      down := s.ser.down.filter (fun k => !(k == key)), withheld := s.ser.withheld.filter (fun k => !(k == key)) })
    if ghosted s.ser.down then s
    else
      let l := s.ser.withheld
      l.foldl (fun s k => keyReport k true s) (s.setSer { s.ser with withheld := [] })

/-- The digit on a key. -/
def keyDigit (key : Nat) : Option Nat :=
  if key = 0x0D then some 0
  else if key < 0x0C ∧ key % 4 < 3 then some (3 * (key / 4) + key % 4 + 1)
  else none

/-- The keypad entry replaced. -/
def setEntry (l : List Nat) (s : State) : State := { s with box := { s.box with entry := l, entryAt := s.mono } }

/-- What a pressed key does (R459). -/
def keyPress (key : Nat) (s : State) : State :=
  match keyDigit key with
  | some d => setEntry (s.box.entry ++ [d]) s
  | none =>
    if key = 0x03 then setEntry s.box.entry.dropLast s
    else if key = 0x0C then setEntry [] s
    else if key = 0x0E then keypadEnter s
    else if key = 0x0B then (actEmergReq 1 s).2
    else if key = 0x0F then
      (match s.box.session with
        | some e => if e.prepaid then windSession 0x01 s else s
        | none => s)
    else if key = 0x07 then infoPress s
    else s

/-- Whether a key serves token entry, and so waits while a token is in progress (R338). -/
def entryKey (key : Nat) : Bool := (keyDigit key).isSome || key == 0x03 || key == 0x0C || key == 0x0E

/-- The Tally takes the oldest key event. -/
def keyTake (s : State) : State :=
  match s.ser.keys with
  | [] => s
  | k :: t =>
    if s.present 9 = false ∨ s.present 18 = false ∨ (entryKey (k % 128) ∧ s.box.token.isSome) then s
    else
      let s := s.setSer { s.ser with keys := t }
      if 128 ≤ k then s else keyPress k s

/-! ### The commands -/

/-- UART_CHARACTER_RECEIVE. -/
def execUartCharacterReceive (u data : Nat) (parityErr framingErr : Bool) (s : State) : Host.Outcome State Fault Refusal :=
  .next (uartChar u data parityErr framingErr s)

/-- STAGE_DOOR_FRAME: the delimiter, a byte as any other while SDR_DE is high. -/
def execStageDoorFrame (s : State) : Host.Outcome State Fault Refusal :=
  .next (if doorOpen s ∧ sdrDe s = false then doorEnd s else s)

/-- STAGE_DOOR_FRAME_TIMEOUT. -/
def execStageDoorFrameTimeout (s : State) : Host.Outcome State Fault Refusal := .next (doorTimeout s)

/-- XON_SEND. -/
def execXonSend (u : Nat) (s : State) : Host.Outcome State Fault Refusal := .next (sendXon u s)

/-- IDLE_LINE. -/
def execIdleLine (u : Nat) (s : State) : Host.Outcome State Fault Refusal :=
  .next (if (u = 0 ∧ doorOpen s) ∨ (1 ≤ u ∧ u ≤ 4 ∧ s.present 18) then setUstat u 2 true s else s)

/-- START_EDGE_WAKE. -/
def execStartEdgeWake (s : State) : Host.Outcome State Fault Refusal := .next (startEdge s)

/-- BREAK_DETECT. -/
def execBreakDetect (s : State) : Host.Outcome State Fault Refusal := .next (breakDetect s)

/-- STAGE_DOOR_SETTINGS_APPLY. -/
def execStageDoorSettingsApply (s : State) : Host.Outcome State Fault Refusal :=
  .next (if s.ser.doorPend then doorSettings s else s)

/-- STAGE_MANAGER_SLEEP. -/
def execStageManagerSleep (s : State) : Host.Outcome State Fault Refusal := .next (managerSleep s)

/-- PMI_COMMAND_FRAME. -/
def execPmiCommandFrame (s : State) : Host.Outcome State Fault Refusal := .next (pmiCommand s)

/-- PMI_REPLY. -/
def execPmiReply (data : Bytes) (s : State) : Host.Outcome State Fault Refusal := .next (pmiReply data s)

/-- PMI_REPLY_MISSING. -/
def execPmiReplyMissing (s : State) : Host.Outcome State Fault Refusal := .next (pmiMissing s)

/-- KEYPAD_KEY_EVENT. -/
def execKeypadKeyEvent (key : Nat) (down : Bool) (s : State) : Host.Outcome State Fault Refusal := .next (keyEvent key down s)

/-- KEYPAD_FIFO_READ. -/
def execKeypadFifoRead (s : State) : Host.Outcome State Fault Refusal := .next (keyTake s)

end Sys2Proof.Machine
end

