-- ==== Sys2Proof/Machine/Blocks.lean ====
section
/-!
DEFINITION. What the loss and the start of an island, of a clock source or of a supply do inside the blocks that live there,
beyond their objects (R14): the hooks that the island and power layers call.
-/

namespace Sys2Proof.Machine

open Sys2Proof

/-! ### Islands -/

/-- The blocks of an island that stops: what they lose and what they leave behind. -/
def blockStops (n : Nat) (s : State) : State :=
  if n = 0 then doorLost (clearLost { s with cue := { s.cue with running := false, inbox := [] } })
  else if n = 2 then e0Lost s
  else if n = 3 then e1Lost s
  else if n = 8 then vehicleForget (wardenGone s)
  else if n = 9 then meterLost (demandAnew (framesLost (s.setNrg NrgState.reset)))
  else if n = 10 then updateRepeater (courierForget s)
  else if n = 11 then { s with slac := SlacState.reset }
  else if n = 12 then boxForget s
  else if n = 14 then { s with mram := { s.mram with op := none } }
  else if n = 18 then { samLost s with crd := CrdState.reset }
  else if n = 19 then displayForget s
  else if n = 20 then (match s.rdr.judging with
    | some _ => cardResult 6 s
    | none => s)
  else if n = 21 then flyGone s
  else if n = 22 then wardenGone s
  else s

/-- What the blocks of an island lose, and what they leave behind, when its PRESENT falls; its fetches are forgotten (R153). -/
def blockOff (n : Nat) (s : State) : State := blockStops n (clearFetch n s)

/-- What the blocks of an island do when it starts. -/
def blockOn (n : Nat) (s : State) : State :=
  if n = 8 then { s with saf := { s.saf with brakeDone := false } }
  else if n = 9 then s.setReg P.tirShareW (s.reg P.tirSafeW)
  else if n = 3 then regainSeat s
  else if n = 10 then courierStart s
  else if n = 12 then boxRestore s
  else if n = 14 then mramStart s
  else if n = 15 then switchStart s
  else if n = 16 then lanesStart s
  else if n = 17 then ptpStart s
  else if n = 18 then serialStart s
  else s

/-! ### Sources and supplies -/

/-- What the blocks that use a source directly do when it fails (R85, R407). -/
def blockClock (code : Nat) (s : State) : State := if code = 4 then ptpFaulty (lanesLoseLock s) else s

/-- What they do when it is good again (R407). -/
def blockClockBack (code : Nat) (s : State) : State := if code = 4 then ptpRecovers s else s

/-- Whether a DC session runs (R112). -/
def dcSession (s : State) : Bool := s.veh.dc && sessionOpen s

/-- Every high-side switch opened by the Iron, the session ended, the display discharged (R89, R254, R479). -/
def openHighSides (s : State) : State := abruptDischarge (sessionPowerLoss (ironVsupWarning s))

/-- The final records of the power-fail sequence: the supply interruption, energy with rates and credit (R317, R346). -/
def powerFailRecords (s : State) : State := tallyCommit 1 (tamperOpen 6 s)

/-- The registers of the Iron's window at their defaults, or as the journal holds them. -/
def ironRegisters (s : State) : State :=
  let stays := s.regs.filter fun (e : Nat × Nat) => !(homeOf e.1 == 24)
  let back := (s.jnl.persist.filter fun e => homeOf e.1 == 24 && keepOf e.1 == .journal).map fun e => (e.1, e.2.2);
  { s with regs := stays }.setRegs back

/-- What the Iron loses at its own reset. -/
def ironReset (s : State) : State :=
  let s := if dspDriven s then cutUpdate 2 0 s else if dspState s = 5 ∨ dspState s = 7 then toDsp 0 s else s
  let s := sessionPowerLoss { s with mem := Memory.clear s.mem 0x20010000 0x20010040 }
  safetyIronReset (ironRegisters { s with cnv := CnvState.reset })

/-- What the units served by the Stage manager do at its start. -/
def managerStartBlocks (s : State) : State :=
  doorStart (wingsStart (calendarEvaluate false (houseStart (noteFetch 0x0C 0x02C00000 s))))

/-- Whether a committed staged image waits in the Wings (R106). -/
def stagedWaiting (s : State) : Bool := imageWaits s

/-- Whether a reader field powers PD62 (R115). -/
def fieldPresent (s : State) : Bool := s.tag.field

/-- What follows when VSUP has been good for 100 ms again (R346). -/
def powerReturns (s : State) : State := if s.pwr.boot = .running then tamperClose 6 s else s

/-- What a lane does when its domain goes off (R392). -/
def domainStops (d : Nat) (s : State) : State := if 38 ≤ d ∧ d ≤ 41 then laneLoses (d - 38) s else s

/-- What the converters and the lanes do when their domain comes on (R301, R391). -/
def domainBlocks (d : Nat) (s : State) : State :=
  if d = 56 then meteringStart s else if d = 57 then processStart s
  else if 38 ≤ d ∧ d ≤ 41 ∧ s.present 16 then laneReset (d - 38) s else s

/-- Whether the display holds up the switch-off of the last group: PD61 is on and it has not reported off (R478). -/
def displayHolds (s : State) : Bool := s.domOn 61 && s.present 19 && !(dspState s == 0) && !(dspState s == 8)

end Sys2Proof.Machine
end

