-- ==== Sys2Proof/Machine/Islands.lean ====
section
/-!
DEFINITION. Islands and domains going down and coming up: the PRESENT line (R41), the abort of outstanding requests
(R48), the objects (R14, R184), and the switching of domains (R96 to R99).
-/

namespace Sys2Proof.Machine

open Sys2Proof

/-! ### Requests of a port that lost PRESENT -/

/-- The Callboard channel whose NOTICE register an address names. -/
def noticeChannel (addr : Nat) : Option Nat :=
  let o := addr - 0x10071000
  if 0x10071000 ≤ addr ∧ o < 0x800 ∧ o % 0x40 < 0x10 then some (o / 0x40) else none

/-- The addresses of a request's flits. -/
def FabReq.flits (q : FabReq) : List Nat := (List.range q.beats).map fun i => q.addr / 16 * 16 + 16 * i

/-- The channels whose notice a read was answered with (R125): none for a read that was refused. -/
def FabReq.noticesRead (q : FabReq) : List Nat :=
  if q.write = false ∧ (q.resp.map (·.1)) = some stOk then q.flits.filterMap noticeChannel else []

/-- A completion offered to the initiator's bridge: delivered, or dropped and counted where its island is not present. -/
def fabDeliver (init tag status : Nat) (data : List Nat) (s : State) : State :=
  if s.present (initIsland init) then
    { s with fab := { s.fab with delivered := ⟨init, tag, stampedPrio init, status, data⟩ :: s.fab.delivered } }.emit
      (.bus init status data)
  else s.count P.pwFabRspDrops 1

/-- The notices of a read whose response was not delivered: IN_DELIVERY clears and each channel is as it was (R53, R125). -/
def undelivered (q : FabReq) (s : State) : State := q.noticesRead.foldl (fun s n => deliverNotice n false s) s

/-- One request aborted; a read of NOTICE then leaves its channel unchanged (R53). -/
def abortReq (q : FabReq) (s : State) : State :=
  undelivered q (fabDeliver q.init q.tag stAborted [] (fabFault q.init q.route stAborted q.addr s))

/-- Every request to a port without completion aborted in issue order (R46, R48); a response that arrives later finds none. -/
def abortPort (island : Nat) (s : State) : State :=
  let gone := s.fab.reqs.filter fun q => q.route == island
  let s := { s with fab := { s.fab with reqs := s.fab.reqs.filter fun q => !(q.route == island) } }
  gone.foldl (fun s q => abortReq q s) s

/-- The hub's own reset: its lists are lost and every waiting initiator aborts from its own side. -/
def abortAll (s : State) : State := (List.range 24).foldl (fun s n => abortPort n s) s

/-! ### Objects of an island -/

/-- Whether an island's stop leaves an object as it is. -/
def keepsReg (n : Nat) (e : Nat × Nat) : Bool := !(homeOf e.1 == n) || keepOf e.1 == .kept

/-- The persistent values of an island's objects. -/
def restoredOf (n : Nat) (s : State) : List (Nat × Nat) :=
  (s.jnl.persist.filter fun e => homeOf e.1 == n && keepOf e.1 == Keep.journal).map fun e => (e.1, e.2.2)

/-- The objects of an island at its start (R14, R184): lost ones at their defaults, journalled ones restored. -/
def restoreObjects (n : Nat) (s : State) : State :=
  { s with regs := s.regs.filter (keepsReg n) }.setRegs (restoredOf n s)

/-- The lost objects of an island at their defaults (R14). -/
def loseObjects (n : Nat) (s : State) : State :=
  { s with regs := s.regs.filter fun (e : Nat × Nat) => !(homeOf e.1 == n && keepOf e.1 == Keep.lost) }

/-- The journalled objects of an island as the journal holds them (R14, R184). -/
def loadObjects (n : Nat) (s : State) : State :=
  { s with regs := s.regs.filter fun (e : Nat × Nat) => !(homeOf e.1 == n && keepOf e.1 == Keep.journal) }.setRegs
    (restoredOf n s)

/-- What follows the fall of an island's PRESENT: aborts, lost notices, the blocks' own losses and the ISLAND_OFF
notifications. The lost objects of I00 return to their defaults at once, because its clock and power hardware goes on while the
Stage manager restarts. -/
def islandDown (n : Nat) (s : State) : State :=
  let s := abortPort n (if n = 0 then loseObjects 0 s else s)
  let s := if n = 7 then callboardReset (abortAll s) else receiverReset n s
  notesGone (blockOff n (senderGone n s))

/-- What follows the rise of an island's PRESENT: its objects and its blocks start; with I07 the senders post again what the
Callboard lost (R136). -/
def islandUp (n : Nat) (s : State) : State :=
  let s := blockOn n (restoreObjects n s)
  notesBack (if n = 7 then callboardReturns s else s)

/-! ### Domains -/

/-- The first address of an SRAM bank (R50). -/
def sramBank (k : Nat) : Nat := sramBase + k * 0x100000

/-- What a domain loses with its power: an SRAM bank its contents, an MRAM bank the operation on it, PD51 the Callboard (R136). -/
def domainLoses (d : Nat) (s : State) : State :=
  if 20 ≤ d ∧ d ≤ 27 then { s with mem := Memory.clear s.mem (sramBank (d - 20)) (sramBank (d - 19)) }
  else if 28 ≤ d ∧ d ≤ 35 then bankCut (d - 28) s
  else if d = 51 then callboardReset s
  else s

/-- Whether any of SO0 to SO3 is closed (R99): both its switches are closed. -/
def mainPairsClosed (s : State) : Bool :=
  let w := s.reg P.irnSafeState
  [0, 1, 2, 3].any fun p => bitOf w p && bitOf w (8 + p)

/-- Whether the Iron refuses to switch a domain off (R99). -/
def switchOffRefused (d : Nat) (s : State) : Bool :=
  (d == 55 || d == 56 || d == 58) && mainPairsClosed s

/-- A domain whose supply is gone or whose switch opens: PRESENT falls, then its contents are lost (R97); its island's clock is
back on input 0, from which it will start (R73). -/
def dropDomain (d : Nat) (into : DomState) (s : State) : State :=
  let was := s.dom d
  let s := (domainStops d s).setDom d into
  let s := if into = .retain then s else domainLoses d s
  if was = .on then
    match islandOfDom d with
    | some n => islandDown n (s.setIsl n IslClk.fresh)
    | none => s
  else s

/-- A domain switched off by the Stage manager (R97): the journal engine's own entry comes first for PD36 (R529), and the
Iron may refuse (R99). -/
def domainOff (d : Nat) (into : DomState) (s : State) : State :=
  if s.dom d = .off ∨ switchOffRefused d s then s
  else dropDomain d into (if d = 36 ∧ s.dom 36 = .on then ownObjectEntry s else s)

/-- A domain requested on (R96): clamped and soft-starting. -/
def domainRequestOn (d : Nat) (s : State) : State :=
  if s.dom d = .off ∨ s.dom d = .retain ∨ s.dom d = .fault then s.setDom d .rising else s

/-- A domain's reset and isolation released (R96): PRESENT rises, its island starts on input 0 (R73). -/
def domainUp (d : Nat) (s : State) : State :=
  let s := s.setDom d .on
  let s := if d = 36 then { s with jnl := { s.jnl with ready := false, window := [] } } else s
  let s := if d = 51 then callboardReturns s else s
  match islandOfDom d with
  | some n => islandUp n (s.setIsl n IslClk.fresh)
  | none => s

/-- A record whose payload the manual does not lay out: one word, a free value (notes/assumptions/6.md). -/
def openRecord (typ : Nat) (s : State) : State :=
  let r := s.drawBits 128
  record typ [r.1] r.2

end Sys2Proof.Machine
end

