-- ==== Sys2Proof/Machine/Clocks.lean ====
section
/-!
DEFINITION. Oscillators, judges, monitors, trimming and clock switching (spec/03_clocks.md).
-/

namespace Sys2Proof.Machine

open Sys2Proof

/-! ### Sources (R62 to R66, R87) -/

/-- Whether a source may clock an island: good by its judge; PTP1250 while REF156 is good, CARR27 while XO25 is good and FIELD13
while a field is present, each unless its monitor failed it. -/
def State.srcGood (s : State) (code : Nat) : Bool :=
  if code = 9 then s.tag.field && !(s.src 9 == 3)
  else if code = 10 then s.src 4 == 2 && !(s.src 10 == 3)
  else if code = 11 then s.src 1 == 2 && !(s.src 11 == 3)
  else s.src code == 2

/-- The source codes of an island's inputs (R72). -/
def islandInputs (n : Nat) : List Nat :=
  if n = 0 then [0, 1, 6]
  else if n = 1 then [9]
  else if n ≤ 6 then [0, 5]
  else if n = 9 then [0, 8]
  else if n = 10 ∨ n = 11 then [0, 7]
  else if n = 16 then [0, 4]
  else if n = 17 then [0, 10]
  else if n = 19 ∨ n = 23 then [0, 1]
  else if n = 20 then [0, 11]
  else [0, 6]

/-- The source code of an island's input. -/
def inputSource (n i : Nat) : Nat := (islandInputs n).getD i 0

/-- An island's running input (R72). -/
def runningInput (n : Nat) : Nat := if n ≤ 1 then 0 else 1

/-! ### Switches (R73 to R77) -/

/-- What a stopped clock does beyond its island: the Warden's drive lines stop toggling, whose low sides open (R56). -/
def driveStops (n : Nat) (s : State) : State :=
  if (n = 8 ∨ n = 22) ∧ (s.isl n).hung then wardenGone s else s

/-- A switch requested (R74): refused to a source that is not good, kept as the latest waiting one while another runs, and
hanging where the old clock has stopped (R77). -/
def requestSwitch (n i : Nat) (s : State) : State :=
  let c := s.isl n
  if n = 1 ∨ (islandInputs n).length ≤ i ∨ s.srcGood (inputSource n i) = false then s
  else if c.switchTo.isSome then s.setIsl n { c with waiting := some i }
  else if c.sel = i then s
  else driveStops n (s.setIsl n { c with switchTo := some i, hung := !(s.srcGood (inputSource n c.sel)) })

/-- The order in which the controller serves the islands (the bring-up table of R73's chapter), then the others. -/
def switchOrder : List Nat :=
  [7, 13, 14, 8, 9, 11, 12, 18, 22, 2, 3, 4, 5, 6, 10, 15, 16, 17, 19, 20, 21, 23, 0]

/-- The controller's move of one island: to its running input while that source is good, else to input 0 (R73). -/
def controllerMove (n : Nat) (s : State) : State :=
  let c := s.isl n
  if s.present n = false then s
  else
    let want := if s.srcGood (inputSource n (runningInput n)) then runningInput n else 0
    if c.switchTo = some want ∨ (c.switchTo = none ∧ c.sel = want) then s else requestSwitch n want s

/-- Every island on a source asked back to input 0, before the source stops (R73). -/
def leaveSource (code : Nat) (s : State) : State :=
  (List.range 24).foldl (fun s n =>
    if s.present n ∧ inputSource n (s.isl n).sel = code then requestSwitch n 0 s else s) s

/-- The controller's moves of every island. -/
def controllerMoves (s : State) : State := switchOrder.foldl (fun s n => controllerMove n s) s

/-- A switch completed (R76), after which the latest waiting request is taken. -/
def completeSwitch (n : Nat) (s : State) : State :=
  let c := s.isl n
  match c.switchTo with
  | none => s
  | some i =>
    if c.hung then s
    else
      let s := s.setIsl n { c with sel := i, switchTo := none, waiting := none, listed := false }
      match c.waiting with
      | none => s
      | some w => requestSwitch n w s

/-! ### Forced switches (R79 to R83) -/

/-- A forced switch: the island is held in reset and its selection changed without the handshake (R79). -/
def forceIsland (n i cause : Nat) (s : State) : State :=
  let c := s.isl n
  islandDown n (s.setIsl n
    { IslClk.fresh with sel := i, inReset := true, forced := some (inputSource n c.sel, inputSource n i, cause) })

/-- CK_LAST_FORCED (R88). -/
def forcedWord (time island frm into cause : Nat) : Nat :=
  cause % 16 * 2 ^ 36 + into % 16 * 2 ^ 40 + frm % 16 * 2 ^ 44 + island % 32 * 2 ^ 48 + time % 2 ^ 64 * 2 ^ 64

/-- The books of one forced switch: count, CK_LAST_FORCED and clock record (R83); an RC16 restart is not counted (R82). -/
def makeBooks (b : Nat × Nat × Nat × Nat × Nat) (s : State) : State :=
  let s := if b.2.2.2.1 = 4 then s else countJournalled P.ckForcedCount s
  openRecord 0x31 (s.setReg P.ckLastForced (forcedWord b.2.2.2.2 b.1 b.2.1 b.2.2.1 b.2.2.2.1))

/-- The books of a reset release at the present stage time: made at once, or once the Stage manager runs again. -/
def forcedBooks (n frm into cause : Nat) (s : State) : State :=
  if s.pwr.boot = .running then makeBooks (n, frm, into, cause, s.now) s
  else { s with clk := { s.clk with owed := s.clk.owed ++ [(n, frm, into, cause, s.now)] } }

/-- The reset of a forced island released after 16 cycles of the new clock (R79): it restarts where its domain is on, and the
controller then moves it to its running input (R80, R73). A forced I00 restarts the Stage manager alone (R103). -/
def releaseForced (n : Nat) (s : State) : State :=
  let c := s.isl n
  match c.forced with
  | none => s
  | some (frm, into, cause) =>
    let s := s.setIsl n { c with inReset := false, forced := none }
    if n = 0 then
      forcedBooks 0 frm into cause { s with pwr := { s.pwr with boot := .handOver, cause := 0x80 } }
    else
      let s := if s.present n then islandUp n s else s
      controllerMove n (forcedBooks n frm into cause s)

/-- A pending switch that reached CK_HANG_TIMEOUT (R80). -/
def hangTimeout (n : Nat) (s : State) : State :=
  let c := s.isl n
  match c.switchTo with
  | none => s
  | some i =>
    if bitOf (s.reg P.ckForceEn) n then forceIsland n i 1 s
    else notifyMain P.ckHung (s.setIsl n { c with listed := true })

/-- CK_FORCE_NOW on one island; that of I00 waits until the answer to the write was sent (R80). An island whose domain is off is
forced and counted as well (DESIGN CHOICE, notes/assumptions/83.md). -/
def forceNow (mask n : Nat) (s : State) : State :=
  if bitOf mask n then
    if n = 0 then { s with pwr := { s.pwr with forcedStart := true } }
    else forceIsland n 0 2 s
  else s

/-- The forced switch of I00 that waited for the answer to its write (R80). -/
def forcedStart (s : State) : State :=
  if s.pwr.forcedStart then forceIsland 0 0 2 { s with pwr := { s.pwr with forcedStart := false } } else s

/-- A write of CK_FORCE_NOW, in ascending island order (R83). -/
def actForceNow (mask : Nat) (s : State) : State := (List.range 24).foldl (fun s n => forceNow mask n s) s

/-! ### Failures (R66, R78, R81, R82) -/

/-- What one island does when a source fails: abandon a switch to it by a forced switch (R81), or go to input 0 (R73) by a
switch that hangs where the source has stopped (R77) and can complete where it runs out of tolerance. -/
def islandLosesSource (code : Nat) (dead : Bool) (n : Nat) (s : State) : State :=
  let c := s.isl n
  if s.domOn (firstDom n) = false ∨ c.inReset then s
  else if (c.switchTo.map (inputSource n)) = some code then forceIsland n 0 3 s
  else if inputSource n c.sel = code then
    let t := if c.switchTo = some 0 then s else requestSwitch n 0 s
    let d := t.isl n
    driveStops n (t.setIsl n { d with hung := d.switchTo.isSome && dead })
  else s

/-- What every island does when a source fails. -/
def islandsLoseSource (code : Nat) (dead : Bool) (s : State) : State :=
  (List.range 24).foldl (fun s n => islandLosesSource code dead n s) s

/-- A judge stopped. -/
def stopJudge (j : Nat) (s : State) : State :=
  { s with clk := { s.clk with judges := setAt s.clk.judges j ⟨false, 0, 0⟩ } }

/-- A judge started from the beginning. -/
def startJudge (j : Nat) (s : State) : State :=
  { s with clk := { s.clk with judges := setAt s.clk.judges j ⟨true, 0, 0⟩ } }

/-- The judge of a source code, 7 for none. -/
def judgeOf (code : Nat) : Nat := [7, 0, 1, 7, 2, 3, 4, 5, 6, 7, 7, 7].getD code 7

/-- The source code of a judge. -/
def judgeSource (j : Nat) : Nat := [1, 2, 4, 5, 6, 7, 8].getD j 99

/-- A PLL's failure noted with its time: it stops, and the third within 60 s keeps it failed (R84). -/
def notePllFail (code : Nat) (s : State) : State :=
  if 5 ≤ code ∧ code ≤ 8 then
    let recent := (s.clk.pllFails.getD (code - 5) []).filter fun t => decide (s.mono ≤ t + 60 * second);
    { s with clk := { s.clk with
        pllOn := setAt s.clk.pllOn (code - 5) false
        pllFails := setAt s.clk.pllFails (code - 5) (s.mono :: recent)
        pllHeld := if 2 ≤ recent.length then setAt s.clk.pllHeld (code - 5) true else s.clk.pllHeld
        plla := if code = 5 then 0 else s.clk.plla } }
  else s

/-- A source other than RC16 marked failed, by its monitor as stopped or by its judge, with what follows on the islands and the
blocks (R73, R81); REF156 that failed has stopped, and PTP1250 with it (R85); without XO25, RC16 runs on its factory code (R71). -/
def failSource (code : Nat) (stopped : Bool) (s : State) : State :=
  let s := notePllFail code (stopJudge (judgeOf code) (s.setSrc code 3))
  let s := if code = 2 then { s with clk := { s.clk with rtcOnXo := false } } else s
  let s := if code = 1 then
      { s with clk := { s.clk with search := none, trimming := false, trim := s.clk.factoryCode } } else s
  let s := blockClock code s
  let dead := stopped || code == 4
  islandsLoseSource code dead
    (if code = 4 then islandsLoseSource 10 dead s else if code = 1 then islandsLoseSource 11 dead s else s)

/-- One island held in reset and started again on input 0. -/
def resetIsland (n : Nat) (s : State) : State :=
  let s := islandDown n (s.setIsl n { IslClk.fresh with inReset := true })
  islandUp n (s.setIsl n IslClk.fresh)

/-- What the failure of RC16 does to one island: I00 and an island on RC16 are held in reset and restarted on it (R82), and an
island with a switch to RC16 pending is forced (R81). -/
def rc16Island (n : Nat) (s : State) : State :=
  let c := s.isl n
  if s.domOn (firstDom n) = false ∨ n = 1 then s
  else if n = 0 then islandDown 0 (s.setIsl 0 IslClk.fresh)
  else if c.inReset then s
  else if inputSource n c.sel = 0 then resetIsland n s
  else if (c.switchTo.map (inputSource n)) = some 0 then forceIsland n 0 3 s
  else s

/-- Where the core of I00 starts again when RC16 restarts (R82): in the Stage manager firmware once that was handed over to, else
in the boot ROM. -/
def bootAgain (b : Boot) : Boot := if b = .running ∨ b = .handOver then .handOver else .held

/-- RC16 fails (R82): it restarts on its factory code, and the islands on it restart with it and are moved on (R73); the Stage
manager's own start follows, and its books carry the stage time at which I00 left reset. -/
def rc16Fails (s : State) : State :=
  let s := (List.range 24).foldl (fun s n => rc16Island n s) (s.setSrc 0 3)
  let s := controllerMoves (s.setSrc 0 2);
  { s with
    clk := { s.clk with
      trim := s.clk.factoryCode, trimming := false, search := none, owed := s.clk.owed ++ [(0, 0, 0, 4, s.now)] }
    pwr := { s.pwr with boot := bootAgain s.pwr.boot, cause := 0x10 } }

/-! ### Judges (R65 to R68) -/

/-- The nominal frequencies, in Hz, of a judge's candidate and reference. -/
def judgeFreqs (s : State) (j : Nat) : Nat × Nat :=
  if j = 0 then (25000000, 16000000)
  else if j = 1 then (32768, 25000000)
  else if j = 2 then (156250000, 25000000)
  else if j = 3 then (s.clk.plla * 1000000, 25000000)
  else if j = 6 then (250000000, 25000000)
  else (500000000, 25000000)

/-- Whether a window's count passes (R65): N × (1 − T) to N × (1 + T), both included. -/
def windowPasses (s : State) (j count : Nat) : Bool :=
  let f := judgeFreqs s j
  let n := s.reg (P.ckJudgeWin j) * f.1
  let t := s.reg (P.ckJudgeTol j)
  decide (n * (10000 - t) ≤ count * f.2 * 10000 ∧ count * f.2 * 10000 ≤ n * (10000 + t))

/-- A judge that XO25 lets start (R67): a source that is off or still judged is judged from the start, a good one stays good while
its judge runs on (R66), and a failed one waits for its next retry. -/
def beginJudge (j : Nat) (s : State) : State :=
  if s.src (judgeSource j) = 3 then s
  else startJudge j (if s.src (judgeSource j) = 2 then s else s.setSrc (judgeSource j) 1)

/-- The binary search of the trim code begins at 0x80 (R69). -/
def startSearch (s : State) : State := { s with clk := { s.clk with search := some 0, trim := 0x80 } }

/-- A source becomes good (R65): XO25 starts judges 1 and 2 and the trim search (R67, R69), XO32K takes the RTC, and the
controller moves the islands (R73). -/
def sourceGood (code : Nat) (s : State) : State :=
  let s := blockClockBack code (s.setSrc code 2)
  let s :=
    if code = 1 then
      let s := beginJudge 1 s
      let s := if s.domOn 38 ∨ s.domOn 39 ∨ s.domOn 40 ∨ s.domOn 41 then beginJudge 2 s else s;
      startSearch s
    else if code = 2 then { s with clk := { s.clk with rtcOnXo := true } }
    else s
  controllerMoves s

/-- A judge's window counted (R65, R66): before the source is good a run of K passing windows is sought, after that two
failing windows in a row fail it. -/
def judgeWindow (j count : Nat) (s : State) : State :=
  let g := s.clk.judges.getD j ⟨false, 0, 0⟩
  let code := judgeSource j
  let pass := windowPasses s j count
  let put (x : Judge) : State := { s with clk := { s.clk with judges := setAt s.clk.judges j x } }
  if g.active = false ∨ (j = 0 ∧ s.clk.search.isSome) then s
  else if s.src code = 2 then
    if pass then put { g with fails := 0 }
    else if 2 ≤ g.fails + 1 then failSource code false s
    else put { g with fails := g.fails + 1 }
  else if pass then
    if s.reg (P.ckJudgeK j) ≤ g.passes + 1 then sourceGood code (put ⟨true, 0, 0⟩)
    else put { g with passes := g.passes + 1 }
  else put { g with passes := 0 }

/-- The limit time of a judge ends without a run of K (R65). -/
def judgeLimit (j : Nat) (s : State) : State :=
  let g := s.clk.judges.getD j ⟨false, 0, 0⟩
  if g.active ∧ ¬ (s.src (judgeSource j) = 2) then failSource (judgeSource j) false s else s

/-- A failed XO25, XO32K or REF156 judged again (R66, R68). -/
def judgeRetry (j : Nat) (s : State) : State :=
  if s.src (judgeSource j) = 3 ∧ j ≤ 2 ∧ (j = 0 ∨ s.src 1 = 2) then startJudge j s else s

/-! ### RC16 trimming (R69 to R71) -/

/-- CK_RC16_ERROR of a count against 16,000, in 0.001 % (R86), truncated towards zero. -/
def trimError (count : Nat) : Int := Int.tdiv (((count : Int) - 16000) * 100000) 16000

/-- The code after measurement `k` of the binary search: the bit on trial stays unless RC16 ran fast, and the next lower bit
goes on trial. -/
def searchCode (k code count : Nat) : Nat :=
  let kept := if 16000 < count then setBit code (7 - k) false else code
  if k < 7 then setBit kept (6 - k) true else kept

/-- One later trim step (R69). -/
def trimStep (code count : Nat) : Nat :=
  if count < 15992 then min 255 (code + 1) else if 16008 < count then code - 1 else code

/-- A trim measurement ends. -/
def trimMeasure (count : Nat) (s : State) : State :=
  let code := s.clk.trim
  let e := s.setRegI P.ckRc16Error (trimError count)
  match s.clk.search with
  | some k =>
    let c := { e.clk with trim := searchCode k code count }
    if k < 7 then { e with clk := { c with search := some (k + 1) } }
    else startJudge 0 { e with clk := { c with search := none, trimTemp := s.regI P.pwTj } }
  | none =>
    if s.clk.trimming then
      { e with clk := { e.clk with trim := trimStep code count, trimming := false, trimTemp := s.regI P.pwTj } }
    else s

/-- A later trim started, while XO25 is good and no search runs (R70, R71). -/
def startTrim (s : State) : State :=
  if s.src 1 = 2 ∧ s.clk.search = none then { s with clk := { s.clk with trimming := true } } else s

/-! ### PLLs (R63, R84) -/

/-- The thermal governor's cap of PLL_A in MHz (R112). -/
def pllCap (level : Nat) : Nat := if level = 0 then 1200 else if level = 1 then 800 else if level = 2 then 400 else 300

/-- The output PLL_A runs at: CK_PLLA_MHZ within the cap (R63). -/
def State.pllaTarget (s : State) : Nat := min (s.reg P.ckPllaMhz) (pllCap (s.reg P.pwThermLevel))

/-- A PLL enabled or stopped. -/
def setPll (p : Nat) (b : Bool) (s : State) : State :=
  { s with clk := { s.clk with pllOn := setAt s.clk.pllOn p b } }

/-- A PLL enabled; its judge starts at lock. -/
def enablePll (p : Nat) (s : State) : State :=
  if s.src 1 = 2 ∧ s.clk.pllHeld.getD p false = false then setPll p true s else s

/-- A PLL stopped with its domain or by the tier (R24): its islands go back to input 0 first (R73). -/
def stopPll (p : Nat) (s : State) : State :=
  let s := stopJudge (3 + p) ((setPll p false (leaveSource (5 + p) s)).setSrc (5 + p) 0)
  if p = 0 then { s with clk := { s.clk with plla := 0 } } else s

/-- A failed PLL restarted by the Stage manager unless it is kept failed (R84). -/
def pllRestart (p : Nat) (s : State) : State :=
  if s.src (5 + p) = 3 ∧ s.pwr.boot = .running then enablePll p s else s

/-- A PLL locks and its judge starts (R63, R67); with PLL_D the converter clock runs (R64). -/
def pllLock (p : Nat) (s : State) : State :=
  if s.clk.pllOn.getD p false = false ∨ ¬ (s.src 1 = 2) then s
  else
    let s := if p = 0 then { s with clk := { s.clk with plla := s.pllaTarget } } else s
    let s := if p = 3 then converterClockBack s else s
    startJudge (3 + p) (if s.src (5 + p) = 3 then s else s.setSrc (5 + p) 1)

/-- PLL_A, once locked, retuned while XO25 is good (the governor's collision and CK_PLLA_MHZ): its islands run on RC16 until it is
judged again; one that failed stays failed until then (R66). -/
def retunePllA (s : State) : State :=
  if s.clk.pllOn.getD 0 false = false ∨ s.clk.plla = 0 ∨ s.clk.plla = s.pllaTarget ∨ ¬ (s.src 1 = 2) then s
  else
    let s := leaveSource 5 s
    let s := if s.src 5 = 3 then s else s.setSrc 5 1
    startJudge 3 { s with clk := { s.clk with plla := s.pllaTarget } }

/-! ### The commands -/

/-- JUDGE_WINDOW_END. -/
def execJudgeWindowEnd (j count : Nat) (s : State) : Host.Outcome State Fault Refusal := .next (judgeWindow j count s)

/-- JUDGE_LIMIT_EXPIRY. -/
def execJudgeLimitExpiry (j : Nat) (s : State) : Host.Outcome State Fault Refusal := .next (judgeLimit j s)

/-- JUDGE_RETRY. -/
def execJudgeRetry (j : Nat) (s : State) : Host.Outcome State Fault Refusal := .next (judgeRetry j s)

/-- A monitor that saw no rising edge marks its source failed (R78), unless the source is off; without VAON the monitors have no
power. FIELD13 stays failed until a field comes again (DESIGN CHOICE, notes/assumptions/89.md). -/
def monitorDead (src : Nat) (s : State) : State :=
  if s.pwr.vaon = false then s
  else if src = 0 then rc16Fails s
  else if 11 < src ∨ (src ≤ 8 ∧ s.src src = 0) then s
  else failSource src true s

/-- MONITOR_DEAD_EDGE. -/
def execMonitorDeadEdge (src : Nat) (s : State) : Host.Outcome State Fault Refusal := .next (monitorDead src s)

/-- RC16_TRIM_MEASUREMENT. -/
def execRc16TrimMeasurement (count : Nat) (s : State) : Host.Outcome State Fault Refusal := .next (trimMeasure count s)

/-- RC16_RETRIM_TIMER. -/
def execRc16RetrimTimer (s : State) : Host.Outcome State Fault Refusal := .next (startTrim s)

/-- CLOCK_SWITCH_REQUEST. -/
def execClockSwitchRequest (island input : Nat) (s : State) : Host.Outcome State Fault Refusal :=
  .next (requestSwitch island input s)

/-- CLOCK_SWITCH_COMPLETE. -/
def execClockSwitchComplete (island : Nat) (s : State) : Host.Outcome State Fault Refusal :=
  .next (completeSwitch island s)

/-- CLOCK_HANG_TIMEOUT. -/
def execClockHangTimeout (island : Nat) (s : State) : Host.Outcome State Fault Refusal := .next (hangTimeout island s)

/-- FORCED_SWITCH_RESET_RELEASE. -/
def execForcedSwitchResetRelease (island : Nat) (s : State) : Host.Outcome State Fault Refusal :=
  .next (releaseForced island s)

/-- PLL_RESTART. -/
def execPllRestart (pll : Nat) (s : State) : Host.Outcome State Fault Refusal := .next (pllRestart pll s)

/-- PLL_LOCK. -/
def execPllLock (pll : Nat) (s : State) : Host.Outcome State Fault Refusal := .next (pllLock pll s)

end Sys2Proof.Machine
end

