-- ==== Sys2Proof/Machine/Power.lean ====
section
/-!
DEFINITION. Supplies, resets, start-up, tiers, the power-fail sequence and the thermal governor
(spec/04_power_and_start.md; spec/01_house_and_post.md R23 to R25).
-/

namespace Sys2Proof.Machine

open Sys2Proof

/-! ### Tiers (R23, R100, R101) -/

/-- The tier codes of SMG_TIER (R35). -/
abbrev tierK : Nat := 0x4B
abbrev tierM : Nat := 0x4D
abbrev tierDC : Nat := 0x44
abbrev tierF : Nat := 0x46

/-- The rank of a tier. -/
def tierRank (t : Nat) : Nat := if t = tierF then 3 else if t = tierDC then 2 else if t = tierM then 1 else 0

/-- The domains of the groups of R101, the Iron's included. -/
def groupDomains (g : Nat) : List Nat :=
  if g = 1 then [48, 49]
  else if g = 2 then [13, 51, 20, 21, 28, 29, 30, 31, 36, 47]
  else if g = 3 then [14, 15, 17, 18, 19, 43, 55, 56, 57, 58]
  else if g = 4 then [3, 11]
  else [4, 5, 6, 7, 8, 9, 10, 12, 16, 22, 23, 24, 25, 26, 27, 32, 33, 34, 35, 37, 38, 39, 40, 41, 42, 44, 45, 46, 50,
    59, 60, 61]

/-- The groups of a tier. -/
def tierGroups (t : Nat) : List Nat :=
  if t = tierF then [1, 2, 3, 4, 5] else if t = tierDC then [1, 2, 3, 4] else if t = tierM then [1, 2, 3] else []

/-- The domains that the thermal governor sheds at a level (R112). -/
def shedDomains (level : Nat) : List Nat :=
  if level = 2 then [40, 41] else if 3 ≤ level then [4, 5, 6, 8, 9, 10, 39, 40, 41] else []

/-- Whether the Stage manager switches a domain and the supplies that feed it are there (R93, R100, R101). -/
def domainAllowed (s : State) (d : Nat) : Bool :=
  if d ≤ 2 ∨ d = 52 ∨ d = 53 ∨ d = 54 ∨ 62 ≤ d then false
  else if d = 55 then s.pwr.ironOn && s.pwr.vcpP && s.pwr.vcpM
  else if 56 ≤ d then s.pwr.ironOn
  else if 28 ≤ d ∧ d ≤ 36 then true
  else if 38 ≤ d ∧ d ≤ 41 then s.pwr.vcore && s.pwr.vsrd
  else s.pwr.vcore

/-- Whether the governor keeps a domain off: by its level, or, until the first reading after a start, because it had been shed
before (R112). -/
def thermalOff (s : State) (d : Nat) : Bool :=
  (shedDomains (s.reg P.pwThermLevel)).contains d || (s.pwr.thermFirst && s.pwr.shed.contains d)

/-- The domains that the prompt book needs (R155). -/
def bookDomains : List Nat := [36, 29, 30]

/-- The domains wanted on in a tier under the supplies and the governor: an open staging keeps PD32 to PD35 (R487), the journal engine
what it powered for a commit in progress (R155). -/
def wantedDomains (s : State) (t : Nat) : List Nat :=
  (((tierGroups t).flatMap groupDomains) ++ (if stagingOpen s ∧ ¬ (t = tierK) then [32, 33, 34, 35] else [])
    ++ (if s.jnl.keeper then bookDomains else [])).filter fun d => domainAllowed s d && !(thermalOff s d)

/-- The highest tier that the supplies, R68 and the governor permit (R100); a loss of VCORE takes the post down to K first (R103). -/
def permittedTier (s : State) : Nat :=
  if s.pwr.vsup = false ∨ s.pwr.vsupHeld = false ∨ s.pwr.failing ∨ s.pwr.dropK ∨ ¬ (s.src 1 = 2) then tierK
  else if 4 ≤ s.reg P.pwThermLevel then (if dcSession s then tierDC else tierM)
  else if s.pwr.vio33 ∧ s.pwr.vio18 then tierF
  else tierDC

/-- The tier that the Stage manager moves towards. -/
def aimTier (s : State) : Nat :=
  let r := s.reg P.pwTierReq
  if tierRank r ≤ tierRank (permittedTier s) then r else permittedTier s

/-- Whether every domain that a tier needs is on: PD55 does not count while a pilot supply is missing (R100), nor does a
domain that the governor shed at levels 1 to 3, until it is on again (R113). -/
def tierStands (s : State) (t : Nat) : Bool :=
  ((tierGroups t).flatMap groupDomains).all fun d =>
    s.domOn d || (d == 55 && !(s.pwr.vcpP && s.pwr.vcpM))
      || (decide (s.reg P.pwThermLevel ≤ 3) && ((shedDomains (s.reg P.pwThermLevel)).contains d || s.pwr.shed.contains d))

/-- The tier that SMG_TIER reports: the highest whose domains are all on (R98). -/
def tierNow (s : State) : Nat :=
  if tierStands s tierF then tierF else if tierStands s tierDC then tierDC else if tierStands s tierM then tierM
  else tierK

/-- A tier change lets every PLL that was kept failed be restarted (R84). -/
def releasePlls (s : State) : State :=
  { s with clk := { s.clk with
      pllFails := (List.range 4).map fun p => if s.clk.pllHeld.getD p false then [] else s.clk.pllFails.getD p []
      pllHeld := [false, false, false, false] } }

/-- SMG_TIER brought up to date; a change is posted on channel 18 (R132). -/
def updateTier (s : State) : State :=
  if tierNow s = s.reg P.smgTier then s else relay 18 0x0C 3 0 (releasePlls (s.setReg P.smgTier (tierNow s)))

/-- Whether a retainable domain is to be retained (R95). -/
def retains (s : State) (d : Nat) : Bool :=
  let w := s.reg P.pwRetainEn
  s.pwr.vcore && ((decide (20 ≤ d ∧ d ≤ 27) && bitOf w (d - 20)) || (d == 11 && bitOf w 8) || (d == 12 && bitOf w 9))

/-- The enables of VCORE and VSRD: a supply is not present while its enable is low (R90). -/
def setEnables (core srd : Bool) (s : State) : State :=
  { s with pwr := { s.pwr with
      coreEn := core, srdEn := srd, vcore := s.pwr.vcore && core, vsrd := s.pwr.vsrd && srd } }

/-- Whether any domain is held in Retain. -/
def anyRetained (s : State) : Bool := s.pwr.dom.any fun x => x == .retain

/-- Whether a group is still in progress: it completes before the next step (R101). -/
def groupRuns (s : State) : Bool := s.pwr.dom.any fun x => x == .rising

/-- The first group, in reverse order, with a domain that the aim leaves out. -/
def groupToDrop (s : State) (want : List Nat) : Option Nat :=
  [5, 4, 3, 2, 1].find? fun g => (groupDomains g).any fun d =>
    (s.domOn d || (s.dom d == .retain && !(retains s d))) && !(want.contains d)

/-- The first group of the aim that is not all on. -/
def groupToStart (s : State) (want : List Nat) (t : Nat) : Option Nat :=
  (tierGroups t).find? fun g => (groupDomains g).any fun d => want.contains d && (s.dom d == .off || s.dom d == .retain)

/-- The sources that stop with a domain that is no longer on: PD48 holds PLL_A and PLL_B, PD49 PLL_C and PLL_D, the lanes REF156 with
PTP1250 on it, PD42 PTP1250 and PD45 CARR27 (the table of R63's chapter); the islands on them go back to input 0 first (R73). -/
def sourcesDown (d : Nat) (s : State) : State :=
  if s.domOn d then s
  else if d = 48 then stopPll 1 (stopPll 0 s)
  else if d = 49 then stopPll 3 (stopPll 2 s)
  else if 38 ≤ d ∧ d ≤ 41 ∧ s.domOn 38 = false ∧ s.domOn 39 = false ∧ s.domOn 40 = false ∧ s.domOn 41 = false then
    stopJudge 2 ((leaveSource 10 (leaveSource 4 s)).setSrc 4 0)
  else if d = 42 then s.setSrc 10 0
  else if d = 45 then s.setSrc 11 0
  else s

/-- A domain switched off, with its sources. -/
def switchOff (d : Nat) (into : DomState) (s : State) : State := sourcesDown d (domainOff d into s)

/-- The domains of a group that the aim leaves out switched off, or retained, in reverse order (R95, R101), PD36 before the banks that
its last entry is written to (R529); PLL_A stops with the group of tier M with DC (R24). -/
def dropGroup (g : Nat) (want : List Nat) (s : State) : State :=
  let s := (groupDomains g).reverse.foldl
    (fun s d => if want.contains d then s else switchOff d (if retains s d then .retain else .off) s) s
  if g = 4 then stopPll 0 s else s

/-- Domains that the tier leaves out are no longer shed by the governor. -/
def forgetShed (t : Nat) (s : State) : State :=
  { s with pwr := { s.pwr with shed := if t = tierF then s.pwr.shed else [] } }

/-- Every CONFIG of the Callboard as the table of R132 (R120). -/
def configCheck (s : State) : State :=
  (List.range 32).foldl (fun s n => s.setChan n { s.chan n with config := dfltOf (P.cbdConfig n) }) s

/-- Whether a group's condition holds (R101): VCORE good; the PLLs of the domains that came up good (R98). -/
def groupReady (s : State) (g : Nat) : Bool :=
  if g = 1 then s.pwr.vcore
  else if g = 2 then (s.src 6 == 2 || s.dom 48 == .fault) && ((s.src 7 == 2 && s.src 8 == 2) || s.dom 49 == .fault)
  else true

/-- The domains of a group that are off requested on; none is asked twice. -/
def startGroup (g : Nat) (want : List Nat) (s : State) : State :=
  let s := if g = 3 then configCheck s else s
  let s := if 4 ≤ g then enablePll 0 s else s
  (groupDomains g).foldl (fun s d => if want.contains d ∧ ¬ (s.dom d = .fault) then domainRequestOn d s else s) s

/-- The end of a move down to tier K: PW_SRD_EN low, PW_CORE_EN low unless a domain is retained (R95, R101); the drop that a loss of
VCORE asked for is made. -/
def settleK (s : State) : State :=
  setEnables (anyRetained s) false { s with pwr := { s.pwr with dropK := false } }

/-- One step of the Stage manager towards the aim once no group is in progress (R100, R101): a group down, the enables, or a group
up. -/
def tierStep (s : State) : State :=
  let t := aimTier s
  let want := wantedDomains s t
  if groupRuns s then s
  else
    match groupToDrop s want with
    | some g =>
      if g = 5 ∧ displayHolds s then (if s.dsp.offReq then s else displayPowerOff s) else
      let s := forgetShed t (dropGroup g want s)
      updateTier (if t = tierK ∧ groupToDrop s want = none then settleK s else s)
    | none =>
      if t = tierK then updateTier (settleK s)
      else if s.pwr.coreEn = false ∨ s.pwr.srdEn = false then setEnables true true s
      else
        match groupToStart s want t with
        | none => updateTier s
        | some g => if groupReady s g then updateTier (startGroup g want s) else s

/-- PLLs follow the power-up of their domains (the bring-up table): PD48 holds PLL_B, PD49 PLL_C and PLL_D; PLL_A stays stopped until
the group of tier M with DC (R24, R101). -/
def pllsUp (d : Nat) (s : State) : State :=
  if d = 48 then enablePll 1 s else if d = 49 then enablePll 3 (enablePll 2 s) else s

/-- DOMAIN_ON_COMPLETE: PRESENT rises, PLLs start with their domain, the island moves to its running input. -/
def domainComplete (d : Nat) (s : State) : State :=
  if ¬ (s.dom d = .rising) then s
  else
    let s := { s with pwr := { s.pwr with shed := s.pwr.shed.filter fun x => !(x == d) } }
    let s := domainBlocks d (domainUp d s)
    let s := if 38 ≤ d ∧ d ≤ 41 ∧ s.src 4 = 0 ∧ s.src 1 = 2 then startJudge 2 (s.setSrc 4 1) else s
    let s := pllsUp d s
    updateTier (match islandOfDom d with
      | some n => controllerMove n s
      | none => s)

/-- A domain whose power-good did not rise within 40 µs (R98). -/
def powerGoodTimeout (d : Nat) (s : State) : State :=
  if ¬ (s.dom d = .rising) then s else updateTier (openRecord 0x32 (s.setDom d .fault))

/-! ### Losses of supply -/

/-- The hand-over to the Stage manager firmware: RST_OUT_N rises. -/
def handOver (status : Nat) (s : State) : State :=
  { s with pwr := { s.pwr with boot := .handOver, rstOut := true, bootStatus := status } }

/-- A staged copy deferred in the boot ROM's wait for VCORE, because VCORE did not come or VSUP failed (R108): PW_CORE_EN goes low
again (DESIGN CHOICE, notes/assumptions/86.md). -/
def deferCopy (s : State) : State :=
  handOver 0x03 { s with pwr := { s.pwr with deferred := true, coreEn := false, vcore := false } }

/-- The domains that VCORE feeds and the keeper regulator cannot hold (R93). -/
def vcoreOnly : List Nat :=
  [3, 4, 5, 6, 7, 8, 9, 10, 11, 12, 13, 14, 15, 16, 17, 18, 19, 20, 21, 22, 23, 24, 25, 26, 27, 37, 38, 39, 40, 41,
   42, 43, 44, 45, 46, 47, 48, 49, 50, 51]

/-- One domain without its feed. -/
def loseDomain (d : Nat) (s : State) : State :=
  if s.dom d = .off then s else sourcesDown d (dropDomain d .off s)

/-- Every VCORE-only domain without power, the last group first. -/
def loseVcoreDomains (s : State) : State := vcoreOnly.foldl (fun s d => loseDomain d s) s

/-- The MRAM domains switched off, after the engine's own entry (R529). -/
def mramOff (s : State) : State :=
  let s := if s.domOn 36 then ownObjectEntry s else s
  [28, 29, 30, 31, 32, 33, 34, 35, 36].foldl (fun s d => loseDomain d s) s

/-- VCORE_LOST (R118): shown at once while the Stage manager runs, else at its next start (DESIGN CHOICE,
notes/assumptions/90.md). -/
def noteVcoreLost (s : State) : State :=
  if s.pwr.boot = .running then s.setReg P.pwResetCause (setBit (s.reg P.pwResetCause) 9 true)
  else { s with pwr := { s.pwr with vcoreLost := true } }

/-- VCORE falls below 0.740 V (R103, R118): PD28 to PD36 move to the keeper feed (R93, R94), every other domain on VCORE loses its
power, and the Stage manager drops to tier K (notes/assumptions/89.md). -/
def vcoreLoss (s : State) : State :=
  let s := if s.pwr.coreEn then noteVcoreLost s else s
  updateTier (loseVcoreDomains { s with pwr := { s.pwr with vcore := false, dropK := true } })

/-- A compaction cut off by VSUP: the sector in progress is finished, held refusable commits are refused, and held
never-refused ones go into the kept words (R162, R527). -/
def abandonCompaction (s : State) : State :=
  let held := s.jnl.held
  let s := { s with jnl := { s.jnl with comp := none, held := [] } }
  held.foldl (fun s (h : Nat × JReq) =>
    if neverType h.2.typ ∨ h.2.never then (appendRec h.2 s).emit (.commitAck h.1 0)
    else (s.count P.pbkRateRefusals 1).emit (.commitAck h.1 0x0005)) s

/-- The records of the power-fail sequence, which are never refused (R160). -/
def finalRecords (s : State) : State :=
  let s := powerFailRecords { s with jnl := { s.jnl with final := true } };
  { s with jnl := { s.jnl with final := false } }

/-- VSUP falls through 8.5 V (the power-fail table): the high sides open, the final records are committed, the enables fall
and every VCORE domain but PD36, PD29 and PD30 switches off. -/
def vsupWarning (s : State) : State :=
  let s := openHighSides { s with pwr := { s.pwr with vsup := false, vsupHeld := false } }
  if s.pwr.boot = .waitVcore then deferCopy s
  else if ¬ (s.pwr.boot = .running) ∨ s.pwr.failing then s
  else
    let s := finalRecords (abandonCompaction { s with pwr := { s.pwr with failing := true } })
    [28, 31, 32, 33, 34, 35].foldl (fun s d => loseDomain d s) (loseVcoreDomains (setEnables false false s))

/-- The last commit marker of the power-fail sequence (R110): the hold-up figures are written with the next commit. -/
def powerFailEnd (us mv : Nat) (s : State) : State :=
  if s.pwr.failing = false then s
  else
    let s := mramOff s
    let s := (s.setReg P.pwLastHoldup us).setReg P.pwVaonMinMv mv;
    updateTier { s with
      pwr := { s.pwr with failing := false }
      jnl := { s.jnl with owed := s.jnl.owed ++ [P.pwLastHoldup, P.pwVaonMinMv] } }

/-! ### Resets (R103 to R105) -/

/-- Every main-die domain but PD00 and PD02 off; the MRAM keeps its words, an SRAM bank does not. -/
def mainDomainsOff (s : State) : State :=
  let s := loseVcoreDomains s
  [28, 29, 30, 31, 32, 33, 34, 35, 36].foldl (fun s d => loseDomain d s) s

/-- The clock controller as at a start: XO32K, RC32K, FIELD13 and the RTC's source stay, RC16 runs on its factory code (R71), and the
rest begins again. -/
def clocksRestart (s : State) : State :=
  { s with clk := { ClkState.reset with
      factoryCode := s.clk.factoryCode, trim := s.clk.factoryCode, rtcOnXo := s.clk.rtcOnXo, owed := s.clk.owed,
      src := [0, s.src 2, 2, s.src 3, 0, 0, 0, 0, 0, 0, 0, s.src 9] } }

/-- A main-die start (R103): I00 and every domain but PD00 and PD02 are reset, the boot ROM will run, RST_OUT_N and the enables are
low. -/
def mainDieStart (cause : Nat) (s : State) : State :=
  let s := islandDown 0 (clocksRestart (mainDomainsOff s))
  { s with
    pwr := { s.pwr with
      boot := .held, cause := cause, rstOut := false, coreEn := false, srdEn := false, vcore := false, vsrd := false, failing := false,
      resetArmed := false, forcedStart := false, asleep := false, shed := [], dropK := false }
    jnl := { s.jnl with ready := false, slot := none, held := [], comp := none, keeper := false } }

/-- The wait of R105: the record in progress gets its commit marker, then the engine writes its own entry (R529). -/
def journalWait (s : State) : State :=
  ownObjectEntry s

/-- VAON falls below 1.72 V: the whole main die loses power; PD02 stays only on a field. -/
def vaonPor (s : State) : State :=
  let s := mainDieStart 1 { s with jnl := { s.jnl with slot := none } };
  let s := { s with
    pwr := { s.pwr with vaon := false, darkKeeper := false, vcoreLost := false }
    clk := { s.clk with owed := [] } }
  let s := (s.setDom 0 .off).setDom 1 .off
  if fieldPresent s then s else tagPowerLost (s.setDom 2 .off)

/-- The VAON POR released: PD00 to PD02 on, stage time restarts at 0 (R6). -/
def vaonPorRelease (s : State) : State :=
  let s := ((s.setDom 0 .on).setDom 1 .on).setDom 2 .on;
  { s with
    now := 0
    clk := { ClkState.reset with factoryCode := s.clk.factoryCode, trim := s.clk.factoryCode }
    pwr := { s.pwr with vaon := true, darkKeeper := true, boot := .held, cause := 1 } }

/-! ### Supplies (R89) -/

/-- PD55 follows VCP_P and VCP_M (R100). -/
def followVcp (s : State) : State :=
  if s.pwr.vcpP ∧ s.pwr.vcpM then
    if (wantedDomains s (aimTier s)).contains 55 ∧ s.domOn 47 then domainRequestOn 55 s else s
  else updateTier (dropDomain 55 .off (pilotLost s))

/-- The rising thresholds of the supplies 0 VSUP, 1 VAON, 2 VCORE, 3 VSRD, 4 VIO33, 5 VIO18, 6 VCP_P, 7 VCP_M in mV, the sign of
VCP_M left out (R89). -/
def risesAt (supply : Nat) : Nat := [8800, 1800, 776, 873, 2900, 1650, 11000, 11000].getD supply 0

/-- Their falling thresholds. -/
def fallsAt (supply : Nat) : Nat := [8500, 1720, 740, 830, 2800, 1600, 10500, 10500].getD supply 0

/-- VSRD falls below 0.830 V: the lanes, which it feeds beside VCORE, lose their power (R89, R93). -/
def vsrdLoss (s : State) : State :=
  updateTier ([38, 39, 40, 41].foldl (fun s d => loseDomain d s) { s with pwr := { s.pwr with vsrd := false } })

/-- A supply declared good. -/
def declareGood (supply : Nat) (s : State) : State :=
  if supply = 0 then { s with pwr := { s.pwr with vsup := true } }
  else if supply = 2 then { s with pwr := { s.pwr with vcore := s.pwr.coreEn } }
  else if supply = 3 then { s with pwr := { s.pwr with vsrd := s.pwr.srdEn } }
  else if supply = 4 then { s with pwr := { s.pwr with vio33 := true } }
  else if supply = 5 then { s with pwr := { s.pwr with vio18 := true } }
  else if supply = 6 then followVcp { s with pwr := { s.pwr with vcpP := true } }
  else if supply = 7 then followVcp { s with pwr := { s.pwr with vcpM := true } }
  else s

/-- A supply declared failed, where no command of its own says so. -/
def declareFailed (supply : Nat) (s : State) : State :=
  if supply = 3 then vsrdLoss s
  else if supply = 4 then { s with pwr := { s.pwr with vio33 := false } }
  else if supply = 5 then { s with pwr := { s.pwr with vio18 := false } }
  else if supply = 6 then followVcp { s with pwr := { s.pwr with vcpP := false } }
  else if supply = 7 then followVcp { s with pwr := { s.pwr with vcpM := false } }
  else s

/-- The monitors of R89 on a supply that stands at `mv`: good from the rising threshold on, failed below the falling one, unchanged
between them (notes/assumptions/85.md). -/
def supplyGood (supply mv : Nat) (s : State) : State :=
  if risesAt supply ≤ mv then declareGood supply s
  else if mv < fallsAt supply then declareFailed supply s
  else s

/-! ### Boot (R106 to R108) -/

/-- The boot ROM starts on RC16: judge 0 runs, PD36 and PD28 come on. RC32K, which no judge judges, reads good from here on (DESIGN
CHOICE, notes/assumptions/88.md). -/
def bootRomStart (s : State) : State :=
  if ¬ (s.pwr.boot = .held) ∨ s.pwr.vaon = false then s
  else
    let s := { s with pwr := { s.pwr with boot := .rom, bootStatus := 0 } }
    let s := startJudge 0 ((s.setSrc 1 1).setSrc 3 2)
    domainUp 36 (s.setDom 28 .on)

/-- Whether the SHA-256 of the loader in a slot is the one of its header (R106, R482). -/
def slotHashes (s : State) (k : Nat) : Bool :=
  imageAt s (loaderSlot k) 1 && bodyHash s (loaderSlot k) == hdrHash s (loaderSlot k)

/-- The loader check ends (R106, R107): each slot's SHA-256 is judged here, its signature by the verifier, whose verdicts the command
carries. The current slot runs, else the other, else the ROM holds; a staged image that waits is copied, or its copy deferred while
VSUP is not good (R108). -/
def loaderChecked (okCurrent okOther : Bool) (s : State) : State :=
  let cur := loaderCurrent s
  let first := okCurrent && slotHashes s cur
  if ¬ (s.pwr.boot = .rom) then s
  else if first = false ∧ (okOther && slotHashes s (1 - cur)) = false then
    { s with pwr := { s.pwr with boot := .romHold, coreEn := false } }
  else
    let status := if first then 0x00 else 0x01
    let s := ensureReady s
    let s := { s with pwr := { s.pwr with loaderRun := if first then cur else 1 - cur, deferred := false } }
    if stagedWaiting s then
      if s.pwr.vsup then { s with pwr := { s.pwr with boot := .waitVcore, coreEn := true, bootStatus := status } }
      else handOver 0x03 { s with pwr := { s.pwr with deferred := true } }
    else handOver status s

/-- The wait for VCORE ends without it. -/
def vcoreWaitTimeout (s : State) : State := if s.pwr.boot = .waitVcore then deferCopy s else s

/-- The staged copy once VCORE is good, while VSUP is (R108, R109, R491): interrupted, it is done again at the next start. PW_CORE_EN
stays high (DESIGN CHOICE, notes/assumptions/86.md). -/
def stagedCopy (s : State) : State :=
  if s.pwr.boot = .waitVcore ∧ s.pwr.vcore ∧ s.pwr.vsup then handOver 0x02 (bootCopy s) else s

/-- The status frame of ROM hold (R107), at 115,200 bit/s and 8N1 with SDR_DE by the defaults (R451). -/
def romHoldFrame (s : State) : State :=
  if s.pwr.boot = .romHold then
    let b := s.postId ++ [0x10]
    doorSend 115200 0 100 10 (cobsEncode (b ++ [crc8 b]) ++ [0]) s
  else s

/-- The epoch after a start (R172). -/
def nextEpoch (e : Nat) : Nat := if e = 0xFFFFFFFF then 1 else e + 1

/-- Whether a start counts in PW_START_COUNT (R116). -/
def countedCause (c : Nat) : Bool := bitOf c 0 || bitOf c 1 || bitOf c 2 || bitOf c 3 || bitOf c 5

/-- The report of an Iron POR taken over the keeper channel (R118). -/
def takeIronReport (s : State) : State :=
  if s.pwr.ironReport ∧ s.pwr.ironOn then
    { s with pwr := { s.pwr with ironReport := false } }.setReg P.pwResetCause (setBit (s.reg P.pwResetCause) 8 true)
  else s

/-- The books of forced switches and RC16 restarts, made in their order once the Stage manager runs (R82, R83); after a restart of
RC16 its trim is searched again (R71). -/
def startBooks (s : State) : State :=
  let due := s.clk.owed
  let s := due.foldl (fun s b => makeBooks b s) { s with clk := { s.clk with owed := [] } }
  controllerMove 0 (if (due.any fun b => b.2.2.2.1 == 4) ∧ s.src 1 = 2 then startSearch s else s)

/-- The Stage manager firmware starts (R172, R27, R84, R112): its objects, a fresh epoch committed before any frame is served,
the start's cause and counts, and an empty Cue server. -/
def managerStart (s : State) : State :=
  if ¬ (s.pwr.boot = .handOver) then s
  else
    let s := loadObjects 0 (ensureReady s)
    let s := selfCommit true [P.smgCueEpoch] (s.setReg P.smgCueEpoch (nextEpoch (s.reg P.smgCueEpoch)))
    let cause := s.pwr.cause
    let s := (s.setReg P.pwResetCause (setBit cause 9 s.pwr.vcoreLost)).setReg P.pwBootStatus s.pwr.bootStatus
    let s := takeIronReport (if countedCause cause then countJournalled P.pwStartCount s else s)
    let s := { s with
      cue := { CueState.reset with keys := s.cue.keys, running := true, lastMain := s.mono, lastSide := s.mono }
      pwr := { s.pwr with boot := .running, thermFirst := true, thermBelow := none, forcedStart := false,
                          resetArmed := false, vcoreLost := false, asleep := false } }
    managerStartBlocks (updateTier (startBooks s))

/-! ### The thermal governor (R112 to R114) -/

/-- The entry threshold of a level in 0.1 °C. -/
def thermThreshold (s : State) (level : Nat) : Int :=
  if level = 1 then s.regI P.pwThermT1 else if level = 2 then s.regI P.pwThermT2
  else if level = 3 then s.regI P.pwThermT3 else 1400

/-- The highest level whose entry threshold a temperature has reached. -/
def thermLevelFor (s : State) (tj : Int) : Nat :=
  if thermThreshold s 4 ≤ tj then 4 else if thermThreshold s 3 ≤ tj then 3 else if thermThreshold s 2 ≤ tj then 2
  else if thermThreshold s 1 ≤ tj then 1 else 0

/-- One domain shed by the governor. -/
def shedDomain (d : Nat) (s : State) : State :=
  if s.domOn d then switchOff d .off { s with pwr := { s.pwr with shed := d :: s.pwr.shed } } else s

/-- A change of level (R113): counted, recorded, with PLL_A capped and units shed; units return by the tier steps. -/
def changeLevel (level : Nat) (s : State) : State :=
  let s := openRecord 0x32 (countJournalled P.pwThermEvents (s.setReg P.pwThermLevel level))
  updateTier (retunePllA ((shedDomains level).foldl (fun s d => shedDomain d s) s))

/-- A reading of the two sensors (R112): the level rises at once, and the time below its threshold is watched. A move of more
than 5 °C since the last trim starts a trim (R70). -/
def thermalSample (t0 t1 : Int) (s : State) : State :=
  if ¬ (s.pwr.boot = .running) then s
  else
    let tj := max t0 t1
    let s := s.setRegI P.pwTj tj
    let s := if 50 < (tj - s.clk.trimTemp).natAbs then startTrim s else s
    let level := s.reg P.pwThermLevel
    let want := thermLevelFor s tj
    let s := if level < want then changeLevel want s else s
    let low := decide (0 < s.reg P.pwThermLevel ∧
      tj < thermThreshold s (s.reg P.pwThermLevel) - (s.reg P.pwThermHyst : Int));
    { s with pwr := { s.pwr with
        thermFirst := false
        thermBelow := if low then (if s.pwr.thermBelow.isSome then s.pwr.thermBelow else some s.mono) else none } }

/-- The level falls by one after 10 s below its threshold less the hysteresis (R112). -/
def thermalDrop (s : State) : State :=
  if s.pwr.thermBelow.isSome ∧ 0 < s.reg P.pwThermLevel then
    changeLevel (s.reg P.pwThermLevel - 1) { s with pwr := { s.pwr with thermBelow := none } }
  else s

/-! ### The dark domain (R115) -/

/-- The dark source selector: the keeper regulator while VAON is good, else the harvester, on a field. -/
def darkSwitch (vaonGood field : Bool) (s : State) : State :=
  let s := { s with pwr := { s.pwr with darkKeeper := vaonGood } };
  if vaonGood || field then s.setDom 2 .on else tagPowerLost (s.setDom 2 .off)

/-! ### The Iron's reset (R58, R89, R93, R103) -/

/-- The Iron POR: every Iron domain but PD62 loses power, undelivered events are lost, the outputs are open. -/
def ironPor (s : State) : State :=
  let s := { s with
    pwr := { s.pwr with ironOn := false }
    iron := { IronState.reset with next := s.iron.next } }
  let s := [52, 53, 54, 55, 56, 57, 58, 59, 60, 61, 63].foldl (fun s d => s.setDom d .off) s
  updateTier (notesGone (ironReset s))

/-- The release of the Iron POR. -/
def ironPorRelease (s : State) : State :=
  if s.pwr.ironOn then s
  else
    let s := [52, 53, 54, 63].foldl (fun s d => s.setDom d .on) s
    let s := { s with
      pwr := { s.pwr with ironOn := true, ironReport := true, vsup := true }
      iron := { IronState.reset with next := 0 } }
    notesBack (ironLatch 0x12 0xFF s)

/-! ### The prompt book's own power (R23, R155) -/

/-- PD36, PD29 and PD30 powered over the keeper path where the tier keeps them off, and the prompt book recovered (R163). -/
def bookUp (s : State) : State :=
  let on (d : Nat) (s : State) : State := if s.domOn d then s else s.setDom d .on
  if s.bookPowered then ensureReady s
  else
    let s := on 30 (on 29 { s with jnl := { s.jnl with keeper := true } })
    ensureReady (if s.domOn 36 then s else domainUp 36 s)

/-- Their power switched off again once nothing is left to write, unless the tier wants them by now. -/
def bookDown (s : State) : State :=
  if s.jnl.keeper ∧ s.jnl.slot = none ∧ s.jnl.held = [] ∧ s.jnl.comp = none then
    let s := { s with jnl := { s.jnl with keeper := false } }
    let want := wantedDomains s (aimTier s)
    bookDomains.foldl (fun s d => if want.contains d then s else domainOff d .off s) s
  else s

/-! ### The commands -/

/-- JOURNAL_COMMIT_REQUEST. -/
def execJournalCommitRequest (requester : Nat) (j : JReq) (s : State) : Host.Outcome State Fault Refusal :=
  .next (bookDown (journalRequest requester j (bookUp s)))

/-- JOURNAL_COMMIT_COMPLETE: the commit word of the record in progress is written. -/
def execJournalCommitComplete (s : State) : Host.Outcome State Fault Refusal :=
  .next (if s.jnl.slot.isSome then bookDown (compactIfFull (payOwed (finishSlot s))) else bookDown s)

/-- COMPACTION_SECTOR: a record in progress is ended first, because the sector takes the SEQs after its own. -/
def execCompactionSector (s : State) : Host.Outcome State Fault Refusal :=
  .next (if s.jnl.comp.isSome then bookDown (compactionSector (finishSlot s)) else s)

/-- VSUP_WARNING. -/
def execVsupWarning (_vsupMv : Nat) (s : State) : Host.Outcome State Fault Refusal := .next (vsupWarning s)

/-- POWER_FAIL_LAST_COMMIT. -/
def execPowerFailLastCommit (holdupUs vaonMinMv : Nat) (s : State) : Host.Outcome State Fault Refusal :=
  .next (powerFailEnd holdupUs vaonMinMv s)

/-- VAON_POR. -/
def execVaonPor (s : State) : Host.Outcome State Fault Refusal := .next (vaonPor s)

/-- VAON_POR_RELEASE. -/
def execVaonPorRelease (s : State) : Host.Outcome State Fault Refusal := .next (vaonPorRelease s)

/-- VCORE_LOSS. -/
def execVcoreLoss (s : State) : Host.Outcome State Fault Refusal := .next (vcoreLoss s)

/-- SUPPLY_GOOD. -/
def execSupplyGood (supply mv : Nat) (s : State) : Host.Outcome State Fault Refusal := .next (supplyGood supply mv s)

/-- VSUP_GOOD_HOLD_EXPIRY: the tier may rise again (R100). -/
def execVsupGoodHoldExpiry (s : State) : Host.Outcome State Fault Refusal :=
  .next (if s.pwr.vsup ∧ s.pwr.failing = false then
    powerReturns { s with pwr := { s.pwr with vsupHeld := true } } else s)

/-- VCP_STATE_CHANGE. -/
def execVcpStateChange (pGood mGood : Bool) (s : State) : Host.Outcome State Fault Refusal :=
  .next (followVcp { s with pwr := { s.pwr with vcpP := pGood, vcpM := mGood } })

/-- SYS_RST_N_LOW. -/
def execSysRstNLow (s : State) : Host.Outcome State Fault Refusal := .next (mainDieStart 2 (journalWait s))

/-- STAGE_MANAGER_WATCHDOG_EXPIRY. -/
def execStageManagerWatchdogExpiry (s : State) : Host.Outcome State Fault Refusal :=
  .next (mainDieStart 4 (journalWait s))

/-- RESET_REQUEST_DELAY_EXPIRY. -/
def execResetRequestDelayExpiry (s : State) : Host.Outcome State Fault Refusal :=
  .next (if s.pwr.resetArmed then mainDieStart 8 (journalWait s) else s)

/-- DEFERRED_COPY_START. -/
def execDeferredCopyStart (s : State) : Host.Outcome State Fault Refusal :=
  .next (if s.pwr.deferred ∧ s.pwr.boot = .running ∧ s.pwr.vsup ∧ s.pwr.vcore then
    mainDieStart 0x20 { s with pwr := { s.pwr with deferred := false } } else s)

/-- BOOT_ROM_START. -/
def execBootRomStart (s : State) : Host.Outcome State Fault Refusal := .next (bootRomStart s)

/-- LOADER_CHECK_COMPLETE. -/
def execLoaderCheckComplete (okCurrent okOther : Bool) (s : State) : Host.Outcome State Fault Refusal :=
  .next (loaderChecked okCurrent okOther s)

/-- BOOT_STAGED_COPY. -/
def execBootStagedCopy (s : State) : Host.Outcome State Fault Refusal := .next (stagedCopy s)

/-- RAILS_DISCHARGED: PD61 goes off with them where its switch-off was asked for. -/
def execRailsDischarged (s : State) : Host.Outcome State Fault Refusal := .next (updateTier (railsDischarged s))

/-- VCORE_WAIT_TIMEOUT. -/
def execVcoreWaitTimeout (s : State) : Host.Outcome State Fault Refusal := .next (vcoreWaitTimeout s)

/-- ROM_HOLD_STATUS_FRAME. -/
def execRomHoldStatusFrame (s : State) : Host.Outcome State Fault Refusal := .next (romHoldFrame s)

/-- STAGE_MANAGER_START. -/
def execStageManagerStart (s : State) : Host.Outcome State Fault Refusal := .next (managerStart s)

/-- TIER_GROUP_START. -/
def execTierGroupStart (s : State) : Host.Outcome State Fault Refusal :=
  .next (if s.pwr.boot = .running then tierStep s else s)

/-- DOMAIN_SWITCH_ON. -/
def execDomainSwitchOn (d : Nat) (s : State) : Host.Outcome State Fault Refusal :=
  .next (if s.pwr.boot = .running ∧ domainAllowed s d then domainRequestOn d s else s)

/-- DOMAIN_ON_COMPLETE. -/
def execDomainOnComplete (d : Nat) (s : State) : Host.Outcome State Fault Refusal := .next (domainComplete d s)

/-- DOMAIN_POWER_GOOD_TIMEOUT. -/
def execDomainPowerGoodTimeout (d : Nat) (s : State) : Host.Outcome State Fault Refusal := .next (powerGoodTimeout d s)

/-- DOMAIN_SWITCH_OFF: PD00, PD01, PD02, which the dark source selector switches, and the Iron's own domains are never switched off (R93, R99). -/
def execDomainSwitchOff (d : Nat) (s : State) : Host.Outcome State Fault Refusal :=
  .next (if ¬ (s.pwr.boot = .running) ∨ d ≤ 2 ∨ d = 52 ∨ d = 53 ∨ d = 54 ∨ 62 ≤ d then s
    else updateTier (switchOff d (if retains s d then .retain else .off) s))

/-- THERMAL_SAMPLE. -/
def execThermalSample (t0 t1 : Int) (s : State) : Host.Outcome State Fault Refusal := .next (thermalSample t0 t1 s)

/-- THERMAL_LEVEL_DROP. -/
def execThermalLevelDrop (s : State) : Host.Outcome State Fault Refusal := .next (thermalDrop s)

/-- DARK_SOURCE_SWITCH. -/
def execDarkSourceSwitch (vaonGood : Bool) (s : State) : Host.Outcome State Fault Refusal :=
  .next (darkSwitch vaonGood (fieldPresent s) s)

/-- IRON_POR: the Iron die loses its state and its outputs open (R103). -/
def execIronPor (s : State) : Host.Outcome State Fault Refusal := .next (ironPor s)

/-- IRON_POR_RELEASE: PD52, PD53, PD54 and PD63 come on with every output open, and the event of R58 is latched. -/
def execIronPorRelease (s : State) : Host.Outcome State Fault Refusal := .next (ironPorRelease s)

end Sys2Proof.Machine
end

