-- ==== Sys2Proof/Machine/Restarts.lean ====
section
/-!
DEFINITION. Restarts of single islands and the checks that follow a start: the Warden's lockstep (spec/08_safety.md R213,
R214), fetches that receive DATA (spec/06_mram_and_prompt_book.md R152) and RC16 after a wake
(spec/17_serial_keypad_stage_door.md R447).
-/

namespace Sys2Proof.Machine

open Sys2Proof

/-- One island restarted by the Stage manager: on input 0, and moved to its running input (R73). The Stage manager cannot restart
itself: its watchdog does, by a main-die start (R103; DESIGN CHOICE, notes/assumptions/87.md). -/
def restartIsland (n : Nat) (s : State) : State :=
  if n = 0 then mainDieStart 4 (journalWait s) else controllerMove n (resetIsland n s)

/-- A lockstep mismatch: I08 restarts and reports it. -/
def lockstep (s : State) : State :=
  if s.present 8 = false then s
  else wardenEvent 0x13 0xFF (s.reg P.irnFaults) (latchFault 1 14 (restartIsland 8 s))

/-- The restarts noted for the word at an address. -/
def restartsOf (s : State) (a : Nat) : Nat := ((s.mram.restarts.find? fun e => e.1 == a).map (·.2)).getD 0

/-- A fetch that received DATA: its island restarts, and the third restart on a word marks the image that holds it damaged. -/
def fetchError (init addr : Nat) (s : State) : State :=
  let a := addr / 16 * 16
  let n := restartsOf s a + 1
  if s.pwr.boot ≠ .running ∨ s.present (initIsland init) = false then s
  else
    let s := { s with mram := { s.mram with restarts := (a, n) :: s.mram.restarts.filter fun e => !(e.1 == a) } }
    let s := match (if n = 3 then componentAt s a else none) with
      | some c => markDamaged c s
      | none => s
    restartIsland (initIsland init) s

/-- The count of RC16 after a wake: a rejected RC16 is trimmed again. -/
def wakeJudged (count : Nat) (s : State) : State :=
  let s := wakeCheck count s
  if ustat s 0 7 then startTrim s else s

/-! ### The commands -/

/-- LOCKSTEP_MISMATCH. -/
def execLockstepMismatch (s : State) : Host.Outcome State Fault Refusal := .next (lockstep s)

/-- SAFETY_BLOCK_LOAD. -/
def execSafetyBlockLoad (s : State) : Host.Outcome State Fault Refusal :=
  .next (sessionCheck 0x04 (loadBlocks (ironTableOk s) s))

/-- FETCH_ERROR_RESTART. -/
def execFetchErrorRestart (init addr : Nat) (s : State) : Host.Outcome State Fault Refusal := .next (fetchError init addr s)

/-- WAKE_RC16_CHECK. -/
def execWakeRc16Check (count : Nat) (s : State) : Host.Outcome State Fault Refusal := .next (wakeJudged count s)

end Sys2Proof.Machine
end

