-- ==== Sys2Proof/Machine/Flags.lean ====
section
/-!
DEFINITION. The status words that gather other state: domains and islands (spec/02_dies_islands_fabric.md R60,
spec/04_power_and_start.md R116) and clocks (spec/03_clocks.md R86, R87).
-/

namespace Sys2Proof.Machine

open Sys2Proof

/-- The code of a domain in PW_DOMAIN_STATE (R116). A domain that is still switching on shows as off until PRESENT rises (DESIGN
CHOICE, notes/assumptions/84.md). -/
def DomState.code : DomState → Nat
  | .off => 0
  | .rising => 0
  | .retain => 1
  | .on => 2
  | .fault => 3

/-- PW_DOMAIN_STATE (R116). -/
def domainStateWord (s : State) : Nat :=
  ((List.range 64).map fun d => (s.dom d).code * 4 ^ d).foldl (· + ·) 0

/-- Two bits of PW_ISLAND_STATE (R60): off, in reset, running, clock stopped. I01's clock exists only on a reader's field (R73,
notes/assumptions/32.md). -/
def islandCode (s : State) (n : Nat) : Nat :=
  if s.domOn (firstDom n) = false then 0
  else if (s.isl n).inReset then 1
  else if s.clockStopped n then 3
  else 2

/-- PW_ISLAND_STATE (R60). -/
def islandStateWord (s : State) : Nat :=
  ((List.range 24).map fun n => islandCode s n * 4 ^ n).foldl (· + ·) 0

/-- CK_ISLAND_SEL (R86). -/
def islandSelWord (s : State) : Nat :=
  ((List.range 24).map fun n => (s.isl n).sel % 4 * 4 ^ n).foldl (· + ·) 0

/-- CK_HUNG (R80, R86). -/
def hungWord (s : State) : Nat := ((List.range 24).map fun n => ofBool (s.isl n).listed * 2 ^ n).foldl (· + ·) 0

/-- CK_SRC_STATUS (R87). -/
def srcStatusWord (s : State) : Nat :=
  ((List.range 9).map fun i => s.clk.src.getD i 0 % 4 * 4 ^ i).foldl (· + ·) 0

/-- The frequency in Hz that a source code stands for on CK_OBS, PLL_A at its highest output (R526). -/
def obsHz (code : Nat) : Nat :=
  [16000000, 25000000, 32768, 32000, 156250000, 1200000000, 500000000, 500000000, 250000000, 13560000, 1250000000,
   27120000].getD code 0

/-- Whether a source runs: it is neither off, nor stopped, nor failed. -/
def srcRuns (s : State) (code : Nat) : Bool :=
  if code = 9 then s.srcGood 9
  else if code = 10 then srcRunsAt 4 && !(s.src 10 == 3)
  else if code = 11 then srcRunsAt 1 && !(s.src 11 == 3)
  else srcRunsAt code
where srcRunsAt (c : Nat) : Bool := s.src c == 1 || s.src c == 2

/-- The frequency in Hz that a source code stands for on CK_OBS at this moment (R526): PLL_A at its present output. -/
def obsNow (s : State) (code : Nat) : Nat := if code = 5 then s.clk.plla * 1000000 else obsHz code

/-- The output CK_OBS (R526): the frequency in Hz of the selected source and the exponent of its divisor, or none while it is low
because nothing is selected or the source is off, stopped or failed, or floats because VIO18 is absent (R90). -/
def ckObs (s : State) : Option (Nat × Nat) :=
  let v := s.reg P.ckObsSel
  if v = 0xFF ∨ srcRuns s (bits v 7 4) = false ∨ s.pwr.vio18 = false then none else some (obsNow s (bits v 7 4), bits v 3 0)

/-- PW_DARK_SRC (R115, R116). -/
def darkSource (s : State) : Nat :=
  if s.domOn 2 = false then 0 else if s.pwr.darkKeeper then 1 else 2

end Sys2Proof.Machine
end

