-- ==== Sys2Proof/Machine/Views.lean ====
section
/-!
DEFINITION. What each object reads as. Most objects are registers; an object whose value the manual derives from other
state is computed here from that state, so that no fact is stored twice.
-/

namespace Sys2Proof.Machine

open Sys2Proof

/-! ### Values that the post measures or computes when it is read -/

/-- A value that the post measures by itself, while it measures it (notes/assumptions/2.md): a free value of the object's
width. -/
def measuredOr (s : State) (p : Nat) (measuring : Bool) : Nat :=
  if measuring then (Config.measured p s.mono).toNat % 2 ^ (8 * sizeOf' p) else s.reg p

/-- CK_IRC8_PPM, CK_SRC_STATUS and the other objects of the clock controller and of power (R60, R86, R116). -/
def powerView (s : State) (p : Nat) : Option Nat :=
  if p = P.pwDomainState then some (domainStateWord s)
  else if p = P.pwIslandState then some (islandStateWord s)
  else if p = P.ckIslandSel then some (islandSelWord s)
  else if p = P.ckSrcStatus then some (srcStatusWord s)
  else if p = P.pwDarkSrc then some (darkSource s)
  else if p = P.ckRc16Trim then some (s.clk.trim % 256)
  else if p = P.ckHung then some (hungWord s)
  else if p = P.ckPllaActual then some (s.clk.plla % 65536)
  else if p = P.pwVsupMv then some (if s.pwr.ironOn then measuredOr s p true else 0)
  else if p = P.pwVaonMv then some (measuredOr s p true)
  else if p = P.pwVcoreMv then some (if s.pwr.coreEn then measuredOr s p true else 0)
  else if p = P.ckIrc8Ppm then some (measuredOr s p (s.pwr.ironOn && s.srcGood 1))
  else none

/-- The objects of the Callboard (R133, R134). -/
def callboardView (s : State) (p : Nat) : Option Nat :=
  if P.cbdStatus 0 ≤ p ∧ p ≤ P.cbdStatus 31 then some (s.chan (p - P.cbdStatus 0)).status
  else if P.cbdPeek 0 ≤ p ∧ p ≤ P.cbdPeek 31 then some (s.chan (p - P.cbdPeek 0)).notice
  else if P.cbdConfig 0 ≤ p ∧ p ≤ P.cbdConfig 31 then some (s.chan (p - P.cbdConfig 0)).config
  else if p = P.cbdPending then some s.cbdPending
  else none

/-- The objects that show the identity and the notes of the tag (R434, R495). -/
def identityView (s : State) (p : Nat) : Option Nat :=
  if p = P.smgPostId then some (ofBytes s.postId)
  else if p = P.smgDieLot then some s.pwr.dieLot
  else if p = P.smgRomVersion then some s.pwr.romVersion
  else if p = P.tagUid then some (ofBytes (tagUid s))
  else if p = P.tagNote then some (s.word (noteAddr (s.reg P.tagNoteSel)))
  else none

/-- The calibration entries as the Tally's objects show them (R296, R302). -/
def calibrationView (s : State) (p : Nat) : Option Nat :=
  (List.range 16).findSome? fun n =>
    if n < 12 ∧ p = P.tlyMcOffset n then some (calOffset s n)
    else if n < 12 ∧ p = P.tlyMcGain n then some (calGain s n)
    else if n < 12 ∧ p = P.tlyMcCalTime n then some (calTime s n)
    else if p = P.tlyPcOffset n then some (calOffset s (16 + n))
    else if p = P.tlyPcGain n then some (calGain s (16 + n))
    else if p = P.tlyPcCalTime n then some (calTime s (16 + n))
    else none

/-- The objects of Tirwa, the Stage link and the reader that follow other state (R384, R386, R408, R410, R412, R434). -/
def networkView (s : State) (p : Nat) : Option Nat :=
  if p = P.tirNeighInfo then some (neighInfo s)
  else if p = P.tirRouteInfo then some (routeInfo s)
  else if p = P.tirTestBits ∨ p = P.tirTestErrors then some (measuredOr s p (decide (2 ≤ s.reg P.tirTestMode)))
  else if p = P.tirGpTestErrors then some (measuredOr s p (decide (2 ≤ s.reg P.tirGpTestMode)))
  else if p = P.rdrTestFrames ∨ p = P.rdrTestErrors then some (measuredOr s p (s.reg P.rdrTestMode == 1))
  else
    (List.range 4).findSome? fun n =>
      if p = P.slLaneState n then some (laneState s n)
      else if p = P.slLanePatBits n ∨ p = P.slLanePatErr n then some (measuredOr s p (!(s.reg (P.slLanePatChk n) == 0)))
      else none

/-- The objects of the serial ports that follow other state (R456, R461, R463). -/
def serialView (s : State) (p : Nat) : Option Nat :=
  if p = P.sdrStatus then some (setBit (s.reg p) 1 (doorSending s))
  else [1, 2, 3, 4, 5].findSome? fun n =>
    if n ≤ 2 ∧ p = P.uartMode n then some (uartModeNow s n)
    else if p = P.uartStatus n then some (setBit (s.reg p) 5 (clockFallback s n))
    else if p = P.uartTestBits n then some (testBits s n)
    else if n ≤ 2 ∧ p = P.uartRxData n then some (ofBytes (rxBytes s n))
    else none

/-- The objects of the calendar, the axis and the display that follow other state (R281, R329, R349, R480). -/
def axisView (s : State) (p : Nat) : Option Nat :=
  if p = P.boxRateNow then some (rateNow s)
  else if p = P.boxNextSeam then some (nextSeam s)
  else if p = P.flyStatus then some (flyStatusWord s)
  else if p = P.irnDspRails then some (measuredOr s p (!(s.reg p == 0)))
  else none

/-- The value of an object as a read gives it. -/
def objVal (s : State) (p : Nat) : Nat :=
  match powerView s p with
  | some v => v
  | none =>
  match callboardView s p with
  | some v => v
  | none =>
  match identityView s p with
  | some v => v
  | none =>
  match tallyView (ensureTally s) p with
  | some v => v
  | none =>
  match calibrationView s p with
  | some v => v
  | none =>
  match networkView s p with
  | some v => v
  | none =>
  match serialView s p with
  | some v => v
  | none => (axisView s p).getD (s.reg p)

/-- The level of CBD_PEEKn (R132). -/
def peekLevel (n : Nat) : Nat :=
  if n = 2 ∨ n = 3 then 3 else if n = 20 ∨ n = 21 then 2 else if n = 22 ∨ n = 23 then 4 else 0

/-- The access level of an object (R12, R132). -/
def levelOf (p : Nat) : Nat :=
  if P.cbdPeek 0 ≤ p ∧ p ≤ P.cbdPeek 31 then peekLevel (p - P.cbdPeek 0)
  else
    match findObj p with
    | none => 4
    | some o => o.level

/-- Whether a PID names an object (R169): the rows of the tables, less the test objects of U3 and U4 (R461). -/
def objExists (p : Nat) : Bool :=
  (findObj p).isSome && !([3, 4].any fun n => p == P.uartTest n || p == P.uartTestBits n || p == P.uartTestErrors n)

/-- The bytes of an object's value as a READ carries them (R170): the length of a received ATR and of received bytes is
theirs, every other value has the object's size. -/
def objBytes (s : State) (p : Nat) : Bytes :=
  if p = P.uartRxData 1 then rxBytes s 1
  else if p = P.uartRxData 2 then rxBytes s 2
  else if p = P.crdAtr 3 then toBytes (s.slot 3).atrLen (s.reg p)
  else if p = P.crdAtr 4 then toBytes (s.slot 4).atrLen (s.reg p)
  else toBytes (sizeOf' p) (objVal s p)

end Sys2Proof.Machine
end

