-- ==== Sys2Proof/Machine/Operands.lean ====
section
/-!
DEFINITION. What a write may carry: the encodings of R170 (spec/07_object_dictionary.md), and the limits of the Meaning
columns (step 10 of R178), with the limits that tie one object to another (R117, R249, R256, R280, R328, R335, R413,
R525). A limit is judged over a valuation `g`: what each object would hold after the write.
-/

namespace Sys2Proof.Machine

open Sys2Proof

/-! ### Encodings (R170) -/

/-- UTF-8, by the number of continuation bytes still due. -/
def utf8Go : Nat → Bytes → Bool
  | k, [] => k == 0
  | 0, b :: t =>
    if b < 0x80 then utf8Go 0 t
    else if 0xC2 ≤ b ∧ b < 0xE0 then utf8Go 1 t
    else if 0xE0 ≤ b ∧ b < 0xF0 then
      (match t with
        | c :: _ => if (b = 0xE0 ∧ c < 0xA0) ∨ (b = 0xED ∧ 0xA0 ≤ c) then false else utf8Go 2 t
        | [] => false)
    else if 0xF0 ≤ b ∧ b < 0xF5 then
      (match t with
        | c :: _ => if (b = 0xF0 ∧ c < 0x90) ∨ (b = 0xF4 ∧ 0x90 ≤ c) then false else utf8Go 3 t
        | [] => false)
    else false
  | k + 1, b :: t => if 0x80 ≤ b ∧ b < 0xC0 then utf8Go k t else false

/-- The key objects (R194), the tag's and the house's among them. -/
def keyObjects : List Nat :=
  [P.smgCueKey 0, P.smgCueKey 1, P.smgCueKey 2, P.smgCueKey3, P.tirHouseKey, P.tagPassword, P.tagAesKey]

/-- The STR and BLOB objects of fixed size (R170). -/
def fixedBlob (p : Nat) : Bool :=
  keyObjects.contains p || [P.boxSpecial, P.slVlanTable, P.rdrAllow, P.dspImage, P.dspBlink, P.boxTokenIn].contains p
    || ((List.range 4).any fun s => (List.range 4).any fun d => p == P.boxDay s d)

/-- The result of the encoding check: TYPE for a wrong length or text, RANGE for a value too long or a BOOL above 1. -/
def encodingResult (o : Obj) (p : Nat) (v : Bytes) : Nat :=
  match o.ty with
  | .bool => if ¬ (v.length = 1) then resType else if 1 < ofBytes v then resRange else resOk
  | .uint n => if v.length = n then resOk else resType
  | .int n => if v.length = n then resOk else resType
  | .str n =>
    if fixedBlob p ∧ ¬ (v.length = n) then resType
    else if utf8Go 0 v = false then resType
    else if n < v.length then resRange else resOk
  | .blob n => if fixedBlob p ∧ ¬ (v.length = n) then resType else if n < v.length then resRange else resOk

/-! ### Limits of one object -/

/-- The number of days of a month, 29 for February. -/
def monthDays (m : Nat) : Nat := [0, 31, 29, 31, 30, 31, 30, 31, 31, 30, 31, 30, 31].getD m 0

/-- Whether a month and a day name a day (R525). -/
def dayOk (m d : Nat) : Bool := decide (1 ≤ m ∧ m ≤ 12 ∧ 1 ≤ d ∧ d ≤ monthDays m)

/-- A leap year. -/
def leap (y : Nat) : Bool := y % 4 == 0 && (!(y % 100 == 0) || y % 400 == 0)

/-- BOX_SEASONs (R525). -/
def seasonOk (v : Nat) : Bool :=
  if bits v 31 28 = 0 then v == 0
  else dayOk (bits v 31 28) (bits v 27 23) && bits v 22 16 == 0
    && decide (-120 ≤ toSigned 16 v ∧ toSigned 16 v ≤ 120)

/-- One entry of BOX_SPECIAL (R525). -/
def specialOk (v : Nat) : Bool :=
  let y := bits v 31 16
  let m := bits v 15 12
  let d := bits v 11 7
  if m = 0 then v == 0
  else dayOk m d && bits v 6 2 == 0 && (y == 0 || (decide (2000 ≤ y) && (!(m == 2 && d == 29) || leap y)))

/-- The entries of a day profile after the first: used ones first, in strictly rising minutes (R328). -/
def profileRises : Nat → List Nat → Bool
  | _, [] => true
  | prev, e :: t =>
    let m := e % 2 ^ 13
    if m = 0x1FFF then t.all fun x => x % 2 ^ 13 == 0x1FFF
    else decide (prev < m ∧ m ≤ 1439) && profileRises m t

/-- A day profile (R328). -/
def profileOk (v : Nat) : Bool :=
  match dayPoints v with
  | [] => false
  | e :: t => e % 2 ^ 13 == 0 && profileRises 0 t

/-- WDN_HLC_ORDER (R249). -/
def hlcOrderOk (v : Nat) : Bool :=
  let l := toBytes 4 v
  let used := l.filter fun b => !(b == 0)
  (l.all fun b => decide (b ≤ 3)) && used.Nodup && ((l.dropWhile fun b => !(b == 0)).all fun b => b == 0)

/-- The points of IRN_RC_CURVE rise strictly in current and fall strictly in time (R256). -/
def curveOk (v : Nat) : Bool :=
  (List.range 3).all fun k =>
    decide (bits v (32 * k + 31) (32 * k + 16) < bits v (32 * k + 63) (32 * k + 48)
      ∧ bits v (32 * k + 47) (32 * k + 32) < bits v (32 * k + 15) (32 * k))

/-- CK_OBS_SEL (R86, R526). -/
def obsSelOk (v : Nat) : Bool :=
  v == 0xFF || (decide (bits v 7 4 ≤ 0xB) && decide (obsHz (bits v 7 4) ≤ 50000000 * 2 ^ bits v 3 0))

/-- A format byte (R462). -/
def formatOk (v : Nat) : Bool := bits v 7 6 == 0 && !(bits v 2 1 == 3)

/-- A contiguous mask. -/
def maskOk (v : Nat) : Bool := (List.range 33).any fun n => v == 2 ^ 32 - 2 ^ n

/-- The entries of SL_VLAN_TABLE. -/
def vlanEntries (v : Nat) : List Nat := (List.range 64).map fun i => v / 2 ^ (64 * i) % 2 ^ 64

/-- SL_VLAN_TABLE (R413): reserved fields 0, VIDs 0 to 4,094, no VID twice. -/
def vlanOk (v : Nat) : Bool :=
  let l := vlanEntries v
  (l.all fun e => bits e 63 32 == 0 && bits e 23 21 == 0 && bits e 15 12 == 0 && decide (bits e 11 0 ≤ 4094))
    && ((l.map fun e => bits e 11 0).filter fun x => !(x == 0)).Nodup

/-- PBK_BANK_CMD (R166). -/
def bankCmdOk (v : Nat) : Bool := decide (1 ≤ bits v 7 0 ∧ bits v 7 0 ≤ 3) && bits v 11 11 == 0 && bits v 31 15 == 0

/-- FLY_CUEk_CTRL (R277). -/
def cueCtrlOk (v : Nat) : Bool := bits v 4 4 == 0 && decide (bits v 3 0 ≤ 6)

/-- UARTn_WM (R461). -/
def wmOk (v : Nat) : Bool :=
  decide (2 ≤ bits v 15 8 ∧ bits v 15 8 ≤ 62 ∧ 1 ≤ bits v 7 0 ∧ bits v 7 0 + 1 ≤ bits v 15 8)

/-- The limits of the power, clock, safety and vehicle objects that stand in their Meaning alone. -/
def aloneA (p v : Nat) : Option Bool :=
  if p = P.tirTimeSrc then some (decide (v ≤ 2))
  else if p = P.ckPllaMhz then some (decide (300 ≤ v ∧ v ≤ 1200 ∧ v % 25 = 0))
  else if p = P.ckObsSel then some (obsSelOk v)
  else if p = P.pwThermT1 ∨ p = P.pwThermT2 ∨ p = P.pwThermT3 then some (decide (800 ≤ v ∧ v ≤ 1380))
  else if p = P.irnIsoWarnOpv then some (decide (100 ≤ v ∧ v ≤ 2000))
  else if p = P.irnIsoFaultOpv then some (decide (100 ≤ v ∧ v ≤ 1000))
  else if p = P.irnRcCurve then some (curveOk v)
  else if p = P.wdnHlcOrder then some (hlcOrderOk v)
  else if p = P.boxTamperBlock then some (decide (v < 0x800))
  else if p = P.boxSpecial then some ((List.range 64).all fun i => specialOk (v / 2 ^ (32 * i) % 2 ^ 32))
  else if (List.range 4).any fun s => p == P.boxSeason s then some (seasonOk v)
  else if (List.range 4).any fun s => (List.range 4).any fun d => p == P.boxDay s d then some (profileOk v)
  else if p = P.boxCreditMax then some (decide (1 ≤ v ∧ v ≤ 2 ^ 62))
  else if p = P.boxPayMinStart ∨ p = P.boxEmergAmount then some (decide (v < 2 ^ 63))
  else if p = P.boxMdMin then some (decide (1 ≤ v ∧ v ≤ 60))
  else if p = P.boxMdSubs then some (decide (1 ≤ v ∧ v ≤ 15))
  else if p = P.pbkBankCmd then some (bankCmdOk v)
  else if p = P.wngOpen then some (bits v 31 16 == 0)
  else if p = P.tlyCalCmd then some (bits v 31 16 == 0)
  else if p = P.tlyPcPeriodSrc then some (decide (v ≤ 3))
  else none

/-- The limits of the axis, network, tag, serial and display objects that stand in their Meaning alone. -/
def aloneB (p v : Nat) : Option Bool :=
  if p = P.flyVmax then some (decide (100 ≤ v ∧ v ≤ 20000000))
  else if p = P.flyDec then some (decide (100 ≤ v ∧ v ≤ 100000000))
  else if p = P.flyJerk then some (decide (1000 ≤ v ∧ v ≤ 4000000000))
  else if p = P.flyCreep then some (decide (10 ≤ v ∧ v ≤ 100000))
  else if p = P.flyToothPitch then some (decide (16 ≤ v ∧ v ≤ 1000000))
  else if p = P.flyToothTol then some (decide (1 ≤ v))
  else if (List.range 16).any fun k => p == P.flyCueCtrl k then some (cueCtrlOk v)
  else if p = P.tirTestMode ∨ p = P.tirGpTestMode then some (decide (v ≤ 3))
  else if p = P.slIpMask then some (maskOk v)
  else if p = P.slHostVid then some (decide (1 ≤ v ∧ v ≤ 4094))
  else if p = P.slVlanTable then some (vlanOk v)
  else if p = P.slQueueWeights then some ((toBytes 8 v).all fun b => !(b == 0))
  else if p = P.slPortFwd 4 then some (v == 1)
  else if (List.range 4).any fun n => p == P.slPortFwd n then some (decide (v ≤ 1))
  else if (List.range 4).any fun n => p == P.slLaneLoopback n then some (decide (v ≤ 2))
  else if (List.range 4).any fun n => p == P.slLanePatGen n || p == P.slLanePatChk n then some (decide (v ≤ 8))
  else if p = P.rdrAuthMode then some (decide (v ≤ 2))
  else if p = P.rdrTestMode then some (decide (v ≤ 1))
  else if p = P.sdrFormat then some (formatOk v && bits v 5 4 == 0)
  else if p = P.uartMode 1 then some (decide (v ≤ 3))
  else if p = P.uartMode 2 then some (decide (v ≤ 2))
  else if p = P.uartFormat 1 ∨ p = P.uartFormat 2 then some (formatOk v)
  else if p = P.uartFlow 1 ∨ p = P.uartFlow 2 then some (decide (v ≤ 1))
  else if p = P.uartWm 1 ∨ p = P.uartWm 2 then some (wmOk v)
  else if [1, 2, 3, 4, 5].any fun n => p == P.uartTest n then some (decide (v ≤ 2))
  else if p = P.dspTempSrc then some (v == 0 || v == 0x20 || decide (0x10 ≤ v ∧ v ≤ 0x1F))
  else if p = P.dspFlMode then some (decide (v ≤ 2))
  else if (List.range 4).any fun k => p == P.dspField k then some (fieldOk v)
  else none

/-- The limits that an object's Meaning states for its own value. -/
def aloneOk (o : Obj) (p v : Nat) : Bool :=
  match o.lim with
  | .any => true
  | .range lo hi => decide (lo ≤ v ∧ v ≤ hi)
  | .srange lo hi => decide (lo ≤ toSigned (8 * sizeOf' p) v ∧ toSigned (8 * sizeOf' p) v ≤ hi)
  | .oneOf l => l.contains v
  | .mask m => v &&& m == v
  | .hostSeat => decide (v < 0x1000) || v == 0xFFFE
  | .cross => ((aloneA p v).getD ((aloneB p v).getD true))

/-! ### Limits between objects -/

/-- A 32-bit signed value of a valuation. -/
def int32Of (g : Nat → Nat) (p : Nat) : Int := toSigned 32 (g p)

/-- The baud rates of a UART's mode (R461). -/
def baudOk (mode baud : Nat) : Bool :=
  if mode = 2 then decide (100000 ≤ baud ∧ baud ≤ 25000000)
  else if mode = 0 then decide (300 ≤ baud ∧ baud ≤ 25000000)
  else decide (300 ≤ baud ∧ baud ≤ 12000000)

/-- The limits that tie an axis object to others (R279, R280). -/
def axisTies (g : Nat → Nat) (p : Nat) : Bool :=
  let has (l : List Nat) : Bool := l.contains p
  (!(has [P.flyDec, P.flyQsDec]) || decide (g P.flyDec ≤ g P.flyQsDec))
    && (!(has [P.flyJerk, P.flyQsJerk]) || decide (g P.flyJerk ≤ g P.flyQsJerk))
    && (!(has [P.flyCreep, P.wdnSlsLimit]) || g P.wdnSlsLimit == 0 || decide (g P.flyCreep < g P.wdnSlsLimit))
    && (!(has [P.flySoftMin, P.flySoftMax]) || decide (int32Of g P.flySoftMin < int32Of g P.flySoftMax))
    && (!(has [P.flySoftMin, P.flySoftMax, P.flyParkPos])
        || decide (int32Of g P.flySoftMin ≤ int32Of g P.flyParkPos ∧ int32Of g P.flyParkPos ≤ int32Of g P.flySoftMax))
    && (!(has [P.flyHomeSpeed, P.flyVmax]) || decide (g P.flyHomeSpeed ≤ g P.flyVmax))
    && (!(has [P.flyToothTol, P.flyToothPitch]) || decide (4 * g P.flyToothTol ≤ g P.flyToothPitch))

/-- The limits that tie other objects to each other (R117, R256, R293, R335, R349, R412, R461, R480). -/
def otherTies (g : Nat → Nat) (p : Nat) : Bool :=
  let has (l : List Nat) : Bool := l.contains p
  (!(has [P.pwThermT1, P.pwThermT2, P.pwThermT3])
      || decide (g P.pwThermT1 < g P.pwThermT2 ∧ g P.pwThermT2 < g P.pwThermT3))
    && (!(has [P.irnIsoWarnOpv, P.irnIsoFaultOpv]) || decide (g P.irnIsoFaultOpv ≤ g P.irnIsoWarnOpv))
    && ((List.range 16).all fun n => !(has [P.tlyPcInLo n, P.tlyPcInHi n]) || !(g (P.tlyPcInLo n) == g (P.tlyPcInHi n)))
    && (!(has [P.boxMdMin, P.boxMdSubs]) || g P.boxMdMin * 60 % g P.boxMdSubs == 0)
    && (!(has [P.boxCreditMax, P.boxPayMinStart, P.boxEmergAmount])
        || decide (g P.boxPayMinStart ≤ g P.boxCreditMax ∧ g P.boxEmergAmount ≤ g P.boxCreditMax))
    && (!(has [P.slHostVid, P.slVlanTable]) || ((vlanEntries (g P.slVlanTable)).any fun e => bits e 11 0 == g P.slHostVid))
    && ([1, 2].all fun n =>
        (!(has [P.uartMode n, P.uartBaud n]) || baudOk (g (P.uartMode n)) (g (P.uartBaud n)))
          && (!(has [P.uartMode n, P.uartFlow n]) || g (P.uartFlow n) == 0 || g (P.uartMode n) == 1)
          && (!(has [P.uartXon n, P.uartXoff n]) || !(g (P.uartXon n) == g (P.uartXoff n))))
    && (!(p == P.dspTempSrc || (List.range 16).any fun n => p == P.tlyPcMode n)
        || !(decide (0x10 ≤ g P.dspTempSrc ∧ g P.dspTempSrc ≤ 0x1F)) || g (P.tlyPcMode (g P.dspTempSrc - 0x10)) == 3)

/-- Step 10 of R178 for one object over a valuation that holds its new value. -/
def limitsOk (o : Obj) (p : Nat) (g : Nat → Nat) : Bool := aloneOk o p (g p) && axisTies g p && otherTies g p

end Sys2Proof.Machine
end

