-- ==== Sys2Proof/Machine/Actions.lean ====
section
/-!
DEFINITION. What a write of an object does once it has passed every check (step 12 of R178): the register takes the value,
and the block behind it acts. Each chapter's rule stands with the action it calls.
-/

namespace Sys2Proof.Machine

open Sys2Proof

/-- Where a write comes from: its writer, the address it came from on the Stage link, the key that verified it, and whether a
read of the active image returns DATA while it runs (R488). -/
structure WriteCtx where
  writer : Writer
  ip : Nat
  key : Nat
  dataBad : Bool
deriving DecidableEq, Repr

/-! ### Keys (R194) -/

/-- A new key for the Cue server; K4 is no object and no write reaches it (R171). -/
def setCueKey (k v : Nat) (s : State) : State :=
  if k < 4 then { s with cue := { s.cue with keys := setAt s.cue.keys k v } } else s

/-- A key object written: the value is decrypted under the key that verified the write, and the change is logged. The manual
states no cipher for the eight bytes of TAG_PASSWORD, so the password that results is a free value (notes/assumptions/1.md). -/
def keyWrite (c : WriteCtx) (p : Nat) (v : Bytes) (s : State) : State :=
  let new := aesDecrypt (toBytes 16 c.key) v
  let s :=
    if p = P.tagPassword then (let f := s.drawBits 64
      actTagKey false (toBytes 8 f.1) f.2)
    else if p = P.tagAesKey then actTagKey true new s
    else if p = P.tirHouseKey then s.setTir { s.tir with houseKey := some (ofBytes new) }
    else setCueKey (p - P.smgCueKey 0) (ofBytes new) s
  tamperStart 9 0 s

/-! ### Commands -/

/-- PBK_BANK_CMD by the Stage manager's firmware (R154, R166). -/
def actBankCmd (level v : Nat) (s : State) : Nat × State :=
  if 2 ≤ bits v 7 0 ∧ level < 4 then (resAccess, s)
  else
    match bankRequest 0x0C (bits v 7 0) (bits v 10 8) (bits v 14 12) s with
    | (.started, s) => (resOk, s)
    | (.busy, s) => (resBusy, s)
    | (.aborted, s) => (resAborted, s)

/-- FLY_CMD by its code (R266, R271, R279). -/
def actFlyCmd (v : Nat) (s : State) : Nat × State :=
  if v = 1 then actFlyHome s
  else if v = 3 then actFlyStop .stop s
  else if v = 4 then actFlyStop .quick s
  else if v = 5 then actFlyResume s
  else if v = 6 then actFlyJog .jogUp s
  else if v = 7 then actFlyJog .jogDown s
  else (resRange, s)

/-- PW_RESET_REQ (R103): the main-die start follows the reply. -/
def actResetReq (v : Nat) (s : State) : Nat × State :=
  if v = 0x5A then (resOk, { s with pwr := { s.pwr with resetArmed := true } }) else (resRange, s)

/-- RDR_TEST_MODE just written over `old` (R434): a start clears the counters, a stop keeps what they came to. -/
def actRdrTest (old : Nat) (s : State) : State :=
  let stopped := old == 1 && s.reg P.rdrTestMode == 0
  let kept (p : Nat) : Nat := if stopped then (Config.measured p s.mono).toNat else 0
  if stopped ∨ s.reg P.rdrTestMode = 1 then
    (s.setReg P.rdrTestFrames (kept P.rdrTestFrames)).setReg P.rdrTestErrors (kept P.rdrTestErrors)
  else s

/-- The write-only commands of power, clocks, the axis, the converters, the Box office and the tag; none for another object. -/
def actCommand (c : WriteCtx) (p : Nat) (v : Bytes) (s : State) : Option (Nat × State) :=
  let n := ofBytes v
  if keyObjects.contains p then some (resOk, keyWrite c p v s)
  else if p = P.ckForceNow then some (resOk, actForceNow n s)
  else if p = P.pwResetReq then some (actResetReq n s)
  else if p = P.pbkBankCmd then some (actBankCmd c.writer.level n s)
  else if p = P.flyCmd then some (actFlyCmd n s)
  else if p = P.flyTarget then some (actFlyTarget n s)
  else if p = P.tlyCalCmd then some (actCalCmd c.writer.level n s)
  else if p = P.boxEmergReq then some (actEmergReq n s)
  else if p = P.boxTokenIn then some (actTokenIn v s)
  else if p = P.boxMdReset then some (actMdReset n s)
  else if p = P.rdrHostGrant then some (resOk, actHostGrant n s)
  else if p = P.tagNoteClear then some (resOk, if n = 0xC1 then clearNotes s else s)
  else none

/-- The commands of the Wings (R487 to R492). -/
def actWings (c : WriteCtx) (p : Nat) (v : Bytes) (s : State) : Option (Nat × State) :=
  let n := ofBytes v
  if p = P.wngOpen then some (actWngOpen n c.writer s)
  else if p = P.wngChunk then some (actWngChunk v c.dataBad c.writer s)
  else if p = P.wngVerify then some (if n = 1 then actWngVerify c.writer s else (resRange, s))
  else if p = P.wngCommit then some (if n = 1 then actWngCommit c.writer s else (resRange, s))
  else if p = P.wngCommitCrc then some (actWngCommitCrc n c.writer s)
  else if p = P.wngConfirm then some (if n = 1 then actWngConfirm c.writer s else (resRange, s))
  else if p = P.wngRollback then some (if n = 1 then actWngRollback c.writer s else (resRange, s))
  else if p = P.wngAbandon then some (if n = 1 then actWngAbandon c.writer s else (resRange, s))
  else none

/-- The objects whose write runs a rule of its own that may refuse it, by index (R296, R323, R384, R410, R455, R456). -/
def actIndexed (c : WriteCtx) (p : Nat) (v : Bytes) (s : State) : Option (Nat × State) :=
  let n := ofBytes v
  if p = P.tirGpTestMode then
    (let r := actGpTest s
     some (r.1, if r.1 = resOk then r.2.setReg p n else r.2))
  else if p = P.uartTxData 1 then some (actTxData 1 v s)
  else if p = P.uartTxData 2 then some (actTxData 2 v s)
  else
    (List.range 16).findSome? fun k =>
      if k < 3 ∧ p = P.tlyOutMode k then some (actOutMode k n s)
      else if p = P.tlyPcMode k then some (actPcMode k n s)
      else if k < 12 ∧ p = P.tlyMcFs k then some (actMcFs k n s)
      else if 1 ≤ k ∧ k ≤ 5 ∧ p = P.uartTest k then some (actUartTest k n s)
      else if k < 4 ∧ p = P.slLaneLoopback k then some (actLaneTest p k n false c.writer.via c.ip s)
      else if k < 4 ∧ (p = P.slLanePatGen k ∨ p = P.slLanePatChk k) then some (actLaneTest p k n true c.writer.via c.ip s)
      else none

/-! ### What follows the write of a register -/

/-- The objects of the house, power, the calendar and the networks. -/
def writtenHouse (p old : Nat) (s : State) : State :=
  if p = P.smgHostSeat then
    if s.reg p = old then s else { s with cue := { s.cue with seqMain := none, repliesMain := [] } }
  else if p = P.smgHouseId then (if s.reg p = 0 then shareLapse s else s)
  else if p = P.ckPllaMhz then retunePllA s
  else if p = P.boxCivilOffset ∨ p = P.boxWeekMap ∨ p = P.boxSpecial then calendarEvaluate false s
  else if (List.range 4).any fun k => p == P.boxSeason k || ((List.range 4).any fun d => p == P.boxDay k d) then
    calendarEvaluate false s
  else if p = P.boxMdSet ∨ p = P.boxMdMin ∨ p = P.boxMdSubs then (if s.reg p = old then s else demandAnew s)
  else if p = P.tirSafeW then (if s.reg P.tirShareSrc = 0 then setShare (s.reg p) 0 s else s)
  else if p = P.tirSeatCfg then actSeatCfg (s.reg p) s
  else if p = P.tirTestMode then actTirTest (s.reg p) s
  else if p = P.slPtpMode then ptpStart s
  else if p = P.rdrTestMode then actRdrTest old s
  else s

/-- The objects of the axis, the tag, the serial ports and the display. -/
def writtenPorts (p : Nat) (s : State) : State :=
  if p = P.tagAuthModes then tagSecurityDrop s
  else if p = P.sdrBaud ∨ p = P.sdrFormat then doorWritten s
  else if p = P.uartMode 1 ∨ p = P.uartFlow 1 then flowWritten 1 s
  else if p = P.uartMode 2 ∨ p = P.uartFlow 2 then flowWritten 2 s
  else if p = P.dspImage then newTarget s
  else if (List.range 4).any fun k => p == P.dspField k then newTarget s
  else
    match (List.range 4).find? fun k => p == P.slLaneSpeed k with
    | some k => actLaneSpeed k (s.reg p) s
    | none =>
      match (List.range 16).find? fun k => p == P.flyCueCtrl k with
      | some k => { s with fly := { s.fly with disarmed := s.fly.disarmed.filter fun x => !(x == k) } }
      | none => s

/-- The register written, and what follows. -/
def writeReg (p n : Nat) (s : State) : State := writtenPorts p (writtenHouse p (s.reg p) (s.setReg p n))

/-- A write performed: result and state. -/
def actWrite (c : WriteCtx) (p : Nat) (v : Bytes) (s : State) : Nat × State :=
  match actCommand c p v s with
  | some r => r
  | none =>
    match actWings c p v s with
    | some r => r
    | none =>
      match actIndexed c p v s with
      | some r => r
      | none => (resOk, writeReg p (ofBytes v) s)

end Sys2Proof.Machine
end

