-- ==== Sys2Proof/Machine/Fabric.lean ====
section
/-!
DEFINITION. The fabric (spec/02_dies_islands_fabric.md R42 to R54, R59, R531): what a target does with an access to memory, to
a register window, to the Callboard or to the display slot buffer, and how requests, responses and events travel.
-/

namespace Sys2Proof.Machine

open Sys2Proof

/-! ### Lanes of a flit -/

/-- The bytes of a flit that BYTE_EN selects. -/
def lanesOf (byteEn : Nat) : List Nat := (List.range 16).filter fun i => bitOf byteEn i

/-- Byte enables for the `w` bytes at an address. -/
def enables (addr w : Nat) : Nat := (2 ^ w - 1) * 2 ^ (addr % 16) % 2 ^ 16

/-- The object registers of a window that the selected lanes of the flit at `off` touch: offset, size, PID. -/
def touched (island off : Nat) (lanes : List Nat) : List (Nat × Nat × Nat) :=
  (registersAt island off 16).filter fun r => lanes.any fun i => decide (r.1 ≤ off + i ∧ off + i < r.1 + r.2.1)

/-- Whether the initiator is a proxy engine, stamped for a master's request (R45). -/
def proxied (init : Nat) : Bool := init == 0x18 || init == 0x19

/-! ### The Callboard's registers (R119) -/

/-- The registers of a channel: 0 NOTICE, 1 PEEK, 2 STATUS, 3 ACK, 4 WITHDRAW, 5 CONFIG, with offset and size. -/
def cbdRegs : List (Nat × Nat × Nat) := [(0, 0x00, 16), (1, 0x10, 16), (2, 0x20, 8), (3, 0x28, 2), (4, 0x2C, 2), (5, 0x30, 8)]

/-- The lanes of a register among the selected bytes of a channel. -/
def partOf (r : Nat × Nat × Nat) (offs : List Nat) : List Nat := offs.filter fun o => decide (r.2.1 ≤ o ∧ o < r.2.1 + r.2.2)

/-- Whether selected bytes are the whole register or an aligned part of it of 4 or 8 bytes. -/
def wholeOrPart (r : Nat × Nat × Nat) (offs : List Nat) : Bool :=
  let lo := offs.headD 0
  let n := offs.length
  (offs == (List.range n).map fun i => lo + i)
    && (n == r.2.2 || ((n == 4 || n == 8) && lo % n == 0))

/-- What a read of part of a channel's register gives: status, the register's value, and the state at acceptance. -/
def cbdReadPart (ch init level : Nat) (r : Nat × Nat × Nat) (offs : List Nat) (s : State) : Nat × Nat × State :=
  let c := s.chan ch
  if r.1 = 0 then (if offs.length = 16 then readNotice ch init s else (stDenied, 0, s))
  else if r.1 = 3 ∨ r.1 = 4 ∨ wholeOrPart r offs = false then (stDenied, 0, s)
  else if r.1 = 1 then (if proxied init ∧ level < peekLevel ch then (stDenied, 0, s) else (stOk, c.notice, s))
  else if r.1 = 2 then (stOk, c.status, s)
  else (stOk, c.config, s)

/-- Whether every selected byte belongs to one of the registers hit: an access that reaches beyond them has another width (R119). -/
def exactly (hit : List (Nat × Nat × Nat)) (offs : List Nat) : Bool :=
  offs.all fun o => hit.any fun r => decide (r.2.1 ≤ o ∧ o < r.2.1 + r.2.2)

/-- A read of the Callboard's registers: `offs` are the selected bytes within channel `ch`. The answer places each byte. -/
def cbdRead (ch init level : Nat) (offs : List Nat) (s : State) : Nat × List (Nat × Nat) × State :=
  if s.cbdOn = false then (stAborted, [], s)
  else
    let hit := cbdRegs.filter fun r => !(partOf r offs == [])
    if hit = [] then (stDecode, [], s)
    else if exactly hit offs = false then (stDenied, [], s)
    else
      let parts := hit.map fun r => (r, cbdReadPart ch init level r (partOf r offs) s)
      match parts.find? fun x => !(x.2.1 == stOk) with
      | some x => (x.2.1, [], s)
      | none =>
        (stOk, parts.flatMap fun x => (partOf x.1 offs).map fun o => (o, x.2.2.1 / 256 ^ (o - x.1.2.1) % 256),
          match parts with
          | [x] => x.2.2.2
          | _ => s)

/-- A write to the Callboard's registers other than NOTICE: its selected bytes are exactly those of one register (R119). -/
def cbdWrite (ch init : Nat) (offs : List Nat) (byteOf : Nat → Nat) (s : State) : Nat × State :=
  let val (r : Nat × Nat × Nat) : Nat := ofBytes ((List.range r.2.2).map fun i => byteOf (r.2.1 + i))
  match cbdRegs.filter fun r => !(partOf r offs == []) with
  | [] => (if s.cbdOn then stDecode else stAborted, s)
  | [r] =>
    if s.cbdOn = false then (stAborted, s)
    else if ¬ (offs.length = r.2.2) ∨ exactly [r] offs = false then (stDenied, s)
    else if r.1 = 3 then ackNotice ch init (val r) s
    else if r.1 = 4 then withdrawNotice ch init (val r) s
    else if r.1 = 5 then writeConfig ch init (val r) s
    else (stDenied, s)
  | _ => (if s.cbdOn then stDenied else stAborted, s)

/-- The side effect of a delivered read of the flit at a Callboard offset (R53, R128). -/
def cbdDelivered (off init : Nat) (s : State) : State :=
  let ch := off / 0x40
  if off % 0x40 = 0 then deliverNotice ch true s
  else if off % 0x40 = 0x20 then (readStatus ch init s).2.2
  else s

/-! ### Register windows (R50, R531) -/

/-- Whether an object belongs to a safety block (R185). -/
def inBlock (p : Nat) : Bool := blockGroups.contains (p / 256 * 256) || p / 256 * 256 == 0x30F000

/-- The bits of a register that are not reserved. -/
def storedBits (o : Obj) (p : Nat) : Nat :=
  match o.lim with
  | .mask m => m
  | .cross =>
    if p = P.pbkBankCmd then 0x77FF
    else if p = P.tlyCalCmd then 0xFFFF
    else if p = P.boxTamperBlock then 0x07FF
    else if (List.range 4).any fun k => p == P.boxSeason k then 0xFF80FFFF
    else if p = P.boxSpecial then ((List.range 64).map fun i => 0xFFFFFF83 * 2 ^ (32 * i)).foldl (· + ·) 0
    else if p = P.slVlanTable then ((List.range 64).map fun i => 0xFF1F0FFF * 2 ^ (64 * i)).foldl (· + ·) 0
    else if (List.range 16).any fun k => p == P.flyCueCtrl k then 0xEF
    else if p = P.sdrFormat ∨ p = P.uartFormat 1 ∨ p = P.uartFormat 2 then 0x3F
    else 2 ^ (8 * o.ty.size) - 1
  | _ => 2 ^ (8 * o.ty.size) - 1

/-- Whether a register refuses an access: by its mark, by the level of a proxied request, or as part of a safety block. -/
def regDenied (init level p : Nat) (write : Bool) : Bool :=
  match findObj p with
  | none => true
  | some o =>
    (if write then o.mark == .ro || inBlock p else o.mark == .wo) || (proxied init && decide (level < levelOf p))

/-- A read of the flit at an offset of a window: status, and each selected byte by its lane. A part without power aborts it
(R39). Where only some of the selected bytes belong to a register, the others read 0 and the answer is OK (DESIGN CHOICE,
notes/assumptions/81.md). -/
def windowRead (island off init level : Nat) (lanes : List Nat) (s : State) : Nat × List (Nat × Nat) :=
  let rs := touched island off lanes
  if rs = [] then (stDecode, [])
  else if rs.any fun r => !s.partOn r.2.2 then (stAborted, [])
  else if rs.any fun r => regDenied init level r.2.2 false then (stDenied, [])
  else
    (stOk, rs.flatMap fun r =>
      let v := objVal s r.2.2
      (lanes.filter fun i => decide (r.1 ≤ off + i ∧ off + i < r.1 + r.2.1)).map fun i =>
        (i, v / 256 ^ (off + i - r.1) % 256))

/-- Who writes through the fabric: the master of a proxied request, or the unit itself. -/
def fabWriter (init level : Nat) : Writer :=
  if init = 0x18 then ⟨0xFFFE, .side, level, .stageDoor⟩
  else if init = 0x19 then ⟨0xFFFE, .main, level, .stageLink⟩
  else ⟨0xFFFE, .none, 4, .stageDoor⟩

/-- The fabric status of a write-only command's result: a value outside its limits is taken, without effect (notes/assumptions/14.md). -/
def rawStatus (res : Nat) : Nat :=
  if res = resBusy ∨ res = resType then stRefused
  else if res = resAccess then stDenied
  else if res = resAborted then stAborted
  else stOk

/-- What a raw write of a value leaves (R531): a register that can be read holds the value as written, whatever the block's own rule
would answer a request of the dictionary; a write-only command acts or does not. -/
def rawStored (o : Obj) (p v : Nat) (a : Nat × State) : Nat × State :=
  if o.mark = .wo ∨ a.1 = resOk ∨ a.1 = resAborted then (rawStatus a.1, a.2) else (stOk, a.2.setReg p v)

/-- One register written with the selected bytes: the rest of it keeps its value, reserved bits and all but bit 0 of a BOOL
store 0. -/
def regWrite (off : Nat) (lanes : List Nat) (byteOf : Nat → Nat) (w : Writer) (r : Nat × Nat × Nat) (s : State) : Nat × State :=
  match findObj r.2.2 with
  | none => (stDecode, s)
  | some o =>
    let old := if o.mark = .wo then 0 else objVal s r.2.2
    let new := ofBytes ((List.range r.2.1).map fun i =>
      if decide (off ≤ r.1 + i) && lanes.contains (r.1 + i - off) then byteOf (r.1 + i - off) else old / 256 ^ i % 256)
    let v := if o.ty = .bool then new % 2 else new &&& storedBits o r.2.2
    rawStored o r.2.2 v (actWrite ⟨w, 0, 0, false⟩ r.2.2 (toBytes r.2.1 v) s)

/-- Registers written in order while each accepts. -/
def regWrites (off : Nat) (lanes : List Nat) (byteOf : Nat → Nat) (w : Writer) : List (Nat × Nat × Nat) → State → Nat × State
  | [], s => (stOk, s)
  | r :: t, s =>
    let a := regWrite off lanes byteOf w r s
    if a.1 = stOk then regWrites off lanes byteOf w t a.2 else a

/-- A write of the flit at an offset of a window. Selected bytes that belong to no register are ignored where others do
(DESIGN CHOICE, notes/assumptions/81.md). -/
def windowWrite (island off init level : Nat) (lanes : List Nat) (byteOf : Nat → Nat) (s : State) : Nat × State :=
  let rs := touched island off lanes
  if rs = [] then (stDecode, s)
  else if rs.any fun r => !s.partOn r.2.2 then (stAborted, s)
  else if rs.any fun r => regDenied init level r.2.2 true then (stDenied, s)
  else regWrites off lanes byteOf (fabWriter init level) rs s

/-! ### Targets -/

/-- Bytes by lane as a flit. -/
def flitOf (l : List (Nat × Nat)) : Nat := (l.map fun e => e.2 * 256 ^ e.1).foldl (· + ·) 0

/-- The Callboard's registers in the window of I07. -/
def inCallboard (island off : Nat) : Bool := island == 7 && decide (0x1000 ≤ off ∧ off < 0x1800)

/-- The display slot buffer. -/
def inSlots (off : Nat) : Bool := decide (0x10000 ≤ off ∧ off < 0x10040)

/-- One flit read at its target (R50, R51): status, flit, and the state at acceptance. -/
def readFlit (init level addr byteEn : Nat) (s : State) : Nat × Nat × State :=
  let a := addr / 16 * 16
  let g := regionOf a
  if mayRead s init g = false then (stDenied, 0, s)
  else if partPowered s g = false then (stAborted, 0, s)
  else
    match g with
    | .rom => let f := s.drawBits 128; (stOk, f.1, f.2)
    | .sram _ => (stOk, s.word a, s)
    | .mram _ _ => mramReadFabric a (s.wrongAt a) none s
    | .window n off =>
      if inCallboard n off then
        let base := off % 0x40
        let r := cbdRead ((off - 0x1000) / 0x40) init level ((lanesOf byteEn).map fun i => base + i) s
        (r.1, flitOf (r.2.1.map fun e => (e.1 - base, e.2)), r.2.2)
      else
        let r := windowRead n off init level (lanesOf byteEn) s
        (r.1, flitOf r.2, s)
    | .iron off =>
      if inSlots off then (stOk, s.word a, s)
      else if 0x10000 ≤ off then (stDecode, 0, s)
      else
        let r := windowRead 24 off init level (lanesOf byteEn) s
        (r.1, flitOf r.2, s)
    | _ => (stDecode, 0, s)

/-- One flit written at its target. -/
def writeFlit (init level addr byteEn beats data : Nat) (s : State) : Nat × State :=
  let a := addr / 16 * 16
  let g := regionOf a
  let byteOf (i : Nat) : Nat := data / 256 ^ i % 256
  if mayWrite init g = false then (stDenied, s)
  else if partPowered s g = false then (stAborted, s)
  else
    match g with
    | .sram _ => (stOk, s.setWord a (mergeBytes (s.word a) data byteEn))
    | .mram _ _ =>
      if byteEn = 0xFFFF then (stOk, mramStore a data s) else mramMerge a byteEn data (s.wrongAt a) s
    | .window n off =>
      if inCallboard n off then
        let base := off % 0x40
        let ch := (off - 0x1000) / 0x40
        if base = 0 then postNotice ch init data beats byteEn s
        else cbdWrite ch init ((lanesOf byteEn).map fun i => base + i) (fun o => byteOf (o - base)) s
      else windowWrite n off init level (lanesOf byteEn) byteOf s
    | .iron off =>
      if inSlots off then (stOk, s.setWord a (mergeBytes (s.word a) data byteEn))
      else if 0x10000 ≤ off then (stDecode, s)
      else windowWrite 24 off init level (lanesOf byteEn) byteOf s
    | _ => (stDecode, s)

/-- Flits read one after the other: the first status that is not OK ends the read. -/
def readFlits (init level byteEn : Nat) : Nat → Nat → State → Nat × List Nat × State
  | _, 0, s => (stOk, [], s)
  | a, k + 1, s =>
    let r := readFlit init level a byteEn s
    if r.1 = stOk then
      let t := readFlits init level byteEn (a + 16) k r.2.2
      (t.1, r.2.1 :: t.2.1, t.2.2)
    else (r.1, [], r.2.2)

/-- Flits written one after the other. -/
def writeFlits (init level byteEn beats : Nat) : Nat → List Nat → State → Nat × State
  | _, [], s => (stOk, s)
  | a, d :: t, s =>
    let r := writeFlit init level a byteEn beats d s
    if r.1 = stOk then writeFlits init level byteEn beats (a + 16) t r.2 else r

/-- Whether a request is formed as R42 lays it out. -/
def formed (addr beats byteEn : Nat) : Bool :=
  decide (1 ≤ beats ∧ beats ≤ 16) && (beats == 1 || (byteEn == 0xFFFF && addr % 16 == 0))

/-- The level that a proxied access outside a Cue request has at least (R190). -/
def leastLevel (write : Bool) : Nat := if write then 4 else 2

/-- What a target answers to a whole write. A write to NOTICE is judged by R123 whatever its form. -/
def answerWrite (level : Nat) (q : FabReq) (s : State) : Nat × State :=
  match noticeChannel q.addr with
  | some n => postNotice n q.init (q.data.headD 0) q.beats q.byteEn s
  | none =>
    if formed q.addr q.beats q.byteEn = false then (stRefused, s)
    else writeFlits q.init level q.byteEn q.beats q.addr q.data s

/-- What a target answers to a whole read. One that is not answered OK leaves the Callboard as it was (R53). -/
def answerRead (level : Nat) (q : FabReq) (s : State) : Nat × List Nat × State :=
  if formed q.addr q.beats q.byteEn = false then (stRefused, [], s)
  else
    let r := readFlits q.init level q.byteEn q.addr q.beats s
    if r.1 = stOk then r else (r.1, r.2.1, { r.2.2 with cbd := s.cbd })

/-- What a target answers to a whole request. -/
def serve (level : Nat) (q : FabReq) (s : State) : Nat × List Nat × State :=
  if regionOf q.addr = .nowhere then (stDecode, [], s)
  else if q.write then
    let r := answerWrite level q s
    (r.1, [], r.2)
  else answerRead level q s

/-- The side effects of a delivered read, flit by flit (R53). -/
def delivered (q : FabReq) (s : State) : State :=
  if q.write then s
  else q.flits.foldl (fun s a =>
    match regionOf a with
    | .window n off => if inCallboard n off then cbdDelivered (off - 0x1000) q.init s else s
    | _ => s) s

/-! ### Requests (R46 to R48, R52) -/

/-- Whether a request reaches its target's port: the hub and the target are present. -/
def reaches (s : State) (route : Nat) : Bool := s.present 7 && s.present route

/-- Whether nothing acknowledges a request (R41): the clock of the target's island, or of the hub on the way to it, has stopped, or
I14 has not recovered the prompt book yet (R163). -/
def stuck (s : State) (route : Nat) : Bool := s.clockStopped 7 || s.clockStopped route || (route == 14 && !s.jnl.ready)

/-- A request listed. -/
def listReq (q : FabReq) (s : State) : State := { s with fab := { s.fab with reqs := s.fab.reqs ++ [q] } }

/-- Whether a request of the list is the one named. -/
def FabReq.named (q : FabReq) (init tag : Nat) : Bool := q.init == init && q.tag == tag

/-- The level at which the hub serves a waiting request: its PRIO, one level higher once it has waited 64 hub cycles, which are
128 ns (R44, notes/assumptions/82.md). -/
def FabReq.rank (q : FabReq) (mono : Nat) : Nat :=
  if 128 * 0x1000000 ≤ (mono - q.since) * 1000000000 then min 3 (q.prio + 1) else q.prio

/-- The requests that wait at an output port, the oldest of each initiator (R52). -/
def waitingAt (s : State) (route : Nat) : List FabReq :=
  let w := s.fab.reqs.filter fun q => q.route == route && !q.passed
  w.filter fun q => (w.find? fun x => x.init == q.init) == some q

/-- How far an initiator stands behind the one that a port served last, in the circle of the initiators of R45. -/
def turnsAfter (last init : Nat) : Nat :=
  let n := initiators.length
  (initiators.idxOf init + n - 1 - initiators.idxOf last) % n

/-- Whether a waiting request is served before another: by level, and round-robin among equals (R44). -/
def servedBefore (mono last : Nat) (a b : FabReq) : Bool :=
  decide (b.rank mono < a.rank mono) || (a.rank mono == b.rank mono && decide (turnsAfter last a.init < turnsAfter last b.init))

/-- The request that the hub serves next at an output port. -/
def nextAt (s : State) (route : Nat) : Option FabReq :=
  let last := ((s.fab.last.find? fun e => e.1 == route).map (·.2)).getD 0x1F
  match waitingAt s route with
  | [] => none
  | q :: t => some (t.foldl (fun best x => if servedBefore s.mono last x best then x else best) q)

/-- The first element of a list that meets a test, replaced. -/
def replaceFirst {α : Type} (p : α → Bool) (x : α) : List α → List α
  | [] => []
  | a :: t => if p a then x :: t else a :: replaceFirst p x t

/-- A listed request passed into its port, taken by its target, and answered. -/
def takeReq (q : FabReq) (s : State) : State :=
  let s := { s with fab := { s.fab with last := (q.route, q.init) :: s.fab.last.filter fun e => !(e.1 == q.route) } }
  let r := serve (leastLevel q.write) q s
  let done : FabReq := { q with passed := true, resp := some (r.1, r.2.1) };
  { r.2.2 with fab := { r.2.2.fab with
      reqs := replaceFirst (fun x => x.named q.init q.tag && !x.passed) done r.2.2.fab.reqs } }

/-- The waiting requests of a port served one after the other while the target acknowledges; `fuel` bounds their number. -/
def servePort (route : Nat) : Nat → State → State
  | 0, s => s
  | fuel + 1, s =>
    if stuck s route then s
    else
      match nextAt s route with
      | none => s
      | some q => servePort route fuel (takeReq q s)

/-- Every waiting request of a port served. -/
def drainPort (route : Nat) (s : State) : State := servePort route s.fab.reqs.length s

/-- A request offered (R46): aborted at once, or listed and served in its turn; it waits for the acknowledgement of a stopped
island. -/
def offer (q : FabReq) (s : State) : State :=
  if initiators.contains q.init = false ∨ s.present (initIsland q.init) = false then s
  else if reaches s q.route = false then abortReq q s
  else drainPort q.route (listReq q s)

/-- The oldest listed request of an initiator with a tag. -/
def State.request (s : State) (init tag : Nat) : Option FabReq := s.fab.reqs.find? fun q => q.named init tag

/-- A request no longer listed. -/
def dropReq (init tag : Nat) (s : State) : State :=
  { s with fab := { s.fab with reqs := s.fab.reqs.eraseP fun q => q.named init tag } }

/-- Whether an older request of the same initiator to the same island is still open (R52). -/
def olderOpen (s : State) (q : FabReq) : Bool :=
  ((s.fab.reqs.takeWhile fun x => !(x.named q.init q.tag)).any fun x => x.init == q.init && x.route == q.route)

/-- A response that reaches its initiator's bridge: its errors are counted, and a delivered read has its side effect. -/
def returnReq (q : FabReq) (status : Nat) (data : List Nat) (s : State) : State :=
  let s := if status = stOk then s else fabFault q.init q.route status q.addr s
  let there := s.present (initIsland q.init)
  let s := fabDeliver q.init q.tag status data s
  if status = stOk then (if there then delivered q s else undelivered q s) else s

/-- A response that the target gave returned to its initiator, in issue order (R52); a forced switch of I00 that waited for it
follows (R80). -/
def returnListed (init tag : Nat) (s : State) : State :=
  match s.request init tag with
  | none => s
  | some q =>
    match q.resp with
    | some (st, d) => if olderOpen s q then s else forcedStart (returnReq q st d (dropReq init tag s))
    | none => s

/-- FABRIC_RESPONSE_RETURN for a request: what waits at its port is served first, if the island's clock runs again. -/
def responseReturn (init tag : Nat) (s : State) : State :=
  match s.request init tag with
  | none => s
  | some q => returnListed init tag (drainPort q.route s)

/-- The request-phase watchdog: a request that was not taken is withdrawn (R46, R47). -/
def requestExpires (init tag : Nat) (s : State) : State :=
  match s.request init tag with
  | none => s
  | some q => if q.passed then s else abortReq q (dropReq init tag s)

/-- The response watchdog: a passed request is aborted, and what it answers later is discarded (R48). -/
def responseExpires (init tag : Nat) (s : State) : State :=
  match s.request init tag with
  | none => s
  | some q => if q.passed then forcedStart (abortReq q (dropReq init tag s)) else s

/-! ### Area E (R190, R191) -/

/-- The address of an offset of a raw window: 0x000 to 0x017 an island's, 0x018 the Iron's. -/
def rawAddr (window off : Nat) : Nat := if window = 0x18 then 0x20000000 + off else 0x10000000 + 0x10000 * window + off

/-- One transfer of the proxy engine: status, the bytes read and the next state. An island whose clock has stopped aborts it
by the watchdog. -/
def proxyAccess (init level addr w : Nat) (value : Option Nat) (s : State) : Nat × Bytes × State :=
  let route := (regionOf addr).island
  let fail (st : Nat) (s : State) : Nat × Bytes × State := (st, [], fabFault init route st addr s)
  if reaches s route = false ∨ stuck s route then fail stAborted s
  else
    let s := drainPort route s
    let en := enables addr w
    match value with
    | some v =>
      let r := writeFlit init level addr en 1 (v * 256 ^ (addr % 16)) s
      if r.1 = stOk then (stOk, [], r.2) else fail r.1 r.2
    | none =>
      let r := readFlit init level addr en s
      if r.1 = stOk then
        let q : FabReq := { init := init, tag := 0, prio := stampedPrio init, since := s.mono, addr := addr, beats := 1,
                            byteEn := en, write := false, data := [], route := route, passed := true, resp := none }
        (stOk, toBytes w (r.2.1 / 256 ^ (addr % 16)), delivered q r.2.2)
      else fail r.1 r.2.2

/-- The Cue result of a fabric status (R59). -/
def cueOf (status : Nat) : Nat :=
  if status = stOk then resOk
  else if status = stAborted then resAborted
  else if status = stDenied then resAccess
  else if status = stDecode then resNoObject
  else resBusy

/-! ### The commands -/

/-- FABRIC_READ_REQUEST: `fetch` marks an instruction fetch (R153). -/
def execFabricReadRequest (init addr tag beats byteEn : Nat) (fetch : Bool) (s : State) : Host.Outcome State Fault Refusal :=
  .next (offer
    { init := init, tag := tag, prio := stampedPrio init, since := s.mono, addr := addr, beats := beats, byteEn := byteEn
      write := false, data := [], route := (regionOf addr).island, passed := false, resp := none }
    (if fetch ∧ s.present (initIsland init) then noteFetch init addr s else s))

/-- FABRIC_WRITE_REQUEST. -/
def execFabricWriteRequest (init addr tag byteEn : Nat) (data : List Nat) (s : State) : Host.Outcome State Fault Refusal :=
  .next (offer
    { init := init, tag := tag, prio := stampedPrio init, since := s.mono, addr := addr, beats := data.length
      byteEn := byteEn, write := true, data := data, route := (regionOf addr).island, passed := false, resp := none } s)

/-- REQUEST_WATCHDOG_EXPIRY. -/
def execRequestWatchdogExpiry (init tag : Nat) (s : State) : Host.Outcome State Fault Refusal :=
  .next (requestExpires init tag s)

/-- RESPONSE_WATCHDOG_EXPIRY. -/
def execResponseWatchdogExpiry (init tag : Nat) (s : State) : Host.Outcome State Fault Refusal :=
  .next (responseExpires init tag s)

/-- PORT_PRESENT_FALL. -/
def execPortPresentFall (island : Nat) (s : State) : Host.Outcome State Fault Refusal := .next (abortPort island s)

/-- FABRIC_RESPONSE_RETURN. -/
def execFabricResponseReturn (init tag : Nat) (s : State) : Host.Outcome State Fault Refusal :=
  .next (responseReturn init tag s)

/-- FABRIC_EVENT_PACKET. -/
def execFabricEventPacket (island event : Nat) (s : State) : Host.Outcome State Fault Refusal :=
  .next (s.offerEvent island event)

end Sys2Proof.Machine
end

