-- ==== Sys2Proof/Machine/Cue.lean ====
section
/-!
DEFINITION. The Cue server (spec/07_object_dictionary.md R167 to R194) and the batons (spec/01_house_and_post.md R21 to R36): the
order of checks of R178, and what each opcode does once it has passed them.
-/

namespace Sys2Proof.Machine

open Sys2Proof

/-! ### Opcodes and requests (R175, R176) -/

abbrev opRead : Nat := 1
abbrev opWrite : Nat := 2
abbrev opConfirm : Nat := 3
abbrev opNotify : Nat := 4
abbrev opBulkRead : Nat := 5
abbrev opBulkWrite : Nat := 6
abbrev opSeize : Nat := 7
abbrev opRelease : Nat := 8

/-- A request that passed step 3 of R178: its opcode and frame, whether its master had eight requests in progress, whether a read
of the active image returns DATA while it runs (R488), its master, and what its reply is keyed with (level, key, identity,
epoch). -/
structure Serving where
  op : Nat
  req : Req
  late : Bool
  dataBad : Bool
  master : Master
  level : Nat
  key : Nat
  ident : Bytes
  epoch : Nat
deriving DecidableEq, Repr

/-- A reply's result code and the rest of its payload. -/
abbrev Reply := Nat × Bytes

/-- The area that a PID names. -/
def areaOf (p : Nat) : Nat := p / 0x100000 % 16

/-- The key a frame names. -/
def reqKey (r : Req) : Nat := r.flags % 8

/-- Whether a request is a broadcast. -/
def isBroadcast (r : Req) : Bool := r.dst == 0xFFFF

/-- Where a request's writes come from. -/
def Serving.ctx (v : Serving) : WriteCtx :=
  { writer := ⟨v.req.src, v.master, v.level, v.req.via⟩, ip := v.req.ip, key := v.key, dataBad := v.dataBad }

/-! ### Replies -/

/-- The reply to a request (R173, R176). -/
def replyFrame (s : State) (op : Nat) (r : Req) (level key : Nat) (ident : Bytes) (epoch : Nat) (b : Reply) : CueFrame :=
  mkFrame key ident epoch (0x80 + level) r.seq s.seat r.src op r.pid (b.1 :: b.2)

/-- The reply to a request that passed step 3. -/
def Serving.reply (v : Serving) (s : State) (b : Reply) : CueFrame :=
  replyFrame s v.op v.req v.level v.key v.ident v.epoch b

/-- A reply sent; a forced reset of I00 that waited for it follows (R80). -/
def sendReply (r : Req) (f : CueFrame) (s : State) : State := forcedStart (sendCue r.via r.ip r.port f s)

/-! ### Steps 1 to 3 of R178 -/

/-- Step 1: the format. -/
def frameOk (op : Nat) (r : Req) : Bool :=
  r.version == 1 && decide (r.flags % 256 < 64) && decide ((reqKey r) ≤ 4) && decide (1 ≤ op ∧ op ≤ 8) && r.len == r.payload.length
    && decide (r.len ≤ 1400)

/-- A seat that a request may come from: a seat, or 0xFFFE for a sender without one (R8). Broadcast as a source is no seat of a sender
either, and is discarded like 0x1000 to 0xFFFD (DESIGN CHOICE, notes/assumptions/96.md). -/
def seatField (n : Nat) : Bool := decide (n < 0x1000) || n == 0xFFFE

/-- Step 2: the address (R177). -/
def addressed (op : Nat) (r : Req) (s : State) : Bool :=
  if seatField r.src = false then false
  else if isBroadcast r then (op == opRead || op == opBulkRead) && (reqKey r) == 0
  else if r.dst = 0xFFFE then r.via == .stageDoor
  else r.dst == s.seat

/-- The epoch before the current one (R172). -/
def State.prevEpoch (s : State) : Nat := if s.epoch = 1 then 0xFFFFFFFF else s.epoch - 1

/-- The identity that a request's CMAC covers (R173). -/
def identOf (r : Req) (s : State) : Bytes := if isBroadcast r then broadcastIdent else s.postId

/-- Whether a request's CMAC verifies under an epoch. -/
def verifies (op : Nat) (r : Req) (s : State) (epoch : Nat) : Bool :=
  cueMac (s.key (reqKey r)) (identOf r s) epoch (frameBytes r.version r.flags r.seq r.src r.dst op r.pid r.len r.payload) == r.cmac

/-- Whether a request is one for SMG_CUE_EPOCH, so that epoch 0 may key it (R174). -/
def asksEpoch (op : Nat) (r : Req) : Bool := op == opRead && r.pid == P.smgCueEpoch

/-- The outcomes of step 3. -/
inductive MacVerdict where
  | passed (epoch : Nat)
  | stale
  | auth
deriving DecidableEq, Repr

/-- Step 3: the CMAC (R173, R174, R178). -/
def verdict (op : Nat) (r : Req) (s : State) : MacVerdict :=
  if (isBroadcast r || asksEpoch op r) && verifies op r s 0 then .passed 0
  else if !isBroadcast r && verifies op r s s.epoch then .passed s.epoch
  else if verifies op r s s.prevEpoch || (!isBroadcast r && verifies op r s 0) then .stale
  else .auth

/-- The AUTH replies of a transport within the last second. -/
def authRecent (via : Via) (s : State) : List (Via × Nat) :=
  s.cue.authSent.filter fun e => e.1 == via && decide (s.mono < e.2 + second)

/-- AUTH: counted, and answered at most ten times a second on a transport. -/
def authFails (op : Nat) (r : Req) (s : State) : State :=
  let s := s.count P.smgCueAuthFails 1
  if (authRecent r.via s).length < 10 then
    let old := s.cue.authSent.filter fun e => decide (s.mono < e.2 + second)
    sendReply r (replyFrame s op r 0 (s.key 0) (identOf r s) 0 (resAuth, []))
      { s with cue := { s.cue with authSent := (r.via, s.mono) :: old } }
  else s

/-- STALE, with the epoch in force. -/
def staleReply (op : Nat) (r : Req) (s : State) : State :=
  sendReply r (replyFrame s op r (reqKey r) (s.key (reqKey r)) (identOf r s) s.epoch (resStale, toBytes 4 s.epoch)) s

/-- A frame that passed step 3: counted, its master's silence broken, and the way to the main host kept (R30, R189). -/
def noteVerified (r : Req) (s : State) : State :=
  let s := s.count P.smgCueRequests 1
  match masterOf s r with
  | .none => s
  | .side =>
    let s := s.setReg P.smgLastSide s.now;
    { s with cue := { s.cue with lastSide := s.mono } }
  | .main =>
    let s := s.setReg P.smgLastMain s.now;
    { s with cue := { s.cue with lastMain := s.mono, route := some ⟨r.via, r.src, r.ip⟩ } }

/-! ### Step 4: batons (R28 to R33, R36) -/

/-- A master's code in SMG_BATON_HOLDER. -/
def Master.holds : Master → Nat
  | .none => 0
  | .main => 1
  | .side => 2

/-- No block pending (R187). -/
def discardPend (s : State) : State :=
  ({ s with cue := { s.cue with pend := none } }.clearReg P.smgCuePendingPid).clearReg P.smgCuePendingCrc

/-- A baton whose holder changes: the register, the record, the notification, and what the old holder had begun. -/
def changeBaton (v : Serving) (cause area : Nat) (holder : Nat) (s : State) : State :=
  if s.holder area = holder then s
  else
    let w := setBits (s.reg P.smgBatonHolder) (2 * area + 1) (2 * area) holder
    let s := s.setReg P.smgBatonHolder w
    let s := if cause = 1 then countJournalled P.smgBatonSeizes s else s
    let s := record 0x30
      [v.req.src % 2 ^ 16 + v.level * 2 ^ 16 + v.master.code * 2 ^ 19 + cause * 2 ^ 24 + area * 2 ^ 28 + w * 2 ^ 32] s
    let s := notifyMain P.smgBatonHolder s
    let s :=
      match s.cue.pend with
      | some b => if areaOf b.group = area then discardPend s else s
      | none => s
    if area = 0xD then wingsAbandon s else s

/-- Entries of a BULK_WRITE as far as they can be read, and whether they fill the payload; `fuel` bounds their number. -/
def parseWrites : Nat → Bytes → List (Nat × Bytes) × Bool
  | 0, l => ([], l == [])
  | k + 1, l =>
    let n := ofBytes (slice l 3 2)
    if l = [] then ([], true)
    else if l.length < 5 ∨ l.length < 5 + n then ([], false)
    else
      let t := parseWrites k (l.drop (5 + n))
      ((ofBytes (l.take 3), slice l 5 n) :: t.1, t.2)

/-- The areas whose batons a request needs. -/
def batonAreas (v : Serving) : List Nat :=
  if v.op = opBulkWrite then ((parseWrites 300 v.req.payload).1.map fun e => areaOf e.1).dedup else [areaOf v.req.pid]

/-- How long a holder has been silent (R30). -/
def silence (s : State) (holder : Nat) : Nat := s.mono - (if holder = 1 then s.cue.lastMain else s.cue.lastSide)

/-- Whether a SEIZE succeeds (R30). -/
def maySeize (v : Serving) (s : State) : Bool :=
  let h := s.holder (areaOf v.req.pid)
  h == 0 || h == v.master.holds || (v.master == .side && decide (2 ≤ v.level))
    || decide (s.reg P.smgBatonTimeout * second ≤ silence s h)

/-- Step 4: whether the request passes, and the state with the batons it took. -/
def batonStep (v : Serving) (s : State) : Bool × State :=
  if v.op = opRead ∨ v.op = opBulkRead ∨ v.op = opNotify then (true, s)
  else if v.master = .none then (false, s)
  else if v.op = opSeize then (maySeize v s, s)
  else if v.op = opRelease then (s.holder (areaOf v.req.pid) == v.master.holds, s)
  else
    let l := batonAreas v
    if l.all fun a => s.holder a == 0 || s.holder a == v.master.holds then
      (true, l.foldl (fun s a => changeBaton v 2 a v.master.holds s) s)
    else (false, s)

/-! ### Step 5: sequence (R179) -/

/-- The last accepted SEQ of a master. -/
def State.lastCueSeq (s : State) : Master → Option Nat
  | .main => s.cue.seqMain
  | .side => s.cue.seqSide
  | .none => none

/-- The stored replies of a master. -/
def State.stored (s : State) : Master → List Stored
  | .main => s.cue.repliesMain
  | .side => s.cue.repliesSide
  | .none => []

/-- The outcomes of step 5. -/
inductive SeqVerdict where
  | accepted
  | again (f : CueFrame)
  | refused (last : Nat)
deriving DecidableEq, Repr

/-- Step 5. -/
def seqVerdict (m : Master) (seq : Nat) (s : State) : SeqVerdict :=
  match (s.stored m).find? fun e => e.seq == seq with
  | some e => .again e.frame
  | none =>
    match s.lastCueSeq m with
    | none => .accepted
    | some last =>
      let d := (seq + 65536 - last % 65536) % 65536
      if 1 ≤ d ∧ d ≤ 32767 then .accepted else .refused last

/-- The last accepted SEQ set. -/
def setSeq (m : Master) (seq : Nat) (s : State) : State :=
  match m with
  | .main => { s with cue := { s.cue with seqMain := some seq } }
  | .side => { s with cue := { s.cue with seqSide := some seq } }
  | .none => s

/-- A reply kept among the last eight, unless its sequence state has returned to none. -/
def storeReply (m : Master) (seq : Nat) (f : CueFrame) (s : State) : State :=
  if (s.lastCueSeq m).isNone then s
  else
    let l := (⟨seq, f⟩ :: s.stored m).take 8
    match m with
    | .main => { s with cue := { s.cue with repliesMain := l } }
    | .side => { s with cue := { s.cue with repliesSide := l } }
    | .none => s

/-! ### Steps 6 to 10 for one object -/

/-- Steps 6 to 8: the object, its level and mark, its home. -/
def judgeObject (write : Bool) (level p : Nat) (s : State) : Nat :=
  match findObj p with
  | none => resNoObject
  | some o =>
    if objExists p = false then resNoObject
    else if level < levelOf p ∨ (write && inBlock p && decide (level < 3)) then resAccess
    else if (if write then o.mark == .ro else o.mark == .wo) then resAccess
    else if s.homePresent o.island = false then resIslandOff
    else resOk

/-- The value of an object in the pending block. -/
def pendValue (s : State) (p : Nat) : Option Nat :=
  match s.cue.pend with
  | none => none
  | some b => (b.values.find? fun e => e.1 == p).map (·.2)

/-- What each object would hold after a write: a safety block is judged with its pending values. -/
def valuation (p n : Nat) (s : State) (q : Nat) : Nat :=
  if q = p then n else if inBlock p then (pendValue s q).getD (objVal s q) else objVal s q

/-- Steps 6 to 10 of a write of one object. -/
def judgeWrite (level p : Nat) (val : Bytes) (s : State) : Nat :=
  let a := judgeObject true level p s
  if a ≠ resOk then a
  else
    match findObj p with
    | none => resNoObject
    | some o =>
      let e := encodingResult o p val
      if e ≠ resOk then e
      else if limitsOk o p (valuation p (ofBytes val) s) then resOk else resRange

/-! ### The fabric behind an object (R39, R41, R59) -/

/-- The port through which the Stage manager reaches an object's home; none for its own island, for I01, which the always-on logic
reaches, and for I14, beside it in tier K. The Iron-die window is behind I22. -/
def homePort (h : Nat) : Option Nat := if h ≤ 1 ∨ h = 14 then none else if h = 24 then some 22 else some h

/-- Whether the fabric access to an object of a present island aborts: its part has no power, nothing acknowledges it, or the hub is
away. -/
def accessAborts (s : State) (p : Nat) : Bool :=
  !s.partOn p || (homeOf p == 14 && !s.jnl.ready)
    || (match homePort (homeOf p) with
        | none => false
        | some h => !reaches s h || stuck s h)

/-- The island that an ABORTED access is counted for. -/
def homeRoute (p : Nat) : Nat := (homePort (homeOf p)).getD (homeOf p)

/-- The address of an object's register (R50). -/
def objAddr (p : Nat) : Nat :=
  match findObj p with
  | none => 0
  | some o =>
    let off := ((o.registers.find? fun r => r.2.2 == p).map (·.1)).getD 0
    if o.island = 24 then 0x20000000 + off else 0x10000000 + 0x10000 * o.island + off

/-- An access to an object that aborted: counted and recorded under the Stage manager's INIT (R48, R59). -/
def pidAborted (p : Nat) (s : State) : State := fabFault 0x0C (homeRoute p) stAborted (objAddr p) s

/-! ### Reads (R176, R189) -/

/-- One object read through every check: result and value. -/
def readObject (level p : Nat) (s : State) : Reply :=
  let a := judgeObject false level p s
  if a ≠ resOk then (a, [])
  else if accessAborts s p then (resAborted, [])
  else (resOk, objBytes s p)

/-- What a read takes away (R455). -/
def readTakes (p : Nat) (s : State) : State :=
  if p = P.uartRxData 1 then rxTaken 1 s else if p = P.uartRxData 2 then rxTaken 2 s else s

/-- What a read with a result leaves behind. -/
def afterRead (res p : Nat) (s : State) : State :=
  if res = resOk then readTakes p s else if res = resAborted then pidAborted p s else s

/-- READ of an object. -/
def serveRead (v : Serving) (s : State) : Reply × State :=
  let r := readObject v.level v.req.pid s
  if r.1 ≠ resOk ∧ r.1 ≠ resAborted then (r, s)
  else if v.req.payload ≠ [] then ((resType, []), s)
  else if 1400 < 1 + r.2.length then ((resRange, []), s)
  else if v.late then ((resBusy, []), s)
  else if r.1 ≠ resOk then (r, pidAborted v.req.pid s)
  else if v.epoch = 0 ∧ asksEpoch v.op v.req then ((resOk, r.2 ++ s.postId), s)
  else (r, readTakes v.req.pid s)

/-- PIDs of a BULK_READ; `fuel` bounds their number. -/
def parsePids : Nat → Bytes → List Nat
  | 0, _ => []
  | k + 1, l => if l.length < 3 then [] else ofBytes (l.take 3) :: parsePids k (l.drop 3)

/-- Steps 6 and 7 of a raw access (R190), where it is judged before its offset: a raw window has no form in a BULK request. -/
def judgeRawEntry (write : Bool) (level p : Nat) : Nat :=
  let w := p % 256
  if 0x18 < p / 256 % 0x1000 ∨ ¬ (w = 4 ∨ w = 8 ∨ w = 16) then resNoObject
  else if level < (if write then 4 else 2) then resAccess
  else resType

/-- One entry of a BULK_READ with what it takes away: its reply bytes. -/
def bulkReadEntry (level p : Nat) (s : State) : Bytes × State :=
  let r := if areaOf p = 0xE then (judgeRawEntry false level p, []) else readObject level p s
  (toBytes 3 p ++ [r.1] ++ toBytes 2 r.2.length ++ r.2, afterRead r.1 p s)

/-- Several entries in order. -/
def bulkReadEntries (level : Nat) : List Nat → State → Bytes × State
  | [], s => ([], s)
  | p :: t, s =>
    let a := bulkReadEntry level p s
    let b := bulkReadEntries level t a.2
    (a.1 ++ b.1, b.2)

/-- BULK_READ. -/
def serveBulkRead (v : Serving) (s : State) : Reply × State :=
  let l := parsePids 500 v.req.payload
  if v.req.pid ≠ 0 ∨ v.req.payload.length % 3 ≠ 0 then ((resType, []), s)
  else if l = [] ∨ 64 < l.length then ((resRange, []), s)
  else if v.late then ((resBusy, []), s)
  else
    let r := bulkReadEntries v.level l s
    if 1400 < 1 + r.1.length then ((resRange, []), s) else ((resOk, r.1), r.2)

/-! ### Writes (R182, R183) -/

/-- The channel's initiator that carries persistent writes to the Stage manager (R132). -/
def relayWrites (via : Via) (code : Nat) (s : State) : State :=
  match via with
  | .stageDoor => s
  | .tirwa => relay 17 2 1 code s
  | .stageLink => relay 17 3 1 code s

/-- An OBJECT record of a request's entries (R182): whether it was committed. -/
def commitWrites (v : Serving) (entries : List Nat) (s : State) : Bool × State :=
  let c := commit ⟨0x10, s.now, entries, false⟩ s
  (c.1, relayWrites v.req.via (if c.1 then 0 else 5) c.2)

/-- The entry of a written value. -/
def writeEntry (v : Serving) (p : Nat) (val : Bytes) : List Nat :=
  objEntry v.req.src v.master.code v.level val.length p (ofBytes val)

/-- Whether an object is persistent. -/
def persistent (p : Nat) : Bool := ((findObj p).map fun o => o.mark == .rwp).getD false

/-- The group of the safety block that an object belongs to. -/
def groupOf (p : Nat) : Nat := p / 256 * 256

/-- A pending block that takes a value (R185): BUSY where another block is pending. -/
def blockWrite (m : Master) (p n : Nat) (s : State) : Nat × State :=
  let g := groupOf p
  let set (l : List (Nat × Nat)) : State :=
    let l := l.map fun e => if e.1 = p then (p, n) else e
    let s := { s with cue := { s.cue with pend := some ⟨g, m, l, s.mono⟩ } };
    (s.setReg P.smgCuePendingPid g).setReg P.smgCuePendingCrc (blockCrc l)
  match s.cue.pend with
  | none => (resOk, set (blockValues s g))
  | some b => if b.group = g then (resOk, set b.values) else (resBusy, s)

/-- A refusal that steps 6 to 10 give, although only the object's own rule can tell. -/
def earlyRefusal (code : Nat) : Bool := code == resRange || code == resType || code == resAccess

/-- Step 12 of a write of one object: its fabric access, and the action behind it. -/
def applyWrite (v : Serving) (p : Nat) (val : Bytes) (s : State) : Nat × State :=
  if accessAborts s p then (resAborted, pidAborted p s) else actWrite v.ctx p val s

/-- The action of a WRITE of one object that passed steps 6 to 10 (R182): a persistent value is committed before it is applied. -/
def performWrite (v : Serving) (p : Nat) (val : Bytes) (s : State) : Nat × State :=
  let a := applyWrite v p val s
  if earlyRefusal a.1 then a
  else if v.late then (resBusy, s)
  else if persistent p = false ∨ ¬ (a.1 = resOk ∨ a.1 = resAborted) then a
  else
    let c := commitWrites v (writeEntry v p val) s
    if c.1 then applyWrite v p val c.2 else (resBusy, c.2)

/-- WRITE of an object. -/
def serveWrite (v : Serving) (s : State) : Reply × State :=
  let p := v.req.pid
  let val := v.req.payload
  let j := judgeWrite v.level p val s
  if j ≠ resOk then ((j, []), s)
  else if inBlock p then
    if v.late then ((resBusy, []), s)
    else
      let r := blockWrite v.master p (ofBytes val) s
      ((r.1, if r.1 = resOk then toBytes 4 (r.2.reg P.smgCuePendingCrc) else []), r.2)
  else
    let r := performWrite v p val s
    ((r.1, []), r.2)

/-- One entry of a BULK_WRITE judged on a scratch state, which takes it: result and state. `group` is the safety block that an
earlier entry named. -/
def bulkJudge (v : Serving) (group : Option Nat) (e : Nat × Bytes) (s : State) : Nat × State :=
  if areaOf e.1 = 0xE then (judgeRawEntry true v.level e.1, s)
  else
    let j := judgeWrite v.level e.1 e.2 s
    if j ≠ resOk then (j, s)
    else if inBlock e.1 then
      if (match group with
          | some g => !(g == groupOf e.1)
          | none => false) then (resRange, s)
      else blockWrite v.master e.1 (ofBytes e.2) s
    else actWrite v.ctx e.1 e.2 s

/-- Entries judged in order: the index of the first that fails with its result, or none. -/
def bulkJudges (v : Serving) : Nat → Option Nat → List (Nat × Bytes) → State → Option (Nat × Nat)
  | _, _, [], _ => none
  | i, g, e :: t, s =>
    let r := bulkJudge v g e s
    if r.1 = resOk ∨ r.1 = resAborted then bulkJudges v (i + 1) (if inBlock e.1 then some (groupOf e.1) else g) t r.2
    else some (i, r.1)

/-- One entry applied. -/
def bulkApply (v : Serving) (e : Nat × Bytes) (s : State) : Nat × State :=
  if inBlock e.1 then blockWrite v.master e.1 (ofBytes e.2) s
  else applyWrite v e.1 e.2 s

/-- Entries applied in order, up to one that does not return OK. -/
def bulkApplies (v : Serving) : Nat → List (Nat × Bytes) → State → Reply × State
  | _, [], s => ((resOk, toBytes 2 0xFFFF), s)
  | i, e :: t, s =>
    let r := bulkApply v e s
    if r.1 = resOk then bulkApplies v (i + 1) t r.2 else ((r.1, toBytes 2 i), r.2)

/-- BULK_WRITE (R183). -/
def serveBulkWrite (v : Serving) (s : State) : Reply × State :=
  let l := parseWrites 300 v.req.payload
  let fail (code i : Nat) : Reply × State := ((code, toBytes 2 i), s)
  if v.req.pid ≠ 0 ∨ l.2 = false then fail resType 0xFFFF
  else if l.1 = [] ∨ 64 < l.1.length then fail resRange 0xFFFF
  else
    match bulkJudges v 0 none l.1 s with
    | some (i, code) => fail code i
    | none =>
      let ws := (l.1.filter fun e => persistent e.1 && !(inBlock e.1)).flatMap fun e => writeEntry v e.1 e.2
      if 254 < ws.length then fail resRange 0xFFFF
      else if v.late then fail resBusy 0xFFFF
      else if ws = [] then bulkApplies v 0 l.1 s
      else
        let c := commitWrites v ws s
        if c.1 then bulkApplies v 0 l.1 c.2 else ((resBusy, toBytes 2 0xFFFF), c.2)

/-! ### CONFIRM (R187, R215, R225) -/

/-- The SAFETY_BLOCK record of a confirmed block. -/
def blockRecord (v : Serving) (b : PendBlock) : List Nat :=
  (b.group % 2 ^ 24 + blockCrc b.values * 2 ^ 24 + b.values.length % 256 * 2 ^ 56 + v.req.src % 2 ^ 16 * 2 ^ 64
    + v.master.code * 2 ^ 80) :: toWords (blockBytes b.values)

/-- A confirmed block in force in the Warden and in the Iron. -/
def applyBlock (b : PendBlock) (s : State) : State :=
  let s := s.setRegs b.values
  let rest := s.saf.copy.filter fun e => !(e.1 / 256 * 256 == b.group)
  let s := { s with saf := { s.saf with copy := rest ++ b.values } };
  latchEstops (refreshSi (checkBlocks (settle (tamperStart 7 0 s))))

/-- The values of an acknowledgement block, whose one item is the mask of faults to clear (R223). -/
def ackMask (b : PendBlock) : Nat := ((b.values.find? fun e => e.1 == P.wdnFaultAck).map (·.2)).getD 0

/-- Steps 3 and 4 of R187. -/
def confirmBlock (v : Serving) (b : PendBlock) (s : State) : State :=
  let s := (commit ⟨0x11, s.now, blockRecord v b, true⟩ (relay 3 0x0C 3 0 s)).2
  let s := if b.group = 0x30F000 then faultAck (ackMask b) (tamperStart 7 0 s) else applyBlock b s
  discardPend s

/-- The home of the objects of a group, if it holds any. -/
def groupHome (p : Nat) : Option Nat :=
  ((objectsOf p).find? fun o => o.pids.any fun q => q / 256 == p / 256).map (·.island)

/-- The pending block, unless its time has run out by now. -/
def livePend (s : State) : Option PendBlock :=
  match s.cue.pend with
  | none => none
  | some b => if s.mono < b.written + s.reg P.smgCueConfirmTimeout * second then some b else none

/-- The CRC-32 that the Iron computes from the copy of a block that it received (R186, R187, step 2). No transfer is corrupted in the
model, so that copy is the pending block (DESIGN CHOICE, notes/assumptions/26.md). -/
def ironCrc (b : PendBlock) : Nat := blockCrc b.values

/-- The Iron's own CRC-32 differs: the block is discarded, the Iron keeps its copy, and a safety event record is written (R187,
step 2). -/
def ironDiffers (s : State) : State := ironEvent 0x10 0xFF (discardPend s)

/-- The end of a CONFIRM: step 12. -/
def confirmAction (v : Serving) (s : State) : Reply × State :=
  let s := if (livePend s).isNone ∧ s.cue.pend.isSome then discardPend s else s
  match livePend s with
  | none => ((resNotConfirmed, []), s)
  | some b =>
    if b.group ≠ v.req.pid ∨ b.writer ≠ v.master then ((resNotConfirmed, []), s)
    else if ofBytes v.req.payload ≠ blockCrc b.values then ((resCrc, []), discardPend s)
    else if s.ironPresent = false then ((resAborted, []), s)
    else if ironCrc b ≠ blockCrc b.values then ((resCrc, []), ironDiffers s)
    else ((resOk, []), confirmBlock v b s)

/-- CONFIRM in the order of R178: a group without objects is no object; one that is no safety block has no pending block. -/
def serveConfirm (v : Serving) (s : State) : Reply × State :=
  let p := v.req.pid
  match groupHome p with
  | none => ((resNoObject, []), s)
  | some h =>
    if v.level < 3 then ((resAccess, []), s)
    else if s.homePresent h = false then ((resIslandOff, []), s)
    else if v.req.payload.length ≠ 4 then ((resType, []), s)
    else if p % 256 ≠ 0 then ((resRange, []), s)
    else if v.late ∨ (p ≠ 0x30F000 ∧ (anyPairClosed s ∨ anyClosed s)) then ((resBusy, []), s)
    else confirmAction v s

/-! ### NOTIFY (R188) -/

/-- Whether a slot holds a seat's subscription to an object. -/
def subIs (seat pid : Nat) (u : Option Sub) : Bool :=
  match u with
  | some u => u.seat == seat && u.pid == pid
  | none => false

/-- The slot of a seat's subscription to an object. -/
def subSlot (seat pid : Nat) (s : State) : Option Nat := (List.range 64).find? fun i => subIs seat pid (s.sub i)

/-- A subscription made: the slot it replaces or the first free one. -/
def subscribe (v : Serving) (onChange : Bool) (interval : Nat) (value : Bytes) (s : State) : Reply × State :=
  let u : Sub :=
    { pid := v.req.pid, seat := v.req.src, via := v.req.via, ip := v.req.ip, key := v.level, seq := v.req.seq, onChange := onChange
      interval := interval, count := 0, sentAt := s.mono, last := value, gone := false }
  let free := (List.range 64).find? fun i => (s.sub i).isNone
  match subSlot v.req.src v.req.pid s with
  | some i => ((resOk, [i]), s.setSub i (some u))
  | none =>
    match free with
    | some i => ((resOk, [i]), s.setSub i (some u))
    | none => ((resBusy, []), s)

/-- A subscription cancelled. -/
def unsubscribe (v : Serving) (s : State) : Reply × State :=
  match subSlot v.req.src v.req.pid s with
  | some i => ((resOk, [i]), s.setSub i none)
  | none => ((resOk, [0xFF]), s)

/-- NOTIFY. -/
def serveNotify (v : Serving) (s : State) : Reply × State :=
  let r := readObject v.level v.req.pid s
  let mode := v.req.payload.getD 0 0
  let interval := ofBytes (v.req.payload.drop 1)
  if r.1 ≠ resOk ∧ r.1 ≠ resAborted then ((r.1, []), s)
  else if v.req.payload.length ≠ 3 then ((resType, []), s)
  else if 2 < mode ∨ (mode ≠ 0 ∧ (interval < 10 ∨ 60000 < interval ∨ 1397 < r.2.length)) then ((resRange, []), s)
  else if v.late then ((resBusy, []), s)
  else if mode = 0 then unsubscribe v s
  else subscribe v (mode == 1) interval r.2 s

/-! ### SEIZE and RELEASE (R29 to R31) -/

/-- SEIZE or RELEASE after the baton and sequence checks: the new holder. -/
def serveBaton (v : Serving) (s : State) : Reply × State :=
  if areaOf v.req.pid = 0xF ∧ v.level < 4 then ((resNoObject, []), s)
  else if v.req.payload ≠ [] then ((resType, []), s)
  else if v.req.pid % 0x100000 ≠ 0 then ((resRange, []), s)
  else if v.late then ((resBusy, []), s)
  else
    let a := areaOf v.req.pid
    ((resOk, []),
      if v.op = opSeize then changeBaton v 1 a v.master.holds s else changeBaton v 3 a 0 s)

/-! ### Area E (R190, R191) -/

/-- The initiator that the proxy engine stamps (R45). -/
def proxyInit (via : Via) : Nat := if via = .stageDoor then 0x18 else 0x19

/-- A raw access. -/
def serveRaw (v : Serving) (s : State) : Reply × State :=
  let window := v.req.pid / 256 % 0x1000
  let w := v.req.pid % 256
  let write := v.op == opWrite
  let off := ofBytes (v.req.payload.take 4)
  let size := if window = 0x18 then 0x100000 else 0x10000
  if 0x18 < window ∨ ¬ (w = 4 ∨ w = 8 ∨ w = 16) then ((resNoObject, []), s)
  else if v.level < (if write then 4 else 2) then ((resAccess, []), s)
  else if v.req.payload.length ≠ (if write then 4 + w else 4) then ((resType, []), s)
  else if off % w ≠ 0 ∨ size < off + w then ((resRange, []), s)
  else if v.late then ((resBusy, []), s)
  else
    let r := proxyAccess (proxyInit v.req.via) v.level (rawAddr window off) w
      (if write then some (ofBytes (v.req.payload.drop 4)) else none) s
    ((cueOf r.1, if cueOf r.1 = resOk ∧ write = false then r.2.1 else []), r.2.2)

/-! ### The whole order of R178 -/

/-- Steps 6 to 12. -/
def serveOp (v : Serving) (s : State) : Reply × State :=
  if (v.op = opRead ∨ v.op = opWrite) ∧ areaOf v.req.pid = 0xE then serveRaw v s
  else if v.op = opRead then serveRead v s
  else if v.op = opWrite then serveWrite v s
  else if v.op = opConfirm then serveConfirm v s
  else if v.op = opNotify then serveNotify v s
  else if v.op = opBulkRead then serveBulkRead v s
  else if v.op = opBulkWrite then serveBulkWrite v s
  else serveBaton v s

/-- A master's request after step 5 accepts it: executed, answered, and its reply stored. -/
def execute (v : Serving) (s : State) : State :=
  let r := serveOp v s
  let f := v.reply r.2 r.1
  sendReply v.req f (storeReply v.master v.req.seq f r.2)

/-- Whether a request is outside the sequence state: of no master, or an epoch read. -/
def unsequenced (v : Serving) : Bool := v.master == .none || (v.epoch == 0 && asksEpoch v.op v.req)

/-- Steps 4 to 12 of a request that passed step 3. -/
def serveVerified (v : Serving) (s : State) : State :=
  let b := batonStep v s
  if b.1 = false then sendReply v.req (v.reply b.2 (resBaton, [])) b.2
  else if unsequenced v then
    let r := serveOp v b.2
    sendReply v.req (v.reply r.2 r.1) r.2
  else
    match seqVerdict v.master v.req.seq b.2 with
    | .again f => sendReply v.req f b.2
    | .refused last => sendReply v.req (v.reply b.2 (resSequence, toBytes 2 last)) b.2
    | .accepted => execute v (setSeq v.master v.req.seq b.2)

/-- Whether a transport's server runs: E2 for the Stage link, E1 for Tirwa, the Stage manager for the stage door port (R167). -/
def served (via : Via) (s : State) : Bool :=
  s.cue.running
    && (match via with
        | .stageDoor => true
        | .tirwa => s.present 3
        | .stageLink => s.present 4)

/-- One request judged in the order of R178. -/
def serveRequest (op : Nat) (dataBad late : Bool) (r : Req) (s : State) : State :=
  if served r.via s = false then s
  else if frameOk op r = false then s.count P.smgCueDiscards 1
  else if addressed op r s = false then s
  else
    match verdict op r s with
    | .auth => authFails op r s
    | .stale => staleReply op r s
    | .passed epoch =>
      serveVerified
        { op := op, req := r, late := late, dataBad := dataBad, master := masterOf s r, level := (reqKey r), key := s.key (reqKey r)
          ident := identOf r s, epoch := epoch }
        (noteVerified r s)

/-! ### The queue (R180) -/

/-- The oldest waiting request served. -/
def serveOldest (s : State) : State :=
  match s.cue.inbox with
  | [] => s
  | i :: t => serveRequest i.opcode false i.late i.req { s with cue := { s.cue with inbox := t } }

/-- The waiting requests served in order of arrival; `fuel` bounds their number. -/
def drainInbox : Nat → State → State
  | 0, s => s
  | k + 1, s => if s.cue.inbox = [] then s else drainInbox k (serveOldest s)

/-- A request that arrives now: those before it are served first. -/
def serveCue (op : Nat) (dataBad : Bool) (r : Req) (s : State) : State :=
  serveRequest op dataBad false r (drainInbox s.cue.inbox.length s)

/-! ### The commands -/

/-- READ. -/
def execRead (r : Req) (s : State) : Host.Outcome State Fault Refusal := .next (serveCue opRead false r s)

/-- WRITE. -/
def execWrite (r : Req) (s : State) : Host.Outcome State Fault Refusal := .next (serveCue opWrite false r s)

/-- CONFIRM. -/
def execConfirm (r : Req) (s : State) : Host.Outcome State Fault Refusal := .next (serveCue opConfirm false r s)

/-- NOTIFY. -/
def execNotify (r : Req) (s : State) : Host.Outcome State Fault Refusal := .next (serveCue opNotify false r s)

/-- BULK_READ. -/
def execBulkRead (r : Req) (s : State) : Host.Outcome State Fault Refusal := .next (serveCue opBulkRead false r s)

/-- BULK_WRITE. -/
def execBulkWrite (r : Req) (s : State) : Host.Outcome State Fault Refusal := .next (serveCue opBulkWrite false r s)

/-- SEIZE. -/
def execSeize (r : Req) (s : State) : Host.Outcome State Fault Refusal := .next (serveCue opSeize false r s)

/-- RELEASE. -/
def execRelease (r : Req) (s : State) : Host.Outcome State Fault Refusal := .next (serveCue opRelease false r s)

/-- SAFETY_BLOCK_EXPIRY: SMG_CUE_CONFIRM_TIMEOUT has passed since the last write of the pending block (R187). -/
def execSafetyBlockExpiry (s : State) : Host.Outcome State Fault Refusal := .next (discardPend s)

/-- A request put into area E. -/
def rawReq (r : Req) : Req := { r with pid := 0xE00000 + r.pid % 0x100000 }

/-- RAW_WINDOW_READ. -/
def execRawWindowRead (r : Req) (s : State) : Host.Outcome State Fault Refusal := .next (serveCue opRead false (rawReq r) s)

/-- RAW_WINDOW_WRITE. -/
def execRawWindowWrite (r : Req) (s : State) : Host.Outcome State Fault Refusal := .next (serveCue opWrite false (rawReq r) s)

/-- KEY_CHANGE: a WRITE of a key object. -/
def execKeyChange (r : Req) (s : State) : Host.Outcome State Fault Refusal := .next (serveCue opWrite false r s)

/-- A subscription's notification with its object's present value (R189). -/
def sendNote (slot : Nat) (u : Sub) (s : State) : State :=
  if accessAborts s u.pid then sendNoteOf slot u resAborted [] (pidAborted u.pid s)
  else sendNoteOf slot u resOk (objBytes s u.pid) s

/-- Whether an on-change notification is due: the value differs from the one last sent and the interval is over. After an absence too
it is the value last sent that counts (DEDUCED, notes/assumptions/97.md). -/
def noteDue (u : Sub) (s : State) : Bool :=
  u.onChange && !(objBytes s u.pid == u.last) && (u.count == 0 || decide (u.sentAt + ms u.interval ≤ s.mono))

/-- NOTIFICATION_ON_CHANGE. -/
def execNotificationOnChange (slot : Nat) (s : State) : Host.Outcome State Fault Refusal :=
  .next
    (match s.sub slot with
      | none => s
      | some u => if s.homePresent (homeOf u.pid) && !accessAborts s u.pid && noteDue u s then sendNote slot u s else s)

/-- NOTIFICATION_PERIODIC. -/
def execNotificationPeriodic (slot : Nat) (s : State) : Host.Outcome State Fault Refusal :=
  .next
    (match s.sub slot with
      | none => s
      | some u => if s.homePresent (homeOf u.pid) && !u.onChange then sendNote slot u s else s)

/-- OBJECT_SELF_COMMIT_RETRY (R528). -/
def execObjectSelfCommitRetry (s : State) : Host.Outcome State Fault Refusal :=
  .next (if s.jnl.retry = [] then s else selfCommit false s.jnl.retry s)

end Sys2Proof.Machine
end

