-- ==== Sys2Proof/Machine/CueWrites.lean ====
section
/-!
DEFINITION. The rows of the opcode table that are a Cue WRITE, or a READ, of one object: each is the request of R178 with the
PID of its row, and where the row names the value, with that value. Its CMAC is judged over the frame so made
(notes/assumptions/31.md). Rows that name a family of objects leave the PID to the frame.
-/

namespace Sys2Proof.Machine

open Sys2Proof

/-- A request for an object. -/
def reqFor (r : Req) (p : Nat) : Req := { r with pid := p }

/-- A request for an object with a value. -/
def reqWith (r : Req) (p : Nat) (value : Bytes) : Req := { r with pid := p, len := value.length, payload := value }

/-- A request for a command object whose first byte is the operation. -/
def reqOp (r : Req) (p op : Nat) : Req := reqWith r p (op :: r.payload.drop 1)

/-- A WRITE that arrives now. -/
def serveWriteReq (r : Req) (s : State) : State := serveCue opWrite false r s

/-- CK_FORCE_NOW: a mask of islands (R80). -/
def execCkForceNow (r : Req) (s : State) : Host.Outcome State Fault Refusal := .next (serveWriteReq (reqFor r P.ckForceNow) s)

/-- PW_RESET_REQ: 0x5A (R103). -/
def execPwResetReq (r : Req) (s : State) : Host.Outcome State Fault Refusal := .next (serveWriteReq (reqWith r P.pwResetReq [0x5A]) s)

/-- PW_TIER_REQ: a tier (R100). -/
def execPwTierReq (r : Req) (s : State) : Host.Outcome State Fault Refusal := .next (serveWriteReq (reqFor r P.pwTierReq) s)

/-- BANK_SELF_TEST: PBK_BANK_CMD with op 1 (R153). -/
def execBankSelfTest (r : Req) (s : State) : Host.Outcome State Fault Refusal := .next (serveWriteReq (reqOp r P.pbkBankCmd 1) s)

/-- BANK_COPY: PBK_BANK_CMD with op 2. -/
def execBankCopy (r : Req) (s : State) : Host.Outcome State Fault Refusal := .next (serveWriteReq (reqOp r P.pbkBankCmd 2) s)

/-- BANK_WIPE: PBK_BANK_CMD with op 3. -/
def execBankWipe (r : Req) (s : State) : Host.Outcome State Fault Refusal := .next (serveWriteReq (reqOp r P.pbkBankCmd 3) s)

/-- FLY_HOME: FLY_CMD 0x01 (R266). -/
def execFlyHome (r : Req) (s : State) : Host.Outcome State Fault Refusal := .next (serveWriteReq (reqWith r P.flyCmd [1]) s)

/-- FLY_STOP: FLY_CMD 0x03 (R271). -/
def execFlyStop (r : Req) (s : State) : Host.Outcome State Fault Refusal := .next (serveWriteReq (reqWith r P.flyCmd [3]) s)

/-- FLY_QUICK_STOP: FLY_CMD 0x04 (R271). -/
def execFlyQuickStop (r : Req) (s : State) : Host.Outcome State Fault Refusal := .next (serveWriteReq (reqWith r P.flyCmd [4]) s)

/-- FLY_RESUME: FLY_CMD 0x05 (R271). -/
def execFlyResume (r : Req) (s : State) : Host.Outcome State Fault Refusal := .next (serveWriteReq (reqWith r P.flyCmd [5]) s)

/-- FLY_JOG_POSITIVE: FLY_CMD 0x06 (R279). -/
def execFlyJogPositive (r : Req) (s : State) : Host.Outcome State Fault Refusal := .next (serveWriteReq (reqWith r P.flyCmd [6]) s)

/-- FLY_JOG_NEGATIVE: FLY_CMD 0x07 (R279). -/
def execFlyJogNegative (r : Req) (s : State) : Host.Outcome State Fault Refusal := .next (serveWriteReq (reqWith r P.flyCmd [7]) s)

/-- FLY_TARGET_WRITE (R270). -/
def execFlyTargetWrite (r : Req) (s : State) : Host.Outcome State Fault Refusal := .next (serveWriteReq (reqFor r P.flyTarget) s)

/-- TLY_OUT_MODE_WRITE: TLY_OUTx_MODE (R323). -/
def execTlyOutModeWrite (r : Req) (s : State) : Host.Outcome State Fault Refusal := .next (serveWriteReq r s)

/-- CAL_MEASURE_LOW: TLY_CAL_CMD with op 1 (R295). -/
def execCalMeasureLow (r : Req) (s : State) : Host.Outcome State Fault Refusal := .next (serveWriteReq (reqOp r P.tlyCalCmd 1) s)

/-- CAL_MEASURE_HIGH: TLY_CAL_CMD with op 2. -/
def execCalMeasureHigh (r : Req) (s : State) : Host.Outcome State Fault Refusal := .next (serveWriteReq (reqOp r P.tlyCalCmd 2) s)

/-- CAL_COMMIT: TLY_CAL_CMD with op 3. -/
def execCalCommit (r : Req) (s : State) : Host.Outcome State Fault Refusal := .next (serveWriteReq (reqOp r P.tlyCalCmd 3) s)

/-- CAL_ABANDON: TLY_CAL_CMD with op 4. -/
def execCalAbandon (r : Req) (s : State) : Host.Outcome State Fault Refusal := .next (serveWriteReq (reqOp r P.tlyCalCmd 4) s)

/-- TLY_PC_MODE_WRITE: TLY_PCn_MODE (R296). -/
def execTlyPcModeWrite (r : Req) (s : State) : Host.Outcome State Fault Refusal := .next (serveWriteReq r s)

/-- TLY_MC_FS_WRITE: TLY_MCm_FS (R296). -/
def execTlyMcFsWrite (r : Req) (s : State) : Host.Outcome State Fault Refusal := .next (serveWriteReq r s)

/-- BOX_MD_RESET: a mask of rates (R337). -/
def execBoxMdReset (r : Req) (s : State) : Host.Outcome State Fault Refusal := .next (serveWriteReq (reqFor r P.boxMdReset) s)

/-- TIR_TEST_MODE (R384). -/
def execTirTestMode (r : Req) (s : State) : Host.Outcome State Fault Refusal := .next (serveWriteReq (reqFor r P.tirTestMode) s)

/-- TIR_GP_TEST_MODE (R384). -/
def execTirGpTestMode (r : Req) (s : State) : Host.Outcome State Fault Refusal := .next (serveWriteReq (reqFor r P.tirGpTestMode) s)

/-- SL_PATTERN_GEN_WRITE: SL_LANEn_PAT_GEN (R408). -/
def execSlPatternGenWrite (r : Req) (s : State) : Host.Outcome State Fault Refusal := .next (serveWriteReq r s)

/-- SL_PATTERN_CHK_WRITE: SL_LANEn_PAT_CHK (R408). -/
def execSlPatternChkWrite (r : Req) (s : State) : Host.Outcome State Fault Refusal := .next (serveWriteReq r s)

/-- SL_LOOPBACK_WRITE: SL_LANEn_LOOPBACK (R409). -/
def execSlLoopbackWrite (r : Req) (s : State) : Host.Outcome State Fault Refusal := .next (serveWriteReq r s)

/-- RDR_HOST_GRANT (R417). -/
def execRdrHostGrant (r : Req) (s : State) : Host.Outcome State Fault Refusal := .next (serveWriteReq (reqFor r P.rdrHostGrant) s)

/-- RDR_TEST_MODE (R434). -/
def execRdrTestMode (r : Req) (s : State) : Host.Outcome State Fault Refusal := .next (serveWriteReq (reqFor r P.rdrTestMode) s)

/-- TAG_SECURITY_WRITE: TAG_AES_KEY, TAG_PASSWORD or TAG_AUTH_MODES (R422). -/
def execTagSecurityWrite (r : Req) (s : State) : Host.Outcome State Fault Refusal := .next (serveWriteReq r s)

/-- TAG_NOTE_CLEAR: 0xC1 (R435). -/
def execTagNoteClear (r : Req) (s : State) : Host.Outcome State Fault Refusal := .next (serveWriteReq (reqWith r P.tagNoteClear [0xC1]) s)

/-- UART_TX_DATA_WRITE: UARTn_TX_DATA (R455). -/
def execUartTxDataWrite (r : Req) (s : State) : Host.Outcome State Fault Refusal := .next (serveWriteReq r s)

/-- UART_TEST_WRITE: UARTn_TEST (R456). -/
def execUartTestWrite (r : Req) (s : State) : Host.Outcome State Fault Refusal := .next (serveWriteReq r s)

/-- DSP_IMAGE_WRITE (R471). -/
def execDspImageWrite (r : Req) (s : State) : Host.Outcome State Fault Refusal := .next (serveWriteReq (reqFor r P.dspImage) s)

/-- WNG_OPEN: a component (R487). -/
def execWngOpen (r : Req) (s : State) : Host.Outcome State Fault Refusal := .next (serveWriteReq (reqFor r P.wngOpen) s)

/-- WNG_VERIFY: 1 (R489). -/
def execWngVerify (r : Req) (s : State) : Host.Outcome State Fault Refusal := .next (serveWriteReq (reqWith r P.wngVerify [1]) s)

/-- WNG_COMMIT: 1 (R490). -/
def execWngCommit (r : Req) (s : State) : Host.Outcome State Fault Refusal := .next (serveWriteReq (reqWith r P.wngCommit [1]) s)

/-- WNG_COMMIT_CRC: a CRC-32 (R490). -/
def execWngCommitCrc (r : Req) (s : State) : Host.Outcome State Fault Refusal := .next (serveWriteReq (reqFor r P.wngCommitCrc) s)

/-- WNG_CONFIRM: 1 (R492). -/
def execWngConfirm (r : Req) (s : State) : Host.Outcome State Fault Refusal := .next (serveWriteReq (reqWith r P.wngConfirm [1]) s)

/-- WNG_ROLLBACK: 1 (R492). -/
def execWngRollback (r : Req) (s : State) : Host.Outcome State Fault Refusal := .next (serveWriteReq (reqWith r P.wngRollback [1]) s)

/-- WNG_ABANDON: 1 (R495). -/
def execWngAbandon (r : Req) (s : State) : Host.Outcome State Fault Refusal := .next (serveWriteReq (reqWith r P.wngAbandon [1]) s)

/-- UART_RX_DATA_READ: a READ of UARTn_RX_DATA (R455). -/
def execUartRxDataRead (r : Req) (s : State) : Host.Outcome State Fault Refusal := .next (serveCue opRead false r s)

/-- WNG_CHUNK (R487): `dataBad` says that a read of the active image for a difference returns DATA (R488). -/
def execWngChunk (r : Req) (dataBad : Bool) (s : State) : Host.Outcome State Fault Refusal :=
  .next (serveCue opWrite dataBad (reqFor r P.wngChunk) s)

/-- BOX_EMERG_REQ: a write of it, or the EMERG key (R334). -/
def execBoxEmergReq (req : Option Req) (s : State) : Host.Outcome State Fault Refusal :=
  .next
    (match req with
      | some r => serveWriteReq (reqWith r P.boxEmergReq [1]) s
      | none => if boxWorks s then (actEmergReq 1 s).2 else s)

/-- TOKEN_ENTRY: a write of BOX_TOKEN_IN, or ENTER on the keypad (R338). -/
def execTokenEntry (req : Option Req) (s : State) : Host.Outcome State Fault Refusal :=
  .next
    (match req with
      | some r => serveWriteReq (reqFor r P.boxTokenIn) s
      | none => keypadEnter s)

end Sys2Proof.Machine
end

