-- ==== Sys2Proof/Machine/Dispatch.lean ====
section
/-!
DEFINITION. One arm per command: the meaning it calls. -/

namespace Sys2Proof.Machine

open Sys2Proof

def exec (i : Instr) (s : State) : Host.Outcome State Fault Refusal :=
  match i with
  | .read r => Sys2Proof.Machine.execRead r s
  | .write r => Sys2Proof.Machine.execWrite r s
  | .confirm r => Sys2Proof.Machine.execConfirm r s
  | .notify r => Sys2Proof.Machine.execNotify r s
  | .bulkRead r => Sys2Proof.Machine.execBulkRead r s
  | .bulkWrite r => Sys2Proof.Machine.execBulkWrite r s
  | .seize r => Sys2Proof.Machine.execSeize r s
  | .release r => Sys2Proof.Machine.execRelease r s
  | .safetyBlockExpiry => Sys2Proof.Machine.execSafetyBlockExpiry s
  | .rawWindowRead r => Sys2Proof.Machine.execRawWindowRead r s
  | .rawWindowWrite r => Sys2Proof.Machine.execRawWindowWrite r s
  | .keyChange r => Sys2Proof.Machine.execKeyChange r s
  | .notificationOnChange slot => Sys2Proof.Machine.execNotificationOnChange slot s
  | .notificationPeriodic slot => Sys2Proof.Machine.execNotificationPeriodic slot s
  | .objectSelfCommitRetry => Sys2Proof.Machine.execObjectSelfCommitRetry s
  | .stageDoorFrame => Sys2Proof.Machine.execStageDoorFrame s
  | .stageDoorFrameTimeout => Sys2Proof.Machine.execStageDoorFrameTimeout s
  | .fabricReadRequest init addr tag beats byteEn fetch => Sys2Proof.Machine.execFabricReadRequest init addr tag beats byteEn fetch s
  | .fabricWriteRequest init addr tag byteEn data => Sys2Proof.Machine.execFabricWriteRequest init addr tag byteEn data s
  | .requestWatchdogExpiry init tag => Sys2Proof.Machine.execRequestWatchdogExpiry init tag s
  | .responseWatchdogExpiry init tag => Sys2Proof.Machine.execResponseWatchdogExpiry init tag s
  | .portPresentFall island => Sys2Proof.Machine.execPortPresentFall island s
  | .fabricResponseReturn init tag => Sys2Proof.Machine.execFabricResponseReturn init tag s
  | .fabricEventPacket island event => Sys2Proof.Machine.execFabricEventPacket island event s
  | .ironEventLatch code unit => Sys2Proof.Machine.execIronEventLatch code unit s
  | .ironEventKeeperDelivery => Sys2Proof.Machine.execIronEventKeeperDelivery s
  | .ironEventMainPost ch => Sys2Proof.Machine.execIronEventMainPost ch s
  | .ironEventRepost ch => Sys2Proof.Machine.execIronEventRepost ch s
  | .judgeWindowEnd j count => Sys2Proof.Machine.execJudgeWindowEnd j count s
  | .judgeLimitExpiry j => Sys2Proof.Machine.execJudgeLimitExpiry j s
  | .judgeRetry j => Sys2Proof.Machine.execJudgeRetry j s
  | .monitorDeadEdge src => Sys2Proof.Machine.execMonitorDeadEdge src s
  | .rc16TrimMeasurement count => Sys2Proof.Machine.execRc16TrimMeasurement count s
  | .rc16RetrimTimer => Sys2Proof.Machine.execRc16RetrimTimer s
  | .clockSwitchRequest island input => Sys2Proof.Machine.execClockSwitchRequest island input s
  | .clockSwitchComplete island => Sys2Proof.Machine.execClockSwitchComplete island s
  | .clockHangTimeout island => Sys2Proof.Machine.execClockHangTimeout island s
  | .ckForceNow r => Sys2Proof.Machine.execCkForceNow r s
  | .forcedSwitchResetRelease island => Sys2Proof.Machine.execForcedSwitchResetRelease island s
  | .pllRestart pll => Sys2Proof.Machine.execPllRestart pll s
  | .pllLock pll => Sys2Proof.Machine.execPllLock pll s
  | .vsupWarning vsupMv => Sys2Proof.Machine.execVsupWarning vsupMv s
  | .powerFailLastCommit holdupUs vaonMinMv => Sys2Proof.Machine.execPowerFailLastCommit holdupUs vaonMinMv s
  | .ironPor => Sys2Proof.Machine.execIronPor s
  | .ironPorRelease => Sys2Proof.Machine.execIronPorRelease s
  | .vaonPor => Sys2Proof.Machine.execVaonPor s
  | .vaonPorRelease => Sys2Proof.Machine.execVaonPorRelease s
  | .vcoreLoss => Sys2Proof.Machine.execVcoreLoss s
  | .supplyGood supply mv => Sys2Proof.Machine.execSupplyGood supply mv s
  | .vsupGoodHoldExpiry => Sys2Proof.Machine.execVsupGoodHoldExpiry s
  | .vcpStateChange pGood mGood => Sys2Proof.Machine.execVcpStateChange pGood mGood s
  | .sysRstNLow => Sys2Proof.Machine.execSysRstNLow s
  | .stageManagerWatchdogExpiry => Sys2Proof.Machine.execStageManagerWatchdogExpiry s
  | .pwResetReq r => Sys2Proof.Machine.execPwResetReq r s
  | .resetRequestDelayExpiry => Sys2Proof.Machine.execResetRequestDelayExpiry s
  | .deferredCopyStart => Sys2Proof.Machine.execDeferredCopyStart s
  | .bootRomStart => Sys2Proof.Machine.execBootRomStart s
  | .loaderCheckComplete okCurrent okOther => Sys2Proof.Machine.execLoaderCheckComplete okCurrent okOther s
  | .bootStagedCopy => Sys2Proof.Machine.execBootStagedCopy s
  | .romHoldStatusFrame => Sys2Proof.Machine.execRomHoldStatusFrame s
  | .stageManagerStart => Sys2Proof.Machine.execStageManagerStart s
  | .pwTierReq r => Sys2Proof.Machine.execPwTierReq r s
  | .tierGroupStart => Sys2Proof.Machine.execTierGroupStart s
  | .domainSwitchOn d => Sys2Proof.Machine.execDomainSwitchOn d s
  | .domainOnComplete d => Sys2Proof.Machine.execDomainOnComplete d s
  | .domainPowerGoodTimeout d => Sys2Proof.Machine.execDomainPowerGoodTimeout d s
  | .domainSwitchOff d => Sys2Proof.Machine.execDomainSwitchOff d s
  | .thermalSample t0 t1 => Sys2Proof.Machine.execThermalSample t0 t1 s
  | .thermalLevelDrop => Sys2Proof.Machine.execThermalLevelDrop s
  | .darkSourceSwitch vaonGood => Sys2Proof.Machine.execDarkSourceSwitch vaonGood s
  | .noticePost ch init word beats byteEn => Sys2Proof.Machine.execNoticePost ch init word beats byteEn s
  | .noticeTake ch init delivered => Sys2Proof.Machine.execNoticeTake ch init delivered s
  | .noticeAck ch init code => Sys2Proof.Machine.execNoticeAck ch init code s
  | .noticeWithdraw ch init tag => Sys2Proof.Machine.execNoticeWithdraw ch init tag s
  | .callboardStatusRead ch init => Sys2Proof.Machine.execCallboardStatusRead ch init s
  | .callboardConfigWrite ch init value => Sys2Proof.Machine.execCallboardConfigWrite ch init value s
  | .receiverReset island => Sys2Proof.Machine.execReceiverReset island s
  | .callboardReset => Sys2Proof.Machine.execCallboardReset s
  | .provisionalCancel sender tag channels => Sys2Proof.Machine.execProvisionalCancel sender tag channels s
  | .mramWordRead init addr fetch errs pairEqual => Sys2Proof.Machine.execMramWordRead init addr fetch errs pairEqual s
  | .mramWordWrite init addr word => Sys2Proof.Machine.execMramWordWrite init addr word s
  | .mramMergeWrite init addr byteEn word errs => Sys2Proof.Machine.execMramMergeWrite init addr byteEn word errs s
  | .fetchErrorRestart init addr => Sys2Proof.Machine.execFetchErrorRestart init addr s
  | .scrubVisit errs pairEqual badColumns badSpares => Sys2Proof.Machine.execScrubVisit errs pairEqual badColumns badSpares s
  | .columnRepairStep => Sys2Proof.Machine.execColumnRepairStep s
  | .columnRepairComplete => Sys2Proof.Machine.execColumnRepairComplete s
  | .bankSelfTest r => Sys2Proof.Machine.execBankSelfTest r s
  | .bankCopy r => Sys2Proof.Machine.execBankCopy r s
  | .bankWipe r => Sys2Proof.Machine.execBankWipe r s
  | .bankOperationComplete faults => Sys2Proof.Machine.execBankOperationComplete faults s
  | .journalCommitRequest requester j => Sys2Proof.Machine.execJournalCommitRequest requester j s
  | .journalCommitComplete => Sys2Proof.Machine.execJournalCommitComplete s
  | .compactionSector => Sys2Proof.Machine.execCompactionSector s
  | .journalRecovery us badWords => Sys2Proof.Machine.execJournalRecovery us badWords s
  | .safetyInputFilterChange ch input contact closed => Sys2Proof.Machine.execSafetyInputFilterChange ch input contact closed s
  | .discrepancyTimeout ch input => Sys2Proof.Machine.execDiscrepancyTimeout ch input s
  | .testPulse failed => Sys2Proof.Machine.execTestPulse failed s
  | .mirrorTimeout pair => Sys2Proof.Machine.execMirrorTimeout pair s
  | .readbackMismatch pair => Sys2Proof.Machine.execReadbackMismatch pair s
  | .switchCurrentLimitTimeout pair => Sys2Proof.Machine.execSwitchCurrentLimitTimeout pair s
  | .totalOverloadTimeout => Sys2Proof.Machine.execTotalOverloadTimeout s
  | .darkTest pair ok2 ok6 => Sys2Proof.Machine.execDarkTest pair ok2 ok6 s
  | .prompterAnswer word seq dt aborted => Sys2Proof.Machine.execPrompterAnswer word seq dt aborted s
  | .prompterAnswerTimeout => Sys2Proof.Machine.execPrompterAnswerTimeout s
  | .lockstepMismatch => Sys2Proof.Machine.execLockstepMismatch s
  | .safetyBlockLoad => Sys2Proof.Machine.execSafetyBlockLoad s
  | .blockCrcCheck => Sys2Proof.Machine.execBlockCrcCheck s
  | .brakeTest movement => Sys2Proof.Machine.execBrakeTest movement s
  | .brakeTestGraceExpiry => Sys2Proof.Machine.execBrakeTestGraceExpiry s
  | .slsOverspeed speed => Sys2Proof.Machine.execSlsOverspeed speed s
  | .ss1StopComplete => Sys2Proof.Machine.execSs1StopComplete s
  | .ironOverspeedWindow edges => Sys2Proof.Machine.execIronOverspeedWindow edges s
  | .ironOvertemp temp => Sys2Proof.Machine.execIronOvertemp temp s
  | .cpStateReport high low => Sys2Proof.Machine.execCpStateReport high low s
  | .currentLimitRecompute ppOhm => Sys2Proof.Machine.execCurrentLimitRecompute ppOhm s
  | .acResume => Sys2Proof.Machine.execAcResume s
  | .proximityLost ppOhm => Sys2Proof.Machine.execProximityLost ppOhm s
  | .supportedAppProtocolReq decodable dc protos => Sys2Proof.Machine.execSupportedAppProtocolReq decodable dc protos s
  | .cableCheckReq sid decodable testOhm vMax iMax => Sys2Proof.Machine.execCableCheckReq sid decodable testOhm vMax iMax s
  | .preChargeReq sid decodable volt amp => Sys2Proof.Machine.execPreChargeReq sid decodable volt amp s
  | .prechargeConditionMet => Sys2Proof.Machine.execPrechargeConditionMet s
  | .prechargeSo2Open => Sys2Proof.Machine.execPrechargeSo2Open s
  | .prechargeTimeout elapsedMs => Sys2Proof.Machine.execPrechargeTimeout elapsedMs s
  | .powerDeliveryReq sid decodable start => Sys2Proof.Machine.execPowerDeliveryReq sid decodable start s
  | .currentDemandReq sid decodable volt amp => Sys2Proof.Machine.execCurrentDemandReq sid decodable volt amp s
  | .sessionStopReq sid decodable => Sys2Proof.Machine.execSessionStopReq sid decodable s
  | .rampDownEnd => Sys2Proof.Machine.execRampDownEnd s
  | .dcWeldingCheckEnd peakMv fallMs => Sys2Proof.Machine.execDcWeldingCheckEnd peakMv fallMs s
  | .acAuthorisation auth ident => Sys2Proof.Machine.execAcAuthorisation auth ident s
  | .acEndingTimeout => Sys2Proof.Machine.execAcEndingTimeout s
  | .acWeldingCheckEnd => Sys2Proof.Machine.execAcWeldingCheckEnd s
  | .isolationPeriodEnd ohm100 => Sys2Proof.Machine.execIsolationPeriodEnd ohm100 s
  | .residualCurrentUpdate sumMv => Sys2Proof.Machine.execResidualCurrentUpdate sumMv s
  | .rcSensorFault => Sys2Proof.Machine.execRcSensorFault s
  | .rcSelfTest meanUa => Sys2Proof.Machine.execRcSelfTest meanUa s
  | .slacTimeout elapsedMs => Sys2Proof.Machine.execSlacTimeout elapsedMs s
  | .sequenceTimeout elapsedMs => Sys2Proof.Machine.execSequenceTimeout elapsedMs s
  | .currentDemandGap elapsedMs => Sys2Proof.Machine.execCurrentDemandGap elapsedMs s
  | .stateDTimeout elapsedMs => Sys2Proof.Machine.execStateDTimeout elapsedMs s
  | .stateCTimeout elapsedMs => Sys2Proof.Machine.execStateCTimeout elapsedMs s
  | .acOvercurrentTimeout currentMa => Sys2Proof.Machine.execAcOvercurrentTimeout currentMa s
  | .stateFEnd => Sys2Proof.Machine.execStateFEnd s
  | .tcpConnectionLoss elapsedMs => Sys2Proof.Machine.execTcpConnectionLoss elapsedMs s
  | .flyControlCycle delta gapNs => Sys2Proof.Machine.execFlyControlCycle delta gapNs s
  | .encoderIllegalTransition => Sys2Proof.Machine.execEncoderIllegalTransition s
  | .encoderIndex => Sys2Proof.Machine.execEncoderIndex s
  | .encValidSet => Sys2Proof.Machine.execEncValidSet s
  | .flyHome r => Sys2Proof.Machine.execFlyHome r s
  | .flyStop r => Sys2Proof.Machine.execFlyStop r s
  | .flyQuickStop r => Sys2Proof.Machine.execFlyQuickStop r s
  | .flyResume r => Sys2Proof.Machine.execFlyResume r s
  | .flyJogPositive r => Sys2Proof.Machine.execFlyJogPositive r s
  | .flyJogNegative r => Sys2Proof.Machine.execFlyJogNegative r s
  | .flyTargetWrite r => Sys2Proof.Machine.execFlyTargetWrite r s
  | .homingHomeSwitch low => Sys2Proof.Machine.execHomingHomeSwitch low s
  | .toothEdge rising => Sys2Proof.Machine.execToothEdge rising s
  | .missedTooth => Sys2Proof.Machine.execMissedTooth s
  | .cueFire cue positive contactHigh => Sys2Proof.Machine.execCueFire cue positive contactHigh s
  | .motionStoSettle => Sys2Proof.Machine.execMotionStoSettle s
  | .motionBrakeRelease => Sys2Proof.Machine.execMotionBrakeRelease s
  | .inPositionReached => Sys2Proof.Machine.execInPositionReached s
  | .brakeSetHoldEnd => Sys2Proof.Machine.execBrakeSetHoldEnd s
  | .wardenAxisSupervision flyDelta ownDelta drvLow => Sys2Proof.Machine.execWardenAxisSupervision flyDelta ownDelta drvLow s
  | .meteringIntervalEnd counts => Sys2Proof.Machine.execMeteringIntervalEnd counts s
  | .mainsLost => Sys2Proof.Machine.execMainsLost s
  | .meteringFrameReceive => Sys2Proof.Machine.execMeteringFrameReceive s
  | .supportingUpdate => Sys2Proof.Machine.execSupportingUpdate s
  | .phaseRmsUpdate => Sys2Proof.Machine.execPhaseRmsUpdate s
  | .anchorRefresh => Sys2Proof.Machine.execAnchorRefresh s
  | .seamReceive ts old new => Sys2Proof.Machine.execSeamReceive ts old new s
  | .energyCommit => Sys2Proof.Machine.execEnergyCommit s
  | .tallyRestore => Sys2Proof.Machine.execTallyRestore s
  | .sessionLatch set start => Sys2Proof.Machine.execSessionLatch set start s
  | .tlyOutModeWrite r => Sys2Proof.Machine.execTlyOutModeWrite r s
  | .processWindowEnd counts => Sys2Proof.Machine.execProcessWindowEnd counts s
  | .processResultUpdate => Sys2Proof.Machine.execProcessResultUpdate s
  | .calMeasureLow r => Sys2Proof.Machine.execCalMeasureLow r s
  | .calMeasureHigh r => Sys2Proof.Machine.execCalMeasureHigh r s
  | .calCommit r => Sys2Proof.Machine.execCalCommit r s
  | .calAbandon r => Sys2Proof.Machine.execCalAbandon r s
  | .calAveragingComplete count clocks => Sys2Proof.Machine.execCalAveragingComplete count clocks s
  | .calEntryAck => Sys2Proof.Machine.execCalEntryAck s
  | .tlyPcModeWrite r => Sys2Proof.Machine.execTlyPcModeWrite r s
  | .tlyMcFsWrite r => Sys2Proof.Machine.execTlyMcFsWrite r s
  | .meteringSelfCheckPhase ch diffPpm refPpm => Sys2Proof.Machine.execMeteringSelfCheckPhase ch diffPpm refPpm s
  | .processSelfCheck ch shortPpm refPpm => Sys2Proof.Machine.execProcessSelfCheck ch shortPpm refPpm s
  | .selfCheckReschedule => Sys2Proof.Machine.execSelfCheckReschedule s
  | .converterClockLost => Sys2Proof.Machine.execConverterClockLost s
  | .calendarEvaluate boundary => Sys2Proof.Machine.execCalendarEvaluate boundary s
  | .costAccrual => Sys2Proof.Machine.execCostAccrual s
  | .boxEmergReq req => Sys2Proof.Machine.execBoxEmergReq req s
  | .demandSubIntervalEnd => Sys2Proof.Machine.execDemandSubIntervalEnd s
  | .boxMdReset r => Sys2Proof.Machine.execBoxMdReset r s
  | .tokenEntry req => Sys2Proof.Machine.execTokenEntry req s
  | .tokenEntryTimeout => Sys2Proof.Machine.execTokenEntryTimeout s
  | .tokenDecodeComplete => Sys2Proof.Machine.execTokenDecodeComplete s
  | .tokenRecordAck => Sys2Proof.Machine.execTokenRecordAck s
  | .creditToken => Sys2Proof.Machine.execCreditToken s
  | .keyChangePartOne => Sys2Proof.Machine.execKeyChangePartOne s
  | .keyChangePartTwo => Sys2Proof.Machine.execKeyChangePartTwo s
  | .keyChangePartOneExpiry => Sys2Proof.Machine.execKeyChangePartOneExpiry s
  | .clearTamperToken => Sys2Proof.Machine.execClearTamperToken s
  | .setTariffIndexToken => Sys2Proof.Machine.execSetTariffIndexToken s
  | .testToken => Sys2Proof.Machine.execTestToken s
  | .tamperInputChange input high => Sys2Proof.Machine.execTamperInputChange input high s
  | .reverseEnergyTimer set => Sys2Proof.Machine.execReverseEnergyTimer set s
  | .boxRestore => Sys2Proof.Machine.execBoxRestore s
  | .channel10StateReport => Sys2Proof.Machine.execChannel10StateReport s
  | .tirwaCueFrame fc mac => Sys2Proof.Machine.execTirwaCueFrame fc mac s
  | .tirwaAck fc => Sys2Proof.Machine.execTirwaAck fc s
  | .tirwaAckTimeout => Sys2Proof.Machine.execTirwaAckTimeout s
  | .frameControlError => Sys2Proof.Machine.execFrameControlError s
  | .tirwaBackoffExpiry => Sys2Proof.Machine.execTirwaBackoffExpiry s
  | .helloTimer => Sys2Proof.Machine.execHelloTimer s
  | .helloReceive fc mac viaUs => Sys2Proof.Machine.execHelloReceive fc mac viaUs s
  | .routeTriggeredHello => Sys2Proof.Machine.execRouteTriggeredHello s
  | .neighbourAgeOut seat => Sys2Proof.Machine.execNeighbourAgeOut seat s
  | .routeExpiry dest => Sys2Proof.Machine.execRouteExpiry dest s
  | .floodRelay origin count => Sys2Proof.Machine.execFloodRelay origin count s
  | .beaconReceive fc mac => Sys2Proof.Machine.execBeaconReceive fc mac s
  | .claimReceive fc mac => Sys2Proof.Machine.execClaimReceive fc mac s
  | .leadLost => Sys2Proof.Machine.execLeadLost s
  | .claimSend => Sys2Proof.Machine.execClaimSend s
  | .electionWin => Sys2Proof.Machine.execElectionWin s
  | .joinRequest fc mac => Sys2Proof.Machine.execJoinRequest fc mac s
  | .joinGrant fc mac => Sys2Proof.Machine.execJoinGrant fc mac s
  | .seatTableAgeOut seat => Sys2Proof.Machine.execSeatTableAgeOut seat s
  | .demandReportTimer => Sys2Proof.Machine.execDemandReportTimer s
  | .demandReportReceive fc mac => Sys2Proof.Machine.execDemandReportReceive fc mac s
  | .allocationCycle => Sys2Proof.Machine.execAllocationCycle s
  | .shareApplyAt => Sys2Proof.Machine.execShareApplyAt s
  | .shareLapse => Sys2Proof.Machine.execShareLapse s
  | .soundFrameReceive fc snr => Sys2Proof.Machine.execSoundFrameReceive fc snr s
  | .toneMapReceive fc mac => Sys2Proof.Machine.execToneMapReceive fc mac s
  | .toneMapRefresh seat => Sys2Proof.Machine.execToneMapRefresh seat s
  | .toneMapExpiry seat => Sys2Proof.Machine.execToneMapExpiry seat s
  | .cmSlacParmReq pevMac => Sys2Proof.Machine.execCmSlacParmReq pevMac s
  | .cmStartAttenCharInd sounds => Sys2Proof.Machine.execCmStartAttenCharInd sounds s
  | .cmMnbcSoundInd atten => Sys2Proof.Machine.execCmMnbcSoundInd atten s
  | .cmAttenCharRsp => Sys2Proof.Machine.execCmAttenCharRsp s
  | .cmSlacMatchReq => Sys2Proof.Machine.execCmSlacMatchReq s
  | .tirTestMode r => Sys2Proof.Machine.execTirTestMode r s
  | .tirGpTestMode r => Sys2Proof.Machine.execTirGpTestMode r s
  | .courierStart => Sys2Proof.Machine.execCourierStart s
  | .laneSearchTimer lane => Sys2Proof.Machine.execLaneSearchTimer lane s
  | .laneLinkUp lane => Sys2Proof.Machine.execLaneLinkUp lane s
  | .laneLinkDown lane fault midFrame => Sys2Proof.Machine.execLaneLinkDown lane fault midFrame s
  | .moduleInsertRead lane ident a2 => Sys2Proof.Machine.execModuleInsertRead lane ident a2 s
  | .moduleA2Poll lane a2 => Sys2Proof.Machine.execModuleA2Poll lane a2 s
  | .switchIngressFrame port frame busy full residence => Sys2Proof.Machine.execSwitchIngressFrame port frame busy full residence s
  | .addressAgeOut vid mac => Sys2Proof.Machine.execAddressAgeOut vid mac s
  | .arpRequest mac ip target => Sys2Proof.Machine.execArpRequest mac ip target s
  | .icmpEchoRequest mac ip target fragment data => Sys2Proof.Machine.execIcmpEchoRequest mac ip target fragment data s
  | .cueUdpDatagram port ip udp checksumOk fragment data => Sys2Proof.Machine.execCueUdpDatagram port ip udp checksumOk fragment data s
  | .ptpSyncReceive offset sec ns => Sys2Proof.Machine.execPtpSyncReceive offset sec ns s
  | .ptpSyncTimeout => Sys2Proof.Machine.execPtpSyncTimeout s
  | .ptpSyncSend => Sys2Proof.Machine.execPtpSyncSend s
  | .slPatternGenWrite r => Sys2Proof.Machine.execSlPatternGenWrite r s
  | .slPatternChkWrite r => Sys2Proof.Machine.execSlPatternChkWrite r s
  | .slLoopbackWrite r => Sys2Proof.Machine.execSlLoopbackWrite r s
  | .readerPoll cards => Sys2Proof.Machine.execReaderPoll cards s
  | .rdrHostGrant r => Sys2Proof.Machine.execRdrHostGrant r s
  | .hostGrantTimeout => Sys2Proof.Machine.execHostGrantTimeout s
  | .samResponse sw => Sys2Proof.Machine.execSamResponse sw s
  | .rdrTestMode r => Sys2Proof.Machine.execRdrTestMode r s
  | .tagFieldOn => Sys2Proof.Machine.execTagFieldOn s
  | .tagFieldLoss => Sys2Proof.Machine.execTagFieldLoss s
  | .reqa => Sys2Proof.Machine.execReqa s
  | .wupa => Sys2Proof.Machine.execWupa s
  | .anticollision level nbits uid => Sys2Proof.Machine.execAnticollision level nbits uid s
  | .selectCascade level part => Sys2Proof.Machine.execSelectCascade level part s
  | .rats => Sys2Proof.Machine.execRats s
  | .sDeselect => Sys2Proof.Machine.execSDeselect s
  | .selectApplication aid => Sys2Proof.Machine.execSelectApplication aid s
  | .readIdentity => Sys2Proof.Machine.execReadIdentity s
  | .readWindow index le bad => Sys2Proof.Machine.execReadWindow index le bad s
  | .writeNote text vhMv vrMv => Sys2Proof.Machine.execWriteNote text vhMv vrMv s
  | .verifyPassword pw => Sys2Proof.Machine.execVerifyPassword pw s
  | .authenticate1 => Sys2Proof.Machine.execAuthenticate1 s
  | .authenticate2 data => Sys2Proof.Machine.execAuthenticate2 data s
  | .getStatus vhMv vrMv => Sys2Proof.Machine.execGetStatus vhMv vrMv s
  | .tagSecurityWrite r => Sys2Proof.Machine.execTagSecurityWrite r s
  | .statusPageUpdate cause => Sys2Proof.Machine.execStatusPageUpdate cause s
  | .tagNoteClear r => Sys2Proof.Machine.execTagNoteClear r s
  | .cardInsert slot => Sys2Proof.Machine.execCardInsert slot s
  | .cardAtr slot atr => Sys2Proof.Machine.execCardAtr slot atr s
  | .cardAtrTimeout slot => Sys2Proof.Machine.execCardAtrTimeout slot s
  | .cardRemove slot => Sys2Proof.Machine.execCardRemove slot s
  | .uartCharacterReceive u data parityErr framingErr => Sys2Proof.Machine.execUartCharacterReceive u data parityErr framingErr s
  | .xonSend u => Sys2Proof.Machine.execXonSend u s
  | .idleLine u => Sys2Proof.Machine.execIdleLine u s
  | .startEdgeWake => Sys2Proof.Machine.execStartEdgeWake s
  | .wakeRc16Check count => Sys2Proof.Machine.execWakeRc16Check count s
  | .breakDetect => Sys2Proof.Machine.execBreakDetect s
  | .stageDoorSettingsApply => Sys2Proof.Machine.execStageDoorSettingsApply s
  | .pmiCommandFrame => Sys2Proof.Machine.execPmiCommandFrame s
  | .pmiReply data => Sys2Proof.Machine.execPmiReply data s
  | .pmiReplyMissing => Sys2Proof.Machine.execPmiReplyMissing s
  | .uartRxDataRead r => Sys2Proof.Machine.execUartRxDataRead r s
  | .uartTxDataWrite r => Sys2Proof.Machine.execUartTxDataWrite r s
  | .uartTestWrite r => Sys2Proof.Machine.execUartTestWrite r s
  | .keypadKeyEvent key down => Sys2Proof.Machine.execKeypadKeyEvent key down s
  | .keypadFifoRead => Sys2Proof.Machine.execKeypadFifoRead s
  | .dspImageWrite r => Sys2Proof.Machine.execDspImageWrite r s
  | .fieldValueChange => Sys2Proof.Machine.execFieldValueChange s
  | .blinkPhase => Sys2Proof.Machine.execBlinkPhase s
  | .displayFrameEnd => Sys2Proof.Machine.execDisplayFrameEnd s
  | .displayTempRead => Sys2Proof.Machine.execDisplayTempRead s
  | .displayPowerOn => Sys2Proof.Machine.execDisplayPowerOn s
  | .railFault late => Sys2Proof.Machine.execRailFault late s
  | .slotDataMissing => Sys2Proof.Machine.execSlotDataMissing s
  | .displayPowerOff => Sys2Proof.Machine.execDisplayPowerOff s
  | .displayOffTimeout => Sys2Proof.Machine.execDisplayOffTimeout s
  | .abruptDischarge => Sys2Proof.Machine.execAbruptDischarge s
  | .railsDischarged => Sys2Proof.Machine.execRailsDischarged s
  | .displayColdRetry => Sys2Proof.Machine.execDisplayColdRetry s
  | .frontlightHoldExpiry => Sys2Proof.Machine.execFrontlightHoldExpiry s
  | .frontlightSinkFault sink => Sys2Proof.Machine.execFrontlightSinkFault sink s
  | .waveformSetLoad => Sys2Proof.Machine.execWaveformSetLoad s
  | .wngOpen r => Sys2Proof.Machine.execWngOpen r s
  | .wngChunk r dataBad => Sys2Proof.Machine.execWngChunk r dataBad s
  | .wngVerify r => Sys2Proof.Machine.execWngVerify r s
  | .verifyComplete sigOk => Sys2Proof.Machine.execVerifyComplete sigOk s
  | .wngCommit r => Sys2Proof.Machine.execWngCommit r s
  | .wngCommitCrc r => Sys2Proof.Machine.execWngCommitCrc r s
  | .wngConfirm r => Sys2Proof.Machine.execWngConfirm r s
  | .wngRollback r => Sys2Proof.Machine.execWngRollback r s
  | .wngAbandon r => Sys2Proof.Machine.execWngAbandon r s
  | .reverifyTimer => Sys2Proof.Machine.execReverifyTimer s
  | .stageManagerSleep => Sys2Proof.Machine.execStageManagerSleep s
  | .vcoreWaitTimeout => Sys2Proof.Machine.execVcoreWaitTimeout s
  | .samWaitingTimeExpiry => Sys2Proof.Machine.execSamWaitingTimeExpiry s
  | .slacRunTimeout => Sys2Proof.Machine.execSlacRunTimeout s
  | .sessionSetupReq sid decodable => Sys2Proof.Machine.execSessionSetupReq sid decodable s
  | .authorizationReq sid decodable contract => Sys2Proof.Machine.execAuthorizationReq sid decodable contract s
  | .ptpAnnounceReceive prio1 cls accuracy variance prio2 ident timescale port => Sys2Proof.Machine.execPtpAnnounceReceive prio1 cls accuracy variance prio2 ident timescale port s
  | .slModuleRemoved lane => Sys2Proof.Machine.execSlModuleRemoved lane s
  | .tagHalt => Sys2Proof.Machine.execTagHalt s

end Sys2Proof.Machine
end

