-- ==== Sys2Proof/Machine/Tick.lean ====
section
/-!
DEFINITION. What the block does between commands: it serves the oldest Cue request that waits (spec/07_object_dictionary.md
R180), or one unit of time passes (notes/assumptions/5.md).
-/

namespace Sys2Proof.Machine

open Sys2Proof

/-- Stage time slewed by one unit every 10,000 units, which is 100 ppm (R381). -/
def slewTick (s : State) : State :=
  if s.tir.slew = 0 then s
  else if s.tir.slewAcc + 1 < 10000 then s.setTir { s.tir with slewAcc := s.tir.slewAcc + 1 }
  else
    let up := decide (0 < s.tir.slew)
    let t := s.setTir { s.tir with slew := s.tir.slew + (if up then -1 else 1), slewAcc := 0 };
    { t with now := wrapTime (if up then t.now + 1 else t.now + (2 ^ 64 - 1)) }

/-- One unit of time, 2^-24 s: stage time counts while VAON holds (R6), and a note clear in progress writes one slot (R435). -/
def tick (s : State) : State :=
  let s := clearStep (if s.pwr.vaon then slewTick { s with now := wrapTime (s.now + 1) } else s);
  { s with mono := s.mono + 1 }

/-- A step of a block on which no command waits. -/
def idle (s : State) : State := if s.cue.inbox = [] then tick s else serveOldest s

/-- The command at the front of the queue taken: its effect on the state with the queue's rest. -/
def takeCommand (c : Instr) (rest : List Instr) (s : State) : Host.Outcome State Fault Refusal :=
  exec c { s with pending := rest }

end Sys2Proof.Machine
end

