-- ==== Sys2Proof/Safety.lean ====
section
/-!
DEFINITION. What a sound state of the post is: the form in which memory and registers are kept, the lists that stand for a
fixed number of things, key K4, which no command changes (spec/07_object_dictionary.md R171), and the queue, which only the
step changes.
-/

namespace Sys2Proof.Machine

open Sys2Proof

/-- Every register of the list lies above `lo`, differs from its default and fits its object's width; the PIDs rise. -/
def Regs.wfAbove : Nat → Regs → Bool
  | _, [] => true
  | lo, (p, v) :: t =>
    decide (lo ≤ p) && !(v == dfltOf p) && decide (v < 2 ^ (8 * sizeOf' p)) && Regs.wfAbove (p + 1) t

/-- The canonical form of the registers: equal register files are equal data. -/
def Regs.wf (r : Regs) : Bool := Regs.wfAbove 0 r

/-- A sound state with key K4 equal to `k.1` and the commands of `k.2` waiting: memory (R137) and registers (R14) are
canonical, and there are five keys (R171), 64 subscription slots (R188), 64 domains (R92), 32 channels (R119) and 24 islands
(R38). -/
def State.ok (k : Nat × List Instr) (s : State) : Prop :=
  Memory.wf s.mem = true ∧ Regs.wf s.regs = true ∧ s.cue.keys.length = 5 ∧ s.key 4 = k.1 ∧ s.cue.subs.length = 64
    ∧ s.pwr.dom.length = 64 ∧ s.cbd.ch.length = 32 ∧ s.clk.islands.length = 24 ∧ s.pending = k.2

/-- A command completes: it answers a next state, of which `Q` holds. -/
def Completes (c : Instr) (s : State) (Q : State → Prop) : Prop := ∃ t, exec c s = .next t ∧ Q t

/-- Every register outside a list reads as before. -/
def SameRegs (l : List Nat) (s t : State) : Prop := ∀ p, p ∉ l → t.reg p = s.reg p

/-- Every byte of memory reads as before. -/
def SameMem (s t : State) : Prop := ∀ a, t.byte a = s.byte a

/-- The frame of memory for a store of `n` bytes at an address: every other byte reads as before. -/
def StoresOnly (x n : Nat) (s t : State) : Prop := ∀ a, (a < x ∨ x + n ≤ a) → t.byte a = s.byte a

/-- The frame of a command that stores nothing: registers outside a list and all of memory read as before. -/
def Keeps (l : List Nat) (s t : State) : Prop := SameRegs l s t ∧ SameMem s t

/-! ### Cue requests that are accepted (R178) -/

/-- What the Cue server keeps of a request whose CMAC verified under the epoch in force. -/
def servingOf (op : Nat) (r : Req) (s : State) : Serving :=
  { op := op, req := r, late := false, dataBad := false, master := masterOf s r, level := reqKey r, key := s.key (reqKey r)
    ident := identOf r s, epoch := s.epoch }

/-- A request of a master that passes steps 1 to 5 of R178 at once: nothing waits before it, its format, address and CMAC are
right, its batons are its master's already, its SEQ follows, and no forced start of I00 waits for its reply. -/
def Accepted (op : Nat) (r : Req) (s : State) : Prop :=
  s.cue.inbox = [] ∧ served r.via s = true ∧ frameOk op r = true ∧ addressed op r s = true ∧ isBroadcast r = false
    ∧ verdict op r s = .passed s.epoch ∧ s.epoch ≠ 0 ∧ masterOf s r ≠ .none
    ∧ batonStep (servingOf op r s) (noteVerified r s) = (true, noteVerified r s)
    ∧ seqVerdict (masterOf s r) r.seq s = .accepted ∧ s.pwr.forcedStart = false

/-- The state in which an accepted request is executed: the frame counted, its master heard, its SEQ taken (R30, R179). -/
def heard (r : Req) (s : State) : State := setSeq (masterOf s r) r.seq (noteVerified r s)

/-- The reply to a request kept among the last eight and sent (R179). -/
def answered (v : Serving) (b : Reply) (u : State) : State :=
  sendReply v.req (v.reply u b) (storeReply v.master v.req.seq (v.reply u b) u)

/-- An accepted WRITE of an object outside area E and outside the safety blocks that passes steps 6 to 10 of R178 and
whose access to the object does not abort (R59). -/
def AcceptedWrite (r : Req) (s : State) : Prop :=
  Accepted opWrite r s ∧ areaOf r.pid ≠ 0xE ∧ inBlock r.pid = false
    ∧ judgeWrite (reqKey r) r.pid r.payload (heard r s) = resOk ∧ accessAborts (heard r s) r.pid = false

/-- The WRITE left `u` behind it and was answered OK. -/
def Wrote (r : Req) (s u t : State) : Prop := t = answered (servingOf opWrite r s) (resOk, []) u

end Sys2Proof.Machine
end

