-- ==== Sys2Proof/Certificates/Slice0/Obligations.lean ====
section
/-!
DEFINITION. The statements for the provers. Each names the rules of spec/ that it rests on; `Completes c s Q` says that
command `c` answers a next state of which `Q` holds, `Keeps l` that nothing but the registers of `l` changed among registers
and memory.
-/

open Sys2Proof Sys2Proof.Machine

/-- Where a command waits at the front of the queue, the step is that command's execution on the state whose queue is
the rest. The queue is the model's form of the commands that reach the post (assumption 8). Rests on R80, R180. -/
def Obligations.StepServesTheFront : Prop :=
  ∀ (s : State) (c : Instr) (rest : List Instr), s.pending = c :: rest → step s = exec c { s with pending := rest }

/-- The model's choice (assumption 5): on an empty queue with no Cue request waiting a step lets 2^-24 s pass, which
stage time counts modulo 2^64 while VAON is good and no slewing is due; a note clear in progress writes its next slot
to 0 in that time, and after the last TAG_NOTE_NEXT is 1 (assumption 100); a Cue request that waits is served instead.
Rests on R6, R180, R435. -/
def Obligations.IdlePassesTime : Prop :=
  ∀ (s : State), s.pending = [] →
      (s.cue.inbox = [] → s.tag.clearing = none → s.pwr.vaon = true → s.tir.slew = 0 →
        step s = .next { s with now := wrapTime (s.now + 1), mono := s.mono + 1 }) ∧
      (s.cue.inbox = [] → s.tag.clearing = none → s.pwr.vaon = false → step s = .next { s with mono := s.mono + 1 }) ∧
      (∀ i : Nat, s.cue.inbox = [] → s.tag.clearing = some i → i < 191 → s.pwr.vaon = false →
        step s = .next { (s.setWord (noteAddr i) 0) with
          tag := { s.tag with clearing := some (i + 1) }, mono := s.mono + 1 }) ∧
      (s.cue.inbox = [] → s.tag.clearing = some 191 → s.pwr.vaon = false →
        step s = .next { ((s.setWord (noteAddr 191) 0).setReg P.tagNoteNext 1) with
          tag := { s.tag with clearing := none }, mono := s.mono + 1 }) ∧
      (∀ (i : Inbound) (l : List Inbound), s.cue.inbox = i :: l →
        step s = .next (serveRequest i.opcode false i.late i.req { s with cue := { s.cue with inbox := l } }))

/-- At reset memory and registers are in canonical form with nothing listed, every object reads its default, key K4 is
the model's zero (assumption 4), no command waits, and the keys, subscriptions, domains, channels and islands are 5,
64, 64, 32 and 24. Rests on R14, R38, R92, R119, R137, R171, R188. -/
def Obligations.ResetIsSound : Prop :=
  State.reset.ok (0, []) ∧ (∀ p : Nat, State.reset.reg p = dfltOf p) ∧ (∀ a : Nat, State.reset.byte a = blankByte)

/-- From any sound state, whichever of the 338 commands stands at the front and whatever its operands, the next state
is sound: memory keeps its canonical form, every register lies within its width and its default is not listed, the
lists that stand for the keys, subscriptions, domains, channels and islands keep their lengths, key K4 is unchanged,
and the queue has lost its front and nothing else. Rests on R14, R38, R92, R119, R137, R171, R188. -/
def Obligations.StepKeepsSound : Prop :=
  ∀ (k : Nat × List Instr) (s t : State), s.ok k → step s = .next t → t.ok (k.1, k.2.tail)

/-- For every state, object and value: after a write the object reads the value cut to its width, a cleared object
reads its default, and every other object reads as before. Rests on R10, R11, R14. -/
def Obligations.RegistersReadBack : Prop :=
  ∀ (s : State) (p v : Nat),
      (s.setReg p v).reg p = v % 2 ^ (8 * sizeOf' p) ∧ (s.clearReg p).reg p = dfltOf p ∧
        ∀ q, q ≠ p → (s.setReg p v).reg q = s.reg q ∧ (s.clearReg p).reg q = s.reg q

/-- In canonical memory, bytes written at an address read back there, every byte outside them reads as before, and the
memory is canonical again; a word written reads back as its 128 bits. Rests on R5, R139, R142. -/
def Obligations.MemoryReadsBack : Prop :=
  ∀ (s : State) (x w : Nat) (l : Bytes), Memory.wf s.mem = true → (∀ b ∈ l, b < 256) →
      (s.setBytes x l).bytes x l.length = l ∧ (∀ a, a < x ∨ x + l.length ≤ a → (s.setBytes x l).byte a = s.byte a) ∧
        Memory.wf (s.setBytes x l).mem = true ∧ (s.setWord x w).word x = w % 2 ^ 128

/-- Whoever holds the batons, step 4 of R178 lets a READ and a BULK_READ pass and changes nothing, and their result is
never BATON. Cites R26. -/
def Obligations.ReadsNeedNoBaton : Prop :=
  ∀ (v : Serving) (s : State), v.op = opRead ∨ v.op = opBulkRead →
      batonStep v s = (true, s) ∧ (serveOp v s).1.1 ≠ resBaton

/-- A RELEASE by the area's holder is answered OK and leaves that baton free; one by a master that does not hold it is
answered BATON, the batons and every other register but those of the verified request stand, and memory is as it was.
Cites R31. -/
def Obligations.ReleaseOnlyByTheHolder : Prop :=
  (∀ (s : State) (r : Req) (h : State) (a : Nat), Accepted opRelease r s → r.payload = [] → a < 16 → r.pid = a *
    0x100000 → h = heard r s → s.holder a = (masterOf s r).holds → Completes (.release r) s fun t => t = answered
    (servingOf opRelease r s) (resOk, []) (changeBaton (servingOf opRelease r s) 3 a 0 h) ∧ t.holder a = 0) ∧
  (∀ (s : State) (r : Req), s.cue.inbox = [] → served r.via s = true → frameOk opRelease r = true → addressed
    opRelease r s = true → verdict opRelease r s = .passed s.epoch → masterOf s r ≠ .none → s.pwr.forcedStart = false
    → (s.holder (areaOf r.pid) == (masterOf s r).holds) = false → Completes (.release r) s fun t => t = sendReply r
    ((servingOf opRelease r s).reply (noteVerified r s) (resBaton, [])) (noteVerified r s) ∧ t.reg P.smgBatonHolder =
    s.reg P.smgBatonHolder ∧ SameMem s t)

/-- For each of the 32 channels, bit n of the value that CBD_PENDING reads is set exactly when channel n is full and
its notice has not been taken. Cites R127. -/
def Obligations.PendingChannels : Prop :=
  ∀ (s : State) (n : Nat), n < 32 → s.cbd.ch.length = 32 →
      bitOf (ofBytes (objBytes s P.cbdPending)) n = ((s.chan n).full && !(s.chan n).taken)

/-- A read of the SRAM by a core is listed with the word as its answer and changes no register and no byte; a write of
one word stores exactly that word; a request watchdog withdraws a request that was not taken and a response watchdog
one that was, each with an ABORTED completion; the fall of PRESENT aborts every request to that port; a response that
returns is delivered and leaves the list; an event packet reaches an island that is present. No request that waits at
an output port stands at a higher level than the one the hub serves next (the level counts one step for 64 hub cycles
of waiting: assumption 82). Rests on R42, R44, R46, R47, R48, R51, R52, R53, R54. -/
def Obligations.FabricRequests : Prop :=
  (∀ (s : State) (init addr tag : Nat), coreOrDma init = true → s.present (initIsland init) = true → s.present 7 =
    true → s.present 13 = true → s.clockStopped 7 = false → s.clockStopped 13 = false → (∀ q ∈ s.fab.reqs, q.route =
    13 → q.passed = true) → s.request init tag = none → 0x01000000 ≤ addr → addr < 0x01800000 → s.domOn (20 + (addr -
    0x01000000) / 0x100000) = true → Completes (.fabricReadRequest init addr tag 1 0xFFFF false) s fun t => t.fab.reqs
    = s.fab.reqs ++ [{ init := init, tag := tag, prio := stampedPrio init, since := s.mono, addr := addr, beats := 1,
                         byteEn := 0xFFFF, write := false, data := [], route := 13, passed := true, resp := some
                         (stOk, [s.word (addr / 16 * 16)]) }] ∧ Keeps [] s t) ∧
  (∀ (s : State) (init addr tag w : Nat), coreOrDma init = true → s.present (initIsland init) = true → s.present 7 =
    true → s.present 13 = true → s.clockStopped 7 = false → s.clockStopped 13 = false → (∀ q ∈ s.fab.reqs, q.route =
    13 → q.passed = true) → 0x01000000 ≤ addr → addr < 0x01800000 → s.domOn (20 + (addr - 0x01000000) / 0x100000) =
    true → Memory.wf s.mem = true → w < 2 ^ 128 → Completes (.fabricWriteRequest init addr tag 0xFFFF [w]) s fun t =>
    t.word (addr / 16 * 16) = w ∧ StoresOnly (addr / 16 * 16) 16 s t ∧ SameRegs [] s t) ∧
  (∀ (s : State) (init tag : Nat) (q : FabReq), s.request init tag = some q → q.passed = false → s.present (initIsland
    q.init) = true → Completes (.requestWatchdogExpiry init tag) s fun t => t.fab.reqs = s.fab.reqs.eraseP (fun x =>
    x.named init tag) ∧ t.fab.delivered = ⟨q.init, q.tag, stampedPrio q.init, stAborted, []⟩ :: s.fab.delivered ∧
    SameMem s t) ∧
  (∀ (s : State) (init tag : Nat) (q : FabReq), s.request init tag = some q → q.passed = true → s.present (initIsland
    q.init) = true → s.pwr.forcedStart = false → Completes (.responseWatchdogExpiry init tag) s fun t => t.fab.reqs =
    s.fab.reqs.eraseP (fun x => x.named init tag) ∧ t.fab.delivered = ⟨q.init, q.tag, stampedPrio q.init, stAborted,
    []⟩ :: s.fab.delivered ∧ SameMem s t) ∧
  (∀ (s : State) (island : Nat), Completes (.portPresentFall island) s fun t => t.fab.reqs = s.fab.reqs.filter (fun q
    => !(q.route == island)) ∧ SameMem s t) ∧
  (∀ (s : State) (init tag data : Nat) (q : FabReq), s.request init tag = some q → olderOpen s q = false → q.resp =
    some (stOk, [data]) → q.addr < 0x10000000 → q.beats = 1 → (∀ x ∈ s.fab.reqs, x.route = q.route → x.passed = true)
    → s.present (initIsland q.init) = true → s.pwr.forcedStart = false → Completes (.fabricResponseReturn init tag) s
    fun t => t.fab.reqs = s.fab.reqs.eraseP (fun x => x.named init tag) ∧ t.fab.delivered = ⟨q.init, q.tag,
    stampedPrio q.init, stOk, [data]⟩ :: s.fab.delivered ∧ Keeps [] s t) ∧
  (∀ (s : State) (island event : Nat), s.present island = true → Completes (.fabricEventPacket island event) s fun t
    => t.fab.events = (island, event) :: s.fab.events ∧ t.sent = .event island event :: s.sent ∧ Keeps [] s t) ∧
  (∀ (s : State) (route : Nat) (q x : FabReq), nextAt s route = some q → x ∈ waitingAt s route → x.rank s.mono ≤
    q.rank s.mono)

/-- On a powered Callboard a permitted whole write to an empty channel with a present receiver posts the notice with
the sender's identity; the receiver's delivered read in acknowledge mode takes it; the receiver's ACK and the sender's
WITHDRAW empty the channel with results 2 and 4; the last sender's read of STATUS clears its CBD_RESULT_NEW bit; the
Stage manager writes CONFIG. Other registers and all memory stay. Rests on R119, R120, R121, R123, R125, R126, R128,
R129, R133, R134. -/
def Obligations.CallboardNotices : Prop :=
  (∀ (s : State) (ch init word : Nat), s.cbdOn = true → ch < s.cbd.ch.length → (s.chan ch).permits init = true →
    s.present (initIsland (s.chan ch).receiver) = true → (s.chan ch).full = false → Completes (.noticePost ch init
    word 1 0xFFFF) s fun t => t.chan ch = { s.chan ch with notice := setBits (word % 2 ^ 85) 84 80 init, full := true,
                                                             taken := false, inDelivery := false, result := 0,
                                                             resultCode := 0, resultTag := noticeTag word, notices :=
                                                             ((s.chan ch).notices + 1) % 2 ^ 16, lastSender := init }
    ∧ t.sent.head? = some (.bus init stOk []) ∧ Keeps [P.cbdResultNew, P.cbdRetractions] s t) ∧
  (∀ (s : State) (ch init : Nat), s.cbdOn = true → ch < s.cbd.ch.length → (s.chan ch).receiver = init → (s.chan
    ch).full = true → (s.chan ch).taken = false → (s.chan ch).ackMode = true → Completes (.noticeTake ch init true) s
    fun t => t.chan ch = { s.chan ch with inDelivery := false, taken := true } ∧ t.sent.head? = some (.bus init stOk
    [(s.chan ch).notice]) ∧ Keeps [] s t) ∧
  (∀ (s : State) (ch init code : Nat), s.cbdOn = true → ch < s.cbd.ch.length → (s.chan ch).receiver = init → (s.chan
    ch).full = true → (s.chan ch).taken = true → (s.chan ch).ackMode = true → s.cbd.cancels = [] → s.cbd.retracts = []
    → Completes (.noticeAck ch init code) s fun t => t.chan ch =
    { s.chan ch with notice := 0, full := false, taken := false, inDelivery := false, result := 2, resultCode := code
                       % 2 ^ 16, resultTag := noticeTag (s.chan ch).notice } ∧ t.sent.head? = some (.bus init stOk [])
    ∧ Keeps [P.cbdResultNew, P.pwFabEventDrops] s t) ∧
  (∀ (s : State) (ch init tag : Nat), s.cbdOn = true → ch < s.cbd.ch.length → (s.chan ch).permits init = true →
    (s.chan ch).full = true → (s.chan ch).taken = false → (s.chan ch).inDelivery = false → noticeSender (s.chan
    ch).notice = init → noticeTag (s.chan ch).notice = tag % 2 ^ 16 → s.cbd.cancels = [] → s.cbd.retracts = [] →
    Completes (.noticeWithdraw ch init tag) s fun t => t.chan ch =
    { s.chan ch with notice := 0, full := false, taken := false, inDelivery := false, result := 4, resultCode := 0,
                       resultTag := tag % 2 ^ 16 } ∧ t.sent.head? = some (.bus init stOk []) ∧ Keeps [P.cbdResultNew,
    P.pwFabEventDrops] s t) ∧
  (∀ (s : State) (ch init : Nat), s.cbdOn = true → (s.chan ch).lastSender = init → Completes (.callboardStatusRead ch
    init) s fun t => t.sent.head? = some (.bus init stOk [(s.chan ch).status]) ∧ bitOf (t.reg P.cbdResultNew) ch =
    false ∧ Keeps [P.cbdResultNew] s t) ∧
  (∀ (s : State) (ch word : Nat), s.cbdOn = true → ch < s.cbd.ch.length → Completes (.callboardConfigWrite ch 0x0C
    word) s fun t => t.chan ch = { s.chan ch with config := word % 2 ^ 38 } ∧ Keeps [] s t)

/-- The fall of a receiver's PRESENT leaves no full channel of it; a reset of the Callboard empties every channel,
sets CONFIG to its table and clears its counters, and each sender keeps the notice it held; the cancellation of a
provisional notice that was not taken withdraws it, and of one that was delivered or acknowledged posts a retraction
with the same TAG; an Iron event is latched with the next sequence number, delivered and recorded over the keeper
channel while the Stage manager runs, and posted on a channel of the Iron bridge once it is free. Rests on R58, R120,
R130, R131, R136, R530. -/
def Obligations.CallboardLosses : Prop :=
  (∀ (s : State) (island : Nat), s.cbd.cancels = [] → s.cbd.retracts = [] → s.cbd.ch.length = 32 → Completes
    (.receiverReset island) s fun t => (∀ n < 32, (t.chan n).full = true → initIsland (t.chan n).receiver ≠ island) ∧
    SameMem s t) ∧
  (∀ (s : State), Completes (.callboardReset) s fun t => (∀ n < 32, t.chan n = Channel.empty (dfltOf (P.cbdConfig n)))
    ∧ t.reg P.cbdResultNew = 0 ∧ t.reg P.cbdRefused = 0 ∧ t.reg P.cbdAborted = 0 ∧ t.reg P.cbdRetractions = 0 ∧ Keeps
    [P.cbdResultNew, P.cbdRefused, P.cbdAborted, P.cbdRetractions] s t) ∧
  (∀ (s : State), s.cbd.cancels = [] → Completes (.callboardReset) s fun t => (∀ n < 32, (s.chan n).full = true → (n,
    (s.chan n).notice) ∈ t.cbd.lost)) ∧
  (∀ (s : State) (sender tag ch : Nat), s.cbdOn = true → ch < s.cbd.ch.length → s.cbd.cancels = [] → s.cbd.retracts =
    [] → s.provisional sender tag ch = some 0 → (s.chan ch).permits sender = true → (s.chan ch).full = true → (s.chan
    ch).taken = false → (s.chan ch).inDelivery = false → noticeSender (s.chan ch).notice = sender → noticeTag (s.chan
    ch).notice = tag → tag < 2 ^ 16 → Completes (.provisionalCancel sender tag [ch]) s fun t => (t.chan ch).full =
    false ∧ (t.chan ch).result = 4 ∧ (t.chan ch).resultTag = tag ∧ Keeps [P.cbdResultNew, P.pwFabEventDrops] s t) ∧
  (∀ (s : State) (sender tag ch r : Nat), s.cbdOn = true → ch < s.cbd.ch.length → s.cbd.retracts = [] → s.provisional
    sender tag ch = some r → r = 1 ∨ r = 2 → (s.chan ch).permits sender = true → s.present (initIsland (s.chan
    ch).receiver) = true → (s.chan ch).full = false → tag < 2 ^ 16 → sender < 32 → Completes (.provisionalCancel
    sender tag [ch]) s fun t => (t.chan ch).full = true ∧ noticeKind (t.chan ch).notice = 4 ∧ noticeTag (t.chan
    ch).notice = tag ∧ noticeSender (t.chan ch).notice = sender ∧ Keeps [P.cbdResultNew, P.cbdRetractions] s t) ∧
  (∀ (s : State) (code unit : Nat), s.pwr.ironOn = true → Completes (.ironEventLatch code unit) s fun t =>
    t.iron.events = s.iron.events ++ [{ seq := s.iron.next, code := code, unit := unit, faults := s.reg P.irnFaults %
                                          2 ^ 16, keeper := false, main0 := false, main1 := false }] ∧ t.iron.next =
    (s.iron.next + 1) % 2 ^ 24 ∧ Keeps [] s t) ∧
  (∀ (s : State), s.managerRuns = true → s.domOn 0 = true → s.pwr.ironOn = true → Completes (.ironEventKeeperDelivery)
    s fun t => t.iron.events = (s.iron.events.map fun e => { e with keeper := true }).filter fun e => !(e.main0 &&
    e.main1)) ∧
  (∀ (s : State) (e : IronEvent), s.managerRuns = true → s.domOn 0 = true → s.pwr.ironOn = true → s.iron.events = [e]
    → e.keeper = false → e.code ≠ 0x12 → Completes (.ironEventKeeperDelivery) s fun t => t = record 0x34 [eventWord
    e.code 0 e.unit e.faults]
    { s with iron := { s.iron with events := if e.main0 && e.main1 then [] else [{ e with keeper := true }] } }) ∧
  (∀ (s : State) (ch : Nat) (e : IronEvent) (l : List IronEvent), ch ≤ 1 → s.present 22 = true → s.iron.toPost ch = e
    :: l → s.cbdOn = true → (s.chan ch).permits 0x1F = true → s.present (initIsland (s.chan ch).receiver) = true →
    (s.chan ch).full = false → ch < s.cbd.ch.length → Completes (.ironEventMainPost ch) s fun t => (t.chan ch).full =
    true ∧ (t.chan ch).lastSender = 0x1F ∧ (t.chan ch).resultTag = e.seq % 2 ^ 16 ∧ t.iron.wait0 = (if ch = 0 then
    false else s.iron.wait0) ∧ SameMem s t) ∧
  (∀ (s : State) (ch : Nat) (e : IronEvent) (l : List IronEvent), ch ≤ 1 → (if ch = 0 then s.iron.wait0 else
    s.iron.wait1) = true → s.present 22 = true → s.iron.toPost ch = e :: l → s.cbdOn = true → (s.chan ch).permits 0x1F
    = true → s.present (initIsland (s.chan ch).receiver) = true → (s.chan ch).full = false → ch < s.cbd.ch.length →
    Completes (.ironEventRepost ch) s fun t => (t.chan ch).full = true ∧ (t.chan ch).lastSender = 0x1F ∧ (t.chan
    ch).resultTag = e.seq % 2 ^ 16 ∧ (if ch = 0 then t.iron.wait0 else t.iron.wait1) = false ∧ SameMem s t)

/-- A passing window clears a good source's failures and one failing window counts; XO25 judged good begins the trim
search at code 0x80; a judge whose limit ends without its run fails its source, XO32K's leaving the RTC, and so does a
dead edge; RC16's dead edge restarts it on its factory code and the Stage manager on cause 0x10; a judge is retried
from the beginning; a trim measurement puts the next code of the search, or the step of a later trim, in use, and the
last of the search starts judge 0; the retrim timer starts a trim. Rests on R65, R66, R67, R68, R69, R71, R78, R82. -/
def Obligations.ClockJudges : Prop :=
  (∀ (s : State) (j count : Nat) (g : Judge), s.clk.judges[j]? = some g → g.active = true → ¬ (j = 0 ∧
    s.clk.search.isSome = true) → s.src (judgeSource j) = 2 → windowPasses s j count = true → Completes
    (.judgeWindowEnd j count) s fun t => t.clk.judges[j]? = some { g with fails := 0 } ∧ Keeps [] s t) ∧
  (∀ (s : State) (j count : Nat) (g : Judge), s.clk.judges[j]? = some g → g.active = true → g.fails = 0 → ¬ (j = 0 ∧
    s.clk.search.isSome = true) → s.src (judgeSource j) = 2 → windowPasses s j count = false → Completes
    (.judgeWindowEnd j count) s fun t => t.clk.judges[j]? = some { g with fails := 1 } ∧ Keeps [] s t) ∧
  (∀ (s : State) (count : Nat) (g : Judge), s.clk.judges[0]? = some g → g.active = true → s.clk.search = none →
    s.clk.src.length = 12 → s.src 1 ≠ 2 → windowPasses s 0 count = true → s.reg (P.ckJudgeK 0) ≤ g.passes + 1 →
    Completes (.judgeWindowEnd 0 count) s fun t => t.src 1 = 2 ∧ t.clk.search = some 0 ∧ t.clk.trim = 0x80 ∧
    (s.srcGood (inputSource 8 (s.isl 8).sel) = true → s.srcGood (inputSource 22 (s.isl 22).sel) = true → Keeps [] s
    t)) ∧
  (∀ (s : State) (j : Nat) (g : Judge), j < 7 → s.clk.judges[j]? = some g → g.active = true → s.clk.src.length = 12 →
    s.src (judgeSource j) ≠ 2 → Completes (.judgeLimitExpiry j) s fun t => t.src (judgeSource j) = 3 ∧
    t.clk.judges[j]? = some ⟨false, 0, 0⟩ ∧ (j = 1 → t.clk.rtcOnXo = false ∧ Keeps [] s t)) ∧
  (∀ (s : State) (j : Nat), s.src (judgeSource j) = 3 → j ≤ 2 → j = 0 ∨ s.src 1 = 2 → j < s.clk.judges.length →
    Completes (.judgeRetry j) s fun t => t.clk.judges[j]? = some ⟨true, 0, 0⟩ ∧ Keeps [] s t) ∧
  (∀ (s : State), s.pwr.vaon = true → s.src 2 ≠ 0 → s.clk.src.length = 12 → Completes (.monitorDeadEdge 2) s fun t =>
    t.src 2 = 3 ∧ t.clk.rtcOnXo = false ∧ Keeps [] s t) ∧
  (∀ (s : State), s.pwr.vaon = true → s.domOn 0 = true → s.clk.src.length = 12 → Completes (.monitorDeadEdge 0) s fun
    t => t.src 0 = 2 ∧ t.clk.trim = s.clk.factoryCode ∧ t.pwr.boot = bootAgain s.pwr.boot ∧ t.pwr.cause = 0x10 ∧
    t.cue.running = false ∧ t.clk.owed = s.clk.owed ++ [(0, 0, 0, 4, s.now)]) ∧
  (∀ (s : State) (c : Nat), s.pwr.vaon = true → 0 < c → c ≤ 11 → (c ≤ 8 → s.src c ≠ 0) → s.clk.src.length = 12 →
    Completes (.monitorDeadEdge c) s fun t => t.src c = 3 ∧ t.srcGood c = false) ∧
  (∀ (s : State) (k count : Nat), s.clk.search = some k → k < 7 → Completes (.rc16TrimMeasurement count) s fun t =>
    t.clk.trim = searchCode k s.clk.trim count ∧ t.clk.search = some (k + 1) ∧ (-32768 ≤ trimError count ∧ trimError
    count < 32768 → t.regI P.ckRc16Error = trimError count) ∧ Keeps [P.ckRc16Error] s t) ∧
  (∀ (s : State) (count : Nat), s.clk.search = some 7 → 0 < s.clk.judges.length → Completes (.rc16TrimMeasurement
    count) s fun t => t.clk.trim = searchCode 7 s.clk.trim count ∧ t.clk.search = none ∧ t.clk.judges[0]? = some
    ⟨true, 0, 0⟩ ∧ Keeps [P.ckRc16Error] s t) ∧
  (∀ (s : State) (count : Nat), s.clk.search = none → s.clk.trimming = true → Completes (.rc16TrimMeasurement count) s
    fun t => t.clk.trim = trimStep s.clk.trim count ∧ t.clk.trimming = false ∧ Keeps [P.ckRc16Error] s t) ∧
  (∀ (s : State), s.src 1 = 2 → s.clk.search = none → Completes (.rc16RetrimTimer) s fun t => t.clk.trimming = true ∧
    Keeps [] s t)

/-- A request to a good input starts a switch, which hangs where the old source is not good; its completion selects
the input; a switch that hangs is listed in CK_HUNG, or forced where CK_FORCE_EN allows it, and the island is held in
reset on the new input; the release of the reset restarts the island, and of I00 the Stage manager alone, whose books
wait until it runs; a failed PLL is enabled again unless it is kept failed, and its judge starts at lock; CK_OBS
carries the source that CK_OBS_SEL selects while it runs, divided, and is low while it does not. Rests on R526, R73,
R74, R76, R77, R79, R80, R84, R63, R67, R103. -/
def Obligations.ClockSwitches : Prop :=
  (∀ (s : State) (n i : Nat), n ≠ 1 → i < (islandInputs n).length → s.srcGood (inputSource n i) = true → (s.isl
    n).switchTo = none → (s.isl n).sel ≠ i → n < s.clk.islands.length → Completes (.clockSwitchRequest n i) s fun t =>
    t.isl n = { s.isl n with switchTo := some i, hung := !(s.srcGood (inputSource n (s.isl n).sel)) } ∧ (s.srcGood
    (inputSource n (s.isl n).sel) = true ∨ (n ≠ 8 ∧ n ≠ 22) → Keeps [] s t)) ∧
  (∀ (s : State) (n i : Nat), (s.isl n).switchTo = some i → (s.isl n).hung = false → (s.isl n).waiting = none → n <
    s.clk.islands.length → Completes (.clockSwitchComplete n) s fun t => t.isl n =
    { s.isl n with sel := i, switchTo := none, waiting := none, listed := false } ∧ Keeps [] s t) ∧
  (∀ (s : State) (n i : Nat), (s.isl n).switchTo = some i → bitOf (s.reg P.ckForceEn) n = false → s.cue.route = none →
    n < s.clk.islands.length → Completes (.clockHangTimeout n) s fun t => t.isl n = { s.isl n with listed := true } ∧
    Keeps [] s t) ∧
  (∀ (s : State) (n i : Nat), (s.isl n).switchTo = some i → bitOf (s.reg P.ckForceEn) n = true → s.clk.islands.length
    = 24 → n < 24 → Completes (.clockHangTimeout n) s fun t => (t.isl n).inReset = true ∧ (t.isl n).sel = i ∧ (t.isl
    n).switchTo = none ∧ (t.isl n).forced = some (inputSource n (s.isl n).sel, inputSource n i, 1)) ∧
  (∀ (s : State) (f : Nat × Nat × Nat), (s.isl 0).forced = some f → 0 < s.clk.islands.length → Completes
    (.forcedSwitchResetRelease 0) s fun t => (t.isl 0).inReset = false ∧ (t.isl 0).forced = none ∧ t.pwr.boot =
    .handOver ∧ t.pwr.cause = 0x80 ∧ t.clk.owed = s.clk.owed ++ [(0, f.1, f.2.1, f.2.2, s.now)] ∧ Keeps [] s t) ∧
  (∀ (s : State) (n : Nat) (f : Nat × Nat × Nat), 0 < n → n < 24 → (s.isl n).forced = some f → s.clk.islands.length =
    24 → Completes (.forcedSwitchResetRelease n) s fun t => (t.isl n).inReset = false ∧ (t.isl n).forced = none) ∧
  (∀ (s : State) (p : Nat), p < 4 → s.clk.pllOn.length = 4 → s.src (5 + p) = 3 → s.clk.pllHeld.getD p false = false →
    s.pwr.boot = .running → s.src 1 = 2 → Completes (.pllRestart p) s fun t => t.clk.pllOn[p]? = some true ∧ Keeps []
    s t) ∧
  (∀ (s : State) (p : Nat), s.clk.pllHeld.getD p false = true → s.src (5 + p) = 3 → Completes (.pllRestart p) s fun t
    => t = s) ∧
  (∀ (s : State) (p : Nat), p ≠ 3 → s.clk.pllOn.getD p false = true → s.src 1 = 2 → 3 + p < s.clk.judges.length →
    Completes (.pllLock p) s fun t => t.clk.judges[3 + p]? = some ⟨true, 0, 0⟩ ∧ (p = 0 → t.clk.plla = s.pllaTarget) ∧
    Keeps [] s t) ∧
  (∀ (s : State) (c d : Nat), s.pwr.vio18 = true → c ≤ 8 → d < 16 → s.reg P.ckObsSel = 16 * c + d → ckObs s = if s.src
    c = 1 ∨ s.src c = 2 then some (if c = 5 then s.clk.plla * 1000000 else obsHz c, d) else none)

/-- A supply above its rising threshold is declared good, VIO33, VIO18 and VSRD below their falling one failed (the
model takes the reading of SUPPLY_GOOD for both: assumption 85); the VSUP warning opens the high sides and, while the
Stage manager runs, begins the power-fail sequence, or defers the staged copy in the boot ROM's wait; the end of a
power fail ends it; VAON's release restarts stage time at 0 on cause 0x01 with PD00 to PD02 on; a VCORE loss drops
VCORE and its domains, not PD28 to PD36; the pilot supplies and the hold of VSUP follow their monitors; the Iron's
reset and release switch its own domains; the dark domain follows its source. Rests on R6, R89, R93, R94, R100, R103,
R108, R115, R118. -/
def Obligations.Supplies : Prop :=
  (∀ (s : State) (mv : Nat), 8800 ≤ mv → Completes (.supplyGood 0 mv) s fun t => t.pwr.vsup = true ∧ Keeps [] s t) ∧
  (∀ (s : State) (mv : Nat), Completes (.supplyGood 1 mv) s fun t => t = s) ∧
  (∀ (s : State) (mv : Nat), s.pwr.coreEn = true → 776 ≤ mv → Completes (.supplyGood 2 mv) s fun t => t.pwr.vcore =
    true ∧ Keeps [] s t) ∧
  (∀ (s : State) (mv : Nat), s.pwr.srdEn = true → 873 ≤ mv → Completes (.supplyGood 3 mv) s fun t => t.pwr.vsrd = true
    ∧ Keeps [] s t) ∧
  (∀ (s : State) (mv : Nat), Completes (.supplyGood 4 mv) s fun t => t =
    { s with pwr := { s.pwr with vio33 := decide (2900 ≤ mv) || (s.pwr.vio33 && decide (2800 ≤ mv)) } }) ∧
  (∀ (s : State) (mv : Nat), Completes (.supplyGood 5 mv) s fun t => t =
    { s with pwr := { s.pwr with vio18 := decide (1650 ≤ mv) || (s.pwr.vio18 && decide (1600 ≤ mv)) } }) ∧
  (∀ (s : State) (mv : Nat), mv < 830 → s.pwr.dom.length = 64 → Completes (.supplyGood 3 mv) s fun t => t.pwr.vsrd =
    false ∧ t.dom 38 = .off ∧ t.dom 39 = .off ∧ t.dom 40 = .off ∧ t.dom 41 = .off) ∧
  (∀ (s : State) (mv : Nat), s.pwr.boot ≠ .running → s.pwr.boot ≠ .waitVcore → Completes (.vsupWarning mv) s fun t =>
    t.pwr.vsup = false ∧ t.pwr.vsupHeld = false ∧ (∀ p < 6, bitOf (highSide t) p = false) ∧ t.pwr.boot = s.pwr.boot) ∧
  (∀ (s : State) (mv : Nat), s.pwr.boot = .waitVcore → Completes (.vsupWarning mv) s fun t => t.pwr.vsup = false ∧
    t.pwr.boot = .handOver ∧ t.pwr.deferred = true ∧ t.pwr.coreEn = false ∧ t.pwr.bootStatus = 3) ∧
  (∀ (s : State) (mv : Nat), s.pwr.boot = .running → s.pwr.failing = false → s.pwr.dom.length = 64 → Completes
    (.vsupWarning mv) s fun t => t.pwr.vsup = false ∧ t.pwr.failing = true ∧ t.pwr.coreEn = false ∧ t.pwr.srdEn =
    false ∧ (∀ d ∈ vcoreOnly, t.dom d = .off) ∧ (∀ p < 6, bitOf (highSide t) p = false) ∧ t.jnl.comp = none ∧
    t.jnl.held = []) ∧
  (∀ (s : State) (us mv : Nat), s.pwr.failing = true → Completes (.powerFailLastCommit us mv) s fun t => t.pwr.failing
    = false) ∧
  (∀ (s : State) (k : Nat × List Instr), s.ok k → Completes (.vaonPor) s fun t => t.dom 0 = .off ∧ t.dom 1 = .off ∧
    t.pwr.vaon = false ∧ t.pwr.darkKeeper = false) ∧
  (∀ (s : State), s.pwr.dom.length = 64 → Completes (.vaonPorRelease) s fun t => t.now = 0 ∧ t.pwr.vaon = true ∧
    t.pwr.boot = .held ∧ t.pwr.cause = 1 ∧ t.dom 0 = .on ∧ t.dom 1 = .on ∧ t.dom 2 = .on ∧ Keeps [] s t) ∧
  (∀ (s : State), s.pwr.dom.length = 64 → Completes (.vcoreLoss) s fun t => t.pwr.vcore = false ∧ t.pwr.dropK = true ∧
    (∀ d ∈ vcoreOnly, t.dom d = .off) ∧ (∀ d ∈ [28, 29, 30, 31, 32, 33, 34, 35, 36], t.dom d = s.dom d)) ∧
  (∀ (s : State), s.pwr.vsup = true → s.pwr.failing = false → Completes (.vsupGoodHoldExpiry) s fun t =>
    t.pwr.vsupHeld = true) ∧
  (∀ (s : State) (p m : Bool), Completes (.vcpStateChange p m) s fun t => t.pwr.vcpP = p ∧ t.pwr.vcpM = m) ∧
  (∀ (s : State), s.pwr.dom.length = 64 → Completes (.ironPor) s fun t => t.pwr.ironOn = false ∧ t.iron.events = [] ∧
    t.dom 62 = s.dom 62 ∧ (∀ d ∈ [52, 53, 54, 55, 56, 57, 58, 59, 60, 61, 63], t.dom d = .off)) ∧
  (∀ (s : State), s.pwr.ironOn = false → s.pwr.dom.length = 64 → Completes (.ironPorRelease) s fun t => t.pwr.ironOn =
    true ∧ t.dom 52 = .on ∧ t.dom 53 = .on ∧ t.dom 54 = .on ∧ t.dom 63 = .on ∧ t.iron.events.map (·.code) = [0x12] ∧
    Keeps [] s t) ∧
  (∀ (s : State), s.pwr.dom.length = 64 → Completes (.darkSourceSwitch true) s fun t => t.pwr.darkKeeper = true ∧
    t.dom 2 = .on ∧ Keeps [] s t)

/-- SYS_RST_N, the watchdog, the delay after PW_RESET_REQ and a deferred copy each start the main die on their cause
with the enables and RST_OUT_N low and the Cue server stopped; the boot ROM starts, the loader check hands over or
holds, a staged copy and the wait for VCORE end in a hand-over; the Stage manager then runs. In ROM hold the status
frame is sent. Rests on R79, R80, R103, R105, R106, R107, R108, R172. -/
def Obligations.StartsAndBoot : Prop :=
  (∀ (s : State), Completes (.sysRstNLow) s fun t => t.pwr.boot = .held ∧ t.pwr.cause = 2 ∧ t.pwr.rstOut = false ∧
    t.pwr.coreEn = false ∧ t.pwr.srdEn = false ∧ t.cue.running = false) ∧
  (∀ (s : State), Completes (.stageManagerWatchdogExpiry) s fun t => t.pwr.boot = .held ∧ t.pwr.cause = 4 ∧
    t.pwr.rstOut = false ∧ t.pwr.coreEn = false ∧ t.pwr.srdEn = false ∧ t.cue.running = false) ∧
  (∀ (s : State), s.pwr.resetArmed = true → Completes (.resetRequestDelayExpiry) s fun t => t.pwr.boot = .held ∧
    t.pwr.cause = 8 ∧ t.pwr.rstOut = false ∧ t.pwr.coreEn = false ∧ t.cue.running = false ∧ t.pwr.resetArmed = false) ∧
  (∀ (s : State), s.pwr.deferred = true → s.pwr.boot = .running → s.pwr.vsup = true → s.pwr.vcore = true → Completes
    (.deferredCopyStart) s fun t => t.pwr.boot = .held ∧ t.pwr.cause = 0x20 ∧ t.pwr.rstOut = false ∧ t.cue.running =
    false ∧ t.pwr.deferred = false) ∧
  (∀ (s : State), s.pwr.boot = .held → s.pwr.vaon = true → Completes (.bootRomStart) s fun t => t.pwr.boot = .rom ∧
    t.pwr.bootStatus = 0) ∧
  (∀ (s : State) (other : Bool), s.pwr.boot = .rom → slotHashes s (loaderCurrent s) = true → stagedWaiting
    (ensureReady s) = false → Completes (.loaderCheckComplete true other) s fun t => t.pwr.boot = .handOver ∧
    t.pwr.rstOut = true ∧ t.pwr.bootStatus = 0 ∧ t.pwr.loaderRun = loaderCurrent s) ∧
  (∀ (s : State) (current other : Bool), s.pwr.boot = .rom → (current && slotHashes s (loaderCurrent s)) = false →
    (other && slotHashes s (1 - loaderCurrent s)) = false → Completes (.loaderCheckComplete current other) s fun t =>
    t.pwr.boot = .romHold ∧ t.pwr.coreEn = false ∧ Keeps [] s t) ∧
  (∀ (s : State) (current : Bool), s.pwr.boot = .rom → (current && slotHashes s (loaderCurrent s)) = false →
    slotHashes s (1 - loaderCurrent s) = true → stagedWaiting (ensureReady s) = false → Completes
    (.loaderCheckComplete current true) s fun t => t.pwr.boot = .handOver ∧ t.pwr.rstOut = true ∧ t.pwr.bootStatus = 1
    ∧ t.pwr.loaderRun = 1 - loaderCurrent s) ∧
  (∀ (s : State), s.pwr.boot = .waitVcore → s.pwr.vcore = true → s.pwr.vsup = true → Completes (.bootStagedCopy) s fun
    t => t.pwr.boot = .handOver ∧ t.pwr.rstOut = true ∧ t.pwr.bootStatus = 2) ∧
  (∀ (s : State), s.pwr.boot = .waitVcore → Completes (.vcoreWaitTimeout) s fun t => t.pwr.boot = .handOver ∧
    t.pwr.rstOut = true ∧ t.pwr.bootStatus = 3 ∧ t.pwr.deferred = true ∧ t.pwr.coreEn = false ∧ Keeps [] s t) ∧
  (∀ (s : State), s.pwr.boot = .romHold → s.pwr.vio33 = true → Completes (.romHoldStatusFrame) s fun t => t.sent =
    .uart 0 (cobsEncode (s.postId ++ [0x10] ++ [crc8 (s.postId ++ [0x10])]) ++ [0]) :: s.sent ∧ s.mono < t.ser.deFall
    ∧ Keeps [] s t) ∧
  (∀ (s : State), s.pwr.boot = .handOver → Completes (.stageManagerStart) s fun t => t.pwr.boot = .running ∧
    t.pwr.resetArmed = false)

/-- A domain asked for begins to rise, and is on when its rise completes, in fault when its power-good does not come,
and off when it is switched off and neither retained nor held by the Iron; the first step towards a tier above K
raises the enables; a thermal sample is read into PW_TJ and a fall of the level ends the wait below its threshold; a
fetch that received DATA is counted on its word. Rests on R23, R93, R95, R96, R97, R98, R99, R100, R101, R112, R113,
R103. -/
def Obligations.DomainsAndTiers : Prop :=
  (∀ (s : State), s.pwr.boot = .running → groupRuns s = false → groupToDrop s (wantedDomains s (aimTier s)) = none →
    aimTier s ≠ tierK → s.pwr.coreEn = false ∨ s.pwr.srdEn = false → Completes (.tierGroupStart) s fun t =>
    t.pwr.coreEn = true ∧ t.pwr.srdEn = true ∧ Keeps [] s t) ∧
  (∀ (s : State) (g : Nat), s.pwr.boot = .running → groupRuns s = false → groupToDrop s (wantedDomains s (aimTier s))
    = none → aimTier s ≠ tierK → s.pwr.coreEn = true → s.pwr.srdEn = true → groupToStart s (wantedDomains s (aimTier
    s)) (aimTier s) = some g → groupReady s g = true → s.pwr.dom.length = 64 → Completes (.tierGroupStart) s fun t =>
    ∀ d ∈ groupDomains g, (wantedDomains s (aimTier s)).contains d = true → s.dom d = .off ∨ s.dom d = .retain → t.dom
    d = .rising) ∧
  (∀ (s : State) (d : Nat), s.pwr.boot = .running → d < 64 → domainAllowed s d = true → s.dom d = .off →
    s.pwr.dom.length = 64 → Completes (.domainSwitchOn d) s fun t => t.dom d = .rising ∧ Keeps [] s t) ∧
  (∀ (s : State) (d : Nat) (k : Nat × List Instr), s.ok k → s.dom d = .rising → Completes (.domainOnComplete d) s fun
    t => t.dom d = .on) ∧
  (∀ (s : State) (d : Nat) (k : Nat × List Instr), s.ok k → s.dom d = .rising → Completes (.domainPowerGoodTimeout d)
    s fun t => t.dom d = .fault) ∧
  (∀ (s : State) (d : Nat) (k : Nat × List Instr), s.ok k → s.pwr.boot = .running → switchOffRefused d s = false → 3 ≤
    d → d < 52 → s.dom d = .on → retains s d = false → Completes (.domainSwitchOff d) s fun t => t.dom d = .off) ∧
  (∀ (s : State) (t0 t1 : Int), s.pwr.boot = .running → -32768 ≤ max t0 t1 → max t0 t1 < 32768 → thermLevelFor s (max
    t0 t1) ≤ s.reg P.pwThermLevel → Completes (.thermalSample t0 t1) s fun t => t.regI P.pwTj = max t0 t1 ∧ Keeps
    [P.pwTj] s t) ∧
  (∀ (s : State), s.pwr.thermBelow.isSome = true → 0 < s.reg P.pwThermLevel → Completes (.thermalLevelDrop) s fun t =>
    t.pwr.thermBelow = none) ∧
  (∀ (s : State) (init addr : Nat), s.pwr.boot = .running → s.present (initIsland init) = true → initIsland init = 0 →
    Completes (.fetchErrorRestart init addr) s fun t => t.pwr.boot = .held ∧ t.pwr.cause = 4 ∧ t.cue.running = false ∧
    t.pwr.rstOut = false ∧ t.mram.restarts.head? = some (addr / 16 * 16, restartsOf s (addr / 16 * 16) + 1))

/-- An admitted read without errors answers OK and the word; one wrong cell is corrected and counted, two answer DATA
and count; a write stores the word whole and a merge write the bytes enabled; a scrub visit of a good word moves to
the next row; a repair step rewrites one more word, whose bit the spare then holds, and the completion marks the
column done; the end of a self-test, a copy and a wipe set PBK_BANK_CMD_STATUS to 2, and the copy and the wipe leave
the destination equal to the source, or the bank erased, but for the ranges of bank 0 that they leave (assumption 91).
Rests on R137, R139, R141, R142, R146, R148, R149, R150, R152, R153, R165, R166. -/
def Obligations.ArrayAccesses : Prop :=
  (∀ (s : State) (init addr : Nat), mramAdmit s init addr false = stOk → readsZero (regionOf addr) = false → Completes
    (.mramWordRead init addr false [] true) s fun t => t.sent = .bus init stOk [s.word (addr / 16 * 16)] :: s.sent ∧
    Keeps [] s t) ∧
  (∀ (s : State) (init addr b c : Nat), mramAdmit s init addr false = stOk → liveErrs s (addr / 16 * 16) [b, c] = [b,
    c] → readsZero (regionOf addr) = false → Completes (.mramWordRead init addr false [b, c] true) s fun t =>
    t.sent.head? = some (.bus init stData []) ∧ t.reg P.pbkUncorr = satAdd (8 * sizeOf' P.pbkUncorr) (s.reg
    P.pbkUncorr) 1 ∧ t.reg P.pwFabBusErrors = satAdd (8 * sizeOf' P.pwFabBusErrors) (s.reg P.pwFabBusErrors) 1) ∧
  (∀ (s : State) (init addr b : Nat), mramAdmit s init addr false = stOk → liveErrs s (addr / 16 * 16) [b] = [b] →
    readsZero (regionOf addr) = false → knownColumn s (bankOf (addr / 16 * 16)) (subOf (addr / 16 * 16)) (slotOf (addr
    / 16 * 16)) b = false → columnSeen s (addr / 16 * 16) b = false → Completes (.mramWordRead init addr false [b]
    true) s fun t => t.sent = .bus init stOk [s.word (addr / 16 * 16)] :: s.sent ∧ t.reg P.pbkCellCorr = satAdd (8 *
    sizeOf' P.pbkCellCorr) (s.reg P.pbkCellCorr) 1 ∧ Keeps [P.pbkCellCorr, P.pbkLastMramFault] s t) ∧
  (∀ (s : State) (init addr w : Nat), mramAdmit s init addr true = stOk → w < 2 ^ 128 → Memory.wf s.mem = true →
    Completes (.mramWordWrite init addr w) s fun t => t.word (addr / 16 * 16) = w ∧ StoresOnly (addr / 16 * 16) 16 s t
    ∧ SameRegs [] s t ∧ t.sent = .bus init stOk [] :: s.sent) ∧
  (∀ (s : State) (init addr be w : Nat), mramAdmit s init addr true = stOk → Memory.wf s.mem = true → Completes
    (.mramMergeWrite init addr be w []) s fun t => t.word (addr / 16 * 16) = mergeBytes (s.word (addr / 16 * 16)) w be
    ∧ StoresOnly (addr / 16 * 16) 16 s t ∧ SameRegs [] s t) ∧
  (∀ (s : State) (p : Nat), s.present 14 = true → s.reg P.smgTier ≠ 0x4B → s.reg P.pbkScrubPos = p → s.domOn (28 +
    bits p 20 18) = true → s.mram.refDone = true → bits p 17 0 + 8 < 262144 → Completes (.scrubVisit [] true [] []) s
    fun t => t.reg P.pbkScrubPos = bits p 20 18 * 2 ^ 18 + (bits p 17 0 + 8) ∧ Keeps [P.pbkScrubPos] s t) ∧
  (∀ (s : State) (e : Repair) (a : Nat), s.present 14 = true → s.mram.repairs = [e] → e.done = false → e.row < 4096 →
    e.bank < 8 → e.sub < 8 → e.slot < 8 → e.missed = [] → a = columnAddr e.bank e.sub e.slot + 1024 * e.row →
    s.wrongAt a = [] → Memory.wf s.mem = true → Completes (.columnRepairStep) s fun t => t.mram.repairs =
    [{ e with row := e.row + 1 }] ∧ spareCell t { e with row := e.row + 1 } a = some (bitOf (codeword (s.word a))
    e.bit) ∧ Keeps [] s t) ∧
  (∀ (s : State) (e : Repair), s.present 14 = true → s.mram.repairs = [e] → e.done = false → e.row = 4096 →
    s.jnl.ready = true → Completes (.columnRepairComplete) s fun t => t.mram.repairs = [{ e with done := true }] ∧
    t.reg P.pbkColumnFaults = satAdd (8 * sizeOf' P.pbkColumnFaults) (s.reg P.pbkColumnFaults) 1) ∧
  (∀ (s : State) (b : Nat), s.mram.op = some (1, b, 0) → Completes (.bankOperationComplete 0) s fun t => t.mram.op =
    none ∧ t.reg P.pbkBankCmdStatus = 2 ∧ Keeps [P.pbkBankCmdStatus] s t) ∧
  (∀ (s : State) (b d : Nat), s.mram.op = some (2, b, d) → Memory.wf s.mem = true → Completes (.bankOperationComplete
    0) s fun t => t.reg P.pbkBankCmdStatus = 2 ∧ (∀ r ∈ bankRanges d, ∀ x < r.2, t.byte (bankBase d + r.1 + x) =
    s.byte (bankBase b + r.1 + x)) ∧ (∀ a, (∀ r ∈ bankRanges d, a < bankBase d + r.1 ∨ bankBase d + r.1 + r.2 ≤ a) →
    t.byte a = s.byte a) ∧ SameRegs [P.pbkBankCmdStatus] s t) ∧
  (∀ (s : State) (b : Nat), s.mram.op = some (3, b, 0) → Completes (.bankOperationComplete 0) s fun t => t.reg
    P.pbkBankCmdStatus = 2 ∧ (∀ r ∈ bankRanges b, ∀ x < r.2, t.byte (bankBase b + r.1 + x) = 0) ∧ (∀ a, (∀ r ∈
    bankRanges b, a < bankBase b + r.1 ∨ bankBase b + r.1 + r.2 ≤ a) → t.byte a = s.byte a) ∧ SameRegs
    [P.pbkBankCmdStatus] s t)

/-- An accepted request takes the next SEQ, writes the header word and payload of the record at the fill of the live
half and waits for its commit word, PD36, PD29 and PD30 staying powered; a request above the rate is answered BUSY and
counted; the commit word ends the commit, which is acknowledged with 0, and the fill moves; a sector of a compaction
writes the records of its snapshot that fit, and the last its SNAP_COMMIT, which makes the other half live; a recovery
that finds no complete half leaves an empty half 1 with status 0x04. Rests on R155, R156, R157, R159, R160, R161,
R162, R163, R164. -/
def Obligations.CommitsAndCompaction : Prop :=
  (∀ (s : State) (who : Nat) (j : JReq), s.jnl.ready = true → s.bookPowered = true → s.jnl.slot = none → s.jnl.held =
    [] → s.judgeCommit j = .accepted → Memory.wf s.mem = true → s.nextSeq + 1 < 2 ^ 48 → Completes
    (.journalCommitRequest who j) s fun t => t.jnl.slot = some (who, s.recOf j) ∧ t.word (bankBase s.liveBank + 16 *
    s.fill) = headWord (s.recOf j) ∧ t.reg P.pbkSeqNext = s.nextSeq + 1 ∧ StoresOnly (bankBase s.liveBank + 16 *
    s.fill) (16 * (j.payload.length + 1)) s t ∧ SameRegs [P.pbkSeqNext] s t) ∧
  (∀ (s : State) (who : Nat) (j : JReq), s.jnl.ready = true → s.bookPowered = true → s.jnl.keeper = false → s.jnl.slot
    = none → s.judgeCommit j = .busy → Completes (.journalCommitRequest who j) s fun t => t.sent = .commitAck who 5 ::
    s.sent ∧ t.reg P.pbkRateRefusals = satAdd 32 (s.reg P.pbkRateRefusals) 1 ∧ Keeps [P.pbkRateRefusals] s t) ∧
  (∀ (s : State) (who : Nat) (r : Rec), s.jnl.slot = some (who, r) → s.jnl.owed = [] → s.jnl.keeper = false →
    Memory.wf s.mem = true → s.fill + r.words < 2 ^ 32 → Completes (.journalCommitComplete) s fun t => t.jnl.slot =
    none ∧ t.jnl.recs = r :: s.jnl.recs ∧ t.sent = .commitAck who 0 :: s.sent ∧ t.reg P.pbkFill = s.fill + r.words ∧
    SameRegs [P.pbkFill] s t ∧ StoresOnly (bankBase s.liveBank + 16 * (s.fill + r.payload.length + 1)) 16 s t) ∧
  (∀ (s : State) (c : Compaction) (typ st : Nat) (p : List Nat), s.jnl.comp = some c → s.jnl.slot = none → c.todo =
    [(typ, st, p)] → p.length + 2 ≤ 1024 → s.nextSeq + 1 < 2 ^ 48 → Completes (.compactionSector) s fun t =>
    t.jnl.comp = some
    { c with todo := [], pos := c.pos + (p.length + 2), written := ⟨s.nextSeq, typ, st, p⟩ :: c.written } ∧ t.reg
    P.pbkSeqNext = s.nextSeq + 1 ∧ SameRegs [P.pbkSeqNext] s t ∧ StoresOnly (bankBase s.otherBank + 16 * c.pos) (16 *
    (p.length + 2)) s t) ∧
  (∀ (s : State) (c : Compaction), s.jnl.comp = some c → s.jnl.slot = none → s.jnl.held = [] → s.jnl.keeper = false →
    c.todo = [] → s.tail c.carried = [] → c.pos + 3 < 2 ^ 32 → s.nextSeq + 1 < 2 ^ 48 → Completes (.compactionSector)
    s fun t => t.jnl.comp = none ∧ t.liveBank = s.otherBank ∧ t.reg P.pbkFill = c.pos + 3 ∧ t.reg P.pbkCompactions =
    satAdd (8 * sizeOf' P.pbkCompactions) (s.reg P.pbkCompactions) 1 ∧ t.reg P.pbkSeqNext = s.nextSeq + 1 ∧ StoresOnly
    (bankBase s.otherBank + 16 * c.pos) 48 s t) ∧
  (∀ (s : State) (us : Nat) (bad : List Nat), s.domOn 36 = true → s.jnl.ready = false → (scanHalf s bad 1 131073
    Scan.start).complete = false → (scanHalf s bad 2 131073 Scan.start).complete = false → us < 2 ^ 16 → Completes
    (.journalRecovery us bad) s fun t => t.jnl.ready = true ∧ t.reg P.pbkLiveHalf = 1 ∧ t.reg P.pbkFill = 6 ∧ t.reg
    P.pbkRecoveryStatus = 4 ∧ t.reg P.pbkRecoveryUs = us) ∧
  (∀ (s : State) (who : Nat) (j : JReq), s.pwr.dom.length = 64 → Completes (.journalCommitRequest who j) s fun t =>
    t.jnl.slot.isSome = true → t.domOn 36 = true ∧ t.domOn 29 = true ∧ t.domOn 30 = true)

/-- A filtered contact that changes is kept by its channel; a new demand of an input of role 0x01 latches ESTOP and
opens the pairs it names in both channels; a discrepancy that lasts is latched with its input; the second failed test
pulse in a row latches TEST_PULSE; a mirror still closed behind an open pair latches WELDED in both channels. Rests on
R196, R199, R200, R201, R202, R203, R204, R223, R224. -/
def Obligations.SafetyInputs : Prop :=
  (∀ (s : State) (ch n c : Nat) (shut : Bool), chanAlive s ch = true → ch < s.saf.chans.length → roleOf s ch n = 0 →
    Completes (.safetyInputFilterChange ch n c shut) s fun t => (t.saf? ch).closed = setAt (s.saf? ch).closed (2 * n +
    c) shut ∧ SameMem s t) ∧
  (∀ (s : State) (n : Nat), s.present 8 = true → s.saf.chans.length = 2 → n < 8 → s.reg (P.wdnSiRole n) = 1 → s.reg
    (P.wdnSiPairing n) = 0 → inDemand s 1 n = false → (s.saf? 1).closed.length = 16 → Completes
    (.safetyInputFilterChange 1 n 0 false) s fun t => bitOf (t.saf? 1).lat 13 = true ∧ highSide t &&& targetOf s 1 n =
    0 ∧ lowSide t &&& targetOf s 1 n = 0) ∧
  (∀ (s : State) (ch n : Nat), chanAlive s ch = true → ch < s.saf.chans.length → inDiscrepancy s ch n = true → bitOf
    (s.saf? ch).disc n = false → Completes (.discrepancyTimeout ch n) s fun t => bitOf (t.saf? ch).disc n = true ∧
    bitOf (t.saf? ch).lat 4 = true) ∧
  (∀ (s : State) (n : Nat), s.present 8 = true → s.pwr.ironOn = false → s.saf.chans.length = 2 → (s.saf?
    1).tpFails.length = 8 → n < 8 → s.reg (P.wdnSiTest n) ≠ 0 → (s.saf? 1).tpFails.getD n 0 = 0 → Completes
    (.testPulse [8 + n]) s fun t => (t.saf? 1).tpFails.getD n 0 = 1) ∧
  (∀ (s : State) (n : Nat), s.present 8 = true → s.pwr.ironOn = false → s.saf.chans.length = 2 → (s.saf?
    1).tpFails.length = 8 → n < 8 → s.reg (P.wdnSiTest n) ≠ 0 → (s.saf? 1).tpFails.getD n 0 = 1 → bitOf (s.saf? 1).tp
    n = false → Completes (.testPulse [8 + n]) s fun t => bitOf (t.saf? 1).tp n = true ∧ bitOf (t.saf? 1).lat 5 =
    true) ∧
  (∀ (s : State) (p n : Nat), n < 8 → roleOf s 1 n = 4 → chanVal s 1 (P.wdnSiTarget n) % 8 = p → inDemand s 1 n = true
    → pairClosed s p = false → s.saf.chans.length = 2 → Completes (.mirrorTimeout p) s fun t => bitOf (t.saf? 0).lat 8
    = true ∧ bitOf (t.saf? 1).lat 8 = true)

/-- A readback mismatch and a failed dark test latch their bit in both channels with the pair, and the pair is open; a
switch in current limit opens its pair, the total overload every pair; above 150 °C every pair is open; the Iron's
overspeed window opens SO4 and SO5; with what it needs satisfied no dark test acts. Rests on R195, R196, R197, R206,
R207, R208, R220, R221, R223. -/
def Obligations.SafetyOutputs : Prop :=
  (∀ (s : State) (p : Nat), p < 6 → s.saf.chans.length = 2 → Completes (.readbackMismatch p) s fun t => bitOf (t.saf?
    0).lat 6 = true ∧ bitOf (t.saf? 1).lat 6 = true ∧ bitOf (t.saf? 1).readback p = true ∧ pairClosed t p = false) ∧
  (∀ (s : State) (p : Nat), p < 6 → s.saf.chans.length = 2 → Completes (.switchCurrentLimitTimeout p) s fun t => bitOf
    (t.saf? 0).lat 3 = true ∧ bitOf (t.saf? 0).overload p = true ∧ pairClosed t p = false) ∧
  (∀ (s : State), s.saf.chans.length = 2 → Completes (.totalOverloadTimeout) s fun t => (t.saf? 0).overload = 0x3F ∧
    (∀ p < 6, pairClosed t p = false)) ∧
  (∀ (s : State) (p : Nat) (ok2 ok6 : Bool), p < 6 → s.saf.chans.length = 2 → pairClosed s p = true → s.reg
    (P.wdnSoDark p) ≠ 0 → (ok2 && ok6) = false → Completes (.darkTest p ok2 ok6) s fun t => bitOf (t.saf? 0).lat 7 =
    true ∧ bitOf (t.saf? 1).lat 7 = true ∧ pairClosed t p = false) ∧
  (∀ (s : State) (p : Nat) (ok2 ok6 : Bool), s.reg (P.wdnSoDark p) = 0 → pairMissing s = false → Completes (.darkTest
    p ok2 ok6) s fun t => t = s) ∧
  (∀ (s : State) (temp : Int), s.pwr.ironOn = true → s.saf.chans.length = 2 → 1500 < temp → temp < 32768 → bitOf
    (s.saf? 0).lat 2 = false → Completes (.ironOvertemp temp) s fun t => t.regI P.irnTemp = temp ∧ bitOf (t.saf?
    0).lat 2 = true ∧ (∀ p < 6, pairClosed t p = false)) ∧
  (∀ (s : State) (edges : Nat), s.pwr.ironOn = true → s.saf.chans.length = 2 → chanVal s 0 P.irnOverspeed < 400 *
    edges → bitOf (s.saf? 0).lat 12 = false → Completes (.ironOverspeedWindow edges) s fun t => bitOf (t.saf? 0).lat
    12 = true ∧ pairClosed t 4 = false ∧ pairClosed t 5 = false)

/-- A right answer in time that agrees with the Iron is counted and a new challenge follows; a missing or wrong answer
latches PROMPTER, counts in IRN_PROMPT_FAILS and opens every pair; a lockstep mismatch restarts I08 and latches its
bit; the load of the safety blocks copies every active block into the Iron, which takes its configuration table where
its CRC is right; the CRC check clears BLOCK while every block agrees and latches it where one does not. Rests on
R209, R210, R211, R212, R213, R214, R223, R491. -/
def Obligations.PrompterAndBlocks : Prop :=
  (∀ (s : State) (word dt : Nat), s.pwr.ironOn = true → s.saf.prFirst = false → 8000 ≤ dt → dt ≤ 12000 → bits word 31
    16 = challengeCheck s → bits word 13 6 = demandBits s 0 → bits word 5 0 = lowSide s → s.saf.prOk + 1 ≠ 4 →
    pairMissing s = false → Completes (.prompterAnswer word s.saf.prSeq dt false) s fun t => t.saf.prOk = s.saf.prOk +
    1 ∧ t.saf.prDiffer = 0 ∧ t.saf.prSeq = (s.saf.prSeq + 1) % 256 ∧ Keeps [] s t) ∧
  (∀ (s : State) (word dt : Nat) (aborted : Bool), s.pwr.ironOn = true → s.saf.chans.length = 2 → s.saf.prFirst =
    false → dt < 8000 → Completes (.prompterAnswer word s.saf.prSeq dt aborted) s fun t => t.saf.prOk = 0 ∧ bitOf
    (t.saf? 0).lat 0 = true ∧ (∀ p < 6, pairClosed t p = false)) ∧
  (∀ (s : State), s.pwr.ironOn = true → s.saf.chans.length = 2 → Completes (.prompterAnswerTimeout) s fun t =>
    t.saf.prOk = 0 ∧ t.saf.prFirst = true ∧ bitOf (t.saf? 0).lat 0 = true ∧ t.reg P.irnPromptFails = satAdd (8 *
    sizeOf' P.irnPromptFails) (s.reg P.irnPromptFails) 1 ∧ (∀ p < 6, pairClosed t p = false)) ∧
  (∀ (s : State), s.present 8 = true → s.saf.chans.length = 2 → Completes (.lockstepMismatch) s fun t => bitOf (t.saf?
    1).lat 14 = true ∧ (∀ p < 6, pairClosed t p = false)) ∧
  (∀ (s : State), s.pwr.ironOn = true → s.present 8 = true → s.present 22 = true → Completes (.safetyBlockLoad) s fun
    t => t.saf.loaded = ironTableOk s ∧ t.saf.copy = blockGroups.flatMap (fun g => blockValues s g)) ∧
  (∀ (s : State), s.pwr.ironOn = true → s.present 8 = true → s.present 22 = true → blocksAgree s = true → 0 <
    s.saf.chans.length → Completes (.blockCrcCheck) s fun t => bitOf (t.saf? 0).lat 15 = false) ∧
  (∀ (s : State), s.pwr.ironOn = true → s.present 8 = true → s.present 22 = true → s.saf.chans.length = 2 →
    blocksAgree s = false → Completes (.blockCrcCheck) s fun t => bitOf (t.saf? 0).lat 15 = true ∧ (∀ p < 6,
    pairClosed t p = false))

/-- A passed brake test at home notes its time in WDN_BRAKE_LAST; a failed one latches BRAKE and opens SO4 and SO5;
past the grace time only creep is allowed; a speed above WDN_SLS_LIMIT latches SLS and begins the stop, whose end
opens SO4 and SO5; the supervision writes WDN_SPEED and, on the drive fault input, sets DRIVE_FAULT and opens SO4 and
SO5. Rests on R216, R217, R218, R219, R223, R278, R282. -/
def Obligations.BrakeAndSpeed : Prop :=
  (∀ (s : State) (m : Nat), s.present 8 = true → atHome s = true → brakeDue s = true → bitOf (mayHold s 1) 5 = true →
    m ≤ s.reg P.wdnBrakeMax → s.fly.phase = .rest → s.now < 2 ^ 64 → Completes (.brakeTest m) s fun t =>
    t.saf.brakeDone = true ∧ t.saf.brakeAt = s.mono ∧ t.reg P.wdnBrakeLast = s.now ∧ pairClosed t 4 = false ∧
    pairClosed t 5 = false) ∧
  (∀ (s : State) (m : Nat), s.present 8 = true → atHome s = true → brakeDue s = true → bitOf (mayHold s 1) 5 = true →
    s.reg P.wdnBrakeMax < m → s.saf.chans.length = 2 → Completes (.brakeTest m) s fun t => bitOf (t.saf? 1).lat 10 =
    true ∧ pairClosed t 4 = false ∧ pairClosed t 5 = false) ∧
  (∀ (s : State), s.present 8 = true → brakeDue s = true → atHome s = false → Completes (.brakeTestGraceExpiry) s fun
    t => t.saf.creepOnly = true ∧ Keeps [] s t) ∧
  (∀ (s : State) (v : Int), s.present 8 = true → s.saf.chans.length = 2 → s.reg P.wdnSlsLimit ≠ 0 → s.reg
    P.wdnSlsLimit < v.natAbs → v.natAbs < 2 ^ 31 → Completes (.slsOverspeed v) s fun t => t.regI P.wdnSpeed = v ∧
    bitOf (t.saf? 1).lat 11 = true ∧ t.saf.ss1 = some s.mono) ∧
  (∀ (s : State), s.saf.ss1.isSome = true → Completes (.ss1StopComplete) s fun t => t.saf.ss1 = none ∧ pairClosed t 4
    = false ∧ pairClosed t 5 = false ∧ Keeps [P.irnSafeState] s t) ∧
  (∀ (s : State) (a b : Int), s.present 8 = true → s.present 21 = true → (a - b).natAbs ≤ 8 → b.natAbs < 500000 →
    flyBit s 10 = false → flyBit s 11 = false → Completes (.wardenAxisSupervision a b false) s fun t => t.regI
    P.wdnSpeed = b * 4000 ∧ flyBit t 15 = false ∧ Keeps [P.wdnSpeed, P.flyStatus] s t) ∧
  (∀ (s : State) (a b : Int), s.present 8 = true → s.present 21 = true → flyBit s 12 = false → Completes
    (.wardenAxisSupervision a b true) s fun t => flyBit t 12 = true ∧ flyBit t 15 = true ∧ t.fly.phase = .rest ∧
    pairClosed t 4 = false ∧ pairClosed t 5 = false ∧ SameMem s t)

/-- At rest a control cycle moves FLY_POS by the encoder's movement and commands 0; an illegal transition sets its
fault bit and clears ENC_VALID; the index of a homing sets FLY_POS to FLY_HOME_OFFSET and HOMED; proven standstill
sets ENC_VALID; the home switch moves a homing on; a tooth edge in the direction of travel counts; a missed tooth,
where the axis is more than 1.5 pitches past the last one, sets TOOTH_DISC and CREEP. Rests on R260, R261, R262, R263,
R266, R273, R274, R281, R282. -/
def Obligations.FlyEncoder : Prop :=
  (∀ (s : State) (d : Int) (gap : Nat), s.present 21 = true → s.fly.phase = .rest → s.fly.newTarget = none → flyBit s
    9 = false → s.reg P.flyOutMode = 0 → s.pwr.vio33 = true → -2147483648 ≤ s.regI P.flyPos + d → s.regI P.flyPos + d
    < 2147483648 → Completes (.flyControlCycle d gap) s fun t => t.regI P.flyPos = s.regI P.flyPos + d ∧ t.regI
    P.flyCmdOut = 0 ∧ t.sent = .flyPwm 0 true :: s.sent ∧ Keeps [P.flyPos, P.flySpeed, P.flyCmdOut] s t) ∧
  (∀ (s : State), s.present 21 = true → Completes (.encoderIllegalTransition) s fun t => flyBit t 11 = true ∧ flyBit t
    1 = false ∧ Keeps [P.flyStatus, P.flyLastEvent, P.flyEvents] s t) ∧
  (∀ (s : State), s.present 21 = true → s.fly.goal ≠ .homeIndex → Completes (.encoderIndex) s fun t => t.fly.zLatch =
    s.regI P.flyPos ∧ Keeps [] s t) ∧
  (∀ (s : State), s.present 21 = true → s.fly.goal = .homeIndex → Completes (.encoderIndex) s fun t => t.regI P.flyPos
    = s.regI P.flyHomeOffset ∧ flyBit t 2 = true ∧ t.fly.goal = .homeTooth ∧ Keeps [P.flyStatus, P.flyPos,
    P.flyLastEvent, P.flyEvents] s t) ∧
  (∀ (s : State), s.present 21 = true → flyBit s 11 = false → 2000 ≤ s.fly.quiet → Completes (.encValidSet) s fun t =>
    flyBit t 1 = true ∧ Keeps [P.flyStatus] s t) ∧
  (∀ (s : State), s.fly.goal = .homeOut → Completes (.homingHomeSwitch true) s fun t => t =
    { s with fly := { s.fly with homeLow := true, goal := .homeStop } }) ∧
  (∀ (s : State), s.fly.goal = .homeBack → Completes (.homingHomeSwitch false) s fun t => t =
    { s with fly := { s.fly with homeLow := false, goal := .homeIndex } }) ∧
  (∀ (s : State), s.present 21 = true → flyBit s 2 = false → 0 ≤ s.fly.dir → s.reg P.flyToothEn = 0 → s.regI
    P.flyToothCount < 32767 → Completes (.toothEdge true) s fun t => t.regI P.flyToothCount = s.regI P.flyToothCount +
    1 ∧ Keeps [P.flyToothCount, P.flyToothDev] s t) ∧
  (∀ (s : State), s.present 21 = true → s.reg P.flyToothEn ≠ 0 → flyBit s 3 = true → flyBit s 9 = false → flyBit s 10
    = false → 3 * (s.reg P.flyToothPitch : Int) < twiceTravel s s.fly.lastTooth → Completes (.missedTooth) s fun t =>
    flyBit t 9 = true ∧ flyBit t 6 = true ∧ SameMem s t)

/-- After the settling of SO5 the post closes SO4; once the brake is released the profile starts at FLY_POS with
MOVING set; in position the profile ends, IN_POSITION is set, MOVING and TARGET_PENDING clear, and SO4 opens; after
the hold the command stays at 0. An armed cue of action 3 sets FLY_AUX, and disarms where it fires once. Rests on
R265, R266, R276, R277, R281. -/
def Obligations.FlyMotion : Prop :=
  (∀ (s : State), s.fly.phase = .sto → pairClosed s 5 = true → s.pwr.vsup = true → s.pwr.failing = false → bitOf
    (mayHold s 0) 4 = true → bitOf (mayHold s 1) 4 = true → Completes (.motionStoSettle) s fun t => t.fly.phase =
    .brake ∧ pairClosed t 4 = true ∧ Keeps [P.irnSafeState] s t) ∧
  (∀ (s : State), s.fly.phase = .brake → pairClosed s 4 = true → Completes (.motionBrakeRelease) s fun t =>
    t.fly.phase = .run ∧ t.fly.x = s.regI P.flyPos * flyUnit ∧ flyBit t 4 = true ∧ Keeps [P.flyStatus] s t) ∧
  (∀ (s : State), s.fly.phase = .run → s.fly.goal = .target → (s.regI P.flyPos - s.fly.goalPos).natAbs ≤ s.reg
    P.flyInPosTol → (s.regI P.flySpeed).natAbs < 20 → Completes (.inPositionReached) s fun t => t.fly.phase = .hold ∧
    flyBit t 5 = true ∧ flyBit t 4 = false ∧ flyBit t 0 = false ∧ pairClosed t 4 = false ∧ Keeps [P.flyStatus,
    P.irnSafeState] s t) ∧
  (∀ (s : State), s.fly.phase = .hold → Completes (.brakeSetHoldEnd) s fun t => t.fly.phase = .rest ∧ t.regI
    P.flyCmdOut = 0 ∧ Keeps [P.flyCmdOut] s t) ∧
  (∀ (s : State) (k : Nat) (positive high : Bool), s.present 21 = true → k < 16 → cueArmed s k positive = true →
    flyBit s 9 = false → bits (s.reg (P.flyCueCtrl k)) 3 0 = 3 → s.pwr.vio33 = true → Completes (.cueFire k positive
    high) s fun t => t.fly.aux = true ∧ t.sent = .flyAux true :: s.sent ∧ t.fly.disarmed = (if bitOf (s.reg
    (P.flyCueCtrl k)) 5 then k :: s.fly.disarmed else s.fly.disarmed) ∧ Keeps [P.flyLastEvent, P.flyEvents] s t)

/-- Without the pilot's supplies the pilot is off; state B from Unplugged opens a session in Plugged; a level at 0 V
is a short circuit, which drives state F and opens SO0 to SO3; a proximity reading renews the cable rating and the
limit; an AC session resumes at the duty of its limit; a lost plug opens SO0 to SO3 with end cause 0x18; after 3 s
state F ends at +12 V. Rests on R231, R232, R233, R234, R235, R237, R241, R253, R257. -/
def Obligations.PilotAndLimit : Prop :=
  (∀ (s : State) (h l : Int), pilotOn s = false → Completes (.cpStateReport h l) s fun t => t.veh.drive = .off ∧ t.reg
    P.irnCpDuty = 1000 ∧ t.reg P.irnCpState = 0 ∧ Keeps [P.irnCpDuty, P.irnCpState] s t) ∧
  (∀ (s : State) (h l : Int), pilotOn s = true → s.veh.drive = .high → 8000 ≤ h → h ≤ 10000 → ses s = 0 →
    sessionsAllowed s = true → dcPost s = false → s.veh.changes.length + 1 ≤ s.reg P.wdnChatterMax → Completes
    (.cpStateReport h l) s fun t => ses t = 1 ∧ t.reg P.irnCpState = 2 ∧ t.regI P.irnCpHighMv = h ∧ t.reg
    P.wdnSesProto = 0 ∧ t.reg P.wdnSesEnd = 0 ∧ t.veh.drive = .high ∧ SameMem s t) ∧
  (∀ (s : State) (h l : Int), pilotOn s = true → s.veh.drive = .high → -1000 ≤ h → h ≤ 1000 → Completes
    (.cpStateReport h l) s fun t => t.veh.drive = .low ∧ t.reg P.irnCpState = 6 ∧ (∀ p < 4, pairClosed t p = false)) ∧
  (∀ (s : State) (ohm : Nat), pilotOn s = true → s.present 8 = true → ses s = 0 → s.veh.slacAt = none → ohm < 65536 →
    Completes (.currentLimitRecompute ohm) s fun t => t.reg P.irnPpOhm = ppReading ohm ∧ t.veh.cable = cableRating ohm
    ∧ t.veh.limit = currentLimitMa t ∧ Keeps [P.irnPpOhm] s t) ∧
  (∀ (s : State), ses s = 5 → s.veh.paused = true → s.veh.dc = false → 6000 ≤ s.veh.limit → Completes (.acResume) s
    fun t => t.veh.drive = .pwm ∧ t.veh.paused = false ∧ t.reg P.irnCpDuty = pilotDuty s.veh.limit ∧ Keeps
    [P.irnCpDuty] s t) ∧
  (∀ (s : State) (ohm : Nat), pilotOn s = true → s.reg P.wdnPpMode ≠ 1 → 1 ≤ ses s → ses s ≤ 6 → cableRating ohm = 0 →
    Completes (.proximityLost ohm) s fun t => t.veh.drive = .high ∧ t.reg P.wdnSesEnd = 0x18 ∧ (∀ p < 4, pairClosed t
    p = false)) ∧
  (∀ (s : State), s.veh.drive = .low → Completes (.stateFEnd) s fun t => t.veh.drive = .high ∧ t.reg P.irnCpDuty =
    1000 ∧ Keeps [P.irnCpDuty] s t)

/-- A protocol offered by both sides is chosen; a new session gets a SessionID; a request of the session issued is
answered with OK in its phase: authorization once authorised, the cable check with the isolation status, precharge
with its target commanded, power delivery into energy transfer, a current demand with the post's limit, and the
session stop begins the ramp-down. Only the session's registers change. Rests on R236, R237, R238, R239, R242, R244,
R249, R250, R252, R254. -/
def Obligations.HighLevelMessages : Prop :=
  (∀ (s : State) (dc : Bool) (l : List Nat) (p : Nat), e0On s = true → ses s = 1 → fivePercent s = true → s.reg
    P.wdnSesProto = 0 → chooseProto s dc l = some p → p < 256 → Completes (.supportedAppProtocolReq true dc l) s fun t
    => t.reg P.wdnSesProto = p ∧ t.veh.dc = dc ∧ t.sent = .hlc .appProtocol .ok [p] :: s.sent ∧ Keeps [P.wdnSesProto]
    s t) ∧
  (∀ (s : State) (sid : Nat), e0On s = true → s.reg P.wdnSesProto ≠ 0 → sessionOpen s = true → s.veh.sid = none →
    Completes (.sessionSetupReq sid true) s fun t => t.veh.sid.isSome = true ∧ t.sent = .hlc .sessionSetup .ok
    [t.veh.sid.getD 0] :: s.sent ∧ Keeps [] s t) ∧
  (∀ (s : State) (sid : Nat), e0On s = true → s.reg P.wdnSesProto ≠ 0 → ses s = 2 → s.veh.sid = some sid → Completes
    (.authorizationReq sid true none) s fun t => t = s.emit (.hlc .authorization .ok [])) ∧
  (∀ (s : State) (sid ohm vmax imax : Nat), e0On s = true → s.reg P.wdnSesProto ≠ 0 → ses s = 3 → s.veh.dc = true →
    s.veh.sid = some sid → Completes (.cableCheckReq sid true ohm vmax imax) s fun t => t = s.emit (.hlc .cableCheck
    (if s.veh.isoValid then .ok else .okOngoing) (isoReport s))) ∧
  (∀ (s : State) (sid ohm vmax imax : Nat), e0On s = true → s.reg P.wdnSesProto ≠ 0 → ses s = 2 → s.veh.dc = true →
    s.veh.sid = some sid → Config.dcMinimum.1 ≤ vmax → Config.dcMinimum.2 ≤ imax → 85000 ≤ ohm → ohm ≤ 115000 →
    s.pwr.vsup = true → s.pwr.failing = false → castOk s = true → mayHold s 0 &&& 6 = 6 → mayHold s 1 &&& 6 = 6 →
    Completes (.cableCheckReq sid true ohm vmax imax) s fun t => ses t = 3 ∧ pairClosed t 1 = true ∧ pairClosed t 2 =
    true ∧ t.veh.modV = 10 * min vmax (s.reg P.wdnDcMaxV) ∧ t.veh.modI = 0 ∧ Keeps [P.wdnSesState, P.irnSafeState] s
    t) ∧
  (∀ (s : State) (sid v a : Nat), e0On s = true → s.reg P.wdnSesProto ≠ 0 → ses s = 4 → s.veh.dc = true → s.veh.sid =
    some sid → v ≤ s.veh.vMax → a ≤ s.veh.iMax → v ≤ s.reg P.wdnDcMaxV → a ≤ s.reg P.wdnDcMaxA → Completes
    (.preChargeReq sid true v a) s fun t => t.veh.target = v ∧ t.veh.modV = 10 * v ∧ t.veh.modI = 10 * a ∧ t.sent =
    .hlc .preCharge (if s.veh.so2Open then .ok else .okOngoing) [0, 0] :: s.sent ∧ Keeps [] s t) ∧
  (∀ (s : State) (sid : Nat), e0On s = true → s.reg P.wdnSesProto ≠ 0 → ses s = 4 → s.veh.dc = true → s.veh.so2Open =
    true → s.veh.sid = some sid → Completes (.powerDeliveryReq sid true true) s fun t => ses t = 5 ∧ t.veh.began =
    true ∧ t.sent = .hlc .powerDelivery .ok [] :: s.sent ∧ Keeps [P.wdnSesState] s t) ∧
  (∀ (s : State) (sid v a : Nat), e0On s = true → s.reg P.wdnSesProto ≠ 0 → ses s = 5 → s.veh.dc = true → s.veh.sid =
    some sid → v ≤ s.veh.vMax → a ≤ s.veh.iMax → v ≤ s.reg P.wdnDcMaxV → a ≤ s.reg P.wdnDcMaxA → Completes
    (.currentDemandReq sid true v a) s fun t => t.veh.modV = 10 * v ∧ t.veh.modI = 10 * min a (maxCurrent s) ∧ t.sent
    = .hlc .currentDemand .ok (isoReport s ++ [maxCurrent s, 0, 0]) :: s.sent ∧ Keeps [] s t) ∧
  (∀ (s : State) (sid : Nat), e0On s = true → s.reg P.wdnSesProto ≠ 0 → ses s = 5 → s.veh.dc = true → s.veh.sid = some
    sid → Completes (.sessionStopReq sid true) s fun t => ses t = 6 ∧ t.reg P.wdnSesEnd = 0 ∧ t.veh.modI = 0 ∧ t.sent
    = .hlc .sessionStop .ok [] :: s.sent ∧ Keeps [P.wdnSesState, P.wdnSesEnd] s t)

/-- The precharge condition closes SO0, and 50 ms later SO2 opens; the ramp-down ends with every contactor open and
the welding check begins; both welding checks end in Session ended; an authorised AC session with a cable is
Authorised and opens a session of set 2; 6 s after the end SO3 opens. Rests on R238, R239, R240, R241, R333. -/
def Obligations.SessionSteps : Prop :=
  (∀ (s : State), ses s = 4 → s.veh.dc = true → s.present 9 = true → prechargeNear s = true → s.pwr.vsup = true →
    s.pwr.failing = false → castOk s = true → bitOf (mayHold s 0) 0 = true → bitOf (mayHold s 1) 0 = true → Completes
    (.prechargeConditionMet) s fun t => pairClosed t 0 = true ∧ Keeps [P.irnSafeState] s t) ∧
  (∀ (s : State), ses s = 4 → s.veh.dc = true → pairClosed s 0 = true → Completes (.prechargeSo2Open) s fun t =>
    t.veh.so2Open = true ∧ pairClosed t 2 = false ∧ Keeps [P.irnSafeState] s t) ∧
  (∀ (s : State), ses s = 6 → s.veh.dc = true → Completes (.rampDownEnd) s fun t => ses t = 7 ∧ t.veh.modV = 1000 ∧ (∀
    p < 4, pairClosed t p = false) ∧ Keeps [P.wdnSesState, P.irnSafeState] s t) ∧
  (∀ (s : State) (peak fall : Nat), ses s = 7 → s.veh.dc = true → peak < 30000 → fall ≤ 1000 → Completes
    (.dcWeldingCheckEnd peak fall) s fun t => ses t = 8 ∧ t.veh.modV = 0 ∧ t.veh.drive = .high ∧ Keeps [P.wdnSesState,
    P.irnCpDuty] s t) ∧
  (∀ (s : State) (auth ident : Nat), s.veh.dc = false → ses s = 1 → sessionsAllowed s = true → calibrating s 2 = false
    → 0 < ratingNow s → s.reg P.irnCpState = 2 → auth ≠ 1 → auth ≠ 2 → s.reg P.wdnHlcAc ≠ 1 → Completes
    (.acAuthorisation auth ident) s fun t => ses t = 2 ∧ t.box.session.map (·.auth) = some auth ∧ t.box.session.map
    (·.set) = some 2 ∧ t.box.number = s.box.number + 1 ∧ t.reg P.boxSessionCost = 0 ∧ Keeps [P.wdnSesState,
    P.boxSessionCost, P.irnCpDuty] s t) ∧
  (∀ (s : State), ses s = 6 → s.veh.dc = false → Completes (.acEndingTimeout) s fun t => ses t = 7 ∧ pairClosed t 3 =
    false ∧ Keeps [P.wdnSesState, P.irnSafeState] s t) ∧
  (∀ (s : State), ses s = 7 → s.veh.dc = false → s.present 9 = true → (∀ p < 3, s.regI (P.tlyPhVRms p) < 50000000) →
    Completes (.acWeldingCheckEnd) s fun t => ses t = 8 ∧ Keeps [P.wdnSesState] s t)

/-- An isolation period above both thresholds leaves IRN_ISO_R and no cause; the second period in a row below the
fault threshold latches bit 1 of IRN_EARTH_FAULTS, opens SO0 to SO3 and ends the session with cause 0x02; a
residual-current sum is taken among the last twenty; a sensor fault latches bit 3 and ends the session with cause
0x03; a self-test within its band is passed. Rests on R242, R243, R244, R245, R246, R247, R248, R256. -/
def Obligations.EarthFaults : Prop :=
  (∀ (s : State) (r : Nat), dcPath s = true → s.pwr.ironOn = true → s.domOn 58 = true → r ≤ 50000 → isoWarn s ≤ 100 *
    r → isoFault s ≤ 100 * r → Completes (.isolationPeriodEnd r) s fun t => t.reg P.irnIsoR = r ∧ t.veh.isoLow = 0 ∧
    t.veh.isoRuns = s.veh.isoRuns + 1 ∧ bitOf (t.reg P.irnEarthFaults) 0 = false ∧ Keeps [P.irnIsoR, P.irnEarthFaults]
    s t) ∧
  (∀ (s : State) (r : Nat), dcPath s = true → ses s ≤ 6 → s.pwr.ironOn = true → s.domOn 58 = true → s.veh.isoLow = 1 →
    r ≤ 50000 → 100 * r < isoFault s → Completes (.isolationPeriodEnd r) s fun t => bitOf (t.reg P.irnEarthFaults) 1 =
    true ∧ t.reg P.wdnSesEnd = 2 ∧ (∀ p < 4, pairClosed t p = false)) ∧
  (∀ (s : State) (sum : Int), rcMeasured s = true → s.veh.rcTesting = true → Completes (.residualCurrentUpdate sum) s
    fun t => t.veh.rcSums = (sum :: s.veh.rcSums).take 20 ∧ Keeps [P.irnRcDcUa] s t) ∧
  (∀ (s : State), rcMeasured s = true → Completes (.rcSensorFault) s fun t => bitOf (t.reg P.irnEarthFaults) 3 = true
    ∧ t.reg P.wdnSesEnd = 3 ∧ t.veh.drive = .high ∧ (∀ p < 4, pairClosed t p = false)) ∧
  (∀ (s : State) (m : Int), s.veh.rcTesting = true → rcMeasured s = true → 4900 ≤ m → m ≤ 9100 → s.reg P.irnCpState ≠
    3 → s.reg P.irnCpState ≠ 4 → Completes (.rcSelfTest m) s fun t => t.veh.rcTested = true ∧ t.veh.rcTesting = false
    ∧ Keeps [] s t)

/-- Each violation by time is answered as R253 says: its end cause, its contactors, its pilot. Precharge (0x29), SLAC
(0x21), sequence (0x22), current demand (0x2A), state D (0x16), state C (0x1A), overcurrent (0x19) and the connection
(0x2D). Rests on R236, R238, R240, R241, R251, R253, R254, R257. -/
def Obligations.SessionTimeouts : Prop :=
  (∀ (s : State) (ms : Nat), ses s = 4 → pairClosed s 0 = false → s.veh.began = false → Completes (.prechargeTimeout
    ms) s fun t => ses t = 8 ∧ t.reg P.wdnSesEnd = 0x29 ∧ t.veh.sid = none ∧ t.veh.drive = .high ∧ (∀ p < 4,
    pairClosed t p = false)) ∧
  (∀ (s : State) (ms : Nat), ses s = 1 → fivePercent s = true → s.veh.slacSeen = false → s.veh.dc = true →
    s.veh.slacTry = 0 → Completes (.slacTimeout ms) s fun t => t.veh.drive = .high ∧ t.veh.slacTry = 1 ∧ t.veh.slacAt
    = some s.mono) ∧
  (∀ (s : State) (ms : Nat), ses s = 2 → s.reg P.wdnSesProto ≠ 0 → Completes (.sequenceTimeout ms) s fun t => t.reg
    P.wdnSesEnd = 0x22 ∧ t.veh.sid = none ∧ t.veh.drive = .high ∧ (∀ p < 4, pairClosed t p = false)) ∧
  (∀ (s : State) (ms : Nat), ses s = 5 → s.veh.dc = true → s.veh.paused = false → Completes (.currentDemandGap ms) s
    fun t => t.veh.modI = 0 ∧ t.veh.paused = true ∧ ses t = 5) ∧
  (∀ (s : State) (ms : Nat), 1 ≤ ses s → ses s ≤ 6 → s.reg P.irnCpState = 4 → s.reg P.wdnAllowD = 0 → Completes
    (.stateDTimeout ms) s fun t => t.reg P.wdnSesEnd = 0x16 ∧ (∀ p < 4, pairClosed t p = false)) ∧
  (∀ (s : State) (ms : Nat), ses s = 6 → s.veh.dc = false → s.reg P.irnCpState = 3 → Completes (.stateCTimeout ms) s
    fun t => ses t = 7 ∧ t.reg P.wdnSesEnd = 0x1A ∧ pairClosed t 3 = false) ∧
  (∀ (s : State) (ma : Nat), ses s = 5 → s.veh.dc = false → 11 * s.veh.limit + 5000 < 10 * ma → Completes
    (.acOvercurrentTimeout ma) s fun t => ses t = 6 ∧ t.reg P.wdnSesEnd = 0x19 ∧ t.veh.drive = .high) ∧
  (∀ (s : State) (ms : Nat), ses s = 5 → s.veh.dc = true → s.reg P.wdnSesProto ≠ 0 → Completes (.tcpConnectionLoss ms)
    s fun t => ses t = 6 ∧ t.reg P.wdnSesEnd = 0x2D ∧ t.veh.sid = none ∧ t.veh.modI = 0)

/-- An interval without a crossing adds the limited counts to the totals modulo 2^24 and passes a frame, or is counted
as lost where it cannot; a lost mains is state 2; a process window passes its result, which the Tally writes with its
time; an averaging ends its step; an acknowledged entry is in the MRAM and restarts the remainder; a self-check writes
its bit, and a process channel flags CHECK; a lost converter clock sets bit 24, and the lock of PLL_D clears it with
SEQ counting the intervals missed (notes/assumptions/77.md). Rests on R286, R287, R288, R289, R290, R291, R295, R296,
R298, R299, R300, R301. -/
def Obligations.ConverterSequences : Prop :=
  (∀ (s : State) (l : List Int), meteringRuns s = true → s.present 22 = true → s.present 9 = true → s.cnv.seq < 2 ^ 32
    → ¬ (s.cnv.prev4 ≤ 0 ∧ 0 < l.getD 4 0) → Completes (.meteringIntervalEnd l) s fun t => t.reg P.irnMcSeq =
    s.cnv.seq ∧ t.cnv.seq = (s.cnv.seq + 1) % 2 ^ 32 ∧ t.cnv.totals = (List.range 12).map (fun i =>
    (((s.cnv.totals.getD i 0 : Int) + max (-2000) (min 2000 (l.getD i 0))) % 16777216).toNat) ∧ t.cnv.frames.length =
    s.cnv.frames.length + 1 ∧ (t.cnv.frames.getLast?).map (·.totals) = some t.cnv.totals ∧ Keeps [P.irnMcSeq,
    P.irnMcStatus] s t) ∧
  (∀ (s : State) (l : List Int), meteringRuns s = true → s.present 9 = false → ¬ (s.cnv.prev4 ≤ 0 ∧ 0 < l.getD 4 0) →
    Completes (.meteringIntervalEnd l) s fun t => t.reg P.irnMcFramesLost = satAdd (8 * sizeOf' P.irnMcFramesLost)
    (s.reg P.irnMcFramesLost) 1 ∧ t.cnv.frames = s.cnv.frames ∧ Keeps [P.irnMcSeq, P.irnMcStatus, P.irnMcFramesLost] s
    t) ∧
  (∀ (s : State), s.reg P.irnMainsState = 1 → Completes (.mainsLost) s fun t => t.reg P.irnMainsState = 2 ∧
    t.cnv.lastCross = none ∧ Keeps [P.irnMainsState] s t) ∧
  (∀ (s : State) (l : List Int), s.pwr.ironOn = true → s.domOn 57 = true → bitOf (s.reg P.irnMcStatus) 24 = false →
    s.present 22 = true → s.present 9 = true → Completes (.processWindowEnd l) s fun t => t.cnv.packets =
    s.cnv.packets ++ [⟨s.cnv.window, s.cnv.clocks, l, s.cnv.fallback, s.cnv.settling.map fun k => decide (0 < k),
    s.now⟩] ∧ t.cnv.window = s.cnv.window + 1 ∧ t.cnv.clocks = (nextWindow s).1 ∧ t.cnv.settling = s.cnv.settling.map
    (fun k => k - 1) ∧ Keeps [] s t) ∧
  (∀ (s : State) (p : PcPacket) (l : List PcPacket), s.present 9 = true → s.cnv.packets = p :: l → p.ended < 2 ^ 64 →
    Completes (.processResultUpdate) s fun t => t.cnv.packets = l ∧ (∀ n < 16, s.reg (P.tlyPcMode n) ≠ 0 → t.reg
    (P.tlyPcTime n) = p.ended ∧ t.reg (P.tlyPcRaw n) = ofSigned (8 * sizeOf' (P.tlyPcRaw n)) (p.counts.getD n 0)) ∧
    SameMem s t) ∧
  (∀ (s : State) (c : Int) (n : Nat), s.present 9 = true → n ≠ 0 → bits (s.reg P.tlyCalState) 7 0 = 1 → Completes
    (.calAveragingComplete c n) s fun t => t.reg P.tlyCalState = bits (s.reg P.tlyCalState) 15 8 * 256 + 2 ∧
    t.cnv.calLow = (c, n) ∧ Keeps [P.tlyCalState] s t) ∧
  (∀ (s : State) (e : CalEntry) (l : List CalEntry), s.cnv.entries = e :: l → Memory.wf s.mem = true → e.word < 2 ^
    128 → e.code < 12 → e.commits = true → Completes (.calEntryAck) s fun t => t.cnv.entries = l ∧ calWord t e.code =
    e.word ∧ t.nrg.rho = setAt s.nrg.rho e.code 0 ∧ t.reg P.tlyCalState = e.code * 256 + 5 ∧ SameRegs [P.tlyCalState]
    s t ∧ StoresOnly (calAddr e.code) 16 s t) ∧
  (∀ (s : State) (m : Nat) (d r : Int), m < 12 → meteringRuns s = true → s.cnv.aborted.contains m = false → Completes
    (.meteringSelfCheckPhase m d r) s fun t => bitOf (t.reg P.irnMcStatus) (12 + m) = decide (500 < d.natAbs ∨ 500 <
    r.natAbs) ∧ t.cnv.shadow = (m + 1) % 12 ∧ Keeps [P.irnMcStatus, P.tlyMcCheckPpm m] s t) ∧
  (∀ (s : State) (n : Nat) (d r : Int), n < 16 → s.reg (P.tlyPcMode n) ≠ 0 → s.domOn 57 = true →
    s.cnv.aborted.contains (0x10 + n) = false → Completes (.processSelfCheck n d r) s fun t => t.cnv.pcFail = setAt
    s.cnv.pcFail n (decide (100 < d.natAbs ∨ 500 < r.natAbs)) ∧ (s.present 9 = true → bitOf (t.reg (P.tlyPcFlags n)) 7
    = true) ∧ Keeps [P.tlyPcFlags n] s t) ∧
  (∀ (s : State), Completes (.selfCheckReschedule) s fun t => t = { s with cnv := { s.cnv with aborted := [] } }) ∧
  (∀ (s : State), s.pwr.ironOn = true → sessionOpen s = false → Completes (.converterClockLost) s fun t => bitOf
    (t.reg P.irnMcStatus) 24 = true ∧ Keeps [P.irnMcStatus] s t) ∧
  (∀ (s : State), s.pwr.ironOn = true → s.src 1 = 2 → s.clk.pllOn.getD 3 false = true → bitOf (s.reg P.irnMcStatus) 24
    = true → Completes (.pllLock 3) s fun t => bitOf (t.reg P.irnMcStatus) 24 = false ∧ t.cnv.lostAt = none ∧
    t.cnv.seq = (s.cnv.seq + missedIntervals s) % 2 ^ 32 ∧ Keeps [P.irnMcStatus] s t)

/-- The frame of the next interval is accounted once and becomes the last one processed; the millisecond update writes
the means, and the sums begin again; the RMS update writes the phases; the anchor is the latest arrival; a seam takes
its place in time order; an accepted commit writes TLY_LAST_COMMIT and clears the flags carried; a restoration without
records starts at zero in the rate in force. Rests on R304, R305, R307, R310, R311, R313, R315, R316, R317, R318,
R329. -/
def Obligations.TallyUpdates : Prop :=
  (∀ (s : State) (f : McFrame) (l : List McFrame) (q : Nat) (old : List Nat), s.present 9 = true → s.nrg.ready = true
    → s.cnv.frames = f :: l → s.nrg.last = some (q, old) → f.seq = q + 1 → f.seq < 2 ^ 32 → Completes
    (.meteringFrameReceive) s fun t => t.nrg.sets = (s.nrg.interval (tallyCoefs s) (tallyModes s) f.seq ((List.range
    12).map fun i => toSigned 24 (f.totals.getD i 0 + 2 ^ 24 - old.getD i 0))).sets ∧ t.nrg.last = some (f.seq,
    f.totals) ∧ t.reg P.tlySeq = f.seq ∧ t.cnv.frames = l ∧ Keeps [P.tlySeq, P.tlyMainsCross] s t) ∧
  (∀ (s : State), s.present 9 = true → s.nrg.sumN ≠ 0 → Completes (.supportingUpdate) s fun t => (∀ x < 2, t.regI
    (P.tlyOutV x) = limit32 (meanMicro (s.nrg.sums.getD (2 * x) 0) s.nrg.sumN) ∧ t.regI (P.tlyOutI x) = limit32
    (meanMicro (s.nrg.sums.getD (2 * x + 1) 0) s.nrg.sumN)) ∧ t.nrg.sumN = 0 ∧ t.nrg.bases = s.nrg.sets ∧ Keeps
    [P.tlyOutV 0, P.tlyOutI 0, P.tlyOutV 1, P.tlyOutI 1, P.tlyOutP 0, P.tlyOutP 1, P.tlyOutP 2] s t) ∧
  (∀ (s : State), s.present 9 = true → s.nrg.squareN ≠ 0 → Completes (.phaseRmsUpdate) s fun t => (∀ p < 3, t.regI
    (P.tlyPhVRms p) = limit32 (rmsMicro (s.nrg.squares.getD p 0) s.nrg.squareN) ∧ t.regI (P.tlyPhIRms p) = limit32
    (rmsMicro (s.nrg.squares.getD (3 + p) 0) s.nrg.squareN)) ∧ t.nrg.squareN = 0 ∧ t.nrg.phBases = s.nrg.phases ∧
    SameMem s t) ∧
  (∀ (s : State), s.present 9 = true → s.nrg.last.isSome = true → Completes (.anchorRefresh) s fun t => t =
    { s with nrg := { s.nrg with anchor := s.nrg.arrival } }) ∧
  (∀ (s : State) (ts a b : Nat), s.present 9 = true → s.nrg.ready = true → Completes (.seamReceive ts a b) s fun t =>
    t.nrg.seams = insertSeam ⟨ts, a % 8, b % 8⟩ s.nrg.seams ∧ SameMem s t) ∧
  (∀ (s : State), s.present 9 = true → s.nrg.ready = true → s.managerRuns = true → s.cbdOn = true → (commit ⟨0x20,
    boundaryTime s, energyPayload s s.nrg.flags, false⟩ s).1 = true → boundaryTime s < 2 ^ 64 → Completes
    (.energyCommit) s fun t => t.reg P.tlyLastCommit = boundaryTime s ∧ t.nrg.flags = 0) ∧
  (∀ (s : State), s.present 9 = true → keptPairWords s = [] → Completes (.tallyRestore) s fun t => t.nrg.ready = true
    ∧ t.nrg.sets = List.replicate 9 0 ∧ t.nrg.rates = List.replicate 72 0 ∧ t.nrg.rate = rateNow s ∧ t.nrg.seams =
    [⟨s.now, rateNow s, rateNow s⟩] ∧ SameMem s t)

/-- If the eight rate registers of each set sum to its TOTAL, IMPORT and EXPORT, they do after any interval with any
seams: an interval is split among the rates without a remainder lost. Rests on R307, R314, R315. -/
def Obligations.RatesSplitEveryInterval : Prop :=
  ∀ (n : NrgState) (coefs : List (Int × Int × Int)) (modes : List Nat) (k : Nat) (counts : List Int),
      n.rate < 8 → (∀ m ∈ n.seams, m.old < 8 ∧ m.new < 8) → n.sets.length = 9 → n.rates.length = 72 →
      (∀ x < 3, ∀ i < 3,
        ((List.range 8).map fun r => n.rates.getD (3 * (8 * x + r) + i) 0).sum = n.sets.getD (3 * x + i) 0) →
      ∀ x < 3, ∀ i < 3,
        ((List.range 8).map fun r => (n.interval coefs modes k counts).rates.getD (3 * (8 * x + r) + i) 0).sum
          = (n.interval coefs modes k counts).sets.getD (3 * x + i) 0

/-- The evaluation of the present moment puts the rate of the calendar in force, and that of a boundary announces it;
an accrual notes the imports; a sub-interval without a maximum writes BOX_MD_LAST; a tamper input and reverse energy
open their event and count it; a restoration puts back what the journal holds; a start latch keeps the outlet's
registers and an end latch closes the session. Rests on R319, R327, R328, R329, R331, R332, R335, R336, R343, R346,
R348. -/
def Obligations.CalendarCostDemand : Prop :=
  (∀ (s : State), s.managerRuns = true → s.box.rateNext = none → rateAt s s.now ≠ s.reg P.boxRateNow → Completes
    (.calendarEvaluate false) s fun t => t.reg P.boxRateNow = rateAt s s.now ∧ SameMem s t) ∧
  (∀ (s : State), s.managerRuns = true → s.box.rateNext = none → rateAt s (nextMinute s) ≠ s.reg P.boxRateNow →
    Completes (.calendarEvaluate true) s fun t => t.box.rateNext = some (nextMinute s, rateAt s (nextMinute s)) ∧
    t.reg P.boxRateNow = s.reg P.boxRateNow ∧ SameMem s t) ∧
  (∀ (s : State) (e : Session), s.box.session = some e → e.prepaid = false → s.present 9 = true → s.present 12 = true
    → Completes (.costAccrual) s fun t => t.box.session = some { e with base := rateImports s e.set } ∧ Keeps
    [P.boxCostRem, P.boxSessionCost] s t) ∧
  (∀ (s : State) (b : Int), s.present 9 = true → s.present 12 = true → s.nrg.longAt = none → s.box.demand[s.reg
    P.boxMdSubs - 1]? = some b → ((nanoJoule (s.nrg.sets.getD (3 * s.reg P.boxMdSet + 1) 0) - b) / ((s.reg P.boxMdMin
    * 60 : Nat) * 1000)).toNat ≤ s.reg (P.boxMd (rateNow s)) → Completes (.demandSubIntervalEnd) s fun t =>
    t.box.demand = (nanoJoule (s.nrg.sets.getD (3 * s.reg P.boxMdSet + 1) 0) :: s.box.demand).take 16 ∧ Keeps
    [P.boxMdLast] s t) ∧
  (∀ (s : State) (i : Nat), s.managerRuns = true → i ≤ 1 → s.box.tampOpen = [] → s.now < 2 ^ 64 → Completes
    (.tamperInputChange i true) s fun t => t.box.tampOpen = [(i, s.mono)] ∧ t.reg (P.boxTmpCount i) = satAdd (8 *
    sizeOf' (P.boxTmpCount i)) (s.reg (P.boxTmpCount i)) 1 ∧ t.reg (P.boxTmpLast i) = s.now ∧ bitOf (t.reg
    P.boxTamperAlarm) i = true) ∧
  (∀ (s : State) (x : Nat), x ≤ 2 → boxWorks s = true → s.managerRuns = true → reverseRuns s x = true → s.box.tampOpen
    = [] → Completes (.reverseEnergyTimer x) s fun t => t.box.tampOpen = [(3, s.mono)] ∧ bitOf (t.reg
    P.boxTamperAlarm) 3 = true) ∧
  (∀ (s : State), s.present 12 = true → Completes (.boxRestore) s fun t => (∀ p ∈ billingPids, t.reg p = persistVal
    s.jnl.persist p (dfltOf p) % 2 ^ (8 * sizeOf' p)) ∧ t.box.token = none ∧ Keeps billingPids s t) ∧
  (∀ (s : State), boxWorks s = true → s.present 3 = true → s.cbdOn = true → (s.chan 10).permits 9 = true → s.present
    (initIsland (s.chan 10).receiver) = true → (s.chan 10).full = false → 10 < s.cbd.ch.length → Completes
    (.channel10StateReport) s fun t => (t.chan 10).full = true ∧ (t.chan 10).lastSender = 9 ∧ SameMem s t) ∧
  (∀ (s : State) (x : Nat) (e : Session), s.present 9 = true → s.nrg.ready = true → x ≤ 2 → s.box.session = some e →
    e.set = x → Completes (.sessionLatch x true) s fun t => t.box.session = some
    { e with imp := s.nrg.sets.getD (3 * x + 1) 0, exp := s.nrg.sets.getD (3 * x + 2) 0, base := rateImports s x } ∧
    SameMem s t) ∧
  (∀ (s : State) (x : Nat) (e : Session), s.present 9 = true → s.nrg.ready = true → x ≤ 2 → s.box.session = some e →
    e.set = x → Completes (.sessionLatch x false) s fun t => t.box.session = none)

/-- An unfinished entry and a held first part end with their time; a token whose check digits fail ends with result
0x02; a token that the replay check admits is reported. Once its record is committed a token leaves result 0x00: a
credit token adds its credit, part one is held, part two changes the token key and the revision, a clear-tamper token
clears its alarm bits, a tariff token sets the price set, a test token nothing more. Rests on R338, R339, R340, R341,
R342, R345, R347, R349. -/
def Obligations.Tokens : Prop :=
  (∀ (s : State), Completes (.tokenEntryTimeout) s fun t => t = { s with box := { s.box with entry := [] } }) ∧
  (∀ (s : State), Completes (.keyChangePartOneExpiry) s fun t => t = { s with box := { s.box with partOne := none } }) ∧
  (∀ (s : State) (k : Token) (p : List Nat), s.box.token = some k → k.posted = false → k.keypad = false → boxWorks s =
    true → p = tokenPlain s k.digits → tokenCheck s (p.take 19) ≠ ofDigits (p.drop 19) → Completes
    (.tokenDecodeComplete) s fun t => t.box.token = none ∧ t.reg P.boxTokenResult = 0x2FF02 ∧ Keeps [P.boxTokenResult]
    s t) ∧
  (∀ (s : State) (k : Token) (p : List Nat), s.box.token = some k → k.posted = false → boxWorks s = true → p =
    tokenPlain s k.digits → tokenCheck s (p.take 19) = ofDigits (p.drop 19) → ofDigits (slice p 17 2) = s.reg
    P.boxTokenRev → p.getD 0 0 = 5 → serialJudge s (ofDigits (slice p 1 8)) = 0 → Completes (.tokenDecodeComplete) s
    fun t => t.box.token.map (·.reported) = some true ∧ t.box.token.map (·.serial) = some (ofDigits (slice p 1 8)) ∧
    t.box.token.map (·.cls) = some 5 ∧ SameMem s t) ∧
  (∀ (s : State) (k : Token), s.box.token = some k → k.reported = true → boxWorks s = true → s.managerRuns = true →
    k.cls ≤ 5 → (commit ⟨0x21, s.now, tokenPayload s k, false⟩ s).1 = true → Completes (.tokenRecordAck) s fun t =>
    t.box.token = none ∧ t.reg P.boxTokenResult = k.cls * 256 + (if k.keypad then 1 else 2) ∧ t.reg P.boxPending = 0) ∧
  (∀ (s : State) (k : Token), s.box.token = some k → k.reported = true → boxWorks s = true → s.managerRuns = true →
    k.cls = 0 → (commit ⟨0x21, s.now, tokenPayload s k, false⟩ s).1 = true → -2 ^ 63 ≤ s.regI P.boxCredit + k.credit →
    s.regI P.boxCredit + k.credit < 2 ^ 63 → Completes (.creditToken) s fun t => t.regI P.boxCredit = s.regI
    P.boxCredit + k.credit ∧ t.reg P.boxSerialHigh = (tokenWindow s k).1 % 2 ^ 32 ∧ t.box.token = none) ∧
  (∀ (s : State) (k : Token), s.box.token = some k → k.reported = true → boxWorks s = true → s.managerRuns = true →
    k.cls = 1 → (commit ⟨0x21, s.now, tokenPayload s k, false⟩ s).1 = true → Completes (.keyChangePartOne) s fun t =>
    t.box.partOne = some (k.value, s.mono) ∧ t.box.token = none) ∧
  (∀ (s : State) (k : Token) (d : Nat), s.box.token = some k → k.reported = true → boxWorks s = true → s.managerRuns =
    true → k.cls = 2 → heldPart s = some d → s.reg P.boxTokenRev ≤ 99 → (commit ⟨0x21, s.now, tokenPayload s k, false⟩
    s).1 = true → Completes (.keyChangePartTwo) s fun t => t.box.tokenKey = ofBytes (aesEncrypt (toBytes 16
    s.box.changeKey) (toBytesBE 8 d ++ toBytesBE 8 k.value)) ∧ t.box.partOne = none ∧ t.reg P.boxTokenRev = (if s.reg
    P.boxTokenRev = 99 then 1 else s.reg P.boxTokenRev + 1) ∧ t.box.token = none) ∧
  (∀ (s : State) (k : Token), s.box.token = some k → k.reported = true → boxWorks s = true → s.managerRuns = true →
    k.cls = 3 → (commit ⟨0x21, s.now, tokenPayload s k, false⟩ s).1 = true → s.reg P.boxTamperAlarm < 2 ^ (8 * sizeOf'
    P.boxTamperAlarm) → Completes (.clearTamperToken) s fun t => t.reg P.boxTamperAlarm = s.reg P.boxTamperAlarm -
    (s.reg P.boxTamperAlarm &&& bits k.value 10 0) ∧ t.box.token = none) ∧
  (∀ (s : State) (k : Token), s.box.token = some k → k.reported = true → boxWorks s = true → s.managerRuns = true →
    k.cls = 4 → k.value ≤ 3 → (commit ⟨0x21, s.now, tokenPayload s k, false⟩ s).1 = true → Completes
    (.setTariffIndexToken) s fun t => t.reg P.boxPriceSet = k.value ∧ t.box.token = none) ∧
  (∀ (s : State) (k : Token), s.box.token = some k → k.reported = true → boxWorks s = true → s.managerRuns = true →
    k.cls = 5 → (commit ⟨0x21, s.now, tokenPayload s k, false⟩ s).1 = true → Completes (.testToken) s fun t =>
    t.box.token = none ∧ t.reg P.boxSerialHigh = (tokenWindow s k).1 % 2 ^ 32 ∧ t.regI P.boxCredit = s.regI
    P.boxCredit)

/-- An accepted READ of a readable object is answered OK with its value, and a READ of UARTn_RX_DATA takes the bytes
away; BULK_READ answers every entry; NOTIFY subscribes in the lowest free slot; a raw read answers what the access
gives. Every reply is kept and sent under the sequence state of R179. Rests on R173, R176, R178, R179, R188, R189,
R190, R191, R455. -/
def Obligations.CueReads : Prop :=
  (∀ (s : State) (r : Req) (h : State) (val : Bytes), Accepted opRead r s → areaOf r.pid ≠ 0xE → h = heard r s →
    readObject (reqKey r) r.pid h = (resOk, val) → r.payload = [] → val.length < 1400 → Completes (.read r) s fun t =>
    t = answered (servingOf opRead r s) (resOk, val) (readTakes r.pid h) ∧ val = objBytes h r.pid) ∧
  (∀ (s : State) (r : Req) (h : State) (n : Nat) (val : Bytes), Accepted opRead r s → n = 1 ∨ n = 2 → r.pid =
    P.uartRxData n → h = heard r s → readObject (reqKey r) r.pid h = (resOk, val) → r.payload = [] → val.length < 1400
    → Completes (.uartRxDataRead r) s fun t => t = answered (servingOf opRead r s) (resOk, val) (rxTaken n h)) ∧
  (∀ (s : State) (r : Req) (h : State) (l : List Nat), Accepted opBulkRead r s → r.pid = 0 → r.payload.length % 3 = 0
    → h = heard r s → parsePids 500 r.payload = l → l ≠ [] → l.length ≤ 64 → (bulkReadEntries (reqKey r) l h).1.length
    < 1400 → Completes (.bulkRead r) s fun t => t = answered (servingOf opBulkRead r s) (resOk, (bulkReadEntries
    (reqKey r) l h).1) (bulkReadEntries (reqKey r) l h).2) ∧
  (∀ (s : State) (r : Req) (h : State) (lo hi i : Nat) (val : Bytes), Accepted opNotify r s → h = heard r s →
    readObject (reqKey r) r.pid h = (resOk, val) → r.payload = [1, lo, hi] → 10 ≤ lo + 256 * hi → lo + 256 * hi ≤
    60000 → val.length < 1398 → subSlot r.src r.pid h = none → (List.range 64).find? (fun i => (h.sub i).isNone) =
    some i → Completes (.notify r) s fun t => t = answered (servingOf opNotify r s) (resOk, [i]) (h.setSub i (some
    ⟨r.pid, r.src, r.via, r.ip, reqKey r, r.seq, true, lo + 256 * hi, 0, s.mono, val, false⟩))) ∧
  (∀ (s : State) (r : Req) (h : State), Accepted opRead (rawReq r) s → h = heard (rawReq r) s → (serveRaw (servingOf
    opRead (rawReq r) s) h).1.1 = resOk → Completes (.rawWindowRead r) s fun t => t = answered (servingOf opRead
    (rawReq r) s) (serveRaw (servingOf opRead (rawReq r) s) h).1 (serveRaw (servingOf opRead (rawReq r) s) h).2)

/-- An accepted WRITE that every step admits is performed and answered OK; one of a safety block begins the pending
block and answers its CRC; BULK_WRITE applies its entries in order; a raw write answers what the access gives; a key
written is decrypted under the key that verified the write; CONFIRM puts the pending block in force, and its expiry
discards it. Rests on R171, R178, R179, R182, R183, R185, R186, R187, R190, R191, R194, R215. -/
def Obligations.CueWrites : Prop :=
  (∀ (s : State) (r : Req) (h : State), AcceptedWrite r s → h = heard r s → (performWrite (servingOf opWrite r s)
    r.pid r.payload h).1 = resOk → Completes (.write r) s fun t => Wrote r s (performWrite (servingOf opWrite r s)
    r.pid r.payload h).2 t) ∧
  (∀ (s : State) (r : Req) (h : State), Accepted opWrite r s → areaOf r.pid ≠ 0xE → inBlock r.pid = true → h = heard r
    s → judgeWrite (reqKey r) r.pid r.payload h = resOk → s.cue.pend = none → Completes (.write r) s fun t => t =
    answered (servingOf opWrite r s) (resOk, toBytes 4 ((blockWrite (masterOf s r) r.pid (ofBytes r.payload) h).2.reg
    P.smgCuePendingCrc)) (blockWrite (masterOf s r) r.pid (ofBytes r.payload) h).2 ∧ ((blockWrite (masterOf s r) r.pid
    (ofBytes r.payload) h).2.cue.pend).map (·.group) = some (r.pid / 256 * 256)) ∧
  (∀ (s : State) (r : Req) (h : State) (l : List (Nat × Bytes)), Accepted opBulkWrite r s → r.pid = 0 → parseWrites
    300 r.payload = (l, true) → l ≠ [] → l.length ≤ 64 → (∀ e ∈ l, persistent e.1 = false) → h = heard r s →
    bulkJudges (servingOf opBulkWrite r s) 0 none l h = none → Completes (.bulkWrite r) s fun t => t = answered
    (servingOf opBulkWrite r s) (bulkApplies (servingOf opBulkWrite r s) 0 l h).1 (bulkApplies (servingOf opBulkWrite
    r s) 0 l h).2) ∧
  (∀ (s : State) (r : Req) (h : State) (n : Nat) (b : PendBlock), Accepted opConfirm r s → 3 ≤ reqKey r → h = heard r
    s → groupHome r.pid = some n → h.homePresent n = true → r.payload.length = 4 → r.pid % 256 = 0 → r.pid = 0x30F000
    ∨ (anyPairClosed h = false ∧ anyClosed h = false) → livePend h = some b → b.group = r.pid → b.writer = masterOf s
    r → ofBytes r.payload = blockCrc b.values → h.ironPresent = true → Completes (.confirm r) s fun t => t = answered
    (servingOf opConfirm r s) (resOk, []) (confirmBlock (servingOf opConfirm r s) b h) ∧ (confirmBlock (servingOf
    opConfirm r s) b h).cue.pend = none) ∧
  (∀ (s : State) (r : Req) (h : State), Accepted opWrite (rawReq r) s → h = heard (rawReq r) s → (serveRaw (servingOf
    opWrite (rawReq r) s) h).1.1 = resOk → Completes (.rawWindowWrite r) s fun t => t = answered (servingOf opWrite
    (rawReq r) s) (serveRaw (servingOf opWrite (rawReq r) s) h).1 (serveRaw (servingOf opWrite (rawReq r) s) h).2) ∧
  (∀ (s : State) (r : Req) (h : State) (k : Nat), AcceptedWrite r s → k < 3 → r.pid = P.smgCueKey k → h = heard r s →
    s.cue.keys.length = 5 → Completes (.keyChange r) s fun t => Wrote r s (keyWrite (servingOf opWrite r s).ctx r.pid
    r.payload h) t ∧ (keyWrite (servingOf opWrite r s).ctx r.pid r.payload h).key k = ofBytes (aesDecrypt (toBytes 16
    (s.key (reqKey r))) r.payload)) ∧
  (∀ (s : State), Completes (.safetyBlockExpiry) s fun t => t.cue.pend = none ∧ t.reg P.smgCuePendingPid = 0xFFFFFFFF
    ∧ t.reg P.smgCuePendingCrc = 0 ∧ Keeps [P.smgCuePendingPid, P.smgCuePendingCrc] s t)

/-- An accepted SEIZE gives the area's baton to its master and RELEASE frees it; a due notification counts up, keeps
the value sent and changes no register but SMG_CUE_SUBS_USED; an accepted retry of the objects' own commits leaves
none waiting. Rests on R27, R29, R30, R31, R33, R188, R189, R528. -/
def Obligations.BatonsAndNotifications : Prop :=
  (∀ (s : State) (r : Req) (h : State) (a : Nat), Accepted opSeize r s → r.payload = [] → a < 16 → r.pid = a *
    0x100000 → h = heard r s → Completes (.seize r) s fun t => t = answered (servingOf opSeize r s) (resOk, [])
    (changeBaton (servingOf opSeize r s) 1 a (masterOf s r).holds h) ∧ (changeBaton (servingOf opSeize r s) 1 a
    (masterOf s r).holds h).holder a = (masterOf s r).holds) ∧
  (∀ (s : State) (r : Req) (h : State) (a : Nat), Accepted opRelease r s → r.payload = [] → a < 16 → r.pid = a *
    0x100000 → h = heard r s → Completes (.release r) s fun t => t = answered (servingOf opRelease r s) (resOk, [])
    (changeBaton (servingOf opRelease r s) 3 a 0 h) ∧ (changeBaton (servingOf opRelease r s) 3 a 0 h).holder a = 0) ∧
  (∀ (s : State) (i : Nat) (u : Sub), s.sub i = some u → i < s.cue.subs.length → s.homePresent (homeOf u.pid) = true →
    noteDue u s = true → accessAborts s u.pid = false → u.via = .stageLink → s.carries u.via = true → (nextHop s
    u.ip).isSome = true → Completes (.notificationOnChange i) s fun t => t.sub i = some
    { u with count := nextCount u.count, sentAt := s.mono, last := objBytes s u.pid, gone := false } ∧ t.sent.length =
    s.sent.length + 1 ∧ Keeps [P.smgCueSubsUsed] s t) ∧
  (∀ (s : State) (i : Nat) (u : Sub), s.sub i = some u → i < s.cue.subs.length → s.homePresent (homeOf u.pid) = true →
    u.onChange = false → accessAborts s u.pid = false → u.via = .stageLink → s.carries u.via = true → (nextHop s
    u.ip).isSome = true → Completes (.notificationPeriodic i) s fun t => t.sub i = some
    { u with count := nextCount u.count, sentAt := s.mono, last := objBytes s u.pid, gone := false } ∧ t.sent.length =
    s.sent.length + 1 ∧ Keeps [P.smgCueSubsUsed] s t) ∧
  (∀ (s : State), s.jnl.retry ≠ [] → (commit ⟨0x10, s.now, s.ownPayload s.jnl.retry, false⟩ s).1 = true → Completes
    (.objectSelfCommitRetry) s fun t => t.jnl.retry = [])

/-- A card alone in two polls in a row is judged: under the allow list a card that is not in it gives RDR_AUTH_RESULT
1 with its identity; a grant that does not come gives 5, a SAM that refuses 2, a SAM that is silent or lost 4. A
module inserted starts at its highest class, a good ATR activates its protocol, a missing ATR tries the next class,
and removal deactivates. Rests on R416, R417, R418, R431, R432, R433. -/
def Obligations.ReaderAndContacts : Prop :=
  (∀ (s : State) (c : Card), s.present 20 = true → s.domOn 60 = true → s.reg P.rdrEnable ≠ 0 → s.reg P.rdrTestMode = 0
    → 1 ≤ c.kind → c.kind ≤ 3 → bitOf (s.reg P.rdrTypes) (c.kind - 1) = true → sessionOpen s = false → s.rdr.judging =
    none → s.rdr.seen = some c → s.reg P.rdrAuthMode = 0 → cardAllowed s c = false → Completes (.readerPoll [(c.kind,
    c.ident)]) s fun t => t.reg P.rdrAuthResult = 1 ∧ t.reg P.rdrLastUid = ofBytes (padTo 10 c.ident) % 2 ^ 80 ∧ Keeps
    [P.rdrAuthResult, P.rdrLastUid, P.rdrLastCard] s t) ∧
  (∀ (s : State) (c : Card), s.rdr.judging = some (c, 1) → Completes (.hostGrantTimeout) s fun t => t.rdr.judging =
    none ∧ t.reg P.rdrAuthResult = 5 ∧ Keeps [P.rdrAuthResult] s t) ∧
  (∀ (s : State) (c : Card) (sw : Nat), s.rdr.judging = some (c, 2) → sw ≠ 0x9000 → Completes (.samResponse sw) s fun
    t => t.rdr.judging = none ∧ t.reg P.rdrAuthResult = 2 ∧ Keeps [P.rdrAuthResult] s t) ∧
  (∀ (s : State) (c : Card), s.rdr.judging = some (c, 2) → Completes (.samResponse 0x9000) s fun t => t.rdr.judging =
    none ∧ t.reg P.rdrAuthResult = 0) ∧
  (∀ (s : State) (c : Card), s.rdr.judging = some (c, 2) → Completes (.samWaitingTimeExpiry) s fun t => t.rdr.judging
    = none ∧ t.reg P.rdrAuthResult = 4 ∧ Keeps [P.rdrAuthResult] s t) ∧
  (∀ (s : State) (n c : Nat), s.present 18 = true → n = 3 ∨ n = 4 → s.crd.slots.length = 2 → nextClass s n 4 = some c
    → Completes (.cardInsert n) s fun t => t.reg (P.crdState n) = 1 ∧ (t.slot n).cls = c ∧ (t.slot n).warm = false ∧
    Keeps [P.crdState n] s t) ∧
  (∀ (s : State) (n : Nat) (l : Bytes) (a : Atr), s.present 18 = true → n = 3 ∨ n = 4 → s.crd.slots.length = 2 → s.reg
    (P.crdState n) = 1 → parseAtr l = some a → bitOf a.classes (classBit (s.slot n).cls) = true →
    (a.protos.head?).getD 0 ≤ 1 → Completes (.cardAtr n l) s fun t => t.reg (P.crdState n) = 2 + (a.protos.head?).getD
    0 ∧ (t.slot n).ta1 = agreedTa1 a ∧ Keeps [P.crdState n, P.crdAtr n] s t) ∧
  (∀ (s : State) (n c : Nat), s.present 18 = true → n = 3 ∨ n = 4 → s.crd.slots.length = 2 → s.reg (P.crdState n) = 1
    → nextClass s n (s.slot n).cls = some c → Completes (.cardAtrTimeout n) s fun t => t.reg (P.crdState n) = 1 ∧
    (t.slot n).cls = c ∧ Keeps [P.crdState n] s t) ∧
  (∀ (s : State) (n : Nat), s.present 18 = true → n = 3 ∨ n = 4 → s.rdr.judging = none → s.crd.slots.length = 2 →
    Completes (.cardRemove n) s fun t => t.reg (P.crdState n) = 0 ∧ (t.slot n).cls = 0 ∧ Keeps [P.crdState n] s t)

/-- A field powers PD62 and PD02 and makes the tag idle, its loss turns it off; REQA and WUPA answer the ATQA and make
the tag ready, anticollision answers the UID part, both SELECTs lead to active, RATS answers the ATS, the halt command
and S(DESELECT) halt. Outside its state a command of selection changes nothing. Rests on R419, R420, R421. -/
def Obligations.TagProtocol : Prop :=
  (∀ (s : State), s.tag.field = false → s.pwr.dom.length = 64 → Completes (.tagFieldOn) s fun t => t.reg P.tagState =
    1 ∧ t.tag.field = true ∧ t.tag.fieldAt = s.mono ∧ t.dom 62 = .on ∧ t.dom 2 = .on ∧ Keeps [P.tagState] s t) ∧
  (∀ (s : State), s.pwr.darkKeeper = true → s.pwr.dom.length = 64 → Completes (.tagFieldLoss) s fun t => t.reg
    P.tagState = 0 ∧ t.tag.field = false ∧ t.dom 62 = .off ∧ Keeps [P.tagState] s t) ∧
  (∀ (s : State), tagReadyToAnswer s = true → tagSt s = 1 → Completes (.reqa) s fun t => t.reg P.tagState = 2 ∧
    t.tag.level = 1 ∧ t.sent = .tag [0x44, 0x00] (some 1172) :: s.sent ∧ Keeps [P.tagState] s t) ∧
  (∀ (s : State), tagReadyToAnswer s = true → tagSt s = 6 → Completes (.wupa) s fun t => t.reg P.tagState = 2 ∧
    t.tag.level = 1 ∧ t.tag.woken = true ∧ t.sent = .tag [0x44, 0x00] (some 1236) :: s.sent ∧ Keeps [P.tagState] s t) ∧
  (∀ (s : State) (n p : Nat), tagSt s = 2 → n ≤ 40 → ofBytes (uidPart s s.tag.level) % 2 ^ n = p % 2 ^ n → Completes
    (.anticollision s.tag.level n p) s fun t => t = s.emit (.tag (uidPart s s.tag.level) (some (frameDelay (!(n == 0)
    && bitOf p (n - 1)))))) ∧
  (∀ (s : State), tagSt s = 2 → s.tag.level = 1 → Completes (.selectCascade 1 (uidPart s 1)) s fun t => t.tag.level =
    2 ∧ t.sent = .tag [0x04] (some (selectDelay 1 (uidPart s 1))) :: s.sent ∧ Keeps [] s t) ∧
  (∀ (s : State), tagSt s = 2 → s.tag.level = 2 → Completes (.selectCascade 2 (uidPart s 2)) s fun t => t.reg
    P.tagState = 5 ∧ t.sent = .tag [0x20] (some (selectDelay 2 (uidPart s 2))) :: s.sent ∧ Keeps [P.tagState] s t) ∧
  (∀ (s : State) (lv : Nat) (part : Bytes), tagSelecting s = false → Completes (.selectCascade lv part) s fun t => t =
    s) ∧
  (∀ (s : State) (lv : Nat) (part : Bytes), tagSt s = 2 → lv ≠ s.tag.level → Completes (.selectCascade lv part) s fun
    t => t.reg P.tagState = (if s.tag.woken then 6 else 1) ∧ t.sent = s.sent ∧ Keeps [P.tagState] s t) ∧
  (∀ (s : State), tagSt s = 5 → s.tag.rats = false → Completes (.rats) s fun t => t.tag.rats = true ∧ t.sent = .tag
    [0x05, 0x75, 0x00, 0x40, 0x02] none :: s.sent ∧ Keeps [] s t) ∧
  (∀ (s : State), tagSt s = 5 → s.tag.rats = false → Completes (.tagHalt) s fun t => t.reg P.tagState = 6 ∧ Keeps
    [P.tagState] s t) ∧
  (∀ (s : State), s.tag.rats = true → tagSt s = 5 ∨ tagSt s = 3 ∨ tagSt s = 4 → Completes (.sDeselect) s fun t =>
    t.reg P.tagState = 6 ∧ t.tag.rats = false ∧ t.sent = .tag [0xC2] none :: s.sent ∧ Keeps [P.tagState] s t) ∧
  (∀ (s : State), tagBlock s = true → tagSt s = 5 → (∀ k < 192, s.wrongAt (noteAddr k) = []) → Completes
    (.selectApplication [0xF0, 0x4D, 0x5A, 0x44, 0x31]) s fun t => t.reg P.tagState = 3 ∧ t.sent = .tagApdu [] 0x9000
    :: s.sent ∧ t.reg P.tagNoteNext = nextNote s % 2 ^ 32 ∧ Keeps [P.tagState, P.tagNoteNext] s t) ∧
  (∀ (s : State), tagBlock s = true → tagSt s = 5 → Completes (.selectApplication [0xF0, 0x4D, 0x5A, 0x44, 0x31]) s
    fun t => t.reg P.tagState = 3 ∧ t.reg P.tagNoteNext = nextNote s % 2 ^ 32 ∧ t.sent.head? = some (.tagApdu []
    0x9000))

/-- Selected, the tag answers its identity, a window of the tag region and its status; a note from a secured writer
takes the next slot and count, and nothing else in memory changes; the right password secures the tag, a wrong one is
refused, counted and returns it to OPEN; AUTHENTICATE 1 keeps its challenge and AUTHENTICATE 2 secures the tag where
the answer carries it; the status page is rewritten. Rests on R422, R423, R424, R425, R426, R427, R428, R429, R430. -/
def Obligations.TagApplication : Prop :=
  (∀ (s : State), tagBlock s = true → tagApp s = true → Completes (.readIdentity) s fun t => t.sent = .tagApdu
    (s.postId ++ tagUid s ++ [0]) 0x9000 :: s.sent ∧ Keeps [] s t) ∧
  (∀ (s : State) (i le : Nat), tagBlock s = true → tagApp s = true → le = 16 ∨ le = 32 ∨ le = 48 → i + le / 16 ≤ 256 →
    (∀ k < le / 16, s.wrongAt (0x02001000 + 16 * (i + k)) = []) → Completes (.readWindow i le false) s fun t => t.sent
    = .tagApdu (s.bytes (0x02001000 + 16 * i) le) 0x9000 :: s.sent ∧ Keeps [] s t) ∧
  (∀ (s : State) (i : Nat), tagBlock s = true → tagApp s = true → i < 256 → darkBad s (0x02001000 + 16 * i) = false →
    Completes (.readWindow i 16 false) s fun t => t.sent.head? = some (.tagApdu (s.bytes (0x02001000 + 16 * i) 16)
    0x9000)) ∧
  (∀ (s : State) (i le k : Nat), tagBlock s = true → tagApp s = true → s.present 14 = false → le = 16 ∨ le = 32 ∨ le =
    48 → i + le / 16 ≤ 256 → k < le / 16 → darkBad s (0x02001000 + 16 * (i + k)) = true → Completes (.readWindow i le
    false) s fun t => t.sent = .tagApdu [] 0x6F00 :: s.sent ∧ Keeps [] s t) ∧
  (∀ (s : State) (vh vr : Nat), tagBlock s = true → tagApp s = true → Completes (.getStatus vh vr) s fun t => t.sent =
    .tagApdu ([tagSt s, if s.pwr.darkKeeper then 2 else 1] ++ toBytes 2 vh ++ toBytes 2 vr ++ toBytes 4 (s.reg
    P.tagNoteNext)) 0x9000 :: s.sent ∧ Keeps [] s t) ∧
  (∀ (s : State) (text : Bytes) (vh vr c : Nat), tagBlock s = true → tagSt s = 4 → text.length = 11 → ofBytes text < 2
    ^ 88 → noteFeed s vh vr = true → s.tag.clearing = none → c = s.reg P.tagNoteNext → c + 1 < 2 ^ 32 → Memory.wf
    s.mem = true → Completes (.writeNote text vh vr) s fun t => t.word (noteAddr (c % 192)) = noteWord text
    (!s.pwr.vaon) s.tag.byAes c ∧ t.reg P.tagNoteNext = c + 1 ∧ t.sent = .tagApdu (toBytes 4 c) 0x9000 :: s.sent ∧
    SameRegs [P.tagNoteNext] s t ∧ StoresOnly (noteAddr (c % 192)) 16 s t) ∧
  (∀ (s : State) (pw : Bytes), tagBlock s = true → tagApp s = true → pw.length = 8 → s.tag.password = some (ofBytes
    pw) → authBarred s 0 = false → Completes (.verifyPassword pw) s fun t => t.reg P.tagState = 4 ∧ t.tag.byAes =
    false ∧ t.sent = .tagApdu [] 0x9000 :: s.sent ∧ Keeps [P.tagState] s t) ∧
  (∀ (s : State) (pw : Bytes) (k : Nat), tagBlock s = true → tagApp s = true → pw.length = 8 → s.tag.password = some k
    → ofBytes pw ≠ k → authBarred s 0 = false → s.pwr.vaon = true → Completes (.verifyPassword pw) s fun t => t.reg
    P.tagState = 3 ∧ t.tag.failAt = some s.mono ∧ t.reg P.tagAuthFails = satAdd (8 * sizeOf' P.tagAuthFails) (s.reg
    P.tagAuthFails) 1 ∧ t.sent = .tagApdu [] 0x6300 :: s.sent ∧ Keeps [P.tagState, P.tagAuthFails] s t) ∧
  (∀ (s : State), tagBlock s = true → tagApp s = true → authBarred s 1 = false → Completes (.authenticate1) s fun t =>
    t.tag.rndB.isSome = true ∧ t.sent.head? = some (.tagApdu (aesEncrypt (tagKey s) (toBytes 16 (t.tag.rndB.getD 0)))
    0x9000) ∧ Keeps [] s t) ∧
  (∀ (s : State) (data : Bytes) (b : Nat), tagBlock s = true → s.tag.rndB = some b → data.length = 32 → xorBytes
    (aesDecrypt (tagKey s) (data.drop 16)) (data.take 16) = rotl (toBytes 16 b) → Completes (.authenticate2 data) s
    fun t => t.reg P.tagState = 4 ∧ t.tag.byAes = true ∧ t.tag.rndB = none ∧ t.sent = .tagApdu (aesEncrypt (tagKey s)
    (rotl (aesDecrypt (tagKey s) (data.take 16)))) 0x9000 :: s.sent ∧ Keeps [P.tagState] s t) ∧
  (∀ (s : State) (cause : Nat), s.managerRuns = true → Memory.wf s.mem = true → Completes (.statusPageUpdate cause) s
    fun t => t.word 0x02001000 = pageHead s cause % 2 ^ 128 ∧ StoresOnly 0x02001000 96 s t ∧ SameRegs [] s t)

/-- A delimiter passes a good frame to the Cue server and counts it; a frame left unfinished is discarded and counted;
a character without errors joins the frame, or a tunnel's buffer; XON is sent at the low water mark; an idle line sets
its bit; a start edge wakes the Stage manager, whose clock check then clears WAKE_SUSPECT; a break restores 115,200
bit/s; settings apply after their reply; in tier K an idle port lets the Stage manager sleep. Rests on R439, R441,
R442, R446, R447, R448, R450, R451, R460, R461, R462. -/
def Obligations.SerialPorts : Prop :=
  (∀ (s : State) (b : Bytes) (op : Nat) (r : Req), doorOpen s = true → s.ser.door ≠ [] → (∀ e ∈ s.ser.door, e.2 = 0) →
    cobsDecode (s.ser.door.map (·.1)) = some b → 2 ≤ b.length → b.length ≤ 1424 → crc16 (b.take (b.length - 2)) =
    ofBytes (b.drop (b.length - 2)) → s.cue.running = true → parseCue .stageDoor 0 0 (b.take (b.length - 2)) = some
    (op, r) → Completes (.stageDoorFrame) s fun t => t.ser.door = [] ∧ t.cue.inbox.length = s.cue.inbox.length + 1 ∧
    (t.cue.inbox.getLast?).map (·.req) = some r ∧ (t.cue.inbox.getLast?).map (·.opcode) = some op ∧ t.reg
    P.sdrFramesIn = satAdd (8 * sizeOf' P.sdrFramesIn) (s.reg P.sdrFramesIn) 1 ∧ Keeps [P.sdrFramesIn] s t) ∧
  (∀ (s : State), s.ser.door ≠ [] → Completes (.stageDoorFrameTimeout) s fun t => t.ser.door = [] ∧ t.reg
    P.smgCueDiscards = satAdd (8 * sizeOf' P.smgCueDiscards) (s.reg P.smgCueDiscards) 1 ∧ Keeps [P.smgCueDiscards] s
    t) ∧
  (∀ (s : State) (c : Nat), doorOpen s = true → s.pwr.asleep = false → s.ser.lostFirst = false → ustat s 0 7 = false →
    bitOf s.ser.doorFmt 0 = false → 0 < c → c < 256 → Completes (.uartCharacterReceive 0 c false false) s fun t =>
    t.ser.door = s.ser.door ++ [(c, 0)] ∧ t.ser.doorAt = s.mono ∧ Keeps [P.sdrStatus] s t) ∧
  (∀ (s : State) (n c : Nat), n = 1 ∨ n = 2 → tunnels s n = true → s.reg (P.uartFlow n) ≠ 1 → s.ser.uarts.length = 5 →
    (s.uart n).fifo = [] → (s.uart n).lost = false → (s.uart n).inBuf.length < 1024 → bitOf (s.reg (P.uartFormat n)) 0
    = false → c < 256 → Completes (.uartCharacterReceive n c false false) s fun t => (t.uart n).inBuf = (s.uart
    n).inBuf ++ [c] ∧ (t.uart n).fifo = [] ∧ Keeps [P.uartStatus n] s t) ∧
  (∀ (s : State) (u : Nat), flows s u = true → s.pwr.vio33 = true → ustat s u 3 = true → (s.uart u).fifo.length ≤ bits
    (s.reg (P.uartWm u)) 7 0 → Completes (.xonSend u) s fun t => ustat t u 3 = false ∧ t.sent = .uart u [s.reg
    (P.uartXon u)] :: s.sent ∧ Keeps [statusPid u] s t) ∧
  (∀ (s : State) (u : Nat), (u = 0 ∧ doorOpen s = true) ∨ (1 ≤ u ∧ u ≤ 4 ∧ s.present 18 = true) → Completes (.idleLine
    u) s fun t => ustat t u 2 = true ∧ Keeps [statusPid u] s t) ∧
  (∀ (s : State), s.pwr.asleep = true → s.clk.src.length = 12 → Completes (.startEdgeWake) s fun t => t.pwr.asleep =
    false ∧ t.src 0 = 2 ∧ t.ser.woken = true ∧ t.ser.lostFirst = decide (230400 < s.ser.doorBaud) ∧ Keeps [] s t) ∧
  (∀ (s : State) (n : Nat), s.ser.woken = true → wakeCountOk s n = true → Completes (.wakeRc16Check n) s fun t =>
    t.ser.woken = false ∧ ustat t 0 7 = false ∧ t.ser.door = s.ser.door ∧ Keeps [P.sdrStatus] s t) ∧
  (∀ (s : State), doorOpen s = true → Completes (.breakDetect) s fun t => t.ser.doorBaud = 115200 ∧ t.ser.doorFmt = 0
    ∧ ustat t 0 6 = true ∧ Keeps [P.sdrStatus] s t) ∧
  (∀ (s : State), s.ser.doorPend = true → Completes (.stageDoorSettingsApply) s fun t => t =
    { s with ser := { s.ser with doorBaud := s.reg P.sdrBaud, doorFmt := s.reg P.sdrFormat, doorPend := false } }) ∧
  (∀ (s : State), doorOpen s = true → s.reg P.smgTier = 0x4B → s.ser.door = [] → s.ser.doorAt + ms (s.reg
    P.sdrFrameTimeoutMs) ≤ s.mono → s.clk.src.length = 12 → Completes (.stageManagerSleep) s fun t => t.pwr.asleep =
    true ∧ t.src 0 = 0 ∧ Keeps [] s t)

/-- A command frame carries the next SEQ, moves the current by at most the ramp and waits for its reply; a valid reply
gives the measured values and ends the wait; a missing reply is counted and the third in a row loses the link; a
pressed key enters the FIFO with KPD_LAST; the Tally takes the oldest event, and a digit joins the token entry. Rests
on R453, R454, R457, R458, R459. -/
def Obligations.ModuleAndKeypad : Prop :=
  (∀ (s : State), pmiRuns s = true → s.pwr.vio33 = true → Completes (.pmiCommandFrame) s fun t => t.ser.pmiSeq =
    (s.ser.pmiSeq + 1) % 256 ∧ t.ser.pmiWait = some (s.ser.pmiSeq % 256) ∧ t.ser.pmiMa = rampTo s.ser.pmiMa (if
    pmiOverride s then 0 else s.veh.modI * 100) (s.reg P.wdnDcRampAs * s.reg P.pmiPeriodMs) ∧ t.sent.length =
    s.sent.length + 1 ∧ bitOf (t.reg P.pmiStatus) 1 = pmiOverride s ∧ Keeps [P.pmiCmd, P.pmiStatus] s t) ∧
  (∀ (s : State) (b : Bytes), pmiRuns s = true → pmiReplyOk s b = true → bitOf (b.getD 6 0) 1 = false → Completes
    (.pmiReply b) s fun t => t.ser.pmiWait = none ∧ t.ser.pmiMissed = 0 ∧ bitOf (t.reg P.pmiStatus) 0 = true ∧ t.reg
    P.pmiMeas = (ofBytes (slice b 2 2) + ofBytes (slice b 4 2) * 2 ^ 16) % 2 ^ (8 * sizeOf' P.pmiMeas) ∧ Keeps
    [P.pmiMeas, P.pmiStatus] s t) ∧
  (∀ (s : State), pmiRuns s = true → s.ser.pmiWait ≠ none → s.ser.pmiMissed < 2 → Completes (.pmiReplyMissing) s fun t
    => t.ser.pmiMissed = s.ser.pmiMissed + 1 ∧ t.ser.pmiWait = none ∧ Keeps [] s t) ∧
  (∀ (s : State), pmiRuns s = true → s.ser.pmiWait ≠ none → s.ser.pmiMissed = 2 → s.veh.dc = false → Completes
    (.pmiReplyMissing) s fun t => t.ser.pmiMissed = 3 ∧ bitOf (t.reg P.pmiStatus) 0 = false ∧ t.reg P.pmiLost = satAdd
    (8 * sizeOf' P.pmiLost) (s.reg P.pmiLost) 1 ∧ Keeps [P.pmiStatus, P.pmiLost] s t) ∧
  (∀ (s : State) (k : Nat), s.present 18 = true → k < 20 → s.ser.down = [] → s.ser.keys.length < 32 → Completes
    (.keypadKeyEvent k true) s fun t => t.ser.keys = s.ser.keys ++ [k] ∧ t.ser.down = [k] ∧ t.reg P.kpdLast = k +
    (bits (s.reg P.kpdLast) 15 8 + 1) % 256 * 256 ∧ Keeps [P.kpdLast] s t) ∧
  (∀ (s : State) (k d : Nat) (l : List Nat), s.ser.keys = k :: l → s.present 9 = true → s.present 18 = true →
    s.box.token = none → keyDigit k = some d → Completes (.keypadFifoRead) s fun t => t.ser.keys = l ∧ t.box.entry =
    s.box.entry ++ [d] ∧ t.box.entryAt = s.mono ∧ Keeps [] s t)

/-- A field's change makes a new target: drawn from idle, waiting during an update with result 4; a blink phase flips
and renews the target where anything blinks; a frame of the clear is counted, one of an update moves each running
segment on and writes its slots to the slot buffer alone; the idle display reads its temperature; the frontlight's
hold ends and a sink fault sets its bit; an accepted set is loaded from the cast. Rests on R467, R468, R469, R470,
R471, R472, R473, R474, R475, R476. -/
def Obligations.DisplayUpdates : Prop :=
  (∀ (s : State), s.present 3 = true → s.present 19 = true → dspState s = 4 → s.dsp.offReq = false → Completes
    (.fieldValueChange) s fun t => t.dsp.waiting = some (composeTarget (renderFields s)) ∧ t.reg P.dspResult = 4 ∧
    t.reg P.dspUpdates = satAdd (8 * sizeOf' P.dspUpdates) (s.reg P.dspUpdates) 1 ∧ Keeps [P.dspResult, P.dspUpdates]
    s t) ∧
  (∀ (s : State), s.present 3 = true → s.present 19 = true → dspState s = 3 → s.dsp.offReq = false → tooCold (readTemp
    (renderFields s)) = false → Completes (.fieldValueChange) s fun t => t.dsp.target = composeTarget (renderFields s)
    ∧ t.reg P.dspUpdates = satAdd (8 * sizeOf' P.dspUpdates) (s.reg P.dspUpdates) 1) ∧
  (∀ (s : State), s.reg P.dspBlink = 0 → s.dsp.fieldBlink = [] → composeTarget (s.setDsp
    { s.dsp with dark := !s.dsp.dark }) = s.dsp.target → Completes (.blinkPhase) s fun t => t =
    { s with dsp := { s.dsp with dark := !s.dsp.dark } }) ∧
  (∀ (s : State), s.present 19 = true → s.reg P.dspBlink ≠ 0 → dspState s = 4 → s.dsp.offReq = false → Completes
    (.blinkPhase) s fun t => t.dsp.dark = !s.dsp.dark ∧ t.dsp.waiting.isSome = true ∧ t.reg P.dspResult = 4 ∧ SameMem
    s t) ∧
  (∀ (s : State), s.present 19 = true → s.domOn 61 = true → dspState s = 2 → s.dsp.frames + 1 < waveLen s s.dsp.band 3
    0 → Completes (.displayFrameEnd) s fun t => t = putSlots (clearSlots s (s.dsp.frames + 1))
    { s with dsp := { s.dsp with frames := s.dsp.frames + 1 } } ∧ StoresOnly 0x20010000 64 s t ∧ SameRegs [] s t) ∧
  (∀ (s : State) (r : SegRun), s.present 19 = true → s.domOn 61 = true → dspState s = 4 → s.dsp.offReq = false →
    s.dsp.waiting = none → s.dsp.runs = [r] → r.frame + 1 < waveLen s s.dsp.band r.old r.new → levelAt s.dsp.target
    r.seg = r.new → (∀ i < 768, i = r.seg ∨ levelAt (s.reg P.dspImageNow) i = levelAt s.dsp.target i) → Completes
    (.displayFrameEnd) s fun t => t.dsp.runs = [{ r with frame := r.frame + 1 }] ∧ t.dsp.frames = s.dsp.frames + 1 ∧
    StoresOnly 0x20010000 64 s t ∧ SameRegs [] s t) ∧
  (∀ (s : State), s.present 19 = true → dspState s = 3 → Completes (.displayTempRead) s fun t => t.regI P.dspTemp =
    max (-32768) (min 32767 ((panelTemp s).2 + s.regI P.dspTempOffset)) ∧ t.reg P.dspTempUsed = (panelTemp s).1 % 256
    ∧ Keeps [P.dspTemp, P.dspTempUsed, P.dspBand] s t) ∧
  (∀ (s : State), Completes (.frontlightHoldExpiry) s fun t => t = { s with dsp := { s.dsp with hold := false } }) ∧
  (∀ (s : State) (k : Nat), k < 2 → sinkCurrent s k ≠ 0 → Completes (.frontlightSinkFault k) s fun t => bitOf (t.reg
    P.irnDspFaults) (3 + k) = true ∧ Keeps [P.irnDspFaults] s t) ∧
  (∀ (s : State), s.present 19 = true → dspState s = 0 ∨ dspState s = 8 → castStands s 8 = true → setOk (s.setDsp
    { s.dsp with set := s.wordsAt 0x02F10100 265, loaded := true }) = true → Completes (.waveformSetLoad) s fun t =>
    dspState t = 0 ∧ t.dsp.loaded = true ∧ t.dsp.set = s.wordsAt 0x02F10100 265 ∧ Keeps [P.dspState] s t)

/-- With its set loaded and the panel warm enough, power-on and the retry from cold raise the rails in state 1; a rail
fault discharges to state 7 with its bit; missing slot data, the off timeout and an abrupt discharge cut the update to
state 5; the switch-off request from idle is state 5; discharged rails report off. Rests on R464, R465, R477, R478,
R479, R480. -/
def Obligations.DisplayPower : Prop :=
  (∀ (s : State), s.present 19 = true → s.domOn 61 = true → dspState s = 0 → s.dsp.loaded = true → tooCold (readTemp
    s) = false → Completes (.displayPowerOn) s fun t => dspState t = 1 ∧ t.dsp.frames = 0 ∧ t.dsp.offReq = false ∧
    t.dsp.band = (readTemp s).reg P.dspBand ∧ Keeps [P.dspState, P.dspTemp, P.dspTempUsed, P.dspBand] s t) ∧
  (∀ (s : State), s.present 19 = true → s.domOn 61 = true → dspState s = 6 → s.dsp.loaded = true → tooCold (readTemp
    s) = false → Completes (.displayColdRetry) s fun t => dspState t = 1 ∧ t.dsp.frames = 0 ∧ t.dsp.offReq = false ∧
    Keeps [P.dspState, P.dspTemp, P.dspTempUsed, P.dspBand] s t) ∧
  (∀ (s : State) (late : Bool), dspDriven s = true → Completes (.railFault late) s fun t => dspState t = 7 ∧ bitOf
    (t.reg P.irnDspFaults) (if late then 0 else 1) = true ∧ t.dsp.runs = [] ∧ Keeps [P.dspState, P.dspResult,
    P.irnDspFaults] s t) ∧
  (∀ (s : State), s.domOn 61 = true → s.reg P.irnDspRails ≠ 0 → dspDriven s = true → Completes (.slotDataMissing) s
    fun t => dspState t = 5 ∧ bitOf (t.reg P.irnDspFaults) 2 = true ∧ t.dsp.runs = [] ∧ Keeps [P.dspState,
    P.dspResult, P.irnDspFaults] s t) ∧
  (∀ (s : State), s.present 19 = true → dspState s = 3 → s.dsp.waiting = none → Completes (.displayPowerOff) s fun t
    => dspState t = 5 ∧ t.dsp.offReq = true ∧ Keeps [P.dspState] s t) ∧
  (∀ (s : State), s.dsp.offReq = true → dspDriven s = true → Completes (.displayOffTimeout) s fun t => dspState t = 5
    ∧ t.dsp.runs = [] ∧ Keeps [P.dspState, P.dspResult] s t) ∧
  (∀ (s : State), dspDriven s = true → Completes (.abruptDischarge) s fun t => dspState t = 5 ∧ t.dsp.runs = [] ∧
    t.dsp.waiting = none ∧ Keeps [P.dspState, P.dspResult] s t) ∧
  (∀ (s : State), dspState s = 5 → s.dsp.offReq = true → Completes (.railsDischarged) s fun t => dspState t = 0 ∧
    t.reg P.irnDspRails = 0 ∧ t.dsp.offReq = false ∧ SameMem s t)

/-- A staged image that every check admits is verified in state 4 with its CRC; one that fails a check is failed in
state 8 with the number of the first check; a hashing that finds every image whole changes nothing, and one that finds
a difference marks the component damaged. Rests on R481, R482, R483, R484, R486, R489, R493, R494. -/
def Obligations.ImagesJudged : Prop :=
  (∀ (s : State) (sig : Bool), wngState s = 3 → verifyResult sig s = 0 → Completes (.verifyComplete sig) s fun t =>
    wngState t = 4 ∧ t.reg P.wngPendingCrc = crc32 (s.bytes wingsBank s.wng.staged) % 2 ^ 32) ∧
  (∀ (s : State) (sig : Bool), wngState s = 3 → verifyResult sig s ≠ 0 → Completes (.verifyComplete sig) s fun t =>
    wngState t = 8 ∧ bits (t.reg P.wngStatus) 23 16 = verifyResult sig s) ∧
  (∀ (s : State), s.pwr.boot = .running → hashDiffers s = [] → Completes (.reverifyTimer) s fun t => t = s) ∧
  (∀ (s : State) (c : Nat), s.pwr.boot = .running → hashDiffers s = [c] → Completes (.reverifyTimer) s fun t => castOf
    t c = 2)

/-- A searching automatic lane tries the other speed after 500 ms; a link that comes up gives state 3 or 4 by the
speed sought; a loss of an up link raises SL_LANEn_LINK_DOWNS and a transmitter fault gives state 6; an inserted
module's bytes go to SL_MODn_ID and SL_MODn_A2, a read that fails leaves the object at 0; a removed module takes the
lane down. An aged address leaves the table. Every other register and all memory stay. Rests on R391, R392, R393,
R394, R411, R412. -/
def Obligations.LanesAndModules : Prop :=
  (∀ (s : State) (n : Nat), lanePowered s n = true → s.reg (P.slLaneState n) = 2 → s.reg (P.slLaneSpeed n) = 0 → n <
    s.sl.slow.length → Completes (.laneSearchTimer n) s fun t => t.sl.slow.getD n false = !(s.sl.slow.getD n false) ∧
    Keeps [] s t) ∧
  (∀ (s : State) (n : Nat), lanePowered s n = true → s.reg (P.slLaneState n) = 2 → s.reg (P.slLaneSpeed n) = 0 → s.src
    4 = 2 → Completes (.laneLinkUp n) s fun t => t.reg (P.slLaneState n) = (if s.sl.slow.getD n false then 4 else 3) ∧
    Keeps [P.slLaneState n] s t) ∧
  (∀ (s : State) (n : Nat), lanePowered s n = true → laneUp s n = true → Completes (.laneLinkDown n true none) s fun t
    => t.reg (P.slLaneState n) = 6 ∧ t.reg (P.slLaneLinkDowns n) = satAdd 32 (s.reg (P.slLaneLinkDowns n)) 1 ∧ Keeps
    [P.slLaneState n, P.slLaneLinkDowns n] s t) ∧
  (∀ (s : State) (n p : Nat), lanePowered s n = true → laneUp s n = true → p < 4 → s.reg (P.slLaneSpeed n) = 0 →
    laneTests s n = false → s.sl.mods.getD n false = true → Completes (.laneLinkDown n false (some p)) s fun t =>
    t.reg (P.slLaneState n) = 2 ∧ t.reg (P.slLaneLinkDowns n) = satAdd 32 (s.reg (P.slLaneLinkDowns n)) 1 ∧ t.reg
    (P.slPortDrops p) = satAdd 32 (s.reg (P.slPortDrops p)) 1 ∧ Keeps [P.slLaneState n, P.slLaneLinkDowns n,
    P.slPortDrops p] s t) ∧
  (∀ (s : State) (n : Nat) (a b : Bytes), s.present 16 = true → n < 4 → a.length = 128 → b.length = 16 → ofBytes a < 2
    ^ 1024 → ofBytes b < 2 ^ 128 → Completes (.moduleInsertRead n (some a) (some b)) s fun t => t.reg (P.slModId n) =
    ofBytes a ∧ t.reg (P.slModA2 n) = ofBytes b ∧ Keeps [P.slModId n, P.slModA2 n, P.slLaneState n] s t) ∧
  (∀ (s : State) (n : Nat), s.present 16 = true → n < 4 → laneUp s n = false → laneTests s n = false → s.reg
    (P.slLaneSpeed n) = 0 → s.sl.mods.length = 4 → Completes (.moduleInsertRead n none none) s fun t => t.reg
    (P.slModId n) = 0 ∧ t.reg (P.slModA2 n) = 0 ∧ t.reg (P.slLaneState n) = 2 ∧ t.sl.mods.getD n false = true ∧ Keeps
    [P.slModId n, P.slModA2 n, P.slLaneState n] s t) ∧
  (∀ (s : State) (n : Nat) (b : Bytes), s.present 16 = true → n < 4 → s.sl.mods.getD n false = true → b.length = 16 →
    ofBytes b < 2 ^ 128 → Completes (.moduleA2Poll n (some b)) s fun t => t.reg (P.slModA2 n) = ofBytes b ∧ Keeps
    [P.slModA2 n] s t) ∧
  (∀ (s : State) (n : Nat), s.present 16 = true → n < 4 → laneUp s n = true → laneTests s n = false → s.reg
    (P.slLaneSpeed n) = 0 → s.sl.mods.length = 4 → Completes (.slModuleRemoved n) s fun t => t.sl.mods.getD n true =
    false ∧ t.reg (P.slLaneState n) = 1 ∧ t.reg (P.slLaneLinkDowns n) = satAdd 32 (s.reg (P.slLaneLinkDowns n)) 1 ∧
    Keeps [P.slLaneState n, P.slLaneLinkDowns n] s t) ∧
  (∀ (s : State) (vid mac : Nat), Completes (.addressAgeOut vid mac) s fun t => (∀ e ∈ t.sl.table, ¬ (e.1 = vid ∧
    e.2.1 = mac)) ∧ t.sl.table.length ≤ s.sl.table.length ∧ Keeps [] s t)

/-- A frame of bad length, or of a VLAN that is not in SL_VLAN_TABLE, is dropped and counted at its ingress port. A
good frame for a port other than 4 leaves there, under that VLAN's tagging and with a correct FCS, and both ports
count it. A frame with a wrong FCS that was cut through leaves with the bitwise inverse of the CRC-32, counted as an
FCS error where it came in and as stomped where it left; a frame stomped upstream is only counted. Rests on R395,
R396, R397, R398, R399, R400, R404. -/
def Obligations.SwitchedFrames : Prop :=
  (∀ (s : State) (p busy full residence : Nat) (l : Bytes), s.present 15 = true → p < 4 → portTakes s p = true →
    l.length < 64 ∨ 9216 < l.length → Completes (.switchIngressFrame p l busy full residence) s fun t => t = s.count
    (P.slPortDrops p) 1) ∧
  (∀ (s : State) (p busy full residence : Nat) (l : Bytes), s.present 15 = true → p < 4 → portTakes s p = true → 64 ≤
    l.length → l.length ≤ 9216 → ¬ (frameFcs l = fcsOf (frameBody l)) → frameFcs l = 0xFFFFFFFF - fcsOf (frameBody l)
    → Completes (.switchIngressFrame p l busy full residence) s fun t => t = s.count (P.slPortRxStomped p) 1) ∧
  (∀ (s : State) (p busy full residence : Nat) (l : Bytes), s.present 15 = true → p < 4 → portTakes s p = true → 64 ≤
    l.length → l.length ≤ 9216 → frameFcs l = fcsOf (frameBody l) → vlanEntry s (frameVlan s p l).2 = none → Completes
    (.switchIngressFrame p l busy full residence) s fun t => t = (s.count (P.slPortRxFrames p) 1).count (P.slPortDrops
    p) 1) ∧
  (∀ (s u : State) (p q pcp vid e busy full residence : Nat) (l : Bytes), s.present 15 = true → p < 4 → q < 4 →
    portTakes s p = true → portForwards s p = true → 64 ≤ l.length → l.length ≤ 9216 → frameFcs l = fcsOf (frameBody
    l) → frameVlan s p l = (pcp, vid) → vlanEntry s vid = some e → vlanMember e p = true → u = learn vid (macAt l 6) p
    (s.count (P.slPortRxFrames p) 1) → egressPorts u p vid (macAt l 0) (ptpType (untag l)).isSome = ([q], false) →
    bitOf full q = false → Completes (.switchIngressFrame p l busy full residence) s fun t => t.sent = .slFrame q
    (queueOf s pcp (untag l)) (egressBytes s q (frameTci s p l) residence (untag l) ++ toBytes 4 (crc32 (egressBytes s
    q (frameTci s p l) residence (untag l)))) :: s.sent ∧ t.reg (P.slPortRxFrames p) = satAdd 32 (s.reg
    (P.slPortRxFrames p)) 1 ∧ t.reg (P.slPortTxFrames q) = satAdd 32 (s.reg (P.slPortTxFrames q)) 1 ∧ t.sl = u.sl ∧
    Keeps [P.slPortRxFrames p, P.slPortTxFrames q] s t) ∧
  (∀ (s u : State) (p q pcp vid e busy full residence : Nat) (l : Bytes), s.present 15 = true → p < 4 → q < 4 →
    portTakes s p = true → 64 ≤ l.length → l.length ≤ 9216 → ¬ (frameFcs l = fcsOf (frameBody l)) → ¬ (frameFcs l =
    0xFFFFFFFF - fcsOf (frameBody l)) → frameVlan s p l = (pcp, vid) → vlanEntry s vid = some e → vlanMember e p =
    true → u = s.count (P.slPortRxFcsErr p) 1 → egressPorts u p vid (macAt l 0) (ptpType (untag l)).isSome = ([q],
    false) → bitOf full q = false → cutsThrough s p q busy = true → Completes (.switchIngressFrame p l busy full
    residence) s fun t => t.sent = .slFrame q (queueOf s pcp (untag l)) (egressBytes s q (frameTci s p l) residence
    (untag l) ++ toBytes 4 (0xFFFFFFFF - crc32 (egressBytes s q (frameTci s p l) residence (untag l)))) :: s.sent ∧
    t.reg (P.slPortRxFcsErr p) = satAdd 32 (s.reg (P.slPortRxFcsErr p)) 1 ∧ t.reg (P.slPortTxStomped q) = satAdd 32
    (s.reg (P.slPortTxStomped q)) 1 ∧ t.sl = s.sl ∧ Keeps [P.slPortRxFcsErr p, P.slPortTxFrames q, P.slPortTxStomped
    q] s t)

/-- An ARP request for SL_IP_ADDR is answered with SL_MAC_ADDR, an echo with its data; a fragment and a datagram with
a wrong checksum are discarded and counted; the frame of a good datagram joins the Cue server's queue. The sixteenth
Sync in a row inside SL_PTP_LOCK_NS locks, the fourth outside unlocks; a locked slave under the PTP timescale steps
stage time to the formula of R406; an Announce gives the parent; 4 s without a Sync unlock; a master sends Sync from
stage time. Rests on R401, R403, R405, R406, R407. -/
def Obligations.PortFourAndPtp : Prop :=
  (∀ (s : State) (mac ip p : Nat), hostReached s = true → hostServing s = true → egressPorts s 4 (s.reg P.slHostVid)
    mac false = ([p], false) → p < 4 → Completes (.arpRequest mac ip (s.reg P.slIpAddr)) s fun t => t.sent = .slHost 1
    (s.reg P.slCuePcp) mac ip (toBytesBE 6 (s.reg P.slMacAddr)) :: s.sent ∧ t.reg (P.slPortTxFrames p) = satAdd 32
    (s.reg (P.slPortTxFrames p)) 1 ∧ Keeps [P.slPortTxFrames p] s t) ∧
  (∀ (s : State) (mac ip p : Nat) (d : Bytes), hostReached s = true → hostServing s = true → (nextHop s ip).isSome =
    true → egressPorts s 4 (s.reg P.slHostVid) mac false = ([p], false) → p < 4 → Completes (.icmpEchoRequest mac ip
    (s.reg P.slIpAddr) false d) s fun t => t.sent = .slHost 2 (s.reg P.slCuePcp) mac ip d :: s.sent ∧ Keeps
    [P.slPortTxFrames p] s t) ∧
  (∀ (s : State) (mac ip : Nat) (d : Bytes), hostReached s = true → hostServing s = true → Completes (.icmpEchoRequest
    mac ip (s.reg P.slIpAddr) true d) s fun t => t = s.count P.slHostDiscards 1) ∧
  (∀ (s : State) (port ip udp op : Nat) (d : Bytes) (r : Req), hostReached s = true → hostServing s = true →
    portForwards s port = true → s.cue.running = true → parseCue .stageLink ip udp d = some (op, r) → Completes
    (.cueUdpDatagram port ip udp true false d) s fun t => t.cue.inbox.map (fun i => (i.opcode, i.req)) =
    s.cue.inbox.map (fun i => (i.opcode, i.req)) ++ [(op, r)] ∧ t.sl.hosts.head? = some (ip, port) ∧ Keeps [] s t) ∧
  (∀ (s : State) (port ip udp : Nat) (d : Bytes), hostReached s = true → hostServing s = true → portForwards s port =
    true → Completes (.cueUdpDatagram port ip udp false false d) s fun t => t = s.count P.slHostDiscards 1) ∧
  (∀ (s : State) (o : Int) (sec ns : Nat), ptpWorks s = true → s.reg P.slPtpState = 2 → s.sl.inside = 15 →
    s.sl.timescale = false → o.natAbs < s.reg P.slPtpLockNs → Completes (.ptpSyncReceive o sec ns) s fun t => t.reg
    P.slPtpState = 3 ∧ t.regI P.slPtpOffsetNs = o ∧ Keeps [P.slPtpState, P.slPtpOffsetNs] s t) ∧
  (∀ (s : State) (o : Int) (sec ns : Nat), ptpWorks s = true → s.reg P.slPtpState = 3 → s.sl.outside = 3 → s.reg
    P.slPtpLockNs ≤ o.natAbs → o.natAbs < 2 ^ 63 → Completes (.ptpSyncReceive o sec ns) s fun t => t.reg P.slPtpState
    = 2 ∧ t.regI P.slPtpOffsetNs = o ∧ Keeps [P.slPtpState, P.slPtpOffsetNs] s t) ∧
  (∀ (s : State) (o : Int) (sec ns : Nat), ptpWorks s = true → s.reg P.slPtpState = 3 → s.sl.timescale = true → s.reg
    P.tirTimeSrc ≠ 1 → o.natAbs < s.reg P.slPtpLockNs → 946684800 ≤ sec → s.now + ms 1 ≤ ptpTime sec ns → Completes
    (.ptpSyncReceive o sec ns) s fun t => t.now = ((sec - 946684800) * 2 ^ 24 + ns * 2 ^ 24 / 1000000000) % 2 ^ 64 ∧
    t.reg P.slPtpState = 3 ∧ SameMem s t) ∧
  (∀ (s : State) (p1 cl ac va p2 id port : Nat) (ts : Bool), ptpWorks s = true → s.sl.parent = none → s.reg
    P.slPtpMode = 1 → port < 4 → Completes (.ptpAnnounceReceive p1 cl ac va p2 id ts port) s fun t => t.sl.parent =
    some ⟨p1, cl, ac, va, p2, id⟩ ∧ t.sl.timescale = ts ∧ t.reg P.slPtpState = 2 ∧ t.reg P.slPtpPort = port ∧ Keeps
    [P.slPtpState, P.slPtpPort] s t) ∧
  (∀ (s : State), ptpWorks s = true → s.reg P.slPtpMode = 1 → s.reg P.slPtpState = 3 → Completes (.ptpSyncTimeout) s
    fun t => t.reg P.slPtpState = 2 ∧ t.sl.inside = 0 ∧ Keeps [P.slPtpState] s t) ∧
  (∀ (s : State), ptpWorks s = true → s.reg P.slPtpState = 4 → Completes (.ptpSyncSend) s fun t => t = s.emit
    (.ptpSync (s.reg P.slCuePcp) (s.reg P.slPtpDomain) (s.reg P.slPtpTransport) s.now))

/-- A Cue frame for this post is acknowledged and joins the Cue server's queue; one whose CRC-32 fails is acknowledged
with status 1 and ends; one for another seat is sent on with HOPS raised. A good acknowledgement ends the frame in
progress; without one it is tried again up to TIR_RETRY_MAX times and then dropped. The end of the backoff sends the
waiting frame: a broadcast in Robust-4 without acknowledgement, a unicast frame that then awaits one. A frame control
error is counted. Rests on R357, R358, R359, R360, R366, R367, R384. -/
def Obligations.TirwaFrames : Prop :=
  (∀ (s : State) (fc op : Nat) (mac : Bytes) (r : Req), fcOk s fc = true → fcType fc = 1 → fcDst fc = s.seat →
    fcAckReq fc = true → macCrcOk mac = true → bits (macHead mac) 127 96 = s.reg P.smgHouseId → macKind mac = 1 →
    macFinal mac = s.seat → s.present 3 = true → s.cue.running = true → parseCue .tirwa 0 0 (macBody mac) = some (op,
    r) → Completes (.tirwaCueFrame fc mac) s fun t => t.cue.inbox.map (fun i => (i.opcode, i.req)) = s.cue.inbox.map
    (fun i => (i.opcode, i.req)) ++ [(op, r)] ∧ .tirwa (mkFc s 2 (fcPrio fc) 0 0 0 0 0 (fcSeq fc) (fcSrc fc) 0 0) [] ∈
    t.sent ∧ t.reg P.tirRxFrames = satAdd 32 (s.reg P.tirRxFrames) 1 ∧ SameMem s t) ∧
  (∀ (s : State) (fc : Nat) (mac : Bytes), fcOk s fc = true → fcType fc = 1 → fcDst fc = s.seat → fcAckReq fc = true →
    macCrcOk mac = false → Completes (.tirwaCueFrame fc mac) s fun t => t.cue = s.cue ∧ t.tir.queue = s.tir.queue ∧
    t.sent = .tirwa (mkFc s 2 (fcPrio fc) 0 0 0 0 0 (fcSeq fc) (fcSrc fc) 1 0) [] :: s.sent ∧ Keeps [P.tirRxFrames,
    P.tirNeighCount] s t) ∧
  (∀ (s : State) (fc : Nat) (mac : Bytes), fcOk s fc = true → fcType fc = 1 → fcDst fc = s.seat → macCrcOk mac = true
    → bits (macHead mac) 127 96 = s.reg P.smgHouseId → macKind mac = 1 → macFinal mac ≠ s.seat → macHops mac < 8 →
    Completes (.tirwaCueFrame fc mac) s fun t => t.tir.queue = s.tir.queue ++
    [{ kind := 1, origin := macOrigin mac, final := macFinal mac, hops := macHops mac + 1, count := macCount mac, body
         := macBody mac, prio := fcPrio fc, next := none, tries := 0, sound := false }] ∧ t.cue = s.cue ∧ Keeps
    [P.tirRxFrames, P.tirNeighCount] s t) ∧
  (∀ (s : State) (fc : Nat) (it : TxItem), fcOk s fc = true → fcType fc = 2 → fcDst fc = s.seat → s.tir.waiting = some
    (it, fcSeq fc, fcSrc fc) → fcAckStatus fc = 0 → Completes (.tirwaAck fc) s fun t => t.tir.waiting = none ∧
    t.tir.queue = s.tir.queue ∧ Keeps [P.tirNeighCount] s t) ∧
  (∀ (s : State) (fc : Nat) (it : TxItem), fcOk s fc = true → fcType fc = 2 → fcDst fc = s.seat → s.tir.waiting = some
    (it, fcSeq fc, fcSrc fc) → fcAckStatus fc ≠ 0 → it.tries < s.reg P.tirRetryMax → Completes (.tirwaAck fc) s fun t
    => t.tir.waiting = none ∧ t.tir.queue = { it with tries := it.tries + 1 } :: s.tir.queue ∧ t.reg P.tirRetries =
    satAdd 32 (s.reg P.tirRetries) 1 ∧ Keeps [P.tirRetries, P.tirNeighCount] s t) ∧
  (∀ (s : State) (it : TxItem) (f hop : Nat), s.tir.waiting = some (it, f, hop) → s.reg P.tirRetryMax ≤ it.tries →
    Completes (.tirwaAckTimeout) s fun t => t.tir.waiting = none ∧ t.tir.queue = s.tir.queue ∧ t.reg P.tirDrops =
    satAdd 32 (s.reg P.tirDrops) 1 ∧ Keeps [P.tirDrops] s t) ∧
  (∀ (s : State), s.present 10 = true → Completes (.frameControlError) s fun t => t = s.count P.tirFcErrors 1) ∧
  (∀ (s : State) (it : TxItem), inHouse s = true → s.tir.waiting = none → s.tir.queue = [it] → it.sound = false →
    it.kind ≠ 3 → it.next = none → it.final = 0xFFFF → Completes (.tirwaBackoffExpiry) s fun t => t.sent = .tirwa
    (mkFc s 1 it.prio 1 0 0 0 (symbolsOf none (it.mac s).length) s.tir.fseq 0xFFFF 0 1) (it.mac s) :: s.sent ∧
    t.tir.queue = [] ∧ t.tir.waiting = none ∧ t.reg P.tirTxFrames = satAdd 32 (s.reg P.tirTxFrames) 1 ∧ Keeps
    [P.tirTxFrames] s t) ∧
  (∀ (s : State) (it : TxItem) (hop : Nat), inHouse s = true → s.tir.waiting = none → s.tir.queue = [it] → it.sound =
    false → it.kind ≠ 3 → hopOf s it = some hop → hop ≠ 0xFFFF → Completes (.tirwaBackoffExpiry) s fun t =>
    t.tir.waiting = some (it, s.tir.fseq, hop) ∧ t.tir.queue = [] ∧ t.tir.fseq = (s.tir.fseq + 1) % 256 ∧
    t.sent.length = s.sent.length + 1 ∧ Keeps [P.tirTxFrames] s t) ∧
  (∀ (s : State) (it : TxItem), inHouse s = true → s.tir.waiting = none → s.tir.queue = [it] → hopOf s it = none →
    Completes (.tirwaBackoffExpiry) s fun t => t.sent = s.sent ∧ t.tir.queue = [] ∧ t.reg P.tirDrops = satAdd 32
    (s.reg P.tirDrops) 1 ∧ Keeps [P.tirDrops] s t)

/-- An accepted hello gives its sender's identity and a route to it, and the repeater bit follows the neighbours'
routes; one whose house MAC fails or whose COUNT is not new is counted in TIR_MAC_FAILS and changes no route. A hello
is sent at its time, and once a second at most for a route that is lost or whose B changed by more than 20 %. A
neighbour that ages out leaves no working route through it; a route that expires is unreachable, then forgotten. A
flood frame is relayed unless two relays were heard. C0 starts empty and sends its first hello. Rests on R360, R368,
R369, R370, R371, R373. -/
def Obligations.NeighboursAndRoutes : Prop :=
  (∀ (s : State) (fc : Nat) (mac : Bytes) (via : Bool), (takeControl 2 fc mac s).1 = true → fcSrc fc ≤ 0x0FFF → fcSrc
    fc ≠ s.seat → Completes (.helloReceive fc mac via) s fun t => (t.neigh (fcSrc fc)).map (fun n => (n.ident, n.via))
    = some (bits (ofBytes ((macBody mac).take 16)) 127 64, via) ∧ (t.route (fcSrc fc)).isSome = true ∧ (via = true →
    bitOf (t.reg P.smgRole) 0 = true) ∧ Keeps [P.tirRxFrames, P.tirNeighCount, P.smgRole] s t) ∧
  (∀ (s : State) (fc : Nat) (mac : Bytes) (via : Bool), fcOk s fc = true → fcType fc = 1 → fcDst fc = 0xFFFF →
    macCrcOk mac = true → bits (macHead mac) 127 96 = s.reg P.smgHouseId → macKind mac = 2 → s.present 3 = true →
    s.seat ≤ 0x0FFF → (s.neigh (fcSrc fc)).isSome = true → macAuthentic s mac = false ∨ (macOrigin mac ≠ s.seat ∧
    countFresh s mac = false) → Completes (.helloReceive fc mac via) s fun t => t.reg P.tirMacFails = satAdd 32 (s.reg
    P.tirMacFails) 1 ∧ t.tir.routes = s.tir.routes ∧ t.tir.counts.map (fun e => (e.1, e.2.1)) = s.tir.counts.map (fun
    e => (e.1, e.2.1)) ∧ Keeps [P.tirMacFails, P.tirRxFrames] s t) ∧
  (∀ (s : State), s.present 3 = true → inHouse s = true → s.tir.asking = false → Completes (.helloTimer) s fun t =>
    (t.tir.queue.drop s.tir.queue.length).map (fun i => (i.kind, i.origin, i.final, i.hops, i.count)) = [(2, s.seat,
    0xFFFF, 0, s.tir.count + 1)] ∧ t.tir.helloAt = s.mono ∧ t.tir.count = s.tir.count + 1 ∧ Keeps [] s t) ∧
  (∀ (s : State), s.present 3 = true → inHouse s = true → s.tir.routes.any Route.urgent = true → s.tir.helloAt +
    second ≤ s.mono → Completes (.routeTriggeredHello) s fun t => (t.tir.queue.drop s.tir.queue.length).map (fun i =>
    i.kind) = [2] ∧ t.tir.helloAt = s.mono ∧ Keeps [] s t) ∧
  (∀ (s : State), s.mono < s.tir.helloAt + second → Completes (.routeTriggeredHello) s fun t => t = s) ∧
  (∀ (s : State), s.tir.routes.any Route.urgent = false → Completes (.routeTriggeredHello) s fun t => t = s) ∧
  (∀ (s : State) (n : Nat), s.tir.neigh.length ≤ 256 → (∀ r ∈ s.tir.routes, r.dest ≤ 0x0FFF ∧ r.dest ≠ s.seat) →
    Completes (.neighbourAgeOut n) s fun t => t.neigh n = none ∧ t.reg P.tirNeighCount = t.tir.neigh.length ∧ (∀ r ∈
    t.tir.routes, r.works = true → r.next ≠ n) ∧ Keeps [P.tirNeighCount, P.smgRole] s t) ∧
  (∀ (s : State) (d : Nat) (r : Route), s.route d = some r → r.works = true → Completes (.routeExpiry d) s fun t =>
    (t.route d).map (fun x => (x.next, x.rate, x.hops)) = some (0xFFFF, 0, 15) ∧ Keeps [] s t) ∧
  (∀ (s : State) (d : Nat) (r : Route), s.route d = some r → r.works = false → Completes (.routeExpiry d) s fun t =>
    t.route d = none ∧ Keeps [] s t) ∧
  (∀ (s : State) (f : Flood) (o c : Nat), inHouse s = true → s.tir.floods.find? (fun x => x.item.origin == o &&
    x.item.count == c && !x.done) = some f → f.heard < 2 → Completes (.floodRelay o c) s fun t => t.tir.queue =
    s.tir.queue ++ [f.item] ∧ Keeps [] s t) ∧
  (∀ (s : State) (f : Flood) (o c : Nat), s.tir.floods.find? (fun x => x.item.origin == o && x.item.count == c &&
    !x.done) = some f → 2 ≤ f.heard → Completes (.floodRelay o c) s fun t => t.tir.queue = s.tir.queue ∧ Keeps [] s t) ∧
  (∀ (s : State), s.present 10 = true → s.present 3 = true → inHouse s = true → s.reg P.tirSeatCfg ≠ 0xFFFE →
    s.tir.lead = false → Completes (.courierStart) s fun t => t.tir.neigh = [] ∧ t.tir.routes = [] ∧ t.tir.counts = []
    ∧ t.tir.waiting = none ∧ t.tir.queue.map (fun i => i.kind) = [2] ∧ t.reg P.tirNeighCount = 0 ∧ Keeps
    [P.tirNeighCount, P.smgRole] s t)

/-- An accepted beacon gives the lead's seat, identity and cycle, ends the post's own claim, and puts a share for its
seat that is no increase in force at once; a claim of lower rank stops the post's own and is relayed. Without a beacon
for 2.0 s the lead is unknown and a candidate delays a claim, sends it, and 2.0 s later leads: TIR_LEAD_SEAT and
TIR_LEAD_ID are its own, its class is 0 and TIR_ELECTIONS rises. Rests on R372, R375, R379, R380, R381. -/
def Obligations.HouseLead : Prop :=
  (∀ (s : State) (fc : Nat) (mac : Bytes) (w0 w1 : Nat), (takeControl 3 fc mac s).1 = true → s.tir.lead = false → w0 =
    ofBytes ((macBody mac).take 16) → w1 = ofBytes (slice (macBody mac) 16 16) → Completes (.beaconReceive fc mac) s
    fun t => t.reg P.tirLeadSeat = bits w0 31 16 ∧ t.reg P.tirLeadId = bits w1 127 64 ∧ t.reg P.tirCycle = bits w0 63
    32 ∧ t.tir.claim = 0 ∧ t.tir.lead = false) ∧
  (∀ (s : State) (fc w : Nat) (mac : Bytes), (takeControl 3 fc mac s).1 = true → s.tir.lead = false → s.present 9 =
    true → (beaconEntries (min 160 (bits (ofBytes (slice (macBody mac) 32 16)) 63 48)) ((macBody mac).drop 48)).find?
    (fun e => e.1 == s.seat) = some (s.seat, w) → w < 2 ^ 32 → w ≤ s.reg P.tirShareW → bits (ofBytes (slice (macBody
    mac) 16 16)) 63 0 + ms 1500 < 2 ^ 64 → Completes (.beaconReceive fc mac) s fun t => t.reg P.tirShareW = w ∧ t.reg
    P.tirShareSrc = 1 ∧ t.reg P.tirShareUntil = bits (ofBytes (slice (macBody mac) 16 16)) 63 0 + ms 1500 ∧
    t.tir.share = none) ∧
  (∀ (s : State) (fc : Nat) (mac : Bytes), (takeControl 4 fc mac s).1 = true → macHops mac < 8 → rankOf ((macBody
    mac).getD 8 0) (ofBytes ((macBody mac).take 8)) < ownRank s → Completes (.claimReceive fc mac) s fun t =>
    t.tir.claim = 0 ∧ t.tir.floods.head? = some ⟨relayItem mac 3, 0, false⟩ ∧ Keeps [P.tirRxFrames, P.tirNeighCount] s
    t) ∧
  (∀ (s : State), s.tir.lead = false → candidate s = true → Completes (.leadLost) s fun t => t.reg P.tirLeadSeat =
    0xFFFE ∧ t.reg P.tirLeadId = 0 ∧ t.tir.claim = 1 ∧ Keeps [P.tirLeadSeat, P.tirLeadId] s t) ∧
  (∀ (s : State), s.tir.claim = 1 → candidate s = true → Completes (.claimSend) s fun t => t.tir.claim = 2 ∧
    (t.tir.queue.drop s.tir.queue.length).map (fun i => (i.kind, i.final, i.prio, i.body)) = [(4, 0xFFFF, 3, s.postId
    ++ [s.reg P.tirLeadPref])] ∧ Keeps [] s t) ∧
  (∀ (s : State), s.tir.claim = 2 → candidate s = true → s.seat ≤ 0x0FFF → Completes (.electionWin) s fun t =>
    t.tir.lead = true ∧ t.tir.claim = 0 ∧ t.reg P.tirLeadSeat = s.seat ∧ t.reg P.tirLeadId = s.ident ∧ t.reg
    P.tirPhaseClass = 0 ∧ t.reg P.tirElections = satAdd (8 * sizeOf' P.tirElections) (s.reg P.tirElections) 1 ∧ t.seat
    = s.seat ∧ bitOf (t.reg P.smgRole) 1 = true)

/-- The lead answers a join request with a wanted free seat and keeps it; a grant for this post gives it its seat; an
aged entry leaves the lead's table. A post in session reports every second, the lead to itself, another to the lead,
and the lead keeps a report received. The allocation of a second counts TIR_CYCLE and sends a beacon. An increased
share comes into force at APPLY_AT; a share that lapses returns to TIR_SAFE_W. The demand in a report is the model's
free value (assumption 1). Rests on R374, R377, R378, R379, R380. -/
def Obligations.SeatsAndShares : Prop :=
  (∀ (s : State) (fc id n : Nat) (mac : Bytes), (takeControl 5 fc mac s).1 = true → s.tir.lead = true → id = ofBytes
    ((macBody mac).take 8) → n = ofBytes (slice (macBody mac) 8 2) → (s.tir.seats.any (fun e => e.2.1 == id)) = false
    → seatFree s n = true → Completes (.joinRequest fc mac) s fun t => t.tir.seats.head? = some (n, id, s.mono) ∧
    (t.tir.queue.drop s.tir.queue.length).map (fun i => (i.kind, i.body)) = [(6, toBytes 8 id ++ toBytes 2 n ++ [0])]
    ∧ Keeps [P.tirRxFrames, P.tirNeighCount] s t) ∧
  (∀ (s : State) (fc n : Nat) (mac : Bytes), (takeControl 6 fc mac s).1 = true → ofBytes ((macBody mac).take 8) =
    s.ident → n = ofBytes (slice (macBody mac) 8 2) → (macBody mac).getD 10 0 = 0 → n ≤ 0x0FFF → Completes (.joinGrant
    fc mac) s fun t => t.seat = n ∧ t.tir.asking = false) ∧
  (∀ (s : State) (n : Nat), Completes (.seatTableAgeOut n) s fun t => (∀ e ∈ t.tir.seats, e.1 ≠ n ∧ e ∈ s.tir.seats) ∧
    Keeps [] s t) ∧
  (∀ (s : State), s.present 3 = true → sessionOpen s = true → s.tir.lead = true → s.reg P.tirSafeW < 2 ^ 32 → s.reg
    P.tirPhaseClass < 8 → Completes (.demandReportTimer) s fun t => t.tir.reports.head?.map (fun r => (r.seat, r.at_,
    bits r.word 63 32, bits r.word 31 29, bitOf r.word 24)) = some (s.seat, s.mono, s.reg P.tirSafeW, s.reg
    P.tirPhaseClass, true) ∧ t.tir.reported = true ∧ Keeps [] s t) ∧
  (∀ (s : State), s.present 3 = true → inHouse s = true → sessionOpen s = true → s.tir.lead = false → s.reg
    P.tirLeadSeat ≠ 0xFFFE → Completes (.demandReportTimer) s fun t => (t.tir.queue.drop s.tir.queue.length).map (fun
    i => (i.kind, i.final, i.body.length)) = [(8, s.reg P.tirLeadSeat, 16)] ∧ t.tir.reported = true ∧ Keeps [] s t) ∧
  (∀ (s : State) (fc : Nat) (mac : Bytes), (takeControl 8 fc mac s).1 = true → macFinal mac = s.seat → s.tir.lead =
    true → Completes (.demandReportReceive fc mac) s fun t => t.tir.reports.head? = some ⟨macOrigin mac, ofBytes
    ((macBody mac).take 16), s.mono⟩ ∧ Keeps [P.tirRxFrames, P.tirNeighCount] s t) ∧
  (∀ (s : State), s.tir.lead = true → s.present 3 = true → inHouse s = true → Completes (.allocationCycle) s fun t =>
    t.reg P.tirCycle = (s.reg P.tirCycle + 1) % 2 ^ 32 ∧ (t.tir.queue.drop s.tir.queue.length).head?.map (fun i =>
    (i.kind, i.final, i.prio, i.count)) = some (3, 0xFFFF, 3, s.tir.count + 1) ∧ t.tir.lastSession = (freshReports
    s).map (fun r => (r.seat, bits r.word 63 32)) ∧ SameMem s t) ∧
  (∀ (s : State) (w a : Nat), s.tir.share = some (w, a) → s.present 9 = true → w < 2 ^ 32 → Completes (.shareApplyAt)
    s fun t => t.reg P.tirShareW = w ∧ t.reg P.tirShareSrc = 1 ∧ t.tir.share = none ∧ SameMem s t) ∧
  (∀ (s : State), s.present 9 = true → s.reg P.tirSafeW < 2 ^ 32 → Completes (.shareLapse) s fun t => t.reg
    P.tirShareW = s.reg P.tirSafeW ∧ t.reg P.tirShareSrc = 0 ∧ t.tir.share = none ∧ SameMem s t)

/-- A sound frame from a new neighbour brings the default map of its measurement, under the first generation; a map
received is the link's; a refresh queues a sound frame; an expired map leaves the link in Robust-4 and is counted. A
SLAC run is answered, its sounds summed and averaged, its key drawn and the network joined; a run that does not end is
counted. Rests on R361, R362, R363, R364, R365, R382, R383. -/
def Obligations.ToneMapsAndSlac : Prop :=
  (∀ (s : State) (fc : Nat) (snr : List Int), fcOk s fc = true → fcType fc = 3 → fcDst fc = s.seat → s.present 3 =
    true → s.neigh (fcSrc fc) = none → s.tir.neigh.length < 256 → fcSrc fc ≤ 0x0FFF → fcSrc fc ≠ s.seat → Completes
    (.soundFrameReceive fc [snr]) s fun t => (t.tir.queue.drop s.tir.queue.length).map (fun i => (i.kind, i.final,
    i.next, i.body)) = [(7, fcSrc fc, some (fcSrc fc), mapBody 0 true (s.reg P.tirGuard) 0 0 (loading (s.reg
    P.tirTmMargin) snr))] ∧ t.reg P.tirRxFrames = satAdd 32 (s.reg P.tirRxFrames) 1 ∧ Keeps [P.tirRxFrames,
    P.tirNeighCount] s t) ∧
  (∀ (s : State) (fc : Nat) (mac : Bytes), (takeControl 7 fc mac s).1 = true → (macBody mac).length = 392 → fcSrc fc ≤
    0x0FFF → fcSrc fc ≠ s.seat → Completes (.toneMapReceive fc mac) s fun t => (t.neigh (fcSrc fc)).map (fun n =>
    n.txMaps.head?) = some (some ⟨bits ((macBody mac).getD 0 0) 1 0, bitOf ((macBody mac).getD 0 0) 2, macBody mac,
    s.mono⟩) ∧ Keeps [P.tirRxFrames, P.tirNeighCount] s t) ∧
  (∀ (s : State) (n : Nat), (s.neigh n).isSome = true → inHouse s = true → Completes (.toneMapRefresh n) s fun t =>
    (t.tir.queue.drop s.tir.queue.length).map (fun i => (i.sound, i.next, i.final)) = [(true, some n, n)] ∧
    t.tir.queue.take s.tir.queue.length = s.tir.queue ∧ Keeps [] s t) ∧
  (∀ (s : State) (seat : Nat) (n : Neigh), s.neigh seat = some n → (n.txMaps.any (fun m => !(m.body == []))) = true →
    Completes (.toneMapExpiry seat) s fun t => (t.neigh seat).map (fun x => x.txMaps.map (fun m => (m.tmi, m.body))) =
    some [(0, [])] ∧ t.reg P.tirTmExpired = satAdd 32 (s.reg P.tirTmExpired) 1 ∧ Keeps [P.tirTmExpired] s t) ∧
  (∀ (s : State) (mac : Nat), slacServes s = true → mac < 2 ^ 48 → Completes (.cmSlacParmReq mac) s fun t =>
    t.slac.running = true ∧ t.slac.sounds = 0 ∧ t.reg P.tirGpPevMac = mac ∧ t.reg P.tirGpState = 1 ∧ t.sent = .slac 1
    [mac] :: s.sent ∧ Keeps [P.tirGpPevMac, P.tirGpState] s t) ∧
  (∀ (s : State) (n : Nat), slacServes s = true → s.slac.running = true → 0 < n → Completes (.cmStartAttenCharInd n) s
    fun t => t.slac.expected = n ∧ t.slac.sounds = 0 ∧ t.reg P.tirGpState = 2 ∧ Keeps [P.tirGpState] s t) ∧
  (∀ (s : State) (l : List Nat), slacServes s = true → s.slac.running = true → s.reg P.tirGpState = 2 → s.slac.sounds
    + 1 < s.slac.expected → Completes (.cmMnbcSoundInd l) s fun t => t.slac.sounds = s.slac.sounds + 1 ∧ t.slac.sums =
    (List.range 58).map (fun g => s.slac.sums.getD g 0 + l.getD g 0) ∧ t.sent = s.sent ∧ Keeps [] s t) ∧
  (∀ (s : State) (l : List Nat), slacServes s = true → s.slac.running = true → s.reg P.tirGpState = 2 →
    s.slac.expected = s.slac.sounds + 1 → Completes (.cmMnbcSoundInd l) s fun t => t.sent = .slac 2 ((List.range
    58).map (fun g => (s.slac.sums.getD g 0 + l.getD g 0) / s.slac.expected)) :: s.sent ∧ t.slac.sounds =
    s.slac.expected ∧ Keeps [P.tirGpAtten] s t) ∧
  (∀ (s : State), slacServes s = true → s.reg P.tirGpState = 2 → s.slac.sounds = s.slac.expected → Completes
    (.cmAttenCharRsp) s fun t => t.slac = { s.slac with answered := true } ∧ Keeps [] s t) ∧
  (∀ (s : State), slacServes s = true → s.slac.answered = true → Completes (.cmSlacMatchReq) s fun t => t.reg
    P.tirGpState = 4 ∧ t.slac.running = false ∧ .slac 3 [t.slac.key] ∈ t.sent ∧ t.slac.key < 2 ^ 128 ∧ SameMem s t) ∧
  (∀ (s : State), s.present 11 = true → s.slac.running = true → Completes (.slacRunTimeout) s fun t => t.slac =
    SlacState.reset ∧ t.reg P.tirGpState = 1 ∧ t.reg P.tirGpSlacFails = satAdd 32 (s.reg P.tirGpSlacFails) 1 ∧ Keeps
    [P.tirGpState, P.tirGpSlacFails] s t)

/-- An accepted WRITE of CK_FORCE_NOW puts every island of its mask but I00 into reset on its input 0; one of
PW_RESET_REQ with 0x5A arms the main-die start that follows the reply; PW_TIER_REQ takes the tier; PBK_BANK_CMD starts
the self-test, copy or wipe of its bank and sets PBK_BANK_CMD_STATUS. Each is answered OK, and the reset request and
the bank operations change no other register and no byte. Rests on R80, R100, R103, R153, R166, R178, R182. -/
def Obligations.ClockPowerBankRequests : Prop :=
  (∀ (s h : State) (r q : Req), q = reqFor r P.ckForceNow → AcceptedWrite q s → h = heard q s → s.clk.islands.length =
    24 → Completes (.ckForceNow r) s fun t => Wrote q s (actForceNow (ofBytes r.payload) h) t ∧ (∀ n < 24, bitOf
    (ofBytes r.payload) n = true → 0 < n → (t.isl n).inReset = true ∧ (t.isl n).sel = 0)) ∧
  (∀ (s h : State) (r q : Req), q = reqWith r P.pwResetReq [0x5A] → AcceptedWrite q s → h = heard q s → Completes
    (.pwResetReq r) s fun t => Wrote q s { h with pwr := { h.pwr with resetArmed := true } } t ∧ t.pwr.resetArmed =
    true ∧ Keeps [] h t) ∧
  (∀ (s h : State) (r q : Req), q = reqFor r P.pwTierReq → AcceptedWrite q s → h = heard q s → ofBytes r.payload < 256
    → (performWrite (servingOf opWrite q s) q.pid q.payload h).1 = resOk → Completes (.pwTierReq r) s fun t => Wrote q
    s (performWrite (servingOf opWrite q s) q.pid q.payload h).2 t ∧ t.reg P.pwTierReq = ofBytes r.payload) ∧
  (∀ (s h : State) (r q : Req) (u : State), q = reqOp r P.pbkBankCmd 1 → AcceptedWrite q s → h = heard q s →
    bankRequest 0x0C 1 (bits (ofBytes q.payload) 10 8) (bits (ofBytes q.payload) 14 12) h = (.started, u) → bits
    (ofBytes q.payload) 7 0 = 1 → Completes (.bankSelfTest r) s fun t => Wrote q s u t ∧ t.mram.op = some (1, bits
    (ofBytes q.payload) 10 8, bits (ofBytes q.payload) 14 12) ∧ t.reg P.pbkBankCmdStatus = 1 ∧ Keeps
    [P.pbkBankCmdStatus] h t) ∧
  (∀ (s h : State) (r q : Req) (u : State), q = reqOp r P.pbkBankCmd 2 → AcceptedWrite q s → h = heard q s →
    bankRequest 0x0C 2 (bits (ofBytes q.payload) 10 8) (bits (ofBytes q.payload) 14 12) h = (.started, u) → bits
    (ofBytes q.payload) 7 0 = 2 → 4 ≤ reqKey q → Completes (.bankCopy r) s fun t => Wrote q s u t ∧ t.mram.op = some
    (2, bits (ofBytes q.payload) 10 8, bits (ofBytes q.payload) 14 12) ∧ t.reg P.pbkBankCmdStatus = 1 ∧ Keeps
    [P.pbkBankCmdStatus] h t) ∧
  (∀ (s h : State) (r q : Req) (u : State), q = reqOp r P.pbkBankCmd 3 → AcceptedWrite q s → h = heard q s →
    bankRequest 0x0C 3 (bits (ofBytes q.payload) 10 8) (bits (ofBytes q.payload) 14 12) h = (.started, u) → bits
    (ofBytes q.payload) 7 0 = 3 → 4 ≤ reqKey q → Completes (.bankWipe r) s fun t => Wrote q s u t ∧ t.mram.op = some
    (3, bits (ofBytes q.payload) 10 8, bits (ofBytes q.payload) 14 12) ∧ t.reg P.pbkBankCmdStatus = 1 ∧ Keeps
    [P.pbkBankCmdStatus] h t)

/-- An accepted WRITE of FLY_CMD or FLY_TARGET is answered OK: homing drops the home reference and seeks home, with
the brake test first where it is due at home, which closes SO5 and opens SO4; a stop and a quick stop keep the axis
running towards their stop and clear TARGET_PENDING; a resume goes for FLY_TARGET again; the jogs run at creep; a
target is stored and waits for the next interval of the axis. An axis that moves keeps every register but FLY_STATUS
(and FLY_TARGET where it is written, IRN_SAFE_STATE where the test begins) and all of memory. Rests on R178, R182,
R217, R266, R270, R271, R272, R279. -/
def Obligations.FlyRequests : Prop :=
  (∀ (s h : State) (r q : Req), q = reqWith r P.flyCmd [1] → AcceptedWrite q s → h = heard q s → motionRefused true h
    = none → h.fly.phase = .run → Completes (.flyHome r) s fun t => Wrote q s (actFlyHome h).2 t ∧ t.fly.goal =
    .homeOut ∧ t.fly.newTarget = none ∧ flyBit t 0 = true ∧ flyBit t 2 = false ∧ Keeps [P.flyStatus] h t) ∧
  (∀ (s h : State) (r q : Req), q = reqWith r P.flyCmd [1] → AcceptedWrite q s → h = heard q s → motionRefused true h
    = none → h.fly.phase = .rest → brakeDue h = true → atHome h = true → Completes (.flyHome r) s fun t => Wrote q s
    (actFlyHome h).2 t ∧ t.fly.phase = .test ∧ t.fly.goal = .homeOut ∧ t.fly.newTarget = none ∧ Keeps [P.flyStatus,
    P.irnSafeState] h t) ∧
  (∀ (s h : State) (r q : Req), q = reqWith r P.flyCmd [3] → AcceptedWrite q s → h = heard q s → h.fly.phase = .run →
    Completes (.flyStop r) s fun t => Wrote q s (actFlyStop .stop h).2 t ∧ t.fly.phase = .run ∧ t.fly.goal = .stop ∧
    flyBit t 7 = false ∧ t.fly.newTarget = none ∧ Keeps [P.flyStatus] h t) ∧
  (∀ (s h : State) (r q : Req), q = reqWith r P.flyCmd [4] → AcceptedWrite q s → h = heard q s → h.fly.phase = .run →
    Completes (.flyQuickStop r) s fun t => Wrote q s (actFlyStop .quick h).2 t ∧ t.fly.phase = .run ∧ t.fly.goal =
    .quick ∧ flyBit t 7 = false ∧ t.fly.newTarget = none ∧ Keeps [P.flyStatus] h t) ∧
  (∀ (s h : State) (r q : Req), q = reqWith r P.flyCmd [5] → AcceptedWrite q s → h = heard q s → (actFlyResume h).1 =
    resOk → h.fly.phase = .run → Completes (.flyResume r) s fun t => Wrote q s (actFlyResume h).2 t ∧ t.fly.goal =
    .target ∧ t.fly.goalPos = h.regI P.flyTarget ∧ flyBit t 7 = false ∧ Keeps [P.flyStatus] h t) ∧
  (∀ (s h : State) (r q : Req), q = reqWith r P.flyCmd [6] → AcceptedWrite q s → h = heard q s → motionRefused false h
    = none → h.fly.phase = .run → Completes (.flyJogPositive r) s fun t => Wrote q s (actFlyJog .jogUp h).2 t ∧
    t.fly.goal = .jogUp ∧ flyBit t 6 = true ∧ Keeps [P.flyStatus] h t) ∧
  (∀ (s h : State) (r q : Req), q = reqWith r P.flyCmd [7] → AcceptedWrite q s → h = heard q s → motionRefused false h
    = none → h.fly.phase = .run → Completes (.flyJogNegative r) s fun t => Wrote q s (actFlyJog .jogDown h).2 t ∧
    t.fly.goal = .jogDown ∧ flyBit t 6 = true ∧ Keeps [P.flyStatus] h t) ∧
  (∀ (s h : State) (r q : Req), q = reqFor r P.flyTarget → AcceptedWrite q s → h = heard q s → (actFlyTarget (ofBytes
    r.payload) h).1 = resOk → h.fly.goal ≠ .quick → ofBytes r.payload < 2 ^ 32 → Completes (.flyTargetWrite r) s fun t
    => Wrote q s (actFlyTarget (ofBytes r.payload) h).2 t ∧ t.fly.newTarget = some (toSigned 32 (ofBytes r.payload)) ∧
    t.reg P.flyTarget = ofBytes r.payload ∧ Keeps [P.flyTarget, P.flyStatus] h t)

/-- An accepted WRITE of an outlet mode, a converter mode or a full scale stores it; the four calibration operations
on a converter channel move TLY_CAL_STATE as R295 says; BOX_MD_RESET clears the maximum of its rate and counts it;
BOX_EMERG_REQ, or the emergency key, draws on the emergency credit; BOX_TOKEN_IN, or ENTER after 25 digits, begins a
token. Each WRITE is answered OK; the frames name the registers that may change. Rests on R178, R182, R295, R296,
R323, R334, R337, R338. -/
def Obligations.TallyAndBoxRequests : Prop :=
  (∀ (s h : State) (r q : Req) (x : Nat), q = r → AcceptedWrite q s → h = heard q s → x < 3 → r.pid = P.tlyOutMode x →
    ofBytes r.payload < 256 → (performWrite (servingOf opWrite q s) q.pid q.payload h).1 = resOk → Completes
    (.tlyOutModeWrite r) s fun t => Wrote q s (performWrite (servingOf opWrite q s) q.pid q.payload h).2 t ∧ t.reg
    (P.tlyOutMode x) = ofBytes r.payload) ∧
  (∀ (s h : State) (r q : Req) (c : Nat), q = reqOp r P.tlyCalCmd 1 → AcceptedWrite q s → h = heard q s → c = bits
    (ofBytes q.payload) 15 8 → (actCalCmd (reqKey q) (ofBytes q.payload) h).1 = resOk → bits (ofBytes q.payload) 7 0 =
    1 → bits (h.reg P.tlyCalState) 7 0 = 0 → Completes (.calMeasureLow r) s fun t => Wrote q s (actCalCmd (reqKey q)
    (ofBytes q.payload) h).2 t ∧ t.reg P.tlyCalState = c * 256 + 1 ∧ (12 ≤ c → Keeps [P.tlyCalState] h t)) ∧
  (∀ (s h : State) (r q : Req) (c : Nat), q = reqOp r P.tlyCalCmd 2 → AcceptedWrite q s → h = heard q s → c = bits
    (ofBytes q.payload) 15 8 → (actCalCmd (reqKey q) (ofBytes q.payload) h).1 = resOk → bits (ofBytes q.payload) 7 0 =
    2 → h.reg P.tlyCalState = c * 256 + 2 → Completes (.calMeasureHigh r) s fun t => Wrote q s (actCalCmd (reqKey q)
    (ofBytes q.payload) h).2 t ∧ t.reg P.tlyCalState = c * 256 + 3 ∧ (12 ≤ c → Keeps [P.tlyCalState] h t)) ∧
  (∀ (s h : State) (r q : Req) (c : Nat), q = reqOp r P.tlyCalCmd 3 → AcceptedWrite q s → h = heard q s → c = bits
    (ofBytes q.payload) 15 8 → (actCalCmd (reqKey q) (ofBytes q.payload) h).1 = resOk → bits (ofBytes q.payload) 7 0 =
    3 → h.reg P.tlyCalState = c * 256 + 4 → Completes (.calCommit r) s fun t => Wrote q s (actCalCmd (reqKey q)
    (ofBytes q.payload) h).2 t ∧ (bits (t.reg P.tlyCalState) 7 0 = 5 ∨ bits (t.reg P.tlyCalState) 7 0 = 6) ∧ bits
    (t.reg P.tlyCalState) 15 8 = c ∧ (12 ≤ c → SameMem h t)) ∧
  (∀ (s h : State) (r q : Req) (c : Nat), q = reqOp r P.tlyCalCmd 4 → AcceptedWrite q s → h = heard q s → c = bits
    (ofBytes q.payload) 15 8 → (actCalCmd (reqKey q) (ofBytes q.payload) h).1 = resOk → bits (ofBytes q.payload) 7 0 =
    4 → h.reg P.tlyCalState = c * 256 + 2 → Completes (.calAbandon r) s fun t => Wrote q s (actCalCmd (reqKey q)
    (ofBytes q.payload) h).2 t ∧ t.reg P.tlyCalState = 0 ∧ (12 ≤ c → Keeps [P.tlyCalState] h t)) ∧
  (∀ (s h : State) (r q : Req) (n : Nat), q = r → AcceptedWrite q s → h = heard q s → n < 16 → r.pid = P.tlyPcMode n →
    ofBytes r.payload < 256 → (performWrite (servingOf opWrite q s) q.pid q.payload h).1 = resOk → Completes
    (.tlyPcModeWrite r) s fun t => Wrote q s (performWrite (servingOf opWrite q s) q.pid q.payload h).2 t ∧ t.reg
    (P.tlyPcMode n) = ofBytes r.payload) ∧
  (∀ (s h : State) (r q : Req) (m : Nat), q = r → AcceptedWrite q s → h = heard q s → m < 12 → r.pid = P.tlyMcFs m →
    ofBytes r.payload < 2 ^ (8 * sizeOf' (P.tlyMcFs m)) → (performWrite (servingOf opWrite q s) q.pid q.payload h).1 =
    resOk → Completes (.tlyMcFsWrite r) s fun t => Wrote q s (performWrite (servingOf opWrite q s) q.pid q.payload
    h).2 t ∧ t.reg (P.tlyMcFs m) = ofBytes r.payload) ∧
  (∀ (s h : State) (r q : Req) (k : Nat), q = reqFor r P.boxMdReset → AcceptedWrite q s → h = heard q s → k < 8 →
    ofBytes r.payload = 2 ^ k → Completes (.boxMdReset r) s fun t => Wrote q s (demandRecord [k] (resetMd h k)) t ∧
    t.reg (P.boxMd k) = 0 ∧ t.reg (P.boxMdResets k) = satAdd (8 * sizeOf' (P.boxMdResets k)) (h.reg (P.boxMdResets k))
    1) ∧
  (∀ (s h : State) (r q : Req), q = reqWith r P.boxEmergReq [1] → AcceptedWrite q s → h = heard q s → 0 < h.regI
    P.boxEmergAmount → h.reg P.boxEmergActive = 0 → h.regI P.boxCredit ≤ h.regI P.boxEmergThreshold → Completes
    (.boxEmergReq (some r)) s fun t => Wrote q s (h.setReg P.boxEmergActive 1) t ∧ t.reg P.boxEmergActive = 1 ∧ Keeps
    [P.boxEmergActive] h t) ∧
  (∀ (s : State), boxWorks s = true → 0 < s.regI P.boxEmergAmount → s.reg P.boxEmergActive = 0 → s.regI P.boxCredit ≤
    s.regI P.boxEmergThreshold → Completes (.boxEmergReq none) s fun t => t = s.setReg P.boxEmergActive 1) ∧
  (∀ (s h : State) (r q : Req), q = reqFor r P.boxTokenIn → AcceptedWrite q s → h = heard q s → (actTokenIn r.payload
    h).1 = resOk → Completes (.tokenEntry (some r)) s fun t => Wrote q s (actTokenIn r.payload h).2 t ∧
    (t.box.token).map (fun k => (k.digits, k.keypad, k.reported)) = some (r.payload.map (fun b => b - 0x30), false,
    false)) ∧
  (∀ (s : State), s.box.entry.length = 25 → boxWorks s = true → s.reg P.boxTokenLockUntil ≤ s.now → Completes
    (.tokenEntry none) s fun t => (t.box.token).map (fun k => (k.digits, k.keypad)) = some (s.box.entry, true) ∧
    t.box.entry = [] ∧ SameMem s t)

/-- An accepted WRITE of a network test mode stores it and clears its counters, and takes Tirwa out of its house; a
lane's pattern or loopback puts the lane into test; the host's grant ends the card's judgement with 0 or 5; a tag key
or mode is stored and ends SECURED; TAG_NOTE_CLEAR begins the clear of the 192 note slots, which goes on as time
passes (that it takes one slot per unit of time is the model's choice, log 100); UARTn_TX_DATA sends its bytes while
VIO33 is present; a UART test restarts its counters; DSP_IMAGE gives a new target. Each is answered OK. Rests on R90,
R178, R384, R408, R409, R410, R417, R422, R434, R435, R455, R456. -/
def Obligations.NetworkAndPortRequests : Prop :=
  (∀ (s h : State) (r q : Req), q = reqFor r P.tirTestMode → AcceptedWrite q s → h = heard q s → ofBytes r.payload <
    256 → Completes (.tirTestMode r) s fun t => Wrote q s (actTirTest (ofBytes r.payload) (h.setReg P.tirTestMode
    (ofBytes r.payload))) t ∧ t.reg P.tirTestMode = ofBytes r.payload ∧ t.reg P.tirTestBits = 0 ∧ t.reg
    P.tirTestErrors = 0 ∧ (ofBytes r.payload ≠ 0 → t.tir.neigh = [] ∧ t.tir.routes = [] ∧ t.tir.lead = false)) ∧
  (∀ (s h : State) (r q : Req), q = reqFor r P.tirGpTestMode → AcceptedWrite q s → h = heard q s → h.reg P.irnCpState
    = 1 → ofBytes r.payload < 256 → Completes (.tirGpTestMode r) s fun t => Wrote q s ((h.setReg P.tirGpTestErrors
    0).setReg P.tirGpTestMode (ofBytes r.payload)) t ∧ t.reg P.tirGpTestMode = ofBytes r.payload ∧ t.reg
    P.tirGpTestErrors = 0 ∧ Keeps [P.tirGpTestMode, P.tirGpTestErrors] h t) ∧
  (∀ (s h : State) (r q : Req) (n : Nat), q = r → AcceptedWrite q s → h = heard q s → n < 4 → r.pid = P.slLanePatGen n
    → throughLane h r.via r.ip n = false → ofBytes r.payload < 256 → Completes (.slPatternGenWrite r) s fun t => Wrote
    q s (actLaneTest (P.slLanePatGen n) n (ofBytes r.payload) true r.via r.ip h).2 t ∧ t.reg (P.slLanePatGen n) =
    ofBytes r.payload ∧ t.reg (P.slLanePatBits n) = 0 ∧ t.reg (P.slLanePatErr n) = 0 ∧ (ofBytes r.payload ≠ 0 →
    laneTests h n = false → h.reg (P.slLaneSpeed n) ≠ 3 → t.reg (P.slLaneState n) = 5) ∧ Keeps [P.slLanePatGen n,
    P.slLaneState n, P.slLanePatBits n, P.slLanePatErr n] h t) ∧
  (∀ (s h : State) (r q : Req) (n : Nat), q = r → AcceptedWrite q s → h = heard q s → n < 4 → r.pid = P.slLanePatChk n
    → throughLane h r.via r.ip n = false → ofBytes r.payload < 256 → Completes (.slPatternChkWrite r) s fun t => Wrote
    q s (actLaneTest (P.slLanePatChk n) n (ofBytes r.payload) true r.via r.ip h).2 t ∧ t.reg (P.slLanePatChk n) =
    ofBytes r.payload ∧ t.reg (P.slLanePatBits n) = 0 ∧ t.reg (P.slLanePatErr n) = 0 ∧ (ofBytes r.payload ≠ 0 →
    laneTests h n = false → h.reg (P.slLaneSpeed n) ≠ 3 → t.reg (P.slLaneState n) = 5) ∧ Keeps [P.slLanePatChk n,
    P.slLaneState n, P.slLanePatBits n, P.slLanePatErr n] h t) ∧
  (∀ (s h : State) (r q : Req) (n : Nat), q = r → AcceptedWrite q s → h = heard q s → n < 4 → r.pid = P.slLaneLoopback
    n → throughLane h r.via r.ip n = false → ofBytes r.payload < 256 → Completes (.slLoopbackWrite r) s fun t => Wrote
    q s (actLaneTest (P.slLaneLoopback n) n (ofBytes r.payload) false r.via r.ip h).2 t ∧ t.reg (P.slLaneLoopback n) =
    ofBytes r.payload ∧ (ofBytes r.payload ≠ 0 → laneTests h n = false → h.reg (P.slLaneSpeed n) ≠ 3 → t.reg
    (P.slLaneState n) = 5) ∧ Keeps [P.slLaneLoopback n, P.slLaneState n] h t) ∧
  (∀ (s h : State) (r q : Req) (c : Card), q = reqFor r P.rdrHostGrant → AcceptedWrite q s → h = heard q s →
    h.rdr.judging = some (c, 1) → ofBytes r.payload ≠ 1 → Completes (.rdrHostGrant r) s fun t => Wrote q s (cardResult
    5 h) t ∧ t.rdr.judging = none ∧ t.reg P.rdrAuthResult = 5 ∧ Keeps [P.rdrAuthResult] h t) ∧
  (∀ (s h : State) (r q : Req) (c : Card), q = reqFor r P.rdrHostGrant → AcceptedWrite q s → h = heard q s →
    h.rdr.judging = some (c, 1) → ofBytes r.payload = 1 → Completes (.rdrHostGrant r) s fun t => Wrote q s (cardGrant
    c h) t ∧ t.rdr.judging = none ∧ t.reg P.rdrAuthResult = 0) ∧
  (∀ (s h : State) (r q : Req), q = reqFor r P.rdrTestMode → AcceptedWrite q s → h = heard q s → ofBytes r.payload = 1
    → Completes (.rdrTestMode r) s fun t => Wrote q s (actRdrTest (h.reg P.rdrTestMode) (h.setReg P.rdrTestMode 1)) t
    ∧ t.reg P.rdrTestMode = 1 ∧ t.reg P.rdrTestFrames = 0 ∧ t.reg P.rdrTestErrors = 0 ∧ Keeps [P.rdrTestMode,
    P.rdrTestFrames, P.rdrTestErrors] h t) ∧
  (∀ (s h : State) (r q : Req), q = r → AcceptedWrite q s → h = heard q s → r.pid = P.tagAesKey → Completes
    (.tagSecurityWrite r) s fun t => Wrote q s (keyWrite (servingOf opWrite q s).ctx r.pid r.payload h) t ∧ t.tag.key
    = ofBytes (aesDecrypt (toBytes 16 (s.key (reqKey r))) r.payload) ∧ tagSt t ≠ 4) ∧
  (∀ (s h : State) (r q : Req), q = r → AcceptedWrite q s → h = heard q s → r.pid = P.tagAuthModes → ofBytes r.payload
    < 256 → (performWrite (servingOf opWrite q s) q.pid q.payload h).1 = resOk → Completes (.tagSecurityWrite r) s fun
    t => Wrote q s (performWrite (servingOf opWrite q s) q.pid q.payload h).2 t ∧ t.reg P.tagAuthModes = ofBytes
    r.payload ∧ tagSt t ≠ 4) ∧
  (∀ (s h : State) (r q : Req), q = reqWith r P.tagNoteClear [0xC1] → AcceptedWrite q s → h = heard q s → Completes
    (.tagNoteClear r) s fun t => Wrote q s (clearNotes h) t ∧ t.tag.clearing = some 0 ∧ Keeps [] h t) ∧
  (∀ (s h : State) (r q : Req) (n : Nat), q = r → AcceptedWrite q s → h = heard q s → n = 1 ∨ n = 2 → r.pid =
    P.uartTxData n → tunnels h n = true → ustat h n 4 = false → (h.uart n).outBuf.length + r.payload.length ≤ 1024 →
    r.payload ≠ [] → r.via = .stageDoor → h.ser.uarts.length = 5 → h.pwr.vio33 = true → Completes (.uartTxDataWrite r)
    s fun t => Wrote q s (actTxData n r.payload h).2 t ∧ .uart n ((h.uart n).txFifo ++ (h.uart n).outBuf ++ r.payload)
    ∈ t.sent ∧ (t.uart n).outBuf = [] ∧ Keeps [] h t) ∧
  (∀ (s h : State) (r q : Req) (n : Nat), q = r → AcceptedWrite q s → h = heard q s → n = 1 ∨ n = 2 ∨ n = 5 → r.pid =
    P.uartTest n → ofBytes r.payload ≤ 2 → (actUartTest n (ofBytes r.payload) h).1 = resOk → Completes (.uartTestWrite
    r) s fun t => Wrote q s (actUartTest n (ofBytes r.payload) h).2 t ∧ t.reg (P.uartTest n) = ofBytes r.payload ∧
    t.reg (P.uartTestBits n) = 0 ∧ t.reg (P.uartTestErrors n) = 0 ∧ Keeps [P.uartTest n, P.uartTestBits n,
    P.uartTestErrors n] h t) ∧
  (∀ (s h : State) (r q : Req), q = reqFor r P.dspImage → AcceptedWrite q s → h = heard q s → ofBytes r.payload < 2 ^
    (8 * sizeOf' P.dspImage) → Completes (.dspImageWrite r) s fun t => Wrote q s (newTarget (h.setReg P.dspImage
    (ofBytes r.payload))) t ∧ t.reg P.dspImage = ofBytes r.payload)

/-- An accepted WNG_OPEN begins a staging of its component with PD32 to PD35 on; a chunk of a whole image is stored at
its offset and nowhere else; WNG_VERIFY goes to state 3; WNG_COMMIT of the Iron configuration or calibration waits for
its CRC, of another component commits; WNG_COMMIT_CRC with the pending CRC commits; WNG_CONFIRM ends the trial and
raises the release; WNG_ROLLBACK goes to state 7; WNG_ABANDON closes the staging. Each is answered OK. Rests on R178,
R487, R488, R489, R490, R492, R494, R495. -/
def Obligations.WingsRequests : Prop :=
  (∀ (s h : State) (r q : Req), q = reqFor r P.wngOpen → AcceptedWrite q s → h = heard q s → (actWngOpen (ofBytes
    r.payload) (servingOf opWrite q s).ctx.writer h).1 = resOk → 0 < bits (ofBytes r.payload) 63 32 → bits (ofBytes
    r.payload) 15 8 = 1 → Completes (.wngOpen r) s fun t => Wrote q s (actWngOpen (ofBytes r.payload) (servingOf
    opWrite q s).ctx.writer h).2 t ∧ t.wng.declared = bits (ofBytes r.payload) 63 32 ∧ t.wng.owner = masterOf s q ∧
    (h.pwr.dom.length = 64 → t.dom 32 = .on ∧ t.dom 33 = .on ∧ t.dom 34 = .on ∧ t.dom 35 = .on) ∧ wngState t = 1 ∧
    wngComponent t = bits (ofBytes r.payload) 7 0) ∧
  (∀ (s h : State) (r q : Req) (bad : Bool) (o : Nat), q = reqFor r P.wngChunk → AcceptedWrite q s → h = heard q s →
    wngState h = 1 ∨ wngState h = 2 → h.wng.owner = masterOf s q → h.wng.mode = 1 → o = ofBytes (r.payload.take 4) → 5
    ≤ r.payload.length → r.payload.length ≤ 1028 → o + (r.payload.length - 4) ≤ h.wng.declared → Memory.wf s.mem =
    true → (∀ b ∈ r.payload, b < 256) → Completes (.wngChunk r bad) s fun t => Wrote q s (actWngChunk r.payload bad
    (servingOf opWrite q s).ctx.writer h).2 t ∧ t.bytes (wingsBank + o) (r.payload.length - 4) = r.payload.drop 4 ∧
    StoresOnly (wingsBank + o) (r.payload.length - 4) h t ∧ SameRegs [P.wngStatus, P.wngHeader] h t) ∧
  (∀ (s h : State) (r q : Req), q = reqWith r P.wngVerify [1] → AcceptedWrite q s → h = heard q s → wngState h = 2 →
    h.wng.owner = masterOf s q → Completes (.wngVerify r) s fun t => Wrote q s (wngTo 3 0 h) t ∧ wngState t = 3 ∧
    Keeps [P.wngStatus] h t) ∧
  (∀ (s h : State) (r q : Req), q = reqWith r P.wngCommit [1] → AcceptedWrite q s → h = heard q s → (actWngCommit
    (servingOf opWrite q s).ctx.writer h).1 = resOk → wngComponent h = 3 ∨ wngComponent h = 4 → Completes (.wngCommit
    r) s fun t => Wrote q s (actWngCommit (servingOf opWrite q s).ctx.writer h).2 t ∧ t.wng.pendCommit = true ∧ Keeps
    [] h t) ∧
  (∀ (s h : State) (r q : Req), q = reqWith r P.wngCommit [1] → AcceptedWrite q s → h = heard q s → (actWngCommit
    (servingOf opWrite q s).ctx.writer h).1 = resOk → wngComponent h ≠ 3 → wngComponent h ≠ 4 → Completes (.wngCommit
    r) s fun t => Wrote q s (actWngCommit (servingOf opWrite q s).ctx.writer h).2 t ∧ wngState t = 5 ∧
    t.wng.pendCommit = false) ∧
  (∀ (s h : State) (r q : Req), q = reqFor r P.wngCommitCrc → AcceptedWrite q s → h = heard q s → h.wng.pendCommit =
    true → wngState h = 4 → anyPairClosed h = false → ofBytes r.payload = h.reg P.wngPendingCrc → (commitImage
    (servingOf opWrite q s).ctx.writer h).1 = resOk → Completes (.wngCommitCrc r) s fun t => Wrote q s (commitImage
    (servingOf opWrite q s).ctx.writer h).2 t ∧ wngState t = 5 ∧ t.wng.pendCommit = false) ∧
  (∀ (s h : State) (r q : Req), q = reqWith r P.wngConfirm [1] → AcceptedWrite q s → h = heard q s → (actWngConfirm
    (servingOf opWrite q s).ctx.writer h).1 = resOk → Completes (.wngConfirm r) s fun t => Wrote q s (actWngConfirm
    (servingOf opWrite q s).ctx.writer h).2 t ∧ wngState t = 0 ∧ t.reg P.wngReleaseLast = wngComponent h ∧ t.reg
    P.wngRelease = hdrRelease h (activeBase h (wngComponent h))) ∧
  (∀ (s h : State) (r q : Req), q = reqWith r P.wngRollback [1] → AcceptedWrite q s → h = heard q s → (actWngRollback
    (servingOf opWrite q s).ctx.writer h).1 = resOk → Completes (.wngRollback r) s fun t => Wrote q s (actWngRollback
    (servingOf opWrite q s).ctx.writer h).2 t ∧ wngState t = 7) ∧
  (∀ (s h : State) (r q : Req), q = reqWith r P.wngAbandon [1] → AcceptedWrite q s → h = heard q s → (actWngAbandon
    (servingOf opWrite q s).ctx.writer h).1 = resOk → Completes (.wngAbandon r) s fun t => Wrote q s (actWngAbandon
    (servingOf opWrite q s).ctx.writer h).2 t ∧ wngState t = 0 ∧ t.wng.declared = 0 ∧ t.wng.ranges = [])

/-- Bytes sent on the stage door port while nothing is being sent raise SDR_DE no sooner than SDR_TURN_US after the
last stop bit received, SDR_DE_LEAD_US before the first start bit, and lower it with the last stop bit; a character or
a delimiter received while SDR_DE is high is lost; SDR_DE is low while VAON is not good; an output of the VIO33 bank
is not driven while VIO33 is absent. That a transmission begins at the first time allowed is the model's choice
(assumption 101). Rests on R90, R449. -/
def Obligations.StageDoorDriver : Prop :=
  (∀ (s t : State) (baud f turn lead : Nat) (b : Bytes), s.ser.deFall ≤ s.mono → t = doorSend baud f turn lead b s →
    s.ser.doorAt + usUp turn ≤ t.ser.deRise ∧ s.mono ≤ t.ser.deRise ∧ t.ser.deStart = t.ser.deRise + usUp lead ∧
    t.ser.deFall = t.ser.deStart + charTime baud f b.length ∧ t.sent = .uart 0 b :: s.sent ∧ Keeps [] s t) ∧
  (∀ (s : State) (c : Nat) (p f : Bool), sdrDe s = true → Completes (.uartCharacterReceive 0 c p f) s fun t => t = s) ∧
  (∀ (s : State), sdrDe s = true → Completes (.stageDoorFrame) s fun t => t = s) ∧
  (∀ (s : State), s.pwr.vaon = false → sdrDe s = false) ∧
  (∀ (s : State) (o : Output), o.onVio33 = true → s.pwr.vio33 = false → s.emit o = s)
end

