-- ==== Sys2Proof/Laws/Sound.lean ====
section
/-!
SUPPORT. The base of the invariant `State.ok`: the operations over memory and registers keep their canonical forms, and
the operations over the lists of fixed length keep the lengths. The files Laws/Sound*.lean go on from here, one lemma for
each operation of the machine.
-/

namespace Sys2Proof.Machine

open Sys2Proof

/-! ### Memory (R137) -/

theorem Memory.wfAbove_mono {lo lo' : Nat} {m : List Host.Cell} (h : Memory.wfAbove lo m = true) (hl : lo' ≤ lo) :
    Memory.wfAbove lo' m = true := by
  cases m with
  | nil => rfl
  | cons c t => simp only [Memory.wfAbove, Bool.and_eq_true, decide_eq_true_eq] at *; exact ⟨⟨by omega, h.1.2⟩, h.2⟩

theorem Memory.write_wfAbove {m : List Host.Cell} {lo x v : Nat} (h : Memory.wfAbove lo m = true) (hx : lo ≤ x) :
    Memory.wfAbove lo (Memory.write m x v) = true := by
  have hv : ¬ v % 256 = blankByte → (!((BitVec.ofNat 8 v).toNat == blankByte)) = true := by
    intro h; simpa using h
  induction m generalizing lo with
  | nil =>
    unfold Memory.write
    split
    · rfl
    · simp only [Memory.wfAbove, Bool.and_eq_true, decide_eq_true_eq]; exact ⟨⟨hx, hv ‹_›⟩, trivial⟩
  | cons c t ih =>
    obtain ⟨a, b⟩ := c
    simp only [Memory.wfAbove, Bool.and_eq_true, decide_eq_true_eq] at h
    unfold Memory.write
    split
    · split
      · simp only [Memory.wfAbove, Bool.and_eq_true, decide_eq_true_eq]; exact h
      · simp only [Memory.wfAbove, Bool.and_eq_true, decide_eq_true_eq]
        exact ⟨⟨hx, hv ‹_›⟩, ⟨by omega, h.1.2⟩, h.2⟩
    · split
      · split
        · exact Memory.wfAbove_mono h.2 (by omega)
        · simp only [Memory.wfAbove, Bool.and_eq_true, decide_eq_true_eq]
          exact ⟨⟨hx, hv ‹_›⟩, Memory.wfAbove_mono h.2 (by omega)⟩
      · simp only [Memory.wfAbove, Bool.and_eq_true, decide_eq_true_eq]
        exact ⟨h.1, ih h.2 (by omega)⟩

/-- A byte written keeps the canonical form. -/
theorem Memory.write_wf {m : List Host.Cell} {x v : Nat} (h : Memory.wf m = true) : Memory.wf (Memory.write m x v) = true :=
  Memory.write_wfAbove h (Nat.zero_le _)

/-- Bytes written keep the canonical form. -/
theorem Memory.writeBytes_wf {m : List Host.Cell} {x : Nat} {l : Bytes} (h : Memory.wf m = true) :
    Memory.wf (Memory.writeBytes m x l) = true := by
  induction l generalizing m x with
  | nil => exact h
  | cons v t ih => exact ih (Memory.write_wf h)

theorem Memory.filter_wfAbove {m : List Host.Cell} {lo : Nat} {f : Host.Cell → Bool} (h : Memory.wfAbove lo m = true) :
    Memory.wfAbove lo (m.filter f) = true := by
  induction m generalizing lo with
  | nil => rfl
  | cons c t ih =>
    obtain ⟨a, b⟩ := c
    simp only [Memory.wfAbove, Bool.and_eq_true, decide_eq_true_eq] at h
    rw [List.filter_cons]
    split
    · simp only [Memory.wfAbove, Bool.and_eq_true, decide_eq_true_eq]; exact ⟨h.1, ih h.2⟩
    · exact Memory.wfAbove_mono (ih h.2) (by omega)

/-- A range made blank keeps the canonical form. -/
theorem Memory.clear_wf {m : List Host.Cell} {lo hi : Nat} (h : Memory.wf m = true) : Memory.wf (Memory.clear m lo hi) = true :=
  Memory.filter_wfAbove h

theorem Memory.foldl_write_wf {l : List Host.Cell} {f g : Host.Cell → Nat} {m : List Host.Cell} (h : Memory.wf m = true) :
    Memory.wf (l.foldl (fun acc c => Memory.write acc (f c) (g c)) m) = true := by
  induction l generalizing m with
  | nil => exact h
  | cons c t ih => exact ih (Memory.write_wf h)

/-- A range copied keeps the canonical form. -/
theorem Memory.copyRange_wf {m : List Host.Cell} {src dst n : Nat} (h : Memory.wf m = true) :
    Memory.wf (Memory.copyRange m src dst n) = true :=
  Memory.foldl_write_wf (Memory.clear_wf h)

/-! ### Registers (R14) -/

theorem Regs.wfAbove_mono {lo lo' : Nat} {r : Regs} (h : Regs.wfAbove lo r = true) (hl : lo' ≤ lo) :
    Regs.wfAbove lo' r = true := by
  cases r with
  | nil => rfl
  | cons c t => simp only [Regs.wfAbove, Bool.and_eq_true, decide_eq_true_eq] at *; exact ⟨⟨⟨by omega, h.1.1.2⟩, h.1.2⟩, h.2⟩

theorem Regs.insert_wfAbove {r : Regs} {lo p v : Nat} (h : Regs.wfAbove lo r = true) (hp : lo ≤ p)
    (hd : (!(v == dfltOf p)) = true) (hv : v < 2 ^ (8 * sizeOf' p)) : Regs.wfAbove lo (Regs.insert r p v) = true := by
  induction r generalizing lo with
  | nil => simp only [Regs.insert, Regs.wfAbove, Bool.and_eq_true, decide_eq_true_eq]; exact ⟨⟨⟨hp, hd⟩, hv⟩, trivial⟩
  | cons c t ih =>
    obtain ⟨a, b⟩ := c
    simp only [Regs.wfAbove, Bool.and_eq_true, decide_eq_true_eq] at h
    unfold Regs.insert
    split
    · simp only [Regs.wfAbove, Bool.and_eq_true, decide_eq_true_eq]
      exact ⟨⟨⟨hp, hd⟩, hv⟩, ⟨⟨by omega, h.1.1.2⟩, h.1.2⟩, h.2⟩
    · split
      · simp only [Regs.wfAbove, Bool.and_eq_true, decide_eq_true_eq]
        exact ⟨⟨⟨hp, hd⟩, hv⟩, Regs.wfAbove_mono h.2 (by omega)⟩
      · simp only [Regs.wfAbove, Bool.and_eq_true, decide_eq_true_eq]
        exact ⟨h.1, ih h.2 (by omega)⟩

theorem Regs.filter_wfAbove {r : Regs} {lo : Nat} {f : Nat × Nat → Bool} (h : Regs.wfAbove lo r = true) :
    Regs.wfAbove lo (r.filter f) = true := by
  induction r generalizing lo with
  | nil => rfl
  | cons c t ih =>
    obtain ⟨a, b⟩ := c
    simp only [Regs.wfAbove, Bool.and_eq_true, decide_eq_true_eq] at h
    rw [List.filter_cons]
    split
    · simp only [Regs.wfAbove, Bool.and_eq_true, decide_eq_true_eq]; exact ⟨h.1, ih h.2⟩
    · exact Regs.wfAbove_mono (ih h.2) (by omega)

/-- A selection of the registers keeps the canonical form. -/
theorem Regs.filter_wf {r : Regs} {f : Nat × Nat → Bool} (h : Regs.wf r = true) : Regs.wf (r.filter f) = true :=
  Regs.filter_wfAbove h

/-- A value stored keeps the canonical form. -/
theorem Regs.put_wf {r : Regs} {p v : Nat} (h : Regs.wf r = true) (hv : v < 2 ^ (8 * sizeOf' p)) :
    Regs.wf (Regs.put r p v) = true := by
  unfold Regs.put
  split
  · exact Regs.filter_wf h
  · exact Regs.insert_wfAbove h (Nat.zero_le _) (by simpa using ‹¬ _›) hv

/-! ### The state -/

/-- A state with the checked parts of a sound one is sound. -/
theorem State.ok_of {k : Nat × List Instr} {s t : State} (h : s.ok k) (hm : Memory.wf t.mem = true) (hr : Regs.wf t.regs = true)
    (hk : t.cue.keys = s.cue.keys) (hs : t.cue.subs.length = s.cue.subs.length) (hd : t.pwr.dom.length = s.pwr.dom.length)
    (hc : t.cbd.ch.length = s.cbd.ch.length) (hi : t.clk.islands.length = s.clk.islands.length)
    (hp : t.pending = s.pending) : t.ok k :=
  ⟨hm, hr, hk ▸ h.2.2.1, (congrArg (fun l => l.getD 4 0) hk).trans h.2.2.2.1, hs.trans h.2.2.2.2.1,
    hd.trans h.2.2.2.2.2.1, hc.trans h.2.2.2.2.2.2.1, hi.trans h.2.2.2.2.2.2.2.1, hp.trans h.2.2.2.2.2.2.2.2⟩

/-- A state that differs from a sound one in parts that soundness does not read is sound. -/
theorem ok_put {k s now mono freeCtr fab mram jnl iron saf veh fly cnv nrg box tir slac sl rdr tag crd ser dsp wng sent} (h : State.ok k s) : State.ok k
    (State.mk now mono freeCtr s.regs s.mem s.cue fab s.clk s.pwr s.cbd mram jnl iron saf veh fly cnv nrg box tir slac sl rdr tag crd ser dsp wng sent s.pending) :=
  ⟨h.1, h.2.1, h.2.2⟩

/-- A state that differs from a sound one, but not in what soundness reads, is sound. -/
theorem ok_upd {k s now mono freeCtr cue fab clk pwr cbd mram jnl iron saf veh fly cnv nrg box tir slac sl rdr tag crd ser dsp wng sent} (h : State.ok k s)
    (hk : CueState.keys cue = s.cue.keys) (hs : CueState.subs cue = s.cue.subs) (hd : PwrState.dom pwr = s.pwr.dom)
    (hc : CbdState.ch cbd = s.cbd.ch) (hi : ClkState.islands clk = s.clk.islands) : State.ok k
    (State.mk now mono freeCtr s.regs s.mem cue fab clk pwr cbd mram jnl iron saf veh fly cnv nrg box tir slac sl rdr tag crd ser dsp wng sent s.pending) :=
  State.ok_of h h.1 h.2.1 hk (congrArg _ hs) (congrArg _ hd) (congrArg _ hc) (congrArg _ hi) rfl

/-- Either branch sound, so the choice is sound. -/
theorem ok_ite {k : Nat × List Instr} {c : Prop} {d : Decidable c} {a b : State} (ha : a.ok k) (hb : b.ok k) :
    State.ok k (@ite State c d a b) := by
  by_cases hc : c
  · rw [if_pos hc]; exact ha
  · rw [if_neg hc]; exact hb

/-- The same for a pair with a state. -/
theorem ok_ite2 {k : Nat × List Instr} {α : Type} {c : Prop} {d : Decidable c} {a b : α × State} (ha : State.ok k a.2)
    (hb : State.ok k b.2) : State.ok k (@ite (α × State) c d a b).2 := by
  by_cases hc : c
  · rw [if_pos hc]; exact ha
  · rw [if_neg hc]; exact hb

/-- The same for a triple with a state. -/
theorem ok_ite3 {k : Nat × List Instr} {α β : Type} {c : Prop} {d : Decidable c} {a b : α × β × State} (ha : State.ok k a.2.2)
    (hb : State.ok k b.2.2) : State.ok k (@ite (α × β × State) c d a b).2.2 := by
  by_cases hc : c
  · rw [if_pos hc]; exact ha
  · rw [if_neg hc]; exact hb

/-- The state of a pair written out. -/
theorem ok_snd {k : Nat × List Instr} {α : Type} {a : α} {t : State} (h : t.ok k) : State.ok k (a, t).2 := h

/-- The state of a triple written out. -/
theorem ok_thd {k : Nat × List Instr} {α β : Type} {a : α} {b : β} {t : State} (h : t.ok k) : State.ok k (a, b, t).2.2 := h

/-- A sound state answered, or none. -/
theorem okO_some {k : Nat × List Instr} {a : State} (h : a.ok k) : ∀ t, some a = some t → State.ok k t := by
  intro t e; cases e; exact h

theorem okO_none {k : Nat × List Instr} : ∀ t, (none : Option State) = some t → State.ok k t := by
  intro t e; cases e

theorem okO_ite {k : Nat × List Instr} {c : Prop} {d : Decidable c} {a b : Option State} (ha : ∀ t, a = some t → State.ok k t)
    (hb : ∀ t, b = some t → State.ok k t) : ∀ t, @ite (Option State) c d a b = some t → State.ok k t := by
  by_cases hc : c
  · rw [if_pos hc]; exact ha
  · rw [if_neg hc]; exact hb

/-- A code with a sound state answered, or none. -/
theorem okP_some {k : Nat × List Instr} {α : Type} {a : α × State} (h : State.ok k a.2) : ∀ t, some a = some t → State.ok k t.2 := by
  intro t e; cases e; exact h

theorem okP_none {k : Nat × List Instr} {α : Type} : ∀ t, (none : Option (α × State)) = some t → State.ok k t.2 := by
  intro t e; cases e

theorem okP_ite {k : Nat × List Instr} {α : Type} {c : Prop} {d : Decidable c} {a b : Option (α × State)}
    (ha : ∀ t, a = some t → State.ok k t.2) (hb : ∀ t, b = some t → State.ok k t.2) :
    ∀ t, @ite (Option (α × State)) c d a b = some t → State.ok k t.2 := by
  by_cases hc : c
  · rw [if_pos hc]; exact ha
  · rw [if_neg hc]; exact hb

theorem okP_findSome {k : Nat × List Instr} {α β : Type} {l : List β} {f : β → Option (α × State)}
    (h : ∀ x t, f x = some t → State.ok k t.2) : ∀ t, l.findSome? f = some t → State.ok k t.2 := by
  intro t e
  obtain ⟨x, -, hx⟩ := List.exists_of_findSome?_eq_some e
  exact h x t hx

/-- Each step sound, so the whole walk is sound. -/
theorem ok_foldl {k : Nat × List Instr} {α : Type} {f : State → α → State} {l : List α} {s : State}
    (hf : ∀ s x, State.ok k s → State.ok k (f s x)) (h : s.ok k) : State.ok k (l.foldl f s) := by
  induction l generalizing s with
  | nil => exact h
  | cons x t ih => exact ih (hf s x h)

/-- The state of a pair that is known. -/
theorem ok_pair {k : Nat × List Instr} {α : Type} {p : α × State} {a : α} {t : State} (e : p = (a, t)) (h : State.ok k p.2) :
    State.ok k t := by
  rw [e] at h; exact h

/-- The state of a triple that is known. -/
theorem ok_triple {k : Nat × List Instr} {α β : Type} {p : α × β × State} {a : α} {b : β} {t : State} (e : p = (a, b, t))
    (h : State.ok k p.2.2) : State.ok k t := by
  rw [e] at h; exact h

/-- An outcome that answers a sound state where it answers one. -/
abbrev Sound (k : Nat × List Instr) (o : Host.Outcome State Fault Refusal) : Prop := ∀ t, o = .next t → State.ok k t

/-- A sound next state is a sound outcome. -/
theorem sound_next {k : Nat × List Instr} {s : State} (h : s.ok k) : Sound k (.next s) := by
  intro t ht; cases ht; exact h

theorem State.setReg_ok {k s p v} (h : State.ok k s) : State.ok k (s.setReg p v) :=
  State.ok_of h h.1 (Regs.put_wf h.2.1 (Nat.mod_lt _ (by positivity))) rfl rfl rfl rfl rfl rfl

theorem State.clearReg_ok {k s p} (h : State.ok k s) : State.ok k (s.clearReg p) :=
  State.ok_of h h.1 (Regs.filter_wf h.2.1) rfl rfl rfl rfl rfl rfl

theorem State.setBytes_ok {k s x l} (h : State.ok k s) : State.ok k (s.setBytes x l) :=
  State.ok_of h (Memory.writeBytes_wf h.1) h.2.1 rfl rfl rfl rfl rfl rfl

theorem State.filterRegs_ok {k f} {s : State} (h : s.ok k) : State.ok k { s with regs := s.regs.filter f } :=
  State.ok_of h h.1 (Regs.filter_wf h.2.1) rfl rfl rfl rfl rfl rfl

theorem State.clearMem_ok {k lo hi} {s : State} (h : s.ok k) : State.ok k { s with mem := Memory.clear s.mem lo hi } :=
  State.ok_of h (Memory.clear_wf h.1) h.2.1 rfl rfl rfl rfl rfl rfl

theorem State.copyMem_ok {k a b n} {s : State} (h : s.ok k) : State.ok k { s with mem := Memory.copyRange s.mem a b n } :=
  State.ok_of h (Memory.copyRange_wf h.1) h.2.1 rfl rfl rfl rfl rfl rfl

theorem State.setDom_ok {k s d x} (h : State.ok k s) : State.ok k (s.setDom d x) :=
  State.ok_of h h.1 h.2.1 rfl rfl List.length_set rfl rfl rfl

theorem State.setIsl_ok {k s n c} (h : State.ok k s) : State.ok k (s.setIsl n c) :=
  State.ok_of h h.1 h.2.1 rfl rfl rfl rfl List.length_set rfl

theorem State.setChan_ok {k s n c} (h : State.ok k s) : State.ok k (s.setChan n c) :=
  State.ok_of h h.1 h.2.1 rfl rfl rfl List.length_set rfl rfl

theorem State.setSub_ok {k s n x} (h : State.ok k s) : State.ok k (s.setSub n x) :=
  State.setReg_ok (State.ok_of h h.1 h.2.1 rfl List.length_set rfl rfl rfl rfl)

end Sys2Proof.Machine
end

