-- ==== Sys2Proof/Laws/SoundOps.lean ====
section
/-!
SUPPORT. The operations of Machine/Ops.lean keep `State.ok`, one lemma for each.
-/

namespace Sys2Proof.Machine

open Sys2Proof

theorem State.setRegs_ok {k a0 a1} (h0 : State.ok k a0) : State.ok k (State.setRegs a0 a1) := by
  unfold State.setRegs; exact ok_foldl (fun _ _ h1 => State.setReg_ok h1) h0

theorem State.setRegI_ok {k a0 a1 a2} (h0 : State.ok k a0) : State.ok k (State.setRegI a0 a1 a2) := by
  unfold State.setRegI; exact State.setReg_ok h0

theorem State.count_ok {k a0 a1 a2} (h0 : State.ok k a0) : State.ok k (State.count a0 a1 a2) := by
  unfold State.count; exact State.setReg_ok h0

theorem State.setWord_ok {k a0 a1 a2} (h0 : State.ok k a0) : State.ok k (State.setWord a0 a1 a2) := by
  unfold State.setWord; exact State.setBytes_ok h0

theorem State.draw_ok {k a0} (h0 : State.ok k a0) : State.ok k (State.draw a0).2 := by
  unfold State.draw; exact ok_snd (ok_put h0)

theorem State.drawBits_ok {k a0 a1} (h0 : State.ok k a0) : State.ok k (State.drawBits a0 a1).2 := by
  unfold State.drawBits; exact ok_snd (State.draw_ok h0)

theorem State.emit_ok {k a0 a1} (h0 : State.ok k a0) : State.ok k (State.emit a0 a1) := by
  unfold State.emit; exact ok_put h0

theorem State.offerEvent_ok {k a0 a1 a2} (h0 : State.ok k a0) : State.ok k (State.offerEvent a0 a1 a2) := by
  unfold State.offerEvent
  extract_lets x1
  exact ok_ite (State.emit_ok (ok_put h0)) (State.count_ok h0)

theorem fabFault_ok {k a0 a1 a2 a3 a4} (h4 : State.ok k a4) : State.ok k (fabFault a0 a1 a2 a3 a4) := by
  unfold fabFault
  extract_lets x1
  have hx1 : State.ok k x1 := State.setReg_ok h4; clear_value x1
  exact ok_ite (State.count_ok hx1) (State.count_ok hx1)

theorem busAnswer_ok {k a0 a1 a2 a3 a4 a5} (h5 : State.ok k a5) : State.ok k (busAnswer a0 a1 a2 a3 a4 a5) := by
  unfold busAnswer; exact State.emit_ok (ok_ite h5 (fabFault_ok h5))

theorem State.setSrc_ok {k a0 a1 a2} (h0 : State.ok k a0) : State.ok k (State.setSrc a0 a1 a2) := by
  unfold State.setSrc
  extract_lets x1
  exact ok_upd h0 rfl rfl rfl rfl rfl

end Sys2Proof.Machine
end

