-- ==== Sys2Proof/Laws/SoundJournal.lean ====
section
/-!
SUPPORT. The operations of Machine/Journal.lean keep `State.ok`, one lemma for each.
-/

namespace Sys2Proof.Machine

open Sys2Proof

theorem State.setWords_ok {k a0 a1 a2} (h0 : State.ok k a0) : State.ok k (State.setWords a0 a1 a2) := by
  induction a2 generalizing a0 a1 with
  | nil => exact h0
  | cons w t ih => exact ih (State.setWord_ok h0)

theorem writeRec_ok {k a0 a1 a2 a3} (h0 : State.ok k a0) : State.ok k (writeRec a0 a1 a2 a3) := by
  unfold writeRec; exact State.setWords_ok h0

theorem noteRec_ok {k a0 a1 a2} (h2 : State.ok k a2) : State.ok k (noteRec a0 a1 a2) := by
  unfold noteRec
  extract_lets x1
  exact ok_put h2

theorem appendRec_ok {k a0 a1} (h1 : State.ok k a1) : State.ok k (appendRec a0 a1) := by
  unfold appendRec
  extract_lets x1
  exact State.setReg_ok (State.setReg_ok (noteRec_ok (writeRec_ok h1)))

theorem beginSlot_ok {k a0 a1 a2} (h2 : State.ok k a2) : State.ok k (beginSlot a0 a1 a2) := by
  unfold beginSlot
  extract_lets x1 x2 x3
  have hx2 : State.ok k x2 := State.setReg_ok (State.setWords_ok h2); clear_value x2
  exact ok_put hx2

theorem finishSlot_ok {k a0} (h0 : State.ok k a0) : State.ok k (finishSlot a0) := by
  unfold finishSlot
  split
  · exact h0
  · extract_lets x1 x2 x3
    have hx1 : State.ok k x1 := State.setWord_ok h0; clear_value x1
    have hx2 : State.ok k x2 := State.setReg_ok (noteRec_ok hx1); clear_value x2
    exact State.emit_ok (ok_put hx2)

theorem startCompaction_ok {k a0} (h0 : State.ok k a0) : State.ok k (startCompaction a0) := by
  unfold startCompaction
  extract_lets x1 x2 x3 x4
  split
  · exact h0
  · exact ok_put h0

theorem compactRec_ok {k a0 a1 a2 a3 a4} (h4 : State.ok k a4) : State.ok k (compactRec a0 a1 a2 a3 a4).2 := by
  unfold compactRec
  extract_lets x1
  exact ok_snd (State.setReg_ok (writeRec_ok h4))

theorem compactSome_ok {k a0 a1 a2 a3 a4} (h4 : State.ok k a4) : State.ok k (compactSome a0 a1 a2 a3 a4).2.2 := by
  induction a0 generalizing a1 a2 a3 a4 with
  | zero => exact h4
  | succ n ih =>
    cases a3 with
    | nil => exact h4
    | cons x t => exact ok_ite3 (ok_thd h4) (ih (compactRec_ok h4))

theorem switchHalf_ok {k a0 a1} (h1 : State.ok k a1) : State.ok k (switchHalf a0 a1) := by
  unfold switchHalf
  extract_lets x1 x2
  have hx1 : State.ok k x1 := State.count_ok (State.setReg_ok (State.setReg_ok h1)); clear_value x1
  exact ok_put hx1

theorem releaseHeld_ok {k a0 a1} (h1 : State.ok k a1) : State.ok k (releaseHeld a0 a1) := by
  induction a0 generalizing a1 with
  | zero => exact h1
  | succ n ih =>
    unfold releaseHeld
    split
    · exact h1
    · exact ih (State.emit_ok (appendRec_ok (ok_put h1)))

theorem compactionSector_ok {k a0} (h0 : State.ok k a0) : State.ok k (compactionSector a0) := by
  unfold compactionSector
  split
  · exact h0
  · extract_lets x1 x2 x3 x4 x5 x6 x7 x8 x9 x10 x11 x12 x13 x14 x15 x16
    have hx4 : State.ok k x4.2.2 := compactSome_ok h0; clear_value x4
    have hx5 : State.ok k x5.2 := compactRec_ok hx4; clear_value x5
    have hx6 : State.ok k x6 := switchHalf_ok hx5; clear_value x6
    have hx10 : State.ok k x10 := hx4; clear_value x10
    have hx12 : State.ok k x12.2.2 := compactSome_ok h0; clear_value x12
    have hx15 : State.ok k x15 := hx12; clear_value x15
    exact ok_ite (ok_ite (releaseHeld_ok hx6) (ok_put hx10)) (ok_put hx15)

theorem compactAll_ok {k a0 a1} (h1 : State.ok k a1) : State.ok k (compactAll a0 a1) := by
  induction a0 generalizing a1 with
  | zero => exact h1
  | succ n ih => exact ok_ite h1 (ih (compactionSector_ok h1))

theorem compactNow_ok {k a0} (h0 : State.ok k a0) : State.ok k (compactNow a0) := by
  unfold compactNow; exact compactAll_ok (startCompaction_ok h0)

theorem compactIfFull_ok {k a0} (h0 : State.ok k a0) : State.ok k (compactIfFull a0) := by
  unfold compactIfFull; exact ok_ite (startCompaction_ok h0) h0

theorem restoreOwn_ok {k a0} (h0 : State.ok k a0) : State.ok k (restoreOwn a0) := by
  unfold restoreOwn; exact State.setRegs_ok h0

theorem adoptHalf_ok {k a0 a1 a2 a3 a4 a5} (h5 : State.ok k a5) : State.ok k (adoptHalf a0 a1 a2 a3 a4 a5) := by
  unfold adoptHalf
  extract_lets x1 x2
  have hx2 : State.ok k x2 := ok_put h5; clear_value x2
  exact State.setRegs_ok (restoreOwn_ok hx2)

theorem recover_ok {k a0 a1 a2} (h2 : State.ok k a2) : State.ok k (recover a0 a1 a2) := by
  unfold recover
  extract_lets x1 x2 x3 x4 x5 x6 x7 x8 x9 x10 x11 x12 x13
  have hx6 : State.ok k x6 := writeRec_ok (writeRec_ok h2); clear_value x6
  have hx13 : State.ok k x13 := adoptHalf_ok h2; clear_value x13
  exact ok_ite (adoptHalf_ok hx6) (ok_ite (startCompaction_ok hx13) hx13)

theorem ensureReady_ok {k a0} (h0 : State.ok k a0) : State.ok k (ensureReady a0) := by
  unfold ensureReady
  extract_lets x1
  have hx1 : State.ok k x1.2 := State.drawBits_ok h0; clear_value x1
  exact ok_ite h0 (recover_ok hx1)

theorem payOwed_ok {k a0} (h0 : State.ok k a0) : State.ok k (payOwed a0) := by
  unfold payOwed
  extract_lets x1 x2
  exact ok_ite h0 (appendRec_ok (ok_put h0))

theorem bookRest_ok {k a0} (h0 : State.ok k a0) : State.ok k (bookRest a0) := by
  unfold bookRest
  extract_lets x1
  have hx1 : State.ok k x1 := finishSlot_ok h0; clear_value x1
  exact ok_ite hx1 (compactNow_ok hx1)

theorem commitOn_ok {k a0 a1} (h1 : State.ok k a1) : State.ok k (commitOn a0 a1).2 := by
  unfold commitOn
  extract_lets x1
  have hx1 : State.ok k x1 := bookRest_ok h1; clear_value x1
  split
  · exact ok_snd (State.count_ok hx1)
  · exact ok_snd (compactIfFull_ok (payOwed_ok (appendRec_ok hx1)))
  · exact ok_snd (payOwed_ok (appendRec_ok (compactNow_ok hx1)))

theorem ownEntryOn_ok {k a0} (h0 : State.ok k a0) : State.ok k (ownEntryOn a0) := by
  unfold ownEntryOn
  extract_lets x1
  exact ok_ite h0 (commitOn_ok h0)

theorem keeperUp_ok {k a0} (h0 : State.ok k a0) : State.ok k (keeperUp a0) := by
  unfold keeperUp
  extract_lets x1 x2
  have hx2 : State.ok k x2 := ok_ite h0 (ok_put h0); clear_value x2
  exact ensureReady_ok (State.setDom_ok (State.setDom_ok (State.setDom_ok hx2)))

theorem keeperDown_ok {k a0 a1} (h0 : State.ok k a0) (h1 : State.ok k a1) : State.ok k (keeperDown a0 a1) := by
  unfold keeperDown
  extract_lets x1 x2 x3
  have hx1 : State.ok k x1 := ok_ite h1 (ownEntryOn_ok (compactAll_ok h1)); clear_value x1
  have hx3 : State.ok k x3 := ok_ite hx1 (ok_put hx1); clear_value x3
  exact State.setDom_ok (State.setDom_ok (State.setDom_ok hx3))

theorem commit_ok {k a0 a1} (h1 : State.ok k a1) : State.ok k (commit a0 a1).2 := by
  unfold commit
  extract_lets x1
  have hx1 : State.ok k x1.2 := commitOn_ok (keeperUp_ok h1); clear_value x1
  exact ok_ite2 (commitOn_ok (ensureReady_ok h1)) (ok_snd (keeperDown_ok h1 hx1))

theorem record_ok {k a0 a1 a2} (h2 : State.ok k a2) : State.ok k (record a0 a1 a2) := by
  unfold record; exact commit_ok h2

theorem selfCommit_ok {k a0 a1 a2} (h2 : State.ok k a2) : State.ok k (selfCommit a0 a1 a2) := by
  unfold selfCommit
  extract_lets x1 x2 x3 x4
  have hx1 : State.ok k x1.2 := commit_ok h2; clear_value x1
  have hx3 : State.ok k x3 := hx1; clear_value x3
  exact ok_put hx3

theorem setJournalled_ok {k a0 a1 a2} (h2 : State.ok k a2) : State.ok k (setJournalled a0 a1 a2) := by
  unfold setJournalled; exact selfCommit_ok (State.setReg_ok h2)

theorem countJournalled_ok {k a0 a1} (h1 : State.ok k a1) : State.ok k (countJournalled a0 a1) := by
  unfold countJournalled; exact selfCommit_ok (State.count_ok h1)

theorem ownObjectEntry_ok {k a0} (h0 : State.ok k a0) : State.ok k (ownObjectEntry a0) := by
  unfold ownObjectEntry; exact ok_ite (ownEntryOn_ok (bookRest_ok h0)) h0

end Sys2Proof.Machine
end

