-- ==== Sys2Proof/Laws/SoundCallboard.lean ====
section
/-!
SUPPORT. The operations of Machine/Callboard.lean keep `State.ok`, one lemma for each.
-/

namespace Sys2Proof.Machine

open Sys2Proof

theorem storeNotice_ok {k a0 a1 a2 a3} (h3 : State.ok k a3) : State.ok k (storeNotice a0 a1 a2 a3) := by
  unfold storeNotice
  extract_lets x1 x2 x0 x3 x4
  have hx2 : State.ok k x2 := State.setReg_ok (State.setChan_ok h3); clear_value x2
  have hx3 : State.ok k x3 := ok_upd hx2 rfl rfl rfl rfl rfl; clear_value x3
  have hx4 : State.ok k x4 := ok_ite (State.count_ok hx3) hx3; clear_value x4
  exact State.offerEvent_ok hx4

theorem postNotice_ok {k a0 a1 a2 a3 a4 a5} (h5 : State.ok k a5) : State.ok k (postNotice a0 a1 a2 a3 a4 a5).2 := by
  unfold postNotice
  extract_lets x1
  exact ok_ite2 (ok_snd h5) (ok_ite2 (ok_snd h5) (ok_ite2 (ok_snd h5) (ok_ite2 (ok_snd h5) (ok_ite2 (ok_snd (State.count_ok h5)) (ok_snd (storeNotice_ok h5))))))

theorem post_ok {k a0 a1 a2 a3 a4 a5 a6} (h6 : State.ok k a6) : State.ok k (post a0 a1 a2 a3 a4 a5 a6) := by
  unfold post; exact postNotice_ok h6

theorem offerRetracts_ok {k a0 a1} (h1 : State.ok k a1) : State.ok k (offerRetracts a0 a1) := by
  unfold offerRetracts
  split
  · exact h1
  · extract_lets x1
    have hx1 : State.ok k x1.2 := postNotice_ok h1; clear_value x1
    exact ok_ite hx1 (ok_upd hx1 rfl rfl rfl rfl rfl)

theorem retract_ok {k a0 a1 a2 a3} (h3 : State.ok k a3) : State.ok k (retract a0 a1 a2 a3) := by
  unfold retract; exact offerRetracts_ok (ok_upd h3 rfl rfl rfl rfl rfl)

theorem cancelWaiting_ok {k a0 a1 a2 a3 a4} (h4 : State.ok k a4) : State.ok k (cancelWaiting a0 a1 a2 a3 a4) := by
  unfold cancelWaiting
  extract_lets x1 x2
  have hx2 : State.ok k x2 := ok_upd h4 rfl rfl rfl rfl rfl; clear_value x2
  exact ok_ite (ok_ite (retract_ok hx2) hx2) h4

theorem recordResult_ok {k a0 a1 a2 a3} (h3 : State.ok k a3) : State.ok k (recordResult a0 a1 a2 a3) := by
  unfold recordResult
  extract_lets x1 x2 x0 x3 x4
  have hx2 : State.ok k x2 := State.setReg_ok (State.setChan_ok h3); clear_value x2
  have hx3 : State.ok k x3 := ok_upd hx2 rfl rfl rfl rfl rfl; clear_value x3
  have hx4 : State.ok k x4 := cancelWaiting_ok (State.offerEvent_ok hx3); clear_value x4
  exact ok_ite hx4 (offerRetracts_ok hx4)

theorem readNotice_ok {k a0 a1 a2} (h2 : State.ok k a2) : State.ok k (readNotice a0 a1 a2).2.2 := by
  unfold readNotice
  extract_lets x1
  exact ok_ite3 (ok_thd h2) (ok_ite3 (ok_thd h2) (ok_ite3 (ok_thd h2) (ok_ite3 (ok_thd h2) (ok_thd (State.setChan_ok h2)))))

theorem deliverNotice_ok {k a0 a1 a2} (h2 : State.ok k a2) : State.ok k (deliverNotice a0 a1 a2) := by
  unfold deliverNotice
  extract_lets x1
  exact ok_ite h2 (ok_ite (State.setChan_ok h2) (ok_ite (State.setChan_ok h2) (recordResult_ok h2)))

theorem ackNotice_ok {k a0 a1 a2 a3} (h3 : State.ok k a3) : State.ok k (ackNotice a0 a1 a2 a3).2 := by
  unfold ackNotice
  extract_lets x1
  exact ok_ite2 (ok_snd h3) (ok_ite2 (ok_snd h3) (ok_ite2 (ok_snd h3) (ok_snd (recordResult_ok h3))))

theorem withdrawNotice_ok {k a0 a1 a2 a3} (h3 : State.ok k a3) : State.ok k (withdrawNotice a0 a1 a2 a3).2 := by
  unfold withdrawNotice
  extract_lets x1
  exact ok_ite2 (ok_snd h3) (ok_ite2 (ok_snd h3) (ok_ite2 (ok_snd (recordResult_ok h3)) (ok_snd h3)))

theorem readStatus_ok {k a0 a1 a2} (h2 : State.ok k a2) : State.ok k (readStatus a0 a1 a2).2.2 := by
  unfold readStatus
  extract_lets x1
  exact ok_ite3 (ok_thd h2) (ok_ite3 (ok_thd (State.setReg_ok h2)) (ok_thd h2))

theorem writeConfig_ok {k a0 a1 a2 a3} (h3 : State.ok k a3) : State.ok k (writeConfig a0 a1 a2 a3).2 := by
  unfold writeConfig
  extract_lets x1
  exact ok_ite2 (ok_snd h3) (ok_ite2 (ok_snd h3) (ok_snd (State.setChan_ok h3)))

theorem loseNotice_ok {k a0 a1 a2} (h2 : State.ok k a2) : State.ok k (loseNotice a0 a1 a2) := by
  unfold loseNotice; exact ok_ite (State.count_ok (recordResult_ok h2)) h2

theorem receiverReset_ok {k a0 a1} (h1 : State.ok k a1) : State.ok k (receiverReset a0 a1) := by
  unfold receiverReset; exact ok_foldl (fun _ _ h1 => loseNotice_ok h1) h1

theorem callboardReset_ok {k a0} (h0 : State.ok k a0) : State.ok k (callboardReset a0) := by
  unfold callboardReset
  extract_lets x1
  have hx1 : State.ok k x1 := State.ok_of h0 h0.1 h0.2.1 rfl rfl rfl (Eq.trans (by rfl) h0.2.2.2.2.2.2.1.symm) rfl rfl
  clear_value x1
  exact State.clearReg_ok (State.clearReg_ok (State.clearReg_ok (State.clearReg_ok hx1)))

theorem repost_ok {k a0 a1} (h1 : State.ok k a1) : State.ok k (repost a0 a1) := by
  unfold repost; exact ok_ite (postNotice_ok h1) h1

theorem callboardReturns_ok {k a0} (h0 : State.ok k a0) : State.ok k (callboardReturns a0) := by
  unfold callboardReturns
  exact ok_ite (ok_foldl (fun _ _ h => offerRetracts_ok h) (ok_foldl (fun _ _ h => repost_ok h) (ok_upd h0 rfl rfl rfl rfl rfl))) h0

theorem senderGone_ok {k a0 a1} (h1 : State.ok k a1) : State.ok k (senderGone a0 a1) := by
  unfold senderGone; exact ok_upd h1 rfl rfl rfl rfl rfl

theorem cancelOn_ok {k a0 a1 a2 a3} (h3 : State.ok k a3) : State.ok k (cancelOn a0 a1 a2 a3) := by
  unfold cancelOn
  extract_lets x1
  split
  · exact h3
  · exact ok_ite (ok_upd h3 rfl rfl rfl rfl rfl) (withdrawNotice_ok h3)
  · exact ok_ite (retract_ok h3) h3

theorem cancelNotice_ok {k a0 a1 a2 a3} (h3 : State.ok k a3) : State.ok k (cancelNotice a0 a1 a2 a3) := by
  unfold cancelNotice; exact ok_foldl (fun _ _ h1 => cancelOn_ok h1) h3

theorem ironLatch_ok {k a0 a1 a2} (h2 : State.ok k a2) : State.ok k (ironLatch a0 a1 a2) := by
  unfold ironLatch
  extract_lets x1 x2
  exact ok_put h2

theorem ironPosted_ok {k a0 a1 a2} (h2 : State.ok k a2) : State.ok k (ironPosted a0 a1 a2) := by
  unfold ironPosted
  extract_lets x1 x2 x3
  exact ok_put h2

theorem setIronWait_ok {k a0 a1 a2} (h2 : State.ok k a2) : State.ok k (setIronWait a0 a1 a2) := by
  unfold setIronWait
  extract_lets x1
  exact ok_put h2

theorem ironPost_ok {k a0 a1} (h1 : State.ok k a1) : State.ok k (ironPost a0 a1) := by
  unfold ironPost
  refine ok_ite ?_ ?_
  · exact h1
  · split
    · exact h1
    · extract_lets x1
      have hx1 : State.ok k x1.2 := postNotice_ok h1; clear_value x1
      exact ok_ite (setIronWait_ok (ironPosted_ok hx1)) (ok_ite (setIronWait_ok hx1) hx1)

theorem relay_ok {k a0 a1 a2 a3 a4} (h4 : State.ok k a4) : State.ok k (relay a0 a1 a2 a3 a4) := by
  unfold relay
  extract_lets x1 x2 x3 x4 x5
  have hx1 : State.ok k x1.2 := State.drawBits_ok h4; clear_value x1
  have hx2 : State.ok k x2.2 := postNotice_ok hx1; clear_value x2
  have hx4 : State.ok k x4.2.2 := readNotice_ok hx2; clear_value x4
  have hx5 : State.ok k x5 := deliverNotice_ok hx4; clear_value x5
  exact ok_ite (ok_ite (ackNotice_ok hx5) hx5) hx2

theorem execNoticePost_ok {k a0 a1 a2 a3 a4 a5} (h5 : State.ok k a5) : Sound k (execNoticePost a0 a1 a2 a3 a4 a5) := by
  unfold execNoticePost
  extract_lets x1
  have hx1 : State.ok k x1.2 := postNotice_ok h5; clear_value x1
  exact sound_next (busAnswer_ok hx1)

theorem execNoticeTake_ok {k a0 a1 a2 a3} (h3 : State.ok k a3) : Sound k (execNoticeTake a0 a1 a2 a3) := by
  unfold execNoticeTake
  extract_lets x1
  have hx1 : State.ok k x1.2.2 := readNotice_ok h3; clear_value x1
  exact sound_next (busAnswer_ok (ok_ite (deliverNotice_ok hx1) hx1))

theorem execNoticeAck_ok {k a0 a1 a2 a3} (h3 : State.ok k a3) : Sound k (execNoticeAck a0 a1 a2 a3) := by
  unfold execNoticeAck
  extract_lets x1
  have hx1 : State.ok k x1.2 := ackNotice_ok h3; clear_value x1
  exact sound_next (busAnswer_ok hx1)

theorem execNoticeWithdraw_ok {k a0 a1 a2 a3} (h3 : State.ok k a3) : Sound k (execNoticeWithdraw a0 a1 a2 a3) := by
  unfold execNoticeWithdraw
  extract_lets x1
  have hx1 : State.ok k x1.2 := withdrawNotice_ok h3; clear_value x1
  exact sound_next (busAnswer_ok hx1)

theorem execCallboardStatusRead_ok {k a0 a1 a2} (h2 : State.ok k a2) : Sound k (execCallboardStatusRead a0 a1 a2) := by
  unfold execCallboardStatusRead
  extract_lets x1
  have hx1 : State.ok k x1.2.2 := readStatus_ok h2; clear_value x1
  exact sound_next (busAnswer_ok hx1)

theorem execCallboardConfigWrite_ok {k a0 a1 a2 a3} (h3 : State.ok k a3) : Sound k (execCallboardConfigWrite a0 a1 a2 a3) := by
  unfold execCallboardConfigWrite
  extract_lets x1
  have hx1 : State.ok k x1.2 := writeConfig_ok h3; clear_value x1
  exact sound_next (busAnswer_ok hx1)

theorem execReceiverReset_ok {k a0 a1} (h1 : State.ok k a1) : Sound k (execReceiverReset a0 a1) := by
  unfold execReceiverReset; exact sound_next (receiverReset_ok h1)

theorem execCallboardReset_ok {k a0} (h0 : State.ok k a0) : Sound k (execCallboardReset a0) := by
  unfold execCallboardReset; exact sound_next (callboardReset_ok h0)

theorem execProvisionalCancel_ok {k a0 a1 a2 a3} (h3 : State.ok k a3) : Sound k (execProvisionalCancel a0 a1 a2 a3) := by
  unfold execProvisionalCancel; exact sound_next (cancelNotice_ok h3)

theorem execIronEventLatch_ok {k a0 a1 a2} (h2 : State.ok k a2) : Sound k (execIronEventLatch a0 a1 a2) := by
  unfold execIronEventLatch; exact sound_next (ok_ite (ironLatch_ok h2) h2)

theorem execIronEventMainPost_ok {k a0 a1} (h1 : State.ok k a1) : Sound k (execIronEventMainPost a0 a1) := by
  unfold execIronEventMainPost; exact sound_next (ironPost_ok h1)

theorem execIronEventRepost_ok {k a0 a1} (h1 : State.ok k a1) : Sound k (execIronEventRepost a0 a1) := by
  unfold execIronEventRepost; exact sound_next (ok_ite (ironPost_ok h1) h1)

end Sys2Proof.Machine
end

