-- ==== Sys2Proof/Laws/SoundNotify.lean ====
section
/-!
SUPPORT. The operations of Machine/Notify.lean keep `State.ok`, one lemma for each.
-/

namespace Sys2Proof.Machine

open Sys2Proof

theorem doorSend_ok {k a0 a1 a2 a3 a4 a5} (h5 : State.ok k a5) : State.ok k (doorSend a0 a1 a2 a3 a4 a5) := by
  unfold doorSend
  extract_lets x1 x2 x3 x4 x5
  exact State.emit_ok (ok_put h5)

theorem tirSend_ok {k a0 a1} (h1 : State.ok k a1) : State.ok k (tirSend a0 a1) := by
  unfold tirSend
  extract_lets x1
  exact ok_ite (ok_put h1) h1

theorem putCue_ok {k a0 a1 a2 a3 a4} (h4 : State.ok k a4) : State.ok k (putCue a0 a1 a2 a3 a4) := by
  unfold putCue
  split
  · exact State.emit_ok (doorSend_ok h4)
  · exact State.emit_ok (tirSend_ok (relay_ok h4))
  · split
    · exact State.emit_ok h4
    · exact h4

theorem sendCue_ok {k a0 a1 a2 a3 a4} (h4 : State.ok k a4) : State.ok k (sendCue a0 a1 a2 a3 a4) := by
  unfold sendCue; exact ok_ite (putCue_ok h4) h4

theorem notifyMain_ok {k a0 a1} (h1 : State.ok k a1) : State.ok k (notifyMain a0 a1) := by
  unfold notifyMain
  split
  · exact h1
  · exact sendCue_ok h1

theorem sendNoteOf_ok {k a0 a1 a2 a3 a4} (h4 : State.ok k a4) : State.ok k (sendNoteOf a0 a1 a2 a3 a4) := by
  unfold sendNoteOf
  extract_lets x1 x2
  have hx2 : State.ok k x2 := sendCue_ok h4; clear_value x2
  exact State.setSub_ok hx2

theorem noteGone_ok {k a0 a1} (h1 : State.ok k a1) : State.ok k (noteGone a0 a1) := by
  unfold noteGone
  split
  · exact h1
  · exact ok_ite (sendNoteOf_ok h1) h1

theorem notesGone_ok {k a0} (h0 : State.ok k a0) : State.ok k (notesGone a0) := by
  unfold notesGone; exact ok_foldl (fun _ _ h1 => noteGone_ok h1) h0

theorem noteBack_ok {k a0 a1} (h1 : State.ok k a1) : State.ok k (noteBack a0 a1) := by
  unfold noteBack
  split
  · exact h1
  · exact ok_ite (State.setSub_ok h1) h1

theorem notesBack_ok {k a0} (h0 : State.ok k a0) : State.ok k (notesBack a0) := by
  unfold notesBack; exact ok_foldl (fun _ _ h1 => noteBack_ok h1) h0

theorem cueArrive_ok {k a0 a1 a2 a3 a4} (h4 : State.ok k a4) : State.ok k (cueArrive a0 a1 a2 a3 a4) := by
  unfold cueArrive
  extract_lets x1
  refine ok_ite ?_ ?_
  · exact h4
  · split
    · exact State.count_ok h4
    · extract_lets x2 x3
      exact ok_upd h4 rfl rfl rfl rfl rfl

end Sys2Proof.Machine
end

