-- ==== Sys2Proof/Laws/SoundMram.lean ====
section
/-!
SUPPORT. The operations of Machine/Mram.lean keep `State.ok`, one lemma for each.
-/

namespace Sys2Proof.Machine

open Sys2Proof

theorem noteWrong_ok {k a0 a1 a2} (h2 : State.ok k a2) : State.ok k (noteWrong a0 a1 a2) := by
  unfold noteWrong
  extract_lets x1 x2
  exact ok_put h2

theorem mramStore_ok {k a0 a1 a2} (h2 : State.ok k a2) : State.ok k (mramStore a0 a1 a2) := by
  unfold mramStore
  extract_lets x1 x2
  have hx1 : State.ok k x1 := State.setWord_ok (noteWrong_ok h2); clear_value x1
  exact ok_put hx1

theorem recordFault_ok {k a0 a1} (h1 : State.ok k a1) : State.ok k (recordFault a0 a1) := by
  unfold recordFault; exact record_ok (State.setReg_ok h1)

theorem updateSpares_ok {k a0 a1 a2} (h2 : State.ok k a2) : State.ok k (updateSpares a0 a1 a2) := by
  unfold updateSpares
  extract_lets x1
  exact State.setReg_ok h2

theorem writeRepairEntry_ok {k a0 a1} (h1 : State.ok k a1) : State.ok k (writeRepairEntry a0 a1) := by
  unfold writeRepairEntry
  extract_lets x1
  have hx1 : State.ok k x1.2 := State.drawBits_ok h1; clear_value x1
  exact State.setWord_ok hx1

theorem columnFault_ok {k a0 a1 a2 a3 a4} (h4 : State.ok k a4) : State.ok k (columnFault a0 a1 a2 a3 a4) := by
  unfold columnFault
  extract_lets x1 x2
  have hx2 : State.ok k x2 := ok_put h4; clear_value x2
  refine ok_ite ?_ ?_
  · exact h4
  · split
    · extract_lets x3 x4
      have hx4 : State.ok k x4 := ok_put h4; clear_value x4
      exact updateSpares_ok (writeRepairEntry_ok hx4)
    · exact recordFault_ok (State.count_ok hx2)

theorem cellFault_ok {k a0 a1 a2} (h2 : State.ok k a2) : State.ok k (cellFault a0 a1 a2) := by
  unfold cellFault; exact State.setReg_ok (State.count_ok h2)

theorem uncorrectable_ok {k a0 a1} (h1 : State.ok k a1) : State.ok k (uncorrectable a0 a1) := by
  unfold uncorrectable; exact recordFault_ok (State.count_ok h1)

theorem notePass_ok {k a0 a1 a2} (h2 : State.ok k a2) : State.ok k (notePass a0 a1 a2) := by
  unfold notePass
  extract_lets x1
  exact ok_put h2

theorem pairReads_ok {k a0 a1} (h1 : State.ok k a1) : State.ok k (pairReads a0 a1).2 := by
  unfold pairReads
  extract_lets x1
  have hx1 : State.ok k x1.2 := State.drawBits_ok h1; clear_value x1
  split
  · exact ok_snd h1
  · exact ok_snd hx1

theorem corrected_ok {k a0 a1 a2 a3} (h3 : State.ok k a3) : State.ok k (corrected a0 a1 a2 a3) := by
  unfold corrected
  extract_lets x1
  have hx1 : State.ok k x1.2 := pairReads_ok (notePass_ok h3); clear_value x1
  exact ok_ite h3 (ok_ite (ok_ite (columnFault_ok hx1) (cellFault_ok hx1)) (cellFault_ok (notePass_ok h3)))

theorem mramRead_ok {k a0 a1 a2 a3} (h3 : State.ok k a3) : State.ok k (mramRead a0 a1 a2 a3).2.2 := by
  unfold mramRead
  extract_lets x1 x2 x3
  have hx2 : State.ok k x2 := noteWrong_ok h3; clear_value x2
  have hx3 : State.ok k x3.2 := State.drawBits_ok hx2; clear_value x3
  split
  · exact ok_thd hx2
  · exact ok_thd (corrected_ok hx2)
  · exact ok_thd (uncorrectable_ok hx2)
  · exact ok_ite3 (ok_thd hx3) (ok_thd (uncorrectable_ok hx3))

theorem mramReadFabric_ok {k a0 a1 a2 a3} (h3 : State.ok k a3) : State.ok k (mramReadFabric a0 a1 a2 a3).2.2 := by
  unfold mramReadFabric
  extract_lets x1
  have hx1 : State.ok k x1.2.2 := mramRead_ok h3; clear_value x1
  exact ok_thd hx1

theorem mramMerge_ok {k a0 a1 a2 a3 a4} (h4 : State.ok k a4) : State.ok k (mramMerge a0 a1 a2 a3 a4).2 := by
  unfold mramMerge
  extract_lets x1
  have hx1 : State.ok k x1.2.2 := mramRead_ok h4; clear_value x1
  exact ok_snd (ok_ite (mramStore_ok hx1) hx1)

theorem noteFetch_ok {k a0 a1 a2} (h2 : State.ok k a2) : State.ok k (noteFetch a0 a1 a2) := by
  unfold noteFetch
  extract_lets x1 x2
  split
  · exact ok_put h2
  · exact ok_put h2

theorem clearFetch_ok {k a0 a1} (h1 : State.ok k a1) : State.ok k (clearFetch a0 a1) := by
  unfold clearFetch
  extract_lets x1
  exact ok_put h1

theorem noteStuck_ok {k a0 a1 a2} (h2 : State.ok k a2) : State.ok k (noteStuck a0 a1 a2) := by
  unfold noteStuck
  extract_lets x1 x2 x3 x4
  have hx4 : State.ok k x4 := ok_put h2; clear_value x4
  exact ok_ite (recordFault_ok (State.count_ok hx4)) hx4

theorem nextScrub_ok {k a0} (h0 : State.ok k a0) : State.ok k (nextScrub a0) := by
  unfold nextScrub
  extract_lets x1 x2 x3 x4 x5 x6
  have hx5 : State.ok k x5 := ok_put (State.count_ok (State.setReg_ok h0)); clear_value x5
  exact ok_ite (State.setReg_ok h0) (ok_ite (ok_put (State.setReg_ok h0)) (ok_ite (ok_put (State.setReg_ok h0)) (ok_put hx5)))

theorem spareFault_ok {k a0 a1 a2 a3} (h3 : State.ok k a3) : State.ok k (spareFault a0 a1 a2 a3) := by
  unfold spareFault
  extract_lets x1 x2
  have hx2 : State.ok k x2 := updateSpares_ok (ok_put h3); clear_value x2
  exact ok_ite h3 (recordFault_ok hx2)

theorem scrubRefs_ok {k a0 a1 a2} (h2 : State.ok k a2) : State.ok k (scrubRefs a0 a1 a2) := by
  unfold scrubRefs
  extract_lets x1 x2 x3 x4 x5
  have hx3 : State.ok k x3 := ok_foldl (fun _ _ h6 => ok_ite (columnFault_ok h6) h6) h2; clear_value x3
  have hx4 : State.ok k x4 := ok_foldl (fun _ _ h7 => ok_ite (spareFault_ok h7) h7) hx3; clear_value x4
  exact ok_put hx4

theorem scrubWord_ok {k a0 a1 a2} (h2 : State.ok k a2) : State.ok k (scrubWord a0 a1 a2) := by
  unfold scrubWord
  extract_lets x1 x2 x3
  have hx3 : State.ok k x3.2.2 := mramRead_ok h2; clear_value x3
  split
  · exact nextScrub_ok (ok_ite hx3 (noteStuck_ok (mramStore_ok hx3)))
  · exact nextScrub_ok hx3

theorem scrubVisit_ok {k a0 a1 a2 a3 a4} (h4 : State.ok k a4) : State.ok k (scrubVisit a0 a1 a2 a3 a4) := by
  unfold scrubVisit
  extract_lets x1 x2
  exact ok_ite h4 (ok_ite (nextScrub_ok (State.setReg_ok h4)) (ok_ite (scrubRefs_ok h4) (scrubWord_ok h4)))

theorem setRepair_ok {k a0 a1 a2} (h2 : State.ok k a2) : State.ok k (setRepair a0 a1 a2) := by
  unfold setRepair
  extract_lets x1
  exact ok_put h2

theorem repairStep_ok {k a0} (h0 : State.ok k a0) : State.ok k (repairStep a0) := by
  unfold repairStep
  split
  · exact h0
  · extract_lets x1 x2
    have hx2 : State.ok k x2.2.2 := mramRead_ok h0; clear_value x2
    exact ok_ite (mramStore_ok (setRepair_ok hx2)) (setRepair_ok hx2)

theorem repairDone_ok {k a0} (h0 : State.ok k a0) : State.ok k (repairDone a0) := by
  unfold repairDone
  split
  · exact h0
  · extract_lets x1 x2
    have hx2 : State.ok k x2 := setRepair_ok h0; clear_value x2
    exact recordFault_ok (State.count_ok (writeRepairEntry_ok hx2))

theorem mramStart_ok {k a0} (h0 : State.ok k a0) : State.ok k (mramStart a0) := by
  unfold mramStart
  extract_lets x1
  exact ok_put h0

theorem bankStatus_ok {k a0 a1 a2} (h2 : State.ok k a2) : State.ok k (bankStatus a0 a1 a2) := by
  unfold bankStatus; exact State.setReg_ok h2

theorem bankRequest_ok {k a0 a1 a2 a3 a4} (h4 : State.ok k a4) : State.ok k (bankRequest a0 a1 a2 a3 a4).2 := by
  unfold bankRequest
  extract_lets x1 x2
  exact ok_ite2 (ok_snd h4) (ok_ite2 (ok_snd h4) (ok_ite2 (ok_snd (bankStatus_ok h4)) (ok_ite2 (ok_snd (bankStatus_ok h4)) (ok_snd (bankStatus_ok (ok_put h4))))))

theorem wipeBank_ok {k a0 a1} (h1 : State.ok k a1) : State.ok k (wipeBank a0 a1) := by
  unfold wipeBank; exact ok_foldl (fun _ _ h1 => State.clearMem_ok h1) h1

theorem copyBank_ok {k a0 a1 a2} (h2 : State.ok k a2) : State.ok k (copyBank a0 a1 a2) := by
  unfold copyBank; exact ok_foldl (fun _ _ h1 => State.copyMem_ok h1) h2

theorem bankCut_ok {k a0 a1} (h1 : State.ok k a1) : State.ok k (bankCut a0 a1) := by
  unfold bankCut
  extract_lets x1
  split
  · exact h1
  · exact ok_ite (bankStatus_ok (ok_put h1)) h1

theorem bankComplete_ok {k a0 a1} (h1 : State.ok k a1) : State.ok k (bankComplete a0 a1) := by
  unfold bankComplete
  extract_lets x1 x2
  have hx2 : State.ok k x2 := ok_put h1; clear_value x2
  split
  · exact h1
  · extract_lets x3
    have hx3 : State.ok k x3 := ok_ite (copyBank_ok hx2) (ok_ite (wipeBank_ok hx2) hx2); clear_value x3
    exact bankStatus_ok hx3

theorem wordRead_ok {k a0 a1 a2 a3 a4 a5} (h5 : State.ok k a5) : State.ok k (wordRead a0 a1 a2 a3 a4 a5) := by
  unfold wordRead
  extract_lets x1 x2
  have hx2 : State.ok k x2.2.2 := mramReadFabric_ok (ok_ite (noteFetch_ok h5) h5); clear_value x2
  exact ok_ite (busAnswer_ok hx2) (busAnswer_ok h5)

theorem execMramWordRead_ok {k a0 a1 a2 a3 a4 a5} (h5 : State.ok k a5) : Sound k (execMramWordRead a0 a1 a2 a3 a4 a5) := by
  unfold execMramWordRead; exact sound_next (wordRead_ok h5)

theorem wordWrite_ok {k a0 a1 a2 a3} (h3 : State.ok k a3) : State.ok k (wordWrite a0 a1 a2 a3) := by
  unfold wordWrite
  extract_lets x1
  exact busAnswer_ok (ok_ite (mramStore_ok h3) h3)

theorem execMramWordWrite_ok {k a0 a1 a2 a3} (h3 : State.ok k a3) : Sound k (execMramWordWrite a0 a1 a2 a3) := by
  unfold execMramWordWrite; exact sound_next (wordWrite_ok h3)

theorem wordMerge_ok {k a0 a1 a2 a3 a4 a5} (h5 : State.ok k a5) : State.ok k (wordMerge a0 a1 a2 a3 a4 a5) := by
  unfold wordMerge
  extract_lets x1 x2
  have hx2 : State.ok k x2.2 := mramMerge_ok h5; clear_value x2
  exact ok_ite (busAnswer_ok hx2) (busAnswer_ok h5)

theorem execMramMergeWrite_ok {k a0 a1 a2 a3 a4 a5} (h5 : State.ok k a5) : Sound k (execMramMergeWrite a0 a1 a2 a3 a4 a5) := by
  unfold execMramMergeWrite; exact sound_next (wordMerge_ok h5)

theorem execScrubVisit_ok {k a0 a1 a2 a3 a4} (h4 : State.ok k a4) : Sound k (execScrubVisit a0 a1 a2 a3 a4) := by
  unfold execScrubVisit; exact sound_next (scrubVisit_ok h4)

theorem execColumnRepairStep_ok {k a0} (h0 : State.ok k a0) : Sound k (execColumnRepairStep a0) := by
  unfold execColumnRepairStep; exact sound_next (ok_ite (repairStep_ok h0) h0)

theorem execColumnRepairComplete_ok {k a0} (h0 : State.ok k a0) : Sound k (execColumnRepairComplete a0) := by
  unfold execColumnRepairComplete; exact sound_next (ok_ite (repairDone_ok h0) h0)

theorem execBankOperationComplete_ok {k a0 a1} (h1 : State.ok k a1) : Sound k (execBankOperationComplete a0 a1) := by
  unfold execBankOperationComplete; exact sound_next (bankComplete_ok h1)

theorem journalRequest_ok {k a0 a1 a2} (h2 : State.ok k a2) : State.ok k (journalRequest a0 a1 a2) := by
  unfold journalRequest
  extract_lets x1 x2
  have hx1 : State.ok k x1 := finishSlot_ok h2; clear_value x1
  split
  · exact State.emit_ok (State.count_ok hx1)
  · exact startCompaction_ok (ok_put hx1)
  · exact beginSlot_ok hx1

theorem recoverCounting_ok {k a0 a1 a2} (h2 : State.ok k a2) : State.ok k (recoverCounting a0 a1 a2) := by
  unfold recoverCounting; exact ok_foldl (fun _ _ h1 => uncorrectable_ok h1) (recover_ok h2)

theorem execJournalRecovery_ok {k a0 a1 a2} (h2 : State.ok k a2) : Sound k (execJournalRecovery a0 a1 a2) := by
  unfold execJournalRecovery; exact sound_next (ok_ite (recoverCounting_ok h2) h2)

end Sys2Proof.Machine
end

