-- ==== Sys2Proof/Laws/SoundWarden.lean ====
section
/-!
SUPPORT. The operations of Machine/Warden.lean keep `State.ok`, one lemma for each.
-/

namespace Sys2Proof.Machine

open Sys2Proof

theorem keeperDeliver_ok {k a0} (h0 : State.ok k a0) : State.ok k (keeperDeliver a0) := by
  unfold keeperDeliver
  extract_lets x1 x2 x3 x4
  have hx4 : State.ok k x4 := ok_put h0; clear_value x4
  refine ok_ite ?_ ?_
  · refine ok_foldl ?_ ?_
    · intro s6 x6 h6
      beta_reduce
      extract_lets x7 x8
      have hx7 : State.ok k x7 := record_ok h6; clear_value x7
      exact ok_ite (State.setReg_ok (ok_upd hx7 rfl rfl rfl rfl rfl)) hx7
    · exact hx4
  · exact h0

theorem ironEvent_ok {k a0 a1 a2} (h2 : State.ok k a2) : State.ok k (ironEvent a0 a1 a2) := by
  unfold ironEvent; exact ok_ite (keeperDeliver_ok (ironLatch_ok h2)) h2

theorem wardenEvent_ok {k a0 a1 a2 a3} (h3 : State.ok k a3) : State.ok k (wardenEvent a0 a1 a2 a3) := by
  unfold wardenEvent; exact ok_ite (record_ok (relay_ok h3)) h3

theorem safetyEvent_ok {k a0 a1 a2 a3} (h3 : State.ok k a3) : State.ok k (safetyEvent a0 a1 a2 a3) := by
  unfold safetyEvent; exact ok_ite (ironEvent_ok h3) (wardenEvent_ok h3)

theorem State.setChan'_ok {k a0 a1 a2} (h0 : State.ok k a0) : State.ok k (State.setChan' a0 a1 a2) := by
  unfold State.setChan'
  extract_lets x1 x2
  exact State.setReg_ok (ok_put h0)

theorem setSwitches_ok {k a0 a1 a2} (h2 : State.ok k a2) : State.ok k (setSwitches a0 a1 a2) := by
  unfold setSwitches; exact State.setReg_ok h2

theorem settle_ok {k a0} (h0 : State.ok k a0) : State.ok k (settle a0) := by
  unfold settle
  extract_lets x1 x2
  exact setSwitches_ok h0

theorem openPairs_ok {k a0 a1} (h1 : State.ok k a1) : State.ok k (openPairs a0 a1) := by
  unfold openPairs
  extract_lets x1 x2
  exact setSwitches_ok h1

theorem closePairs_ok {k a0 a1} (h1 : State.ok k a1) : State.ok k (closePairs a0 a1) := by
  unfold closePairs
  extract_lets x1
  exact ok_ite (setSwitches_ok h1) h1

theorem latchWith_ok {k a0 a1 a2 a3} (h3 : State.ok k a3) : State.ok k (latchWith a0 a1 a2 a3) := by
  unfold latchWith
  extract_lets x1
  exact settle_ok (State.setChan'_ok h3)

theorem latchFault_ok {k a0 a1 a2} (h2 : State.ok k a2) : State.ok k (latchFault a0 a1 a2) := by
  unfold latchFault; exact latchWith_ok h2

theorem latchBoth_ok {k a0 a1 a2 a3 a4} (h4 : State.ok k a4) : State.ok k (latchBoth a0 a1 a2 a3 a4) := by
  unfold latchBoth
  extract_lets x1
  have hx1 : State.ok k x1 := latchWith_ok (latchWith_ok h4); clear_value x1
  exact safetyEvent_ok (safetyEvent_ok hx1)

theorem clearBit_ok {k a0 a1 a2} (h2 : State.ok k a2) : State.ok k (clearBit a0 a1 a2) := by
  unfold clearBit
  extract_lets x1 x2 x3
  exact ok_ite h2 (ok_ite (State.setChan'_ok h2) (ok_ite (State.setChan'_ok h2) (ok_ite (State.setChan'_ok h2) h2)))

theorem clearBits_ok {k a0 a1 a2} (h2 : State.ok k a2) : State.ok k (clearBits a0 a1 a2) := by
  unfold clearBits; exact ok_foldl (fun _ _ h1 => ok_ite (clearBit_ok h1) h1) h2

theorem clearEarth_ok {k a0 a1} (h1 : State.ok k a1) : State.ok k (clearEarth a0 a1) := by
  unfold clearEarth
  extract_lets x1 x2 x3
  have hx3 : State.ok k x3.2 := State.drawBits_ok h1; clear_value x3
  exact ok_ite (State.setReg_ok h1) (State.setReg_ok hx3)

theorem updateSi_ok {k a0 a1} (h1 : State.ok k a1) : State.ok k (updateSi a0 a1) := by
  unfold updateSi; exact State.setReg_ok h1

theorem refreshSi_ok {k a0} (h0 : State.ok k a0) : State.ok k (refreshSi a0) := by
  unfold refreshSi; exact ok_ite (ok_foldl (fun _ _ h1 => updateSi_ok h1) h0) h0

theorem giveReset_ok {k a0 a1 a2} (h2 : State.ok k a2) : State.ok k (giveReset a0 a1 a2) := by
  unfold giveReset; exact safetyEvent_ok (refreshSi_ok (clearEarth_ok (clearBits_ok h2)))

theorem faultAck_ok {k a0 a1} (h1 : State.ok k a1) : State.ok k (faultAck a0 a1) := by
  unfold faultAck
  extract_lets x1
  exact refreshSi_ok (State.setReg_ok (clearBits_ok (clearBits_ok h1)))

theorem discProgress_ok {k a0 a1 a2} (h2 : State.ok k a2) : State.ok k (discProgress a0 a1 a2) := by
  unfold discProgress
  extract_lets x1 x2 x3 x4 x5 x6
  exact State.setChan'_ok h2

theorem latchEstop_ok {k a0 a1 a2} (h2 : State.ok k a2) : State.ok k (latchEstop a0 a1 a2) := by
  unfold latchEstop
  extract_lets x1 x2
  exact ok_ite (safetyEvent_ok (latchWith_ok h2)) h2

theorem latchEstops_ok {k a0} (h0 : State.ok k a0) : State.ok k (latchEstops a0) := by
  unfold latchEstops; exact ok_foldl (fun _ _ h1 => latchEstop_ok h1) h0

theorem newDemand_ok {k a0 a1 a2} (h2 : State.ok k a2) : State.ok k (newDemand a0 a1 a2) := by
  unfold newDemand
  extract_lets x1 x2
  have hx1 : State.ok k x1 := latchWith_ok h2; clear_value x1
  have hx2 : State.ok k x2 := settle_ok h2; clear_value x2
  exact ok_ite (safetyEvent_ok hx1) (ok_ite (safetyEvent_ok hx2) hx2)

theorem resetInput_ok {k a0 a1 a2 a3 a4} (h4 : State.ok k a4) : State.ok k (resetInput a0 a1 a2 a3 a4) := by
  unfold resetInput
  extract_lets x1 x2 x3 x4
  have hx4 : State.ok k x4 := State.setChan'_ok h4; clear_value x4
  exact ok_ite (State.setChan'_ok h4) (ok_ite (ok_ite (giveReset_ok hx4) hx4) h4)

theorem filterChange_ok {k a0 a1 a2 a3 a4} (h4 : State.ok k a4) : State.ok k (filterChange a0 a1 a2 a3 a4) := by
  unfold filterChange
  extract_lets x1 x2 x3 x4 x5 x6 x7
  have hx3 : State.ok k x3 := discProgress_ok (State.setChan'_ok h4); clear_value x3
  have hx5 : State.ok k x5 := ok_ite (updateSi_ok hx3) hx3; clear_value x5
  have hx6 : State.ok k x6 := ok_ite (resetInput_ok hx5) hx5; clear_value x6
  have hx7 : State.ok k x7 := ok_ite (newDemand_ok hx6) (settle_ok hx6); clear_value x7
  exact ok_ite h4 (ok_ite (updateSi_ok hx7) hx7)

theorem discTimeout_ok {k a0 a1 a2} (h2 : State.ok k a2) : State.ok k (discTimeout a0 a1 a2) := by
  unfold discTimeout
  extract_lets x1
  have hx1 : State.ok k x1 := latchWith_ok h2; clear_value x1
  exact ok_ite h2 (safetyEvent_ok (ok_ite (updateSi_ok hx1) hx1))

theorem pulseCheck_ok {k a0 a1 a2 a3} (h3 : State.ok k a3) : State.ok k (pulseCheck a0 a1 a2 a3) := by
  unfold pulseCheck
  extract_lets x1 x2 x3 x4
  have hx3 : State.ok k x3 := State.setChan'_ok h3; clear_value x3
  have hx4 : State.ok k x4 := latchWith_ok hx3; clear_value x4
  exact ok_ite h3 (ok_ite (latchEstop_ok (safetyEvent_ok (ok_ite (updateSi_ok hx4) hx4))) hx3)

theorem testPulse_ok {k a0 a1} (h1 : State.ok k a1) : State.ok k (testPulse a0 a1) := by
  unfold testPulse; exact ok_foldl (fun _ _ h1 => pulseCheck_ok h1) h1

theorem mirrorTimeout_ok {k a0 a1} (h1 : State.ok k a1) : State.ok k (mirrorTimeout a0 a1) := by
  unfold mirrorTimeout; exact ok_ite (ok_ite (relay_ok h1) h1) (ok_ite (latchBoth_ok h1) h1)

theorem readbackMismatch_ok {k a0 a1} (h1 : State.ok k a1) : State.ok k (readbackMismatch a0 a1) := by
  unfold readbackMismatch; exact ok_ite h1 (latchBoth_ok h1)

theorem currentLimit_ok {k a0 a1} (h1 : State.ok k a1) : State.ok k (currentLimit a0 a1) := by
  unfold currentLimit; exact ok_ite h1 (ironEvent_ok (latchWith_ok h1))

theorem totalOverload_ok {k a0} (h0 : State.ok k a0) : State.ok k (totalOverload a0) := by
  unfold totalOverload; exact ironEvent_ok (latchWith_ok h0)

theorem darkTest_ok {k a0 a1 a2 a3} (h3 : State.ok k a3) : State.ok k (darkTest a0 a1 a2 a3) := by
  unfold darkTest; exact ok_ite h3 (ok_ite (ironEvent_ok h3) (latchBoth_ok h3))

theorem challenge_ok {k a0} (h0 : State.ok k a0) : State.ok k (challenge a0) := by
  unfold challenge
  extract_lets x1 x2 x3
  have hx1 : State.ok k x1.2 := State.drawBits_ok h0; clear_value x1
  have hx2 : State.ok k x2 := hx1; clear_value x2
  exact ok_put hx2

theorem prompterFail_ok {k a0} (h0 : State.ok k a0) : State.ok k (prompterFail a0) := by
  unfold prompterFail
  extract_lets x1 x2 x3 x4
  have hx3 : State.ok k x3 := State.count_ok (ok_put h0); clear_value x3
  have hx4 : State.ok k x4 := latchFault_ok hx3; clear_value x4
  exact ok_ite h0 (challenge_ok (ok_ite hx4 (ironEvent_ok hx4)))

theorem compareAnswer_ok {k a0 a1} (h1 : State.ok k a1) : State.ok k (compareAnswer a0 a1) := by
  unfold compareAnswer
  extract_lets x1 x2 x3 x4
  have hx4 : State.ok k x4 := ok_put h1; clear_value x4
  exact ok_ite (ok_ite (settle_ok hx4) (ironEvent_ok (latchFault_ok hx4))) hx4

theorem prompterAnswer_ok {k a0 a1 a2 a3 a4} (h4 : State.ok k a4) : State.ok k (prompterAnswer a0 a1 a2 a3 a4) := by
  unfold prompterAnswer
  extract_lets x1 x2 x3 x4 x5
  have hx3 : State.ok k x3 := ok_put h4; clear_value x3
  have hx4 : State.ok k x4 := compareAnswer_ok hx3; clear_value x4
  have hx5 : State.ok k x5 := ok_ite (ironEvent_ok hx4) hx4; clear_value x5
  exact ok_ite h4 (ok_ite (challenge_ok hx5) (prompterFail_ok h4))

theorem setBlockFault_ok {k a0 a1} (h1 : State.ok k a1) : State.ok k (setBlockFault a0 a1) := by
  unfold setBlockFault
  extract_lets x1
  exact ok_ite (ok_ite (settle_ok h1) (ironEvent_ok (latchFault_ok h1))) (State.setChan'_ok h1)

theorem checkBlocks_ok {k a0} (h0 : State.ok k a0) : State.ok k (checkBlocks a0) := by
  unfold checkBlocks; exact ok_ite h0 (setBlockFault_ok h0)

theorem loadBlocks_ok {k a0 a1} (h1 : State.ok k a1) : State.ok k (loadBlocks a0 a1) := by
  unfold loadBlocks
  extract_lets x1 x2
  have hx2 : State.ok k x2 := ok_put h1; clear_value x2
  exact ok_ite h1 (latchEstops_ok (refreshSi_ok (checkBlocks_ok hx2)))

theorem ironTemp_ok {k a0 a1} (h1 : State.ok k a1) : State.ok k (ironTemp a0 a1) := by
  unfold ironTemp
  extract_lets x1
  have hx1 : State.ok k x1 := State.setRegI_ok h1; clear_value x1
  exact ok_ite h1 (ok_ite (ironEvent_ok (latchFault_ok hx1)) (settle_ok hx1))

theorem ironVsupWarning_ok {k a0} (h0 : State.ok k a0) : State.ok k (ironVsupWarning a0) := by
  unfold ironVsupWarning; exact ok_ite (ironEvent_ok (setSwitches_ok h0)) h0

theorem wardenGone_ok {k a0} (h0 : State.ok k a0) : State.ok k (wardenGone a0) := by
  unfold wardenGone; exact setSwitches_ok h0

theorem safetyIronReset_ok {k a0} (h0 : State.ok k a0) : State.ok k (safetyIronReset a0) := by
  unfold safetyIronReset
  extract_lets x1 x2
  have hx2 : State.ok k x2 := ok_put h0; clear_value x2
  exact State.setReg_ok (State.setReg_ok (State.setReg_ok (State.setReg_ok (State.setReg_ok hx2))))

end Sys2Proof.Machine
end

