-- ==== Sys2Proof/Laws/SoundTamper.lean ====
section
/-!
SUPPORT. The operations of Machine/Tamper.lean keep `State.ok`, one lemma for each.
-/

namespace Sys2Proof.Machine

open Sys2Proof

theorem tamperRecord_ok {k a0 a1 a2 a3} (h3 : State.ok k a3) : State.ok k (tamperRecord a0 a1 a2 a3) := by
  unfold tamperRecord; exact record_ok h3

theorem tamperStart_ok {k a0 a1 a2} (h2 : State.ok k a2) : State.ok k (tamperStart a0 a1 a2) := by
  unfold tamperStart
  extract_lets x1 x2 x3 x4 x5
  have hx2 : State.ok k x2 := State.setReg_ok (State.count_ok h2); clear_value x2
  have hx3 : State.ok k x3 := ok_ite (State.setReg_ok hx2) hx2; clear_value x3
  have hx5 : State.ok k x5 := ok_ite hx3 (setJournalled_ok hx3); clear_value x5
  exact tamperRecord_ok hx5

theorem tamperOpen_ok {k a0 a1} (h1 : State.ok k a1) : State.ok k (tamperOpen a0 a1) := by
  unfold tamperOpen
  extract_lets x1
  exact ok_ite h1 (tamperStart_ok (ok_put h1))

theorem tamperClose_ok {k a0 a1} (h1 : State.ok k a1) : State.ok k (tamperClose a0 a1) := by
  unfold tamperClose
  extract_lets x1 x2
  have hx2 : State.ok k x2 := ok_put h1; clear_value x2
  split
  · exact h1
  · extract_lets x3
    exact tamperRecord_ok (State.setReg_ok hx2)

end Sys2Proof.Machine
end

