-- ==== Sys2Proof/Laws/SoundFly.lean ====
section
/-!
SUPPORT. The operations of Machine/Fly.lean keep `State.ok`, one lemma for each.
-/

namespace Sys2Proof.Machine

open Sys2Proof

theorem setFly_ok {k a0 a1 a2} (h2 : State.ok k a2) : State.ok k (setFly a0 a1 a2) := by
  unfold setFly; exact State.setReg_ok h2

theorem flyEventAt_ok {k a0 a1 a2 a3} (h3 : State.ok k a3) : State.ok k (flyEventAt a0 a1 a2 a3) := by
  unfold flyEventAt; exact State.count_ok (State.setReg_ok h3)

theorem flyEvent_ok {k a0 a1} (h1 : State.ok k a1) : State.ok k (flyEvent a0 a1) := by
  unfold flyEvent; exact flyEventAt_ok h1

theorem setProf_ok {k a0 a1} (h1 : State.ok k a1) : State.ok k (setProf a0 a1) := by
  unfold setProf
  extract_lets x1 x2 x3
  have hx2 : State.ok k x2 := ok_ite (State.setRegI_ok h1) h1; clear_value x2
  exact ok_put hx2

theorem setGoal_ok {k a0 a1 a2} (h2 : State.ok k a2) : State.ok k (setGoal a0 a1 a2) := by
  unfold setGoal
  extract_lets x1
  exact ok_put h2

theorem beginMotion_ok {k a0 a1} (h1 : State.ok k a1) : State.ok k (beginMotion a0 a1) := by
  unfold beginMotion
  extract_lets x1
  exact ok_ite (setFly_ok (setFly_ok (ok_put h1))) (ok_ite (closePairs_ok (setGoal_ok (setFly_ok h1))) (closePairs_ok (setGoal_ok (setFly_ok (setFly_ok h1)))))

theorem motionRefused_ok {k a0 a1} (h1 : State.ok k a1) : ∀ t, motionRefused a0 a1 = some t → State.ok k t := by
  unfold motionRefused
  exact okO_ite (okO_some (flyEvent_ok h1)) (okO_ite (okO_some h1) okO_none)

theorem moveTo_ok {k a0 a1} (h1 : State.ok k a1) : State.ok k (moveTo a0 a1) := by
  unfold moveTo
  extract_lets x1
  exact beginMotion_ok (ok_put h1)

theorem actFlyTarget_ok {k a0 a1} (h1 : State.ok k a1) : State.ok k (actFlyTarget a0 a1).2 := by
  unfold actFlyTarget
  extract_lets x1 x2 x3 x4 x5
  have hx3 : State.ok k x3 := State.setReg_ok h1; clear_value x3
  have hx4 : State.ok k x4 := ok_ite hx3 (setFly_ok hx3); clear_value x4
  refine ok_ite2 (ok_snd h1) ?_
  · split
    · rename_i e
      exact ok_snd (motionRefused_ok h1 _ e)
    · exact ok_ite2 (ok_snd h1) (ok_ite2 (ok_snd hx3) (ok_snd (ok_put hx4)))

theorem actFlyHome_ok {k a0} (h0 : State.ok k a0) : State.ok k (actFlyHome a0).2 := by
  unfold actFlyHome
  extract_lets x1 x2 x3
  have hx1 : State.ok k x1 := ok_foldl (fun _ _ h4 => setFly_ok h4) h0; clear_value x1
  have hx3 : State.ok k x3 := ok_put hx1; clear_value x3
  split
  · rename_i y5 s6 e7
    have hs6 : State.ok k s6 := motionRefused_ok h0 _ e7
    exact ok_snd hs6
  · exact ok_snd (beginMotion_ok (setFly_ok (setFly_ok hx3)))

theorem actFlyStop_ok {k a0 a1} (h1 : State.ok k a1) : State.ok k (actFlyStop a0 a1).2 := by
  unfold actFlyStop
  extract_lets x1 x2 x3
  have hx2 : State.ok k x2 := setFly_ok (setFly_ok (ok_put h1)); clear_value x2
  exact ok_snd (ok_ite (ok_put hx2) (ok_ite hx2 (setGoal_ok (openPairs_ok hx2))))

theorem actFlyResume_ok {k a0} (h0 : State.ok k a0) : State.ok k (actFlyResume a0).2 := by
  unfold actFlyResume
  split
  · rename_i e
    exact ok_snd (motionRefused_ok h0 _ e)
  · exact ok_ite2 (ok_snd h0) (ok_ite2 (ok_snd h0) (ok_snd (moveTo_ok (setFly_ok h0))))

theorem actFlyJog_ok {k a0 a1} (h1 : State.ok k a1) : State.ok k (actFlyJog a0 a1).2 := by
  unfold actFlyJog
  extract_lets x1
  split
  · rename_i y2 s3 e4
    have hs3 : State.ok k s3 := motionRefused_ok h1 _ e4
    exact ok_snd hs3
  · exact ok_snd (beginMotion_ok (setFly_ok (ok_put h1)))

theorem startProfile_ok {k a0} (h0 : State.ok k a0) : State.ok k (startProfile a0) := by
  unfold startProfile
  extract_lets x1 x2
  have hx1 : State.ok k x1 := setFly_ok (setGoal_ok h0); clear_value x1
  exact ok_put hx1

theorem endMotion_ok {k a0} (h0 : State.ok k a0) : State.ok k (endMotion a0) := by
  unfold endMotion; exact setFly_ok (openPairs_ok (setGoal_ok h0))

theorem holdCues_ok {k a0} (h0 : State.ok k a0) : State.ok k (holdCues a0) := by
  unfold holdCues
  refine ok_foldl ?_ ?_
  · intro s2 x2 h2
    beta_reduce
    extract_lets x3 x4
    exact ok_ite (flyEventAt_ok (ok_put h2)) h2
  · exact h0

theorem stopPending_ok {k a0} (h0 : State.ok k a0) : State.ok k (stopPending a0) := by
  unfold stopPending
  extract_lets x1 x2
  have hx1 : State.ok k x1 := setFly_ok h0; clear_value x1
  exact ok_ite (ok_put hx1) hx1

theorem cueAction_ok {k a0 a1} (h1 : State.ok k a1) : State.ok k (cueAction a0 a1) := by
  unfold cueAction
  extract_lets x1 x2
  exact ok_ite (setFly_ok h1) (ok_ite (State.emit_ok (ok_put h1)) (ok_ite (State.emit_ok (ok_put h1)) (ok_ite (ok_ite (flyEventAt_ok (stopPending_ok h1)) h1) (ok_ite (stopPending_ok h1) h1))))

theorem fireCue_ok {k a0 a1} (h1 : State.ok k a1) : State.ok k (fireCue a0 a1) := by
  unfold fireCue
  extract_lets x1 x2
  have hx1 : State.ok k x1 := cueAction_ok (flyEventAt_ok h1); clear_value x1
  exact ok_ite (ok_put hx1) hx1

theorem cueReached_ok {k a0 a1 a2 a3} (h3 : State.ok k a3) : State.ok k (cueReached a0 a1 a2 a3) := by
  unfold cueReached
  extract_lets x1 x2 x3 x4 x5
  have hx2 : State.ok k x2 := ok_put h3; clear_value x2
  have hx4 : State.ok k x4 := ok_ite hx2 (flyEventAt_ok (ok_put hx2)); clear_value x4
  exact ok_ite h3 (ok_ite hx2 (ok_ite (ok_put hx4) (fireCue_ok hx2)))

theorem toothDisc_ok {k a0} (h0 : State.ok k a0) : State.ok k (toothDisc a0) := by
  unfold toothDisc
  extract_lets x1 x2
  have hx1 : State.ok k x1 := flyEvent_ok (setFly_ok h0); clear_value x1
  exact setFly_ok (holdCues_ok (ok_put hx1))

theorem toothFault_ok {k a0} (h0 : State.ok k a0) : State.ok k (toothFault a0) := by
  unfold toothFault
  extract_lets x1 x2
  have hx1 : State.ok k x1 := flyEvent_ok (setFly_ok h0); clear_value x1
  exact ok_put hx1

theorem toothResolve_ok {k a0} (h0 : State.ok k a0) : State.ok k (toothResolve a0) := by
  unfold toothResolve
  extract_lets x1 x2 x3 x4 x5 x6
  have hx5 : State.ok k x5 := flyEvent_ok (setFly_ok (setFly_ok (State.setRegI_ok h0))); clear_value x5
  exact ok_ite (ok_foldl (fun _ _ h7 => fireCue_ok h7) (ok_put hx5)) (toothFault_ok h0)

theorem toothReference_ok {k a0} (h0 : State.ok k a0) : State.ok k (toothReference a0) := by
  unfold toothReference
  extract_lets x1 x2 x3 x4
  have hx1 : State.ok k x1 := setFly_ok (State.setRegI_ok (State.setRegI_ok h0))
  have hx3 : State.ok k x3 := ok_put hx1
  exact ok_ite (beginMotion_ok (ok_put hx3)) hx3

theorem toothCounted_ok {k a0} (h0 : State.ok k a0) : State.ok k (toothCounted a0) := by
  unfold toothCounted
  extract_lets x1 x2 x3 x4
  have hx1 : State.ok k x1 := State.setRegI_ok h0; clear_value x1
  have hx3 : State.ok k x3 := State.setRegI_ok hx1; clear_value x3
  exact ok_put hx3

theorem toothEdge_ok {k a0 a1} (h1 : State.ok k a1) : State.ok k (toothEdge a0 a1) := by
  unfold toothEdge
  extract_lets x1
  have hx1 : State.ok k x1 := toothCounted_ok h1; clear_value x1
  exact ok_ite h1 (ok_ite (toothReference_ok h1) (ok_ite hx1 (ok_ite (toothResolve_ok hx1) (ok_ite (toothDisc_ok hx1) hx1))))

theorem missedTooth_ok {k a0} (h0 : State.ok k a0) : State.ok k (missedTooth a0) := by
  unfold missedTooth
  extract_lets x1
  exact ok_ite h0 (ok_ite (ok_ite (toothFault_ok h0) h0) (ok_ite (toothDisc_ok h0) h0))

theorem flyMove_ok {k a0 a1 a2} (h2 : State.ok k a2) : State.ok k (flyMove a0 a1 a2) := by
  unfold flyMove
  extract_lets x1 x2 x3
  have hx3 : State.ok k x3 := State.setRegI_ok (ok_put h2); clear_value x3
  exact State.setRegI_ok hx3

theorem takeTarget_ok {k a0} (h0 : State.ok k a0) : State.ok k (takeTarget a0) := by
  unfold takeTarget
  split
  · exact h0
  · exact moveTo_ok (setFly_ok (setFly_ok h0))

theorem limitStop_ok {k a0} (h0 : State.ok k a0) : State.ok k (limitStop a0) := by
  unfold limitStop
  extract_lets x1
  exact flyEvent_ok (setFly_ok (setFly_ok (ok_put h0)))

theorem atRest_ok {k a0} (h0 : State.ok k a0) : State.ok k (atRest a0) := by
  unfold atRest
  extract_lets x1
  refine ok_ite ?_ ?_
  · split
    · exact endMotion_ok h0
    · exact endMotion_ok h0
    · exact ok_put h0
    · exact h0
  · exact h0

theorem driveOut_ok {k a0 a1} (h1 : State.ok k a1) : State.ok k (driveOut a0 a1) := by
  unfold driveOut
  extract_lets x1 x2 x3
  have hx1 : State.ok k x1 := State.setRegI_ok h1; clear_value x1
  exact ok_ite (State.emit_ok hx1) (ok_ite hx1 (State.emit_ok (ok_put hx1)))

theorem controlCycle_ok {k a0 a1 a2} (h2 : State.ok k a2) : State.ok k (controlCycle a0 a1 a2) := by
  unfold controlCycle
  extract_lets x1 x2 x3 x4
  have hx1 : State.ok k x1 := takeTarget_ok (flyMove_ok h2); clear_value x1
  have hx2 : State.ok k x2 := ok_ite (holdCues_ok hx1) hx1; clear_value x2
  have hx3 : State.ok k x3 := ok_ite (limitStop_ok hx2) hx2; clear_value x3
  have hx4 : State.ok k x4 := ok_ite (atRest_ok (setProf_ok hx3)) hx3; clear_value x4
  exact ok_ite h2 (driveOut_ok hx4)

theorem encIllegal_ok {k a0} (h0 : State.ok k a0) : State.ok k (encIllegal a0) := by
  unfold encIllegal; exact ok_ite (flyEvent_ok (setFly_ok (setFly_ok h0))) h0

theorem encIndex_ok {k a0} (h0 : State.ok k a0) : State.ok k (encIndex a0) := by
  unfold encIndex
  extract_lets x1 x2 x3 x4 x5
  have hx2 : State.ok k x2 := ok_put h0
  have hx4 : State.ok k x4 := State.setRegI_ok (setFly_ok hx2); clear_value x4
  exact ok_ite h0 (ok_ite (flyEvent_ok (ok_put hx4)) hx2)

theorem encValid_ok {k a0} (h0 : State.ok k a0) : State.ok k (encValid a0) := by
  unfold encValid; exact ok_ite (setFly_ok h0) h0

theorem homeSwitch_ok {k a0 a1} (h1 : State.ok k a1) : State.ok k (homeSwitch a0 a1) := by
  unfold homeSwitch
  extract_lets x1
  exact ok_ite (ok_put h1) (ok_ite (ok_put h1) h1)

theorem stoSettle_ok {k a0} (h0 : State.ok k a0) : State.ok k (stoSettle a0) := by
  unfold stoSettle; exact ok_ite (closePairs_ok (setGoal_ok h0)) h0

theorem brakeRelease_ok {k a0} (h0 : State.ok k a0) : State.ok k (brakeRelease a0) := by
  unfold brakeRelease; exact ok_ite (startProfile_ok h0) h0

theorem inPosition_ok {k a0} (h0 : State.ok k a0) : State.ok k (inPosition a0) := by
  unfold inPosition; exact ok_ite (endMotion_ok (setFly_ok (setFly_ok h0))) h0

theorem holdEnd_ok {k a0} (h0 : State.ok k a0) : State.ok k (holdEnd a0) := by
  unfold holdEnd; exact ok_ite (State.setRegI_ok (setGoal_ok h0)) h0

theorem brakeTestRuns_ok {k a0} (h0 : State.ok k a0) : State.ok k (brakeTestRuns a0) := by
  unfold brakeTestRuns; exact ok_ite h0 (driveOut_ok (closePairs_ok (openPairs_ok h0)))

theorem brakeTestEnds_ok {k a0} (h0 : State.ok k a0) : State.ok k (brakeTestEnds a0) := by
  unfold brakeTestEnds; exact openPairs_ok (driveOut_ok h0)

theorem brakeTest_ok {k a0 a1} (h1 : State.ok k a1) : State.ok k (brakeTest a0 a1) := by
  unfold brakeTest
  extract_lets x1 x2 x3 x4 x5
  have hx1 : State.ok k x1 := brakeTestEnds_ok (brakeTestRuns_ok h1); clear_value x1
  have hx3 : State.ok k x3 := ok_put hx1; clear_value x3
  have hx4 : State.ok k x4 := wardenEvent_ok (State.setReg_ok hx3); clear_value x4
  have hx5 : State.ok k x5 := wardenEvent_ok (latchFault_ok (brakeTestEnds_ok (brakeTestRuns_ok h1))); clear_value x5
  exact ok_ite h1 (ok_ite (ok_ite (closePairs_ok (setGoal_ok (setFly_ok hx4))) hx4) (ok_ite (setGoal_ok hx5) hx5))

theorem barMotion_ok {k a0} (h0 : State.ok k a0) : State.ok k (barMotion a0) := by
  unfold barMotion
  extract_lets x1 x2 x3
  have hx2 : State.ok k x2 := ok_put h0; clear_value x2
  exact ok_ite hx2 (ok_ite (ok_ite hx2 (ok_put hx2)) (setGoal_ok (openPairs_ok hx2)))

theorem graceExpiry_ok {k a0} (h0 : State.ok k a0) : State.ok k (graceExpiry a0) := by
  unfold graceExpiry
  extract_lets x1
  exact ok_ite (barMotion_ok (ok_put h0)) h0

theorem wardenStop_ok {k a0} (h0 : State.ok k a0) : State.ok k (wardenStop a0) := by
  unfold wardenStop
  extract_lets x1 x2 x3 x4
  have hx3 : State.ok k x3 := ok_put h0; clear_value x3
  exact ok_ite hx3 (ok_ite (ok_put hx3) (ok_ite hx3 (setGoal_ok hx3)))

theorem slsOverspeed_ok {k a0 a1} (h1 : State.ok k a1) : State.ok k (slsOverspeed a0 a1) := by
  unfold slsOverspeed
  extract_lets x1 x2 x3 x4 x5
  have hx1 : State.ok k x1 := State.setRegI_ok h1; clear_value x1
  have hx3 : State.ok k x3 := latchFault_ok (wardenStop_ok hx1); clear_value x3
  have hx5 : State.ok k x5 := ok_ite (setFly_ok (ok_put hx3)) hx3; clear_value x5
  exact ok_ite h1 (ok_ite hx1 (wardenEvent_ok hx5))

theorem ss1Complete_ok {k a0} (h0 : State.ok k a0) : State.ok k (ss1Complete a0) := by
  unfold ss1Complete
  extract_lets x1
  exact ok_ite (openPairs_ok (ok_put h0)) h0

theorem overspeedWindow_ok {k a0 a1} (h1 : State.ok k a1) : State.ok k (overspeedWindow a0 a1) := by
  unfold overspeedWindow
  extract_lets x1 x2 x3
  have hx3 : State.ok k x3 := ok_put h1; clear_value x3
  exact ok_ite h1 (ok_ite (ironEvent_ok (latchFault_ok hx3)) hx3)

theorem unreachedStop_ok {k a0} (h0 : State.ok k a0) : State.ok k (unreachedStop a0) := by
  unfold unreachedStop
  extract_lets x1 x2
  have hx1 : State.ok k x1 := ok_ite h0 (flyEvent_ok (setFly_ok h0)); clear_value x1
  exact openPairs_ok (ok_put hx1)

theorem superviseAxis_ok {k a0 a1 a2 a3} (h3 : State.ok k a3) : State.ok k (superviseAxis a0 a1 a2 a3) := by
  unfold superviseAxis
  extract_lets x1 x2 x3 x4 x5
  have hx1 : State.ok k x1 := State.setRegI_ok h3; clear_value x1
  have hx2 : State.ok k x2 := setFly_ok hx1; clear_value x2
  have hx4 : State.ok k x4 := flyEvent_ok (setFly_ok hx2); clear_value x4
  exact ok_ite h3 (ok_ite (ok_ite (openPairs_ok hx1) hx1) (ok_ite (ok_ite (unreachedStop_ok hx1) hx1) (ok_ite hx2 (ok_ite (openPairs_ok (ok_put hx4)) (wardenStop_ok hx4)))))

theorem flyGone_ok {k a0} (h0 : State.ok k a0) : State.ok k (flyGone a0) := by
  unfold flyGone; exact State.emit_ok (State.emit_ok (ok_put h0))

theorem execFlyControlCycle_ok {k a0 a1 a2} (h2 : State.ok k a2) : Sound k (execFlyControlCycle a0 a1 a2) := by
  unfold execFlyControlCycle; exact sound_next (controlCycle_ok h2)

theorem execEncoderIllegalTransition_ok {k a0} (h0 : State.ok k a0) : Sound k (execEncoderIllegalTransition a0) := by
  unfold execEncoderIllegalTransition; exact sound_next (encIllegal_ok h0)

theorem execEncoderIndex_ok {k a0} (h0 : State.ok k a0) : Sound k (execEncoderIndex a0) := by
  unfold execEncoderIndex; exact sound_next (encIndex_ok h0)

theorem execEncValidSet_ok {k a0} (h0 : State.ok k a0) : Sound k (execEncValidSet a0) := by
  unfold execEncValidSet; exact sound_next (encValid_ok h0)

theorem execHomingHomeSwitch_ok {k a0 a1} (h1 : State.ok k a1) : Sound k (execHomingHomeSwitch a0 a1) := by
  unfold execHomingHomeSwitch; exact sound_next (homeSwitch_ok h1)

theorem execToothEdge_ok {k a0 a1} (h1 : State.ok k a1) : Sound k (execToothEdge a0 a1) := by
  unfold execToothEdge; exact sound_next (toothEdge_ok h1)

theorem execMissedTooth_ok {k a0} (h0 : State.ok k a0) : Sound k (execMissedTooth a0) := by
  unfold execMissedTooth; exact sound_next (missedTooth_ok h0)

theorem execCueFire_ok {k a0 a1 a2 a3} (h3 : State.ok k a3) : Sound k (execCueFire a0 a1 a2 a3) := by
  unfold execCueFire; exact sound_next (cueReached_ok h3)

theorem execMotionStoSettle_ok {k a0} (h0 : State.ok k a0) : Sound k (execMotionStoSettle a0) := by
  unfold execMotionStoSettle; exact sound_next (stoSettle_ok h0)

theorem execMotionBrakeRelease_ok {k a0} (h0 : State.ok k a0) : Sound k (execMotionBrakeRelease a0) := by
  unfold execMotionBrakeRelease; exact sound_next (brakeRelease_ok h0)

theorem execInPositionReached_ok {k a0} (h0 : State.ok k a0) : Sound k (execInPositionReached a0) := by
  unfold execInPositionReached; exact sound_next (inPosition_ok h0)

theorem execBrakeSetHoldEnd_ok {k a0} (h0 : State.ok k a0) : Sound k (execBrakeSetHoldEnd a0) := by
  unfold execBrakeSetHoldEnd; exact sound_next (holdEnd_ok h0)

theorem execWardenAxisSupervision_ok {k a0 a1 a2 a3} (h3 : State.ok k a3) : Sound k (execWardenAxisSupervision a0 a1 a2 a3) := by
  unfold execWardenAxisSupervision; exact sound_next (superviseAxis_ok h3)

theorem execBrakeTest_ok {k a0 a1} (h1 : State.ok k a1) : Sound k (execBrakeTest a0 a1) := by
  unfold execBrakeTest; exact sound_next (brakeTest_ok h1)

theorem execBrakeTestGraceExpiry_ok {k a0} (h0 : State.ok k a0) : Sound k (execBrakeTestGraceExpiry a0) := by
  unfold execBrakeTestGraceExpiry; exact sound_next (graceExpiry_ok h0)

theorem execSlsOverspeed_ok {k a0 a1} (h1 : State.ok k a1) : Sound k (execSlsOverspeed a0 a1) := by
  unfold execSlsOverspeed; exact sound_next (slsOverspeed_ok h1)

theorem execSs1StopComplete_ok {k a0} (h0 : State.ok k a0) : Sound k (execSs1StopComplete a0) := by
  unfold execSs1StopComplete; exact sound_next (ss1Complete_ok h0)

theorem execIronOverspeedWindow_ok {k a0 a1} (h1 : State.ok k a1) : Sound k (execIronOverspeedWindow a0 a1) := by
  unfold execIronOverspeedWindow; exact sound_next (overspeedWindow_ok h1)

end Sys2Proof.Machine
end

