-- ==== Sys2Proof/Laws/SoundConverters.lean ====
section
/-!
SUPPORT. The operations of Machine/Converters.lean keep `State.ok`, one lemma for each.
-/

namespace Sys2Proof.Machine

open Sys2Proof

theorem passEntry_ok {k a0 a1} (h1 : State.ok k a1) : State.ok k (passEntry a0 a1) := by
  unfold passEntry
  extract_lets x1
  exact relay_ok (ok_put h1)

theorem abortChecks_ok {k a0 a1} (h1 : State.ok k a1) : State.ok k (abortChecks a0 a1) := by
  unfold abortChecks
  extract_lets x1
  exact ok_put h1

theorem entryAck_ok {k a0} (h0 : State.ok k a0) : State.ok k (entryAck a0) := by
  unfold entryAck
  extract_lets x1
  split
  · exact h0
  · extract_lets x2 x3 x4
    have hx2 : State.ok k x2 := State.setWord_ok (ok_put h0); clear_value x2
    have hx4 : State.ok k x4 := ok_ite (ok_put hx2) hx2; clear_value x4
    exact ok_ite (State.setReg_ok hx4) hx4

theorem trackCrossing_ok {k a0 a1} (h1 : State.ok k a1) : State.ok k (trackCrossing a0 a1) := by
  unfold trackCrossing
  extract_lets x1 x2 x3 x4 x5
  have hx4 : State.ok k x4 := ok_put h1; clear_value x4
  split
  · exact ok_put h1
  · extract_lets x6 x7 x8 x9
    have hx9 : State.ok k x9 := ok_put hx4; clear_value x9
    exact ok_ite (ok_ite (State.setReg_ok (State.setReg_ok hx9)) hx9) hx4

theorem intervalEnd_ok {k a0 a1} (h1 : State.ok k a1) : State.ok k (intervalEnd a0 a1) := by
  unfold intervalEnd
  extract_lets x1 x2 x3 x4 x5 x6 x7 x8 x9 x10 x11 x12
  have hx7 : State.ok k x7 := State.setReg_ok (State.setReg_ok h1)
  have hx8 : State.ok k x8 := ok_ite (trackCrossing_ok hx7) hx7
  have hx11 : State.ok k x11 := ok_put hx8
  exact ok_ite h1 (ok_ite (ok_put hx11) (State.count_ok hx11))

theorem mainsLost_ok {k a0} (h0 : State.ok k a0) : State.ok k (mainsLost a0) := by
  unfold mainsLost
  extract_lets x1
  exact ok_ite (State.setReg_ok (ok_put h0)) h0

theorem startWindow_ok {k a0} (h0 : State.ok k a0) : State.ok k (startWindow a0) := by
  unfold startWindow
  extract_lets x1 x2
  exact ok_put h0

theorem resultAborted_ok {k a0} (h0 : State.ok k a0) : State.ok k (resultAborted a0) := by
  unfold resultAborted
  extract_lets x1
  have hx1 : State.ok k x1.2 := State.drawBits_ok h0; clear_value x1
  exact fabFault_ok hx1

theorem processWindowEnd_ok {k a0 a1} (h1 : State.ok k a1) : State.ok k (processWindowEnd a0 a1) := by
  unfold processWindowEnd
  extract_lets x1 x2 x3 x4
  have hx3 : State.ok k x3 := startWindow_ok (ok_put h1); clear_value x3
  exact ok_ite h1 (ok_ite hx3 (ok_ite (ok_put hx3) (resultAborted_ok hx3)))

theorem updateChannel_ok {k a0 a1 a2} (h1 : State.ok k a1) : State.ok k (updateChannel a0 a1 a2) := by
  unfold updateChannel
  extract_lets x1 x2 x3 x4 x5
  exact ok_ite h1 (State.setReg_ok (State.setReg_ok (State.setRegI_ok (State.setRegI_ok h1))))

theorem processResult_ok {k a0} (h0 : State.ok k a0) : State.ok k (processResult a0) := by
  unfold processResult
  extract_lets x1
  refine ok_ite ?_ ?_
  · exact h0
  · split
    · exact h0
    · exact ok_foldl (fun _ _ h2 => updateChannel_ok h2) (ok_put h0)

theorem setCal_ok {k a0 a1 a2} (h2 : State.ok k a2) : State.ok k (setCal a0 a1 a2) := by
  unfold setCal; exact State.setReg_ok h2

theorem calCommit_ok {k a0 a1} (h1 : State.ok k a1) : State.ok k (calCommit a0 a1) := by
  unfold calCommit
  extract_lets x1 x2 x3 x4 x5 x6 x7 x8 x9 x10 x11
  exact ok_ite (passEntry_ok h1) (setCal_ok h1)

theorem actCalCmd_ok {k a0 a1 a2} (h2 : State.ok k a2) : State.ok k (actCalCmd a0 a1 a2).2 := by
  unfold actCalCmd
  extract_lets x1 x2 x3 x4 x5 x6
  have hx5 : State.ok k x5 := ok_ite (tamperStart_ok h2) h2; clear_value x5
  have hx6 : State.ok k x6 := abortChecks_ok hx5; clear_value x6
  exact ok_ite2 (ok_snd h2) (ok_ite2 (ok_snd hx5) (ok_ite2 (ok_snd hx5) (ok_ite2 (ok_ite2 (ok_snd (setCal_ok hx6)) (ok_snd hx5)) (ok_ite2 (ok_snd hx5) (ok_ite2 (ok_ite2 (ok_snd (setCal_ok hx6)) (ok_snd hx5)) (ok_ite2 (ok_ite2 (ok_snd (calCommit_ok hx6)) (ok_snd hx5)) (ok_snd (State.setReg_ok hx6))))))))

theorem calAveraged_ok {k a0 a1 a2} (h2 : State.ok k a2) : State.ok k (calAveraged a0 a1 a2) := by
  unfold calAveraged
  extract_lets x1 x2 x3
  exact ok_ite h2 (ok_ite (setCal_ok (ok_put h2)) (ok_ite (setCal_ok (ok_put h2)) h2))

theorem actPcMode_ok {k a0 a1 a2} (h2 : State.ok k a2) : State.ok k (actPcMode a0 a1 a2).2 := by
  unfold actPcMode
  extract_lets x1 x2
  have hx1 : State.ok k x1 := abortChecks_ok (State.setReg_ok h2); clear_value x1
  exact ok_ite2 (ok_snd h2) (ok_snd (passEntry_ok (ok_put hx1)))

theorem actMcFs_ok {k a0 a1 a2} (h2 : State.ok k a2) : State.ok k (actMcFs a0 a1 a2).2 := by
  unfold actMcFs
  extract_lets x1
  have hx1 : State.ok k x1 := abortChecks_ok (State.setReg_ok h2); clear_value x1
  exact ok_snd (tamperStart_ok (passEntry_ok hx1))

theorem meteringCheck_ok {k a0 a1 a2 a3} (h3 : State.ok k a3) : State.ok k (meteringCheck a0 a1 a2 a3) := by
  unfold meteringCheck
  extract_lets x1 x2 x3 x4
  have hx2 : State.ok k x2 := State.setReg_ok h3; clear_value x2
  have hx3 : State.ok k x3 := ok_ite (State.setRegI_ok hx2) hx2; clear_value x3
  exact ok_ite h3 (ok_put hx3)

theorem processCheck_ok {k a0 a1 a2 a3} (h3 : State.ok k a3) : State.ok k (processCheck a0 a1 a2 a3) := by
  unfold processCheck
  extract_lets x1 x2
  have hx1 : State.ok k x1 := ok_ite (State.setReg_ok h3) h3; clear_value x1
  exact ok_ite h3 (ok_put hx1)

theorem checksAgain_ok {k a0} (h0 : State.ok k a0) : State.ok k (checksAgain a0) := by
  unfold checksAgain
  extract_lets x1
  exact ok_put h0

theorem converterClockLost_ok {k a0} (h0 : State.ok k a0) : State.ok k (converterClockLost a0) := by
  unfold converterClockLost
  extract_lets x1
  exact ok_ite (State.setReg_ok (ok_put h0)) h0

theorem converterClockBack_ok {k a0} (h0 : State.ok k a0) : State.ok k (converterClockBack a0) := by
  unfold converterClockBack
  extract_lets x1
  exact ok_ite (startWindow_ok (State.setReg_ok (ok_put h0))) h0

theorem meteringStart_ok {k a0} (h0 : State.ok k a0) : State.ok k (meteringStart a0) := by
  unfold meteringStart
  extract_lets x1 x2
  have hx2 : State.ok k x2 := ok_put h0; clear_value x2
  exact State.setReg_ok (State.setReg_ok (State.setReg_ok (State.setReg_ok hx2)))

theorem processStart_ok {k a0} (h0 : State.ok k a0) : State.ok k (processStart a0) := by
  unfold processStart
  extract_lets x1
  exact startWindow_ok (ok_put h0)

theorem framesLost_ok {k a0} (h0 : State.ok k a0) : State.ok k (framesLost a0) := by
  unfold framesLost
  extract_lets x1
  exact ok_put h0

theorem execMeteringIntervalEnd_ok {k a0 a1} (h1 : State.ok k a1) : Sound k (execMeteringIntervalEnd a0 a1) := by
  unfold execMeteringIntervalEnd; exact sound_next (intervalEnd_ok h1)

theorem execMainsLost_ok {k a0} (h0 : State.ok k a0) : Sound k (execMainsLost a0) := by
  unfold execMainsLost; exact sound_next (mainsLost_ok h0)

theorem execProcessWindowEnd_ok {k a0 a1} (h1 : State.ok k a1) : Sound k (execProcessWindowEnd a0 a1) := by
  unfold execProcessWindowEnd; exact sound_next (processWindowEnd_ok h1)

theorem execProcessResultUpdate_ok {k a0} (h0 : State.ok k a0) : Sound k (execProcessResultUpdate a0) := by
  unfold execProcessResultUpdate; exact sound_next (processResult_ok h0)

theorem execCalAveragingComplete_ok {k a0 a1 a2} (h2 : State.ok k a2) : Sound k (execCalAveragingComplete a0 a1 a2) := by
  unfold execCalAveragingComplete; exact sound_next (calAveraged_ok h2)

theorem execCalEntryAck_ok {k a0} (h0 : State.ok k a0) : Sound k (execCalEntryAck a0) := by
  unfold execCalEntryAck; exact sound_next (entryAck_ok h0)

theorem execMeteringSelfCheckPhase_ok {k a0 a1 a2 a3} (h3 : State.ok k a3) : Sound k (execMeteringSelfCheckPhase a0 a1 a2 a3) := by
  unfold execMeteringSelfCheckPhase; exact sound_next (meteringCheck_ok h3)

theorem execProcessSelfCheck_ok {k a0 a1 a2 a3} (h3 : State.ok k a3) : Sound k (execProcessSelfCheck a0 a1 a2 a3) := by
  unfold execProcessSelfCheck; exact sound_next (processCheck_ok h3)

theorem execSelfCheckReschedule_ok {k a0} (h0 : State.ok k a0) : Sound k (execSelfCheckReschedule a0) := by
  unfold execSelfCheckReschedule; exact sound_next (checksAgain_ok h0)

end Sys2Proof.Machine
end

