-- ==== Sys2Proof/Laws/SoundEnergy.lean ====
section
/-!
SUPPORT. The operations of Machine/Energy.lean keep `State.ok`, one lemma for each.
-/

namespace Sys2Proof.Machine

open Sys2Proof

theorem tallyRestore_ok {k a0} (h0 : State.ok k a0) : State.ok k (tallyRestore a0) := by
  unfold tallyRestore
  extract_lets x1 x2 x3 x4 x5 x6 x7
  have hx7 : State.ok k x7 := relay_ok (ok_put h0); clear_value x7
  exact ok_ite (countJournalled_ok hx7) hx7

theorem ensureTally_ok {k a0} (h0 : State.ok k a0) : State.ok k (ensureTally a0) := by
  unfold ensureTally; exact ok_ite h0 (tallyRestore_ok h0)

theorem State.setNrg_ok {k a0 a1} (h0 : State.ok k a0) : State.ok k (State.setNrg a0 a1) := by
  unfold State.setNrg; exact ok_put h0

theorem adoptFrame_ok {k a0 a1} (h1 : State.ok k a1) : State.ok k (adoptFrame a0 a1) := by
  unfold adoptFrame
  extract_lets x1 x2 x3 x4
  have hx4 : State.ok k x4 := State.setReg_ok (State.setNrg_ok h1); clear_value x4
  exact ok_ite (State.setReg_ok hx4) hx4

theorem frameGap_ok {k a0 a1 a2 a3} (h3 : State.ok k a3) : State.ok k (frameGap a0 a1 a2 a3) := by
  unfold frameGap
  extract_lets x1 x2 x3 x4 x5
  have hx3 : State.ok k x3 := State.setNrg_ok h3; clear_value x3
  have hx4 : State.ok k x4 := State.setNrg_ok h3; clear_value x4
  exact ok_ite h3 (ok_ite (selfCommit_ok (State.count_ok hx3)) (ok_ite (countJournalled_ok (State.setNrg_ok hx4)) hx4))

theorem frameReceive_ok {k a0} (h0 : State.ok k a0) : State.ok k (frameReceive a0) := by
  unfold frameReceive
  extract_lets x1 x2
  have hx1 : State.ok k x1 := ensureTally_ok h0; clear_value x1
  refine ok_ite ?_ ?_
  · exact h0
  · split
    · exact hx1
    · extract_lets x3
      have hx3 : State.ok k x3 := ok_put hx1; clear_value x3
      split
      · exact adoptFrame_ok hx3
      · exact adoptFrame_ok (frameGap_ok hx3)

theorem supportSet_ok {k a0 a1} (h0 : State.ok k a0) : State.ok k (supportSet a0 a1) := by
  unfold supportSet
  extract_lets x1 x2 x3 x4
  exact State.setRegI_ok (State.setRegI_ok (State.setNrg_ok h0))

theorem supportingUpdate_ok {k a0} (h0 : State.ok k a0) : State.ok k (supportingUpdate a0) := by
  unfold supportingUpdate
  extract_lets x1 x2 x3
  have hx1 : State.ok k x1 := ok_foldl (fun _ _ h4 => supportSet_ok h4) h0; clear_value x1
  have hx2 : State.ok k x2 := ok_foldl (fun _ _ h5 => State.setRegI_ok h5) hx1; clear_value x2
  exact ok_ite h0 (State.setNrg_ok hx2)

theorem phaseSet_ok {k a0 a1} (h0 : State.ok k a0) : State.ok k (phaseSet a0 a1) := by
  unfold phaseSet
  extract_lets x1 x2 x3 x4 x5
  exact State.setRegI_ok (State.setRegI_ok (State.setRegI_ok (State.setNrg_ok h0)))

theorem phaseUpdate_ok {k a0} (h0 : State.ok k a0) : State.ok k (phaseUpdate a0) := by
  unfold phaseUpdate
  extract_lets x1 x2 x3 x4 x5
  have hx2 : State.ok k x2 := ok_foldl (fun _ _ h6 => phaseSet_ok h6) (State.setNrg_ok h0); clear_value x2
  have hx3 : State.ok k x3 := State.setRegI_ok hx2; clear_value x3
  have hx4 : State.ok k x4 := ok_ite (State.setReg_ok hx3) hx3; clear_value x4
  exact ok_ite h0 (State.setNrg_ok hx4)

theorem viaManager_ok {k a0 a1} (h1 : State.ok k a1) : State.ok k (viaManager a0 a1).2 := by
  unfold viaManager
  extract_lets x1
  have hx1 : State.ok k x1.2 := commit_ok h1; clear_value x1
  exact ok_ite2 (ok_snd (ok_ite hx1 (relay_ok hx1))) (ok_snd h1)

theorem energyCommit_ok {k a0 a1} (h1 : State.ok k a1) : State.ok k (energyCommit a0 a1) := by
  unfold energyCommit
  extract_lets x1 x2 x3 x4 x5
  have hx3 : State.ok k x3.2 := viaManager_ok h1; clear_value x3
  have hx5 : State.ok k x5 := State.setReg_ok (State.setNrg_ok hx3); clear_value x5
  exact ok_ite (viaManager_ok hx5) hx3

theorem tallyCommit_ok {k a0 a1} (h1 : State.ok k a1) : State.ok k (tallyCommit a0 a1) := by
  unfold tallyCommit; exact ok_ite h1 (energyCommit_ok (ensureTally_ok h1))

theorem seamReceive_ok {k a0 a1 a2 a3} (h3 : State.ok k a3) : State.ok k (seamReceive a0 a1 a2 a3) := by
  unfold seamReceive
  extract_lets x1 x2 x3 x4
  have hx1 : State.ok k x1 := ensureTally_ok h3; clear_value x1
  have hx2 : State.ok k x2.2.2 := readNotice_ok hx1; clear_value x2
  have hx3 : State.ok k x3 := deliverNotice_ok hx2; clear_value x3
  exact ok_ite h3 (State.setNrg_ok hx3)

theorem anchorRefresh_ok {k a0} (h0 : State.ok k a0) : State.ok k (anchorRefresh a0) := by
  unfold anchorRefresh
  extract_lets x1
  exact ok_ite h0 (State.setNrg_ok h0)

theorem moveAnchor_ok {k a0 a1} (h1 : State.ok k a1) : State.ok k (moveAnchor a0 a1) := by
  unfold moveAnchor
  extract_lets x1 x2
  exact State.setNrg_ok h1

theorem actOutMode_ok {k a0 a1 a2} (h2 : State.ok k a2) : State.ok k (actOutMode a0 a1 a2).2 := by
  unfold actOutMode; exact ok_ite2 (ok_snd h2) (ok_ite2 (ok_snd h2) (ok_snd (tallyCommit_ok (State.setReg_ok h2))))

theorem execMeteringFrameReceive_ok {k a0} (h0 : State.ok k a0) : Sound k (execMeteringFrameReceive a0) := by
  unfold execMeteringFrameReceive; exact sound_next (frameReceive_ok h0)

theorem execSupportingUpdate_ok {k a0} (h0 : State.ok k a0) : Sound k (execSupportingUpdate a0) := by
  unfold execSupportingUpdate; exact sound_next (supportingUpdate_ok h0)

theorem execPhaseRmsUpdate_ok {k a0} (h0 : State.ok k a0) : Sound k (execPhaseRmsUpdate a0) := by
  unfold execPhaseRmsUpdate; exact sound_next (phaseUpdate_ok h0)

theorem execAnchorRefresh_ok {k a0} (h0 : State.ok k a0) : Sound k (execAnchorRefresh a0) := by
  unfold execAnchorRefresh; exact sound_next (anchorRefresh_ok h0)

theorem execSeamReceive_ok {k a0 a1 a2 a3} (h3 : State.ok k a3) : Sound k (execSeamReceive a0 a1 a2 a3) := by
  unfold execSeamReceive; exact sound_next (seamReceive_ok h3)

theorem execEnergyCommit_ok {k a0} (h0 : State.ok k a0) : Sound k (execEnergyCommit a0) := by
  unfold execEnergyCommit; exact sound_next (tallyCommit_ok h0)

theorem execTallyRestore_ok {k a0} (h0 : State.ok k a0) : Sound k (execTallyRestore a0) := by
  unfold execTallyRestore; exact sound_next (ok_ite (tallyRestore_ok h0) h0)

end Sys2Proof.Machine
end

