-- ==== Sys2Proof/Laws/SoundBoxOffice.lean ====
section
/-!
SUPPORT. The operations of Machine/BoxOffice.lean keep `State.ok`, one lemma for each.
-/

namespace Sys2Proof.Machine

open Sys2Proof

theorem settleRate_ok {k a0} (h0 : State.ok k a0) : State.ok k (settleRate a0) := by
  unfold settleRate
  extract_lets x1
  split
  · exact ok_ite (State.setReg_ok (ok_put h0)) h0
  · exact h0

theorem postSeam_ok {k a0} (h0 : State.ok k a0) : State.ok k (postSeam a0) := by
  unfold postSeam
  extract_lets x1
  have hx1 : State.ok k x1.2 := State.drawBits_ok h0; clear_value x1
  exact post_ok hx1

theorem calendarEvaluate_ok {k a0 a1} (h1 : State.ok k a1) : State.ok k (calendarEvaluate a0 a1) := by
  unfold calendarEvaluate
  extract_lets x1 x2 x3 x4
  have hx1 : State.ok k x1 := settleRate_ok h1; clear_value x1
  exact ok_ite h1 (ok_ite hx1 (ok_ite (postSeam_ok (ok_put hx1)) (postSeam_ok (State.setReg_ok hx1))))

theorem costAccrue_ok {k a0} (h0 : State.ok k a0) : State.ok k (costAccrue a0) := by
  unfold costAccrue
  extract_lets x1 x2
  split
  · exact h0
  · extract_lets x3 x4 x5 x6 x7
    have hx6 : State.ok k x6 := ok_put h0; clear_value x6
    have hx7 : State.ok k x7 := State.setRegI_ok (State.setReg_ok hx6); clear_value x7
    exact ok_ite h0 (ok_ite (State.setRegI_ok hx7) hx7)

theorem reportFloor_ok {k a0} (h0 : State.ok k a0) : State.ok k (reportFloor a0) := by
  unfold reportFloor
  extract_lets x1
  exact ok_ite (relay_ok (ok_put h0)) h0

theorem actEmergReq_ok {k a0 a1} (h1 : State.ok k a1) : State.ok k (actEmergReq a0 a1).2 := by
  unfold actEmergReq; exact ok_ite2 (ok_snd h1) (ok_ite2 (ok_snd (State.setReg_ok h1)) (ok_snd h1))

theorem demandRecord_ok {k a0 a1} (h1 : State.ok k a1) : State.ok k (demandRecord a0 a1) := by
  unfold demandRecord; exact viaManager_ok h1

theorem spoilDemand_ok {k a0} (h0 : State.ok k a0) : State.ok k (spoilDemand a0) := by
  unfold spoilDemand
  extract_lets x1
  exact ok_put h0

theorem demandAnew_ok {k a0} (h0 : State.ok k a0) : State.ok k (demandAnew a0) := by
  unfold demandAnew
  extract_lets x1
  exact ok_put h0

theorem demandEnd_ok {k a0} (h0 : State.ok k a0) : State.ok k (demandEnd a0) := by
  unfold demandEnd
  extract_lets x1 x2 x3 x4 x5 x6 x7 x8
  have hx1 : State.ok k x1 := ok_ite (spoilDemand_ok h0) h0; clear_value x1
  have hx8 : State.ok k x8 := ok_put hx1; clear_value x8
  refine ok_ite ?_ ?_
  · exact h0
  · clear_value x6
    split
    · exact hx8
    · extract_lets x16 x17 x18
      have hx17 : State.ok k x17 := State.setReg_ok hx8; clear_value x17
      exact ok_ite (demandRecord_ok (State.setReg_ok (State.setReg_ok hx17))) hx17

theorem resetMd_ok {k a0 a1} (h0 : State.ok k a0) : State.ok k (resetMd a0 a1) := by
  unfold resetMd; exact State.count_ok (State.setReg_ok (State.setReg_ok h0))

theorem actMdReset_ok {k a0 a1} (h1 : State.ok k a1) : State.ok k (actMdReset a0 a1).2 := by
  unfold actMdReset
  extract_lets x1
  exact ok_ite2 (ok_snd h1) (ok_snd (demandRecord_ok (ok_foldl (fun _ _ h2 => resetMd_ok h2) h1)))

theorem setToken_ok {k a0 a1} (h1 : State.ok k a1) : State.ok k (setToken a0 a1) := by
  unfold setToken
  extract_lets x1
  exact ok_put h1

theorem tokenResult_ok {k a0 a1 a2 a3} (h3 : State.ok k a3) : State.ok k (tokenResult a0 a1 a2 a3) := by
  unfold tokenResult; exact State.setReg_ok h3

theorem keypadFailure_ok {k a0} (h0 : State.ok k a0) : State.ok k (keypadFailure a0) := by
  unfold keypadFailure
  extract_lets x1 x2 x3 x4
  have hx1 : State.ok k x1 := countJournalled_ok h0; clear_value x1
  have hx4 : State.ok k x4 := ok_put hx1; clear_value x4
  exact ok_ite (State.setReg_ok (tamperStart_ok (relay_ok hx4))) (ok_put hx1)

theorem tokenEnd_ok {k a0 a1 a2 a3} (h3 : State.ok k a3) : State.ok k (tokenEnd a0 a1 a2 a3) := by
  unfold tokenEnd
  extract_lets x1
  have hx1 : State.ok k x1 := tokenResult_ok (setToken_ok h3); clear_value x1
  exact ok_ite (keypadFailure_ok hx1) hx1

theorem tokenStart_ok {k a0 a1 a2} (h2 : State.ok k a2) : State.ok k (tokenStart a0 a1 a2) := by
  unfold tokenStart
  extract_lets x1
  exact ok_ite (tokenResult_ok h2) (setToken_ok h2)

theorem actTokenIn_ok {k a0 a1} (h1 : State.ok k a1) : State.ok k (actTokenIn a0 a1).2 := by
  unfold actTokenIn; exact ok_ite2 (ok_snd h1) (ok_ite2 (ok_snd h1) (ok_snd (tokenStart_ok h1)))

theorem keypadEnter_ok {k a0} (h0 : State.ok k a0) : State.ok k (keypadEnter a0) := by
  unfold keypadEnter
  extract_lets x1 x2 x3
  have hx3 : State.ok k x3 := ok_put h0; clear_value x3
  exact ok_ite h0 (ok_ite (tokenStart_ok hx3) hx3)

theorem answerTag_ok {k a0 a1 a2 a3} (h3 : State.ok k a3) : State.ok k (answerTag a0 a1 a2 a3) := by
  unfold answerTag
  extract_lets x1
  have hx1 : State.ok k x1 := deliverNotice_ok (readNotice_ok h3); clear_value x1
  exact ok_ite (ackNotice_ok hx1) h3

theorem postTen_ok {k a0 a1 a2 a3} (h3 : State.ok k a3) : State.ok k (postTen a0 a1 a2 a3) := by
  unfold postTen; exact ok_ite (post_ok h3) h3

theorem tokenCancel_ok {k a0 a1 a2} (h2 : State.ok k a2) : State.ok k (tokenCancel a0 a1 a2) := by
  unfold tokenCancel; exact tokenEnd_ok (State.setReg_ok (cancelNotice_ok h2))

theorem tokenDecode_ok {k a0} (h0 : State.ok k a0) : State.ok k (tokenDecode a0) := by
  unfold tokenDecode
  extract_lets x1
  have hx1 : State.ok k x1.2 := State.drawBits_ok h0; clear_value x1
  split
  · exact h0
  · extract_lets x2 x3 x4 x5 x6 x7 x8 x9 x10
    have hx7 : State.ok k x7 := answerTag_ok (post_ok (postTen_ok (setToken_ok hx1))); clear_value x7
    have hx8 : State.ok k x8 := ok_ite (State.setReg_ok hx7) hx7; clear_value x8
    exact ok_ite h0 (ok_ite (tokenEnd_ok h0) (ok_ite (tokenEnd_ok h0) (ok_ite (tokenEnd_ok h0) (ok_ite (post_ok (setToken_ok hx8)) (tokenCancel_ok hx8)))))

theorem keyChange_ok {k a0 a1 a2} (h2 : State.ok k a2) : State.ok k (keyChange a0 a1 a2) := by
  unfold keyChange
  extract_lets x1 x2 x3 x4
  have hx4 : State.ok k x4 := ok_put h2; clear_value x4
  exact tamperStart_ok (setJournalled_ok hx4)

theorem classEffect_ok {k a0 a1} (h1 : State.ok k a1) : State.ok k (classEffect a0 a1) := by
  unfold classEffect
  extract_lets x1 x2 x3 x4 x5 x6
  have hx1 : State.ok k x1 := State.setRegI_ok h1
  have hx3 : State.ok k x3 := ok_put hx1
  refine ok_ite ?_ ?_
  · exact ok_ite (State.setReg_ok hx3) hx3
  · refine ok_ite ?_ ?_
    · exact ok_put h1
    · refine ok_ite ?_ ?_
      · split
        · exact keyChange_ok h1
        · exact h1
      · exact ok_ite (ok_ite h1 (setJournalled_ok h1)) (ok_ite (ok_ite h1 (setJournalled_ok h1)) h1)

theorem tokenAck_ok {k a0 a1} (h1 : State.ok k a1) : State.ok k (tokenAck a0 a1) := by
  unfold tokenAck
  split
  · exact h1
  · extract_lets x1 x2 x3 x4 x5
    have hx1 : State.ok k x1.2 := commit_ok h1; clear_value x1
    have hx2 : State.ok k x2 := answerTag_ok hx1; clear_value x2
    have hx4 : State.ok k x4 := classEffect_ok (State.setReg_ok (State.setReg_ok hx2)); clear_value x4
    have hx5 : State.ok k x5.2 := State.drawBits_ok hx4; clear_value x5
    exact ok_ite h1 (ok_ite (tokenEnd_ok (postTen_ok (State.setReg_ok hx5))) (tokenCancel_ok hx2))

theorem tamperInput_ok {k a0 a1 a2} (h2 : State.ok k a2) : State.ok k (tamperInput a0 a1 a2) := by
  unfold tamperInput
  extract_lets x1
  exact ok_ite h2 (ok_ite (tamperOpen_ok h2) (tamperClose_ok h2))

theorem reverseTimer_ok {k a0 a1} (h1 : State.ok k a1) : State.ok k (reverseTimer a0 a1) := by
  unfold reverseTimer; exact ok_ite h1 (ok_ite (ok_ite h1 (tamperOpen_ok (relay_ok h1))) (ok_ite h1 (ok_ite (tamperClose_ok (relay_ok h1)) h1)))

theorem clockSetBack_ok {k a0 a1} (h1 : State.ok k a1) : State.ok k (clockSetBack a0 a1) := by
  unfold clockSetBack
  extract_lets x1
  have hx1 : State.ok k x1 := spoilDemand_ok h1; clear_value x1
  exact ok_ite (tamperStart_ok hx1) hx1

theorem setStageTime_ok {k a0 a1} (h1 : State.ok k a1) : State.ok k (setStageTime a0 a1) := by
  unfold setStageTime
  extract_lets x1 x2 x3
  have hx3 : State.ok k x3 := moveAnchor_ok (ok_put h1); clear_value x3
  exact calendarEvaluate_ok (ok_ite (clockSetBack_ok hx3) hx3)

theorem boxForget_ok {k a0} (h0 : State.ok k a0) : State.ok k (boxForget a0) := by
  unfold boxForget
  extract_lets x1
  exact ok_put h0

theorem boxRestore_ok {k a0} (h0 : State.ok k a0) : State.ok k (boxRestore a0) := by
  unfold boxRestore; exact State.setRegs_ok (boxForget_ok h0)

theorem tenReport_ok {k a0} (h0 : State.ok k a0) : State.ok k (tenReport a0) := by
  unfold tenReport
  extract_lets x1
  have hx1 : State.ok k x1.2 := State.drawBits_ok h0; clear_value x1
  exact ok_ite (postTen_ok hx1) h0

theorem sessionLatch_ok {k a0 a1 a2} (h2 : State.ok k a2) : State.ok k (sessionLatch a0 a1 a2) := by
  unfold sessionLatch
  extract_lets x1 x2 x3 x4 x5
  have hx1 : State.ok k x1 := relay_ok (ensureTally_ok h2); clear_value x1
  have hx5 : State.ok k x5 := costAccrue_ok hx1; clear_value x5
  refine ok_ite ?_ ?_
  · exact h2
  · split
    · exact hx1
    · extract_lets x6 x7 x8
      have hx6 : State.ok k x6.2 := viaManager_ok hx5; clear_value x6
      have hx7 : State.ok k x7 := hx6; clear_value x7
      exact ok_ite hx1 (ok_ite (ok_put hx1) (ok_put hx7))

theorem execCalendarEvaluate_ok {k a0 a1} (h1 : State.ok k a1) : Sound k (execCalendarEvaluate a0 a1) := by
  unfold execCalendarEvaluate; exact sound_next (calendarEvaluate_ok h1)

theorem execDemandSubIntervalEnd_ok {k a0} (h0 : State.ok k a0) : Sound k (execDemandSubIntervalEnd a0) := by
  unfold execDemandSubIntervalEnd; exact sound_next (demandEnd_ok h0)

theorem execTokenEntryTimeout_ok {k a0} (h0 : State.ok k a0) : Sound k (execTokenEntryTimeout a0) := by
  unfold execTokenEntryTimeout; exact sound_next (ok_put h0)

theorem execTokenDecodeComplete_ok {k a0} (h0 : State.ok k a0) : Sound k (execTokenDecodeComplete a0) := by
  unfold execTokenDecodeComplete; exact sound_next (tokenDecode_ok h0)

theorem execTokenRecordAck_ok {k a0} (h0 : State.ok k a0) : Sound k (execTokenRecordAck a0) := by
  unfold execTokenRecordAck; exact sound_next (tokenAck_ok h0)

theorem execCreditToken_ok {k a0} (h0 : State.ok k a0) : Sound k (execCreditToken a0) := by
  unfold execCreditToken; exact sound_next (tokenAck_ok h0)

theorem execKeyChangePartOne_ok {k a0} (h0 : State.ok k a0) : Sound k (execKeyChangePartOne a0) := by
  unfold execKeyChangePartOne; exact sound_next (tokenAck_ok h0)

theorem execKeyChangePartTwo_ok {k a0} (h0 : State.ok k a0) : Sound k (execKeyChangePartTwo a0) := by
  unfold execKeyChangePartTwo; exact sound_next (tokenAck_ok h0)

theorem execKeyChangePartOneExpiry_ok {k a0} (h0 : State.ok k a0) : Sound k (execKeyChangePartOneExpiry a0) := by
  unfold execKeyChangePartOneExpiry; exact sound_next (ok_put h0)

theorem execClearTamperToken_ok {k a0} (h0 : State.ok k a0) : Sound k (execClearTamperToken a0) := by
  unfold execClearTamperToken; exact sound_next (tokenAck_ok h0)

theorem execSetTariffIndexToken_ok {k a0} (h0 : State.ok k a0) : Sound k (execSetTariffIndexToken a0) := by
  unfold execSetTariffIndexToken; exact sound_next (tokenAck_ok h0)

theorem execTestToken_ok {k a0} (h0 : State.ok k a0) : Sound k (execTestToken a0) := by
  unfold execTestToken; exact sound_next (tokenAck_ok h0)

theorem execTamperInputChange_ok {k a0 a1 a2} (h2 : State.ok k a2) : Sound k (execTamperInputChange a0 a1 a2) := by
  unfold execTamperInputChange; exact sound_next (tamperInput_ok h2)

theorem execReverseEnergyTimer_ok {k a0 a1} (h1 : State.ok k a1) : Sound k (execReverseEnergyTimer a0 a1) := by
  unfold execReverseEnergyTimer; exact sound_next (reverseTimer_ok h1)

theorem execBoxRestore_ok {k a0} (h0 : State.ok k a0) : Sound k (execBoxRestore a0) := by
  unfold execBoxRestore; exact sound_next (ok_ite (boxRestore_ok h0) h0)

theorem execChannel10StateReport_ok {k a0} (h0 : State.ok k a0) : Sound k (execChannel10StateReport a0) := by
  unfold execChannel10StateReport; exact sound_next (tenReport_ok h0)

theorem execSessionLatch_ok {k a0 a1 a2} (h2 : State.ok k a2) : Sound k (execSessionLatch a0 a1 a2) := by
  unfold execSessionLatch; exact sound_next (sessionLatch_ok h2)

end Sys2Proof.Machine
end

