-- ==== Sys2Proof/Laws/SoundVehicle.lean ====
section
/-!
SUPPORT. The operations of Machine/Vehicle.lean keep `State.ok`, one lemma for each.
-/

namespace Sys2Proof.Machine

open Sys2Proof

theorem setSes_ok {k a0 a1} (h1 : State.ok k a1) : State.ok k (setSes a0 a1) := by
  unfold setSes; exact State.setReg_ok h1

theorem State.setVeh_ok {k a0 a1} (h0 : State.ok k a0) : State.ok k (State.setVeh a0 a1) := by
  unfold State.setVeh; exact ok_put h0

theorem drive_ok {k a0 a1 a2} (h2 : State.ok k a2) : State.ok k (drive a0 a1 a2) := by
  unfold drive
  extract_lets x1 x2 x3
  have hx2 : State.ok k x2 := ok_ite h2 (State.setVeh_ok h2); clear_value x2
  have hx3 : State.ok k x3 := State.setReg_ok hx2; clear_value x3
  exact ok_ite (State.setReg_ok hx3) (ok_ite (State.setReg_ok hx3) hx3)

theorem driveHigh_ok {k a0} (h0 : State.ok k a0) : State.ok k (driveHigh a0) := by
  unfold driveHigh; exact drive_ok h0

theorem driveLimit_ok {k a0} (h0 : State.ok k a0) : State.ok k (driveLimit a0) := by
  unfold driveLimit; exact ok_ite (driveHigh_ok h0) (drive_ok h0)

theorem driveFive_ok {k a0} (h0 : State.ok k a0) : State.ok k (driveFive a0) := by
  unfold driveFive
  extract_lets x1
  have hx1 : State.ok k x1 := drive_ok h0; clear_value x1
  exact ok_ite (State.setReg_ok hx1) hx1

theorem moduleZero_ok {k a0} (h0 : State.ok k a0) : State.ok k (moduleZero a0) := by
  unfold moduleZero
  extract_lets x1
  exact State.setVeh_ok h0

theorem startWeldCheck_ok {k a0} (h0 : State.ok k a0) : State.ok k (startWeldCheck a0) := by
  unfold startWeldCheck
  extract_lets x1
  exact setSes_ok (ok_ite (State.setVeh_ok h0) (State.setVeh_ok h0))

theorem cutSession_ok {k a0 a1} (h1 : State.ok k a1) : State.ok k (cutSession a0 a1) := by
  unfold cutSession
  extract_lets x1 x2
  have hx1 : State.ok k x1 := openPairs_ok h1; clear_value x1
  have hx2 : State.ok k x2 := moduleZero_ok (State.setReg_ok hx1); clear_value x2
  exact ok_ite hx1 (ok_ite (startWeldCheck_ok hx2) (setSes_ok hx2))

theorem windSession_ok {k a0 a1} (h1 : State.ok k a1) : State.ok k (windSession a0 a1) := by
  unfold windSession
  extract_lets x1
  exact ok_ite h1 (ok_ite (setSes_ok (moduleZero_ok (State.setReg_ok h1))) (ok_ite (setSes_ok (driveHigh_ok (State.setReg_ok (State.setVeh_ok h1)))) (driveHigh_ok (cutSession_ok h1))))

theorem sessionCheck_ok {k a0 a1} (h1 : State.ok k a1) : State.ok k (sessionCheck a0 a1) := by
  unfold sessionCheck; exact ok_ite (driveHigh_ok (cutSession_ok h1)) h1

theorem violation_ok {k a0 a1 a2} (h2 : State.ok k a2) : State.ok k (violation a0 a1 a2) := by
  unfold violation
  extract_lets x1 x2
  have hx1 : State.ok k x1 := State.count_ok (State.setReg_ok h2); clear_value x1
  have hx2 : State.ok k x2 := notifyMain_ok hx1; clear_value x2
  exact ok_ite (safetyEvent_ok (safetyEvent_ok hx2)) hx2

theorem violationCut_ok {k a0 a1 a2 a3} (h3 : State.ok k a3) : State.ok k (violationCut a0 a1 a2 a3) := by
  unfold violationCut; exact drive_ok (cutSession_ok (violation_ok h3))

theorem recomputeLimit_ok {k a0} (h0 : State.ok k a0) : State.ok k (recomputeLimit a0) := by
  unfold recomputeLimit
  extract_lets x1 x2 x3
  have hx2 : State.ok k x2 := State.setVeh_ok h0; clear_value x2
  exact ok_ite h0 (ok_ite hx2 (ok_ite (ok_ite (driveHigh_ok (State.setVeh_ok hx2)) (driveLimit_ok hx2)) (ok_ite (driveLimit_ok hx2) hx2)))

theorem slacAgain_ok {k a0} (h0 : State.ok k a0) : State.ok k (slacAgain a0) := by
  unfold slacAgain
  extract_lets x1
  split
  · exact h0
  · exact ok_ite (driveFive_ok (State.setVeh_ok h0)) h0

theorem acResume_ok {k a0} (h0 : State.ok k a0) : State.ok k (acResume a0) := by
  unfold acResume
  extract_lets x1
  exact ok_ite (ok_ite h0 (driveLimit_ok (State.setVeh_ok h0))) h0

theorem proximityLost_ok {k a0 a1} (h1 : State.ok k a1) : State.ok k (proximityLost a0 a1) := by
  unfold proximityLost
  extract_lets x1 x2
  have hx2 : State.ok k x2 := State.setVeh_ok (State.setReg_ok h1); clear_value x2
  exact ok_ite h1 (ok_ite (violationCut_ok hx2) hx2)

theorem openSession_ok {k a0 a1 a2 a3} (h3 : State.ok k a3) : State.ok k (openSession a0 a1 a2 a3) := by
  unfold openSession
  extract_lets x1 x2
  exact State.setReg_ok (ok_put h3)

theorem authorise_ok {k a0 a1 a2} (h2 : State.ok k a2) : State.ok k (authorise a0 a1 a2) := by
  unfold authorise
  extract_lets x1 x2 x3 x4
  have hx2 : State.ok k x2 := State.setVeh_ok h2; clear_value x2
  have hx3 : State.ok k x3 := setSes_ok (openSession_ok hx2); clear_value x3
  exact ok_ite (ok_ite (relay_ok hx2) hx2) (ok_ite hx3 (ok_ite (driveFive_ok hx3) (driveLimit_ok (State.setVeh_ok hx3))))

theorem leavePlugged_ok {k a0} (h0 : State.ok k a0) : State.ok k (leavePlugged a0) := by
  unfold leavePlugged
  split
  · exact h0
  · exact ok_ite (authorise_ok h0) h0

theorem grantSession_ok {k a0 a1 a2} (h2 : State.ok k a2) : State.ok k (grantSession a0 a1 a2) := by
  unfold grantSession
  extract_lets x1
  exact ok_ite (leavePlugged_ok (State.setVeh_ok h2)) h2

theorem limitRecompute_ok {k a0 a1} (h1 : State.ok k a1) : State.ok k (limitRecompute a0 a1) := by
  unfold limitRecompute
  extract_lets x1 x2
  have hx2 : State.ok k x2 := ok_ite (State.setVeh_ok (State.setReg_ok h1)) h1; clear_value x2
  exact leavePlugged_ok (slacAgain_ok (recomputeLimit_ok hx2))

theorem newPlug_ok {k a0} (h0 : State.ok k a0) : State.ok k (newPlug a0) := by
  unfold newPlug
  extract_lets x1 x2
  have hx1 : State.ok k x1 := State.setReg_ok (State.setReg_ok (setSes_ok h0)); clear_value x1
  have hx2 : State.ok k x2 := State.setVeh_ok hx1; clear_value x2
  exact ok_ite (driveHigh_ok h0) (ok_ite (driveFive_ok hx2) (driveHigh_ok hx2))

theorem closeAc_ok {k a0} (h0 : State.ok k a0) : State.ok k (closeAc a0) := by
  unfold closeAc
  extract_lets x1 x2 x3
  have hx2 : State.ok k x2 := closePairs_ok h0; clear_value x2
  exact ok_ite (State.setVeh_ok h0) (ok_ite h0 (ok_ite (setSes_ok (State.setVeh_ok hx2)) hx2))

theorem stateA_ok {k a0} (h0 : State.ok k a0) : State.ok k (stateA a0) := by
  unfold stateA
  extract_lets x1 x2 x3 x4 x5 x6 x7
  have hx1 : State.ok k x1 := clearEarth_ok h0; clear_value x1
  have hx4 : State.ok k x4 := State.setVeh_ok hx1; clear_value x4
  have hx5 : State.ok k x5 := ok_put hx4; clear_value x5
  have hx6 : State.ok k x6 := ok_ite (State.setReg_ok hx5) hx5; clear_value x6
  have hx7 : State.ok k x7 := driveHigh_ok (cutSession_ok hx6); clear_value x7
  exact ok_ite (violationCut_ok hx6) (ok_ite (setSes_ok hx7) hx7)

theorem stateB_ok {k a0} (h0 : State.ok k a0) : State.ok k (stateB a0) := by
  unfold stateB
  extract_lets x1 x2 x3
  have hx2 : State.ok k x2 := State.setVeh_ok h0; clear_value x2
  have hx3 : State.ok k x3 := openPairs_ok hx2; clear_value x3
  exact ok_ite (newPlug_ok hx2) (ok_ite (leavePlugged_ok hx2) (ok_ite (ok_ite hx3 (setSes_ok hx3)) (ok_ite (startWeldCheck_ok (openPairs_ok hx2)) (ok_ite (driveHigh_ok (cutSession_ok hx2)) hx2))))

theorem stateC_ok {k a0} (h0 : State.ok k a0) : State.ok k (stateC a0) := by
  unfold stateC; exact ok_ite (newPlug_ok h0) (ok_ite (closeAc_ok h0) h0)

theorem noteChange_ok {k a0} (h0 : State.ok k a0) : State.ok k (noteChange a0) := by
  unfold noteChange
  extract_lets x1
  exact State.setVeh_ok h0

theorem pilotAct_ok {k a0 a1 a2 a3} (h3 : State.ok k a3) : State.ok k (pilotAct a0 a1 a2 a3) := by
  unfold pilotAct
  extract_lets x1 x2
  have hx1 : State.ok k x1 := violationCut_ok h3; clear_value x1
  exact ok_ite (violationCut_ok h3) (ok_ite (violationCut_ok h3) (ok_ite (violationCut_ok h3) (ok_ite (State.setVeh_ok hx1) (ok_ite (stateA_ok h3) (ok_ite (driveHigh_ok (violation_ok h3)) (ok_ite (stateB_ok h3) (ok_ite (openPairs_ok h3) (stateC_ok h3))))))))

theorem countPeriod_ok {k a0 a1 a2} (h2 : State.ok k a2) : State.ok k (countPeriod a0 a1 a2) := by
  unfold countPeriod
  extract_lets x1 x2 x3
  exact State.setVeh_ok h2

theorem pilotReport_ok {k a0 a1 a2} (h2 : State.ok k a2) : State.ok k (pilotReport a0 a1 a2) := by
  unfold pilotReport
  extract_lets x1 x2 x3 x4
  have hx1 : State.ok k x1 := ok_ite (driveHigh_ok h2) h2; clear_value x1
  have hx4 : State.ok k x4 := countPeriod_ok (State.setRegI_ok (State.setRegI_ok hx1)); clear_value x4
  exact ok_ite (drive_ok h2) (ok_ite (State.setRegI_ok (State.setRegI_ok h2)) (ok_ite hx4 (pilotAct_ok (ok_ite hx4 (noteChange_ok (State.setReg_ok hx4))))))

theorem acEndingTimeout_ok {k a0} (h0 : State.ok k a0) : State.ok k (acEndingTimeout a0) := by
  unfold acEndingTimeout; exact ok_ite h0 (ok_ite (startWeldCheck_ok (openPairs_ok h0)) (ok_ite (openPairs_ok h0) h0))

theorem welded_ok {k a0 a1} (h1 : State.ok k a1) : State.ok k (welded a0 a1) := by
  unfold welded; exact State.setReg_ok (latchBoth_ok h1)

theorem acWeldEnd_ok {k a0} (h0 : State.ok k a0) : State.ok k (acWeldEnd a0) := by
  unfold acWeldEnd
  extract_lets x1
  exact ok_ite (setSes_ok (ok_ite h0 (welded_ok h0))) h0

theorem stateDTimeout_ok {k a0 a1} (h1 : State.ok k a1) : State.ok k (stateDTimeout a0 a1) := by
  unfold stateDTimeout; exact ok_ite (cutSession_ok (violation_ok h1)) h1

theorem stateCTimeout_ok {k a0 a1} (h1 : State.ok k a1) : State.ok k (stateCTimeout a0 a1) := by
  unfold stateCTimeout; exact ok_ite (startWeldCheck_ok (State.setReg_ok (openPairs_ok (violation_ok h1)))) h1

theorem acOvercurrent_ok {k a0 a1} (h1 : State.ok k a1) : State.ok k (acOvercurrent a0 a1) := by
  unfold acOvercurrent; exact ok_ite (windSession_ok (violation_ok h1)) h1

theorem stateFEnd_ok {k a0} (h0 : State.ok k a0) : State.ok k (stateFEnd a0) := by
  unfold stateFEnd; exact ok_ite (driveHigh_ok h0) h0

theorem earthFault_ok {k a0 a1} (h1 : State.ok k a1) : State.ok k (earthFault a0 a1) := by
  unfold earthFault
  extract_lets x1 x2 x3
  have hx1 : State.ok k x1 := State.setReg_ok h1; clear_value x1
  have hx3 : State.ok k x3 := settle_ok (ok_put hx1); clear_value x3
  exact safetyEvent_ok (safetyEvent_ok hx3)

theorem earthCause_ok {k a0 a1 a2} (h2 : State.ok k a2) : State.ok k (earthCause a0 a1 a2) := by
  unfold earthCause
  extract_lets x1
  exact ok_put h2

theorem isolationPeriod_ok {k a0 a1} (h1 : State.ok k a1) : State.ok k (isolationPeriod a0 a1) := by
  unfold isolationPeriod
  extract_lets x1 x2 x3 x4 x5 x6 x7 x8
  have hx2 : State.ok k x2 := State.setReg_ok h1; clear_value x2
  have hx3 : State.ok k x3 := State.setReg_ok hx2; clear_value x3
  have hx8 : State.ok k x8 := earthCause_ok (State.setVeh_ok hx3); clear_value x8
  exact ok_ite h1 (ok_ite (cutSession_ok (earthFault_ok hx8)) hx8)

theorem residualUpdate_ok {k a0 a1} (h1 : State.ok k a1) : State.ok k (residualUpdate a0 a1) := by
  unfold residualUpdate
  extract_lets x1 x2 x3 x4 x5 x6 x7 x8 x9 x10 x11
  have hx5 : State.ok k x5 := State.setRegI_ok (State.setVeh_ok h1); clear_value x5
  have hx6 : State.ok k x6 := earthCause_ok hx5; clear_value x6
  have hx11 : State.ok k x11 := earthCause_ok (State.setVeh_ok hx6); clear_value x11
  exact ok_ite h1 (ok_ite hx6 (ok_ite (driveHigh_ok (cutSession_ok (earthFault_ok hx11))) hx11))

theorem rcSensorFault_ok {k a0} (h0 : State.ok k a0) : State.ok k (rcSensorFault a0) := by
  unfold rcSensorFault; exact ok_ite (driveHigh_ok (cutSession_ok (earthFault_ok h0))) h0

theorem rcSelfTest_ok {k a0 a1} (h1 : State.ok k a1) : State.ok k (rcSelfTest a0 a1) := by
  unfold rcSelfTest
  extract_lets x1 x2 x3 x4
  have hx2 : State.ok k x2 := State.setVeh_ok h1; clear_value x2
  have hx4 : State.ok k x4 := State.setVeh_ok hx2; clear_value x4
  exact ok_ite h1 (ok_ite (ok_ite (stateC_ok hx4) hx4) (earthCause_ok (driveHigh_ok (cutSession_ok (earthFault_ok hx2)))))

theorem hlcReply_ok {k a0 a1 a2 a3} (h3 : State.ok k a3) : State.ok k (hlcReply a0 a1 a2 a3) := by
  unfold hlcReply; exact State.emit_ok h3

theorem closeTcp_ok {k a0} (h0 : State.ok k a0) : State.ok k (closeTcp a0) := by
  unfold closeTcp
  extract_lets x1
  exact State.setVeh_ok (State.emit_ok h0)

theorem codeFor_ok {k a0 a1} (h1 : State.ok k a1) : State.ok k (codeFor a0 a1).2 := by
  unfold codeFor
  extract_lets x1
  have hx1 : State.ok k x1.2 := State.drawBits_ok h1; clear_value x1
  exact ok_ite2 (ok_snd h1) (ok_snd hx1)

theorem hlcFail_ok {k a0 a1 a2 a3} (h3 : State.ok k a3) : State.ok k (hlcFail a0 a1 a2 a3) := by
  unfold hlcFail
  extract_lets x1 x2
  have hx1 : State.ok k x1.2 := codeFor_ok (violation_ok h3); clear_value x1
  have hx2 : State.ok k x2 := closeTcp_ok (hlcReply_ok hx1); clear_value x2
  exact ok_ite (windSession_ok hx2) (driveHigh_ok (cutSession_ok hx2))

theorem hlcGuard_ok {k a0 a1 a2 a3 a4 a5} (h5 : State.ok k a5) (hf : State.ok k (a4 a5)) :
    State.ok k (hlcGuard a0 a1 a2 a3 a4 a5) := by
  unfold hlcGuard
  exact ok_ite h5 (ok_ite (driveHigh_ok (cutSession_ok (closeTcp_ok (violation_ok h5)))) (ok_ite (hlcFail_ok h5)
    (ok_ite (hlcFail_ok h5) hf)))

theorem appProtocol_ok {k a0 a1 a2 a3} (h3 : State.ok k a3) : State.ok k (appProtocol a0 a1 a2 a3) := by
  unfold appProtocol
  extract_lets x1 x2 x3 x4
  have hx2 : State.ok k x2 := State.setVeh_ok h3; clear_value x2
  have hx3 : State.ok k x3 := closeTcp_ok (hlcReply_ok (violation_ok hx2)); clear_value x3
  refine ok_ite h3 (ok_ite (driveHigh_ok (cutSession_ok (closeTcp_ok (violation_ok h3)))) (ok_ite (hlcFail_ok h3) ?_))
  · split
    · exact hlcReply_ok (State.setReg_ok hx2)
    · exact ok_ite (driveHigh_ok (cutSession_ok hx3)) (ok_ite (driveLimit_ok (State.setVeh_ok hx3)) (driveHigh_ok hx3))

theorem sessionSetup_ok {k a0 a1 a2} (h2 : State.ok k a2) : State.ok k (sessionSetup a0 a1 a2) := by
  unfold sessionSetup
  extract_lets x1 x2
  have hx1 : State.ok k x1.2 := State.drawBits_ok h2; clear_value x1
  refine ok_ite ?_ ?_
  · exact h2
  · refine ok_ite ?_ ?_
    · exact driveHigh_ok (cutSession_ok (closeTcp_ok (violation_ok h2)))
    · split
      · exact ok_ite (hlcReply_ok h2) (hlcFail_ok h2)
      · exact hlcReply_ok (State.setVeh_ok hx1)

theorem authorization_ok {k a0 a1} (h1 : State.ok k a1) : State.ok k (authorization a0 a1) := by
  unfold authorization
  split
  · exact hlcReply_ok h1
  · extract_lets x1
    have hx1 : State.ok k x1 := grantSession_ok h1; clear_value x1
    split
    · exact hlcFail_ok h1
    · exact hlcReply_ok hx1

theorem cableCheck_ok {k a0 a1 a2 a3} (h3 : State.ok k a3) : State.ok k (cableCheck a0 a1 a2 a3) := by
  unfold cableCheck
  extract_lets x1 x2 x3
  have hx2 : State.ok k x2 := State.setVeh_ok h3; clear_value x2
  have hx3 : State.ok k x3 := closePairs_ok hx2; clear_value x3
  exact ok_ite (hlcReply_ok h3) (ok_ite (hlcFail_ok h3) (ok_ite (driveHigh_ok (cutSession_ok (closeTcp_ok (hlcReply_ok h3)))) (ok_ite (hlcReply_ok (setSes_ok hx3)) (driveHigh_ok (cutSession_ok hx3)))))

theorem clampTarget_ok {k a0 a1 a2 r} (h2 : State.ok k a2) (e : clampTarget a0 a1 a2 = some r) : State.ok k r.2.2.2.2 := by
  unfold clampTarget at e
  split at e
  · cases e
  · cases e
    exact ok_ite (violation_ok h2) h2

theorem preCharge_ok {k a0 a1 a2} (h2 : State.ok k a2) : State.ok k (preCharge a0 a1 a2) := by
  unfold preCharge
  split
  · exact hlcFail_ok h2
  · rename_i v a hv hi s e
    have hs : State.ok k s := clampTarget_ok h2 e
    extract_lets x1 x2
    exact hlcReply_ok (setSes_ok (State.setVeh_ok hs))

theorem prechargeMet_ok {k a0} (h0 : State.ok k a0) : State.ok k (prechargeMet a0) := by
  unfold prechargeMet; exact ok_ite (closePairs_ok h0) h0

theorem prechargeSo2_ok {k a0} (h0 : State.ok k a0) : State.ok k (prechargeSo2 a0) := by
  unfold prechargeSo2
  extract_lets x1
  exact ok_ite (State.setVeh_ok (openPairs_ok h0)) h0

theorem prechargeTimeout_ok {k a0 a1} (h1 : State.ok k a1) : State.ok k (prechargeTimeout a0 a1) := by
  unfold prechargeTimeout
  extract_lets x1 x2 x3
  have hx1 : State.ok k x1 := hlcReply_ok (violation_ok h1); clear_value x1
  have hx3 : State.ok k x3 := closeTcp_ok (State.setVeh_ok hx1); clear_value x3
  exact ok_ite (driveHigh_ok (cutSession_ok hx3)) h1

theorem powerDelivery_ok {k a0 a1} (h1 : State.ok k a1) : State.ok k (powerDelivery a0 a1) := by
  unfold powerDelivery
  extract_lets x1
  exact ok_ite (ok_ite (ok_ite (hlcReply_ok (setSes_ok (State.setVeh_ok h1))) (hlcFail_ok h1)) (ok_ite (hlcFail_ok h1) (hlcReply_ok h1))) (windSession_ok (hlcReply_ok h1))

theorem currentDemand_ok {k a0 a1 a2} (h2 : State.ok k a2) : State.ok k (currentDemand a0 a1 a2) := by
  unfold currentDemand
  refine ok_ite ?_ (hlcReply_ok h2)
  split
  · exact hlcFail_ok h2
  · rename_i v a hv hi s e
    have hs : State.ok k s := clampTarget_ok h2 e
    exact hlcReply_ok (State.setVeh_ok hs)

theorem sessionStop_ok {k a0} (h0 : State.ok k a0) : State.ok k (sessionStop a0) := by
  unfold sessionStop; exact windSession_ok (hlcReply_ok h0)

theorem rampDownEnd_ok {k a0} (h0 : State.ok k a0) : State.ok k (rampDownEnd a0) := by
  unfold rampDownEnd; exact ok_ite (startWeldCheck_ok (openPairs_ok h0)) h0

theorem dcWelded_ok {k a0} (h0 : State.ok k a0) : State.ok k (dcWelded a0) := by
  unfold dcWelded
  split
  · exact welded_ok h0
  · exact ok_foldl (fun _ _ h1 => welded_ok h1) h0

theorem dcWeldEnd_ok {k a0 a1 a2} (h2 : State.ok k a2) : State.ok k (dcWeldEnd a0 a1 a2) := by
  unfold dcWeldEnd
  extract_lets x1 x2
  have hx2 : State.ok k x2 := State.setVeh_ok h2; clear_value x2
  exact ok_ite (setSes_ok (driveHigh_ok (ok_ite hx2 (dcWelded_ok hx2)))) h2

theorem slacTimeout_ok {k a0 a1} (h1 : State.ok k a1) : State.ok k (slacTimeout a0 a1) := by
  unfold slacTimeout
  extract_lets x1 x2
  have hx1 : State.ok k x1 := violation_ok h1; clear_value x1
  exact ok_ite h1 (ok_ite (driveLimit_ok (State.setVeh_ok hx1)) (ok_ite (driveHigh_ok (State.setVeh_ok hx1)) (drive_ok (cutSession_ok hx1))))

theorem sequenceTimeout_ok {k a0 a1} (h1 : State.ok k a1) : State.ok k (sequenceTimeout a0 a1) := by
  unfold sequenceTimeout
  extract_lets x1
  have hx1 : State.ok k x1 := closeTcp_ok (violation_ok h1); clear_value x1
  exact ok_ite h1 (ok_ite (windSession_ok hx1) (driveHigh_ok (cutSession_ok hx1)))

theorem demandGap_ok {k a0 a1} (h1 : State.ok k a1) : State.ok k (demandGap a0 a1) := by
  unfold demandGap
  extract_lets x1 x2
  have hx1 : State.ok k x1 := violation_ok h1; clear_value x1
  exact ok_ite (State.setVeh_ok hx1) h1

theorem tcpLost_ok {k a0 a1} (h1 : State.ok k a1) : State.ok k (tcpLost a0 a1) := by
  unfold tcpLost
  extract_lets x1 x2
  have hx2 : State.ok k x2 := State.setVeh_ok (violation_ok h1); clear_value x2
  exact ok_ite (ok_ite (windSession_ok hx2) (driveHigh_ok (cutSession_ok hx2))) h1

theorem e0Lost_ok {k a0} (h0 : State.ok k a0) : State.ok k (e0Lost a0) := by
  unfold e0Lost
  extract_lets x1
  exact ok_ite (windSession_ok (State.setVeh_ok h0)) (State.setVeh_ok h0)

theorem pilotLost_ok {k a0} (h0 : State.ok k a0) : State.ok k (pilotLost a0) := by
  unfold pilotLost; exact ok_ite h0 (drive_ok (cutSession_ok h0))

theorem vehicleForget_ok {k a0} (h0 : State.ok k a0) : State.ok k (vehicleForget a0) := by
  unfold vehicleForget
  extract_lets x1
  exact State.setVeh_ok h0

theorem sessionPowerLoss_ok {k a0} (h0 : State.ok k a0) : State.ok k (sessionPowerLoss a0) := by
  unfold sessionPowerLoss; exact ok_ite (setSes_ok (moduleZero_ok (openPairs_ok (State.setReg_ok h0)))) h0

theorem meterLost_ok {k a0} (h0 : State.ok k a0) : State.ok k (meterLost a0) := by
  unfold meterLost; exact ok_ite (driveHigh_ok (cutSession_ok h0)) h0

theorem execCpStateReport_ok {k a0 a1 a2} (h2 : State.ok k a2) : Sound k (execCpStateReport a0 a1 a2) := by
  unfold execCpStateReport; exact sound_next (pilotReport_ok h2)

theorem execCurrentLimitRecompute_ok {k a0 a1} (h1 : State.ok k a1) : Sound k (execCurrentLimitRecompute a0 a1) := by
  unfold execCurrentLimitRecompute; exact sound_next (limitRecompute_ok h1)

theorem execAcResume_ok {k a0} (h0 : State.ok k a0) : Sound k (execAcResume a0) := by
  unfold execAcResume; exact sound_next (acResume_ok h0)

theorem execProximityLost_ok {k a0 a1} (h1 : State.ok k a1) : Sound k (execProximityLost a0 a1) := by
  unfold execProximityLost; exact sound_next (proximityLost_ok h1)

theorem execSupportedAppProtocolReq_ok {k a0 a1 a2 a3} (h3 : State.ok k a3) : Sound k (execSupportedAppProtocolReq a0 a1 a2 a3) := by
  unfold execSupportedAppProtocolReq; exact sound_next (appProtocol_ok h3)

theorem execCableCheckReq_ok {k a0 a1 a2 a3 a4 a5} (h5 : State.ok k a5) : Sound k (execCableCheckReq a0 a1 a2 a3 a4 a5) := by
  unfold execCableCheckReq; exact sound_next (hlcGuard_ok h5 (cableCheck_ok h5))

theorem execPreChargeReq_ok {k a0 a1 a2 a3 a4} (h4 : State.ok k a4) : Sound k (execPreChargeReq a0 a1 a2 a3 a4) := by
  unfold execPreChargeReq; exact sound_next (hlcGuard_ok h4 (preCharge_ok h4))

theorem execPrechargeConditionMet_ok {k a0} (h0 : State.ok k a0) : Sound k (execPrechargeConditionMet a0) := by
  unfold execPrechargeConditionMet; exact sound_next (prechargeMet_ok h0)

theorem execPrechargeSo2Open_ok {k a0} (h0 : State.ok k a0) : Sound k (execPrechargeSo2Open a0) := by
  unfold execPrechargeSo2Open; exact sound_next (prechargeSo2_ok h0)

theorem execPrechargeTimeout_ok {k a0 a1} (h1 : State.ok k a1) : Sound k (execPrechargeTimeout a0 a1) := by
  unfold execPrechargeTimeout; exact sound_next (prechargeTimeout_ok h1)

theorem execPowerDeliveryReq_ok {k a0 a1 a2 a3} (h3 : State.ok k a3) : Sound k (execPowerDeliveryReq a0 a1 a2 a3) := by
  unfold execPowerDeliveryReq; exact sound_next (hlcGuard_ok h3 (powerDelivery_ok h3))

theorem execCurrentDemandReq_ok {k a0 a1 a2 a3 a4} (h4 : State.ok k a4) : Sound k (execCurrentDemandReq a0 a1 a2 a3 a4) := by
  unfold execCurrentDemandReq; exact sound_next (hlcGuard_ok h4 (currentDemand_ok h4))

theorem execSessionStopReq_ok {k a0 a1 a2} (h2 : State.ok k a2) : Sound k (execSessionStopReq a0 a1 a2) := by
  unfold execSessionStopReq; exact sound_next (hlcGuard_ok h2 (sessionStop_ok h2))

theorem execRampDownEnd_ok {k a0} (h0 : State.ok k a0) : Sound k (execRampDownEnd a0) := by
  unfold execRampDownEnd; exact sound_next (rampDownEnd_ok h0)

theorem execDcWeldingCheckEnd_ok {k a0 a1 a2} (h2 : State.ok k a2) : Sound k (execDcWeldingCheckEnd a0 a1 a2) := by
  unfold execDcWeldingCheckEnd; exact sound_next (dcWeldEnd_ok h2)

theorem execAcAuthorisation_ok {k a0 a1 a2} (h2 : State.ok k a2) : Sound k (execAcAuthorisation a0 a1 a2) := by
  unfold execAcAuthorisation; exact sound_next (ok_ite h2 (grantSession_ok h2))

theorem execAcEndingTimeout_ok {k a0} (h0 : State.ok k a0) : Sound k (execAcEndingTimeout a0) := by
  unfold execAcEndingTimeout; exact sound_next (acEndingTimeout_ok h0)

theorem execAcWeldingCheckEnd_ok {k a0} (h0 : State.ok k a0) : Sound k (execAcWeldingCheckEnd a0) := by
  unfold execAcWeldingCheckEnd; exact sound_next (acWeldEnd_ok h0)

theorem execIsolationPeriodEnd_ok {k a0 a1} (h1 : State.ok k a1) : Sound k (execIsolationPeriodEnd a0 a1) := by
  unfold execIsolationPeriodEnd; exact sound_next (isolationPeriod_ok h1)

theorem execResidualCurrentUpdate_ok {k a0 a1} (h1 : State.ok k a1) : Sound k (execResidualCurrentUpdate a0 a1) := by
  unfold execResidualCurrentUpdate; exact sound_next (residualUpdate_ok h1)

theorem execRcSensorFault_ok {k a0} (h0 : State.ok k a0) : Sound k (execRcSensorFault a0) := by
  unfold execRcSensorFault; exact sound_next (rcSensorFault_ok h0)

theorem execRcSelfTest_ok {k a0 a1} (h1 : State.ok k a1) : Sound k (execRcSelfTest a0 a1) := by
  unfold execRcSelfTest; exact sound_next (rcSelfTest_ok h1)

theorem execSlacTimeout_ok {k a0 a1} (h1 : State.ok k a1) : Sound k (execSlacTimeout a0 a1) := by
  unfold execSlacTimeout; exact sound_next (slacTimeout_ok h1)

theorem execSequenceTimeout_ok {k a0 a1} (h1 : State.ok k a1) : Sound k (execSequenceTimeout a0 a1) := by
  unfold execSequenceTimeout; exact sound_next (sequenceTimeout_ok h1)

theorem execCurrentDemandGap_ok {k a0 a1} (h1 : State.ok k a1) : Sound k (execCurrentDemandGap a0 a1) := by
  unfold execCurrentDemandGap; exact sound_next (demandGap_ok h1)

theorem execStateDTimeout_ok {k a0 a1} (h1 : State.ok k a1) : Sound k (execStateDTimeout a0 a1) := by
  unfold execStateDTimeout; exact sound_next (stateDTimeout_ok h1)

theorem execStateCTimeout_ok {k a0 a1} (h1 : State.ok k a1) : Sound k (execStateCTimeout a0 a1) := by
  unfold execStateCTimeout; exact sound_next (stateCTimeout_ok h1)

theorem execAcOvercurrentTimeout_ok {k a0 a1} (h1 : State.ok k a1) : Sound k (execAcOvercurrentTimeout a0 a1) := by
  unfold execAcOvercurrentTimeout; exact sound_next (acOvercurrent_ok h1)

theorem execStateFEnd_ok {k a0} (h0 : State.ok k a0) : Sound k (execStateFEnd a0) := by
  unfold execStateFEnd; exact sound_next (stateFEnd_ok h0)

theorem execTcpConnectionLoss_ok {k a0 a1} (h1 : State.ok k a1) : Sound k (execTcpConnectionLoss a0 a1) := by
  unfold execTcpConnectionLoss; exact sound_next (tcpLost_ok h1)

theorem execSessionSetupReq_ok {k a0 a1 a2} (h2 : State.ok k a2) : Sound k (execSessionSetupReq a0 a1 a2) := by
  unfold execSessionSetupReq; exact sound_next (sessionSetup_ok h2)

theorem execAuthorizationReq_ok {k a0 a1 a2 a3} (h3 : State.ok k a3) : Sound k (execAuthorizationReq a0 a1 a2 a3) := by
  unfold execAuthorizationReq; exact sound_next (hlcGuard_ok h3 (authorization_ok h3))

theorem execCostAccrual_ok {k a0} (h0 : State.ok k a0) : Sound k (execCostAccrual a0) := by
  unfold execCostAccrual
  extract_lets x1 x2
  have hx1 : State.ok k x1 := costAccrue_ok h0; clear_value x1
  have hx2 : State.ok k x2 := reportFloor_ok hx1; clear_value x2
  exact sound_next (ok_ite (windSession_ok hx2) hx2)

theorem execConverterClockLost_ok {k a0} (h0 : State.ok k a0) : Sound k (execConverterClockLost a0) := by
  unfold execConverterClockLost; exact sound_next (meterLost_ok (converterClockLost_ok h0))

theorem execSafetyInputFilterChange_ok {k a0 a1 a2 a3 a4} (h4 : State.ok k a4) : Sound k (execSafetyInputFilterChange a0 a1 a2 a3 a4) := by
  unfold execSafetyInputFilterChange; exact sound_next (sessionCheck_ok (filterChange_ok h4))

theorem execDiscrepancyTimeout_ok {k a0 a1 a2} (h2 : State.ok k a2) : Sound k (execDiscrepancyTimeout a0 a1 a2) := by
  unfold execDiscrepancyTimeout; exact sound_next (sessionCheck_ok (discTimeout_ok h2))

theorem execTestPulse_ok {k a0 a1} (h1 : State.ok k a1) : Sound k (execTestPulse a0 a1) := by
  unfold execTestPulse; exact sound_next (sessionCheck_ok (testPulse_ok h1))

theorem execMirrorTimeout_ok {k a0 a1} (h1 : State.ok k a1) : Sound k (execMirrorTimeout a0 a1) := by
  unfold execMirrorTimeout; exact sound_next (sessionCheck_ok (mirrorTimeout_ok h1))

theorem execReadbackMismatch_ok {k a0 a1} (h1 : State.ok k a1) : Sound k (execReadbackMismatch a0 a1) := by
  unfold execReadbackMismatch; exact sound_next (sessionCheck_ok (readbackMismatch_ok h1))

theorem execSwitchCurrentLimitTimeout_ok {k a0 a1} (h1 : State.ok k a1) : Sound k (execSwitchCurrentLimitTimeout a0 a1) := by
  unfold execSwitchCurrentLimitTimeout; exact sound_next (sessionCheck_ok (currentLimit_ok h1))

theorem execTotalOverloadTimeout_ok {k a0} (h0 : State.ok k a0) : Sound k (execTotalOverloadTimeout a0) := by
  unfold execTotalOverloadTimeout; exact sound_next (sessionCheck_ok (totalOverload_ok h0))

theorem execDarkTest_ok {k a0 a1 a2 a3} (h3 : State.ok k a3) : Sound k (execDarkTest a0 a1 a2 a3) := by
  unfold execDarkTest; exact sound_next (sessionCheck_ok (darkTest_ok h3))

theorem execPrompterAnswer_ok {k a0 a1 a2 a3 a4} (h4 : State.ok k a4) : Sound k (execPrompterAnswer a0 a1 a2 a3 a4) := by
  unfold execPrompterAnswer; exact sound_next (sessionCheck_ok (prompterAnswer_ok h4))

theorem execPrompterAnswerTimeout_ok {k a0} (h0 : State.ok k a0) : Sound k (execPrompterAnswerTimeout a0) := by
  unfold execPrompterAnswerTimeout; exact sound_next (sessionCheck_ok (prompterFail_ok h0))

theorem execBlockCrcCheck_ok {k a0} (h0 : State.ok k a0) : Sound k (execBlockCrcCheck a0) := by
  unfold execBlockCrcCheck; exact sound_next (sessionCheck_ok (checkBlocks_ok h0))

theorem execIronOvertemp_ok {k a0 a1} (h1 : State.ok k a1) : Sound k (execIronOvertemp a0 a1) := by
  unfold execIronOvertemp; exact sound_next (sessionCheck_ok (ironTemp_ok h1))

theorem execIronEventKeeperDelivery_ok {k a0} (h0 : State.ok k a0) : Sound k (execIronEventKeeperDelivery a0) := by
  unfold execIronEventKeeperDelivery; exact sound_next (keeperDeliver_ok h0)

end Sys2Proof.Machine
end

