-- ==== Sys2Proof/Laws/SoundTirwa.lean ====
section
/-!
SUPPORT. The operations of Machine/Tirwa.lean keep `State.ok`, one lemma for each.
-/

namespace Sys2Proof.Machine

open Sys2Proof

theorem State.setTir_ok {k a0 a1} (h0 : State.ok k a0) : State.ok k (State.setTir a0 a1) := by
  unfold State.setTir; exact ok_put h0

theorem setNeighs_ok {k a0 a1} (h1 : State.ok k a1) : State.ok k (setNeighs a0 a1) := by
  unfold setNeighs
  extract_lets x1
  exact State.setReg_ok (State.setTir_ok h1)

theorem updNeigh_ok {k a0 a1 a2} (h2 : State.ok k a2) : State.ok k (updNeigh a0 a1 a2) := by
  unfold updNeigh
  extract_lets x1
  exact State.setTir_ok h2

theorem addNeigh_ok {k a0 a1} (h1 : State.ok k a1) : State.ok k (addNeigh a0 a1) := by
  unfold addNeigh
  extract_lets x1 x2
  exact ok_ite (setNeighs_ok h1) (setNeighs_ok h1)

theorem noteGeneration_ok {k a0 a1} (h1 : State.ok k a1) : State.ok k (noteGeneration a0 a1) := by
  unfold noteGeneration; exact ok_ite (updNeigh_ok h1) h1

theorem noteResult_ok {k a0 a1 a2} (h2 : State.ok k a2) : State.ok k (noteResult a0 a1 a2) := by
  unfold noteResult; exact updNeigh_ok h2

theorem putRoute_ok {k a0 a1} (h1 : State.ok k a1) : State.ok k (putRoute a0 a1) := by
  unfold putRoute
  extract_lets x1
  exact State.setTir_ok h1

theorem chooseRoute_ok {k a0 a1 a2} (h2 : State.ok k a2) : State.ok k (chooseRoute a0 a1 a2) := by
  unfold chooseRoute
  extract_lets x1 x2
  refine ok_ite ?_ ?_
  · exact h2
  · split
    · exact ok_ite (putRoute_ok h2) h2
    · exact h2
    · exact putRoute_ok h2
    · extract_lets x3
      exact putRoute_ok h2
    · exact h2

theorem chooseRoutes_ok {k a0 a1} (h1 : State.ok k a1) : State.ok k (chooseRoutes a0 a1) := by
  unfold chooseRoutes; exact ok_foldl (fun _ _ h1 => chooseRoute_ok h1) h1

theorem updateRepeater_ok {k a0} (h0 : State.ok k a0) : State.ok k (updateRepeater a0) := by
  unfold updateRepeater; exact State.setReg_ok h0

theorem heardFrom_ok {k a0 a1} (h1 : State.ok k a1) : State.ok k (heardFrom a0 a1) := by
  unfold heardFrom
  extract_lets x1 x2
  have hx2 : State.ok k x2 := by
    unfold x2
    split
    · exact ok_ite (addNeigh_ok h1) (updateRepeater_ok (chooseRoutes_ok (addNeigh_ok h1)))
    · exact updNeigh_ok h1
  clear_value x2
  refine ok_ite ?_ ?_
  · exact h1
  · split
    · exact hx2
    · exact ok_ite (updNeigh_ok hx2) hx2

theorem sendControl_ok {k a0 a1 a2 a3 a4 a5} (h5 : State.ok k a5) : State.ok k (sendControl a0 a1 a2 a3 a4 a5) := by
  unfold sendControl
  extract_lets x1 x2 x3
  exact tirSend_ok (ok_ite (State.setTir_ok h5) h5)

theorem sendHello_ok {k a0} (h0 : State.ok k a0) : State.ok k (sendHello a0) := by
  unfold sendHello
  extract_lets x1 x2 x3 x4 x5 x6 x7
  have hx6 : State.ok k x6 := sendControl_ok h0; clear_value x6
  exact ok_ite h0 (State.setTir_ok hx6)

theorem askSeat_ok {k a0} (h0 : State.ok k a0) : State.ok k (askSeat a0) := by
  unfold askSeat
  extract_lets x1
  clear_value x1
  split
  · exact h0
  · exact ok_ite (sendControl_ok h0) h0

theorem sendSound_ok {k a0 a1 a2} (h2 : State.ok k a2) : State.ok k (sendSound a0 a1 a2) := by
  unfold sendSound
  extract_lets x1 x2
  have hx1 : State.ok k x1 := State.count_ok (State.emit_ok h2); clear_value x1
  exact State.setTir_ok hx1

theorem sendData_ok {k a0 a1 a2} (h2 : State.ok k a2) : State.ok k (sendData a0 a1 a2) := by
  unfold sendData
  extract_lets x1 x2 x3 x4 x5 x6 x7
  have hx6 : State.ok k x6 := State.count_ok (State.emit_ok h2); clear_value x6
  exact State.setTir_ok hx6

theorem transmit_ok {k a0} (h0 : State.ok k a0) : State.ok k (transmit a0) := by
  unfold transmit
  extract_lets x1
  refine ok_ite ?_ ?_
  · exact h0
  · split
    · exact h0
    · extract_lets x2
      have hx2 : State.ok k x2 := State.setTir_ok h0; clear_value x2
      split
      · exact h0
      · split
        · exact State.count_ok hx2
        · exact ok_ite (sendSound_ok hx2) (sendData_ok hx2)

theorem unacked_ok {k a0} (h0 : State.ok k a0) : State.ok k (unacked a0) := by
  unfold unacked
  extract_lets x1
  split
  · exact h0
  · extract_lets x2 x3
    have hx2 : State.ok k x2 := noteResult_ok (State.setTir_ok h0); clear_value x2
    exact ok_ite (State.count_ok (State.setTir_ok hx2)) (State.count_ok hx2)

theorem ackFrame_ok {k a0 a1} (h1 : State.ok k a1) : State.ok k (ackFrame a0 a1) := by
  unfold ackFrame
  extract_lets x1 x2
  have hx1 : State.ok k x1 := heardFrom_ok h1; clear_value x1
  refine ok_ite ?_ ?_
  · exact h1
  · split
    · exact hx1
    · exact ok_ite (ok_ite (noteResult_ok (State.setTir_ok hx1)) (unacked_ok hx1)) hx1

theorem sendAck_ok {k a0 a1 a2} (h2 : State.ok k a2) : State.ok k (sendAck a0 a1 a2) := by
  unfold sendAck; exact ok_ite (State.emit_ok h2) h2

theorem takeFrame_ok {k a0 a1 a2} (h2 : State.ok k a2) : State.ok k (takeFrame a0 a1 a2).2 := by
  unfold takeFrame
  extract_lets x1 x2
  have hx1 : State.ok k x1 := heardFrom_ok h2; clear_value x1
  have hx2 : State.ok k x2 := noteGeneration_ok (State.count_ok hx1); clear_value x2
  exact ok_ite2 (ok_snd h2) (ok_ite2 (ok_snd hx1) (ok_ite2 (ok_snd (sendAck_ok hx2)) (ok_ite2 (ok_snd hx2) (ok_snd (sendAck_ok hx2)))))

theorem keepCount_ok {k a0 a1} (h1 : State.ok k a1) : State.ok k (keepCount a0 a1) := by
  unfold keepCount
  extract_lets x1
  exact State.setTir_ok h1

theorem touchCount_ok {k a0 a1} (h1 : State.ok k a1) : State.ok k (touchCount a0 a1) := by
  unfold touchCount
  extract_lets x1
  exact State.setTir_ok h1

theorem heardRelay_ok {k a0 a1} (h1 : State.ok k a1) : State.ok k (heardRelay a0 a1) := by
  unfold heardRelay
  extract_lets x1
  exact State.setTir_ok h1

theorem takeControl_ok {k a0 a1 a2 a3} (h3 : State.ok k a3) : State.ok k (takeControl a0 a1 a2 a3).2 := by
  unfold takeControl
  extract_lets x1 x2
  have hx1 : State.ok k x1.2 := takeFrame_ok h3; clear_value x1
  have hx2 : State.ok k x2 := hx1; clear_value x2
  exact ok_ite2 (ok_snd hx2) (ok_ite2 (ok_snd (State.count_ok hx2)) (ok_ite2 (ok_snd hx2) (ok_ite2 (ok_snd (State.count_ok (ok_ite (heardRelay_ok hx2) hx2))) (ok_snd (keepCount_ok hx2)))))

theorem forward_ok {k a0 a1 a2} (h2 : State.ok k a2) : State.ok k (forward a0 a1 a2) := by
  unfold forward; exact ok_ite (State.count_ok h2) (tirSend_ok h2)

theorem cueFrame_ok {k a0 a1 a2} (h2 : State.ok k a2) : State.ok k (cueFrame a0 a1 a2) := by
  unfold cueFrame
  extract_lets x1
  have hx1 : State.ok k x1.2 := takeFrame_ok h2; clear_value x1
  exact ok_ite hx1 (ok_ite (ok_ite (cueArrive_ok (relay_ok hx1)) (State.count_ok hx1)) (forward_ok hx1))

theorem scheduleRelay_ok {k a0 a1} (h1 : State.ok k a1) : State.ok k (scheduleRelay a0 a1) := by
  unfold scheduleRelay
  extract_lets x1
  exact ok_ite h1 (State.setTir_ok h1)

theorem floodRelay_ok {k a0 a1 a2} (h2 : State.ok k a2) : State.ok k (floodRelay a0 a1 a2) := by
  unfold floodRelay
  extract_lets x1 x2
  have hx2 : State.ok k x2 := State.setTir_ok h2; clear_value x2
  split
  · exact h2
  · exact ok_ite hx2 (tirSend_ok hx2)

theorem setShare_ok {k a0 a1 a2} (h2 : State.ok k a2) : State.ok k (setShare a0 a1 a2) := by
  unfold setShare
  extract_lets x1
  have hx1 : State.ok k x1 := State.setReg_ok (State.setReg_ok h2); clear_value x1
  exact recomputeLimit_ok (relay_ok (relay_ok hx1))

theorem takeShare_ok {k a0 a1 a2} (h2 : State.ok k a2) : State.ok k (takeShare a0 a1 a2) := by
  unfold takeShare
  extract_lets x1 x2
  have hx1 : State.ok k x1 := State.setReg_ok h2; clear_value x1
  exact ok_ite h2 (ok_ite (setShare_ok (State.setTir_ok hx1)) (State.setTir_ok hx1))

theorem shareApply_ok {k a0} (h0 : State.ok k a0) : State.ok k (shareApply a0) := by
  unfold shareApply
  extract_lets x1
  split
  · exact h0
  · exact ok_ite (setShare_ok (State.setTir_ok h0)) h0

theorem shareLapse_ok {k a0} (h0 : State.ok k a0) : State.ok k (shareLapse a0) := by
  unfold shareLapse
  extract_lets x1
  exact ok_ite (setShare_ok (State.setTir_ok h0)) h0

theorem takeSeat_ok {k a0 a1} (h1 : State.ok k a1) : State.ok k (takeSeat a0 a1) := by
  unfold takeSeat
  extract_lets x1
  have hx1 : State.ok k x1 := State.setReg_ok h1; clear_value x1
  exact ok_ite hx1 (shareLapse_ok hx1)

theorem noteSeat_ok {k a0 a1 a2} (h2 : State.ok k a2) : State.ok k (noteSeat a0 a1 a2) := by
  unfold noteSeat
  extract_lets x1
  exact State.setTir_ok h2

theorem sendGrant_ok {k a0 a1 a2 a3 a4} (h4 : State.ok k a4) : State.ok k (sendGrant a0 a1 a2 a3 a4) := by
  unfold sendGrant; exact sendControl_ok h4

theorem answerJoin_ok {k a0 a1 a2 a3} (h3 : State.ok k a3) : State.ok k (answerJoin a0 a1 a2 a3) := by
  unfold answerJoin
  split
  · exact sendGrant_ok (noteSeat_ok h3)
  · split
    · exact sendGrant_ok (noteSeat_ok h3)
    · exact sendGrant_ok h3

theorem joinRequest_ok {k a0 a1 a2} (h2 : State.ok k a2) : State.ok k (joinRequest a0 a1 a2) := by
  unfold joinRequest
  extract_lets x1 x2 x3 x4
  have hx1 : State.ok k x1.2 := takeControl_ok h2; clear_value x1
  have hx2 : State.ok k x2 := hx1; clear_value x2
  exact ok_ite hx2 (ok_ite (answerJoin_ok hx2) (ok_ite (ok_ite hx2 (sendControl_ok hx2)) (forward_ok hx2)))

theorem joinGrant_ok {k a0 a1 a2} (h2 : State.ok k a2) : State.ok k (joinGrant a0 a1 a2) := by
  unfold joinGrant
  extract_lets x1 x2 x3 x4 x5 x6
  have hx1 : State.ok k x1.2 := takeControl_ok h2; clear_value x1
  have hx2 : State.ok k x2 := hx1; clear_value x2
  exact ok_ite hx2 (ok_ite (ok_ite (takeSeat_ok (State.setTir_ok hx2)) (ok_ite (takeSeat_ok (State.setTir_ok hx2)) hx2)) (ok_ite (sendControl_ok hx2) (ok_ite hx2 (forward_ok hx2))))

theorem actSeatCfg_ok {k a0 a1} (h1 : State.ok k a1) : State.ok k (actSeatCfg a0 a1) := by
  unfold actSeatCfg
  extract_lets x1
  exact ok_ite (takeSeat_ok (State.setTir_ok h1)) (askSeat_ok (State.setTir_ok h1))

theorem leadSeat_ok {k a0} (h0 : State.ok k a0) : State.ok k (leadSeat a0) := by
  unfold leadSeat
  refine ok_ite h0 ?_
  · split
    · exact State.setReg_ok (takeSeat_ok h0)
    · exact h0

theorem regainSeat_ok {k a0} (h0 : State.ok k a0) : State.ok k (regainSeat a0) := by
  unfold regainSeat
  extract_lets x1 x2
  exact ok_ite (takeSeat_ok (State.setTir_ok h0)) (ok_ite (leadSeat_ok h0) (takeSeat_ok (State.setTir_ok h0)))

theorem houseStart_ok {k a0} (h0 : State.ok k a0) : State.ok k (houseStart a0) := by
  unfold houseStart; exact regainSeat_ok (State.setReg_ok h0)

theorem leadHears_ok {k a0 a1 a2} (h2 : State.ok k a2) : State.ok k (leadHears a0 a1 a2) := by
  unfold leadHears
  refine ok_ite ?_ ?_
  · exact h2
  · split
    · exact ok_ite (sendGrant_ok h2) (noteSeat_ok h2)
    · exact ok_ite (noteSeat_ok h2) (sendGrant_ok h2)

theorem helloReceive_ok {k a0 a1 a2 a3} (h3 : State.ok k a3) : State.ok k (helloReceive a0 a1 a2 a3) := by
  unfold helloReceive
  extract_lets x1 x2 x3 x4 x5 x6 x7 x8 x9
  have hx1 : State.ok k x1.2 := takeControl_ok h3; clear_value x1
  have hx2 : State.ok k x2 := hx1; clear_value x2
  have hx7 : State.ok k x7 := updNeigh_ok hx2; clear_value x7
  have hx8 : State.ok k x8 := updateRepeater_ok (chooseRoutes_ok hx7); clear_value x8
  have hx9 : State.ok k x9 := leadHears_ok hx8; clear_value x9
  exact ok_ite hx2 (ok_ite (askSeat_ok hx9) hx9)

theorem helloTimer_ok {k a0} (h0 : State.ok k a0) : State.ok k (helloTimer a0) := by
  unfold helloTimer; exact askSeat_ok (sendHello_ok h0)

theorem triggeredHello_ok {k a0} (h0 : State.ok k a0) : State.ok k (triggeredHello a0) := by
  unfold triggeredHello; exact ok_ite (sendHello_ok h0) h0

theorem neighGone_ok {k a0 a1} (h1 : State.ok k a1) : State.ok k (neighGone a0 a1) := by
  unfold neighGone; exact updateRepeater_ok (chooseRoutes_ok (setNeighs_ok h1))

theorem routeExpires_ok {k a0 a1} (h1 : State.ok k a1) : State.ok k (routeExpires a0 a1) := by
  unfold routeExpires
  extract_lets x1
  split
  · exact h1
  · exact ok_ite (putRoute_ok h1) (State.setTir_ok h1)

theorem allocationCycle_ok {k a0} (h0 : State.ok k a0) : State.ok k (allocationCycle a0) := by
  unfold allocationCycle
  extract_lets x1 x2 x3 x4 x5 x6 x7 x8 x9
  have hx7 : State.ok k x7 := State.setTir_ok (State.setReg_ok h0); clear_value x7
  have hx9 : State.ok k x9 := ok_foldl (fun _ _ h10 => sendControl_ok h10) hx7; clear_value x9
  refine ok_ite ?_ ?_
  · exact h0
  · split
    · exact hx9
    · exact takeShare_ok hx9

theorem keepReport_ok {k a0 a1 a2} (h2 : State.ok k a2) : State.ok k (keepReport a0 a1 a2) := by
  unfold keepReport
  extract_lets x1
  exact ok_ite h2 (State.setTir_ok h2)

theorem demandTimer_ok {k a0} (h0 : State.ok k a0) : State.ok k (demandTimer a0) := by
  unfold demandTimer
  extract_lets x1 x2 x3 x4 x5
  have hx2 : State.ok k x2.2 := State.drawBits_ok h0; clear_value x2
  have hx4 : State.ok k x4 := State.setTir_ok hx2; clear_value x4
  exact ok_ite h0 (ok_ite (keepReport_ok hx4) (ok_ite hx4 (sendControl_ok hx4)))

theorem demandReceive_ok {k a0 a1 a2} (h2 : State.ok k a2) : State.ok k (demandReceive a0 a1 a2) := by
  unfold demandReceive
  extract_lets x1 x2
  have hx1 : State.ok k x1.2 := takeControl_ok h2; clear_value x1
  have hx2 : State.ok k x2 := hx1; clear_value x2
  exact ok_ite hx2 (ok_ite (ok_ite (keepReport_ok hx2) hx2) (forward_ok hx2))

theorem setLead_ok {k a0 a1} (h1 : State.ok k a1) : State.ok k (setLead a0 a1) := by
  unfold setLead
  extract_lets x1
  exact State.setReg_ok (State.setTir_ok h1)

theorem leadLost_ok {k a0} (h0 : State.ok k a0) : State.ok k (leadLost a0) := by
  unfold leadLost
  extract_lets x1 x2
  have hx1 : State.ok k x1 := State.setReg_ok (State.setReg_ok h0); clear_value x1
  exact ok_ite h0 (ok_ite (State.setTir_ok hx1) hx1)

theorem claimSend_ok {k a0} (h0 : State.ok k a0) : State.ok k (claimSend a0) := by
  unfold claimSend
  extract_lets x1
  exact ok_ite (sendControl_ok (State.setTir_ok h0)) h0

theorem claimReceive_ok {k a0 a1 a2} (h2 : State.ok k a2) : State.ok k (claimReceive a0 a1 a2) := by
  unfold claimReceive
  extract_lets x1 x2 x3
  have hx1 : State.ok k x1.2 := takeControl_ok h2; clear_value x1
  have hx2 : State.ok k x2 := scheduleRelay_ok hx1; clear_value x2
  exact ok_ite hx1 (ok_ite hx2 (ok_ite (State.setTir_ok hx2) hx2))

theorem electionWin_ok {k a0} (h0 : State.ok k a0) : State.ok k (electionWin a0) := by
  unfold electionWin
  extract_lets x1 x2 x3
  have hx1 : State.ok k x1 := leadSeat_ok (countJournalled_ok (setLead_ok h0)); clear_value x1
  have hx3 : State.ok k x3 := State.setTir_ok hx1; clear_value x3
  exact ok_ite (allocationCycle_ok (State.setReg_ok (State.setReg_ok (State.setReg_ok hx3)))) h0

theorem timeFromLead_ok {k a0 a1} (h1 : State.ok k a1) : State.ok k (timeFromLead a0 a1) := by
  unfold timeFromLead
  extract_lets x1 x2
  exact ok_ite h1 (ok_ite (State.setTir_ok h1) (setStageTime_ok h1))

theorem classToLead_ok {k a0 a1 a2} (h2 : State.ok k a2) : State.ok k (classToLead a0 a1 a2) := by
  unfold classToLead
  split
  · exact h2
  · exact ok_ite (State.setReg_ok h2) h2

theorem beaconAct_ok {k a0 a1 a2} (h2 : State.ok k a2) : State.ok k (beaconAct a0 a1 a2) := by
  unfold beaconAct
  extract_lets x1 x2 x3 x4 x5 x6
  have hx4 : State.ok k x4 := State.setReg_ok (State.setReg_ok (State.setReg_ok h2)); clear_value x4
  have hx6 : State.ok k x6 := timeFromLead_ok (classToLead_ok (State.setTir_ok hx4)); clear_value x6
  split
  · exact hx6
  · exact takeShare_ok hx6

theorem beaconReceive_ok {k a0 a1 a2} (h2 : State.ok k a2) : State.ok k (beaconReceive a0 a1 a2) := by
  unfold beaconReceive
  extract_lets x1 x2 x3 x4
  have hx1 : State.ok k x1.2 := takeControl_ok h2; clear_value x1
  have hx2 : State.ok k x2 := scheduleRelay_ok hx1; clear_value x2
  exact ok_ite hx1 (ok_ite hx2 (ok_ite (ok_ite (beaconAct_ok (setLead_ok hx2)) hx2) (beaconAct_ok hx2)))

theorem sendMap_ok {k a0 a1 a2 a3 a4 a5 a6} (h6 : State.ok k a6) : State.ok k (sendMap a0 a1 a2 a3 a4 a5 a6) := by
  unfold sendMap
  extract_lets x1 x2 x3
  have hx3 : State.ok k x3 := updNeigh_ok h6; clear_value x3
  exact sendControl_ok hx3

theorem soundReceive_ok {k a0 a1 a2} (h2 : State.ok k a2) : State.ok k (soundReceive a0 a1 a2) := by
  unfold soundReceive
  extract_lets x1 x2 x3 x4 x5 x6
  have hx1 : State.ok k x1 := heardFrom_ok h2; clear_value x1
  have hx2 : State.ok k x2 := State.count_ok hx1; clear_value x2
  have hx5 : State.ok k x5 := sendMap_ok hx2; clear_value x5
  refine ok_ite ?_ ?_
  · exact h2
  · refine ok_ite ?_ ?_
    · exact hx1
    · refine ok_ite ?_ ?_
      · refine ok_foldl ?_ ?_
        · intro s8 x8 h8
          beta_reduce
          split
          · exact h8
          · exact sendMap_ok h8
        · exact hx5
      · exact hx5

theorem mapReceive_ok {k a0 a1 a2} (h2 : State.ok k a2) : State.ok k (mapReceive a0 a1 a2) := by
  unfold mapReceive
  extract_lets x1 x2 x3 x4 x5 x6
  have hx1 : State.ok k x1.2 := takeControl_ok h2; clear_value x1
  have hx2 : State.ok k x2 := hx1; clear_value x2
  have hx6 : State.ok k x6 := updNeigh_ok hx2; clear_value x6
  exact ok_ite hx2 (chooseRoutes_ok hx6)

theorem mapRefresh_ok {k a0 a1} (h1 : State.ok k a1) : State.ok k (mapRefresh a0 a1) := by
  unfold mapRefresh
  split
  · exact h1
  · extract_lets x1
    exact tirSend_ok h1

theorem mapExpires_ok {k a0 a1} (h1 : State.ok k a1) : State.ok k (mapExpires a0 a1) := by
  unfold mapExpires
  extract_lets x1
  have hx1 : State.ok k x1 := updNeigh_ok h1; clear_value x1
  split
  · exact h1
  · exact ok_ite (chooseRoutes_ok (State.count_ok hx1)) h1

theorem courierForget_ok {k a0} (h0 : State.ok k a0) : State.ok k (courierForget a0) := by
  unfold courierForget
  extract_lets x1
  exact State.setTir_ok h0

theorem courierStart_ok {k a0} (h0 : State.ok k a0) : State.ok k (courierStart a0) := by
  unfold courierStart
  extract_lets x1
  have hx1 : State.ok k x1 := updateRepeater_ok (setNeighs_ok (courierForget_ok h0)); clear_value x1
  exact ok_ite h0 (helloTimer_ok (regainSeat_ok hx1))

theorem e1Lost_ok {k a0} (h0 : State.ok k a0) : State.ok k (e1Lost a0) := by
  unfold e1Lost
  extract_lets x1 x2
  have hx1 : State.ok k x1 := setLead_ok h0; clear_value x1
  exact ok_put hx1

theorem actTirTest_ok {k a0 a1} (h1 : State.ok k a1) : State.ok k (actTirTest a0 a1) := by
  unfold actTirTest
  extract_lets x1 x2
  have hx1 : State.ok k x1 := State.setReg_ok (State.setReg_ok h1); clear_value x1
  have hx2 : State.ok k x2 := setNeighs_ok (courierForget_ok hx1); clear_value x2
  exact ok_ite hx1 (shareLapse_ok (ok_ite (setLead_ok hx2) hx2))

theorem actGpTest_ok {k a0} (h0 : State.ok k a0) : State.ok k (actGpTest a0).2 := by
  unfold actGpTest; exact ok_ite2 (ok_snd (State.setReg_ok h0)) (ok_snd h0)

theorem State.setSlac_ok {k a0 a1} (h0 : State.ok k a0) : State.ok k (State.setSlac a0 a1) := by
  unfold State.setSlac; exact ok_put h0

theorem slacParm_ok {k a0 a1} (h1 : State.ok k a1) : State.ok k (slacParm a0 a1) := by
  unfold slacParm
  extract_lets x1 x2 x3
  have hx3 : State.ok k x3 := State.setVeh_ok (State.setSlac_ok h1); clear_value x3
  exact ok_ite h1 (State.emit_ok (State.setReg_ok (State.setReg_ok hx3)))

theorem slacStart_ok {k a0 a1} (h1 : State.ok k a1) : State.ok k (slacStart a0 a1) := by
  unfold slacStart
  extract_lets x1
  exact ok_ite (State.setReg_ok (State.setSlac_ok h1)) h1

theorem slacSound_ok {k a0 a1} (h1 : State.ok k a1) : State.ok k (slacSound a0 a1) := by
  unfold slacSound
  extract_lets x1 x2 x3 x4 x5
  have hx4 : State.ok k x4 := State.setSlac_ok h1; clear_value x4
  exact ok_ite h1 (ok_ite hx4 (State.emit_ok (State.setReg_ok hx4)))

theorem slacAnswer_ok {k a0} (h0 : State.ok k a0) : State.ok k (slacAnswer a0) := by
  unfold slacAnswer
  extract_lets x1
  exact ok_ite (State.setSlac_ok h0) h0

theorem slacMatch_ok {k a0} (h0 : State.ok k a0) : State.ok k (slacMatch a0) := by
  unfold slacMatch
  extract_lets x1 x2 x3
  have hx1 : State.ok k x1.2 := State.drawBits_ok h0; clear_value x1
  have hx3 : State.ok k x3 := State.setSlac_ok hx1; clear_value x3
  exact ok_ite h0 (State.setReg_ok (relay_ok (State.emit_ok hx3)))

theorem slacFails_ok {k a0} (h0 : State.ok k a0) : State.ok k (slacFails a0) := by
  unfold slacFails; exact ok_ite (State.setReg_ok (State.count_ok (State.setSlac_ok h0))) h0

theorem execTirwaCueFrame_ok {k a0 a1 a2} (h2 : State.ok k a2) : Sound k (execTirwaCueFrame a0 a1 a2) := by
  unfold execTirwaCueFrame; exact sound_next (cueFrame_ok h2)

theorem execTirwaAck_ok {k a0 a1} (h1 : State.ok k a1) : Sound k (execTirwaAck a0 a1) := by
  unfold execTirwaAck; exact sound_next (ackFrame_ok h1)

theorem execTirwaAckTimeout_ok {k a0} (h0 : State.ok k a0) : Sound k (execTirwaAckTimeout a0) := by
  unfold execTirwaAckTimeout; exact sound_next (unacked_ok h0)

theorem execFrameControlError_ok {k a0} (h0 : State.ok k a0) : Sound k (execFrameControlError a0) := by
  unfold execFrameControlError; exact sound_next (ok_ite (State.count_ok h0) h0)

theorem execTirwaBackoffExpiry_ok {k a0} (h0 : State.ok k a0) : Sound k (execTirwaBackoffExpiry a0) := by
  unfold execTirwaBackoffExpiry; exact sound_next (transmit_ok h0)

theorem execHelloTimer_ok {k a0} (h0 : State.ok k a0) : Sound k (execHelloTimer a0) := by
  unfold execHelloTimer; exact sound_next (helloTimer_ok h0)

theorem execHelloReceive_ok {k a0 a1 a2 a3} (h3 : State.ok k a3) : Sound k (execHelloReceive a0 a1 a2 a3) := by
  unfold execHelloReceive; exact sound_next (helloReceive_ok h3)

theorem execRouteTriggeredHello_ok {k a0} (h0 : State.ok k a0) : Sound k (execRouteTriggeredHello a0) := by
  unfold execRouteTriggeredHello; exact sound_next (triggeredHello_ok h0)

theorem execNeighbourAgeOut_ok {k a0 a1} (h1 : State.ok k a1) : Sound k (execNeighbourAgeOut a0 a1) := by
  unfold execNeighbourAgeOut; exact sound_next (neighGone_ok h1)

theorem execRouteExpiry_ok {k a0 a1} (h1 : State.ok k a1) : Sound k (execRouteExpiry a0 a1) := by
  unfold execRouteExpiry; exact sound_next (routeExpires_ok h1)

theorem execFloodRelay_ok {k a0 a1 a2} (h2 : State.ok k a2) : Sound k (execFloodRelay a0 a1 a2) := by
  unfold execFloodRelay; exact sound_next (floodRelay_ok h2)

theorem execBeaconReceive_ok {k a0 a1 a2} (h2 : State.ok k a2) : Sound k (execBeaconReceive a0 a1 a2) := by
  unfold execBeaconReceive; exact sound_next (beaconReceive_ok h2)

theorem execClaimReceive_ok {k a0 a1 a2} (h2 : State.ok k a2) : Sound k (execClaimReceive a0 a1 a2) := by
  unfold execClaimReceive; exact sound_next (claimReceive_ok h2)

theorem execLeadLost_ok {k a0} (h0 : State.ok k a0) : Sound k (execLeadLost a0) := by
  unfold execLeadLost; exact sound_next (leadLost_ok h0)

theorem execClaimSend_ok {k a0} (h0 : State.ok k a0) : Sound k (execClaimSend a0) := by
  unfold execClaimSend; exact sound_next (claimSend_ok h0)

theorem execElectionWin_ok {k a0} (h0 : State.ok k a0) : Sound k (execElectionWin a0) := by
  unfold execElectionWin; exact sound_next (electionWin_ok h0)

theorem execJoinRequest_ok {k a0 a1 a2} (h2 : State.ok k a2) : Sound k (execJoinRequest a0 a1 a2) := by
  unfold execJoinRequest; exact sound_next (joinRequest_ok h2)

theorem execJoinGrant_ok {k a0 a1 a2} (h2 : State.ok k a2) : Sound k (execJoinGrant a0 a1 a2) := by
  unfold execJoinGrant; exact sound_next (joinGrant_ok h2)

theorem execSeatTableAgeOut_ok {k a0 a1} (h1 : State.ok k a1) : Sound k (execSeatTableAgeOut a0 a1) := by
  unfold execSeatTableAgeOut; exact sound_next (State.setTir_ok h1)

theorem execDemandReportTimer_ok {k a0} (h0 : State.ok k a0) : Sound k (execDemandReportTimer a0) := by
  unfold execDemandReportTimer; exact sound_next (demandTimer_ok h0)

theorem execDemandReportReceive_ok {k a0 a1 a2} (h2 : State.ok k a2) : Sound k (execDemandReportReceive a0 a1 a2) := by
  unfold execDemandReportReceive; exact sound_next (demandReceive_ok h2)

theorem execAllocationCycle_ok {k a0} (h0 : State.ok k a0) : Sound k (execAllocationCycle a0) := by
  unfold execAllocationCycle; exact sound_next (allocationCycle_ok h0)

theorem execShareApplyAt_ok {k a0} (h0 : State.ok k a0) : Sound k (execShareApplyAt a0) := by
  unfold execShareApplyAt; exact sound_next (shareApply_ok h0)

theorem execShareLapse_ok {k a0} (h0 : State.ok k a0) : Sound k (execShareLapse a0) := by
  unfold execShareLapse; exact sound_next (shareLapse_ok h0)

theorem execSoundFrameReceive_ok {k a0 a1 a2} (h2 : State.ok k a2) : Sound k (execSoundFrameReceive a0 a1 a2) := by
  unfold execSoundFrameReceive; exact sound_next (soundReceive_ok h2)

theorem execToneMapReceive_ok {k a0 a1 a2} (h2 : State.ok k a2) : Sound k (execToneMapReceive a0 a1 a2) := by
  unfold execToneMapReceive; exact sound_next (mapReceive_ok h2)

theorem execToneMapRefresh_ok {k a0 a1} (h1 : State.ok k a1) : Sound k (execToneMapRefresh a0 a1) := by
  unfold execToneMapRefresh; exact sound_next (mapRefresh_ok h1)

theorem execToneMapExpiry_ok {k a0 a1} (h1 : State.ok k a1) : Sound k (execToneMapExpiry a0 a1) := by
  unfold execToneMapExpiry; exact sound_next (mapExpires_ok h1)

theorem execCmSlacParmReq_ok {k a0 a1} (h1 : State.ok k a1) : Sound k (execCmSlacParmReq a0 a1) := by
  unfold execCmSlacParmReq; exact sound_next (slacParm_ok h1)

theorem execCmStartAttenCharInd_ok {k a0 a1} (h1 : State.ok k a1) : Sound k (execCmStartAttenCharInd a0 a1) := by
  unfold execCmStartAttenCharInd; exact sound_next (slacStart_ok h1)

theorem execCmMnbcSoundInd_ok {k a0 a1} (h1 : State.ok k a1) : Sound k (execCmMnbcSoundInd a0 a1) := by
  unfold execCmMnbcSoundInd; exact sound_next (slacSound_ok h1)

theorem execCmAttenCharRsp_ok {k a0} (h0 : State.ok k a0) : Sound k (execCmAttenCharRsp a0) := by
  unfold execCmAttenCharRsp; exact sound_next (slacAnswer_ok h0)

theorem execCmSlacMatchReq_ok {k a0} (h0 : State.ok k a0) : Sound k (execCmSlacMatchReq a0) := by
  unfold execCmSlacMatchReq; exact sound_next (slacMatch_ok h0)

theorem execSlacRunTimeout_ok {k a0} (h0 : State.ok k a0) : Sound k (execSlacRunTimeout a0) := by
  unfold execSlacRunTimeout; exact sound_next (slacFails_ok h0)

theorem execCourierStart_ok {k a0} (h0 : State.ok k a0) : Sound k (execCourierStart a0) := by
  unfold execCourierStart; exact sound_next (courierStart_ok h0)

end Sys2Proof.Machine
end

