-- ==== Sys2Proof/Laws/SoundStageLink.lean ====
section
/-!
SUPPORT. The operations of Machine/StageLink.lean keep `State.ok`, one lemma for each.
-/

namespace Sys2Proof.Machine

open Sys2Proof

theorem State.setSl_ok {k a0 a1} (h0 : State.ok k a0) : State.ok k (State.setSl a0 a1) := by
  unfold State.setSl; exact ok_put h0

theorem laneInto_ok {k a0 a1 a2} (h2 : State.ok k a2) : State.ok k (laneInto a0 a1 a2) := by
  unfold laneInto
  extract_lets x1
  exact State.setReg_ok (State.setSl_ok h2)

theorem laneReset_ok {k a0 a1} (h1 : State.ok k a1) : State.ok k (laneReset a0 a1) := by
  unfold laneReset; exact State.setReg_ok h1

theorem laneDown_ok {k a0 a1 a2} (h2 : State.ok k a2) : State.ok k (laneDown a0 a1 a2) := by
  unfold laneDown; exact laneInto_ok (ok_ite (State.count_ok h2) h2)

theorem laneLoses_ok {k a0 a1} (h1 : State.ok k a1) : State.ok k (laneLoses a0 a1) := by
  unfold laneLoses; exact ok_ite (laneDown_ok h1) h1

theorem lanesLoseLock_ok {k a0} (h0 : State.ok k a0) : State.ok k (lanesLoseLock a0) := by
  unfold lanesLoseLock; exact ok_foldl (fun _ _ h1 => laneLoses_ok h1) h0

theorem laneSearch_ok {k a0 a1} (h1 : State.ok k a1) : State.ok k (laneSearch a0 a1) := by
  unfold laneSearch
  extract_lets x1
  exact ok_ite (State.setSl_ok h1) h1

theorem laneLinkUp_ok {k a0 a1} (h1 : State.ok k a1) : State.ok k (laneLinkUp a0 a1) := by
  unfold laneLinkUp; exact ok_ite (State.setReg_ok h1) h1

theorem laneLinkDown_ok {k a0 a1 a2 a3} (h3 : State.ok k a3) : State.ok k (laneLinkDown a0 a1 a2 a3) := by
  unfold laneLinkDown
  extract_lets x1
  have hx1 : State.ok k x1 := by
    unfold x1
    split
    · exact ok_ite (State.count_ok h3) h3
    · exact h3
  clear_value x1
  exact ok_ite h3 (laneDown_ok hx1)

theorem moduleInsert_ok {k a0 a1 a2 a3} (h3 : State.ok k a3) : State.ok k (moduleInsert a0 a1 a2 a3) := by
  unfold moduleInsert
  extract_lets x1 x2 x3
  have hx2 : State.ok k x2 := State.setSl_ok h3; clear_value x2
  have hx3 : State.ok k x3 := State.setReg_ok (State.setReg_ok hx2); clear_value x3
  exact ok_ite h3 (ok_ite hx3 (laneReset_ok hx3))

theorem modulePoll_ok {k a0 a1 a2} (h2 : State.ok k a2) : State.ok k (modulePoll a0 a1 a2) := by
  unfold modulePoll; exact ok_ite (State.setReg_ok h2) h2

theorem moduleRemoved_ok {k a0 a1} (h1 : State.ok k a1) : State.ok k (moduleRemoved a0 a1) := by
  unfold moduleRemoved
  extract_lets x1 x2
  have hx2 : State.ok k x2 := State.setSl_ok h1; clear_value x2
  exact ok_ite h1 (laneDown_ok hx2)

theorem learn_ok {k a0 a1 a2 a3} (h3 : State.ok k a3) : State.ok k (learn a0 a1 a2 a3) := by
  unfold learn
  extract_lets x1 x2
  exact ok_ite h3 (ok_ite (State.setSl_ok h3) h3)

theorem noteFlood_ok {k a0 a1} (h1 : State.ok k a1) : State.ok k (noteFlood a0 a1) := by
  unfold noteFlood
  extract_lets x1
  exact State.setSl_ok h1

theorem portFour_ok {k a0 a1 a2 a3} (h3 : State.ok k a3) : State.ok k (portFour a0 a1 a2 a3) := by
  unfold portFour; exact ok_ite (State.count_ok h3) (relay_ok h3)

theorem egress_ok {k a0 a1 a2 a3 a4 a5 a6 a7 a8} (h8 : State.ok k a8) : State.ok k (egress a0 a1 a2 a3 a4 a5 a6 a7 a8) := by
  unfold egress
  extract_lets x1 x2
  exact ok_ite (ok_ite (State.count_ok h8) h8) (ok_ite (ok_ite (portFour_ok h8) h8) (ok_ite (State.count_ok (State.emit_ok h8)) (ok_ite (State.count_ok (State.count_ok (State.emit_ok h8))) h8)))

theorem switchFrame_ok {k a0 a1 a2 a3 a4 a5 a6} (h6 : State.ok k a6) : State.ok k (switchFrame a0 a1 a2 a3 a4 a5 a6) := by
  unfold switchFrame
  extract_lets x1 x2 x3 x4
  have hx3 : State.ok k x3 := ok_ite (learn_ok h6) h6; clear_value x3
  split
  · exact ok_ite (State.count_ok h6) h6
  · exact ok_ite (ok_ite (State.count_ok h6) h6) (ok_ite (ok_ite (State.count_ok hx3) hx3) (ok_foldl (fun _ _ h5 => egress_ok h5) (ok_ite (noteFlood_ok hx3) hx3)))

theorem ingressFrame_ok {k a0 a1 a2 a3 a4 a5} (h5 : State.ok k a5) : State.ok k (ingressFrame a0 a1 a2 a3 a4 a5) := by
  unfold ingressFrame
  extract_lets x1
  exact ok_ite h5 (ok_ite (State.count_ok h5) (ok_ite (switchFrame_ok (State.count_ok h5)) (ok_ite (State.count_ok h5) (switchFrame_ok (State.count_ok h5)))))

theorem addressAge_ok {k a0 a1 a2} (h2 : State.ok k a2) : State.ok k (addressAge a0 a1 a2) := by
  unfold addressAge
  extract_lets x1
  exact State.setSl_ok h2

theorem hostSend_ok {k a0 a1 a2 a3 a4} (h4 : State.ok k a4) : State.ok k (hostSend a0 a1 a2 a3 a4) := by
  unfold hostSend
  extract_lets x1
  exact ok_ite h4 (State.emit_ok (ok_foldl (fun _ _ h2 => State.count_ok h2) h4))

theorem arpRequest_ok {k a0 a1 a2 a3} (h3 : State.ok k a3) : State.ok k (arpRequest a0 a1 a2 a3) := by
  unfold arpRequest; exact ok_ite h3 (ok_ite (hostSend_ok h3) (State.count_ok h3))

theorem icmpEcho_ok {k a0 a1 a2 a3 a4 a5} (h5 : State.ok k a5) : State.ok k (icmpEcho a0 a1 a2 a3 a4 a5) := by
  unfold icmpEcho; exact ok_ite h5 (ok_ite (ok_ite (hostSend_ok h5) h5) (State.count_ok h5))

theorem cueDatagram_ok {k a0 a1 a2 a3 a4 a5 a6} (h6 : State.ok k a6) : State.ok k (cueDatagram a0 a1 a2 a3 a4 a5 a6) := by
  unfold cueDatagram
  extract_lets x1
  exact ok_ite h6 (ok_ite (State.count_ok h6) (cueArrive_ok (State.setSl_ok h6)))

theorem ptpStart_ok {k a0} (h0 : State.ok k a0) : State.ok k (ptpStart a0) := by
  unfold ptpStart
  extract_lets x1 x2
  have hx2 : State.ok k x2 := State.setSl_ok h0; clear_value x2
  exact State.setReg_ok (State.setReg_ok hx2)

theorem followTime_ok {k a0 a1} (h1 : State.ok k a1) : State.ok k (followTime a0 a1) := by
  unfold followTime
  extract_lets x1 x2
  exact ok_ite (State.setTir_ok h1) (setStageTime_ok h1)

theorem ptpSync_ok {k a0 a1 a2 a3} (h3 : State.ok k a3) : State.ok k (ptpSync a0 a1 a2 a3) := by
  unfold ptpSync
  extract_lets x1 x2 x3 x4 x5 x6 x7
  have hx1 : State.ok k x1 := State.setReg_ok (State.setRegI_ok h3); clear_value x1
  have hx6 : State.ok k x6 := State.setSl_ok hx1; clear_value x6
  have hx7 : State.ok k x7 := ok_ite (State.setReg_ok hx6) (ok_ite (State.setReg_ok hx6) hx6); clear_value x7
  exact ok_ite h3 (ok_ite (followTime_ok hx7) hx7)

theorem ptpAnnounce_ok {k a0 a1 a2 a3} (h3 : State.ok k a3) : State.ok k (ptpAnnounce a0 a1 a2 a3) := by
  unfold ptpAnnounce
  extract_lets x1 x2 x3 x4 x5
  have hx4 : State.ok k x4 := State.setSl_ok h3; clear_value x4
  exact ok_ite h3 (ok_ite h3 (ok_ite (State.setReg_ok (State.setReg_ok hx4)) (State.setReg_ok (State.setReg_ok hx4))))

theorem ptpTimeout_ok {k a0} (h0 : State.ok k a0) : State.ok k (ptpTimeout a0) := by
  unfold ptpTimeout
  extract_lets x1 x2 x3
  have hx2 : State.ok k x2 := State.setSl_ok h0; clear_value x2
  exact ok_ite h0 (ok_ite (State.setReg_ok (State.setReg_ok (State.setSl_ok hx2))) (ok_ite (State.setReg_ok hx2) hx2))

theorem ptpRecovers_ok {k a0} (h0 : State.ok k a0) : State.ok k (ptpRecovers a0) := by
  unfold ptpRecovers; exact ok_ite (ptpStart_ok h0) h0

theorem ptpFaulty_ok {k a0} (h0 : State.ok k a0) : State.ok k (ptpFaulty a0) := by
  unfold ptpFaulty
  extract_lets x1
  exact ok_ite (State.setReg_ok (State.setSl_ok h0)) h0

theorem actLaneTest_ok {k a0 a1 a2 a3 a4 a5 a6} (h6 : State.ok k a6) : State.ok k (actLaneTest a0 a1 a2 a3 a4 a5 a6).2 := by
  unfold actLaneTest
  extract_lets x1 x2 x3
  have hx2 : State.ok k x2 := State.setReg_ok h6; clear_value x2
  have hx3 : State.ok k x3 := ok_ite (State.setReg_ok (State.setReg_ok hx2)) hx2; clear_value x3
  exact ok_ite2 (ok_snd h6) (ok_snd (ok_ite hx3 (laneReset_ok hx3)))

theorem actLaneSpeed_ok {k a0 a1 a2} (h2 : State.ok k a2) : State.ok k (actLaneSpeed a0 a1 a2) := by
  unfold actLaneSpeed; exact ok_ite h2 (laneDown_ok h2)

theorem switchStart_ok {k a0} (h0 : State.ok k a0) : State.ok k (switchStart a0) := by
  unfold switchStart
  extract_lets x1 x2
  have hx2 : State.ok k x2 := State.setSl_ok h0; clear_value x2
  split
  · exact hx2
  · exact State.setReg_ok hx2

theorem lanesStart_ok {k a0} (h0 : State.ok k a0) : State.ok k (lanesStart a0) := by
  unfold lanesStart; exact ok_foldl (fun _ _ h1 => laneReset_ok h1) h0

theorem execLaneSearchTimer_ok {k a0 a1} (h1 : State.ok k a1) : Sound k (execLaneSearchTimer a0 a1) := by
  unfold execLaneSearchTimer; exact sound_next (laneSearch_ok h1)

theorem execLaneLinkUp_ok {k a0 a1} (h1 : State.ok k a1) : Sound k (execLaneLinkUp a0 a1) := by
  unfold execLaneLinkUp; exact sound_next (laneLinkUp_ok h1)

theorem execLaneLinkDown_ok {k a0 a1 a2 a3} (h3 : State.ok k a3) : Sound k (execLaneLinkDown a0 a1 a2 a3) := by
  unfold execLaneLinkDown; exact sound_next (laneLinkDown_ok h3)

theorem execModuleInsertRead_ok {k a0 a1 a2 a3} (h3 : State.ok k a3) : Sound k (execModuleInsertRead a0 a1 a2 a3) := by
  unfold execModuleInsertRead; exact sound_next (moduleInsert_ok h3)

theorem execModuleA2Poll_ok {k a0 a1 a2} (h2 : State.ok k a2) : Sound k (execModuleA2Poll a0 a1 a2) := by
  unfold execModuleA2Poll; exact sound_next (modulePoll_ok h2)

theorem execSlModuleRemoved_ok {k a0 a1} (h1 : State.ok k a1) : Sound k (execSlModuleRemoved a0 a1) := by
  unfold execSlModuleRemoved; exact sound_next (moduleRemoved_ok h1)

theorem execSwitchIngressFrame_ok {k a0 a1 a2 a3 a4 a5} (h5 : State.ok k a5) : Sound k (execSwitchIngressFrame a0 a1 a2 a3 a4 a5) := by
  unfold execSwitchIngressFrame; exact sound_next (ingressFrame_ok h5)

theorem execAddressAgeOut_ok {k a0 a1 a2} (h2 : State.ok k a2) : Sound k (execAddressAgeOut a0 a1 a2) := by
  unfold execAddressAgeOut; exact sound_next (addressAge_ok h2)

theorem execArpRequest_ok {k a0 a1 a2 a3} (h3 : State.ok k a3) : Sound k (execArpRequest a0 a1 a2 a3) := by
  unfold execArpRequest; exact sound_next (arpRequest_ok h3)

theorem execIcmpEchoRequest_ok {k a0 a1 a2 a3 a4 a5} (h5 : State.ok k a5) : Sound k (execIcmpEchoRequest a0 a1 a2 a3 a4 a5) := by
  unfold execIcmpEchoRequest; exact sound_next (icmpEcho_ok h5)

theorem execCueUdpDatagram_ok {k a0 a1 a2 a3 a4 a5 a6} (h6 : State.ok k a6) : Sound k (execCueUdpDatagram a0 a1 a2 a3 a4 a5 a6) := by
  unfold execCueUdpDatagram; exact sound_next (cueDatagram_ok h6)

theorem execPtpSyncReceive_ok {k a0 a1 a2 a3} (h3 : State.ok k a3) : Sound k (execPtpSyncReceive a0 a1 a2 a3) := by
  unfold execPtpSyncReceive; exact sound_next (ptpSync_ok h3)

theorem execPtpAnnounceReceive_ok {k a0 a1 a2 a3 a4 a5 a6 a7 a8} (h8 : State.ok k a8) : Sound k (execPtpAnnounceReceive a0 a1 a2 a3 a4 a5 a6 a7 a8) := by
  unfold execPtpAnnounceReceive; exact sound_next (ptpAnnounce_ok h8)

theorem execPtpSyncTimeout_ok {k a0} (h0 : State.ok k a0) : Sound k (execPtpSyncTimeout a0) := by
  unfold execPtpSyncTimeout; exact sound_next (ptpTimeout_ok h0)

theorem execPtpSyncSend_ok {k a0} (h0 : State.ok k a0) : Sound k (execPtpSyncSend a0) := by
  unfold execPtpSyncSend; exact sound_next (ok_ite (State.emit_ok h0) h0)

end Sys2Proof.Machine
end

