-- ==== Sys2Proof/Laws/SoundTags.lean ====
section
/-!
SUPPORT. The operations of Machine/Tags.lean keep `State.ok`, one lemma for each.
-/

namespace Sys2Proof.Machine

open Sys2Proof

theorem State.setRdr_ok {k a0 a1} (h0 : State.ok k a0) : State.ok k (State.setRdr a0 a1) := by
  unfold State.setRdr; exact ok_put h0

theorem cardResult_ok {k a0 a1} (h1 : State.ok k a1) : State.ok k (cardResult a0 a1) := by
  unfold cardResult
  extract_lets x1
  exact State.setReg_ok (State.setRdr_ok h1)

theorem cardGrant_ok {k a0 a1} (h1 : State.ok k a1) : State.ok k (cardGrant a0 a1) := by
  unfold cardGrant
  extract_lets x1 x2
  have hx1 : State.ok k x1 := grantSession_ok (cardResult_ok h1); clear_value x1
  exact ok_ite (State.setRdr_ok hx1) hx1

theorem judgeCard_ok {k a0 a1} (h1 : State.ok k a1) : State.ok k (judgeCard a0 a1) := by
  unfold judgeCard
  extract_lets x1 x2 x3
  have hx1 : State.ok k x1 := State.setReg_ok (State.setReg_ok h1); clear_value x1
  exact ok_ite (ok_ite (cardGrant_ok hx1) (cardResult_ok hx1)) (ok_ite (notifyMain_ok (State.setRdr_ok hx1)) (ok_ite (State.emit_ok (State.setRdr_ok hx1)) (cardResult_ok hx1)))

theorem pollHolder_ok {k a0 a1} (h1 : State.ok k a1) : State.ok k (pollHolder a0 a1) := by
  unfold pollHolder
  extract_lets x1
  split
  · exact h1
  · extract_lets x2 x3 x4 x5
    have hx4 : State.ok k x4 := State.setRdr_ok h1; clear_value x4
    exact ok_ite (windSession_ok (State.setRdr_ok hx4)) hx4

theorem pollCards_ok {k a0 a1} (h1 : State.ok k a1) : State.ok k (pollCards a0 a1) := by
  unfold pollCards
  extract_lets x1 x2
  have hx2 : State.ok k x2 := State.setRdr_ok h1; clear_value x2
  split
  · extract_lets x3 x4
    have hx4 : State.ok k x4 := State.setRdr_ok h1; clear_value x4
    split
    · exact ok_ite hx4 (cardResult_ok hx4)
    · exact ok_ite (judgeCard_ok hx4) hx4
  · exact ok_ite (cardResult_ok hx2) hx2
  · exact cardResult_ok (State.setRdr_ok h1)

theorem readerPoll_ok {k a0 a1} (h1 : State.ok k a1) : State.ok k (readerPoll a0 a1) := by
  unfold readerPoll
  extract_lets x1 x2
  exact ok_ite h1 (ok_ite (ok_ite (pollHolder_ok h1) h1) (pollCards_ok (State.setRdr_ok h1)))

theorem actHostGrant_ok {k a0 a1} (h1 : State.ok k a1) : State.ok k (actHostGrant a0 a1) := by
  unfold actHostGrant
  split
  · exact ok_ite (cardGrant_ok h1) (cardResult_ok h1)
  · exact h1

theorem hostGrantTimeout_ok {k a0} (h0 : State.ok k a0) : State.ok k (hostGrantTimeout a0) := by
  unfold hostGrantTimeout
  split
  · exact cardResult_ok h0
  · exact h0

theorem samResponse_ok {k a0 a1} (h1 : State.ok k a1) : State.ok k (samResponse a0 a1) := by
  unfold samResponse
  split
  · exact ok_ite (cardGrant_ok h1) (cardResult_ok h1)
  · exact h1

theorem samLost_ok {k a0} (h0 : State.ok k a0) : State.ok k (samLost a0) := by
  unfold samLost
  split
  · exact cardResult_ok h0
  · exact h0

theorem State.setTag_ok {k a0 a1} (h0 : State.ok k a0) : State.ok k (State.setTag a0 a1) := by
  unfold State.setTag; exact ok_put h0

theorem tagTo_ok {k a0 a1} (h1 : State.ok k a1) : State.ok k (tagTo a0 a1) := by
  unfold tagTo; exact State.setReg_ok h1

theorem dropChallenge_ok {k a0} (h0 : State.ok k a0) : State.ok k (dropChallenge a0) := by
  unfold dropChallenge
  extract_lets x1
  exact State.setTag_ok h0

theorem fieldOn_ok {k a0} (h0 : State.ok k a0) : State.ok k (fieldOn a0) := by
  unfold fieldOn
  extract_lets x1 x2
  have hx1 : State.ok k x1 := State.setDom_ok (State.setDom_ok h0); clear_value x1
  exact ok_ite h0 (tagTo_ok (State.setTag_ok hx1))

theorem tagPowerLost_ok {k a0} (h0 : State.ok k a0) : State.ok k (tagPowerLost a0) := by
  unfold tagPowerLost
  extract_lets x1
  exact State.setTag_ok (State.setReg_ok (ok_foldl (fun _ _ h2 => State.clearReg_ok h2) h0))

theorem fieldLoss_ok {k a0} (h0 : State.ok k a0) : State.ok k (fieldLoss a0) := by
  unfold fieldLoss
  extract_lets x1 x2
  have hx2 : State.ok k x2 := tagTo_ok (State.setTag_ok (State.setDom_ok h0)); clear_value x2
  exact ok_ite hx2 (tagPowerLost_ok (State.setDom_ok hx2))

theorem tagBack_ok {k a0} (h0 : State.ok k a0) : State.ok k (tagBack a0) := by
  unfold tagBack; exact ok_ite (tagTo_ok h0) h0

theorem requestA_ok {k a0 a1} (h1 : State.ok k a1) : State.ok k (requestA a0 a1) := by
  unfold requestA
  extract_lets x1
  exact ok_ite h1 (ok_ite (State.emit_ok (tagTo_ok (State.setTag_ok h1))) (ok_ite (tagTo_ok h1) h1))

theorem anticollision_ok {k a0 a1 a2 a3} (h3 : State.ok k a3) : State.ok k (anticollision a0 a1 a2 a3) := by
  unfold anticollision; exact ok_ite (ok_ite (State.emit_ok h3) h3) (tagBack_ok h3)

theorem selectCascade_ok {k a0 a1 a2} (h2 : State.ok k a2) : State.ok k (selectCascade a0 a1 a2) := by
  unfold selectCascade
  extract_lets x1
  exact ok_ite (tagBack_ok h2) (ok_ite (State.emit_ok (State.setTag_ok h2)) (State.emit_ok (tagTo_ok h2)))

theorem tagRats_ok {k a0} (h0 : State.ok k a0) : State.ok k (tagRats a0) := by
  unfold tagRats
  extract_lets x1
  exact ok_ite (State.emit_ok (State.setTag_ok h0)) (tagBack_ok h0)

theorem tagHalt_ok {k a0} (h0 : State.ok k a0) : State.ok k (tagHalt a0) := by
  unfold tagHalt; exact ok_ite (tagTo_ok h0) (tagBack_ok h0)

theorem tagDeselect_ok {k a0} (h0 : State.ok k a0) : State.ok k (tagDeselect a0) := by
  unfold tagDeselect
  extract_lets x1
  exact ok_ite (State.emit_ok (tagTo_ok (State.setTag_ok h0))) h0

theorem tagSay_ok {k a0 a1 a2} (h2 : State.ok k a2) : State.ok k (tagSay a0 a1 a2) := by
  unfold tagSay; exact State.emit_ok h2

theorem tagRead_ok {k a0 a1} (h1 : State.ok k a1) : State.ok k (tagRead a0 a1).2.2 := by
  unfold tagRead; exact ok_ite3 (mramRead_ok h1) (ok_ite3 (ok_thd h1) (ok_thd h1))

theorem tagWords_ok {k a0 a1} (h1 : State.ok k a1) : State.ok k (tagWords a0 a1).2 := by
  induction a0 generalizing a1 with
  | nil => exact h1
  | cons a l ih => exact ok_ite2 (ok_snd (ih (tagRead_ok h1))) (ok_snd (tagRead_ok h1))

theorem noteScan_ok {k a0 a1} (h1 : State.ok k a1.2) : State.ok k (noteScan a0 a1).2 := by
  induction a0 generalizing a1 with
  | nil => exact h1
  | cons i l ih => exact ih (ok_snd (tagRead_ok h1))

theorem selectApplication_ok {k a0 a1} (h1 : State.ok k a1) : State.ok k (selectApplication a0 a1) := by
  unfold selectApplication
  extract_lets x1 x2
  have hx1 : State.ok k x1 := dropChallenge_ok h1; clear_value x1
  have hx2 : State.ok k x2.2 := noteScan_ok (ok_snd hx1); clear_value x2
  exact ok_ite hx1 (ok_ite (tagSay_ok hx1) (ok_ite (tagSay_ok hx1) (ok_ite (tagSay_ok (State.setReg_ok (tagTo_ok hx2))) (tagSay_ok hx1))))

theorem readIdentity_ok {k a0} (h0 : State.ok k a0) : State.ok k (readIdentity a0) := by
  unfold readIdentity
  extract_lets x1
  have hx1 : State.ok k x1 := dropChallenge_ok h0; clear_value x1
  exact ok_ite hx1 (ok_ite (tagSay_ok hx1) (tagSay_ok hx1))

theorem readWindow_ok {k a0 a1 a2 a3} (h3 : State.ok k a3) : State.ok k (readWindow a0 a1 a2 a3) := by
  unfold readWindow
  extract_lets x1 x2
  have hx1 : State.ok k x1 := dropChallenge_ok h3; clear_value x1
  have hx2 : State.ok k x2.2 := tagWords_ok hx1; clear_value x2
  refine ok_ite hx1 (ok_ite (tagSay_ok hx1) (ok_ite (tagSay_ok hx1) (ok_ite (tagSay_ok hx1) (ok_ite (tagSay_ok hx1) ?_))))
  · split
    · exact tagSay_ok hx2
    · exact tagSay_ok hx2

theorem writeNote_ok {k a0 a1 a2 a3} (h3 : State.ok k a3) : State.ok k (writeNote a0 a1 a2 a3) := by
  unfold writeNote
  extract_lets x1 x2 x3
  have hx1 : State.ok k x1 := dropChallenge_ok h3; clear_value x1
  have hx3 : State.ok k x3 := mramStore_ok hx1; clear_value x3
  exact ok_ite hx1 (ok_ite (tagSay_ok hx1) (ok_ite (tagSay_ok hx1) (ok_ite (tagSay_ok hx1) (ok_ite (tagSay_ok (ok_ite (State.count_ok hx1) hx1)) (tagSay_ok (State.setReg_ok hx3))))))

theorem authFailed_ok {k a0} (h0 : State.ok k a0) : State.ok k (authFailed a0) := by
  unfold authFailed
  extract_lets x1 x2
  have hx2 : State.ok k x2 := tagTo_ok (State.setTag_ok h0); clear_value x2
  exact tagSay_ok (ok_ite (State.count_ok hx2) hx2)

theorem verifyPassword_ok {k a0 a1} (h1 : State.ok k a1) : State.ok k (verifyPassword a0 a1) := by
  unfold verifyPassword
  extract_lets x1 x2
  have hx1 : State.ok k x1 := dropChallenge_ok h1; clear_value x1
  refine ok_ite ?_ ?_
  · exact hx1
  · refine ok_ite ?_ ?_
    · exact tagSay_ok hx1
    · refine ok_ite ?_ ?_
      · exact tagSay_ok hx1
      · split
        · exact tagSay_ok hx1
        · exact ok_ite (tagSay_ok hx1) (ok_ite (tagSay_ok (tagTo_ok (State.setTag_ok hx1))) (authFailed_ok hx1))

theorem authenticateOne_ok {k a0} (h0 : State.ok k a0) : State.ok k (authenticateOne a0) := by
  unfold authenticateOne
  extract_lets x1 x2 x3
  have hx1 : State.ok k x1 := dropChallenge_ok h0; clear_value x1
  have hx2 : State.ok k x2.2 := State.drawBits_ok hx1; clear_value x2
  exact ok_ite hx1 (ok_ite (tagSay_ok hx1) (ok_ite (tagSay_ok hx1) (tagSay_ok (State.setTag_ok hx2))))

theorem authenticateTwo_ok {k a0 a1} (h1 : State.ok k a1) : State.ok k (authenticateTwo a0 a1) := by
  unfold authenticateTwo
  extract_lets x1 x2 x3
  refine ok_ite ?_ ?_
  · exact h1
  · split
    · exact tagSay_ok h1
    · exact ok_ite (tagSay_ok (dropChallenge_ok h1)) (ok_ite (tagSay_ok (tagTo_ok (State.setTag_ok h1))) (authFailed_ok h1))

theorem tagStatus_ok {k a0 a1 a2} (h2 : State.ok k a2) : State.ok k (tagStatus a0 a1 a2) := by
  unfold tagStatus
  extract_lets x1
  have hx1 : State.ok k x1 := dropChallenge_ok h2; clear_value x1
  exact ok_ite hx1 (ok_ite (tagSay_ok hx1) (tagSay_ok hx1))

theorem tagSecurityDrop_ok {k a0} (h0 : State.ok k a0) : State.ok k (tagSecurityDrop a0) := by
  unfold tagSecurityDrop
  extract_lets x1
  exact ok_ite (tagTo_ok (State.setTag_ok h0)) h0

theorem actTagKey_ok {k a0 a1 a2} (h2 : State.ok k a2) : State.ok k (actTagKey a0 a1 a2) := by
  unfold actTagKey
  extract_lets x1
  exact tagSecurityDrop_ok (State.setTag_ok h2)

theorem clearNotes_ok {k a0} (h0 : State.ok k a0) : State.ok k (clearNotes a0) := by
  unfold clearNotes
  extract_lets x1
  exact State.setTag_ok h0

theorem clearStep_ok {k a0} (h0 : State.ok k a0) : State.ok k (clearStep a0) := by
  unfold clearStep
  split
  · exact h0
  · extract_lets x1 x2
    have hx1 : State.ok k x1 := mramStore_ok h0; clear_value x1
    exact ok_ite (State.setTag_ok hx1) (State.setReg_ok (State.setTag_ok hx1))

theorem clearLost_ok {k a0} (h0 : State.ok k a0) : State.ok k (clearLost a0) := by
  unfold clearLost
  extract_lets x1
  exact State.setTag_ok h0

theorem statusPage_ok {k a0 a1} (h1 : State.ok k a1) : State.ok k (statusPage a0 a1) := by
  unfold statusPage
  extract_lets x1 x2
  have hx2 : State.ok k x2 := State.setWord_ok h1; clear_value x2
  exact ok_ite h1 (State.setWord_ok (State.setWords_ok hx2))

theorem State.setSlot_ok {k a0 a1 a2} (h0 : State.ok k a0) : State.ok k (State.setSlot a0 a1 a2) := by
  unfold State.setSlot
  extract_lets x1
  exact ok_put h0

theorem setCrd_ok {k a0 a1 a2} (h2 : State.ok k a2) : State.ok k (setCrd a0 a1 a2) := by
  unfold setCrd; exact State.setReg_ok h2

theorem tryClass_ok {k a0 a1 a2} (h2 : State.ok k a2) : State.ok k (tryClass a0 a1 a2) := by
  unfold tryClass
  extract_lets x1
  have hx1 : State.ok k x1 := setCrd_ok (State.setSlot_ok h2); clear_value x1
  split
  · exact setCrd_ok (State.setSlot_ok h2)
  · exact ok_ite (samLost_ok hx1) hx1

theorem cardInsert_ok {k a0 a1} (h1 : State.ok k a1) : State.ok k (cardInsert a0 a1) := by
  unfold cardInsert; exact ok_ite (tryClass_ok h1) h1

theorem slotAgree_ok {k a0 a1 a2 a3} (h3 : State.ok k a3) : State.ok k (slotAgree a0 a1 a2 a3) := by
  unfold slotAgree
  extract_lets x1
  have hx1 : State.ok k x1 := State.emit_ok h3; clear_value x1
  exact ok_ite (State.emit_ok hx1) hx1

theorem cardAtr_ok {k a0 a1 a2} (h2 : State.ok k a2) : State.ok k (cardAtr a0 a1 a2) := by
  unfold cardAtr
  extract_lets x1 x2 x3 x4
  have hx1 : State.ok k x1 := State.setReg_ok h2; clear_value x1
  have hx4 : State.ok k x4 := State.setSlot_ok hx1; clear_value x4
  refine ok_ite h2 ?_
  · split
    · exact ok_ite (tryClass_ok hx4) (State.setSlot_ok hx4)
    · extract_lets x5
      exact ok_ite (tryClass_ok hx4) (slotAgree_ok (setCrd_ok (State.setSlot_ok hx4)))

theorem cardAtrTimeout_ok {k a0 a1} (h1 : State.ok k a1) : State.ok k (cardAtrTimeout a0 a1) := by
  unfold cardAtrTimeout; exact ok_ite (tryClass_ok h1) h1

theorem cardRemove_ok {k a0 a1} (h1 : State.ok k a1) : State.ok k (cardRemove a0 a1) := by
  unfold cardRemove
  extract_lets x1
  have hx1 : State.ok k x1 := setCrd_ok (State.setSlot_ok h1); clear_value x1
  exact ok_ite h1 (ok_ite (samLost_ok hx1) hx1)

theorem execReaderPoll_ok {k a0 a1} (h1 : State.ok k a1) : Sound k (execReaderPoll a0 a1) := by
  unfold execReaderPoll; exact sound_next (readerPoll_ok h1)

theorem execHostGrantTimeout_ok {k a0} (h0 : State.ok k a0) : Sound k (execHostGrantTimeout a0) := by
  unfold execHostGrantTimeout; exact sound_next (hostGrantTimeout_ok h0)

theorem execSamResponse_ok {k a0 a1} (h1 : State.ok k a1) : Sound k (execSamResponse a0 a1) := by
  unfold execSamResponse; exact sound_next (samResponse_ok h1)

theorem execSamWaitingTimeExpiry_ok {k a0} (h0 : State.ok k a0) : Sound k (execSamWaitingTimeExpiry a0) := by
  unfold execSamWaitingTimeExpiry; exact sound_next (samLost_ok h0)

theorem execTagFieldOn_ok {k a0} (h0 : State.ok k a0) : Sound k (execTagFieldOn a0) := by
  unfold execTagFieldOn; exact sound_next (fieldOn_ok h0)

theorem execTagFieldLoss_ok {k a0} (h0 : State.ok k a0) : Sound k (execTagFieldLoss a0) := by
  unfold execTagFieldLoss; exact sound_next (fieldLoss_ok h0)

theorem execReqa_ok {k a0} (h0 : State.ok k a0) : Sound k (execReqa a0) := by
  unfold execReqa; exact sound_next (requestA_ok h0)

theorem execWupa_ok {k a0} (h0 : State.ok k a0) : Sound k (execWupa a0) := by
  unfold execWupa; exact sound_next (requestA_ok h0)

theorem execAnticollision_ok {k a0 a1 a2 a3} (h3 : State.ok k a3) : Sound k (execAnticollision a0 a1 a2 a3) := by
  unfold execAnticollision; exact sound_next (anticollision_ok h3)

theorem execSelectCascade_ok {k a0 a1 a2} (h2 : State.ok k a2) : Sound k (execSelectCascade a0 a1 a2) := by
  unfold execSelectCascade; exact sound_next (selectCascade_ok h2)

theorem execRats_ok {k a0} (h0 : State.ok k a0) : Sound k (execRats a0) := by
  unfold execRats; exact sound_next (tagRats_ok h0)

theorem execTagHalt_ok {k a0} (h0 : State.ok k a0) : Sound k (execTagHalt a0) := by
  unfold execTagHalt; exact sound_next (tagHalt_ok h0)

theorem execSDeselect_ok {k a0} (h0 : State.ok k a0) : Sound k (execSDeselect a0) := by
  unfold execSDeselect; exact sound_next (tagDeselect_ok h0)

theorem execSelectApplication_ok {k a0 a1} (h1 : State.ok k a1) : Sound k (execSelectApplication a0 a1) := by
  unfold execSelectApplication; exact sound_next (selectApplication_ok h1)

theorem execReadIdentity_ok {k a0} (h0 : State.ok k a0) : Sound k (execReadIdentity a0) := by
  unfold execReadIdentity; exact sound_next (readIdentity_ok h0)

theorem execReadWindow_ok {k a0 a1 a2 a3} (h3 : State.ok k a3) : Sound k (execReadWindow a0 a1 a2 a3) := by
  unfold execReadWindow; exact sound_next (readWindow_ok h3)

theorem execWriteNote_ok {k a0 a1 a2 a3} (h3 : State.ok k a3) : Sound k (execWriteNote a0 a1 a2 a3) := by
  unfold execWriteNote; exact sound_next (writeNote_ok h3)

theorem execVerifyPassword_ok {k a0 a1} (h1 : State.ok k a1) : Sound k (execVerifyPassword a0 a1) := by
  unfold execVerifyPassword; exact sound_next (verifyPassword_ok h1)

theorem execAuthenticate1_ok {k a0} (h0 : State.ok k a0) : Sound k (execAuthenticate1 a0) := by
  unfold execAuthenticate1; exact sound_next (authenticateOne_ok h0)

theorem execAuthenticate2_ok {k a0 a1} (h1 : State.ok k a1) : Sound k (execAuthenticate2 a0 a1) := by
  unfold execAuthenticate2; exact sound_next (authenticateTwo_ok h1)

theorem execGetStatus_ok {k a0 a1 a2} (h2 : State.ok k a2) : Sound k (execGetStatus a0 a1 a2) := by
  unfold execGetStatus; exact sound_next (tagStatus_ok h2)

theorem execStatusPageUpdate_ok {k a0 a1} (h1 : State.ok k a1) : Sound k (execStatusPageUpdate a0 a1) := by
  unfold execStatusPageUpdate; exact sound_next (statusPage_ok h1)

theorem execCardInsert_ok {k a0 a1} (h1 : State.ok k a1) : Sound k (execCardInsert a0 a1) := by
  unfold execCardInsert; exact sound_next (cardInsert_ok h1)

theorem execCardAtr_ok {k a0 a1 a2} (h2 : State.ok k a2) : Sound k (execCardAtr a0 a1 a2) := by
  unfold execCardAtr; exact sound_next (cardAtr_ok h2)

theorem execCardAtrTimeout_ok {k a0 a1} (h1 : State.ok k a1) : Sound k (execCardAtrTimeout a0 a1) := by
  unfold execCardAtrTimeout; exact sound_next (cardAtrTimeout_ok h1)

theorem execCardRemove_ok {k a0 a1} (h1 : State.ok k a1) : Sound k (execCardRemove a0 a1) := by
  unfold execCardRemove; exact sound_next (cardRemove_ok h1)

end Sys2Proof.Machine
end

