-- ==== Sys2Proof/Laws/SoundWings.lean ====
section
/-!
SUPPORT. The operations of Machine/Wings.lean keep `State.ok`, one lemma for each.
-/

namespace Sys2Proof.Machine

open Sys2Proof

theorem markSlot_ok {k a0 a1} (h1 : State.ok k a1) : State.ok k (markSlot a0 a1) := by
  unfold markSlot; exact State.setWord_ok h1

theorem updateCast_ok {k a0} (h0 : State.ok k a0) : State.ok k (updateCast a0) := by
  unfold updateCast; exact State.setReg_ok h0

theorem setCast_ok {k a0 a1 a2} (h2 : State.ok k a2) : State.ok k (setCast a0 a1 a2) := by
  unfold setCast; exact State.setReg_ok h2

theorem setStatus_ok {k a0 a1} (h1 : State.ok k a1) : State.ok k (setStatus a0 a1) := by
  unfold setStatus
  extract_lets x1
  exact State.setReg_ok (ok_put h1)

theorem wngTo_ok {k a0 a1 a2} (h2 : State.ok k a2) : State.ok k (wngTo a0 a1 a2) := by
  unfold wngTo; exact setStatus_ok h2

theorem updateRecord_ok {k a0 a1 a2} (h2 : State.ok k a2) : State.ok k (updateRecord a0 a1 a2) := by
  unfold updateRecord; exact record_ok h2

theorem updateCommit_ok {k a0 a1 a2} (h2 : State.ok k a2) : State.ok k (updateCommit a0 a1 a2).2 := by
  unfold updateCommit; exact commit_ok h2

theorem closeStaging_ok {k a0} (h0 : State.ok k a0) : State.ok k (closeStaging a0) := by
  unfold closeStaging
  extract_lets x1
  exact wngTo_ok (ok_put h0)

theorem failStaging_ok {k a0 a1} (h1 : State.ok k a1) : State.ok k (failStaging a0 a1) := by
  unfold failStaging
  extract_lets x1
  exact updateRecord_ok (wngTo_ok (ok_put h1))

theorem refuseDiff_ok {k a0 a1} (h1 : State.ok k a1) : State.ok k (refuseDiff a0 a1) := by
  unfold refuseDiff; exact wngTo_ok h1

theorem actWngOpen_ok {k a0 a1 a2} (h2 : State.ok k a2) : State.ok k (actWngOpen a0 a1 a2).2 := by
  unfold actWngOpen
  extract_lets x1 x2 x3 x4 x5 x6 x7 x8
  have hx4 : State.ok k x4 := ok_foldl (fun _ _ h9 => State.setDom_ok h9) h2; clear_value x4
  have hx6 : State.ok k x6 := ok_put hx4; clear_value x6
  have hx7 : State.ok k x7 := State.clearReg_ok (State.clearReg_ok hx6); clear_value x7
  have hx8 : State.ok k x8 := setStatus_ok hx7; clear_value x8
  exact ok_ite2 (ok_snd h2) (ok_ite2 (ok_snd (setStatus_ok h2)) (ok_ite2 (ok_snd h2) (ok_ite2 (ok_snd h2) (ok_snd (record_ok hx8)))))

theorem diffStep_ok {k a0 a1} (h1 : State.ok k a1) : ∀ t, diffStep a0 a1 = some t → State.ok k t := by
  unfold diffStep
  extract_lets x1 x2 x3 x4 x5 x6 x7 x8 x9 x10 x11
  have r (n s) (h : State.ok k s) : ∀ t, some (refuseDiff n s) = some t → State.ok k t := okO_some (refuseDiff_ok h)
  have h8 : State.ok k x8 := ok_put h1
  clear_value x8
  have hn := @okO_none k
  refine okO_ite hn (okO_ite (okO_ite hn (okO_ite (r _ _ h8) (okO_ite (r _ _ h8) (okO_ite (r _ _ h8) (okO_some h8)))))
    (okO_ite hn (okO_ite (r _ _ h1) (okO_ite (okO_some ?_) (okO_ite (okO_ite (okO_some (ok_put h1)) (r _ _ h1))
      (okO_ite (okO_ite hn (okO_ite (r _ _ h1) (okO_some ?_))) (okO_ite (okO_ite hn (okO_ite (r _ _ h1)
        (okO_some (ok_put h1)))) (r _ _ h1))))))))
  · exact ok_put (State.setBytes_ok h1)
  · exact State.ok_of h1 (Memory.copyRange_wf h1.1) h1.2.1 rfl rfl rfl rfl rfl rfl

theorem diffRun_ok {k a0 a1 a2} (h2 : State.ok k a2) : State.ok k (diffRun a0 a1 a2) := by
  induction a1 generalizing a2 with
  | zero => exact h2
  | succ n ih =>
    unfold diffRun
    split
    · exact h2
    · exact ih (diffStep_ok h2 _ ‹_›)

theorem allCame_ok {k a0} (h0 : State.ok k a0) : State.ok k (allCame a0) := by
  unfold allCame; exact wngTo_ok (State.setReg_ok h0)

theorem actWngChunk_ok {k a0 a1 a2 a3} (h3 : State.ok k a3) : State.ok k (actWngChunk a0 a1 a2 a3).2 := by
  unfold actWngChunk
  extract_lets x1 x2 x3 x4 x5 x6 x7 x8
  have hx3 : State.ok k x3 := setStatus_ok h3; clear_value x3
  have hx4 : State.ok k x4 := State.setBytes_ok hx3; clear_value x4
  have hx6 : State.ok k x6 := ok_put hx3; clear_value x6
  have hx7 : State.ok k x7 := ok_ite (ok_put hx4) (diffRun_ok hx6); clear_value x7
  exact ok_ite2 (ok_snd h3) (ok_ite2 (ok_snd h3) (ok_snd (ok_ite hx7 (ok_ite (allCame_ok hx7) hx7))))

theorem actWngVerify_ok {k a0 a1} (h1 : State.ok k a1) : State.ok k (actWngVerify a0 a1).2 := by
  unfold actWngVerify; exact ok_ite2 (ok_snd (wngTo_ok h1)) (ok_snd h1)

theorem verifyComplete_ok {k a0 a1} (h1 : State.ok k a1) : State.ok k (verifyComplete a0 a1) := by
  unfold verifyComplete
  extract_lets x1 x2
  have hx2 : State.ok k x2 := State.setReg_ok h1; clear_value x2
  exact ok_ite h1 (ok_ite (updateRecord_ok (wngTo_ok hx2)) (failStaging_ok hx2))

theorem keepPrevious_ok {k a0 a1} (h1 : State.ok k a1) : State.ok k (keepPrevious a0 a1) := by
  unfold keepPrevious
  exact ok_ite h1 (State.ok_of h1 (Memory.copyRange_wf (Memory.clear_wf h1.1)) h1.2.1 rfl rfl rfl rfl rfl rfl)

theorem commitImage_ok {k a0 a1} (h1 : State.ok k a1) : State.ok k (commitImage a0 a1).2 := by
  unfold commitImage
  extract_lets x1 x2 x3
  have hx1 : State.ok k x1.2 := updateCommit_ok (keepPrevious_ok h1); clear_value x1
  have hx2 : State.ok k x2 := hx1; clear_value x2
  exact ok_ite2 (ok_snd (wngTo_ok (ok_put hx2))) (ok_snd hx1)

theorem actWngCommit_ok {k a0 a1} (h1 : State.ok k a1) : State.ok k (actWngCommit a0 a1).2 := by
  unfold actWngCommit
  extract_lets x1 x2
  exact ok_ite2 (ok_snd h1) (ok_ite2 (ok_snd h1) (ok_ite2 (ok_snd (ok_put h1)) (commitImage_ok h1)))

theorem actWngCommitCrc_ok {k a0 a1 a2} (h2 : State.ok k a2) : State.ok k (actWngCommitCrc a0 a1 a2).2 := by
  unfold actWngCommitCrc
  extract_lets x1
  exact ok_ite2 (ok_snd h2) (ok_ite2 (ok_snd h2) (ok_ite2 (ok_snd (ok_put h2)) (commitImage_ok h2)))

theorem actWngConfirm_ok {k a0 a1} (h1 : State.ok k a1) : State.ok k (actWngConfirm a0 a1).2 := by
  unfold actWngConfirm
  extract_lets x1 x2 x3 x4
  have hx3 : State.ok k x3 := record_ok h1; clear_value x3
  have hx4 : State.ok k x4 := setCast_ok (wngTo_ok hx3); clear_value x4
  exact ok_ite2 (ok_snd h1) (ok_ite2 (ok_snd h1) (ok_snd (updateCast_ok (selfCommit_ok (State.setReg_ok (State.setReg_ok hx4))))))

theorem rollback_ok {k a0 a1} (h1 : State.ok k a1) : State.ok k (rollback a0 a1).2 := by
  unfold rollback
  extract_lets x1 x2 x3
  have hx3 : State.ok k x3.2 := commit_ok h1; clear_value x3
  exact ok_ite2 (ok_snd (wngTo_ok (ok_ite (markSlot_ok hx3) hx3))) (ok_snd hx3)

theorem actWngRollback_ok {k a0 a1} (h1 : State.ok k a1) : State.ok k (actWngRollback a0 a1).2 := by
  unfold actWngRollback
  extract_lets x1
  have hx1 : State.ok k x1.2 := rollback_ok h1; clear_value x1
  exact ok_ite2 (ok_snd h1) (ok_ite2 (ok_snd h1) (ok_snd hx1))

theorem actWngAbandon_ok {k a0 a1} (h1 : State.ok k a1) : State.ok k (actWngAbandon a0 a1).2 := by
  unfold actWngAbandon; exact ok_ite2 (ok_snd h1) (ok_ite2 (ok_snd (closeStaging_ok (updateRecord_ok h1))) (ok_snd h1))

theorem wingsAbandon_ok {k a0} (h0 : State.ok k a0) : State.ok k (wingsAbandon a0) := by
  unfold wingsAbandon; exact ok_ite (closeStaging_ok (updateRecord_ok h0)) h0

theorem markDamaged_ok {k a0 a1} (h1 : State.ok k a1) : State.ok k (markDamaged a0 a1) := by
  unfold markDamaged
  extract_lets x1 x2 x3
  have hx2 : State.ok k x2 := record_ok (setCast_ok h1); clear_value x2
  have hx3 : State.ok k x3 := updateCast_ok hx2; clear_value x3
  exact ok_ite h1 (ok_ite (countJournalled_ok (rollback_ok hx3)) hx3)

theorem reverify_ok {k a0} (h0 : State.ok k a0) : State.ok k (reverify a0) := by
  unfold reverify; exact ok_foldl (fun _ _ h1 => markDamaged_ok h1) h0

theorem bootCopy_ok {k a0} (h0 : State.ok k a0) : State.ok k (bootCopy a0) := by
  unfold bootCopy
  extract_lets x1 x2 x3 x4 x5 x6 x7 x8 x9 x10
  have hx8 : State.ok k x8 := State.copyMem_ok h0
  clear_value x8
  have hx10 : State.ok k x10 := ok_ite (markSlot_ok (ok_upd hx8 rfl rfl rfl rfl rfl)) hx8
  clear_value x10
  exact record_ok hx10

theorem rebuildCast_ok {k a0 a1 a2} (h2 : State.ok k a2) : State.ok k (rebuildCast a0 a1 a2) := by
  unfold rebuildCast
  extract_lets x1 x2
  exact setCast_ok h2

theorem wingsStart_ok {k a0} (h0 : State.ok k a0) : State.ok k (wingsStart a0) := by
  unfold wingsStart
  extract_lets x1 x2 x3 x4 x5 x6 x7 x8 x9 x10 x11
  have hx3 : State.ok k x3 := State.setReg_ok h0; clear_value x3
  have hx5 : State.ok k x5 := ok_put hx3; clear_value x5
  have hx6 : State.ok k x6 := ok_ite (updateRecord_ok hx5) hx5; clear_value x6
  have hx7 : State.ok k x7 := ok_ite hx6 (setStatus_ok hx6); clear_value x7
  have hx8 : State.ok k x8 := ok_ite hx7 (wngTo_ok hx7); clear_value x8
  have hx9 : State.ok k x9 := ok_ite (tamperStart_ok hx8) hx8; clear_value x9
  have hx10 : State.ok k x10 := ok_foldl (fun _ _ h12 => rebuildCast_ok h12) hx9; clear_value x10
  have hx11 : State.ok k x11 := updateCast_ok hx10; clear_value x11
  exact ok_ite (countJournalled_ok (rollback_ok hx11)) hx11

theorem execVerifyComplete_ok {k a0 a1} (h1 : State.ok k a1) : Sound k (execVerifyComplete a0 a1) := by
  unfold execVerifyComplete; exact sound_next (verifyComplete_ok h1)

theorem execReverifyTimer_ok {k a0} (h0 : State.ok k a0) : Sound k (execReverifyTimer a0) := by
  unfold execReverifyTimer; exact sound_next (ok_ite (reverify_ok h0) h0)

end Sys2Proof.Machine
end

