-- ==== Sys2Proof/Laws/SoundDisplay.lean ====
section
/-!
SUPPORT. The operations of Machine/Display.lean keep `State.ok`, one lemma for each.
-/

namespace Sys2Proof.Machine

open Sys2Proof

theorem State.setDsp_ok {k a0 a1} (h0 : State.ok k a0) : State.ok k (State.setDsp a0 a1) := by
  unfold State.setDsp; exact ok_put h0

theorem toDsp_ok {k a0 a1} (h1 : State.ok k a1) : State.ok k (toDsp a0 a1) := by
  unfold toDsp; exact State.setReg_ok h1

theorem dspResult_ok {k a0 a1} (h1 : State.ok k a1) : State.ok k (dspResult a0 a1) := by
  unfold dspResult; exact State.setReg_ok h1

theorem loadSet_ok {k a0} (h0 : State.ok k a0) : State.ok k (loadSet a0) := by
  unfold loadSet
  extract_lets x1 x2 x3
  have hx2 : State.ok k x2 := State.setDsp_ok h0; clear_value x2
  exact ok_ite hx2 (markDamaged_ok (toDsp_ok (State.setDsp_ok hx2)))

theorem readTemp_ok {k a0} (h0 : State.ok k a0) : State.ok k (readTemp a0) := by
  unfold readTemp
  extract_lets x1 x2 x3
  have hx3 : State.ok k x3 := State.setReg_ok (State.setRegI_ok h0); clear_value x3
  exact State.setReg_ok hx3

theorem renderFields_ok {k a0} (h0 : State.ok k a0) : State.ok k (renderFields a0) := by
  unfold renderFields
  extract_lets x1 x2
  exact ok_ite h0 (State.setDsp_ok h0)

theorem putSlots_ok {k a0 a1} (h1 : State.ok k a1) : State.ok k (putSlots a0 a1) := by
  unfold putSlots; exact State.setBytes_ok (State.emit_ok h1)

theorem startRun_ok {k a0 a1 a2 a3} (h3 : State.ok k a3) : State.ok k (startRun a0 a1 a2 a3) := by
  unfold startRun
  extract_lets x1
  exact ok_ite (State.setReg_ok h3) (State.setDsp_ok h3)

theorem startResting_ok {k a0} (h0 : State.ok k a0) : State.ok k (startResting a0) := by
  unfold startResting
  extract_lets x1 x2 x3
  exact ok_foldl (fun _ _ h4 => ok_ite h4 (startRun_ok h4)) h0

theorem updateGoes_ok {k a0} (h0 : State.ok k a0) : State.ok k (updateGoes a0) := by
  unfold updateGoes
  extract_lets x1 x2 x3
  have hx2 : State.ok k x2 := State.setReg_ok (dspResult_ok h0); clear_value x2
  exact ok_ite (toDsp_ok (State.setDsp_ok hx2)) (putSlots_ok h0)

theorem startUpdate_ok {k a0 a1} (h1 : State.ok k a1) : State.ok k (startUpdate a0 a1) := by
  unfold startUpdate
  extract_lets x1 x2 x3
  have hx3 : State.ok k x3 := State.setDsp_ok h1; clear_value x3
  exact updateGoes_ok (startResting_ok (toDsp_ok (State.setReg_ok hx3)))

theorem idleTarget_ok {k a0 a1} (h1 : State.ok k a1) : State.ok k (idleTarget a0 a1) := by
  unfold idleTarget
  extract_lets x1
  have hx1 : State.ok k x1 := readTemp_ok h1; clear_value x1
  exact ok_ite (dspResult_ok (State.count_ok hx1)) (startUpdate_ok (State.count_ok hx1))

theorem newTarget_ok {k a0} (h0 : State.ok k a0) : State.ok k (newTarget a0) := by
  unfold newTarget
  extract_lets x1 x2 x3 x4 x5 x6
  have hx1 : State.ok k x1 := renderFields_ok h0; clear_value x1
  have hx5 : State.ok k x5 := ok_ite (dspResult_ok hx1) hx1; clear_value x5
  exact ok_ite h0 (ok_ite (dspResult_ok (State.count_ok hx1)) (ok_ite (dspResult_ok hx1) (ok_ite (dspResult_ok (State.count_ok hx1)) (ok_ite (dspResult_ok hx1) (ok_ite (idleTarget_ok hx1) (ok_ite (dspResult_ok (State.count_ok (State.setDsp_ok hx1))) (State.count_ok (State.setDsp_ok hx5))))))))

theorem judgeRun_ok {k a0 a1} (h1 : State.ok k a1) : State.ok k (judgeRun a0 a1) := by
  unfold judgeRun
  extract_lets x1 x2 x3 x4
  have hx3 : State.ok k x3 := State.setReg_ok h1; clear_value x3
  exact ok_ite (ok_ite hx3 (startRun_ok hx3)) (ok_ite (startRun_ok h1) (State.setDsp_ok h1))

theorem updateFrame_ok {k a0} (h0 : State.ok k a0) : State.ok k (updateFrame a0) := by
  unfold updateFrame
  extract_lets x1 x2 x3 x4 x5
  have hx4 : State.ok k x4 := State.setDsp_ok h0; clear_value x4
  have hx5 : State.ok k x5 := ok_foldl (fun _ _ h6 => judgeRun_ok h6) hx4; clear_value x5
  exact updateGoes_ok (ok_ite hx5 (startResting_ok hx5))

theorem clearEnd_ok {k a0} (h0 : State.ok k a0) : State.ok k (clearEnd a0) := by
  unfold clearEnd
  extract_lets x1 x2 x3 x4 x5 x6
  have hx1 : State.ok k x1 := State.setReg_ok h0; clear_value x1
  have hx4 : State.ok k x4 := State.setDsp_ok hx1; clear_value x4
  have hx5 : State.ok k x5 := renderFields_ok (toDsp_ok hx4); clear_value x5
  have hx6 : State.ok k x6 := readTemp_ok hx5; clear_value x6
  refine ok_ite ?_ ?_
  · exact toDsp_ok hx4
  · clear_value x2
    split
    · exact ok_ite (dspResult_ok (State.count_ok hx6)) (startUpdate_ok hx6)
    · exact ok_ite hx5 (idleTarget_ok hx5)

theorem clearFrame_ok {k a0} (h0 : State.ok k a0) : State.ok k (clearFrame a0) := by
  unfold clearFrame
  extract_lets x1 x2 x3
  have hx3 : State.ok k x3 := State.setDsp_ok h0; clear_value x3
  exact ok_ite (clearEnd_ok hx3) (putSlots_ok hx3)

theorem clearBegin_ok {k a0} (h0 : State.ok k a0) : State.ok k (clearBegin a0) := by
  unfold clearBegin
  extract_lets x1 x2
  have hx1 : State.ok k x1 := State.setReg_ok (State.setReg_ok h0); clear_value x1
  exact putSlots_ok (toDsp_ok (State.setDsp_ok hx1))

theorem frameEnd_ok {k a0} (h0 : State.ok k a0) : State.ok k (frameEnd a0) := by
  unfold frameEnd; exact ok_ite h0 (ok_ite (clearFrame_ok (clearBegin_ok h0)) (ok_ite (clearFrame_ok h0) (ok_ite (updateFrame_ok h0) h0)))

theorem powerOn_ok {k a0} (h0 : State.ok k a0) : State.ok k (powerOn a0) := by
  unfold powerOn
  extract_lets x1 x2 x3 x4
  have hx1 : State.ok k x1 := ok_ite h0 (loadSet_ok h0); clear_value x1
  have hx2 : State.ok k x2 := readTemp_ok hx1; clear_value x2
  exact ok_ite h0 (ok_ite hx1 (ok_ite (toDsp_ok hx2) (toDsp_ok (State.setDsp_ok hx2))))

theorem cutUpdate_ok {k a0 a1 a2} (h2 : State.ok k a2) : State.ok k (cutUpdate a0 a1 a2) := by
  unfold cutUpdate
  extract_lets x1 x2
  have hx1 : State.ok k x1 := ok_ite (dspResult_ok h2) h2; clear_value x1
  exact toDsp_ok (State.setDsp_ok hx1)

theorem railFault_ok {k a0 a1} (h1 : State.ok k a1) : State.ok k (railFault a0 a1) := by
  unfold railFault; exact ok_ite h1 (cutUpdate_ok (State.setReg_ok h1))

theorem abruptDischarge_ok {k a0} (h0 : State.ok k a0) : State.ok k (abruptDischarge a0) := by
  unfold abruptDischarge; exact ok_ite (cutUpdate_ok h0) h0

theorem slotMissing_ok {k a0} (h0 : State.ok k a0) : State.ok k (slotMissing a0) := by
  unfold slotMissing; exact ok_ite h0 (abruptDischarge_ok (State.setReg_ok h0))

theorem displayPowerOff_ok {k a0} (h0 : State.ok k a0) : State.ok k (displayPowerOff a0) := by
  unfold displayPowerOff
  extract_lets x1 x2 x3 x4 x5
  have hx2 : State.ok k x2 := ok_ite (dspResult_ok h0) (ok_ite (dspResult_ok h0) h0); clear_value x2
  have hx4 : State.ok k x4 := State.setDsp_ok hx2; clear_value x4
  exact ok_ite (toDsp_ok hx4) (ok_ite (toDsp_ok (State.setDsp_ok hx4)) (ok_ite (toDsp_ok hx4) hx4))

theorem offTimeout_ok {k a0} (h0 : State.ok k a0) : State.ok k (offTimeout a0) := by
  unfold offTimeout; exact ok_ite (abruptDischarge_ok h0) h0

theorem railsDischarged_ok {k a0} (h0 : State.ok k a0) : State.ok k (railsDischarged a0) := by
  unfold railsDischarged
  extract_lets x1 x2 x3
  have hx1 : State.ok k x1 := State.setReg_ok h0; clear_value x1
  have hx2 : State.ok k x2 := ok_ite (toDsp_ok hx1) hx1; clear_value x2
  exact ok_ite h0 (ok_ite (State.setDom_ok (State.setDsp_ok hx2)) hx2)

theorem displayForget_ok {k a0} (h0 : State.ok k a0) : State.ok k (displayForget a0) := by
  unfold displayForget; exact State.setDsp_ok h0

theorem blinkPhase_ok {k a0} (h0 : State.ok k a0) : State.ok k (blinkPhase a0) := by
  unfold blinkPhase
  extract_lets x1 x2 x3
  have hx3 : State.ok k x3 := State.setDsp_ok h0; clear_value x3
  exact ok_ite (newTarget_ok hx3) hx3

theorem infoPress_ok {k a0} (h0 : State.ok k a0) : State.ok k (infoPress a0) := by
  unfold infoPress
  extract_lets x1
  exact ok_ite (State.setDsp_ok h0) h0

theorem sinkFault_ok {k a0 a1} (h1 : State.ok k a1) : State.ok k (sinkFault a0 a1) := by
  unfold sinkFault; exact ok_ite (State.setReg_ok h1) h1

theorem execFieldValueChange_ok {k a0} (h0 : State.ok k a0) : Sound k (execFieldValueChange a0) := by
  unfold execFieldValueChange; exact sound_next (ok_ite (newTarget_ok h0) h0)

theorem execBlinkPhase_ok {k a0} (h0 : State.ok k a0) : Sound k (execBlinkPhase a0) := by
  unfold execBlinkPhase; exact sound_next (blinkPhase_ok h0)

theorem execDisplayFrameEnd_ok {k a0} (h0 : State.ok k a0) : Sound k (execDisplayFrameEnd a0) := by
  unfold execDisplayFrameEnd; exact sound_next (frameEnd_ok h0)

theorem execDisplayTempRead_ok {k a0} (h0 : State.ok k a0) : Sound k (execDisplayTempRead a0) := by
  unfold execDisplayTempRead; exact sound_next (ok_ite (readTemp_ok h0) h0)

theorem execDisplayPowerOn_ok {k a0} (h0 : State.ok k a0) : Sound k (execDisplayPowerOn a0) := by
  unfold execDisplayPowerOn; exact sound_next (ok_ite (powerOn_ok h0) h0)

theorem execRailFault_ok {k a0 a1} (h1 : State.ok k a1) : Sound k (execRailFault a0 a1) := by
  unfold execRailFault; exact sound_next (railFault_ok h1)

theorem execSlotDataMissing_ok {k a0} (h0 : State.ok k a0) : Sound k (execSlotDataMissing a0) := by
  unfold execSlotDataMissing; exact sound_next (slotMissing_ok h0)

theorem execDisplayPowerOff_ok {k a0} (h0 : State.ok k a0) : Sound k (execDisplayPowerOff a0) := by
  unfold execDisplayPowerOff; exact sound_next (ok_ite (displayPowerOff_ok h0) h0)

theorem execDisplayOffTimeout_ok {k a0} (h0 : State.ok k a0) : Sound k (execDisplayOffTimeout a0) := by
  unfold execDisplayOffTimeout; exact sound_next (offTimeout_ok h0)

theorem execAbruptDischarge_ok {k a0} (h0 : State.ok k a0) : Sound k (execAbruptDischarge a0) := by
  unfold execAbruptDischarge; exact sound_next (abruptDischarge_ok h0)

theorem execDisplayColdRetry_ok {k a0} (h0 : State.ok k a0) : Sound k (execDisplayColdRetry a0) := by
  unfold execDisplayColdRetry; exact sound_next (ok_ite (powerOn_ok h0) h0)

theorem execFrontlightHoldExpiry_ok {k a0} (h0 : State.ok k a0) : Sound k (execFrontlightHoldExpiry a0) := by
  unfold execFrontlightHoldExpiry; exact sound_next (State.setDsp_ok h0)

theorem execFrontlightSinkFault_ok {k a0 a1} (h1 : State.ok k a1) : Sound k (execFrontlightSinkFault a0 a1) := by
  unfold execFrontlightSinkFault; exact sound_next (sinkFault_ok h1)

theorem execWaveformSetLoad_ok {k a0} (h0 : State.ok k a0) : Sound k (execWaveformSetLoad a0) := by
  unfold execWaveformSetLoad; exact sound_next (ok_ite (loadSet_ok (toDsp_ok h0)) h0)

end Sys2Proof.Machine
end

