-- ==== Sys2Proof/Laws/SoundSerial.lean ====
section
/-!
SUPPORT. The operations of Machine/Serial.lean keep `State.ok`, one lemma for each.
-/

namespace Sys2Proof.Machine

open Sys2Proof

theorem State.setSer_ok {k a0 a1} (h0 : State.ok k a0) : State.ok k (State.setSer a0 a1) := by
  unfold State.setSer; exact ok_put h0

theorem State.setUart_ok {k a0 a1 a2} (h0 : State.ok k a0) : State.ok k (State.setUart a0 a1 a2) := by
  unfold State.setUart
  extract_lets x1
  exact State.setSer_ok h0

theorem setUstat_ok {k a0 a1 a2 a3} (h3 : State.ok k a3) : State.ok k (setUstat a0 a1 a2 a3) := by
  unfold setUstat; exact State.setReg_ok h3

theorem uartError_ok {k a0 a1 a2} (h2 : State.ok k a2) : State.ok k (uartError a0 a1 a2) := by
  unfold uartError
  extract_lets x1
  exact State.setReg_ok h2

theorem fillTx_ok {k a0 a1} (h1 : State.ok k a1) : State.ok k (fillTx a0 a1) := by
  unfold fillTx
  extract_lets x1 x2
  exact State.setUart_ok h1

theorem flushTx_ok {k a0 a1} (h1 : State.ok k a1) : State.ok k (flushTx a0 a1) := by
  unfold flushTx
  extract_lets x1 x2 x3
  have hx3 : State.ok k x3 := State.setUart_ok h1; clear_value x3
  exact ok_ite h1 (ok_ite (fillTx_ok h1) (ok_ite hx3 (State.emit_ok hx3)))

theorem flowWritten_ok {k a0 a1} (h1 : State.ok k a1) : State.ok k (flowWritten a0 a1) := by
  unfold flowWritten; exact flushTx_ok (ok_ite h1 (setUstat_ok (setUstat_ok h1)))

theorem actTxData_ok {k a0 a1 a2} (h2 : State.ok k a2) : State.ok k (actTxData a0 a1 a2).2 := by
  unfold actTxData
  extract_lets x1
  exact ok_ite2 (ok_snd h2) (ok_snd (flushTx_ok (State.setUart_ok h2)))

theorem drainFifo_ok {k a0 a1} (h1 : State.ok k a1) : State.ok k (drainFifo a0 a1) := by
  unfold drainFifo
  extract_lets x1 x2
  exact State.setUart_ok h1

theorem sendXoff_ok {k a0 a1} (h1 : State.ok k a1) : State.ok k (sendXoff a0 a1) := by
  unfold sendXoff; exact ok_ite (setUstat_ok (State.emit_ok h1)) h1

theorem sendXon_ok {k a0 a1} (h1 : State.ok k a1) : State.ok k (sendXon a0 a1) := by
  unfold sendXon; exact ok_ite (setUstat_ok (State.emit_ok h1)) h1

theorem storeChar_ok {k a0 a1 a2 a3} (h3 : State.ok k a3) : State.ok k (storeChar a0 a1 a2 a3) := by
  unfold storeChar
  extract_lets x1 x2
  have hx2 : State.ok k x2 := State.setUart_ok h3; clear_value x2
  exact ok_ite (uartError_ok (State.setUart_ok h3)) (sendXoff_ok (drainFifo_ok hx2))

theorem tunnelChar_ok {k a0 a1 a2 a3} (h3 : State.ok k a3) : State.ok k (tunnelChar a0 a1 a2 a3) := by
  unfold tunnelChar; exact ok_ite (setUstat_ok h3) (ok_ite (flushTx_ok (setUstat_ok h3)) (storeChar_ok h3))

theorem prbsBit_ok {k a0 a1 a2} (h2 : State.ok k a2) : State.ok k (prbsBit a0 a1 a2) := by
  unfold prbsBit
  extract_lets x1 x2 x3 x4 x5
  have hx4 : State.ok k x4 := State.setUart_ok h2; clear_value x4
  have hx5 : State.ok k x5 := State.count_ok hx4; clear_value x5
  exact ok_ite (ok_ite hx5 (State.count_ok hx5)) hx4

theorem prbsChar_ok {k a0 a1 a2} (h2 : State.ok k a2) : State.ok k (prbsChar a0 a1 a2) := by
  unfold prbsChar; exact ok_foldl (fun _ _ h1 => prbsBit_ok h1) h2

theorem doorEnd_ok {k a0} (h0 : State.ok k a0) : State.ok k (doorEnd a0) := by
  unfold doorEnd
  extract_lets x1 x2 x3 x4
  have hx3 : State.ok k x3 := State.setSer_ok h0; clear_value x3
  have hx4 : State.ok k x4 := State.count_ok hx3; clear_value x4
  refine ok_ite ?_ ?_
  · exact hx3
  · refine ok_ite ?_ ?_
    · exact ok_ite (State.count_ok hx4) hx4
    · split
      · exact State.count_ok hx3
      · exact ok_ite (State.count_ok hx3) (cueArrive_ok (State.count_ok hx3))

theorem doorChar_ok {k a0 a1 a2} (h2 : State.ok k a2) : State.ok k (doorChar a0 a1 a2) := by
  unfold doorChar
  extract_lets x1 x2
  exact ok_ite (State.setSer_ok h2) (ok_ite (doorEnd_ok h2) (State.setSer_ok h2))

theorem doorTimeout_ok {k a0} (h0 : State.ok k a0) : State.ok k (doorTimeout a0) := by
  unfold doorTimeout
  extract_lets x1
  exact ok_ite h0 (State.count_ok (State.setSer_ok h0))

theorem uartChar_ok {k a0 a1 a2 a3 a4} (h4 : State.ok k a4) : State.ok k (uartChar a0 a1 a2 a3 a4) := by
  unfold uartChar
  extract_lets x1 x2 x3 x4 x5 x6 x7 x8 x9
  have hx4 : State.ok k x4 := setUstat_ok h4; clear_value x4
  have hx5 : State.ok k x5 := ok_ite (uartError_ok hx4) hx4; clear_value x5
  have hx6 : State.ok k x6 := setUstat_ok h4; clear_value x6
  have hx7 : State.ok k x7 := ok_ite (uartError_ok hx6) hx6; clear_value x7
  have hx8 : State.ok k x8 := ok_ite (State.count_ok hx7) hx7; clear_value x8
  have hx9 : State.ok k x9 := ok_ite (uartError_ok hx8) hx8; clear_value x9
  exact ok_ite (ok_ite h4 (doorChar_ok (ok_ite (uartError_ok hx5) hx5))) (ok_ite h4 (ok_ite (prbsChar_ok h4) (ok_ite h4 (ok_ite (tunnelChar_ok hx9) hx9))))

theorem startEdge_ok {k a0} (h0 : State.ok k a0) : State.ok k (startEdge a0) := by
  unfold startEdge
  extract_lets x1 x2 x3
  have hx2 : State.ok k x2 := State.setSer_ok (State.setSrc_ok h0); clear_value x2
  exact ok_ite h0 (ok_upd hx2 rfl rfl rfl rfl rfl)

theorem wakeCheck_ok {k a0 a1} (h1 : State.ok k a1) : State.ok k (wakeCheck a0 a1) := by
  unfold wakeCheck
  extract_lets x1
  exact ok_ite h1 (ok_ite (setUstat_ok (State.setSer_ok h1)) (setUstat_ok (State.setSer_ok h1)))

theorem breakDetect_ok {k a0} (h0 : State.ok k a0) : State.ok k (breakDetect a0) := by
  unfold breakDetect
  extract_lets x1
  exact ok_ite h0 (setUstat_ok (State.setSer_ok h0))

theorem doorWritten_ok {k a0} (h0 : State.ok k a0) : State.ok k (doorWritten a0) := by
  unfold doorWritten
  extract_lets x1
  exact setUstat_ok (State.setSer_ok h0)

theorem doorSettings_ok {k a0} (h0 : State.ok k a0) : State.ok k (doorSettings a0) := by
  unfold doorSettings
  extract_lets x1
  exact State.setSer_ok h0

theorem doorStart_ok {k a0} (h0 : State.ok k a0) : State.ok k (doorStart a0) := by
  unfold doorStart
  extract_lets x1
  exact doorSettings_ok (State.setSer_ok h0)

theorem doorLost_ok {k a0} (h0 : State.ok k a0) : State.ok k (doorLost a0) := by
  unfold doorLost
  extract_lets x1
  exact State.setSer_ok h0

theorem managerSleep_ok {k a0} (h0 : State.ok k a0) : State.ok k (managerSleep a0) := by
  unfold managerSleep
  extract_lets x1
  exact ok_ite (State.setSrc_ok (ok_upd h0 rfl rfl rfl rfl rfl)) h0

theorem pmiCommand_ok {k a0} (h0 : State.ok k a0) : State.ok k (pmiCommand a0) := by
  unfold pmiCommand
  extract_lets x1 x2 x3 x4 x5 x6 x7 x8 x9 x10
  have hx9 : State.ok k x9 := State.setSer_ok h0; clear_value x9
  have hx10 : State.ok k x10 := State.setReg_ok (State.setReg_ok hx9); clear_value x10
  exact ok_ite h0 (State.emit_ok hx10)

theorem moduleLost_ok {k a0} (h0 : State.ok k a0) : State.ok k (moduleLost a0) := by
  unfold moduleLost; exact ok_ite (windSession_ok h0) h0

theorem pmiReply_ok {k a0 a1} (h1 : State.ok k a1) : State.ok k (pmiReply a0 a1) := by
  unfold pmiReply
  extract_lets x1 x2 x3 x4
  have hx3 : State.ok k x3 := State.setSer_ok h1; clear_value x3
  have hx4 : State.ok k x4 := State.setReg_ok (State.setReg_ok hx3); clear_value x4
  exact ok_ite h1 (ok_ite (moduleLost_ok hx4) hx4)

theorem pmiMissing_ok {k a0} (h0 : State.ok k a0) : State.ok k (pmiMissing a0) := by
  unfold pmiMissing
  extract_lets x1 x2 x3 x4
  have hx4 : State.ok k x4 := State.setSer_ok h0; clear_value x4
  exact ok_ite h0 (ok_ite (moduleLost_ok (State.count_ok (State.setReg_ok hx4))) hx4)

theorem rxTaken_ok {k a0 a1} (h1 : State.ok k a1) : State.ok k (rxTaken a0 a1) := by
  unfold rxTaken
  extract_lets x1
  exact drainFifo_ok (State.setUart_ok h1)

theorem actUartTest_ok {k a0 a1 a2} (h2 : State.ok k a2) : State.ok k (actUartTest a0 a1 a2).2 := by
  unfold actUartTest
  extract_lets x1 x2
  have hx1 : State.ok k x1 := State.clearReg_ok (State.clearReg_ok (State.setReg_ok h2)); clear_value x1
  exact ok_ite2 (ok_snd h2) (ok_ite2 (ok_snd h2) (ok_snd (State.setUart_ok hx1)))

theorem serialStart_ok {k a0} (h0 : State.ok k a0) : State.ok k (serialStart a0) := by
  unfold serialStart
  extract_lets x1 x2 x3
  have hx2 : State.ok k x2 := State.setSer_ok h0; clear_value x2
  exact State.setVeh_ok hx2

theorem keyReport_ok {k a0 a1 a2} (h2 : State.ok k a2) : State.ok k (keyReport a0 a1 a2) := by
  unfold keyReport
  extract_lets x1 x2 x3
  have hx2 : State.ok k x2 := State.setReg_ok h2; clear_value x2
  exact ok_ite (State.count_ok hx2) (State.setSer_ok hx2)

theorem keyEvent_ok {k a0 a1 a2} (h2 : State.ok k a2) : State.ok k (keyEvent a0 a1 a2) := by
  unfold keyEvent
  extract_lets x1 x2 x3 x4 x5 x6
  have hx2 : State.ok k x2 := State.setSer_ok h2; clear_value x2
  have hx4 : State.ok k x4 := keyReport_ok (State.setSer_ok h2); clear_value x4
  exact ok_ite h2 (ok_ite (ok_ite (State.count_ok (State.setSer_ok hx2)) (keyReport_ok hx2)) (ok_ite hx4 (ok_foldl (fun _ _ h7 => keyReport_ok h7) (State.setSer_ok hx4))))

theorem setEntry_ok {k a0 a1} (h1 : State.ok k a1) : State.ok k (setEntry a0 a1) := by
  unfold setEntry
  extract_lets x1
  exact ok_put h1

theorem keyPress_ok {k a0 a1} (h1 : State.ok k a1) : State.ok k (keyPress a0 a1) := by
  unfold keyPress
  split
  · exact setEntry_ok h1
  · refine ok_ite ?_ ?_
    · exact setEntry_ok h1
    · refine ok_ite ?_ ?_
      · exact setEntry_ok h1
      · refine ok_ite ?_ ?_
        · exact keypadEnter_ok h1
        · refine ok_ite ?_ ?_
          · exact actEmergReq_ok h1
          · refine ok_ite ?_ ?_
            · split
              · exact ok_ite (windSession_ok h1) h1
              · exact h1
            · exact ok_ite (infoPress_ok h1) h1

theorem keyTake_ok {k a0} (h0 : State.ok k a0) : State.ok k (keyTake a0) := by
  unfold keyTake
  extract_lets x1
  split
  · exact h0
  · extract_lets x2
    have hx2 : State.ok k x2 := State.setSer_ok h0; clear_value x2
    exact ok_ite h0 (ok_ite hx2 (keyPress_ok hx2))

theorem execUartCharacterReceive_ok {k a0 a1 a2 a3 a4} (h4 : State.ok k a4) : Sound k (execUartCharacterReceive a0 a1 a2 a3 a4) := by
  unfold execUartCharacterReceive; exact sound_next (uartChar_ok h4)

theorem execStageDoorFrame_ok {k a0} (h0 : State.ok k a0) : Sound k (execStageDoorFrame a0) := by
  unfold execStageDoorFrame; exact sound_next (ok_ite (doorEnd_ok h0) h0)

theorem execStageDoorFrameTimeout_ok {k a0} (h0 : State.ok k a0) : Sound k (execStageDoorFrameTimeout a0) := by
  unfold execStageDoorFrameTimeout; exact sound_next (doorTimeout_ok h0)

theorem execXonSend_ok {k a0 a1} (h1 : State.ok k a1) : Sound k (execXonSend a0 a1) := by
  unfold execXonSend; exact sound_next (sendXon_ok h1)

theorem execIdleLine_ok {k a0 a1} (h1 : State.ok k a1) : Sound k (execIdleLine a0 a1) := by
  unfold execIdleLine; exact sound_next (ok_ite (setUstat_ok h1) h1)

theorem execStartEdgeWake_ok {k a0} (h0 : State.ok k a0) : Sound k (execStartEdgeWake a0) := by
  unfold execStartEdgeWake; exact sound_next (startEdge_ok h0)

theorem execBreakDetect_ok {k a0} (h0 : State.ok k a0) : Sound k (execBreakDetect a0) := by
  unfold execBreakDetect; exact sound_next (breakDetect_ok h0)

theorem execStageDoorSettingsApply_ok {k a0} (h0 : State.ok k a0) : Sound k (execStageDoorSettingsApply a0) := by
  unfold execStageDoorSettingsApply; exact sound_next (ok_ite (doorSettings_ok h0) h0)

theorem execStageManagerSleep_ok {k a0} (h0 : State.ok k a0) : Sound k (execStageManagerSleep a0) := by
  unfold execStageManagerSleep; exact sound_next (managerSleep_ok h0)

theorem execPmiCommandFrame_ok {k a0} (h0 : State.ok k a0) : Sound k (execPmiCommandFrame a0) := by
  unfold execPmiCommandFrame; exact sound_next (pmiCommand_ok h0)

theorem execPmiReply_ok {k a0 a1} (h1 : State.ok k a1) : Sound k (execPmiReply a0 a1) := by
  unfold execPmiReply; exact sound_next (pmiReply_ok h1)

theorem execPmiReplyMissing_ok {k a0} (h0 : State.ok k a0) : Sound k (execPmiReplyMissing a0) := by
  unfold execPmiReplyMissing; exact sound_next (pmiMissing_ok h0)

theorem execKeypadKeyEvent_ok {k a0 a1 a2} (h2 : State.ok k a2) : Sound k (execKeypadKeyEvent a0 a1 a2) := by
  unfold execKeypadKeyEvent; exact sound_next (keyEvent_ok h2)

theorem execKeypadFifoRead_ok {k a0} (h0 : State.ok k a0) : Sound k (execKeypadFifoRead a0) := by
  unfold execKeypadFifoRead; exact sound_next (keyTake_ok h0)

end Sys2Proof.Machine
end

