-- ==== Sys2Proof/Laws/SoundBlocks.lean ====
section
/-!
SUPPORT. The operations of Machine/Blocks.lean keep `State.ok`, one lemma for each.
-/

namespace Sys2Proof.Machine

open Sys2Proof

theorem blockStops_ok {k a0 a1} (h1 : State.ok k a1) : State.ok k (blockStops a0 a1) := by
  unfold blockStops
  extract_lets x1 x2 x3
  have hx3 : State.ok k x3 := samLost_ok h1; clear_value x3
  refine ok_ite (doorLost_ok (clearLost_ok (ok_upd h1 rfl rfl rfl rfl rfl))) (ok_ite (e0Lost_ok h1) (ok_ite (e1Lost_ok h1) (ok_ite (vehicleForget_ok (wardenGone_ok h1)) (ok_ite (meterLost_ok (demandAnew_ok (framesLost_ok (State.setNrg_ok h1)))) (ok_ite (updateRepeater_ok (courierForget_ok h1)) (ok_ite (ok_put h1) (ok_ite (boxForget_ok h1) (ok_ite (ok_put h1) (ok_ite (ok_put hx3) (ok_ite (displayForget_ok h1) (ok_ite ?_ (ok_ite (flyGone_ok h1) (ok_ite (wardenGone_ok h1) h1)))))))))))))
  · split
    · exact cardResult_ok h1
    · exact h1

theorem blockOff_ok {k a0 a1} (h1 : State.ok k a1) : State.ok k (blockOff a0 a1) := by
  unfold blockOff; exact blockStops_ok (clearFetch_ok h1)

theorem blockOn_ok {k a0 a1} (h1 : State.ok k a1) : State.ok k (blockOn a0 a1) := by
  unfold blockOn
  extract_lets x1
  exact ok_ite (ok_put h1) (ok_ite (State.setReg_ok h1) (ok_ite (regainSeat_ok h1) (ok_ite (courierStart_ok h1) (ok_ite (boxRestore_ok h1) (ok_ite (mramStart_ok h1) (ok_ite (switchStart_ok h1) (ok_ite (lanesStart_ok h1) (ok_ite (ptpStart_ok h1) (ok_ite (serialStart_ok h1) h1)))))))))

theorem blockClock_ok {k a0 a1} (h1 : State.ok k a1) : State.ok k (blockClock a0 a1) := by
  unfold blockClock; exact ok_ite (ptpFaulty_ok (lanesLoseLock_ok h1)) h1

theorem blockClockBack_ok {k a0 a1} (h1 : State.ok k a1) : State.ok k (blockClockBack a0 a1) := by
  unfold blockClockBack; exact ok_ite (ptpRecovers_ok h1) h1

theorem openHighSides_ok {k a0} (h0 : State.ok k a0) : State.ok k (openHighSides a0) := by
  unfold openHighSides; exact abruptDischarge_ok (sessionPowerLoss_ok (ironVsupWarning_ok h0))

theorem powerFailRecords_ok {k a0} (h0 : State.ok k a0) : State.ok k (powerFailRecords a0) := by
  unfold powerFailRecords; exact tallyCommit_ok (tamperOpen_ok h0)

theorem ironRegisters_ok {k a0} (h0 : State.ok k a0) : State.ok k (ironRegisters a0) := by
  unfold ironRegisters; exact State.setRegs_ok (State.filterRegs_ok h0)

theorem ironReset_ok {k a0} (h0 : State.ok k a0) : State.ok k (ironReset a0) := by
  unfold ironReset
  extract_lets x1 x2
  have hx1 : State.ok k x1 := ok_ite (cutUpdate_ok h0) (ok_ite (toDsp_ok h0) h0)
  clear_value x1
  have hx2 : State.ok k x2 := sessionPowerLoss_ok (State.clearMem_ok hx1)
  clear_value x2
  exact safetyIronReset_ok (ironRegisters_ok (ok_put hx2))

theorem managerStartBlocks_ok {k a0} (h0 : State.ok k a0) : State.ok k (managerStartBlocks a0) := by
  unfold managerStartBlocks; exact doorStart_ok (wingsStart_ok (calendarEvaluate_ok (houseStart_ok (noteFetch_ok h0))))

theorem powerReturns_ok {k a0} (h0 : State.ok k a0) : State.ok k (powerReturns a0) := by
  unfold powerReturns; exact ok_ite (tamperClose_ok h0) h0

theorem domainStops_ok {k a0 a1} (h1 : State.ok k a1) : State.ok k (domainStops a0 a1) := by
  unfold domainStops; exact ok_ite (laneLoses_ok h1) h1

theorem domainBlocks_ok {k a0 a1} (h1 : State.ok k a1) : State.ok k (domainBlocks a0 a1) := by
  unfold domainBlocks; exact ok_ite (meteringStart_ok h1) (ok_ite (processStart_ok h1) (ok_ite (laneReset_ok h1) h1))

end Sys2Proof.Machine
end

