-- ==== Sys2Proof/Laws/SoundIslands.lean ====
section
/-!
SUPPORT. The operations of Machine/Islands.lean keep `State.ok`, one lemma for each.
-/

namespace Sys2Proof.Machine

open Sys2Proof

theorem fabDeliver_ok {k a0 a1 a2 a3 a4} (h4 : State.ok k a4) : State.ok k (fabDeliver a0 a1 a2 a3 a4) := by
  unfold fabDeliver
  extract_lets x1
  exact ok_ite (State.emit_ok (ok_put h4)) (State.count_ok h4)

theorem undelivered_ok {k a0 a1} (h1 : State.ok k a1) : State.ok k (undelivered a0 a1) := by
  unfold undelivered; exact ok_foldl (fun _ _ h => deliverNotice_ok h) h1

theorem abortReq_ok {k a0 a1} (h1 : State.ok k a1) : State.ok k (abortReq a0 a1) := by
  unfold abortReq; exact undelivered_ok (fabDeliver_ok (fabFault_ok h1))

theorem abortPort_ok {k a0 a1} (h1 : State.ok k a1) : State.ok k (abortPort a0 a1) := by
  unfold abortPort
  extract_lets x1 x2 x3
  have hx3 : State.ok k x3 := ok_put h1; clear_value x3
  exact ok_foldl (fun _ _ h4 => abortReq_ok h4) hx3

theorem abortAll_ok {k a0} (h0 : State.ok k a0) : State.ok k (abortAll a0) := by
  unfold abortAll; exact ok_foldl (fun _ _ h1 => abortPort_ok h1) h0

theorem restoreObjects_ok {k a0 a1} (h1 : State.ok k a1) : State.ok k (restoreObjects a0 a1) := by
  unfold restoreObjects; exact State.setRegs_ok (State.filterRegs_ok h1)

theorem loseObjects_ok {k a0 a1} (h1 : State.ok k a1) : State.ok k (loseObjects a0 a1) := by
  unfold loseObjects; exact State.filterRegs_ok h1

theorem loadObjects_ok {k a0 a1} (h1 : State.ok k a1) : State.ok k (loadObjects a0 a1) := by
  unfold loadObjects; exact State.setRegs_ok (State.filterRegs_ok h1)

theorem islandDown_ok {k a0 a1} (h1 : State.ok k a1) : State.ok k (islandDown a0 a1) := by
  unfold islandDown
  extract_lets x1 x2
  have hx1 : State.ok k x1 := abortPort_ok (ok_ite (loseObjects_ok h1) h1); clear_value x1
  have hx2 : State.ok k x2 := ok_ite (callboardReset_ok (abortAll_ok hx1)) (receiverReset_ok hx1); clear_value x2
  exact notesGone_ok (blockOff_ok (senderGone_ok hx2))

theorem islandUp_ok {k a0 a1} (h1 : State.ok k a1) : State.ok k (islandUp a0 a1) := by
  unfold islandUp
  extract_lets x1
  have hx1 : State.ok k x1 := blockOn_ok (restoreObjects_ok h1); clear_value x1
  exact notesBack_ok (ok_ite (callboardReturns_ok hx1) hx1)

theorem domainLoses_ok {k a0 a1} (h1 : State.ok k a1) : State.ok k (domainLoses a0 a1) := by
  unfold domainLoses; exact ok_ite (State.clearMem_ok h1) (ok_ite (bankCut_ok h1) (ok_ite (callboardReset_ok h1) h1))

theorem dropDomain_ok {k a0 a1 a2} (h2 : State.ok k a2) : State.ok k (dropDomain a0 a1 a2) := by
  unfold dropDomain
  extract_lets x1 x2 x3
  have hx2 : State.ok k x2 := State.setDom_ok (domainStops_ok h2); clear_value x2
  have hx3 : State.ok k x3 := ok_ite hx2 (domainLoses_ok hx2); clear_value x3
  refine ok_ite ?_ ?_
  · split
    · exact islandDown_ok (State.setIsl_ok hx3)
    · exact hx3
  · exact hx3

theorem domainOff_ok {k a0 a1 a2} (h2 : State.ok k a2) : State.ok k (domainOff a0 a1 a2) := by
  unfold domainOff; exact ok_ite h2 (dropDomain_ok (ok_ite (ownObjectEntry_ok h2) h2))

theorem domainRequestOn_ok {k a0 a1} (h1 : State.ok k a1) : State.ok k (domainRequestOn a0 a1) := by
  unfold domainRequestOn; exact ok_ite (State.setDom_ok h1) h1

theorem domainUp_ok {k a0 a1} (h1 : State.ok k a1) : State.ok k (domainUp a0 a1) := by
  unfold domainUp
  extract_lets x1 x2 x3 x4
  have hx1 : State.ok k x1 := State.setDom_ok h1; clear_value x1
  have hx3 : State.ok k x3 := ok_ite (ok_put hx1) hx1; clear_value x3
  have hx4 : State.ok k x4 := ok_ite (callboardReturns_ok hx3) hx3; clear_value x4
  split
  · exact islandUp_ok (State.setIsl_ok hx4)
  · exact hx4

theorem openRecord_ok {k a0 a1} (h1 : State.ok k a1) : State.ok k (openRecord a0 a1) := by
  unfold openRecord
  extract_lets x1
  have hx1 : State.ok k x1.2 := State.drawBits_ok h1; clear_value x1
  exact record_ok hx1

end Sys2Proof.Machine
end

