-- ==== Sys2Proof/Laws/SoundClocks.lean ====
section
/-!
SUPPORT. The operations of Machine/Clocks.lean keep `State.ok`, one lemma for each.
-/

namespace Sys2Proof.Machine

open Sys2Proof

theorem driveStops_ok {k a0 a1} (h1 : State.ok k a1) : State.ok k (driveStops a0 a1) := by
  unfold driveStops; exact ok_ite (wardenGone_ok h1) h1

theorem requestSwitch_ok {k a0 a1 a2} (h2 : State.ok k a2) : State.ok k (requestSwitch a0 a1 a2) := by
  unfold requestSwitch
  extract_lets x1
  exact ok_ite h2 (ok_ite (State.setIsl_ok h2) (ok_ite h2 (driveStops_ok (State.setIsl_ok h2))))

theorem controllerMove_ok {k a0 a1} (h1 : State.ok k a1) : State.ok k (controllerMove a0 a1) := by
  unfold controllerMove
  extract_lets x1 x2
  exact ok_ite h1 (ok_ite h1 (requestSwitch_ok h1))

theorem leaveSource_ok {k a0 a1} (h1 : State.ok k a1) : State.ok k (leaveSource a0 a1) := by
  unfold leaveSource; exact ok_foldl (fun _ _ h1 => ok_ite (requestSwitch_ok h1) h1) h1

theorem controllerMoves_ok {k a0} (h0 : State.ok k a0) : State.ok k (controllerMoves a0) := by
  unfold controllerMoves; exact ok_foldl (fun _ _ h1 => controllerMove_ok h1) h0

theorem completeSwitch_ok {k a0 a1} (h1 : State.ok k a1) : State.ok k (completeSwitch a0 a1) := by
  unfold completeSwitch
  extract_lets x1
  split
  · exact h1
  · extract_lets x2
    have hx2 : State.ok k x2 := State.setIsl_ok h1; clear_value x2
    refine ok_ite ?_ ?_
    · exact h1
    · split
      · exact hx2
      · exact requestSwitch_ok hx2

theorem forceIsland_ok {k a0 a1 a2 a3} (h3 : State.ok k a3) : State.ok k (forceIsland a0 a1 a2 a3) := by
  unfold forceIsland
  extract_lets x1 x2
  exact islandDown_ok (State.setIsl_ok h3)

theorem makeBooks_ok {k a0 a1} (h1 : State.ok k a1) : State.ok k (makeBooks a0 a1) := by
  unfold makeBooks
  extract_lets x1
  have hx1 : State.ok k x1 := ok_ite h1 (countJournalled_ok h1); clear_value x1
  exact openRecord_ok (State.setReg_ok hx1)

theorem forcedBooks_ok {k a0 a1 a2 a3 a4} (h4 : State.ok k a4) : State.ok k (forcedBooks a0 a1 a2 a3 a4) := by
  unfold forcedBooks
  extract_lets x1
  exact ok_ite (makeBooks_ok h4) (ok_upd h4 rfl rfl rfl rfl rfl)

theorem releaseForced_ok {k a0 a1} (h1 : State.ok k a1) : State.ok k (releaseForced a0 a1) := by
  unfold releaseForced
  extract_lets x1 x2 x3 x4
  have hx2 : State.ok k x2 := State.setIsl_ok h1; clear_value x2
  have hx4 : State.ok k x4 := ok_ite (islandUp_ok hx2) hx2; clear_value x4
  split
  · exact h1
  · exact ok_ite (forcedBooks_ok (ok_upd hx2 rfl rfl rfl rfl rfl)) (controllerMove_ok (forcedBooks_ok hx4))

theorem hangTimeout_ok {k a0 a1} (h1 : State.ok k a1) : State.ok k (hangTimeout a0 a1) := by
  unfold hangTimeout
  extract_lets x1
  split
  · exact h1
  · exact ok_ite (forceIsland_ok h1) (notifyMain_ok (State.setIsl_ok h1))

theorem forceNow_ok {k a0 a1 a2} (h2 : State.ok k a2) : State.ok k (forceNow a0 a1 a2) := by
  unfold forceNow
  extract_lets x1
  exact ok_ite (ok_ite (ok_upd h2 rfl rfl rfl rfl rfl) (forceIsland_ok h2)) h2

theorem forcedStart_ok {k a0} (h0 : State.ok k a0) : State.ok k (forcedStart a0) := by
  unfold forcedStart
  extract_lets x1
  exact ok_ite (forceIsland_ok (ok_upd h0 rfl rfl rfl rfl rfl)) h0

theorem actForceNow_ok {k a0 a1} (h1 : State.ok k a1) : State.ok k (actForceNow a0 a1) := by
  unfold actForceNow; exact ok_foldl (fun _ _ h1 => forceNow_ok h1) h1

theorem islandLosesSource_ok {k a0 a1 a2 a3} (h3 : State.ok k a3) : State.ok k (islandLosesSource a0 a1 a2 a3) := by
  unfold islandLosesSource
  extract_lets x1 x2 x3
  have hx2 : State.ok k x2 := ok_ite h3 (requestSwitch_ok h3); clear_value x2
  exact ok_ite h3 (ok_ite (forceIsland_ok h3) (ok_ite (driveStops_ok (State.setIsl_ok hx2)) h3))

theorem islandsLoseSource_ok {k a0 a1 a2} (h2 : State.ok k a2) : State.ok k (islandsLoseSource a0 a1 a2) := by
  unfold islandsLoseSource; exact ok_foldl (fun _ _ h1 => islandLosesSource_ok h1) h2

theorem stopJudge_ok {k a0 a1} (h1 : State.ok k a1) : State.ok k (stopJudge a0 a1) := by
  unfold stopJudge
  extract_lets x1
  exact ok_upd h1 rfl rfl rfl rfl rfl

theorem startJudge_ok {k a0 a1} (h1 : State.ok k a1) : State.ok k (startJudge a0 a1) := by
  unfold startJudge
  extract_lets x1
  exact ok_upd h1 rfl rfl rfl rfl rfl

theorem notePllFail_ok {k a0 a1} (h1 : State.ok k a1) : State.ok k (notePllFail a0 a1) := by
  unfold notePllFail
  extract_lets x1
  exact ok_ite (ok_upd h1 rfl rfl rfl rfl rfl) h1

theorem failSource_ok {k a0 a1 a2} (h2 : State.ok k a2) : State.ok k (failSource a0 a1 a2) := by
  unfold failSource
  extract_lets x1 x2 x3 x4 x5 x6 x7
  have hx1 : State.ok k x1 := notePllFail_ok (stopJudge_ok (State.setSrc_ok h2)); clear_value x1
  have hx3 : State.ok k x3 := ok_ite (ok_upd hx1 rfl rfl rfl rfl rfl) hx1; clear_value x3
  have hx5 : State.ok k x5 := ok_ite (ok_upd hx3 rfl rfl rfl rfl rfl) hx3; clear_value x5
  have hx6 : State.ok k x6 := blockClock_ok hx5; clear_value x6
  exact islandsLoseSource_ok (ok_ite (islandsLoseSource_ok hx6) (ok_ite (islandsLoseSource_ok hx6) hx6))

theorem resetIsland_ok {k a0 a1} (h1 : State.ok k a1) : State.ok k (resetIsland a0 a1) := by
  unfold resetIsland
  extract_lets x1 x2
  have hx2 : State.ok k x2 := islandDown_ok (State.setIsl_ok h1); clear_value x2
  exact islandUp_ok (State.setIsl_ok hx2)

theorem rc16Island_ok {k a0 a1} (h1 : State.ok k a1) : State.ok k (rc16Island a0 a1) := by
  unfold rc16Island
  extract_lets x1
  exact ok_ite h1 (ok_ite (islandDown_ok (State.setIsl_ok h1)) (ok_ite h1 (ok_ite (resetIsland_ok h1) (ok_ite (forceIsland_ok h1) h1))))

theorem rc16Fails_ok {k a0} (h0 : State.ok k a0) : State.ok k (rc16Fails a0) := by
  unfold rc16Fails
  extract_lets x1 x2 x3 x4
  have hx1 : State.ok k x1 := ok_foldl (fun _ _ h5 => rc16Island_ok h5) (State.setSrc_ok h0); clear_value x1
  have hx2 : State.ok k x2 := controllerMoves_ok (State.setSrc_ok hx1); clear_value x2
  exact ok_upd hx2 rfl rfl rfl rfl rfl

theorem beginJudge_ok {k a0 a1} (h1 : State.ok k a1) : State.ok k (beginJudge a0 a1) := by
  unfold beginJudge; exact ok_ite h1 (startJudge_ok (ok_ite h1 (State.setSrc_ok h1)))

theorem startSearch_ok {k a0} (h0 : State.ok k a0) : State.ok k (startSearch a0) := by
  unfold startSearch
  extract_lets x1
  exact ok_upd h0 rfl rfl rfl rfl rfl

theorem sourceGood_ok {k a0 a1} (h1 : State.ok k a1) : State.ok k (sourceGood a0 a1) := by
  unfold sourceGood
  extract_lets x1 x2 x3 x4 x5
  have hx1 : State.ok k x1 := blockClockBack_ok (State.setSrc_ok h1); clear_value x1
  have hx2 : State.ok k x2 := beginJudge_ok hx1; clear_value x2
  have hx3 : State.ok k x3 := ok_ite (beginJudge_ok hx2) hx2; clear_value x3
  have hx5 : State.ok k x5 := ok_ite (startSearch_ok hx3) (ok_ite (ok_upd hx1 rfl rfl rfl rfl rfl) hx1); clear_value x5
  exact controllerMoves_ok hx5

theorem judgeWindow_ok {k a0 a1 a2} (h2 : State.ok k a2) : State.ok k (judgeWindow a0 a1 a2) := by
  unfold judgeWindow
  extract_lets x1 x2 x3 x4 x5
  exact ok_ite h2 (ok_ite (ok_ite (ok_upd h2 rfl rfl rfl rfl rfl) (ok_ite (failSource_ok h2) (ok_upd h2 rfl rfl rfl rfl rfl))) (ok_ite (ok_ite (sourceGood_ok (ok_upd h2 rfl rfl rfl rfl rfl)) (ok_upd h2 rfl rfl rfl rfl rfl)) (ok_upd h2 rfl rfl rfl rfl rfl)))

theorem judgeLimit_ok {k a0 a1} (h1 : State.ok k a1) : State.ok k (judgeLimit a0 a1) := by
  unfold judgeLimit
  extract_lets x1
  exact ok_ite (failSource_ok h1) h1

theorem judgeRetry_ok {k a0 a1} (h1 : State.ok k a1) : State.ok k (judgeRetry a0 a1) := by
  unfold judgeRetry; exact ok_ite (startJudge_ok h1) h1

theorem trimMeasure_ok {k a0 a1} (h1 : State.ok k a1) : State.ok k (trimMeasure a0 a1) := by
  unfold trimMeasure
  extract_lets x1 x2 x3
  have hx2 : State.ok k x2 := State.setRegI_ok h1; clear_value x2
  split
  · extract_lets x4
    exact ok_ite (ok_upd hx2 rfl rfl rfl rfl rfl) (startJudge_ok (ok_upd hx2 rfl rfl rfl rfl rfl))
  · exact ok_ite (ok_upd hx2 rfl rfl rfl rfl rfl) h1

theorem startTrim_ok {k a0} (h0 : State.ok k a0) : State.ok k (startTrim a0) := by
  unfold startTrim
  extract_lets x1
  exact ok_ite (ok_upd h0 rfl rfl rfl rfl rfl) h0

theorem setPll_ok {k a0 a1 a2} (h2 : State.ok k a2) : State.ok k (setPll a0 a1 a2) := by
  unfold setPll
  extract_lets x1
  exact ok_upd h2 rfl rfl rfl rfl rfl

theorem enablePll_ok {k a0 a1} (h1 : State.ok k a1) : State.ok k (enablePll a0 a1) := by
  unfold enablePll; exact ok_ite (setPll_ok h1) h1

theorem stopPll_ok {k a0 a1} (h1 : State.ok k a1) : State.ok k (stopPll a0 a1) := by
  unfold stopPll
  extract_lets x1 x2
  have hx1 : State.ok k x1 := stopJudge_ok (State.setSrc_ok (setPll_ok (leaveSource_ok h1))); clear_value x1
  exact ok_ite (ok_upd hx1 rfl rfl rfl rfl rfl) hx1

theorem pllRestart_ok {k a0 a1} (h1 : State.ok k a1) : State.ok k (pllRestart a0 a1) := by
  unfold pllRestart; exact ok_ite (enablePll_ok h1) h1

theorem pllLock_ok {k a0 a1} (h1 : State.ok k a1) : State.ok k (pllLock a0 a1) := by
  unfold pllLock
  extract_lets x1 x2 x3
  have hx2 : State.ok k x2 := ok_ite (ok_upd h1 rfl rfl rfl rfl rfl) h1; clear_value x2
  have hx3 : State.ok k x3 := ok_ite (converterClockBack_ok hx2) hx2; clear_value x3
  exact ok_ite h1 (startJudge_ok (ok_ite hx3 (State.setSrc_ok hx3)))

theorem retunePllA_ok {k a0} (h0 : State.ok k a0) : State.ok k (retunePllA a0) := by
  unfold retunePllA
  extract_lets x1 x2 x3
  have hx1 : State.ok k x1 := leaveSource_ok h0; clear_value x1
  have hx2 : State.ok k x2 := ok_ite hx1 (State.setSrc_ok hx1); clear_value x2
  exact ok_ite h0 (startJudge_ok (ok_upd hx2 rfl rfl rfl rfl rfl))

theorem execJudgeWindowEnd_ok {k a0 a1 a2} (h2 : State.ok k a2) : Sound k (execJudgeWindowEnd a0 a1 a2) := by
  unfold execJudgeWindowEnd; exact sound_next (judgeWindow_ok h2)

theorem execJudgeLimitExpiry_ok {k a0 a1} (h1 : State.ok k a1) : Sound k (execJudgeLimitExpiry a0 a1) := by
  unfold execJudgeLimitExpiry; exact sound_next (judgeLimit_ok h1)

theorem execJudgeRetry_ok {k a0 a1} (h1 : State.ok k a1) : Sound k (execJudgeRetry a0 a1) := by
  unfold execJudgeRetry; exact sound_next (judgeRetry_ok h1)

theorem monitorDead_ok {k a0 a1} (h1 : State.ok k a1) : State.ok k (monitorDead a0 a1) := by
  unfold monitorDead; exact ok_ite h1 (ok_ite (rc16Fails_ok h1) (ok_ite h1 (failSource_ok h1)))

theorem execMonitorDeadEdge_ok {k a0 a1} (h1 : State.ok k a1) : Sound k (execMonitorDeadEdge a0 a1) := by
  unfold execMonitorDeadEdge; exact sound_next (monitorDead_ok h1)

theorem execRc16TrimMeasurement_ok {k a0 a1} (h1 : State.ok k a1) : Sound k (execRc16TrimMeasurement a0 a1) := by
  unfold execRc16TrimMeasurement; exact sound_next (trimMeasure_ok h1)

theorem execRc16RetrimTimer_ok {k a0} (h0 : State.ok k a0) : Sound k (execRc16RetrimTimer a0) := by
  unfold execRc16RetrimTimer; exact sound_next (startTrim_ok h0)

theorem execClockSwitchRequest_ok {k a0 a1 a2} (h2 : State.ok k a2) : Sound k (execClockSwitchRequest a0 a1 a2) := by
  unfold execClockSwitchRequest; exact sound_next (requestSwitch_ok h2)

theorem execClockSwitchComplete_ok {k a0 a1} (h1 : State.ok k a1) : Sound k (execClockSwitchComplete a0 a1) := by
  unfold execClockSwitchComplete; exact sound_next (completeSwitch_ok h1)

theorem execClockHangTimeout_ok {k a0 a1} (h1 : State.ok k a1) : Sound k (execClockHangTimeout a0 a1) := by
  unfold execClockHangTimeout; exact sound_next (hangTimeout_ok h1)

theorem execForcedSwitchResetRelease_ok {k a0 a1} (h1 : State.ok k a1) : Sound k (execForcedSwitchResetRelease a0 a1) := by
  unfold execForcedSwitchResetRelease; exact sound_next (releaseForced_ok h1)

theorem execPllRestart_ok {k a0 a1} (h1 : State.ok k a1) : Sound k (execPllRestart a0 a1) := by
  unfold execPllRestart; exact sound_next (pllRestart_ok h1)

theorem execPllLock_ok {k a0 a1} (h1 : State.ok k a1) : Sound k (execPllLock a0 a1) := by
  unfold execPllLock; exact sound_next (pllLock_ok h1)

end Sys2Proof.Machine
end

