-- ==== Sys2Proof/Laws/SoundPower.lean ====
section
/-!
SUPPORT. The operations of Machine/Power.lean keep `State.ok`, one lemma for each.
-/

namespace Sys2Proof.Machine

open Sys2Proof

theorem releasePlls_ok {k a0} (h0 : State.ok k a0) : State.ok k (releasePlls a0) := by
  unfold releasePlls
  extract_lets x1
  exact ok_upd h0 rfl rfl rfl rfl rfl

theorem updateTier_ok {k a0} (h0 : State.ok k a0) : State.ok k (updateTier a0) := by
  unfold updateTier; exact ok_ite h0 (relay_ok (releasePlls_ok (State.setReg_ok h0)))

theorem setEnables_ok {k a0 a1 a2} (h2 : State.ok k a2) : State.ok k (setEnables a0 a1 a2) := by
  unfold setEnables
  extract_lets x1
  exact ok_upd h2 rfl rfl rfl rfl rfl

theorem sourcesDown_ok {k a0 a1} (h1 : State.ok k a1) : State.ok k (sourcesDown a0 a1) := by
  unfold sourcesDown; exact ok_ite h1 (ok_ite (stopPll_ok (stopPll_ok h1)) (ok_ite (stopPll_ok (stopPll_ok h1)) (ok_ite (stopJudge_ok (State.setSrc_ok (leaveSource_ok (leaveSource_ok h1)))) (ok_ite (State.setSrc_ok h1) (ok_ite (State.setSrc_ok h1) h1)))))

theorem switchOff_ok {k a0 a1 a2} (h2 : State.ok k a2) : State.ok k (switchOff a0 a1 a2) := by
  unfold switchOff; exact sourcesDown_ok (domainOff_ok h2)

theorem dropGroup_ok {k a0 a1 a2} (h2 : State.ok k a2) : State.ok k (dropGroup a0 a1 a2) := by
  unfold dropGroup
  extract_lets x1
  have hx1 : State.ok k x1 := ok_foldl (fun _ _ h2 => ok_ite h2 (switchOff_ok h2)) h2; clear_value x1
  exact ok_ite (stopPll_ok hx1) hx1

theorem forgetShed_ok {k a0 a1} (h1 : State.ok k a1) : State.ok k (forgetShed a0 a1) := by
  unfold forgetShed
  extract_lets x1
  exact ok_upd h1 rfl rfl rfl rfl rfl

theorem configCheck_ok {k a0} (h0 : State.ok k a0) : State.ok k (configCheck a0) := by
  unfold configCheck; exact ok_foldl (fun _ _ h1 => State.setChan_ok h1) h0

theorem startGroup_ok {k a0 a1 a2} (h2 : State.ok k a2) : State.ok k (startGroup a0 a1 a2) := by
  unfold startGroup
  extract_lets x1 x2
  have hx1 : State.ok k x1 := ok_ite (configCheck_ok h2) h2; clear_value x1
  have hx2 : State.ok k x2 := ok_ite (enablePll_ok hx1) hx1; clear_value x2
  exact ok_foldl (fun _ _ h3 => ok_ite (domainRequestOn_ok h3) h3) hx2

theorem settleK_ok {k a0} (h0 : State.ok k a0) : State.ok k (settleK a0) := by
  unfold settleK; exact setEnables_ok h0

theorem tierStep_ok {k a0} (h0 : State.ok k a0) : State.ok k (tierStep a0) := by
  unfold tierStep
  extract_lets x1 x2
  refine ok_ite h0 ?_
  · split
    · extract_lets x3
      have hx3 : State.ok k x3 := forgetShed_ok (dropGroup_ok h0); clear_value x3
      exact ok_ite (ok_ite h0 (displayPowerOff_ok h0)) (updateTier_ok (ok_ite (settleK_ok hx3) hx3))
    · refine ok_ite (updateTier_ok (settleK_ok h0)) (ok_ite (setEnables_ok h0) ?_)
      · split
        · exact updateTier_ok h0
        · exact ok_ite (updateTier_ok (startGroup_ok h0)) h0

theorem pllsUp_ok {k a0 a1} (h1 : State.ok k a1) : State.ok k (pllsUp a0 a1) := by
  unfold pllsUp; exact ok_ite (enablePll_ok h1) (ok_ite (enablePll_ok (enablePll_ok h1)) h1)

theorem domainComplete_ok {k a0 a1} (h1 : State.ok k a1) : State.ok k (domainComplete a0 a1) := by
  unfold domainComplete
  extract_lets x1 x2 x3 x4 x5
  have hx2 : State.ok k x2 := ok_upd h1 rfl rfl rfl rfl rfl; clear_value x2
  have hx3 : State.ok k x3 := domainBlocks_ok (domainUp_ok hx2); clear_value x3
  have hx4 : State.ok k x4 := ok_ite (startJudge_ok (State.setSrc_ok hx3)) hx3; clear_value x4
  have hx5 : State.ok k x5 := pllsUp_ok hx4; clear_value x5
  refine ok_ite h1 (updateTier_ok ?_)
  · split
    · exact controllerMove_ok hx5
    · exact hx5

theorem powerGoodTimeout_ok {k a0 a1} (h1 : State.ok k a1) : State.ok k (powerGoodTimeout a0 a1) := by
  unfold powerGoodTimeout; exact ok_ite h1 (updateTier_ok (openRecord_ok (State.setDom_ok h1)))

theorem handOver_ok {k a0 a1} (h1 : State.ok k a1) : State.ok k (handOver a0 a1) := by
  unfold handOver
  extract_lets x1
  exact ok_upd h1 rfl rfl rfl rfl rfl

theorem deferCopy_ok {k a0} (h0 : State.ok k a0) : State.ok k (deferCopy a0) := by
  unfold deferCopy
  extract_lets x1
  exact handOver_ok (ok_upd h0 rfl rfl rfl rfl rfl)

theorem loseDomain_ok {k a0 a1} (h1 : State.ok k a1) : State.ok k (loseDomain a0 a1) := by
  unfold loseDomain; exact ok_ite h1 (sourcesDown_ok (dropDomain_ok h1))

theorem loseVcoreDomains_ok {k a0} (h0 : State.ok k a0) : State.ok k (loseVcoreDomains a0) := by
  unfold loseVcoreDomains; exact ok_foldl (fun _ _ h1 => loseDomain_ok h1) h0

theorem mramOff_ok {k a0} (h0 : State.ok k a0) : State.ok k (mramOff a0) := by
  unfold mramOff
  extract_lets x1
  have hx1 : State.ok k x1 := ok_ite (ownObjectEntry_ok h0) h0; clear_value x1
  exact ok_foldl (fun _ _ h2 => loseDomain_ok h2) hx1

theorem noteVcoreLost_ok {k a0} (h0 : State.ok k a0) : State.ok k (noteVcoreLost a0) := by
  unfold noteVcoreLost
  extract_lets x1
  exact ok_ite (State.setReg_ok h0) (ok_upd h0 rfl rfl rfl rfl rfl)

theorem vcoreLoss_ok {k a0} (h0 : State.ok k a0) : State.ok k (vcoreLoss a0) := by
  unfold vcoreLoss
  extract_lets x1 x2
  have hx1 : State.ok k x1 := ok_ite (noteVcoreLost_ok h0) h0; clear_value x1
  exact updateTier_ok (loseVcoreDomains_ok (ok_upd hx1 rfl rfl rfl rfl rfl))

theorem abandonCompaction_ok {k a0} (h0 : State.ok k a0) : State.ok k (abandonCompaction a0) := by
  unfold abandonCompaction
  extract_lets x1 x2 x3
  have hx3 : State.ok k x3 := ok_put h0; clear_value x3
  exact ok_foldl (fun _ _ h4 => ok_ite (State.emit_ok (appendRec_ok h4)) (State.emit_ok (State.count_ok h4))) hx3

theorem finalRecords_ok {k a0} (h0 : State.ok k a0) : State.ok k (finalRecords a0) := by
  unfold finalRecords
  extract_lets x1 x2 x3
  have hx2 : State.ok k x2 := powerFailRecords_ok (ok_put h0); clear_value x2
  exact ok_put hx2

theorem vsupWarning_ok {k a0} (h0 : State.ok k a0) : State.ok k (vsupWarning a0) := by
  unfold vsupWarning
  extract_lets x1 x2 x3 x4
  have hx2 : State.ok k x2 := openHighSides_ok (ok_upd h0 rfl rfl rfl rfl rfl); clear_value x2
  have hx4 : State.ok k x4 := finalRecords_ok (abandonCompaction_ok (ok_upd hx2 rfl rfl rfl rfl rfl)); clear_value x4
  exact ok_ite (deferCopy_ok hx2) (ok_ite hx2 (ok_foldl (fun _ _ h5 => loseDomain_ok h5) (loseVcoreDomains_ok (setEnables_ok hx4))))

theorem powerFailEnd_ok {k a0 a1 a2} (h2 : State.ok k a2) : State.ok k (powerFailEnd a0 a1 a2) := by
  unfold powerFailEnd
  extract_lets x1 x2 x3 x4
  have hx1 : State.ok k x1 := mramOff_ok h2; clear_value x1
  have hx2 : State.ok k x2 := State.setReg_ok (State.setReg_ok hx1); clear_value x2
  exact ok_ite h2 (updateTier_ok (ok_upd hx2 rfl rfl rfl rfl rfl))

theorem mainDomainsOff_ok {k a0} (h0 : State.ok k a0) : State.ok k (mainDomainsOff a0) := by
  unfold mainDomainsOff
  extract_lets x1
  have hx1 : State.ok k x1 := loseVcoreDomains_ok h0; clear_value x1
  exact ok_foldl (fun _ _ h2 => loseDomain_ok h2) hx1

theorem clocksRestart_ok {k a0} (h0 : State.ok k a0) : State.ok k (clocksRestart a0) := by
  unfold clocksRestart
  exact State.ok_of h0 h0.1 h0.2.1 rfl rfl rfl rfl (Eq.trans (by rfl) h0.2.2.2.2.2.2.2.1.symm) rfl

theorem mainDieStart_ok {k a0 a1} (h1 : State.ok k a1) : State.ok k (mainDieStart a0 a1) := by
  unfold mainDieStart
  extract_lets x1 x2 x3
  have hx1 : State.ok k x1 := islandDown_ok (clocksRestart_ok (mainDomainsOff_ok h1)); clear_value x1
  exact ok_upd hx1 rfl rfl rfl rfl rfl

theorem journalWait_ok {k a0} (h0 : State.ok k a0) : State.ok k (journalWait a0) := by
  unfold journalWait; exact ownObjectEntry_ok h0

theorem vaonPor_ok {k a0} (h0 : State.ok k a0) : State.ok k (vaonPor a0) := by
  unfold vaonPor
  extract_lets x1 x2 x3 x4 x5 x6
  have hx2 : State.ok k x2 := mainDieStart_ok (ok_put h0); clear_value x2
  have hx5 : State.ok k x5 := ok_upd hx2 rfl rfl rfl rfl rfl; clear_value x5
  have hx6 : State.ok k x6 := State.setDom_ok (State.setDom_ok hx5); clear_value x6
  exact ok_ite hx6 (tagPowerLost_ok (State.setDom_ok hx6))

theorem vaonPorRelease_ok {k a0} (h0 : State.ok k a0) : State.ok k (vaonPorRelease a0) := by
  unfold vaonPorRelease
  extract_lets x1
  have hx1 : State.ok k x1 := State.setDom_ok (State.setDom_ok (State.setDom_ok h0))
  clear_value x1
  exact State.ok_of hx1 hx1.1 hx1.2.1 rfl rfl rfl rfl (Eq.trans (by rfl) hx1.2.2.2.2.2.2.2.1.symm) rfl

theorem followVcp_ok {k a0} (h0 : State.ok k a0) : State.ok k (followVcp a0) := by
  unfold followVcp; exact ok_ite (ok_ite (domainRequestOn_ok h0) h0) (updateTier_ok (dropDomain_ok (pilotLost_ok h0)))

theorem vsrdLoss_ok {k a0} (h0 : State.ok k a0) : State.ok k (vsrdLoss a0) := by
  unfold vsrdLoss
  extract_lets x1
  exact updateTier_ok (ok_foldl (fun _ _ h2 => loseDomain_ok h2) (ok_upd h0 rfl rfl rfl rfl rfl))

theorem declareGood_ok {k a0 a1} (h1 : State.ok k a1) : State.ok k (declareGood a0 a1) := by
  unfold declareGood
  extract_lets x1
  exact ok_ite (ok_upd h1 rfl rfl rfl rfl rfl) (ok_ite (ok_upd h1 rfl rfl rfl rfl rfl) (ok_ite (ok_upd h1 rfl rfl rfl rfl rfl) (ok_ite (ok_upd h1 rfl rfl rfl rfl rfl) (ok_ite (ok_upd h1 rfl rfl rfl rfl rfl) (ok_ite (followVcp_ok (ok_upd h1 rfl rfl rfl rfl rfl)) (ok_ite (followVcp_ok (ok_upd h1 rfl rfl rfl rfl rfl)) h1))))))

theorem declareFailed_ok {k a0 a1} (h1 : State.ok k a1) : State.ok k (declareFailed a0 a1) := by
  unfold declareFailed
  extract_lets x1
  exact ok_ite (vsrdLoss_ok h1) (ok_ite (ok_upd h1 rfl rfl rfl rfl rfl) (ok_ite (ok_upd h1 rfl rfl rfl rfl rfl) (ok_ite (followVcp_ok (ok_upd h1 rfl rfl rfl rfl rfl)) (ok_ite (followVcp_ok (ok_upd h1 rfl rfl rfl rfl rfl)) h1))))

theorem supplyGood_ok {k a0 a1 a2} (h2 : State.ok k a2) : State.ok k (supplyGood a0 a1 a2) := by
  unfold supplyGood; exact ok_ite (declareGood_ok h2) (ok_ite (declareFailed_ok h2) h2)

theorem bootRomStart_ok {k a0} (h0 : State.ok k a0) : State.ok k (bootRomStart a0) := by
  unfold bootRomStart
  extract_lets x1 x2 x3
  have hx2 : State.ok k x2 := ok_upd h0 rfl rfl rfl rfl rfl; clear_value x2
  have hx3 : State.ok k x3 := startJudge_ok (State.setSrc_ok (State.setSrc_ok hx2)); clear_value x3
  exact ok_ite h0 (domainUp_ok (State.setDom_ok hx3))

theorem loaderChecked_ok {k a0 a1 a2} (h2 : State.ok k a2) : State.ok k (loaderChecked a0 a1 a2) := by
  unfold loaderChecked
  extract_lets x1 x2 x3 x4 x5 x6 x7 x8
  have hx5 : State.ok k x5 := ensureReady_ok h2; clear_value x5
  have hx7 : State.ok k x7 := ok_upd hx5 rfl rfl rfl rfl rfl; clear_value x7
  exact ok_ite h2 (ok_ite (ok_upd h2 rfl rfl rfl rfl rfl) (ok_ite (ok_ite (ok_upd hx7 rfl rfl rfl rfl rfl) (handOver_ok (ok_upd hx7 rfl rfl rfl rfl rfl))) (handOver_ok hx7)))

theorem vcoreWaitTimeout_ok {k a0} (h0 : State.ok k a0) : State.ok k (vcoreWaitTimeout a0) := by
  unfold vcoreWaitTimeout; exact ok_ite (deferCopy_ok h0) h0

theorem stagedCopy_ok {k a0} (h0 : State.ok k a0) : State.ok k (stagedCopy a0) := by
  unfold stagedCopy; exact ok_ite (handOver_ok (bootCopy_ok h0)) h0

theorem romHoldFrame_ok {k a0} (h0 : State.ok k a0) : State.ok k (romHoldFrame a0) := by
  unfold romHoldFrame
  extract_lets x1
  exact ok_ite (State.emit_ok h0) h0

theorem takeIronReport_ok {k a0} (h0 : State.ok k a0) : State.ok k (takeIronReport a0) := by
  unfold takeIronReport
  extract_lets x1
  exact ok_ite (State.setReg_ok (ok_upd h0 rfl rfl rfl rfl rfl)) h0

theorem startBooks_ok {k a0} (h0 : State.ok k a0) : State.ok k (startBooks a0) := by
  unfold startBooks
  extract_lets x1 x2 x3
  have hx3 : State.ok k x3 := ok_foldl (fun _ _ h4 => makeBooks_ok h4) (ok_upd h0 rfl rfl rfl rfl rfl); clear_value x3
  exact controllerMove_ok (ok_ite (startSearch_ok hx3) hx3)

theorem managerStart_ok {k a0} (h0 : State.ok k a0) : State.ok k (managerStart a0) := by
  unfold managerStart
  extract_lets x1 x2 x3 x4 x5 x6 x7 x8
  have hx1 : State.ok k x1 := loadObjects_ok (ensureReady_ok h0); clear_value x1
  have hx2 : State.ok k x2 := selfCommit_ok (State.setReg_ok hx1); clear_value x2
  have hx4 : State.ok k x4 := State.setReg_ok (State.setReg_ok hx2); clear_value x4
  have hx5 : State.ok k x5 := takeIronReport_ok (ok_ite (countJournalled_ok hx4) hx4); clear_value x5
  have hx8 : State.ok k x8 := State.ok_of hx5 hx5.1 hx5.2.1 rfl (Eq.trans (by rfl) hx5.2.2.2.2.1.symm) rfl rfl rfl rfl
  clear_value x8
  exact ok_ite h0 (managerStartBlocks_ok (updateTier_ok (startBooks_ok hx8)))

theorem shedDomain_ok {k a0 a1} (h1 : State.ok k a1) : State.ok k (shedDomain a0 a1) := by
  unfold shedDomain
  extract_lets x1
  exact ok_ite (switchOff_ok (ok_upd h1 rfl rfl rfl rfl rfl)) h1

theorem changeLevel_ok {k a0 a1} (h1 : State.ok k a1) : State.ok k (changeLevel a0 a1) := by
  unfold changeLevel
  extract_lets x1
  have hx1 : State.ok k x1 := openRecord_ok (countJournalled_ok (State.setReg_ok h1)); clear_value x1
  exact updateTier_ok (retunePllA_ok (ok_foldl (fun _ _ h2 => shedDomain_ok h2) hx1))

theorem thermalSample_ok {k a0 a1 a2} (h2 : State.ok k a2) : State.ok k (thermalSample a0 a1 a2) := by
  unfold thermalSample
  extract_lets x1 x2 x3 x4 x5 x6 x7 x8
  have hx2 : State.ok k x2 := State.setRegI_ok h2; clear_value x2
  have hx3 : State.ok k x3 := ok_ite (startTrim_ok hx2) hx2; clear_value x3
  have hx6 : State.ok k x6 := ok_ite (changeLevel_ok hx3) hx3; clear_value x6
  exact ok_ite h2 (ok_upd hx6 rfl rfl rfl rfl rfl)

theorem thermalDrop_ok {k a0} (h0 : State.ok k a0) : State.ok k (thermalDrop a0) := by
  unfold thermalDrop
  extract_lets x1
  exact ok_ite (changeLevel_ok (ok_upd h0 rfl rfl rfl rfl rfl)) h0

theorem darkSwitch_ok {k a0 a1 a2} (h2 : State.ok k a2) : State.ok k (darkSwitch a0 a1 a2) := by
  unfold darkSwitch
  extract_lets x1 x2
  have hx2 : State.ok k x2 := ok_upd h2 rfl rfl rfl rfl rfl; clear_value x2
  exact ok_ite (State.setDom_ok hx2) (tagPowerLost_ok (State.setDom_ok hx2))

theorem ironPor_ok {k a0} (h0 : State.ok k a0) : State.ok k (ironPor a0) := by
  unfold ironPor
  extract_lets x1 x2 x3 x4
  have hx3 : State.ok k x3 := ok_upd h0 rfl rfl rfl rfl rfl; clear_value x3
  have hx4 : State.ok k x4 := ok_foldl (fun _ _ h5 => State.setDom_ok h5) hx3; clear_value x4
  exact updateTier_ok (notesGone_ok (ironReset_ok hx4))

theorem ironPorRelease_ok {k a0} (h0 : State.ok k a0) : State.ok k (ironPorRelease a0) := by
  unfold ironPorRelease
  extract_lets x1 x2 x3 x4
  have hx1 : State.ok k x1 := ok_foldl (fun _ _ h5 => State.setDom_ok h5) h0; clear_value x1
  have hx4 : State.ok k x4 := ok_upd hx1 rfl rfl rfl rfl rfl; clear_value x4
  exact ok_ite h0 (notesBack_ok (ironLatch_ok hx4))

theorem bookUp_ok {k a0} (h0 : State.ok k a0) : State.ok k (bookUp a0) := by
  unfold bookUp
  extract_lets x1 x2 x3
  have hx3 : State.ok k x3 := ok_ite (ok_ite (ok_put h0) (State.setDom_ok (ok_put h0))) (State.setDom_ok (ok_ite (ok_put h0) (State.setDom_ok (ok_put h0)))); clear_value x3
  exact ok_ite (ensureReady_ok h0) (ensureReady_ok (ok_ite hx3 (domainUp_ok hx3)))

theorem bookDown_ok {k a0} (h0 : State.ok k a0) : State.ok k (bookDown a0) := by
  unfold bookDown
  extract_lets x1 x2 x3
  have hx2 : State.ok k x2 := ok_put h0; clear_value x2
  exact ok_ite (ok_foldl (fun _ _ h4 => ok_ite h4 (domainOff_ok h4)) hx2) h0

theorem execJournalCommitRequest_ok {k a0 a1 a2} (h2 : State.ok k a2) : Sound k (execJournalCommitRequest a0 a1 a2) := by
  unfold execJournalCommitRequest; exact sound_next (bookDown_ok (journalRequest_ok (bookUp_ok h2)))

theorem execJournalCommitComplete_ok {k a0} (h0 : State.ok k a0) : Sound k (execJournalCommitComplete a0) := by
  unfold execJournalCommitComplete; exact sound_next (ok_ite (bookDown_ok (compactIfFull_ok (payOwed_ok (finishSlot_ok h0)))) (bookDown_ok h0))

theorem execCompactionSector_ok {k a0} (h0 : State.ok k a0) : Sound k (execCompactionSector a0) := by
  unfold execCompactionSector; exact sound_next (ok_ite (bookDown_ok (compactionSector_ok (finishSlot_ok h0))) h0)

theorem execVsupWarning_ok {k a0 a1} (h1 : State.ok k a1) : Sound k (execVsupWarning a0 a1) := by
  unfold execVsupWarning; exact sound_next (vsupWarning_ok h1)

theorem execPowerFailLastCommit_ok {k a0 a1 a2} (h2 : State.ok k a2) : Sound k (execPowerFailLastCommit a0 a1 a2) := by
  unfold execPowerFailLastCommit; exact sound_next (powerFailEnd_ok h2)

theorem execVaonPor_ok {k a0} (h0 : State.ok k a0) : Sound k (execVaonPor a0) := by
  unfold execVaonPor; exact sound_next (vaonPor_ok h0)

theorem execVaonPorRelease_ok {k a0} (h0 : State.ok k a0) : Sound k (execVaonPorRelease a0) := by
  unfold execVaonPorRelease; exact sound_next (vaonPorRelease_ok h0)

theorem execVcoreLoss_ok {k a0} (h0 : State.ok k a0) : Sound k (execVcoreLoss a0) := by
  unfold execVcoreLoss; exact sound_next (vcoreLoss_ok h0)

theorem execSupplyGood_ok {k a0 a1 a2} (h2 : State.ok k a2) : Sound k (execSupplyGood a0 a1 a2) := by
  unfold execSupplyGood; exact sound_next (supplyGood_ok h2)

theorem execVsupGoodHoldExpiry_ok {k a0} (h0 : State.ok k a0) : Sound k (execVsupGoodHoldExpiry a0) := by
  unfold execVsupGoodHoldExpiry; exact sound_next (ok_ite (powerReturns_ok (ok_upd h0 rfl rfl rfl rfl rfl)) h0)

theorem execVcpStateChange_ok {k a0 a1 a2} (h2 : State.ok k a2) : Sound k (execVcpStateChange a0 a1 a2) := by
  unfold execVcpStateChange; exact sound_next (followVcp_ok (ok_upd h2 rfl rfl rfl rfl rfl))

theorem execSysRstNLow_ok {k a0} (h0 : State.ok k a0) : Sound k (execSysRstNLow a0) := by
  unfold execSysRstNLow; exact sound_next (mainDieStart_ok (journalWait_ok h0))

theorem execStageManagerWatchdogExpiry_ok {k a0} (h0 : State.ok k a0) : Sound k (execStageManagerWatchdogExpiry a0) := by
  unfold execStageManagerWatchdogExpiry; exact sound_next (mainDieStart_ok (journalWait_ok h0))

theorem execResetRequestDelayExpiry_ok {k a0} (h0 : State.ok k a0) : Sound k (execResetRequestDelayExpiry a0) := by
  unfold execResetRequestDelayExpiry; exact sound_next (ok_ite (mainDieStart_ok (journalWait_ok h0)) h0)

theorem execDeferredCopyStart_ok {k a0} (h0 : State.ok k a0) : Sound k (execDeferredCopyStart a0) := by
  unfold execDeferredCopyStart; exact sound_next (ok_ite (mainDieStart_ok (ok_upd h0 rfl rfl rfl rfl rfl)) h0)

theorem execBootRomStart_ok {k a0} (h0 : State.ok k a0) : Sound k (execBootRomStart a0) := by
  unfold execBootRomStart; exact sound_next (bootRomStart_ok h0)

theorem execLoaderCheckComplete_ok {k a0 a1 a2} (h2 : State.ok k a2) : Sound k (execLoaderCheckComplete a0 a1 a2) := by
  unfold execLoaderCheckComplete; exact sound_next (loaderChecked_ok h2)

theorem execBootStagedCopy_ok {k a0} (h0 : State.ok k a0) : Sound k (execBootStagedCopy a0) := by
  unfold execBootStagedCopy; exact sound_next (stagedCopy_ok h0)

theorem execRailsDischarged_ok {k a0} (h0 : State.ok k a0) : Sound k (execRailsDischarged a0) := by
  unfold execRailsDischarged; exact sound_next (updateTier_ok (railsDischarged_ok h0))

theorem execVcoreWaitTimeout_ok {k a0} (h0 : State.ok k a0) : Sound k (execVcoreWaitTimeout a0) := by
  unfold execVcoreWaitTimeout; exact sound_next (vcoreWaitTimeout_ok h0)

theorem execRomHoldStatusFrame_ok {k a0} (h0 : State.ok k a0) : Sound k (execRomHoldStatusFrame a0) := by
  unfold execRomHoldStatusFrame; exact sound_next (romHoldFrame_ok h0)

theorem execStageManagerStart_ok {k a0} (h0 : State.ok k a0) : Sound k (execStageManagerStart a0) := by
  unfold execStageManagerStart; exact sound_next (managerStart_ok h0)

theorem execTierGroupStart_ok {k a0} (h0 : State.ok k a0) : Sound k (execTierGroupStart a0) := by
  unfold execTierGroupStart; exact sound_next (ok_ite (tierStep_ok h0) h0)

theorem execDomainSwitchOn_ok {k a0 a1} (h1 : State.ok k a1) : Sound k (execDomainSwitchOn a0 a1) := by
  unfold execDomainSwitchOn; exact sound_next (ok_ite (domainRequestOn_ok h1) h1)

theorem execDomainOnComplete_ok {k a0 a1} (h1 : State.ok k a1) : Sound k (execDomainOnComplete a0 a1) := by
  unfold execDomainOnComplete; exact sound_next (domainComplete_ok h1)

theorem execDomainPowerGoodTimeout_ok {k a0 a1} (h1 : State.ok k a1) : Sound k (execDomainPowerGoodTimeout a0 a1) := by
  unfold execDomainPowerGoodTimeout; exact sound_next (powerGoodTimeout_ok h1)

theorem execDomainSwitchOff_ok {k a0 a1} (h1 : State.ok k a1) : Sound k (execDomainSwitchOff a0 a1) := by
  unfold execDomainSwitchOff; exact sound_next (ok_ite h1 (updateTier_ok (switchOff_ok h1)))

theorem execThermalSample_ok {k a0 a1 a2} (h2 : State.ok k a2) : Sound k (execThermalSample a0 a1 a2) := by
  unfold execThermalSample; exact sound_next (thermalSample_ok h2)

theorem execThermalLevelDrop_ok {k a0} (h0 : State.ok k a0) : Sound k (execThermalLevelDrop a0) := by
  unfold execThermalLevelDrop; exact sound_next (thermalDrop_ok h0)

theorem execDarkSourceSwitch_ok {k a0 a1} (h1 : State.ok k a1) : Sound k (execDarkSourceSwitch a0 a1) := by
  unfold execDarkSourceSwitch; exact sound_next (darkSwitch_ok h1)

theorem execIronPor_ok {k a0} (h0 : State.ok k a0) : Sound k (execIronPor a0) := by
  unfold execIronPor; exact sound_next (ironPor_ok h0)

theorem execIronPorRelease_ok {k a0} (h0 : State.ok k a0) : Sound k (execIronPorRelease a0) := by
  unfold execIronPorRelease; exact sound_next (ironPorRelease_ok h0)

end Sys2Proof.Machine
end

