-- ==== Sys2Proof/Laws/SoundRestarts.lean ====
section
/-!
SUPPORT. The operations of Machine/Restarts.lean keep `State.ok`, one lemma for each.
-/

namespace Sys2Proof.Machine

open Sys2Proof

theorem restartIsland_ok {k a0 a1} (h1 : State.ok k a1) : State.ok k (restartIsland a0 a1) := by
  unfold restartIsland; exact ok_ite (mainDieStart_ok (journalWait_ok h1)) (controllerMove_ok (resetIsland_ok h1))

theorem lockstep_ok {k a0} (h0 : State.ok k a0) : State.ok k (lockstep a0) := by
  unfold lockstep; exact ok_ite h0 (wardenEvent_ok (latchFault_ok (restartIsland_ok h0)))

theorem fetchError_ok {k a0 a1 a2} (h2 : State.ok k a2) : State.ok k (fetchError a0 a1 a2) := by
  unfold fetchError
  extract_lets x1 x2 x3 x4 x5
  have hx4 : State.ok k x4 := ok_put h2; clear_value x4
  have hx5 : State.ok k x5 := by
    unfold x5
    split
    · exact markDamaged_ok hx4
    · exact hx4
  clear_value x5
  exact ok_ite h2 (restartIsland_ok hx5)

theorem wakeJudged_ok {k a0 a1} (h1 : State.ok k a1) : State.ok k (wakeJudged a0 a1) := by
  unfold wakeJudged
  extract_lets x1
  have hx1 : State.ok k x1 := wakeCheck_ok h1; clear_value x1
  exact ok_ite (startTrim_ok hx1) hx1

theorem execLockstepMismatch_ok {k a0} (h0 : State.ok k a0) : Sound k (execLockstepMismatch a0) := by
  unfold execLockstepMismatch; exact sound_next (lockstep_ok h0)

theorem execSafetyBlockLoad_ok {k a0} (h0 : State.ok k a0) : Sound k (execSafetyBlockLoad a0) := by
  unfold execSafetyBlockLoad; exact sound_next (sessionCheck_ok (loadBlocks_ok h0))

theorem execFetchErrorRestart_ok {k a0 a1 a2} (h2 : State.ok k a2) : Sound k (execFetchErrorRestart a0 a1 a2) := by
  unfold execFetchErrorRestart; exact sound_next (fetchError_ok h2)

theorem execWakeRc16Check_ok {k a0 a1} (h1 : State.ok k a1) : Sound k (execWakeRc16Check a0 a1) := by
  unfold execWakeRc16Check; exact sound_next (wakeJudged_ok h1)

end Sys2Proof.Machine
end

