-- ==== Sys2Proof/Laws/SoundActions.lean ====
section
/-!
SUPPORT. The operations of Machine/Actions.lean keep `State.ok`, one lemma for each.
-/

namespace Sys2Proof.Machine

open Sys2Proof

theorem setCueKey_ok {k a0 a1 a2} (h2 : State.ok k a2) : State.ok k (setCueKey a0 a1 a2) := by
  unfold setCueKey
  by_cases hk : a0 < 4
  · rw [if_pos hk]
    refine ⟨h2.1, h2.2.1, List.length_set.trans h2.2.2.1, Eq.trans ?_ h2.2.2.2.1, h2.2.2.2.2⟩
    simp only [State.key, setAt, List.getD_eq_getElem?_getD, List.getElem?_set]
    rw [if_neg (by omega)]
  · rw [if_neg hk]; exact h2

theorem keyWrite_ok {k a0 a1 a2 a3} (h3 : State.ok k a3) : State.ok k (keyWrite a0 a1 a2 a3) := by
  unfold keyWrite
  extract_lets x1 x2 x3 x4
  have hx2 : State.ok k x2.2 := State.drawBits_ok h3; clear_value x2
  have hx4 : State.ok k x4 := ok_ite (actTagKey_ok hx2) (ok_ite (actTagKey_ok h3) (ok_ite (State.setTir_ok h3) (setCueKey_ok h3))); clear_value x4
  exact tamperStart_ok hx4

theorem actBankCmd_ok {k a0 a1 a2} (h2 : State.ok k a2) : State.ok k (actBankCmd a0 a1 a2).2 := by
  unfold actBankCmd
  refine ok_ite2 ?_ ?_
  · exact ok_snd h2
  · split
    · rename_i y1 s2 e3
      have hs2 : State.ok k s2 := ok_pair e3 (bankRequest_ok h2)
      exact ok_snd hs2
    · rename_i y4 s5 e6
      have hs5 : State.ok k s5 := ok_pair e6 (bankRequest_ok h2)
      exact ok_snd hs5
    · rename_i y7 s8 e9
      have hs8 : State.ok k s8 := ok_pair e9 (bankRequest_ok h2)
      exact ok_snd hs8

theorem actFlyCmd_ok {k a0 a1} (h1 : State.ok k a1) : State.ok k (actFlyCmd a0 a1).2 := by
  unfold actFlyCmd; exact ok_ite2 (actFlyHome_ok h1) (ok_ite2 (actFlyStop_ok h1) (ok_ite2 (actFlyStop_ok h1) (ok_ite2 (actFlyResume_ok h1) (ok_ite2 (actFlyJog_ok h1) (ok_ite2 (actFlyJog_ok h1) (ok_snd h1))))))

theorem actResetReq_ok {k a0 a1} (h1 : State.ok k a1) : State.ok k (actResetReq a0 a1).2 := by
  unfold actResetReq
  extract_lets x1
  exact ok_ite2 (ok_snd (ok_upd h1 rfl rfl rfl rfl rfl)) (ok_snd h1)

theorem actRdrTest_ok {k a0 a1} (h1 : State.ok k a1) : State.ok k (actRdrTest a0 a1) := by
  unfold actRdrTest
  extract_lets x1 x2
  exact ok_ite (State.setReg_ok (State.setReg_ok h1)) h1

theorem actCommand_ok {k a0 a1 a2 a3} (h3 : State.ok k a3) : ∀ r, actCommand a0 a1 a2 a3 = some r → State.ok k r.2 := by
  unfold actCommand
  extract_lets n
  exact okP_ite (okP_some (keyWrite_ok h3)) (okP_ite (okP_some (actForceNow_ok h3)) (okP_ite (okP_some (actResetReq_ok h3))
    (okP_ite (okP_some (actBankCmd_ok h3)) (okP_ite (okP_some (actFlyCmd_ok h3)) (okP_ite (okP_some (actFlyTarget_ok h3))
      (okP_ite (okP_some (actCalCmd_ok h3)) (okP_ite (okP_some (actEmergReq_ok h3)) (okP_ite (okP_some (actTokenIn_ok h3))
        (okP_ite (okP_some (actMdReset_ok h3)) (okP_ite (okP_some (actHostGrant_ok h3))
          (okP_ite (okP_some (ok_ite (clearNotes_ok h3) h3)) okP_none)))))))))))

theorem actWings_ok {k a0 a1 a2 a3} (h3 : State.ok k a3) : ∀ r, actWings a0 a1 a2 a3 = some r → State.ok k r.2 := by
  unfold actWings
  extract_lets n
  have o {c : Prop} {d : Decidable c} {x : Nat × State} (h : State.ok k x.2) :
      ∀ r, some (@ite (Nat × State) c d x (resRange, a3)) = some r → State.ok k r.2 :=
    okP_some (ok_ite2 h h3)
  exact okP_ite (okP_some (actWngOpen_ok h3)) (okP_ite (okP_some (actWngChunk_ok h3)) (okP_ite (o (actWngVerify_ok h3))
    (okP_ite (o (actWngCommit_ok h3)) (okP_ite (okP_some (actWngCommitCrc_ok h3)) (okP_ite (o (actWngConfirm_ok h3))
      (okP_ite (o (actWngRollback_ok h3)) (okP_ite (o (actWngAbandon_ok h3)) okP_none)))))))

theorem actIndexed_ok {k a0 a1 a2 a3} (h3 : State.ok k a3) : ∀ r, actIndexed a0 a1 a2 a3 = some r → State.ok k r.2 := by
  unfold actIndexed
  extract_lets n x
  have hx : State.ok k x.2 := actGpTest_ok h3
  clear_value x
  refine okP_ite (okP_some (ok_ite (State.setReg_ok hx) hx)) (okP_ite (okP_some (actTxData_ok h3))
    (okP_ite (okP_some (actTxData_ok h3)) (okP_findSome fun i => ?_)))
  exact okP_ite (okP_some (actOutMode_ok h3)) (okP_ite (okP_some (actPcMode_ok h3)) (okP_ite (okP_some (actMcFs_ok h3))
    (okP_ite (okP_some (actUartTest_ok h3)) (okP_ite (okP_some (actLaneTest_ok h3)) (okP_ite (okP_some (actLaneTest_ok h3))
      okP_none)))))

theorem writtenHouse_ok {k a0 a1 a2} (h2 : State.ok k a2) : State.ok k (writtenHouse a0 a1 a2) := by
  unfold writtenHouse
  extract_lets x1
  exact ok_ite (ok_ite h2 (ok_upd h2 rfl rfl rfl rfl rfl)) (ok_ite (ok_ite (shareLapse_ok h2) h2) (ok_ite (retunePllA_ok h2) (ok_ite (calendarEvaluate_ok h2) (ok_ite (calendarEvaluate_ok h2) (ok_ite (ok_ite h2 (demandAnew_ok h2)) (ok_ite (ok_ite (setShare_ok h2) h2) (ok_ite (actSeatCfg_ok h2) (ok_ite (actTirTest_ok h2) (ok_ite (ptpStart_ok h2) (ok_ite (actRdrTest_ok h2) h2))))))))))

theorem writtenPorts_ok {k a0 a1} (h1 : State.ok k a1) : State.ok k (writtenPorts a0 a1) := by
  unfold writtenPorts
  extract_lets x1
  refine ok_ite ?_ ?_
  · exact tagSecurityDrop_ok h1
  · refine ok_ite ?_ ?_
    · exact doorWritten_ok h1
    · refine ok_ite ?_ ?_
      · exact flowWritten_ok h1
      · refine ok_ite ?_ ?_
        · exact flowWritten_ok h1
        · refine ok_ite ?_ ?_
          · exact newTarget_ok h1
          · refine ok_ite ?_ ?_
            · exact newTarget_ok h1
            · split
              · exact actLaneSpeed_ok h1
              · split
                · exact ok_put h1
                · exact h1

theorem writeReg_ok {k a0 a1 a2} (h2 : State.ok k a2) : State.ok k (writeReg a0 a1 a2) := by
  unfold writeReg; exact writtenPorts_ok (writtenHouse_ok (State.setReg_ok h2))

theorem actWrite_ok {k a0 a1 a2 a3} (h3 : State.ok k a3) : State.ok k (actWrite a0 a1 a2 a3).2 := by
  unfold actWrite
  split
  · exact actCommand_ok h3 _ ‹_›
  · split
    · exact actWings_ok h3 _ ‹_›
    · split
      · exact actIndexed_ok h3 _ ‹_›
      · exact writeReg_ok h3

end Sys2Proof.Machine
end

