-- ==== Sys2Proof/Laws/SoundFabric.lean ====
section
/-!
SUPPORT. The operations of Machine/Fabric.lean keep `State.ok`, one lemma for each.
-/

namespace Sys2Proof.Machine

open Sys2Proof

theorem cbdReadPart_ok {k a0 a1 a2 a3 a4 a5} (h5 : State.ok k a5) : State.ok k (cbdReadPart a0 a1 a2 a3 a4 a5).2.2 := by
  unfold cbdReadPart
  extract_lets x1
  exact ok_ite3 (ok_ite3 (readNotice_ok h5) (ok_thd h5)) (ok_ite3 (ok_thd h5) (ok_ite3 (ok_ite3 (ok_thd h5) (ok_thd h5)) (ok_ite3 (ok_thd h5) (ok_thd h5))))

theorem cbdRead_ok {k a0 a1 a2 a3 a4} (h4 : State.ok k a4) : State.ok k (cbdRead a0 a1 a2 a3 a4).2.2 := by
  unfold cbdRead
  refine ok_ite3 (ok_thd h4) ?_
  extract_lets hit parts
  refine ok_ite3 (ok_thd h4) ?_
  refine ok_ite3 (ok_thd h4) ?_
  have hp : ∀ x ∈ parts, State.ok k x.2.2.2 := by
    intro x hx
    obtain ⟨r, -, rfl⟩ := List.mem_map.mp hx
    exact cbdReadPart_ok h4
  clear_value parts
  split
  · exact h4
  · refine ok_thd ?_
    split
    · exact hp _ (List.mem_singleton.mpr rfl)
    · exact h4

theorem cbdWrite_ok {k a0 a1 a2 a3 a4} (h4 : State.ok k a4) : State.ok k (cbdWrite a0 a1 a2 a3 a4).2 := by
  unfold cbdWrite
  extract_lets x1
  split
  · exact ok_snd h4
  · exact ok_ite2 (ok_snd h4) (ok_ite2 (ok_snd h4) (ok_ite2 (ackNotice_ok h4) (ok_ite2 (withdrawNotice_ok h4)
      (ok_ite2 (writeConfig_ok h4) (ok_snd h4)))))
  · exact ok_snd h4

theorem cbdDelivered_ok {k a0 a1 a2} (h2 : State.ok k a2) : State.ok k (cbdDelivered a0 a1 a2) := by
  unfold cbdDelivered
  extract_lets x1
  exact ok_ite (deliverNotice_ok h2) (ok_ite (readStatus_ok h2) h2)

theorem rawStored_ok {k a0 a1 a2 a3} (h3 : State.ok k a3.2) : State.ok k (rawStored a0 a1 a2 a3).2 := by
  unfold rawStored; exact ok_ite2 (ok_snd h3) (ok_snd (State.setReg_ok h3))

theorem regWrite_ok {k a0 a1 a2 a3 a4 a5} (h5 : State.ok k a5) : State.ok k (regWrite a0 a1 a2 a3 a4 a5).2 := by
  unfold regWrite
  split
  · exact ok_snd h5
  · extract_lets x1 x2 x3
    exact rawStored_ok (actWrite_ok h5)

theorem regWrites_ok {k a0 a1 a2 a3 a4 a5} (h5 : State.ok k a5) : State.ok k (regWrites a0 a1 a2 a3 a4 a5).2 := by
  induction a4 generalizing a5 with
  | nil => exact h5
  | cons r t ih => exact ok_ite2 (ih (regWrite_ok h5)) (regWrite_ok h5)

theorem windowWrite_ok {k a0 a1 a2 a3 a4 a5 a6} (h6 : State.ok k a6) : State.ok k (windowWrite a0 a1 a2 a3 a4 a5 a6).2 := by
  unfold windowWrite
  extract_lets x1
  exact ok_ite2 (ok_snd h6) (ok_ite2 (ok_snd h6) (ok_ite2 (ok_snd h6) (regWrites_ok h6)))

theorem readFlit_ok {k a0 a1 a2 a3 a4} (h4 : State.ok k a4) : State.ok k (readFlit a0 a1 a2 a3 a4).2.2 := by
  unfold readFlit
  extract_lets x1 x2 x3
  have hx3 : State.ok k x3.2 := State.drawBits_ok h4; clear_value x3
  refine ok_ite3 ?_ ?_
  · exact ok_thd h4
  · refine ok_ite3 ?_ ?_
    · exact ok_thd h4
    · clear_value x2
      split
      · exact ok_thd hx3
      · exact ok_thd h4
      · exact mramReadFabric_ok h4
      · extract_lets x4 x5 x6
        have hx5 : State.ok k x5.2.2 := cbdRead_ok h4; clear_value x5
        exact ok_ite3 (ok_thd hx5) (ok_thd h4)
      · extract_lets x7
        exact ok_ite3 (ok_thd h4) (ok_ite3 (ok_thd h4) (ok_thd h4))
      · exact ok_thd h4

theorem writeFlit_ok {k a0 a1 a2 a3 a4 a5 a6} (h6 : State.ok k a6) : State.ok k (writeFlit a0 a1 a2 a3 a4 a5 a6).2 := by
  unfold writeFlit
  extract_lets x1 x2 x3
  refine ok_ite2 (ok_snd h6) (ok_ite2 (ok_snd h6) ?_)
  clear_value x2
  split
  · exact ok_snd (State.setWord_ok h6)
  · exact ok_ite2 (ok_snd (mramStore_ok h6)) (mramMerge_ok h6)
  · extract_lets x5 x6
    exact ok_ite2 (ok_ite2 (postNotice_ok h6) (cbdWrite_ok h6)) (windowWrite_ok h6)
  · exact ok_ite2 (ok_snd (State.setWord_ok h6)) (ok_ite2 (ok_snd h6) (windowWrite_ok h6))
  · exact ok_snd h6

theorem readFlits_ok {k a0 a1 a2 a3 a4 a5} (h5 : State.ok k a5) : State.ok k (readFlits a0 a1 a2 a3 a4 a5).2.2 := by
  induction a4 generalizing a3 a5 with
  | zero => exact h5
  | succ n ih => exact ok_ite3 (ok_thd (ih (readFlit_ok h5))) (ok_thd (readFlit_ok h5))

theorem writeFlits_ok {k a0 a1 a2 a3 a4 a5 a6} (h6 : State.ok k a6) : State.ok k (writeFlits a0 a1 a2 a3 a4 a5 a6).2 := by
  induction a5 generalizing a4 a6 with
  | nil => exact h6
  | cons d t ih => exact ok_ite2 (ih (writeFlit_ok h6)) (writeFlit_ok h6)

theorem answerWrite_ok {k a0 a1 a2} (h2 : State.ok k a2) : State.ok k (answerWrite a0 a1 a2).2 := by
  unfold answerWrite
  split
  · exact postNotice_ok h2
  · exact ok_ite2 (ok_snd h2) (writeFlits_ok h2)

theorem answerRead_ok {k a0 a1 a2} (h2 : State.ok k a2) : State.ok k (answerRead a0 a1 a2).2.2 := by
  unfold answerRead
  extract_lets x1 x2
  have hx1 : State.ok k x1.2.2 := readFlits_ok h2; clear_value x1
  refine ok_ite3 (ok_thd h2) (ok_ite3 hx1 (ok_thd ?_))
  exact State.ok_of hx1 hx1.1 hx1.2.1 rfl rfl rfl (h2.2.2.2.2.2.2.1.trans hx1.2.2.2.2.2.2.1.symm) rfl rfl

theorem serve_ok {k a0 a1 a2} (h2 : State.ok k a2) : State.ok k (serve a0 a1 a2).2.2 := by
  unfold serve
  extract_lets x1
  have hx1 : State.ok k x1.2 := answerWrite_ok h2; clear_value x1
  exact ok_ite3 (ok_thd h2) (ok_ite3 (ok_thd hx1) (answerRead_ok h2))

theorem delivered_ok {k a0 a1} (h1 : State.ok k a1) : State.ok k (delivered a0 a1) := by
  unfold delivered
  refine ok_ite h1 (ok_foldl (fun s a h => ?_) h1)
  split
  · exact ok_ite (cbdDelivered_ok h) h
  · exact h

theorem listReq_ok {k a0 a1} (h1 : State.ok k a1) : State.ok k (listReq a0 a1) := by
  unfold listReq
  extract_lets x1
  exact ok_put h1

theorem takeReq_ok {k a0 a1} (h1 : State.ok k a1) : State.ok k (takeReq a0 a1) := by
  unfold takeReq
  extract_lets x0 x1 x2 x3
  have hx1 : State.ok k x1 := ok_put h1; clear_value x1
  have hx2 : State.ok k x2.2.2 := serve_ok hx1; clear_value x2
  exact ok_put hx2

theorem servePort_ok {k a0 a1 a2} (h2 : State.ok k a2) : State.ok k (servePort a0 a1 a2) := by
  induction a1 generalizing a2 with
  | zero => exact h2
  | succ n ih =>
    unfold servePort
    refine ok_ite h2 ?_
    split
    · exact h2
    · exact ih (takeReq_ok h2)

theorem drainPort_ok {k a0 a1} (h1 : State.ok k a1) : State.ok k (drainPort a0 a1) := by
  unfold drainPort; exact servePort_ok h1

theorem offer_ok {k a0 a1} (h1 : State.ok k a1) : State.ok k (offer a0 a1) := by
  unfold offer; exact ok_ite h1 (ok_ite (abortReq_ok h1) (drainPort_ok (listReq_ok h1)))

theorem dropReq_ok {k a0 a1 a2} (h2 : State.ok k a2) : State.ok k (dropReq a0 a1 a2) := by
  unfold dropReq
  extract_lets x1
  exact ok_put h2

theorem returnReq_ok {k a0 a1 a2 a3} (h3 : State.ok k a3) : State.ok k (returnReq a0 a1 a2 a3) := by
  unfold returnReq
  extract_lets x1 x2 x3
  have hx1 : State.ok k x1 := ok_ite h3 (fabFault_ok h3); clear_value x1
  have hx3 : State.ok k x3 := fabDeliver_ok hx1; clear_value x3
  exact ok_ite (ok_ite (delivered_ok hx3) (undelivered_ok hx3)) hx3

theorem returnListed_ok {k a0 a1 a2} (h2 : State.ok k a2) : State.ok k (returnListed a0 a1 a2) := by
  unfold returnListed
  split
  · exact h2
  · split
    · exact ok_ite h2 (forcedStart_ok (returnReq_ok (dropReq_ok h2)))
    · exact h2

theorem responseReturn_ok {k a0 a1 a2} (h2 : State.ok k a2) : State.ok k (responseReturn a0 a1 a2) := by
  unfold responseReturn
  split
  · exact h2
  · exact returnListed_ok (drainPort_ok h2)

theorem requestExpires_ok {k a0 a1 a2} (h2 : State.ok k a2) : State.ok k (requestExpires a0 a1 a2) := by
  unfold requestExpires
  split
  · exact h2
  · exact ok_ite h2 (abortReq_ok (dropReq_ok h2))

theorem responseExpires_ok {k a0 a1 a2} (h2 : State.ok k a2) : State.ok k (responseExpires a0 a1 a2) := by
  unfold responseExpires
  split
  · exact h2
  · exact ok_ite (forcedStart_ok (abortReq_ok (dropReq_ok h2))) h2

theorem proxyAccess_ok {k a0 a1 a2 a3 a4 a5} (h5 : State.ok k a5) : State.ok k (proxyAccess a0 a1 a2 a3 a4 a5).2.2 := by
  unfold proxyAccess
  extract_lets x1 x2 x7 x3 x4 x5
  have hx7 : State.ok k x7 := drainPort_ok h5; clear_value x7
  have hx4 : State.ok k x4.2.2 := readFlit_ok hx7; clear_value x4
  refine ok_ite3 ?_ ?_
  · exact ok_thd (fabFault_ok h5)
  · split
    · extract_lets x6
      have hx6 : State.ok k x6.2 := writeFlit_ok hx7; clear_value x6
      exact ok_ite3 (ok_thd hx6) (ok_thd (fabFault_ok hx6))
    · exact ok_ite3 (ok_thd (delivered_ok hx4)) (ok_thd (fabFault_ok hx4))

theorem execFabricReadRequest_ok {k a0 a1 a2 a3 a4 a5 a6} (h6 : State.ok k a6) : Sound k (execFabricReadRequest a0 a1 a2 a3 a4 a5 a6) := by
  unfold execFabricReadRequest; exact sound_next (offer_ok (ok_ite (noteFetch_ok h6) h6))

theorem execFabricWriteRequest_ok {k a0 a1 a2 a3 a4 a5} (h5 : State.ok k a5) : Sound k (execFabricWriteRequest a0 a1 a2 a3 a4 a5) := by
  unfold execFabricWriteRequest; exact sound_next (offer_ok h5)

theorem execRequestWatchdogExpiry_ok {k a0 a1 a2} (h2 : State.ok k a2) : Sound k (execRequestWatchdogExpiry a0 a1 a2) := by
  unfold execRequestWatchdogExpiry; exact sound_next (requestExpires_ok h2)

theorem execResponseWatchdogExpiry_ok {k a0 a1 a2} (h2 : State.ok k a2) : Sound k (execResponseWatchdogExpiry a0 a1 a2) := by
  unfold execResponseWatchdogExpiry; exact sound_next (responseExpires_ok h2)

theorem execPortPresentFall_ok {k a0 a1} (h1 : State.ok k a1) : Sound k (execPortPresentFall a0 a1) := by
  unfold execPortPresentFall; exact sound_next (abortPort_ok h1)

theorem execFabricResponseReturn_ok {k a0 a1 a2} (h2 : State.ok k a2) : Sound k (execFabricResponseReturn a0 a1 a2) := by
  unfold execFabricResponseReturn; exact sound_next (responseReturn_ok h2)

theorem execFabricEventPacket_ok {k a0 a1 a2} (h2 : State.ok k a2) : Sound k (execFabricEventPacket a0 a1 a2) := by
  unfold execFabricEventPacket; exact sound_next (State.offerEvent_ok h2)

end Sys2Proof.Machine
end

