-- ==== Sys2Proof/Laws/SoundCue.lean ====
section
/-!
SUPPORT. The operations of Machine/Cue.lean keep `State.ok`, one lemma for each.
-/

namespace Sys2Proof.Machine

open Sys2Proof

theorem sendReply_ok {k a0 a1 a2} (h2 : State.ok k a2) : State.ok k (sendReply a0 a1 a2) := by
  unfold sendReply; exact forcedStart_ok (sendCue_ok h2)

theorem authFails_ok {k a0 a1 a2} (h2 : State.ok k a2) : State.ok k (authFails a0 a1 a2) := by
  unfold authFails
  extract_lets x1 x2 x3
  have hx1 : State.ok k x1 := State.count_ok h2; clear_value x1
  exact ok_ite (sendReply_ok (ok_upd hx1 rfl rfl rfl rfl rfl)) hx1

theorem staleReply_ok {k a0 a1 a2} (h2 : State.ok k a2) : State.ok k (staleReply a0 a1 a2) := by
  unfold staleReply; exact sendReply_ok h2

theorem noteVerified_ok {k a0 a1} (h1 : State.ok k a1) : State.ok k (noteVerified a0 a1) := by
  unfold noteVerified
  extract_lets x1 x2 x3 x4 x5
  have hx1 : State.ok k x1 := State.count_ok h1; clear_value x1
  have hx2 : State.ok k x2 := State.setReg_ok hx1; clear_value x2
  have hx4 : State.ok k x4 := State.setReg_ok hx1; clear_value x4
  split
  · exact hx1
  · exact ok_upd hx2 rfl rfl rfl rfl rfl
  · exact ok_upd hx4 rfl rfl rfl rfl rfl

theorem discardPend_ok {k a0} (h0 : State.ok k a0) : State.ok k (discardPend a0) := by
  unfold discardPend
  extract_lets x1
  exact State.clearReg_ok (State.clearReg_ok (ok_upd h0 rfl rfl rfl rfl rfl))

theorem changeBaton_ok {k a0 a1 a2 a3 a4} (h4 : State.ok k a4) : State.ok k (changeBaton a0 a1 a2 a3 a4) := by
  unfold changeBaton
  extract_lets x1 x2 x3 x4 x5 x6
  have hx2 : State.ok k x2 := State.setReg_ok h4; clear_value x2
  have hx3 : State.ok k x3 := ok_ite (countJournalled_ok hx2) hx2; clear_value x3
  have hx4 : State.ok k x4 := record_ok hx3; clear_value x4
  have hx5 : State.ok k x5 := notifyMain_ok hx4; clear_value x5
  have hx6 : State.ok k x6 := by
    unfold x6
    split
    · exact ok_ite (discardPend_ok hx5) hx5
    · exact hx5
  clear_value x6
  exact ok_ite h4 (ok_ite (wingsAbandon_ok hx6) hx6)

theorem batonStep_ok {k a0 a1} (h1 : State.ok k a1) : State.ok k (batonStep a0 a1).2 := by
  unfold batonStep
  extract_lets x1
  exact ok_ite2 (ok_snd h1) (ok_ite2 (ok_snd h1) (ok_ite2 (ok_snd h1) (ok_ite2 (ok_snd h1) (ok_ite2 (ok_snd (ok_foldl (fun _ _ h2 => changeBaton_ok h2) h1)) (ok_snd h1)))))

theorem setSeq_ok {k a0 a1 a2} (h2 : State.ok k a2) : State.ok k (setSeq a0 a1 a2) := by
  unfold setSeq
  extract_lets x1
  split
  · exact ok_upd h2 rfl rfl rfl rfl rfl
  · exact ok_upd h2 rfl rfl rfl rfl rfl
  · exact h2

theorem storeReply_ok {k a0 a1 a2 a3} (h3 : State.ok k a3) : State.ok k (storeReply a0 a1 a2 a3) := by
  unfold storeReply
  extract_lets x1 x2
  refine ok_ite ?_ ?_
  · exact h3
  · split
    · exact ok_upd h3 rfl rfl rfl rfl rfl
    · exact ok_upd h3 rfl rfl rfl rfl rfl
    · exact h3

theorem pidAborted_ok {k a0 a1} (h1 : State.ok k a1) : State.ok k (pidAborted a0 a1) := by
  unfold pidAborted; exact fabFault_ok h1

theorem readTakes_ok {k a0 a1} (h1 : State.ok k a1) : State.ok k (readTakes a0 a1) := by
  unfold readTakes; exact ok_ite (rxTaken_ok h1) (ok_ite (rxTaken_ok h1) h1)

theorem afterRead_ok {k a0 a1 a2} (h2 : State.ok k a2) : State.ok k (afterRead a0 a1 a2) := by
  unfold afterRead; exact ok_ite (readTakes_ok h2) (ok_ite (pidAborted_ok h2) h2)

theorem serveRead_ok {k a0 a1} (h1 : State.ok k a1) : State.ok k (serveRead a0 a1).2 := by
  unfold serveRead
  extract_lets x1
  exact ok_ite2 (ok_snd h1) (ok_ite2 (ok_snd h1) (ok_ite2 (ok_snd h1) (ok_ite2 (ok_snd h1) (ok_ite2 (ok_snd (pidAborted_ok h1)) (ok_ite2 (ok_snd h1) (ok_snd (readTakes_ok h1)))))))

theorem bulkReadEntry_ok {k a0 a1 a2} (h2 : State.ok k a2) : State.ok k (bulkReadEntry a0 a1 a2).2 := by
  unfold bulkReadEntry
  extract_lets x1
  exact ok_snd (afterRead_ok h2)

theorem bulkReadEntries_ok {k a0 a1 a2} (h2 : State.ok k a2) : State.ok k (bulkReadEntries a0 a1 a2).2 := by
  induction a1 generalizing a2 with
  | nil => exact h2
  | cons p t ih => exact ok_snd (ih (bulkReadEntry_ok h2))

theorem serveBulkRead_ok {k a0 a1} (h1 : State.ok k a1) : State.ok k (serveBulkRead a0 a1).2 := by
  unfold serveBulkRead
  extract_lets x1 x2
  have hx2 : State.ok k x2.2 := bulkReadEntries_ok h1; clear_value x2
  exact ok_ite2 (ok_snd h1) (ok_ite2 (ok_snd h1) (ok_ite2 (ok_snd h1) (ok_ite2 (ok_snd h1) (ok_snd hx2))))

theorem relayWrites_ok {k a0 a1 a2} (h2 : State.ok k a2) : State.ok k (relayWrites a0 a1 a2) := by
  unfold relayWrites
  split
  · exact h2
  · exact relay_ok h2
  · exact relay_ok h2

theorem commitWrites_ok {k a0 a1 a2} (h2 : State.ok k a2) : State.ok k (commitWrites a0 a1 a2).2 := by
  unfold commitWrites
  extract_lets x1
  have hx1 : State.ok k x1.2 := commit_ok h2; clear_value x1
  exact ok_snd (relayWrites_ok hx1)

theorem blockWrite_ok {k a0 a1 a2 a3} (h3 : State.ok k a3) : State.ok k (blockWrite a0 a1 a2 a3).2 := by
  unfold blockWrite
  extract_lets g c f
  have hs : ∀ l, State.ok k (f l) := fun l => State.setReg_ok (State.setReg_ok (ok_upd h3 rfl rfl rfl rfl rfl))
  clear_value f
  split
  · exact ok_snd (hs _)
  · exact ok_ite2 (ok_snd (hs _)) (ok_snd h3)

theorem applyWrite_ok {k a0 a1 a2 a3} (h3 : State.ok k a3) : State.ok k (applyWrite a0 a1 a2 a3).2 := by
  unfold applyWrite; exact ok_ite2 (ok_snd (pidAborted_ok h3)) (actWrite_ok h3)

theorem performWrite_ok {k a0 a1 a2 a3} (h3 : State.ok k a3) : State.ok k (performWrite a0 a1 a2 a3).2 := by
  unfold performWrite
  extract_lets x1 x2
  have hx1 : State.ok k x1.2 := applyWrite_ok h3; clear_value x1
  have hx2 : State.ok k x2.2 := commitWrites_ok h3; clear_value x2
  exact ok_ite2 hx1 (ok_ite2 (ok_snd h3) (ok_ite2 hx1 (ok_ite2 (applyWrite_ok hx2) (ok_snd hx2))))

theorem serveWrite_ok {k a0 a1} (h1 : State.ok k a1) : State.ok k (serveWrite a0 a1).2 := by
  unfold serveWrite
  extract_lets x1 x2 x3 x4 x5
  have hx4 : State.ok k x4.2 := blockWrite_ok h1; clear_value x4
  have hx5 : State.ok k x5.2 := performWrite_ok h1; clear_value x5
  exact ok_ite2 (ok_snd h1) (ok_ite2 (ok_ite2 (ok_snd h1) (ok_snd hx4)) (ok_snd hx5))

theorem bulkJudge_ok {k a0 a1 a2 a3} (h3 : State.ok k a3) : State.ok k (bulkJudge a0 a1 a2 a3).2 := by
  unfold bulkJudge
  extract_lets x1
  exact ok_ite2 (ok_snd h3) (ok_ite2 (ok_snd h3) (ok_ite2 (ok_ite2 (ok_snd h3) (blockWrite_ok h3)) (actWrite_ok h3)))

theorem bulkApply_ok {k a0 a1 a2} (h2 : State.ok k a2) : State.ok k (bulkApply a0 a1 a2).2 := by
  unfold bulkApply; exact ok_ite2 (blockWrite_ok h2) (applyWrite_ok h2)

theorem bulkApplies_ok {k a0 a1 a2 a3} (h3 : State.ok k a3) : State.ok k (bulkApplies a0 a1 a2 a3).2 := by
  induction a2 generalizing a1 a3 with
  | nil => exact h3
  | cons e t ih => exact ok_ite2 (ih (bulkApply_ok h3)) (ok_snd (bulkApply_ok h3))

theorem serveBulkWrite_ok {k a0 a1} (h1 : State.ok k a1) : State.ok k (serveBulkWrite a0 a1).2 := by
  unfold serveBulkWrite
  extract_lets x1 x2 x3 x4
  have hx4 : State.ok k x4.2 := commitWrites_ok h1; clear_value x4
  refine ok_ite2 ?_ ?_
  · exact ok_snd h1
  · refine ok_ite2 ?_ ?_
    · exact ok_snd h1
    · split
      · exact ok_snd h1
      · exact ok_ite2 (ok_snd h1) (ok_ite2 (ok_snd h1) (ok_ite2 (bulkApplies_ok h1) (ok_ite2 (bulkApplies_ok hx4) (ok_snd hx4))))

theorem applyBlock_ok {k a0 a1} (h1 : State.ok k a1) : State.ok k (applyBlock a0 a1) := by
  unfold applyBlock
  extract_lets x1 x2 x3 x4
  have hx1 : State.ok k x1 := State.setRegs_ok h1; clear_value x1
  have hx4 : State.ok k x4 := ok_put hx1; clear_value x4
  exact latchEstops_ok (refreshSi_ok (checkBlocks_ok (settle_ok (tamperStart_ok hx4))))

theorem confirmBlock_ok {k a0 a1 a2} (h2 : State.ok k a2) : State.ok k (confirmBlock a0 a1 a2) := by
  unfold confirmBlock
  extract_lets x1 x2
  have hx1 : State.ok k x1 := commit_ok (relay_ok h2); clear_value x1
  have hx2 : State.ok k x2 := ok_ite (faultAck_ok (tamperStart_ok hx1)) (applyBlock_ok hx1); clear_value x2
  exact discardPend_ok hx2

theorem ironDiffers_ok {k a0} (h0 : State.ok k a0) : State.ok k (ironDiffers a0) := by
  unfold ironDiffers; exact ironEvent_ok (discardPend_ok h0)

theorem confirmAction_ok {k a0 a1} (h1 : State.ok k a1) : State.ok k (confirmAction a0 a1).2 := by
  unfold confirmAction
  extract_lets x1
  have hx1 : State.ok k x1 := ok_ite (discardPend_ok h1) h1; clear_value x1
  split
  · exact ok_snd hx1
  · exact ok_ite2 (ok_snd hx1) (ok_ite2 (ok_snd (discardPend_ok hx1)) (ok_ite2 (ok_snd hx1) (ok_ite2 (ok_snd (ironDiffers_ok hx1)) (ok_snd (confirmBlock_ok hx1)))))

theorem serveConfirm_ok {k a0 a1} (h1 : State.ok k a1) : State.ok k (serveConfirm a0 a1).2 := by
  unfold serveConfirm
  extract_lets x1
  split
  · exact ok_snd h1
  · exact ok_ite2 (ok_snd h1) (ok_ite2 (ok_snd h1) (ok_ite2 (ok_snd h1) (ok_ite2 (ok_snd h1) (ok_ite2 (ok_snd h1) (confirmAction_ok h1)))))

theorem subscribe_ok {k a0 a1 a2 a3 a4} (h4 : State.ok k a4) : State.ok k (subscribe a0 a1 a2 a3 a4).2 := by
  unfold subscribe
  extract_lets x1 x2
  split
  · exact ok_snd (State.setSub_ok h4)
  · clear_value x2
    split
    · exact ok_snd (State.setSub_ok h4)
    · exact ok_snd h4

theorem unsubscribe_ok {k a0 a1} (h1 : State.ok k a1) : State.ok k (unsubscribe a0 a1).2 := by
  unfold unsubscribe
  split
  · exact ok_snd (State.setSub_ok h1)
  · exact ok_snd h1

theorem serveNotify_ok {k a0 a1} (h1 : State.ok k a1) : State.ok k (serveNotify a0 a1).2 := by
  unfold serveNotify
  extract_lets x1 x2 x3
  exact ok_ite2 (ok_snd h1) (ok_ite2 (ok_snd h1) (ok_ite2 (ok_snd h1) (ok_ite2 (ok_snd h1) (ok_ite2 (unsubscribe_ok h1) (subscribe_ok h1)))))

theorem serveBaton_ok {k a0 a1} (h1 : State.ok k a1) : State.ok k (serveBaton a0 a1).2 := by
  unfold serveBaton
  extract_lets x1
  exact ok_ite2 (ok_snd h1) (ok_ite2 (ok_snd h1) (ok_ite2 (ok_snd h1) (ok_ite2 (ok_snd h1) (ok_snd (ok_ite (changeBaton_ok h1) (changeBaton_ok h1))))))

theorem serveRaw_ok {k a0 a1} (h1 : State.ok k a1) : State.ok k (serveRaw a0 a1).2 := by
  unfold serveRaw
  extract_lets x1 x2 x3 x4 x5 x6
  have hx6 : State.ok k x6.2.2 := proxyAccess_ok h1; clear_value x6
  exact ok_ite2 (ok_snd h1) (ok_ite2 (ok_snd h1) (ok_ite2 (ok_snd h1) (ok_ite2 (ok_snd h1) (ok_ite2 (ok_snd h1) (ok_snd hx6)))))

theorem serveOp_ok {k a0 a1} (h1 : State.ok k a1) : State.ok k (serveOp a0 a1).2 := by
  unfold serveOp; exact ok_ite2 (serveRaw_ok h1) (ok_ite2 (serveRead_ok h1) (ok_ite2 (serveWrite_ok h1) (ok_ite2 (serveConfirm_ok h1) (ok_ite2 (serveNotify_ok h1) (ok_ite2 (serveBulkRead_ok h1) (ok_ite2 (serveBulkWrite_ok h1) (serveBaton_ok h1)))))))

theorem execute_ok {k a0 a1} (h1 : State.ok k a1) : State.ok k (execute a0 a1) := by
  unfold execute
  extract_lets x1 x2
  have hx1 : State.ok k x1.2 := serveOp_ok h1; clear_value x1
  exact sendReply_ok (storeReply_ok hx1)

theorem serveVerified_ok {k a0 a1} (h1 : State.ok k a1) : State.ok k (serveVerified a0 a1) := by
  unfold serveVerified
  extract_lets x1 x2
  have hx1 : State.ok k x1.2 := batonStep_ok h1; clear_value x1
  have hx2 : State.ok k x2.2 := serveOp_ok hx1; clear_value x2
  refine ok_ite ?_ ?_
  · exact sendReply_ok hx1
  · refine ok_ite ?_ ?_
    · exact sendReply_ok hx2
    · split
      · exact sendReply_ok hx1
      · exact sendReply_ok hx1
      · exact execute_ok (setSeq_ok hx1)

theorem serveRequest_ok {k a0 a1 a2 a3 a4} (h4 : State.ok k a4) : State.ok k (serveRequest a0 a1 a2 a3 a4) := by
  unfold serveRequest
  refine ok_ite ?_ ?_
  · exact h4
  · refine ok_ite ?_ ?_
    · exact State.count_ok h4
    · refine ok_ite ?_ ?_
      · exact h4
      · split
        · exact authFails_ok h4
        · exact staleReply_ok h4
        · exact serveVerified_ok (noteVerified_ok h4)

theorem serveOldest_ok {k a0} (h0 : State.ok k a0) : State.ok k (serveOldest a0) := by
  unfold serveOldest
  extract_lets x1
  split
  · exact h0
  · exact serveRequest_ok (ok_upd h0 rfl rfl rfl rfl rfl)

theorem drainInbox_ok {k a0 a1} (h1 : State.ok k a1) : State.ok k (drainInbox a0 a1) := by
  induction a0 generalizing a1 with
  | zero => exact h1
  | succ n ih => exact ok_ite h1 (ih (serveOldest_ok h1))

theorem serveCue_ok {k a0 a1 a2 a3} (h3 : State.ok k a3) : State.ok k (serveCue a0 a1 a2 a3) := by
  unfold serveCue; exact serveRequest_ok (drainInbox_ok h3)

theorem execRead_ok {k a0 a1} (h1 : State.ok k a1) : Sound k (execRead a0 a1) := by
  unfold execRead; exact sound_next (serveCue_ok h1)

theorem execWrite_ok {k a0 a1} (h1 : State.ok k a1) : Sound k (execWrite a0 a1) := by
  unfold execWrite; exact sound_next (serveCue_ok h1)

theorem execConfirm_ok {k a0 a1} (h1 : State.ok k a1) : Sound k (execConfirm a0 a1) := by
  unfold execConfirm; exact sound_next (serveCue_ok h1)

theorem execNotify_ok {k a0 a1} (h1 : State.ok k a1) : Sound k (execNotify a0 a1) := by
  unfold execNotify; exact sound_next (serveCue_ok h1)

theorem execBulkRead_ok {k a0 a1} (h1 : State.ok k a1) : Sound k (execBulkRead a0 a1) := by
  unfold execBulkRead; exact sound_next (serveCue_ok h1)

theorem execBulkWrite_ok {k a0 a1} (h1 : State.ok k a1) : Sound k (execBulkWrite a0 a1) := by
  unfold execBulkWrite; exact sound_next (serveCue_ok h1)

theorem execSeize_ok {k a0 a1} (h1 : State.ok k a1) : Sound k (execSeize a0 a1) := by
  unfold execSeize; exact sound_next (serveCue_ok h1)

theorem execRelease_ok {k a0 a1} (h1 : State.ok k a1) : Sound k (execRelease a0 a1) := by
  unfold execRelease; exact sound_next (serveCue_ok h1)

theorem execSafetyBlockExpiry_ok {k a0} (h0 : State.ok k a0) : Sound k (execSafetyBlockExpiry a0) := by
  unfold execSafetyBlockExpiry; exact sound_next (discardPend_ok h0)

theorem execRawWindowRead_ok {k a0 a1} (h1 : State.ok k a1) : Sound k (execRawWindowRead a0 a1) := by
  unfold execRawWindowRead; exact sound_next (serveCue_ok h1)

theorem execRawWindowWrite_ok {k a0 a1} (h1 : State.ok k a1) : Sound k (execRawWindowWrite a0 a1) := by
  unfold execRawWindowWrite; exact sound_next (serveCue_ok h1)

theorem execKeyChange_ok {k a0 a1} (h1 : State.ok k a1) : Sound k (execKeyChange a0 a1) := by
  unfold execKeyChange; exact sound_next (serveCue_ok h1)

theorem sendNote_ok {k a0 a1 a2} (h2 : State.ok k a2) : State.ok k (sendNote a0 a1 a2) := by
  unfold sendNote; exact ok_ite (sendNoteOf_ok (pidAborted_ok h2)) (sendNoteOf_ok h2)

theorem execNotificationOnChange_ok {k a0 a1} (h1 : State.ok k a1) : Sound k (execNotificationOnChange a0 a1) := by
  unfold execNotificationOnChange
  refine sound_next ?_
  split
  · exact h1
  · exact ok_ite (sendNote_ok h1) h1

theorem execNotificationPeriodic_ok {k a0 a1} (h1 : State.ok k a1) : Sound k (execNotificationPeriodic a0 a1) := by
  unfold execNotificationPeriodic
  refine sound_next ?_
  split
  · exact h1
  · exact ok_ite (sendNote_ok h1) h1

theorem execObjectSelfCommitRetry_ok {k a0} (h0 : State.ok k a0) : Sound k (execObjectSelfCommitRetry a0) := by
  unfold execObjectSelfCommitRetry; exact sound_next (ok_ite h0 (selfCommit_ok h0))

end Sys2Proof.Machine
end

