-- ==== Sys2Proof/Laws/SoundCueWrites.lean ====
section
/-!
SUPPORT. The operations of Machine/CueWrites.lean keep `State.ok`, one lemma for each.
-/

namespace Sys2Proof.Machine

open Sys2Proof

theorem serveWriteReq_ok {k a0 a1} (h1 : State.ok k a1) : State.ok k (serveWriteReq a0 a1) := by
  unfold serveWriteReq; exact serveCue_ok h1

theorem execCkForceNow_ok {k a0 a1} (h1 : State.ok k a1) : Sound k (execCkForceNow a0 a1) := by
  unfold execCkForceNow; exact sound_next (serveWriteReq_ok h1)

theorem execPwResetReq_ok {k a0 a1} (h1 : State.ok k a1) : Sound k (execPwResetReq a0 a1) := by
  unfold execPwResetReq; exact sound_next (serveWriteReq_ok h1)

theorem execPwTierReq_ok {k a0 a1} (h1 : State.ok k a1) : Sound k (execPwTierReq a0 a1) := by
  unfold execPwTierReq; exact sound_next (serveWriteReq_ok h1)

theorem execBankSelfTest_ok {k a0 a1} (h1 : State.ok k a1) : Sound k (execBankSelfTest a0 a1) := by
  unfold execBankSelfTest; exact sound_next (serveWriteReq_ok h1)

theorem execBankCopy_ok {k a0 a1} (h1 : State.ok k a1) : Sound k (execBankCopy a0 a1) := by
  unfold execBankCopy; exact sound_next (serveWriteReq_ok h1)

theorem execBankWipe_ok {k a0 a1} (h1 : State.ok k a1) : Sound k (execBankWipe a0 a1) := by
  unfold execBankWipe; exact sound_next (serveWriteReq_ok h1)

theorem execFlyHome_ok {k a0 a1} (h1 : State.ok k a1) : Sound k (execFlyHome a0 a1) := by
  unfold execFlyHome; exact sound_next (serveWriteReq_ok h1)

theorem execFlyStop_ok {k a0 a1} (h1 : State.ok k a1) : Sound k (execFlyStop a0 a1) := by
  unfold execFlyStop; exact sound_next (serveWriteReq_ok h1)

theorem execFlyQuickStop_ok {k a0 a1} (h1 : State.ok k a1) : Sound k (execFlyQuickStop a0 a1) := by
  unfold execFlyQuickStop; exact sound_next (serveWriteReq_ok h1)

theorem execFlyResume_ok {k a0 a1} (h1 : State.ok k a1) : Sound k (execFlyResume a0 a1) := by
  unfold execFlyResume; exact sound_next (serveWriteReq_ok h1)

theorem execFlyJogPositive_ok {k a0 a1} (h1 : State.ok k a1) : Sound k (execFlyJogPositive a0 a1) := by
  unfold execFlyJogPositive; exact sound_next (serveWriteReq_ok h1)

theorem execFlyJogNegative_ok {k a0 a1} (h1 : State.ok k a1) : Sound k (execFlyJogNegative a0 a1) := by
  unfold execFlyJogNegative; exact sound_next (serveWriteReq_ok h1)

theorem execFlyTargetWrite_ok {k a0 a1} (h1 : State.ok k a1) : Sound k (execFlyTargetWrite a0 a1) := by
  unfold execFlyTargetWrite; exact sound_next (serveWriteReq_ok h1)

theorem execTlyOutModeWrite_ok {k a0 a1} (h1 : State.ok k a1) : Sound k (execTlyOutModeWrite a0 a1) := by
  unfold execTlyOutModeWrite; exact sound_next (serveWriteReq_ok h1)

theorem execCalMeasureLow_ok {k a0 a1} (h1 : State.ok k a1) : Sound k (execCalMeasureLow a0 a1) := by
  unfold execCalMeasureLow; exact sound_next (serveWriteReq_ok h1)

theorem execCalMeasureHigh_ok {k a0 a1} (h1 : State.ok k a1) : Sound k (execCalMeasureHigh a0 a1) := by
  unfold execCalMeasureHigh; exact sound_next (serveWriteReq_ok h1)

theorem execCalCommit_ok {k a0 a1} (h1 : State.ok k a1) : Sound k (execCalCommit a0 a1) := by
  unfold execCalCommit; exact sound_next (serveWriteReq_ok h1)

theorem execCalAbandon_ok {k a0 a1} (h1 : State.ok k a1) : Sound k (execCalAbandon a0 a1) := by
  unfold execCalAbandon; exact sound_next (serveWriteReq_ok h1)

theorem execTlyPcModeWrite_ok {k a0 a1} (h1 : State.ok k a1) : Sound k (execTlyPcModeWrite a0 a1) := by
  unfold execTlyPcModeWrite; exact sound_next (serveWriteReq_ok h1)

theorem execTlyMcFsWrite_ok {k a0 a1} (h1 : State.ok k a1) : Sound k (execTlyMcFsWrite a0 a1) := by
  unfold execTlyMcFsWrite; exact sound_next (serveWriteReq_ok h1)

theorem execBoxMdReset_ok {k a0 a1} (h1 : State.ok k a1) : Sound k (execBoxMdReset a0 a1) := by
  unfold execBoxMdReset; exact sound_next (serveWriteReq_ok h1)

theorem execTirTestMode_ok {k a0 a1} (h1 : State.ok k a1) : Sound k (execTirTestMode a0 a1) := by
  unfold execTirTestMode; exact sound_next (serveWriteReq_ok h1)

theorem execTirGpTestMode_ok {k a0 a1} (h1 : State.ok k a1) : Sound k (execTirGpTestMode a0 a1) := by
  unfold execTirGpTestMode; exact sound_next (serveWriteReq_ok h1)

theorem execSlPatternGenWrite_ok {k a0 a1} (h1 : State.ok k a1) : Sound k (execSlPatternGenWrite a0 a1) := by
  unfold execSlPatternGenWrite; exact sound_next (serveWriteReq_ok h1)

theorem execSlPatternChkWrite_ok {k a0 a1} (h1 : State.ok k a1) : Sound k (execSlPatternChkWrite a0 a1) := by
  unfold execSlPatternChkWrite; exact sound_next (serveWriteReq_ok h1)

theorem execSlLoopbackWrite_ok {k a0 a1} (h1 : State.ok k a1) : Sound k (execSlLoopbackWrite a0 a1) := by
  unfold execSlLoopbackWrite; exact sound_next (serveWriteReq_ok h1)

theorem execRdrHostGrant_ok {k a0 a1} (h1 : State.ok k a1) : Sound k (execRdrHostGrant a0 a1) := by
  unfold execRdrHostGrant; exact sound_next (serveWriteReq_ok h1)

theorem execRdrTestMode_ok {k a0 a1} (h1 : State.ok k a1) : Sound k (execRdrTestMode a0 a1) := by
  unfold execRdrTestMode; exact sound_next (serveWriteReq_ok h1)

theorem execTagSecurityWrite_ok {k a0 a1} (h1 : State.ok k a1) : Sound k (execTagSecurityWrite a0 a1) := by
  unfold execTagSecurityWrite; exact sound_next (serveWriteReq_ok h1)

theorem execTagNoteClear_ok {k a0 a1} (h1 : State.ok k a1) : Sound k (execTagNoteClear a0 a1) := by
  unfold execTagNoteClear; exact sound_next (serveWriteReq_ok h1)

theorem execUartTxDataWrite_ok {k a0 a1} (h1 : State.ok k a1) : Sound k (execUartTxDataWrite a0 a1) := by
  unfold execUartTxDataWrite; exact sound_next (serveWriteReq_ok h1)

theorem execUartTestWrite_ok {k a0 a1} (h1 : State.ok k a1) : Sound k (execUartTestWrite a0 a1) := by
  unfold execUartTestWrite; exact sound_next (serveWriteReq_ok h1)

theorem execDspImageWrite_ok {k a0 a1} (h1 : State.ok k a1) : Sound k (execDspImageWrite a0 a1) := by
  unfold execDspImageWrite; exact sound_next (serveWriteReq_ok h1)

theorem execWngOpen_ok {k a0 a1} (h1 : State.ok k a1) : Sound k (execWngOpen a0 a1) := by
  unfold execWngOpen; exact sound_next (serveWriteReq_ok h1)

theorem execWngVerify_ok {k a0 a1} (h1 : State.ok k a1) : Sound k (execWngVerify a0 a1) := by
  unfold execWngVerify; exact sound_next (serveWriteReq_ok h1)

theorem execWngCommit_ok {k a0 a1} (h1 : State.ok k a1) : Sound k (execWngCommit a0 a1) := by
  unfold execWngCommit; exact sound_next (serveWriteReq_ok h1)

theorem execWngCommitCrc_ok {k a0 a1} (h1 : State.ok k a1) : Sound k (execWngCommitCrc a0 a1) := by
  unfold execWngCommitCrc; exact sound_next (serveWriteReq_ok h1)

theorem execWngConfirm_ok {k a0 a1} (h1 : State.ok k a1) : Sound k (execWngConfirm a0 a1) := by
  unfold execWngConfirm; exact sound_next (serveWriteReq_ok h1)

theorem execWngRollback_ok {k a0 a1} (h1 : State.ok k a1) : Sound k (execWngRollback a0 a1) := by
  unfold execWngRollback; exact sound_next (serveWriteReq_ok h1)

theorem execWngAbandon_ok {k a0 a1} (h1 : State.ok k a1) : Sound k (execWngAbandon a0 a1) := by
  unfold execWngAbandon; exact sound_next (serveWriteReq_ok h1)

theorem execUartRxDataRead_ok {k a0 a1} (h1 : State.ok k a1) : Sound k (execUartRxDataRead a0 a1) := by
  unfold execUartRxDataRead; exact sound_next (serveCue_ok h1)

theorem execWngChunk_ok {k a0 a1 a2} (h2 : State.ok k a2) : Sound k (execWngChunk a0 a1 a2) := by
  unfold execWngChunk; exact sound_next (serveCue_ok h2)

theorem execBoxEmergReq_ok {k a0 a1} (h1 : State.ok k a1) : Sound k (execBoxEmergReq a0 a1) := by
  unfold execBoxEmergReq
  refine sound_next ?_
  split
  · exact serveWriteReq_ok h1
  · exact ok_ite (actEmergReq_ok h1) h1

theorem execTokenEntry_ok {k a0 a1} (h1 : State.ok k a1) : Sound k (execTokenEntry a0 a1) := by
  unfold execTokenEntry
  refine sound_next ?_
  split
  · exact serveWriteReq_ok h1
  · exact keypadEnter_ok h1

end Sys2Proof.Machine
end

