-- ==== Sys2Proof/Laws/SoundTick.lean ====
section
/-!
SUPPORT. The operations of Machine/Tick.lean keep `State.ok`, one lemma for each.
-/

namespace Sys2Proof.Machine

open Sys2Proof

theorem slewTick_ok {k a0} (h0 : State.ok k a0) : State.ok k (slewTick a0) := by
  unfold slewTick
  extract_lets x1 x2 x3
  have hx3 : State.ok k x3 := State.setTir_ok h0; clear_value x3
  exact ok_ite h0 (ok_ite (State.setTir_ok h0) (ok_put hx3))

theorem tick_ok {k a0} (h0 : State.ok k a0) : State.ok k (tick a0) := by
  unfold tick
  extract_lets x1
  have hx1 : State.ok k x1 := clearStep_ok (ok_ite (slewTick_ok (ok_put h0)) h0); clear_value x1
  exact ok_put hx1

theorem idle_ok {k a0} (h0 : State.ok k a0) : State.ok k (idle a0) := by
  unfold idle; exact ok_ite (tick_ok h0) (serveOldest_ok h0)

end Sys2Proof.Machine
end

