-- ==== Sys2Proof/Laws/State.lean ====
section
/-!
SUPPORT. The small lemmas of State: what each update of one part leaves in every other part, so that no later proof
unfolds a record update; and the reads after the writes of registers and memory.
-/

namespace Sys2Proof.Machine

open Sys2Proof

/-! ### One lemma per field per update -/

@[simp] theorem State.setReg_now (s : State) (p v : Nat) : (s.setReg p v).now = s.now := rfl
@[simp] theorem State.setReg_mono (s : State) (p v : Nat) : (s.setReg p v).mono = s.mono := rfl
@[simp] theorem State.setReg_freeCtr (s : State) (p v : Nat) : (s.setReg p v).freeCtr = s.freeCtr := rfl
@[simp] theorem State.setReg_mem (s : State) (p v : Nat) : (s.setReg p v).mem = s.mem := rfl
@[simp] theorem State.setReg_cue (s : State) (p v : Nat) : (s.setReg p v).cue = s.cue := rfl
@[simp] theorem State.setReg_fab (s : State) (p v : Nat) : (s.setReg p v).fab = s.fab := rfl
@[simp] theorem State.setReg_clk (s : State) (p v : Nat) : (s.setReg p v).clk = s.clk := rfl
@[simp] theorem State.setReg_pwr (s : State) (p v : Nat) : (s.setReg p v).pwr = s.pwr := rfl
@[simp] theorem State.setReg_cbd (s : State) (p v : Nat) : (s.setReg p v).cbd = s.cbd := rfl
@[simp] theorem State.setReg_mram (s : State) (p v : Nat) : (s.setReg p v).mram = s.mram := rfl
@[simp] theorem State.setReg_jnl (s : State) (p v : Nat) : (s.setReg p v).jnl = s.jnl := rfl
@[simp] theorem State.setReg_iron (s : State) (p v : Nat) : (s.setReg p v).iron = s.iron := rfl
@[simp] theorem State.setReg_saf (s : State) (p v : Nat) : (s.setReg p v).saf = s.saf := rfl
@[simp] theorem State.setReg_veh (s : State) (p v : Nat) : (s.setReg p v).veh = s.veh := rfl
@[simp] theorem State.setReg_fly (s : State) (p v : Nat) : (s.setReg p v).fly = s.fly := rfl
@[simp] theorem State.setReg_cnv (s : State) (p v : Nat) : (s.setReg p v).cnv = s.cnv := rfl
@[simp] theorem State.setReg_nrg (s : State) (p v : Nat) : (s.setReg p v).nrg = s.nrg := rfl
@[simp] theorem State.setReg_box (s : State) (p v : Nat) : (s.setReg p v).box = s.box := rfl
@[simp] theorem State.setReg_tir (s : State) (p v : Nat) : (s.setReg p v).tir = s.tir := rfl
@[simp] theorem State.setReg_slac (s : State) (p v : Nat) : (s.setReg p v).slac = s.slac := rfl
@[simp] theorem State.setReg_sl (s : State) (p v : Nat) : (s.setReg p v).sl = s.sl := rfl
@[simp] theorem State.setReg_rdr (s : State) (p v : Nat) : (s.setReg p v).rdr = s.rdr := rfl
@[simp] theorem State.setReg_tag (s : State) (p v : Nat) : (s.setReg p v).tag = s.tag := rfl
@[simp] theorem State.setReg_crd (s : State) (p v : Nat) : (s.setReg p v).crd = s.crd := rfl
@[simp] theorem State.setReg_ser (s : State) (p v : Nat) : (s.setReg p v).ser = s.ser := rfl
@[simp] theorem State.setReg_dsp (s : State) (p v : Nat) : (s.setReg p v).dsp = s.dsp := rfl
@[simp] theorem State.setReg_wng (s : State) (p v : Nat) : (s.setReg p v).wng = s.wng := rfl
@[simp] theorem State.setReg_sent (s : State) (p v : Nat) : (s.setReg p v).sent = s.sent := rfl
@[simp] theorem State.setReg_pending (s : State) (p v : Nat) : (s.setReg p v).pending = s.pending := rfl
@[simp] theorem State.setReg_present (s : State) (p v : Nat) (q : Nat) : (s.setReg p v).present q = s.present q := rfl
@[simp] theorem State.setReg_byte (s : State) (p v : Nat) (q : Nat) : (s.setReg p v).byte q = s.byte q := rfl

@[simp] theorem State.clearReg_now (s : State) (p : Nat) : (s.clearReg p).now = s.now := rfl
@[simp] theorem State.clearReg_mono (s : State) (p : Nat) : (s.clearReg p).mono = s.mono := rfl
@[simp] theorem State.clearReg_freeCtr (s : State) (p : Nat) : (s.clearReg p).freeCtr = s.freeCtr := rfl
@[simp] theorem State.clearReg_mem (s : State) (p : Nat) : (s.clearReg p).mem = s.mem := rfl
@[simp] theorem State.clearReg_cue (s : State) (p : Nat) : (s.clearReg p).cue = s.cue := rfl
@[simp] theorem State.clearReg_fab (s : State) (p : Nat) : (s.clearReg p).fab = s.fab := rfl
@[simp] theorem State.clearReg_clk (s : State) (p : Nat) : (s.clearReg p).clk = s.clk := rfl
@[simp] theorem State.clearReg_pwr (s : State) (p : Nat) : (s.clearReg p).pwr = s.pwr := rfl
@[simp] theorem State.clearReg_cbd (s : State) (p : Nat) : (s.clearReg p).cbd = s.cbd := rfl
@[simp] theorem State.clearReg_mram (s : State) (p : Nat) : (s.clearReg p).mram = s.mram := rfl
@[simp] theorem State.clearReg_jnl (s : State) (p : Nat) : (s.clearReg p).jnl = s.jnl := rfl
@[simp] theorem State.clearReg_iron (s : State) (p : Nat) : (s.clearReg p).iron = s.iron := rfl
@[simp] theorem State.clearReg_saf (s : State) (p : Nat) : (s.clearReg p).saf = s.saf := rfl
@[simp] theorem State.clearReg_veh (s : State) (p : Nat) : (s.clearReg p).veh = s.veh := rfl
@[simp] theorem State.clearReg_fly (s : State) (p : Nat) : (s.clearReg p).fly = s.fly := rfl
@[simp] theorem State.clearReg_cnv (s : State) (p : Nat) : (s.clearReg p).cnv = s.cnv := rfl
@[simp] theorem State.clearReg_nrg (s : State) (p : Nat) : (s.clearReg p).nrg = s.nrg := rfl
@[simp] theorem State.clearReg_box (s : State) (p : Nat) : (s.clearReg p).box = s.box := rfl
@[simp] theorem State.clearReg_tir (s : State) (p : Nat) : (s.clearReg p).tir = s.tir := rfl
@[simp] theorem State.clearReg_slac (s : State) (p : Nat) : (s.clearReg p).slac = s.slac := rfl
@[simp] theorem State.clearReg_sl (s : State) (p : Nat) : (s.clearReg p).sl = s.sl := rfl
@[simp] theorem State.clearReg_rdr (s : State) (p : Nat) : (s.clearReg p).rdr = s.rdr := rfl
@[simp] theorem State.clearReg_tag (s : State) (p : Nat) : (s.clearReg p).tag = s.tag := rfl
@[simp] theorem State.clearReg_crd (s : State) (p : Nat) : (s.clearReg p).crd = s.crd := rfl
@[simp] theorem State.clearReg_ser (s : State) (p : Nat) : (s.clearReg p).ser = s.ser := rfl
@[simp] theorem State.clearReg_dsp (s : State) (p : Nat) : (s.clearReg p).dsp = s.dsp := rfl
@[simp] theorem State.clearReg_wng (s : State) (p : Nat) : (s.clearReg p).wng = s.wng := rfl
@[simp] theorem State.clearReg_sent (s : State) (p : Nat) : (s.clearReg p).sent = s.sent := rfl
@[simp] theorem State.clearReg_pending (s : State) (p : Nat) : (s.clearReg p).pending = s.pending := rfl
@[simp] theorem State.clearReg_present (s : State) (p : Nat) (q : Nat) : (s.clearReg p).present q = s.present q := rfl
@[simp] theorem State.clearReg_byte (s : State) (p : Nat) (q : Nat) : (s.clearReg p).byte q = s.byte q := rfl

@[simp] theorem State.setRegI_now (s : State) (p : Nat) (i : Int) : (s.setRegI p i).now = s.now := rfl
@[simp] theorem State.setRegI_mono (s : State) (p : Nat) (i : Int) : (s.setRegI p i).mono = s.mono := rfl
@[simp] theorem State.setRegI_freeCtr (s : State) (p : Nat) (i : Int) : (s.setRegI p i).freeCtr = s.freeCtr := rfl
@[simp] theorem State.setRegI_mem (s : State) (p : Nat) (i : Int) : (s.setRegI p i).mem = s.mem := rfl
@[simp] theorem State.setRegI_cue (s : State) (p : Nat) (i : Int) : (s.setRegI p i).cue = s.cue := rfl
@[simp] theorem State.setRegI_fab (s : State) (p : Nat) (i : Int) : (s.setRegI p i).fab = s.fab := rfl
@[simp] theorem State.setRegI_clk (s : State) (p : Nat) (i : Int) : (s.setRegI p i).clk = s.clk := rfl
@[simp] theorem State.setRegI_pwr (s : State) (p : Nat) (i : Int) : (s.setRegI p i).pwr = s.pwr := rfl
@[simp] theorem State.setRegI_cbd (s : State) (p : Nat) (i : Int) : (s.setRegI p i).cbd = s.cbd := rfl
@[simp] theorem State.setRegI_mram (s : State) (p : Nat) (i : Int) : (s.setRegI p i).mram = s.mram := rfl
@[simp] theorem State.setRegI_jnl (s : State) (p : Nat) (i : Int) : (s.setRegI p i).jnl = s.jnl := rfl
@[simp] theorem State.setRegI_iron (s : State) (p : Nat) (i : Int) : (s.setRegI p i).iron = s.iron := rfl
@[simp] theorem State.setRegI_saf (s : State) (p : Nat) (i : Int) : (s.setRegI p i).saf = s.saf := rfl
@[simp] theorem State.setRegI_veh (s : State) (p : Nat) (i : Int) : (s.setRegI p i).veh = s.veh := rfl
@[simp] theorem State.setRegI_fly (s : State) (p : Nat) (i : Int) : (s.setRegI p i).fly = s.fly := rfl
@[simp] theorem State.setRegI_cnv (s : State) (p : Nat) (i : Int) : (s.setRegI p i).cnv = s.cnv := rfl
@[simp] theorem State.setRegI_nrg (s : State) (p : Nat) (i : Int) : (s.setRegI p i).nrg = s.nrg := rfl
@[simp] theorem State.setRegI_box (s : State) (p : Nat) (i : Int) : (s.setRegI p i).box = s.box := rfl
@[simp] theorem State.setRegI_tir (s : State) (p : Nat) (i : Int) : (s.setRegI p i).tir = s.tir := rfl
@[simp] theorem State.setRegI_slac (s : State) (p : Nat) (i : Int) : (s.setRegI p i).slac = s.slac := rfl
@[simp] theorem State.setRegI_sl (s : State) (p : Nat) (i : Int) : (s.setRegI p i).sl = s.sl := rfl
@[simp] theorem State.setRegI_rdr (s : State) (p : Nat) (i : Int) : (s.setRegI p i).rdr = s.rdr := rfl
@[simp] theorem State.setRegI_tag (s : State) (p : Nat) (i : Int) : (s.setRegI p i).tag = s.tag := rfl
@[simp] theorem State.setRegI_crd (s : State) (p : Nat) (i : Int) : (s.setRegI p i).crd = s.crd := rfl
@[simp] theorem State.setRegI_ser (s : State) (p : Nat) (i : Int) : (s.setRegI p i).ser = s.ser := rfl
@[simp] theorem State.setRegI_dsp (s : State) (p : Nat) (i : Int) : (s.setRegI p i).dsp = s.dsp := rfl
@[simp] theorem State.setRegI_wng (s : State) (p : Nat) (i : Int) : (s.setRegI p i).wng = s.wng := rfl
@[simp] theorem State.setRegI_sent (s : State) (p : Nat) (i : Int) : (s.setRegI p i).sent = s.sent := rfl
@[simp] theorem State.setRegI_pending (s : State) (p : Nat) (i : Int) : (s.setRegI p i).pending = s.pending := rfl
@[simp] theorem State.setRegI_present (s : State) (p : Nat) (i : Int) (q : Nat) : (s.setRegI p i).present q = s.present q := rfl
@[simp] theorem State.setRegI_byte (s : State) (p : Nat) (i : Int) (q : Nat) : (s.setRegI p i).byte q = s.byte q := rfl

@[simp] theorem State.count_now (s : State) (p k : Nat) : (s.count p k).now = s.now := rfl
@[simp] theorem State.count_mono (s : State) (p k : Nat) : (s.count p k).mono = s.mono := rfl
@[simp] theorem State.count_freeCtr (s : State) (p k : Nat) : (s.count p k).freeCtr = s.freeCtr := rfl
@[simp] theorem State.count_mem (s : State) (p k : Nat) : (s.count p k).mem = s.mem := rfl
@[simp] theorem State.count_cue (s : State) (p k : Nat) : (s.count p k).cue = s.cue := rfl
@[simp] theorem State.count_fab (s : State) (p k : Nat) : (s.count p k).fab = s.fab := rfl
@[simp] theorem State.count_clk (s : State) (p k : Nat) : (s.count p k).clk = s.clk := rfl
@[simp] theorem State.count_pwr (s : State) (p k : Nat) : (s.count p k).pwr = s.pwr := rfl
@[simp] theorem State.count_cbd (s : State) (p k : Nat) : (s.count p k).cbd = s.cbd := rfl
@[simp] theorem State.count_mram (s : State) (p k : Nat) : (s.count p k).mram = s.mram := rfl
@[simp] theorem State.count_jnl (s : State) (p k : Nat) : (s.count p k).jnl = s.jnl := rfl
@[simp] theorem State.count_iron (s : State) (p k : Nat) : (s.count p k).iron = s.iron := rfl
@[simp] theorem State.count_saf (s : State) (p k : Nat) : (s.count p k).saf = s.saf := rfl
@[simp] theorem State.count_veh (s : State) (p k : Nat) : (s.count p k).veh = s.veh := rfl
@[simp] theorem State.count_fly (s : State) (p k : Nat) : (s.count p k).fly = s.fly := rfl
@[simp] theorem State.count_cnv (s : State) (p k : Nat) : (s.count p k).cnv = s.cnv := rfl
@[simp] theorem State.count_nrg (s : State) (p k : Nat) : (s.count p k).nrg = s.nrg := rfl
@[simp] theorem State.count_box (s : State) (p k : Nat) : (s.count p k).box = s.box := rfl
@[simp] theorem State.count_tir (s : State) (p k : Nat) : (s.count p k).tir = s.tir := rfl
@[simp] theorem State.count_slac (s : State) (p k : Nat) : (s.count p k).slac = s.slac := rfl
@[simp] theorem State.count_sl (s : State) (p k : Nat) : (s.count p k).sl = s.sl := rfl
@[simp] theorem State.count_rdr (s : State) (p k : Nat) : (s.count p k).rdr = s.rdr := rfl
@[simp] theorem State.count_tag (s : State) (p k : Nat) : (s.count p k).tag = s.tag := rfl
@[simp] theorem State.count_crd (s : State) (p k : Nat) : (s.count p k).crd = s.crd := rfl
@[simp] theorem State.count_ser (s : State) (p k : Nat) : (s.count p k).ser = s.ser := rfl
@[simp] theorem State.count_dsp (s : State) (p k : Nat) : (s.count p k).dsp = s.dsp := rfl
@[simp] theorem State.count_wng (s : State) (p k : Nat) : (s.count p k).wng = s.wng := rfl
@[simp] theorem State.count_sent (s : State) (p k : Nat) : (s.count p k).sent = s.sent := rfl
@[simp] theorem State.count_pending (s : State) (p k : Nat) : (s.count p k).pending = s.pending := rfl
@[simp] theorem State.count_present (s : State) (p k : Nat) (q : Nat) : (s.count p k).present q = s.present q := rfl
@[simp] theorem State.count_byte (s : State) (p k : Nat) (q : Nat) : (s.count p k).byte q = s.byte q := rfl

@[simp] theorem State.setBytes_now (s : State) (x : Nat) (l : Bytes) : (s.setBytes x l).now = s.now := rfl
@[simp] theorem State.setBytes_mono (s : State) (x : Nat) (l : Bytes) : (s.setBytes x l).mono = s.mono := rfl
@[simp] theorem State.setBytes_freeCtr (s : State) (x : Nat) (l : Bytes) : (s.setBytes x l).freeCtr = s.freeCtr := rfl
@[simp] theorem State.setBytes_regs (s : State) (x : Nat) (l : Bytes) : (s.setBytes x l).regs = s.regs := rfl
@[simp] theorem State.setBytes_mem (s : State) (x : Nat) (l : Bytes) : (s.setBytes x l).mem = Memory.writeBytes s.mem x l := rfl
@[simp] theorem State.setBytes_cue (s : State) (x : Nat) (l : Bytes) : (s.setBytes x l).cue = s.cue := rfl
@[simp] theorem State.setBytes_fab (s : State) (x : Nat) (l : Bytes) : (s.setBytes x l).fab = s.fab := rfl
@[simp] theorem State.setBytes_clk (s : State) (x : Nat) (l : Bytes) : (s.setBytes x l).clk = s.clk := rfl
@[simp] theorem State.setBytes_pwr (s : State) (x : Nat) (l : Bytes) : (s.setBytes x l).pwr = s.pwr := rfl
@[simp] theorem State.setBytes_cbd (s : State) (x : Nat) (l : Bytes) : (s.setBytes x l).cbd = s.cbd := rfl
@[simp] theorem State.setBytes_mram (s : State) (x : Nat) (l : Bytes) : (s.setBytes x l).mram = s.mram := rfl
@[simp] theorem State.setBytes_jnl (s : State) (x : Nat) (l : Bytes) : (s.setBytes x l).jnl = s.jnl := rfl
@[simp] theorem State.setBytes_iron (s : State) (x : Nat) (l : Bytes) : (s.setBytes x l).iron = s.iron := rfl
@[simp] theorem State.setBytes_saf (s : State) (x : Nat) (l : Bytes) : (s.setBytes x l).saf = s.saf := rfl
@[simp] theorem State.setBytes_veh (s : State) (x : Nat) (l : Bytes) : (s.setBytes x l).veh = s.veh := rfl
@[simp] theorem State.setBytes_fly (s : State) (x : Nat) (l : Bytes) : (s.setBytes x l).fly = s.fly := rfl
@[simp] theorem State.setBytes_cnv (s : State) (x : Nat) (l : Bytes) : (s.setBytes x l).cnv = s.cnv := rfl
@[simp] theorem State.setBytes_nrg (s : State) (x : Nat) (l : Bytes) : (s.setBytes x l).nrg = s.nrg := rfl
@[simp] theorem State.setBytes_box (s : State) (x : Nat) (l : Bytes) : (s.setBytes x l).box = s.box := rfl
@[simp] theorem State.setBytes_tir (s : State) (x : Nat) (l : Bytes) : (s.setBytes x l).tir = s.tir := rfl
@[simp] theorem State.setBytes_slac (s : State) (x : Nat) (l : Bytes) : (s.setBytes x l).slac = s.slac := rfl
@[simp] theorem State.setBytes_sl (s : State) (x : Nat) (l : Bytes) : (s.setBytes x l).sl = s.sl := rfl
@[simp] theorem State.setBytes_rdr (s : State) (x : Nat) (l : Bytes) : (s.setBytes x l).rdr = s.rdr := rfl
@[simp] theorem State.setBytes_tag (s : State) (x : Nat) (l : Bytes) : (s.setBytes x l).tag = s.tag := rfl
@[simp] theorem State.setBytes_crd (s : State) (x : Nat) (l : Bytes) : (s.setBytes x l).crd = s.crd := rfl
@[simp] theorem State.setBytes_ser (s : State) (x : Nat) (l : Bytes) : (s.setBytes x l).ser = s.ser := rfl
@[simp] theorem State.setBytes_dsp (s : State) (x : Nat) (l : Bytes) : (s.setBytes x l).dsp = s.dsp := rfl
@[simp] theorem State.setBytes_wng (s : State) (x : Nat) (l : Bytes) : (s.setBytes x l).wng = s.wng := rfl
@[simp] theorem State.setBytes_sent (s : State) (x : Nat) (l : Bytes) : (s.setBytes x l).sent = s.sent := rfl
@[simp] theorem State.setBytes_pending (s : State) (x : Nat) (l : Bytes) : (s.setBytes x l).pending = s.pending := rfl
@[simp] theorem State.setBytes_reg (s : State) (x : Nat) (l : Bytes) (q : Nat) : (s.setBytes x l).reg q = s.reg q := rfl
@[simp] theorem State.setBytes_present (s : State) (x : Nat) (l : Bytes) (q : Nat) : (s.setBytes x l).present q = s.present q := rfl

@[simp] theorem State.setWord_now (s : State) (x w : Nat) : (s.setWord x w).now = s.now := State.setBytes_now s x (toBytes 16 w)
@[simp] theorem State.setWord_mono (s : State) (x w : Nat) : (s.setWord x w).mono = s.mono := State.setBytes_mono s x (toBytes 16 w)
@[simp] theorem State.setWord_freeCtr (s : State) (x w : Nat) : (s.setWord x w).freeCtr = s.freeCtr := State.setBytes_freeCtr s x (toBytes 16 w)
@[simp] theorem State.setWord_regs (s : State) (x w : Nat) : (s.setWord x w).regs = s.regs := State.setBytes_regs s x (toBytes 16 w)
@[simp] theorem State.setWord_cue (s : State) (x w : Nat) : (s.setWord x w).cue = s.cue := State.setBytes_cue s x (toBytes 16 w)
@[simp] theorem State.setWord_fab (s : State) (x w : Nat) : (s.setWord x w).fab = s.fab := State.setBytes_fab s x (toBytes 16 w)
@[simp] theorem State.setWord_clk (s : State) (x w : Nat) : (s.setWord x w).clk = s.clk := State.setBytes_clk s x (toBytes 16 w)
@[simp] theorem State.setWord_pwr (s : State) (x w : Nat) : (s.setWord x w).pwr = s.pwr := State.setBytes_pwr s x (toBytes 16 w)
@[simp] theorem State.setWord_cbd (s : State) (x w : Nat) : (s.setWord x w).cbd = s.cbd := State.setBytes_cbd s x (toBytes 16 w)
@[simp] theorem State.setWord_mram (s : State) (x w : Nat) : (s.setWord x w).mram = s.mram := State.setBytes_mram s x (toBytes 16 w)
@[simp] theorem State.setWord_jnl (s : State) (x w : Nat) : (s.setWord x w).jnl = s.jnl := State.setBytes_jnl s x (toBytes 16 w)
@[simp] theorem State.setWord_iron (s : State) (x w : Nat) : (s.setWord x w).iron = s.iron := State.setBytes_iron s x (toBytes 16 w)
@[simp] theorem State.setWord_saf (s : State) (x w : Nat) : (s.setWord x w).saf = s.saf := State.setBytes_saf s x (toBytes 16 w)
@[simp] theorem State.setWord_veh (s : State) (x w : Nat) : (s.setWord x w).veh = s.veh := State.setBytes_veh s x (toBytes 16 w)
@[simp] theorem State.setWord_fly (s : State) (x w : Nat) : (s.setWord x w).fly = s.fly := State.setBytes_fly s x (toBytes 16 w)
@[simp] theorem State.setWord_cnv (s : State) (x w : Nat) : (s.setWord x w).cnv = s.cnv := State.setBytes_cnv s x (toBytes 16 w)
@[simp] theorem State.setWord_nrg (s : State) (x w : Nat) : (s.setWord x w).nrg = s.nrg := State.setBytes_nrg s x (toBytes 16 w)
@[simp] theorem State.setWord_box (s : State) (x w : Nat) : (s.setWord x w).box = s.box := State.setBytes_box s x (toBytes 16 w)
@[simp] theorem State.setWord_tir (s : State) (x w : Nat) : (s.setWord x w).tir = s.tir := State.setBytes_tir s x (toBytes 16 w)
@[simp] theorem State.setWord_slac (s : State) (x w : Nat) : (s.setWord x w).slac = s.slac := State.setBytes_slac s x (toBytes 16 w)
@[simp] theorem State.setWord_sl (s : State) (x w : Nat) : (s.setWord x w).sl = s.sl := State.setBytes_sl s x (toBytes 16 w)
@[simp] theorem State.setWord_rdr (s : State) (x w : Nat) : (s.setWord x w).rdr = s.rdr := State.setBytes_rdr s x (toBytes 16 w)
@[simp] theorem State.setWord_tag (s : State) (x w : Nat) : (s.setWord x w).tag = s.tag := State.setBytes_tag s x (toBytes 16 w)
@[simp] theorem State.setWord_crd (s : State) (x w : Nat) : (s.setWord x w).crd = s.crd := State.setBytes_crd s x (toBytes 16 w)
@[simp] theorem State.setWord_ser (s : State) (x w : Nat) : (s.setWord x w).ser = s.ser := State.setBytes_ser s x (toBytes 16 w)
@[simp] theorem State.setWord_dsp (s : State) (x w : Nat) : (s.setWord x w).dsp = s.dsp := State.setBytes_dsp s x (toBytes 16 w)
@[simp] theorem State.setWord_wng (s : State) (x w : Nat) : (s.setWord x w).wng = s.wng := State.setBytes_wng s x (toBytes 16 w)
@[simp] theorem State.setWord_sent (s : State) (x w : Nat) : (s.setWord x w).sent = s.sent := State.setBytes_sent s x (toBytes 16 w)
@[simp] theorem State.setWord_pending (s : State) (x w : Nat) : (s.setWord x w).pending = s.pending := State.setBytes_pending s x (toBytes 16 w)
@[simp] theorem State.setWord_reg (s : State) (x w : Nat) (q : Nat) : (s.setWord x w).reg q = s.reg q := State.setBytes_reg s x (toBytes 16 w) q
@[simp] theorem State.setWord_present (s : State) (x w : Nat) (q : Nat) : (s.setWord x w).present q = s.present q := State.setBytes_present s x (toBytes 16 w) q

@[simp] theorem State.emit_now (s : State) (o : Output) : (s.emit o).now = s.now := rfl
@[simp] theorem State.emit_mono (s : State) (o : Output) : (s.emit o).mono = s.mono := rfl
@[simp] theorem State.emit_freeCtr (s : State) (o : Output) : (s.emit o).freeCtr = s.freeCtr := rfl
@[simp] theorem State.emit_regs (s : State) (o : Output) : (s.emit o).regs = s.regs := rfl
@[simp] theorem State.emit_mem (s : State) (o : Output) : (s.emit o).mem = s.mem := rfl
@[simp] theorem State.emit_cue (s : State) (o : Output) : (s.emit o).cue = s.cue := rfl
@[simp] theorem State.emit_fab (s : State) (o : Output) : (s.emit o).fab = s.fab := rfl
@[simp] theorem State.emit_clk (s : State) (o : Output) : (s.emit o).clk = s.clk := rfl
@[simp] theorem State.emit_pwr (s : State) (o : Output) : (s.emit o).pwr = s.pwr := rfl
@[simp] theorem State.emit_cbd (s : State) (o : Output) : (s.emit o).cbd = s.cbd := rfl
@[simp] theorem State.emit_mram (s : State) (o : Output) : (s.emit o).mram = s.mram := rfl
@[simp] theorem State.emit_jnl (s : State) (o : Output) : (s.emit o).jnl = s.jnl := rfl
@[simp] theorem State.emit_iron (s : State) (o : Output) : (s.emit o).iron = s.iron := rfl
@[simp] theorem State.emit_saf (s : State) (o : Output) : (s.emit o).saf = s.saf := rfl
@[simp] theorem State.emit_veh (s : State) (o : Output) : (s.emit o).veh = s.veh := rfl
@[simp] theorem State.emit_fly (s : State) (o : Output) : (s.emit o).fly = s.fly := rfl
@[simp] theorem State.emit_cnv (s : State) (o : Output) : (s.emit o).cnv = s.cnv := rfl
@[simp] theorem State.emit_nrg (s : State) (o : Output) : (s.emit o).nrg = s.nrg := rfl
@[simp] theorem State.emit_box (s : State) (o : Output) : (s.emit o).box = s.box := rfl
@[simp] theorem State.emit_tir (s : State) (o : Output) : (s.emit o).tir = s.tir := rfl
@[simp] theorem State.emit_slac (s : State) (o : Output) : (s.emit o).slac = s.slac := rfl
@[simp] theorem State.emit_sl (s : State) (o : Output) : (s.emit o).sl = s.sl := rfl
@[simp] theorem State.emit_rdr (s : State) (o : Output) : (s.emit o).rdr = s.rdr := rfl
@[simp] theorem State.emit_tag (s : State) (o : Output) : (s.emit o).tag = s.tag := rfl
@[simp] theorem State.emit_crd (s : State) (o : Output) : (s.emit o).crd = s.crd := rfl
@[simp] theorem State.emit_ser (s : State) (o : Output) : (s.emit o).ser = s.ser := rfl
@[simp] theorem State.emit_dsp (s : State) (o : Output) : (s.emit o).dsp = s.dsp := rfl
@[simp] theorem State.emit_wng (s : State) (o : Output) : (s.emit o).wng = s.wng := rfl
@[simp] theorem State.emit_sent (s : State) (o : Output) :
    (s.emit o).sent = if s.drives o then o :: s.sent else s.sent := rfl
@[simp] theorem State.emit_pending (s : State) (o : Output) : (s.emit o).pending = s.pending := rfl
@[simp] theorem State.emit_reg (s : State) (o : Output) (q : Nat) : (s.emit o).reg q = s.reg q := rfl
@[simp] theorem State.emit_present (s : State) (o : Output) (q : Nat) : (s.emit o).present q = s.present q := rfl
@[simp] theorem State.emit_byte (s : State) (o : Output) (q : Nat) : (s.emit o).byte q = s.byte q := rfl

@[simp] theorem State.setDom_now (s : State) (d : Nat) (x : DomState) : (s.setDom d x).now = s.now := rfl
@[simp] theorem State.setDom_mono (s : State) (d : Nat) (x : DomState) : (s.setDom d x).mono = s.mono := rfl
@[simp] theorem State.setDom_freeCtr (s : State) (d : Nat) (x : DomState) : (s.setDom d x).freeCtr = s.freeCtr := rfl
@[simp] theorem State.setDom_regs (s : State) (d : Nat) (x : DomState) : (s.setDom d x).regs = s.regs := rfl
@[simp] theorem State.setDom_mem (s : State) (d : Nat) (x : DomState) : (s.setDom d x).mem = s.mem := rfl
@[simp] theorem State.setDom_cue (s : State) (d : Nat) (x : DomState) : (s.setDom d x).cue = s.cue := rfl
@[simp] theorem State.setDom_fab (s : State) (d : Nat) (x : DomState) : (s.setDom d x).fab = s.fab := rfl
@[simp] theorem State.setDom_clk (s : State) (d : Nat) (x : DomState) : (s.setDom d x).clk = s.clk := rfl
@[simp] theorem State.setDom_cbd (s : State) (d : Nat) (x : DomState) : (s.setDom d x).cbd = s.cbd := rfl
@[simp] theorem State.setDom_mram (s : State) (d : Nat) (x : DomState) : (s.setDom d x).mram = s.mram := rfl
@[simp] theorem State.setDom_jnl (s : State) (d : Nat) (x : DomState) : (s.setDom d x).jnl = s.jnl := rfl
@[simp] theorem State.setDom_iron (s : State) (d : Nat) (x : DomState) : (s.setDom d x).iron = s.iron := rfl
@[simp] theorem State.setDom_saf (s : State) (d : Nat) (x : DomState) : (s.setDom d x).saf = s.saf := rfl
@[simp] theorem State.setDom_veh (s : State) (d : Nat) (x : DomState) : (s.setDom d x).veh = s.veh := rfl
@[simp] theorem State.setDom_fly (s : State) (d : Nat) (x : DomState) : (s.setDom d x).fly = s.fly := rfl
@[simp] theorem State.setDom_cnv (s : State) (d : Nat) (x : DomState) : (s.setDom d x).cnv = s.cnv := rfl
@[simp] theorem State.setDom_nrg (s : State) (d : Nat) (x : DomState) : (s.setDom d x).nrg = s.nrg := rfl
@[simp] theorem State.setDom_box (s : State) (d : Nat) (x : DomState) : (s.setDom d x).box = s.box := rfl
@[simp] theorem State.setDom_tir (s : State) (d : Nat) (x : DomState) : (s.setDom d x).tir = s.tir := rfl
@[simp] theorem State.setDom_slac (s : State) (d : Nat) (x : DomState) : (s.setDom d x).slac = s.slac := rfl
@[simp] theorem State.setDom_sl (s : State) (d : Nat) (x : DomState) : (s.setDom d x).sl = s.sl := rfl
@[simp] theorem State.setDom_rdr (s : State) (d : Nat) (x : DomState) : (s.setDom d x).rdr = s.rdr := rfl
@[simp] theorem State.setDom_tag (s : State) (d : Nat) (x : DomState) : (s.setDom d x).tag = s.tag := rfl
@[simp] theorem State.setDom_crd (s : State) (d : Nat) (x : DomState) : (s.setDom d x).crd = s.crd := rfl
@[simp] theorem State.setDom_ser (s : State) (d : Nat) (x : DomState) : (s.setDom d x).ser = s.ser := rfl
@[simp] theorem State.setDom_dsp (s : State) (d : Nat) (x : DomState) : (s.setDom d x).dsp = s.dsp := rfl
@[simp] theorem State.setDom_wng (s : State) (d : Nat) (x : DomState) : (s.setDom d x).wng = s.wng := rfl
@[simp] theorem State.setDom_sent (s : State) (d : Nat) (x : DomState) : (s.setDom d x).sent = s.sent := rfl
@[simp] theorem State.setDom_pending (s : State) (d : Nat) (x : DomState) : (s.setDom d x).pending = s.pending := rfl
@[simp] theorem State.setDom_reg (s : State) (d : Nat) (x : DomState) (q : Nat) : (s.setDom d x).reg q = s.reg q := rfl
@[simp] theorem State.setDom_byte (s : State) (d : Nat) (x : DomState) (q : Nat) : (s.setDom d x).byte q = s.byte q := rfl

@[simp] theorem State.setIsl_now (s : State) (n : Nat) (c : IslClk) : (s.setIsl n c).now = s.now := rfl
@[simp] theorem State.setIsl_mono (s : State) (n : Nat) (c : IslClk) : (s.setIsl n c).mono = s.mono := rfl
@[simp] theorem State.setIsl_freeCtr (s : State) (n : Nat) (c : IslClk) : (s.setIsl n c).freeCtr = s.freeCtr := rfl
@[simp] theorem State.setIsl_regs (s : State) (n : Nat) (c : IslClk) : (s.setIsl n c).regs = s.regs := rfl
@[simp] theorem State.setIsl_mem (s : State) (n : Nat) (c : IslClk) : (s.setIsl n c).mem = s.mem := rfl
@[simp] theorem State.setIsl_cue (s : State) (n : Nat) (c : IslClk) : (s.setIsl n c).cue = s.cue := rfl
@[simp] theorem State.setIsl_fab (s : State) (n : Nat) (c : IslClk) : (s.setIsl n c).fab = s.fab := rfl
@[simp] theorem State.setIsl_pwr (s : State) (n : Nat) (c : IslClk) : (s.setIsl n c).pwr = s.pwr := rfl
@[simp] theorem State.setIsl_cbd (s : State) (n : Nat) (c : IslClk) : (s.setIsl n c).cbd = s.cbd := rfl
@[simp] theorem State.setIsl_mram (s : State) (n : Nat) (c : IslClk) : (s.setIsl n c).mram = s.mram := rfl
@[simp] theorem State.setIsl_jnl (s : State) (n : Nat) (c : IslClk) : (s.setIsl n c).jnl = s.jnl := rfl
@[simp] theorem State.setIsl_iron (s : State) (n : Nat) (c : IslClk) : (s.setIsl n c).iron = s.iron := rfl
@[simp] theorem State.setIsl_saf (s : State) (n : Nat) (c : IslClk) : (s.setIsl n c).saf = s.saf := rfl
@[simp] theorem State.setIsl_veh (s : State) (n : Nat) (c : IslClk) : (s.setIsl n c).veh = s.veh := rfl
@[simp] theorem State.setIsl_fly (s : State) (n : Nat) (c : IslClk) : (s.setIsl n c).fly = s.fly := rfl
@[simp] theorem State.setIsl_cnv (s : State) (n : Nat) (c : IslClk) : (s.setIsl n c).cnv = s.cnv := rfl
@[simp] theorem State.setIsl_nrg (s : State) (n : Nat) (c : IslClk) : (s.setIsl n c).nrg = s.nrg := rfl
@[simp] theorem State.setIsl_box (s : State) (n : Nat) (c : IslClk) : (s.setIsl n c).box = s.box := rfl
@[simp] theorem State.setIsl_tir (s : State) (n : Nat) (c : IslClk) : (s.setIsl n c).tir = s.tir := rfl
@[simp] theorem State.setIsl_slac (s : State) (n : Nat) (c : IslClk) : (s.setIsl n c).slac = s.slac := rfl
@[simp] theorem State.setIsl_sl (s : State) (n : Nat) (c : IslClk) : (s.setIsl n c).sl = s.sl := rfl
@[simp] theorem State.setIsl_rdr (s : State) (n : Nat) (c : IslClk) : (s.setIsl n c).rdr = s.rdr := rfl
@[simp] theorem State.setIsl_tag (s : State) (n : Nat) (c : IslClk) : (s.setIsl n c).tag = s.tag := rfl
@[simp] theorem State.setIsl_crd (s : State) (n : Nat) (c : IslClk) : (s.setIsl n c).crd = s.crd := rfl
@[simp] theorem State.setIsl_ser (s : State) (n : Nat) (c : IslClk) : (s.setIsl n c).ser = s.ser := rfl
@[simp] theorem State.setIsl_dsp (s : State) (n : Nat) (c : IslClk) : (s.setIsl n c).dsp = s.dsp := rfl
@[simp] theorem State.setIsl_wng (s : State) (n : Nat) (c : IslClk) : (s.setIsl n c).wng = s.wng := rfl
@[simp] theorem State.setIsl_sent (s : State) (n : Nat) (c : IslClk) : (s.setIsl n c).sent = s.sent := rfl
@[simp] theorem State.setIsl_pending (s : State) (n : Nat) (c : IslClk) : (s.setIsl n c).pending = s.pending := rfl
@[simp] theorem State.setIsl_reg (s : State) (n : Nat) (c : IslClk) (q : Nat) : (s.setIsl n c).reg q = s.reg q := rfl
@[simp] theorem State.setIsl_byte (s : State) (n : Nat) (c : IslClk) (q : Nat) : (s.setIsl n c).byte q = s.byte q := rfl

@[simp] theorem State.setSrc_now (s : State) (c v : Nat) : (s.setSrc c v).now = s.now := rfl
@[simp] theorem State.setSrc_mono (s : State) (c v : Nat) : (s.setSrc c v).mono = s.mono := rfl
@[simp] theorem State.setSrc_freeCtr (s : State) (c v : Nat) : (s.setSrc c v).freeCtr = s.freeCtr := rfl
@[simp] theorem State.setSrc_regs (s : State) (c v : Nat) : (s.setSrc c v).regs = s.regs := rfl
@[simp] theorem State.setSrc_mem (s : State) (c v : Nat) : (s.setSrc c v).mem = s.mem := rfl
@[simp] theorem State.setSrc_cue (s : State) (c v : Nat) : (s.setSrc c v).cue = s.cue := rfl
@[simp] theorem State.setSrc_fab (s : State) (c v : Nat) : (s.setSrc c v).fab = s.fab := rfl
@[simp] theorem State.setSrc_pwr (s : State) (c v : Nat) : (s.setSrc c v).pwr = s.pwr := rfl
@[simp] theorem State.setSrc_cbd (s : State) (c v : Nat) : (s.setSrc c v).cbd = s.cbd := rfl
@[simp] theorem State.setSrc_mram (s : State) (c v : Nat) : (s.setSrc c v).mram = s.mram := rfl
@[simp] theorem State.setSrc_jnl (s : State) (c v : Nat) : (s.setSrc c v).jnl = s.jnl := rfl
@[simp] theorem State.setSrc_iron (s : State) (c v : Nat) : (s.setSrc c v).iron = s.iron := rfl
@[simp] theorem State.setSrc_saf (s : State) (c v : Nat) : (s.setSrc c v).saf = s.saf := rfl
@[simp] theorem State.setSrc_veh (s : State) (c v : Nat) : (s.setSrc c v).veh = s.veh := rfl
@[simp] theorem State.setSrc_fly (s : State) (c v : Nat) : (s.setSrc c v).fly = s.fly := rfl
@[simp] theorem State.setSrc_cnv (s : State) (c v : Nat) : (s.setSrc c v).cnv = s.cnv := rfl
@[simp] theorem State.setSrc_nrg (s : State) (c v : Nat) : (s.setSrc c v).nrg = s.nrg := rfl
@[simp] theorem State.setSrc_box (s : State) (c v : Nat) : (s.setSrc c v).box = s.box := rfl
@[simp] theorem State.setSrc_tir (s : State) (c v : Nat) : (s.setSrc c v).tir = s.tir := rfl
@[simp] theorem State.setSrc_slac (s : State) (c v : Nat) : (s.setSrc c v).slac = s.slac := rfl
@[simp] theorem State.setSrc_sl (s : State) (c v : Nat) : (s.setSrc c v).sl = s.sl := rfl
@[simp] theorem State.setSrc_rdr (s : State) (c v : Nat) : (s.setSrc c v).rdr = s.rdr := rfl
@[simp] theorem State.setSrc_tag (s : State) (c v : Nat) : (s.setSrc c v).tag = s.tag := rfl
@[simp] theorem State.setSrc_crd (s : State) (c v : Nat) : (s.setSrc c v).crd = s.crd := rfl
@[simp] theorem State.setSrc_ser (s : State) (c v : Nat) : (s.setSrc c v).ser = s.ser := rfl
@[simp] theorem State.setSrc_dsp (s : State) (c v : Nat) : (s.setSrc c v).dsp = s.dsp := rfl
@[simp] theorem State.setSrc_wng (s : State) (c v : Nat) : (s.setSrc c v).wng = s.wng := rfl
@[simp] theorem State.setSrc_sent (s : State) (c v : Nat) : (s.setSrc c v).sent = s.sent := rfl
@[simp] theorem State.setSrc_pending (s : State) (c v : Nat) : (s.setSrc c v).pending = s.pending := rfl
@[simp] theorem State.setSrc_reg (s : State) (c v : Nat) (q : Nat) : (s.setSrc c v).reg q = s.reg q := rfl
@[simp] theorem State.setSrc_byte (s : State) (c v : Nat) (q : Nat) : (s.setSrc c v).byte q = s.byte q := rfl

@[simp] theorem State.setChan_now (s : State) (n : Nat) (c : Channel) : (s.setChan n c).now = s.now := rfl
@[simp] theorem State.setChan_mono (s : State) (n : Nat) (c : Channel) : (s.setChan n c).mono = s.mono := rfl
@[simp] theorem State.setChan_freeCtr (s : State) (n : Nat) (c : Channel) : (s.setChan n c).freeCtr = s.freeCtr := rfl
@[simp] theorem State.setChan_regs (s : State) (n : Nat) (c : Channel) : (s.setChan n c).regs = s.regs := rfl
@[simp] theorem State.setChan_mem (s : State) (n : Nat) (c : Channel) : (s.setChan n c).mem = s.mem := rfl
@[simp] theorem State.setChan_cue (s : State) (n : Nat) (c : Channel) : (s.setChan n c).cue = s.cue := rfl
@[simp] theorem State.setChan_fab (s : State) (n : Nat) (c : Channel) : (s.setChan n c).fab = s.fab := rfl
@[simp] theorem State.setChan_clk (s : State) (n : Nat) (c : Channel) : (s.setChan n c).clk = s.clk := rfl
@[simp] theorem State.setChan_pwr (s : State) (n : Nat) (c : Channel) : (s.setChan n c).pwr = s.pwr := rfl
@[simp] theorem State.setChan_mram (s : State) (n : Nat) (c : Channel) : (s.setChan n c).mram = s.mram := rfl
@[simp] theorem State.setChan_jnl (s : State) (n : Nat) (c : Channel) : (s.setChan n c).jnl = s.jnl := rfl
@[simp] theorem State.setChan_iron (s : State) (n : Nat) (c : Channel) : (s.setChan n c).iron = s.iron := rfl
@[simp] theorem State.setChan_saf (s : State) (n : Nat) (c : Channel) : (s.setChan n c).saf = s.saf := rfl
@[simp] theorem State.setChan_veh (s : State) (n : Nat) (c : Channel) : (s.setChan n c).veh = s.veh := rfl
@[simp] theorem State.setChan_fly (s : State) (n : Nat) (c : Channel) : (s.setChan n c).fly = s.fly := rfl
@[simp] theorem State.setChan_cnv (s : State) (n : Nat) (c : Channel) : (s.setChan n c).cnv = s.cnv := rfl
@[simp] theorem State.setChan_nrg (s : State) (n : Nat) (c : Channel) : (s.setChan n c).nrg = s.nrg := rfl
@[simp] theorem State.setChan_box (s : State) (n : Nat) (c : Channel) : (s.setChan n c).box = s.box := rfl
@[simp] theorem State.setChan_tir (s : State) (n : Nat) (c : Channel) : (s.setChan n c).tir = s.tir := rfl
@[simp] theorem State.setChan_slac (s : State) (n : Nat) (c : Channel) : (s.setChan n c).slac = s.slac := rfl
@[simp] theorem State.setChan_sl (s : State) (n : Nat) (c : Channel) : (s.setChan n c).sl = s.sl := rfl
@[simp] theorem State.setChan_rdr (s : State) (n : Nat) (c : Channel) : (s.setChan n c).rdr = s.rdr := rfl
@[simp] theorem State.setChan_tag (s : State) (n : Nat) (c : Channel) : (s.setChan n c).tag = s.tag := rfl
@[simp] theorem State.setChan_crd (s : State) (n : Nat) (c : Channel) : (s.setChan n c).crd = s.crd := rfl
@[simp] theorem State.setChan_ser (s : State) (n : Nat) (c : Channel) : (s.setChan n c).ser = s.ser := rfl
@[simp] theorem State.setChan_dsp (s : State) (n : Nat) (c : Channel) : (s.setChan n c).dsp = s.dsp := rfl
@[simp] theorem State.setChan_wng (s : State) (n : Nat) (c : Channel) : (s.setChan n c).wng = s.wng := rfl
@[simp] theorem State.setChan_sent (s : State) (n : Nat) (c : Channel) : (s.setChan n c).sent = s.sent := rfl
@[simp] theorem State.setChan_pending (s : State) (n : Nat) (c : Channel) : (s.setChan n c).pending = s.pending := rfl
@[simp] theorem State.setChan_reg (s : State) (n : Nat) (c : Channel) (q : Nat) : (s.setChan n c).reg q = s.reg q := rfl
@[simp] theorem State.setChan_present (s : State) (n : Nat) (c : Channel) (q : Nat) : (s.setChan n c).present q = s.present q := rfl
@[simp] theorem State.setChan_byte (s : State) (n : Nat) (c : Channel) (q : Nat) : (s.setChan n c).byte q = s.byte q := rfl


@[simp] theorem State.setDsp_now (s : State) (x : DspState) : (s.setDsp x).now = s.now := rfl
@[simp] theorem State.setDsp_mono (s : State) (x : DspState) : (s.setDsp x).mono = s.mono := rfl
@[simp] theorem State.setDsp_freeCtr (s : State) (x : DspState) : (s.setDsp x).freeCtr = s.freeCtr := rfl
@[simp] theorem State.setDsp_regs (s : State) (x : DspState) : (s.setDsp x).regs = s.regs := rfl
@[simp] theorem State.setDsp_mem (s : State) (x : DspState) : (s.setDsp x).mem = s.mem := rfl
@[simp] theorem State.setDsp_cue (s : State) (x : DspState) : (s.setDsp x).cue = s.cue := rfl
@[simp] theorem State.setDsp_fab (s : State) (x : DspState) : (s.setDsp x).fab = s.fab := rfl
@[simp] theorem State.setDsp_clk (s : State) (x : DspState) : (s.setDsp x).clk = s.clk := rfl
@[simp] theorem State.setDsp_pwr (s : State) (x : DspState) : (s.setDsp x).pwr = s.pwr := rfl
@[simp] theorem State.setDsp_cbd (s : State) (x : DspState) : (s.setDsp x).cbd = s.cbd := rfl
@[simp] theorem State.setDsp_mram (s : State) (x : DspState) : (s.setDsp x).mram = s.mram := rfl
@[simp] theorem State.setDsp_jnl (s : State) (x : DspState) : (s.setDsp x).jnl = s.jnl := rfl
@[simp] theorem State.setDsp_iron (s : State) (x : DspState) : (s.setDsp x).iron = s.iron := rfl
@[simp] theorem State.setDsp_saf (s : State) (x : DspState) : (s.setDsp x).saf = s.saf := rfl
@[simp] theorem State.setDsp_veh (s : State) (x : DspState) : (s.setDsp x).veh = s.veh := rfl
@[simp] theorem State.setDsp_fly (s : State) (x : DspState) : (s.setDsp x).fly = s.fly := rfl
@[simp] theorem State.setDsp_cnv (s : State) (x : DspState) : (s.setDsp x).cnv = s.cnv := rfl
@[simp] theorem State.setDsp_nrg (s : State) (x : DspState) : (s.setDsp x).nrg = s.nrg := rfl
@[simp] theorem State.setDsp_box (s : State) (x : DspState) : (s.setDsp x).box = s.box := rfl
@[simp] theorem State.setDsp_tir (s : State) (x : DspState) : (s.setDsp x).tir = s.tir := rfl
@[simp] theorem State.setDsp_slac (s : State) (x : DspState) : (s.setDsp x).slac = s.slac := rfl
@[simp] theorem State.setDsp_sl (s : State) (x : DspState) : (s.setDsp x).sl = s.sl := rfl
@[simp] theorem State.setDsp_rdr (s : State) (x : DspState) : (s.setDsp x).rdr = s.rdr := rfl
@[simp] theorem State.setDsp_tag (s : State) (x : DspState) : (s.setDsp x).tag = s.tag := rfl
@[simp] theorem State.setDsp_crd (s : State) (x : DspState) : (s.setDsp x).crd = s.crd := rfl
@[simp] theorem State.setDsp_ser (s : State) (x : DspState) : (s.setDsp x).ser = s.ser := rfl
@[simp] theorem State.setDsp_dsp (s : State) (x : DspState) : (s.setDsp x).dsp = x := rfl
@[simp] theorem State.setDsp_wng (s : State) (x : DspState) : (s.setDsp x).wng = s.wng := rfl
@[simp] theorem State.setDsp_sent (s : State) (x : DspState) : (s.setDsp x).sent = s.sent := rfl
@[simp] theorem State.setDsp_pending (s : State) (x : DspState) : (s.setDsp x).pending = s.pending := rfl
@[simp] theorem State.setDsp_reg (s : State) (x : DspState) (q : Nat) : (s.setDsp x).reg q = s.reg q := rfl
@[simp] theorem State.setDsp_present (s : State) (x : DspState) (q : Nat) : (s.setDsp x).present q = s.present q := rfl
@[simp] theorem State.setDsp_byte (s : State) (x : DspState) (q : Nat) : (s.setDsp x).byte q = s.byte q := rfl

@[simp] theorem State.setNrg_now (s : State) (x : NrgState) : (s.setNrg x).now = s.now := rfl
@[simp] theorem State.setNrg_mono (s : State) (x : NrgState) : (s.setNrg x).mono = s.mono := rfl
@[simp] theorem State.setNrg_freeCtr (s : State) (x : NrgState) : (s.setNrg x).freeCtr = s.freeCtr := rfl
@[simp] theorem State.setNrg_regs (s : State) (x : NrgState) : (s.setNrg x).regs = s.regs := rfl
@[simp] theorem State.setNrg_mem (s : State) (x : NrgState) : (s.setNrg x).mem = s.mem := rfl
@[simp] theorem State.setNrg_cue (s : State) (x : NrgState) : (s.setNrg x).cue = s.cue := rfl
@[simp] theorem State.setNrg_fab (s : State) (x : NrgState) : (s.setNrg x).fab = s.fab := rfl
@[simp] theorem State.setNrg_clk (s : State) (x : NrgState) : (s.setNrg x).clk = s.clk := rfl
@[simp] theorem State.setNrg_pwr (s : State) (x : NrgState) : (s.setNrg x).pwr = s.pwr := rfl
@[simp] theorem State.setNrg_cbd (s : State) (x : NrgState) : (s.setNrg x).cbd = s.cbd := rfl
@[simp] theorem State.setNrg_mram (s : State) (x : NrgState) : (s.setNrg x).mram = s.mram := rfl
@[simp] theorem State.setNrg_jnl (s : State) (x : NrgState) : (s.setNrg x).jnl = s.jnl := rfl
@[simp] theorem State.setNrg_iron (s : State) (x : NrgState) : (s.setNrg x).iron = s.iron := rfl
@[simp] theorem State.setNrg_saf (s : State) (x : NrgState) : (s.setNrg x).saf = s.saf := rfl
@[simp] theorem State.setNrg_veh (s : State) (x : NrgState) : (s.setNrg x).veh = s.veh := rfl
@[simp] theorem State.setNrg_fly (s : State) (x : NrgState) : (s.setNrg x).fly = s.fly := rfl
@[simp] theorem State.setNrg_cnv (s : State) (x : NrgState) : (s.setNrg x).cnv = s.cnv := rfl
@[simp] theorem State.setNrg_nrg (s : State) (x : NrgState) : (s.setNrg x).nrg = x := rfl
@[simp] theorem State.setNrg_box (s : State) (x : NrgState) : (s.setNrg x).box = s.box := rfl
@[simp] theorem State.setNrg_tir (s : State) (x : NrgState) : (s.setNrg x).tir = s.tir := rfl
@[simp] theorem State.setNrg_slac (s : State) (x : NrgState) : (s.setNrg x).slac = s.slac := rfl
@[simp] theorem State.setNrg_sl (s : State) (x : NrgState) : (s.setNrg x).sl = s.sl := rfl
@[simp] theorem State.setNrg_rdr (s : State) (x : NrgState) : (s.setNrg x).rdr = s.rdr := rfl
@[simp] theorem State.setNrg_tag (s : State) (x : NrgState) : (s.setNrg x).tag = s.tag := rfl
@[simp] theorem State.setNrg_crd (s : State) (x : NrgState) : (s.setNrg x).crd = s.crd := rfl
@[simp] theorem State.setNrg_ser (s : State) (x : NrgState) : (s.setNrg x).ser = s.ser := rfl
@[simp] theorem State.setNrg_dsp (s : State) (x : NrgState) : (s.setNrg x).dsp = s.dsp := rfl
@[simp] theorem State.setNrg_wng (s : State) (x : NrgState) : (s.setNrg x).wng = s.wng := rfl
@[simp] theorem State.setNrg_sent (s : State) (x : NrgState) : (s.setNrg x).sent = s.sent := rfl
@[simp] theorem State.setNrg_pending (s : State) (x : NrgState) : (s.setNrg x).pending = s.pending := rfl
@[simp] theorem State.setNrg_reg (s : State) (x : NrgState) (q : Nat) : (s.setNrg x).reg q = s.reg q := rfl
@[simp] theorem State.setNrg_present (s : State) (x : NrgState) (q : Nat) : (s.setNrg x).present q = s.present q := rfl
@[simp] theorem State.setNrg_byte (s : State) (x : NrgState) (q : Nat) : (s.setNrg x).byte q = s.byte q := rfl

@[simp] theorem State.setSer_now (s : State) (x : SerState) : (s.setSer x).now = s.now := rfl
@[simp] theorem State.setSer_mono (s : State) (x : SerState) : (s.setSer x).mono = s.mono := rfl
@[simp] theorem State.setSer_freeCtr (s : State) (x : SerState) : (s.setSer x).freeCtr = s.freeCtr := rfl
@[simp] theorem State.setSer_regs (s : State) (x : SerState) : (s.setSer x).regs = s.regs := rfl
@[simp] theorem State.setSer_mem (s : State) (x : SerState) : (s.setSer x).mem = s.mem := rfl
@[simp] theorem State.setSer_cue (s : State) (x : SerState) : (s.setSer x).cue = s.cue := rfl
@[simp] theorem State.setSer_fab (s : State) (x : SerState) : (s.setSer x).fab = s.fab := rfl
@[simp] theorem State.setSer_clk (s : State) (x : SerState) : (s.setSer x).clk = s.clk := rfl
@[simp] theorem State.setSer_pwr (s : State) (x : SerState) : (s.setSer x).pwr = s.pwr := rfl
@[simp] theorem State.setSer_cbd (s : State) (x : SerState) : (s.setSer x).cbd = s.cbd := rfl
@[simp] theorem State.setSer_mram (s : State) (x : SerState) : (s.setSer x).mram = s.mram := rfl
@[simp] theorem State.setSer_jnl (s : State) (x : SerState) : (s.setSer x).jnl = s.jnl := rfl
@[simp] theorem State.setSer_iron (s : State) (x : SerState) : (s.setSer x).iron = s.iron := rfl
@[simp] theorem State.setSer_saf (s : State) (x : SerState) : (s.setSer x).saf = s.saf := rfl
@[simp] theorem State.setSer_veh (s : State) (x : SerState) : (s.setSer x).veh = s.veh := rfl
@[simp] theorem State.setSer_fly (s : State) (x : SerState) : (s.setSer x).fly = s.fly := rfl
@[simp] theorem State.setSer_cnv (s : State) (x : SerState) : (s.setSer x).cnv = s.cnv := rfl
@[simp] theorem State.setSer_nrg (s : State) (x : SerState) : (s.setSer x).nrg = s.nrg := rfl
@[simp] theorem State.setSer_box (s : State) (x : SerState) : (s.setSer x).box = s.box := rfl
@[simp] theorem State.setSer_tir (s : State) (x : SerState) : (s.setSer x).tir = s.tir := rfl
@[simp] theorem State.setSer_slac (s : State) (x : SerState) : (s.setSer x).slac = s.slac := rfl
@[simp] theorem State.setSer_sl (s : State) (x : SerState) : (s.setSer x).sl = s.sl := rfl
@[simp] theorem State.setSer_rdr (s : State) (x : SerState) : (s.setSer x).rdr = s.rdr := rfl
@[simp] theorem State.setSer_tag (s : State) (x : SerState) : (s.setSer x).tag = s.tag := rfl
@[simp] theorem State.setSer_crd (s : State) (x : SerState) : (s.setSer x).crd = s.crd := rfl
@[simp] theorem State.setSer_ser (s : State) (x : SerState) : (s.setSer x).ser = x := rfl
@[simp] theorem State.setSer_dsp (s : State) (x : SerState) : (s.setSer x).dsp = s.dsp := rfl
@[simp] theorem State.setSer_wng (s : State) (x : SerState) : (s.setSer x).wng = s.wng := rfl
@[simp] theorem State.setSer_sent (s : State) (x : SerState) : (s.setSer x).sent = s.sent := rfl
@[simp] theorem State.setSer_pending (s : State) (x : SerState) : (s.setSer x).pending = s.pending := rfl
@[simp] theorem State.setSer_reg (s : State) (x : SerState) (q : Nat) : (s.setSer x).reg q = s.reg q := rfl
@[simp] theorem State.setSer_present (s : State) (x : SerState) (q : Nat) : (s.setSer x).present q = s.present q := rfl
@[simp] theorem State.setSer_byte (s : State) (x : SerState) (q : Nat) : (s.setSer x).byte q = s.byte q := rfl

@[simp] theorem State.setUart_now (s : State) (n : Nat) (u : Uart) : (s.setUart n u).now = s.now := rfl
@[simp] theorem State.setUart_mono (s : State) (n : Nat) (u : Uart) : (s.setUart n u).mono = s.mono := rfl
@[simp] theorem State.setUart_freeCtr (s : State) (n : Nat) (u : Uart) : (s.setUart n u).freeCtr = s.freeCtr := rfl
@[simp] theorem State.setUart_regs (s : State) (n : Nat) (u : Uart) : (s.setUart n u).regs = s.regs := rfl
@[simp] theorem State.setUart_mem (s : State) (n : Nat) (u : Uart) : (s.setUart n u).mem = s.mem := rfl
@[simp] theorem State.setUart_cue (s : State) (n : Nat) (u : Uart) : (s.setUart n u).cue = s.cue := rfl
@[simp] theorem State.setUart_fab (s : State) (n : Nat) (u : Uart) : (s.setUart n u).fab = s.fab := rfl
@[simp] theorem State.setUart_clk (s : State) (n : Nat) (u : Uart) : (s.setUart n u).clk = s.clk := rfl
@[simp] theorem State.setUart_pwr (s : State) (n : Nat) (u : Uart) : (s.setUart n u).pwr = s.pwr := rfl
@[simp] theorem State.setUart_cbd (s : State) (n : Nat) (u : Uart) : (s.setUart n u).cbd = s.cbd := rfl
@[simp] theorem State.setUart_mram (s : State) (n : Nat) (u : Uart) : (s.setUart n u).mram = s.mram := rfl
@[simp] theorem State.setUart_jnl (s : State) (n : Nat) (u : Uart) : (s.setUart n u).jnl = s.jnl := rfl
@[simp] theorem State.setUart_iron (s : State) (n : Nat) (u : Uart) : (s.setUart n u).iron = s.iron := rfl
@[simp] theorem State.setUart_saf (s : State) (n : Nat) (u : Uart) : (s.setUart n u).saf = s.saf := rfl
@[simp] theorem State.setUart_veh (s : State) (n : Nat) (u : Uart) : (s.setUart n u).veh = s.veh := rfl
@[simp] theorem State.setUart_fly (s : State) (n : Nat) (u : Uart) : (s.setUart n u).fly = s.fly := rfl
@[simp] theorem State.setUart_cnv (s : State) (n : Nat) (u : Uart) : (s.setUart n u).cnv = s.cnv := rfl
@[simp] theorem State.setUart_nrg (s : State) (n : Nat) (u : Uart) : (s.setUart n u).nrg = s.nrg := rfl
@[simp] theorem State.setUart_box (s : State) (n : Nat) (u : Uart) : (s.setUart n u).box = s.box := rfl
@[simp] theorem State.setUart_tir (s : State) (n : Nat) (u : Uart) : (s.setUart n u).tir = s.tir := rfl
@[simp] theorem State.setUart_slac (s : State) (n : Nat) (u : Uart) : (s.setUart n u).slac = s.slac := rfl
@[simp] theorem State.setUart_sl (s : State) (n : Nat) (u : Uart) : (s.setUart n u).sl = s.sl := rfl
@[simp] theorem State.setUart_rdr (s : State) (n : Nat) (u : Uart) : (s.setUart n u).rdr = s.rdr := rfl
@[simp] theorem State.setUart_tag (s : State) (n : Nat) (u : Uart) : (s.setUart n u).tag = s.tag := rfl
@[simp] theorem State.setUart_crd (s : State) (n : Nat) (u : Uart) : (s.setUart n u).crd = s.crd := rfl
@[simp] theorem State.setUart_dsp (s : State) (n : Nat) (u : Uart) : (s.setUart n u).dsp = s.dsp := rfl
@[simp] theorem State.setUart_wng (s : State) (n : Nat) (u : Uart) : (s.setUart n u).wng = s.wng := rfl
@[simp] theorem State.setUart_sent (s : State) (n : Nat) (u : Uart) : (s.setUart n u).sent = s.sent := rfl
@[simp] theorem State.setUart_pending (s : State) (n : Nat) (u : Uart) : (s.setUart n u).pending = s.pending := rfl
@[simp] theorem State.setUart_reg (s : State) (n : Nat) (u : Uart) (q : Nat) : (s.setUart n u).reg q = s.reg q := rfl
@[simp] theorem State.setUart_present (s : State) (n : Nat) (u : Uart) (q : Nat) : (s.setUart n u).present q = s.present q := rfl
@[simp] theorem State.setUart_byte (s : State) (n : Nat) (u : Uart) (q : Nat) : (s.setUart n u).byte q = s.byte q := rfl

@[simp] theorem State.setSl_now (s : State) (x : SlState) : (s.setSl x).now = s.now := rfl
@[simp] theorem State.setSl_mono (s : State) (x : SlState) : (s.setSl x).mono = s.mono := rfl
@[simp] theorem State.setSl_freeCtr (s : State) (x : SlState) : (s.setSl x).freeCtr = s.freeCtr := rfl
@[simp] theorem State.setSl_regs (s : State) (x : SlState) : (s.setSl x).regs = s.regs := rfl
@[simp] theorem State.setSl_mem (s : State) (x : SlState) : (s.setSl x).mem = s.mem := rfl
@[simp] theorem State.setSl_cue (s : State) (x : SlState) : (s.setSl x).cue = s.cue := rfl
@[simp] theorem State.setSl_fab (s : State) (x : SlState) : (s.setSl x).fab = s.fab := rfl
@[simp] theorem State.setSl_clk (s : State) (x : SlState) : (s.setSl x).clk = s.clk := rfl
@[simp] theorem State.setSl_pwr (s : State) (x : SlState) : (s.setSl x).pwr = s.pwr := rfl
@[simp] theorem State.setSl_cbd (s : State) (x : SlState) : (s.setSl x).cbd = s.cbd := rfl
@[simp] theorem State.setSl_mram (s : State) (x : SlState) : (s.setSl x).mram = s.mram := rfl
@[simp] theorem State.setSl_jnl (s : State) (x : SlState) : (s.setSl x).jnl = s.jnl := rfl
@[simp] theorem State.setSl_iron (s : State) (x : SlState) : (s.setSl x).iron = s.iron := rfl
@[simp] theorem State.setSl_saf (s : State) (x : SlState) : (s.setSl x).saf = s.saf := rfl
@[simp] theorem State.setSl_veh (s : State) (x : SlState) : (s.setSl x).veh = s.veh := rfl
@[simp] theorem State.setSl_fly (s : State) (x : SlState) : (s.setSl x).fly = s.fly := rfl
@[simp] theorem State.setSl_cnv (s : State) (x : SlState) : (s.setSl x).cnv = s.cnv := rfl
@[simp] theorem State.setSl_nrg (s : State) (x : SlState) : (s.setSl x).nrg = s.nrg := rfl
@[simp] theorem State.setSl_box (s : State) (x : SlState) : (s.setSl x).box = s.box := rfl
@[simp] theorem State.setSl_tir (s : State) (x : SlState) : (s.setSl x).tir = s.tir := rfl
@[simp] theorem State.setSl_slac (s : State) (x : SlState) : (s.setSl x).slac = s.slac := rfl
@[simp] theorem State.setSl_sl (s : State) (x : SlState) : (s.setSl x).sl = x := rfl
@[simp] theorem State.setSl_rdr (s : State) (x : SlState) : (s.setSl x).rdr = s.rdr := rfl
@[simp] theorem State.setSl_tag (s : State) (x : SlState) : (s.setSl x).tag = s.tag := rfl
@[simp] theorem State.setSl_crd (s : State) (x : SlState) : (s.setSl x).crd = s.crd := rfl
@[simp] theorem State.setSl_ser (s : State) (x : SlState) : (s.setSl x).ser = s.ser := rfl
@[simp] theorem State.setSl_dsp (s : State) (x : SlState) : (s.setSl x).dsp = s.dsp := rfl
@[simp] theorem State.setSl_wng (s : State) (x : SlState) : (s.setSl x).wng = s.wng := rfl
@[simp] theorem State.setSl_sent (s : State) (x : SlState) : (s.setSl x).sent = s.sent := rfl
@[simp] theorem State.setSl_pending (s : State) (x : SlState) : (s.setSl x).pending = s.pending := rfl
@[simp] theorem State.setSl_reg (s : State) (x : SlState) (q : Nat) : (s.setSl x).reg q = s.reg q := rfl
@[simp] theorem State.setSl_present (s : State) (x : SlState) (q : Nat) : (s.setSl x).present q = s.present q := rfl
@[simp] theorem State.setSl_byte (s : State) (x : SlState) (q : Nat) : (s.setSl x).byte q = s.byte q := rfl

@[simp] theorem State.setRdr_now (s : State) (x : RdrState) : (s.setRdr x).now = s.now := rfl
@[simp] theorem State.setRdr_mono (s : State) (x : RdrState) : (s.setRdr x).mono = s.mono := rfl
@[simp] theorem State.setRdr_freeCtr (s : State) (x : RdrState) : (s.setRdr x).freeCtr = s.freeCtr := rfl
@[simp] theorem State.setRdr_regs (s : State) (x : RdrState) : (s.setRdr x).regs = s.regs := rfl
@[simp] theorem State.setRdr_mem (s : State) (x : RdrState) : (s.setRdr x).mem = s.mem := rfl
@[simp] theorem State.setRdr_cue (s : State) (x : RdrState) : (s.setRdr x).cue = s.cue := rfl
@[simp] theorem State.setRdr_fab (s : State) (x : RdrState) : (s.setRdr x).fab = s.fab := rfl
@[simp] theorem State.setRdr_clk (s : State) (x : RdrState) : (s.setRdr x).clk = s.clk := rfl
@[simp] theorem State.setRdr_pwr (s : State) (x : RdrState) : (s.setRdr x).pwr = s.pwr := rfl
@[simp] theorem State.setRdr_cbd (s : State) (x : RdrState) : (s.setRdr x).cbd = s.cbd := rfl
@[simp] theorem State.setRdr_mram (s : State) (x : RdrState) : (s.setRdr x).mram = s.mram := rfl
@[simp] theorem State.setRdr_jnl (s : State) (x : RdrState) : (s.setRdr x).jnl = s.jnl := rfl
@[simp] theorem State.setRdr_iron (s : State) (x : RdrState) : (s.setRdr x).iron = s.iron := rfl
@[simp] theorem State.setRdr_saf (s : State) (x : RdrState) : (s.setRdr x).saf = s.saf := rfl
@[simp] theorem State.setRdr_veh (s : State) (x : RdrState) : (s.setRdr x).veh = s.veh := rfl
@[simp] theorem State.setRdr_fly (s : State) (x : RdrState) : (s.setRdr x).fly = s.fly := rfl
@[simp] theorem State.setRdr_cnv (s : State) (x : RdrState) : (s.setRdr x).cnv = s.cnv := rfl
@[simp] theorem State.setRdr_nrg (s : State) (x : RdrState) : (s.setRdr x).nrg = s.nrg := rfl
@[simp] theorem State.setRdr_box (s : State) (x : RdrState) : (s.setRdr x).box = s.box := rfl
@[simp] theorem State.setRdr_tir (s : State) (x : RdrState) : (s.setRdr x).tir = s.tir := rfl
@[simp] theorem State.setRdr_slac (s : State) (x : RdrState) : (s.setRdr x).slac = s.slac := rfl
@[simp] theorem State.setRdr_sl (s : State) (x : RdrState) : (s.setRdr x).sl = s.sl := rfl
@[simp] theorem State.setRdr_rdr (s : State) (x : RdrState) : (s.setRdr x).rdr = x := rfl
@[simp] theorem State.setRdr_tag (s : State) (x : RdrState) : (s.setRdr x).tag = s.tag := rfl
@[simp] theorem State.setRdr_crd (s : State) (x : RdrState) : (s.setRdr x).crd = s.crd := rfl
@[simp] theorem State.setRdr_ser (s : State) (x : RdrState) : (s.setRdr x).ser = s.ser := rfl
@[simp] theorem State.setRdr_dsp (s : State) (x : RdrState) : (s.setRdr x).dsp = s.dsp := rfl
@[simp] theorem State.setRdr_wng (s : State) (x : RdrState) : (s.setRdr x).wng = s.wng := rfl
@[simp] theorem State.setRdr_sent (s : State) (x : RdrState) : (s.setRdr x).sent = s.sent := rfl
@[simp] theorem State.setRdr_pending (s : State) (x : RdrState) : (s.setRdr x).pending = s.pending := rfl
@[simp] theorem State.setRdr_reg (s : State) (x : RdrState) (q : Nat) : (s.setRdr x).reg q = s.reg q := rfl
@[simp] theorem State.setRdr_present (s : State) (x : RdrState) (q : Nat) : (s.setRdr x).present q = s.present q := rfl
@[simp] theorem State.setRdr_byte (s : State) (x : RdrState) (q : Nat) : (s.setRdr x).byte q = s.byte q := rfl

@[simp] theorem State.setTag_now (s : State) (x : TagState) : (s.setTag x).now = s.now := rfl
@[simp] theorem State.setTag_mono (s : State) (x : TagState) : (s.setTag x).mono = s.mono := rfl
@[simp] theorem State.setTag_freeCtr (s : State) (x : TagState) : (s.setTag x).freeCtr = s.freeCtr := rfl
@[simp] theorem State.setTag_regs (s : State) (x : TagState) : (s.setTag x).regs = s.regs := rfl
@[simp] theorem State.setTag_mem (s : State) (x : TagState) : (s.setTag x).mem = s.mem := rfl
@[simp] theorem State.setTag_cue (s : State) (x : TagState) : (s.setTag x).cue = s.cue := rfl
@[simp] theorem State.setTag_fab (s : State) (x : TagState) : (s.setTag x).fab = s.fab := rfl
@[simp] theorem State.setTag_clk (s : State) (x : TagState) : (s.setTag x).clk = s.clk := rfl
@[simp] theorem State.setTag_pwr (s : State) (x : TagState) : (s.setTag x).pwr = s.pwr := rfl
@[simp] theorem State.setTag_cbd (s : State) (x : TagState) : (s.setTag x).cbd = s.cbd := rfl
@[simp] theorem State.setTag_mram (s : State) (x : TagState) : (s.setTag x).mram = s.mram := rfl
@[simp] theorem State.setTag_jnl (s : State) (x : TagState) : (s.setTag x).jnl = s.jnl := rfl
@[simp] theorem State.setTag_iron (s : State) (x : TagState) : (s.setTag x).iron = s.iron := rfl
@[simp] theorem State.setTag_saf (s : State) (x : TagState) : (s.setTag x).saf = s.saf := rfl
@[simp] theorem State.setTag_veh (s : State) (x : TagState) : (s.setTag x).veh = s.veh := rfl
@[simp] theorem State.setTag_fly (s : State) (x : TagState) : (s.setTag x).fly = s.fly := rfl
@[simp] theorem State.setTag_cnv (s : State) (x : TagState) : (s.setTag x).cnv = s.cnv := rfl
@[simp] theorem State.setTag_nrg (s : State) (x : TagState) : (s.setTag x).nrg = s.nrg := rfl
@[simp] theorem State.setTag_box (s : State) (x : TagState) : (s.setTag x).box = s.box := rfl
@[simp] theorem State.setTag_tir (s : State) (x : TagState) : (s.setTag x).tir = s.tir := rfl
@[simp] theorem State.setTag_slac (s : State) (x : TagState) : (s.setTag x).slac = s.slac := rfl
@[simp] theorem State.setTag_sl (s : State) (x : TagState) : (s.setTag x).sl = s.sl := rfl
@[simp] theorem State.setTag_rdr (s : State) (x : TagState) : (s.setTag x).rdr = s.rdr := rfl
@[simp] theorem State.setTag_tag (s : State) (x : TagState) : (s.setTag x).tag = x := rfl
@[simp] theorem State.setTag_crd (s : State) (x : TagState) : (s.setTag x).crd = s.crd := rfl
@[simp] theorem State.setTag_ser (s : State) (x : TagState) : (s.setTag x).ser = s.ser := rfl
@[simp] theorem State.setTag_dsp (s : State) (x : TagState) : (s.setTag x).dsp = s.dsp := rfl
@[simp] theorem State.setTag_wng (s : State) (x : TagState) : (s.setTag x).wng = s.wng := rfl
@[simp] theorem State.setTag_sent (s : State) (x : TagState) : (s.setTag x).sent = s.sent := rfl
@[simp] theorem State.setTag_pending (s : State) (x : TagState) : (s.setTag x).pending = s.pending := rfl
@[simp] theorem State.setTag_reg (s : State) (x : TagState) (q : Nat) : (s.setTag x).reg q = s.reg q := rfl
@[simp] theorem State.setTag_present (s : State) (x : TagState) (q : Nat) : (s.setTag x).present q = s.present q := rfl
@[simp] theorem State.setTag_byte (s : State) (x : TagState) (q : Nat) : (s.setTag x).byte q = s.byte q := rfl

@[simp] theorem State.setSlot_now (s : State) (n : Nat) (x : CardSlot) : (s.setSlot n x).now = s.now := rfl
@[simp] theorem State.setSlot_mono (s : State) (n : Nat) (x : CardSlot) : (s.setSlot n x).mono = s.mono := rfl
@[simp] theorem State.setSlot_freeCtr (s : State) (n : Nat) (x : CardSlot) : (s.setSlot n x).freeCtr = s.freeCtr := rfl
@[simp] theorem State.setSlot_regs (s : State) (n : Nat) (x : CardSlot) : (s.setSlot n x).regs = s.regs := rfl
@[simp] theorem State.setSlot_mem (s : State) (n : Nat) (x : CardSlot) : (s.setSlot n x).mem = s.mem := rfl
@[simp] theorem State.setSlot_cue (s : State) (n : Nat) (x : CardSlot) : (s.setSlot n x).cue = s.cue := rfl
@[simp] theorem State.setSlot_fab (s : State) (n : Nat) (x : CardSlot) : (s.setSlot n x).fab = s.fab := rfl
@[simp] theorem State.setSlot_clk (s : State) (n : Nat) (x : CardSlot) : (s.setSlot n x).clk = s.clk := rfl
@[simp] theorem State.setSlot_pwr (s : State) (n : Nat) (x : CardSlot) : (s.setSlot n x).pwr = s.pwr := rfl
@[simp] theorem State.setSlot_cbd (s : State) (n : Nat) (x : CardSlot) : (s.setSlot n x).cbd = s.cbd := rfl
@[simp] theorem State.setSlot_mram (s : State) (n : Nat) (x : CardSlot) : (s.setSlot n x).mram = s.mram := rfl
@[simp] theorem State.setSlot_jnl (s : State) (n : Nat) (x : CardSlot) : (s.setSlot n x).jnl = s.jnl := rfl
@[simp] theorem State.setSlot_iron (s : State) (n : Nat) (x : CardSlot) : (s.setSlot n x).iron = s.iron := rfl
@[simp] theorem State.setSlot_saf (s : State) (n : Nat) (x : CardSlot) : (s.setSlot n x).saf = s.saf := rfl
@[simp] theorem State.setSlot_veh (s : State) (n : Nat) (x : CardSlot) : (s.setSlot n x).veh = s.veh := rfl
@[simp] theorem State.setSlot_fly (s : State) (n : Nat) (x : CardSlot) : (s.setSlot n x).fly = s.fly := rfl
@[simp] theorem State.setSlot_cnv (s : State) (n : Nat) (x : CardSlot) : (s.setSlot n x).cnv = s.cnv := rfl
@[simp] theorem State.setSlot_nrg (s : State) (n : Nat) (x : CardSlot) : (s.setSlot n x).nrg = s.nrg := rfl
@[simp] theorem State.setSlot_box (s : State) (n : Nat) (x : CardSlot) : (s.setSlot n x).box = s.box := rfl
@[simp] theorem State.setSlot_tir (s : State) (n : Nat) (x : CardSlot) : (s.setSlot n x).tir = s.tir := rfl
@[simp] theorem State.setSlot_slac (s : State) (n : Nat) (x : CardSlot) : (s.setSlot n x).slac = s.slac := rfl
@[simp] theorem State.setSlot_sl (s : State) (n : Nat) (x : CardSlot) : (s.setSlot n x).sl = s.sl := rfl
@[simp] theorem State.setSlot_rdr (s : State) (n : Nat) (x : CardSlot) : (s.setSlot n x).rdr = s.rdr := rfl
@[simp] theorem State.setSlot_tag (s : State) (n : Nat) (x : CardSlot) : (s.setSlot n x).tag = s.tag := rfl
@[simp] theorem State.setSlot_ser (s : State) (n : Nat) (x : CardSlot) : (s.setSlot n x).ser = s.ser := rfl
@[simp] theorem State.setSlot_dsp (s : State) (n : Nat) (x : CardSlot) : (s.setSlot n x).dsp = s.dsp := rfl
@[simp] theorem State.setSlot_wng (s : State) (n : Nat) (x : CardSlot) : (s.setSlot n x).wng = s.wng := rfl
@[simp] theorem State.setSlot_sent (s : State) (n : Nat) (x : CardSlot) : (s.setSlot n x).sent = s.sent := rfl
@[simp] theorem State.setSlot_pending (s : State) (n : Nat) (x : CardSlot) : (s.setSlot n x).pending = s.pending := rfl
@[simp] theorem State.setSlot_reg (s : State) (n : Nat) (x : CardSlot) (q : Nat) : (s.setSlot n x).reg q = s.reg q := rfl
@[simp] theorem State.setSlot_present (s : State) (n : Nat) (x : CardSlot) (q : Nat) : (s.setSlot n x).present q = s.present q := rfl
@[simp] theorem State.setSlot_byte (s : State) (n : Nat) (x : CardSlot) (q : Nat) : (s.setSlot n x).byte q = s.byte q := rfl

@[simp] theorem State.setTir_now (s : State) (x : TirState) : (s.setTir x).now = s.now := rfl
@[simp] theorem State.setTir_mono (s : State) (x : TirState) : (s.setTir x).mono = s.mono := rfl
@[simp] theorem State.setTir_freeCtr (s : State) (x : TirState) : (s.setTir x).freeCtr = s.freeCtr := rfl
@[simp] theorem State.setTir_regs (s : State) (x : TirState) : (s.setTir x).regs = s.regs := rfl
@[simp] theorem State.setTir_mem (s : State) (x : TirState) : (s.setTir x).mem = s.mem := rfl
@[simp] theorem State.setTir_cue (s : State) (x : TirState) : (s.setTir x).cue = s.cue := rfl
@[simp] theorem State.setTir_fab (s : State) (x : TirState) : (s.setTir x).fab = s.fab := rfl
@[simp] theorem State.setTir_clk (s : State) (x : TirState) : (s.setTir x).clk = s.clk := rfl
@[simp] theorem State.setTir_pwr (s : State) (x : TirState) : (s.setTir x).pwr = s.pwr := rfl
@[simp] theorem State.setTir_cbd (s : State) (x : TirState) : (s.setTir x).cbd = s.cbd := rfl
@[simp] theorem State.setTir_mram (s : State) (x : TirState) : (s.setTir x).mram = s.mram := rfl
@[simp] theorem State.setTir_jnl (s : State) (x : TirState) : (s.setTir x).jnl = s.jnl := rfl
@[simp] theorem State.setTir_iron (s : State) (x : TirState) : (s.setTir x).iron = s.iron := rfl
@[simp] theorem State.setTir_saf (s : State) (x : TirState) : (s.setTir x).saf = s.saf := rfl
@[simp] theorem State.setTir_veh (s : State) (x : TirState) : (s.setTir x).veh = s.veh := rfl
@[simp] theorem State.setTir_fly (s : State) (x : TirState) : (s.setTir x).fly = s.fly := rfl
@[simp] theorem State.setTir_cnv (s : State) (x : TirState) : (s.setTir x).cnv = s.cnv := rfl
@[simp] theorem State.setTir_nrg (s : State) (x : TirState) : (s.setTir x).nrg = s.nrg := rfl
@[simp] theorem State.setTir_box (s : State) (x : TirState) : (s.setTir x).box = s.box := rfl
@[simp] theorem State.setTir_tir (s : State) (x : TirState) : (s.setTir x).tir = x := rfl
@[simp] theorem State.setTir_slac (s : State) (x : TirState) : (s.setTir x).slac = s.slac := rfl
@[simp] theorem State.setTir_sl (s : State) (x : TirState) : (s.setTir x).sl = s.sl := rfl
@[simp] theorem State.setTir_rdr (s : State) (x : TirState) : (s.setTir x).rdr = s.rdr := rfl
@[simp] theorem State.setTir_tag (s : State) (x : TirState) : (s.setTir x).tag = s.tag := rfl
@[simp] theorem State.setTir_crd (s : State) (x : TirState) : (s.setTir x).crd = s.crd := rfl
@[simp] theorem State.setTir_ser (s : State) (x : TirState) : (s.setTir x).ser = s.ser := rfl
@[simp] theorem State.setTir_dsp (s : State) (x : TirState) : (s.setTir x).dsp = s.dsp := rfl
@[simp] theorem State.setTir_wng (s : State) (x : TirState) : (s.setTir x).wng = s.wng := rfl
@[simp] theorem State.setTir_sent (s : State) (x : TirState) : (s.setTir x).sent = s.sent := rfl
@[simp] theorem State.setTir_pending (s : State) (x : TirState) : (s.setTir x).pending = s.pending := rfl
@[simp] theorem State.setTir_reg (s : State) (x : TirState) (q : Nat) : (s.setTir x).reg q = s.reg q := rfl
@[simp] theorem State.setTir_present (s : State) (x : TirState) (q : Nat) : (s.setTir x).present q = s.present q := rfl
@[simp] theorem State.setTir_byte (s : State) (x : TirState) (q : Nat) : (s.setTir x).byte q = s.byte q := rfl

@[simp] theorem State.setSlac_now (s : State) (x : SlacState) : (s.setSlac x).now = s.now := rfl
@[simp] theorem State.setSlac_mono (s : State) (x : SlacState) : (s.setSlac x).mono = s.mono := rfl
@[simp] theorem State.setSlac_freeCtr (s : State) (x : SlacState) : (s.setSlac x).freeCtr = s.freeCtr := rfl
@[simp] theorem State.setSlac_regs (s : State) (x : SlacState) : (s.setSlac x).regs = s.regs := rfl
@[simp] theorem State.setSlac_mem (s : State) (x : SlacState) : (s.setSlac x).mem = s.mem := rfl
@[simp] theorem State.setSlac_cue (s : State) (x : SlacState) : (s.setSlac x).cue = s.cue := rfl
@[simp] theorem State.setSlac_fab (s : State) (x : SlacState) : (s.setSlac x).fab = s.fab := rfl
@[simp] theorem State.setSlac_clk (s : State) (x : SlacState) : (s.setSlac x).clk = s.clk := rfl
@[simp] theorem State.setSlac_pwr (s : State) (x : SlacState) : (s.setSlac x).pwr = s.pwr := rfl
@[simp] theorem State.setSlac_cbd (s : State) (x : SlacState) : (s.setSlac x).cbd = s.cbd := rfl
@[simp] theorem State.setSlac_mram (s : State) (x : SlacState) : (s.setSlac x).mram = s.mram := rfl
@[simp] theorem State.setSlac_jnl (s : State) (x : SlacState) : (s.setSlac x).jnl = s.jnl := rfl
@[simp] theorem State.setSlac_iron (s : State) (x : SlacState) : (s.setSlac x).iron = s.iron := rfl
@[simp] theorem State.setSlac_saf (s : State) (x : SlacState) : (s.setSlac x).saf = s.saf := rfl
@[simp] theorem State.setSlac_veh (s : State) (x : SlacState) : (s.setSlac x).veh = s.veh := rfl
@[simp] theorem State.setSlac_fly (s : State) (x : SlacState) : (s.setSlac x).fly = s.fly := rfl
@[simp] theorem State.setSlac_cnv (s : State) (x : SlacState) : (s.setSlac x).cnv = s.cnv := rfl
@[simp] theorem State.setSlac_nrg (s : State) (x : SlacState) : (s.setSlac x).nrg = s.nrg := rfl
@[simp] theorem State.setSlac_box (s : State) (x : SlacState) : (s.setSlac x).box = s.box := rfl
@[simp] theorem State.setSlac_tir (s : State) (x : SlacState) : (s.setSlac x).tir = s.tir := rfl
@[simp] theorem State.setSlac_slac (s : State) (x : SlacState) : (s.setSlac x).slac = x := rfl
@[simp] theorem State.setSlac_sl (s : State) (x : SlacState) : (s.setSlac x).sl = s.sl := rfl
@[simp] theorem State.setSlac_rdr (s : State) (x : SlacState) : (s.setSlac x).rdr = s.rdr := rfl
@[simp] theorem State.setSlac_tag (s : State) (x : SlacState) : (s.setSlac x).tag = s.tag := rfl
@[simp] theorem State.setSlac_crd (s : State) (x : SlacState) : (s.setSlac x).crd = s.crd := rfl
@[simp] theorem State.setSlac_ser (s : State) (x : SlacState) : (s.setSlac x).ser = s.ser := rfl
@[simp] theorem State.setSlac_dsp (s : State) (x : SlacState) : (s.setSlac x).dsp = s.dsp := rfl
@[simp] theorem State.setSlac_wng (s : State) (x : SlacState) : (s.setSlac x).wng = s.wng := rfl
@[simp] theorem State.setSlac_sent (s : State) (x : SlacState) : (s.setSlac x).sent = s.sent := rfl
@[simp] theorem State.setSlac_pending (s : State) (x : SlacState) : (s.setSlac x).pending = s.pending := rfl
@[simp] theorem State.setSlac_reg (s : State) (x : SlacState) (q : Nat) : (s.setSlac x).reg q = s.reg q := rfl
@[simp] theorem State.setSlac_present (s : State) (x : SlacState) (q : Nat) : (s.setSlac x).present q = s.present q := rfl
@[simp] theorem State.setSlac_byte (s : State) (x : SlacState) (q : Nat) : (s.setSlac x).byte q = s.byte q := rfl

@[simp] theorem State.setVeh_now (s : State) (x : VehState) : (s.setVeh x).now = s.now := rfl
@[simp] theorem State.setVeh_mono (s : State) (x : VehState) : (s.setVeh x).mono = s.mono := rfl
@[simp] theorem State.setVeh_freeCtr (s : State) (x : VehState) : (s.setVeh x).freeCtr = s.freeCtr := rfl
@[simp] theorem State.setVeh_regs (s : State) (x : VehState) : (s.setVeh x).regs = s.regs := rfl
@[simp] theorem State.setVeh_mem (s : State) (x : VehState) : (s.setVeh x).mem = s.mem := rfl
@[simp] theorem State.setVeh_cue (s : State) (x : VehState) : (s.setVeh x).cue = s.cue := rfl
@[simp] theorem State.setVeh_fab (s : State) (x : VehState) : (s.setVeh x).fab = s.fab := rfl
@[simp] theorem State.setVeh_clk (s : State) (x : VehState) : (s.setVeh x).clk = s.clk := rfl
@[simp] theorem State.setVeh_pwr (s : State) (x : VehState) : (s.setVeh x).pwr = s.pwr := rfl
@[simp] theorem State.setVeh_cbd (s : State) (x : VehState) : (s.setVeh x).cbd = s.cbd := rfl
@[simp] theorem State.setVeh_mram (s : State) (x : VehState) : (s.setVeh x).mram = s.mram := rfl
@[simp] theorem State.setVeh_jnl (s : State) (x : VehState) : (s.setVeh x).jnl = s.jnl := rfl
@[simp] theorem State.setVeh_iron (s : State) (x : VehState) : (s.setVeh x).iron = s.iron := rfl
@[simp] theorem State.setVeh_saf (s : State) (x : VehState) : (s.setVeh x).saf = s.saf := rfl
@[simp] theorem State.setVeh_veh (s : State) (x : VehState) : (s.setVeh x).veh = x := rfl
@[simp] theorem State.setVeh_fly (s : State) (x : VehState) : (s.setVeh x).fly = s.fly := rfl
@[simp] theorem State.setVeh_cnv (s : State) (x : VehState) : (s.setVeh x).cnv = s.cnv := rfl
@[simp] theorem State.setVeh_nrg (s : State) (x : VehState) : (s.setVeh x).nrg = s.nrg := rfl
@[simp] theorem State.setVeh_box (s : State) (x : VehState) : (s.setVeh x).box = s.box := rfl
@[simp] theorem State.setVeh_tir (s : State) (x : VehState) : (s.setVeh x).tir = s.tir := rfl
@[simp] theorem State.setVeh_slac (s : State) (x : VehState) : (s.setVeh x).slac = s.slac := rfl
@[simp] theorem State.setVeh_sl (s : State) (x : VehState) : (s.setVeh x).sl = s.sl := rfl
@[simp] theorem State.setVeh_rdr (s : State) (x : VehState) : (s.setVeh x).rdr = s.rdr := rfl
@[simp] theorem State.setVeh_tag (s : State) (x : VehState) : (s.setVeh x).tag = s.tag := rfl
@[simp] theorem State.setVeh_crd (s : State) (x : VehState) : (s.setVeh x).crd = s.crd := rfl
@[simp] theorem State.setVeh_ser (s : State) (x : VehState) : (s.setVeh x).ser = s.ser := rfl
@[simp] theorem State.setVeh_dsp (s : State) (x : VehState) : (s.setVeh x).dsp = s.dsp := rfl
@[simp] theorem State.setVeh_wng (s : State) (x : VehState) : (s.setVeh x).wng = s.wng := rfl
@[simp] theorem State.setVeh_sent (s : State) (x : VehState) : (s.setVeh x).sent = s.sent := rfl
@[simp] theorem State.setVeh_pending (s : State) (x : VehState) : (s.setVeh x).pending = s.pending := rfl
@[simp] theorem State.setVeh_reg (s : State) (x : VehState) (q : Nat) : (s.setVeh x).reg q = s.reg q := rfl
@[simp] theorem State.setVeh_present (s : State) (x : VehState) (q : Nat) : (s.setVeh x).present q = s.present q := rfl
@[simp] theorem State.setVeh_byte (s : State) (x : VehState) (q : Nat) : (s.setVeh x).byte q = s.byte q := rfl

/-! ### Registers: a read after a write (R14) -/

theorem Regs.get?_insert_self (r : Regs) (p v : Nat) : Regs.get? (Regs.insert r p v) p = some v := by
  induction r with
  | nil => simp [Regs.insert, Regs.get?]
  | cons c t ih =>
    obtain ⟨k, w⟩ := c
    unfold Regs.insert
    split
    · simp [Regs.get?]
    · split
      · simp [Regs.get?]
      · simp [Regs.get?, *]

theorem Regs.get?_insert_ne (r : Regs) {p q : Nat} (v : Nat) (h : q ≠ p) :
    Regs.get? (Regs.insert r p v) q = Regs.get? r q := by
  have h' : ¬ p = q := fun e => h e.symm
  induction r with
  | nil => simp [Regs.insert, Regs.get?, h']
  | cons c t ih =>
    obtain ⟨k, w⟩ := c
    unfold Regs.insert
    split
    · simp [Regs.get?, h']
    · split
      · rename_i _ hk; subst hk; simp [Regs.get?, h']
      · simp [Regs.get?, ih]

theorem Regs.get?_erase_self (r : Regs) (p : Nat) : Regs.get? (Regs.erase r p) p = none := by
  induction r with
  | nil => rfl
  | cons c t ih =>
    obtain ⟨k, w⟩ := c
    simp only [Regs.erase, List.filter_cons] at *
    split
    · rename_i hk; simp at hk; simp [Regs.get?, hk, ih]
    · exact ih

theorem Regs.get?_erase_ne (r : Regs) {p q : Nat} (h : q ≠ p) : Regs.get? (Regs.erase r p) q = Regs.get? r q := by
  have h' : ¬ p = q := fun e => h e.symm
  induction r with
  | nil => rfl
  | cons c t ih =>
    obtain ⟨k, w⟩ := c
    simp only [Regs.erase, List.filter_cons] at *
    split
    · simp [Regs.get?, ih]
    · rename_i hk; simp at hk; subst hk; simp [Regs.get?, h', ih]

theorem Regs.get?_put_ne (r : Regs) {p q : Nat} (v : Nat) (h : q ≠ p) : Regs.get? (Regs.put r p v) q = Regs.get? r q := by
  unfold Regs.put
  split
  · exact Regs.get?_erase_ne r h
  · exact Regs.get?_insert_ne r v h

theorem State.reg_setReg (s : State) (p v : Nat) : (s.setReg p v).reg p = v % 2 ^ (8 * sizeOf' p) := by
  unfold State.setReg State.reg Regs.put
  split
  · rename_i h; simp [Regs.get?_erase_self, h]
  · simp [Regs.get?_insert_self]

theorem State.reg_setReg_ne (s : State) {p q : Nat} (v : Nat) (h : q ≠ p) : (s.setReg p v).reg q = s.reg q := by
  simp only [State.setReg, State.reg, Regs.get?_put_ne _ _ h]

theorem State.reg_setRegI_ne (s : State) {p q : Nat} (i : Int) (h : q ≠ p) : (s.setRegI p i).reg q = s.reg q :=
  State.reg_setReg_ne s _ h

theorem State.reg_count_ne (s : State) {p q : Nat} (k : Nat) (h : q ≠ p) : (s.count p k).reg q = s.reg q :=
  State.reg_setReg_ne s _ h

theorem State.reg_clearReg (s : State) (p : Nat) : (s.clearReg p).reg p = dfltOf p := by
  simp only [State.clearReg, State.reg, Regs.get?_erase_self, Option.getD_none]

theorem State.reg_clearReg_ne (s : State) {p q : Nat} (h : q ≠ p) : (s.clearReg p).reg q = s.reg q := by
  simp only [State.clearReg, State.reg, Regs.get?_erase_ne _ h]

/-! ### Memory: a read after a write (R137) -/

theorem Memory.read_write_ne (m : List Host.Cell) {x y : Nat} (v : Nat) (h : y ≠ x) :
    Memory.read (Memory.write m x v) y = Memory.read m y := by
  have h' : ¬ x = y := fun e => h e.symm
  induction m with
  | nil => unfold Memory.write; split <;> simp [Memory.read, h']
  | cons c t ih =>
    obtain ⟨a, b⟩ := c
    unfold Memory.write
    split
    · split
      · rfl
      · simp [Memory.read, h']
    · split
      · rename_i hax; subst hax; split <;> simp [Memory.read, h']
      · simp [Memory.read, ih]

theorem Memory.read_of_wfAbove {m : List Host.Cell} {lo x : Nat} (h : Memory.wfAbove lo m = true) (hx : x < lo) :
    Memory.read m x = blankByte := by
  induction m generalizing lo with
  | nil => rfl
  | cons c t ih =>
    obtain ⟨a, b⟩ := c
    simp only [Memory.wfAbove, Bool.and_eq_true, decide_eq_true_eq] at h
    rw [Memory.read, if_neg (by omega)]
    exact ih h.2 (by omega)

theorem Memory.read_write {m : List Host.Cell} {lo x v : Nat} (h : Memory.wfAbove lo m = true) :
    Memory.read (Memory.write m x v) x = v % 256 := by
  induction m generalizing lo with
  | nil => unfold Memory.write; split <;> simp [Memory.read, *]
  | cons c t ih =>
    obtain ⟨a, b⟩ := c
    simp only [Memory.wfAbove, Bool.and_eq_true, decide_eq_true_eq] at h
    unfold Memory.write
    split
    · split
      · rename_i hb; rw [hb, Memory.read, if_neg (by omega)]; exact Memory.read_of_wfAbove h.2 (by omega)
      · simp [Memory.read]
    · split
      · rename_i hax; subst hax
        split
        · rename_i hb; rw [hb]; exact Memory.read_of_wfAbove h.2 (by omega)
        · simp [Memory.read]
      · rename_i hax; rw [Memory.read, if_neg hax]; exact ih h.2

theorem Memory.read_writeBytes_out (m : List Host.Cell) (x y : Nat) (l : Bytes) (h : y < x ∨ x + l.length ≤ y) :
    Memory.read (Memory.writeBytes m x l) y = Memory.read m y := by
  induction l generalizing m x with
  | nil => rfl
  | cons v t ih =>
    simp only [List.length_cons] at h
    rw [Memory.writeBytes, ih _ _ (by omega), Memory.read_write_ne _ _ (by omega)]

end Sys2Proof.Machine
end

