-- ==== Sys2Proof/WellFormed.lean ====
section
/-!
DEFINITION. Which commands are well formed: every operand within the width or the numbers that the manual gives it
(spec/00_scope.md R10, spec/02_dies_islands_fabric.md R42, R45, spec/07_object_dictionary.md R175).
-/

namespace Sys2Proof

/-- A number below a bound. -/
def below (hi n : Nat) : Bool := decide (n < hi)

/-- Numbers below a bound. -/
def allBelow (hi : Nat) (l : List Nat) : Bool := l.all fun x => decide (x < hi)

/-- A number from 1. -/
def fromOne (hi n : Nat) : Bool := decide (1 ≤ n ∧ n ≤ hi)

/-- A list of a fixed length. -/
def exactly {α : Type} (k : Nat) (l : List α) : Bool := l.length == k

/-- Bytes. -/
def bytesOk (l : Bytes) : Bool := allBelow 256 l

/-- Bytes that may be absent. -/
def bytesOk? (l : Option Bytes) : Bool :=
  match l with
  | some b => bytesOk b
  | none => true

/-- A 128-bit word. -/
def wordOk (n : Nat) : Bool := below (2 ^ 128) n

/-- One to sixteen 128-bit words (R42). -/
def wordsOk (l : List Nat) : Bool := fromOne 16 l.length && l.all wordOk

/-- A UART number, U1 to U5 (spec/17_serial_keypad_stage_door.md R436). -/
def uartOk (u : Nat) : Bool := fromOne 5 u

/-- A contact card slot, served by U3 or U4 (spec/16_tags_and_cards.md R431). -/
def cardSlotOk (n : Nat) : Bool := n == 3 || n == 4

/-- An initiator that exists (R45). -/
def initOk (n : Nat) : Bool :=
  [1, 2, 3, 4, 8, 9, 0xA, 0xB, 0xC, 0x10, 0x11, 0x12, 0x13, 0x18, 0x19, 0x1A, 0x1B, 0x1F].contains n

/-- A Cue frame whose fields fit their bytes (R175). A frame with a wrong VERSION, FLAGS or LENGTH is well formed: it is
discarded by step 1 of R178. -/
def Req.wf (r : Req) : Bool :=
  below 256 r.version && below 256 r.flags && below 0x10000 r.seq && below 0x10000 r.src && below 0x10000 r.dst
    && below 0x1000000 r.pid && below 0x10000 r.len && bytesOk r.payload && below (2 ^ 64) r.cmac && below (2 ^ 32) r.ip
    && below 0x10000 r.port

/-- A request that may be absent. -/
def reqOk? (r : Option Req) : Bool :=
  match r with
  | some r => r.wf
  | none => true

/-- A record to commit: a type of one byte and at most 254 payload words (spec/06_mram_and_prompt_book.md R156). -/
def JReq.wf (j : JReq) : Bool := below 256 j.typ && below (2 ^ 64) j.stime && below 255 j.payload.length && j.payload.all wordOk

/-- Whether a command is well formed. -/
def Instr.wf (i : Instr) : Bool :=
  match i with
  | .read r => r.wf
  | .write r => r.wf
  | .confirm r => r.wf
  | .notify r => r.wf
  | .bulkRead r => r.wf
  | .bulkWrite r => r.wf
  | .seize r => r.wf
  | .release r => r.wf
  | .safetyBlockExpiry => true
  | .rawWindowRead r => r.wf
  | .rawWindowWrite r => r.wf
  | .keyChange r => r.wf
  | .notificationOnChange slot => below 64 slot
  | .notificationPeriodic slot => below 64 slot
  | .objectSelfCommitRetry => true
  | .stageDoorFrame => true
  | .stageDoorFrameTimeout => true
  | .fabricReadRequest init addr tag beats byteEn _ => initOk init && below 0x10000000000 addr && below 64 tag && fromOne 16 beats && below 0x10000 byteEn
  | .fabricWriteRequest init addr tag byteEn data => initOk init && below 0x10000000000 addr && below 64 tag && below 0x10000 byteEn && wordsOk data
  | .requestWatchdogExpiry init tag => initOk init && below 64 tag
  | .responseWatchdogExpiry init tag => initOk init && below 64 tag
  | .portPresentFall island => below 24 island
  | .fabricResponseReturn init tag => initOk init && below 64 tag
  | .fabricEventPacket island _ => below 24 island
  | .ironEventLatch code unit => below 256 code && below 256 unit
  | .ironEventKeeperDelivery => true
  | .ironEventMainPost ch => below 32 ch
  | .ironEventRepost ch => below 32 ch
  | .judgeWindowEnd j _ => below 7 j
  | .judgeLimitExpiry j => below 7 j
  | .judgeRetry j => below 7 j
  | .monitorDeadEdge src => below 12 src
  | .rc16TrimMeasurement _ => true
  | .rc16RetrimTimer => true
  | .clockSwitchRequest island input => below 24 island && below 4 input
  | .clockSwitchComplete island => below 24 island
  | .clockHangTimeout island => below 24 island
  | .ckForceNow r => r.wf
  | .forcedSwitchResetRelease island => below 24 island
  | .pllRestart pll => below 4 pll
  | .pllLock pll => below 4 pll
  | .vsupWarning _ => true
  | .powerFailLastCommit _ _ => true
  | .ironPor => true
  | .ironPorRelease => true
  | .vaonPor => true
  | .vaonPorRelease => true
  | .vcoreLoss => true
  | .supplyGood _ _ => true
  | .vsupGoodHoldExpiry => true
  | .vcpStateChange _ _ => true
  | .sysRstNLow => true
  | .stageManagerWatchdogExpiry => true
  | .pwResetReq r => r.wf
  | .resetRequestDelayExpiry => true
  | .deferredCopyStart => true
  | .bootRomStart => true
  | .loaderCheckComplete _ _ => true
  | .bootStagedCopy => true
  | .romHoldStatusFrame => true
  | .stageManagerStart => true
  | .pwTierReq r => r.wf
  | .tierGroupStart => true
  | .domainSwitchOn d => below 64 d
  | .domainOnComplete d => below 64 d
  | .domainPowerGoodTimeout d => below 64 d
  | .domainSwitchOff d => below 64 d
  | .thermalSample _ _ => true
  | .thermalLevelDrop => true
  | .darkSourceSwitch _ => true
  | .noticePost ch init word beats byteEn => below 32 ch && initOk init && wordOk word && fromOne 16 beats && below 0x10000 byteEn
  | .noticeTake ch init _ => below 32 ch && initOk init
  | .noticeAck ch init code => below 32 ch && initOk init && below 0x10000 code
  | .noticeWithdraw ch init tag => below 32 ch && initOk init && below 0x10000 tag
  | .callboardStatusRead ch init => below 32 ch && initOk init
  | .callboardConfigWrite ch init value => below 32 ch && initOk init && below 0x4000000000 value
  | .receiverReset island => below 24 island
  | .callboardReset => true
  | .provisionalCancel sender tag channels => initOk sender && below 0x10000 tag && allBelow 32 channels
  | .mramWordRead init addr _ errs _ => initOk init && below 0x10000000000 addr && allBelow 137 errs
  | .mramWordWrite init addr word => initOk init && below 0x10000000000 addr && wordOk word
  | .mramMergeWrite init addr byteEn word errs => initOk init && below 0x10000000000 addr && below 0x10000 byteEn && wordOk word && allBelow 137 errs
  | .fetchErrorRestart init addr => initOk init && below 0x10000000000 addr
  | .scrubVisit errs _ _ _ => allBelow 137 errs
  | .columnRepairStep => true
  | .columnRepairComplete => true
  | .bankSelfTest r => r.wf
  | .bankCopy r => r.wf
  | .bankWipe r => r.wf
  | .bankOperationComplete _ => true
  | .journalCommitRequest _ j => j.wf
  | .journalCommitComplete => true
  | .compactionSector => true
  | .journalRecovery _ _ => true
  | .safetyInputFilterChange ch input contact _ => below 2 ch && below 8 input && below 2 contact
  | .discrepancyTimeout ch input => below 2 ch && below 8 input
  | .testPulse failed => allBelow 16 failed
  | .mirrorTimeout pair => below 6 pair
  | .readbackMismatch pair => below 6 pair
  | .switchCurrentLimitTimeout pair => below 6 pair
  | .totalOverloadTimeout => true
  | .darkTest pair _ _ => below 6 pair
  | .prompterAnswer word seq _ _ => below 0x100000000 word && below 256 seq
  | .prompterAnswerTimeout => true
  | .lockstepMismatch => true
  | .safetyBlockLoad => true
  | .blockCrcCheck => true
  | .brakeTest _ => true
  | .brakeTestGraceExpiry => true
  | .slsOverspeed _ => true
  | .ss1StopComplete => true
  | .ironOverspeedWindow _ => true
  | .ironOvertemp _ => true
  | .cpStateReport _ _ => true
  | .currentLimitRecompute _ => true
  | .acResume => true
  | .proximityLost _ => true
  | .supportedAppProtocolReq _ _ _ => true
  | .cableCheckReq _ _ _ _ _ => true
  | .preChargeReq _ _ _ _ => true
  | .prechargeConditionMet => true
  | .prechargeSo2Open => true
  | .prechargeTimeout _ => true
  | .powerDeliveryReq _ _ _ => true
  | .currentDemandReq _ _ _ _ => true
  | .sessionStopReq _ _ => true
  | .rampDownEnd => true
  | .dcWeldingCheckEnd _ _ => true
  | .acAuthorisation _ _ => true
  | .acEndingTimeout => true
  | .acWeldingCheckEnd => true
  | .isolationPeriodEnd _ => true
  | .residualCurrentUpdate _ => true
  | .rcSensorFault => true
  | .rcSelfTest _ => true
  | .slacTimeout _ => true
  | .sequenceTimeout _ => true
  | .currentDemandGap _ => true
  | .stateDTimeout _ => true
  | .stateCTimeout _ => true
  | .acOvercurrentTimeout _ => true
  | .stateFEnd => true
  | .tcpConnectionLoss _ => true
  | .flyControlCycle _ _ => true
  | .encoderIllegalTransition => true
  | .encoderIndex => true
  | .encValidSet => true
  | .flyHome r => r.wf
  | .flyStop r => r.wf
  | .flyQuickStop r => r.wf
  | .flyResume r => r.wf
  | .flyJogPositive r => r.wf
  | .flyJogNegative r => r.wf
  | .flyTargetWrite r => r.wf
  | .homingHomeSwitch _ => true
  | .toothEdge _ => true
  | .missedTooth => true
  | .cueFire cue _ _ => below 16 cue
  | .motionStoSettle => true
  | .motionBrakeRelease => true
  | .inPositionReached => true
  | .brakeSetHoldEnd => true
  | .wardenAxisSupervision _ _ _ => true
  | .meteringIntervalEnd counts => exactly 12 counts
  | .mainsLost => true
  | .meteringFrameReceive => true
  | .supportingUpdate => true
  | .phaseRmsUpdate => true
  | .anchorRefresh => true
  | .seamReceive _ _ _ => true
  | .energyCommit => true
  | .tallyRestore => true
  | .sessionLatch set _ => below 3 set
  | .tlyOutModeWrite r => r.wf
  | .processWindowEnd counts => exactly 16 counts
  | .processResultUpdate => true
  | .calMeasureLow r => r.wf
  | .calMeasureHigh r => r.wf
  | .calCommit r => r.wf
  | .calAbandon r => r.wf
  | .calAveragingComplete _ _ => true
  | .calEntryAck => true
  | .tlyPcModeWrite r => r.wf
  | .tlyMcFsWrite r => r.wf
  | .meteringSelfCheckPhase ch _ _ => below 12 ch
  | .processSelfCheck ch _ _ => below 16 ch
  | .selfCheckReschedule => true
  | .converterClockLost => true
  | .calendarEvaluate _ => true
  | .costAccrual => true
  | .boxEmergReq req => reqOk? req
  | .demandSubIntervalEnd => true
  | .boxMdReset r => r.wf
  | .tokenEntry req => reqOk? req
  | .tokenEntryTimeout => true
  | .tokenDecodeComplete => true
  | .tokenRecordAck => true
  | .creditToken => true
  | .keyChangePartOne => true
  | .keyChangePartTwo => true
  | .keyChangePartOneExpiry => true
  | .clearTamperToken => true
  | .setTariffIndexToken => true
  | .testToken => true
  | .tamperInputChange input _ => below 3 input
  | .reverseEnergyTimer set => below 3 set
  | .boxRestore => true
  | .channel10StateReport => true
  | .tirwaCueFrame _ mac => bytesOk mac
  | .tirwaAck _ => true
  | .tirwaAckTimeout => true
  | .frameControlError => true
  | .tirwaBackoffExpiry => true
  | .helloTimer => true
  | .helloReceive _ mac _ => bytesOk mac
  | .routeTriggeredHello => true
  | .neighbourAgeOut seat => below 0x10000 seat
  | .routeExpiry dest => below 0x10000 dest
  | .floodRelay origin _ => below 0x10000 origin
  | .beaconReceive _ mac => bytesOk mac
  | .claimReceive _ mac => bytesOk mac
  | .leadLost => true
  | .claimSend => true
  | .electionWin => true
  | .joinRequest _ mac => bytesOk mac
  | .joinGrant _ mac => bytesOk mac
  | .seatTableAgeOut seat => below 0x10000 seat
  | .demandReportTimer => true
  | .demandReportReceive _ mac => bytesOk mac
  | .allocationCycle => true
  | .shareApplyAt => true
  | .shareLapse => true
  | .soundFrameReceive _ _ => true
  | .toneMapReceive _ mac => bytesOk mac
  | .toneMapRefresh seat => below 0x10000 seat
  | .toneMapExpiry seat => below 0x10000 seat
  | .cmSlacParmReq pevMac => below 0x1000000000000 pevMac
  | .cmStartAttenCharInd _ => true
  | .cmMnbcSoundInd atten => exactly 58 atten
  | .cmAttenCharRsp => true
  | .cmSlacMatchReq => true
  | .tirTestMode r => r.wf
  | .tirGpTestMode r => r.wf
  | .courierStart => true
  | .laneSearchTimer lane => below 4 lane
  | .laneLinkUp lane => below 4 lane
  | .laneLinkDown lane _ _ => below 4 lane
  | .moduleInsertRead lane ident a2 => below 4 lane && bytesOk? ident && bytesOk? a2
  | .moduleA2Poll lane a2 => below 4 lane && bytesOk? a2
  | .switchIngressFrame port frame _ _ _ => below 5 port && bytesOk frame
  | .addressAgeOut vid mac => below 4096 vid && below 0x1000000000000 mac
  | .arpRequest mac ip _ => below 0x1000000000000 mac && below 0x100000000 ip
  | .icmpEchoRequest mac ip _ _ data => below 0x1000000000000 mac && below 0x100000000 ip && bytesOk data
  | .cueUdpDatagram _ ip udp _ _ data => below 0x100000000 ip && below 0x10000 udp && bytesOk data
  | .ptpSyncReceive _ _ _ => true
  | .ptpSyncTimeout => true
  | .ptpSyncSend => true
  | .slPatternGenWrite r => r.wf
  | .slPatternChkWrite r => r.wf
  | .slLoopbackWrite r => r.wf
  | .readerPoll _ => true
  | .rdrHostGrant r => r.wf
  | .hostGrantTimeout => true
  | .samResponse sw => below 0x10000 sw
  | .rdrTestMode r => r.wf
  | .tagFieldOn => true
  | .tagFieldLoss => true
  | .reqa => true
  | .wupa => true
  | .anticollision level _ _ => fromOne 2 level
  | .selectCascade level part => fromOne 2 level && bytesOk part
  | .rats => true
  | .sDeselect => true
  | .selectApplication aid => bytesOk aid
  | .readIdentity => true
  | .readWindow _ le _ => below 256 le
  | .writeNote text _ _ => bytesOk text
  | .verifyPassword pw => bytesOk pw
  | .authenticate1 => true
  | .authenticate2 data => bytesOk data
  | .getStatus _ _ => true
  | .tagSecurityWrite r => r.wf
  | .statusPageUpdate _ => true
  | .tagNoteClear r => r.wf
  | .cardInsert slot => cardSlotOk slot
  | .cardAtr slot atr => cardSlotOk slot && bytesOk atr
  | .cardAtrTimeout slot => cardSlotOk slot
  | .cardRemove slot => cardSlotOk slot
  | .uartCharacterReceive u data _ _ => uartOk u && below 512 data
  | .xonSend u => uartOk u
  | .idleLine u => uartOk u
  | .startEdgeWake => true
  | .wakeRc16Check _ => true
  | .breakDetect => true
  | .stageDoorSettingsApply => true
  | .pmiCommandFrame => true
  | .pmiReply data => bytesOk data
  | .pmiReplyMissing => true
  | .uartRxDataRead r => r.wf
  | .uartTxDataWrite r => r.wf
  | .uartTestWrite r => r.wf
  | .keypadKeyEvent key _ => below 20 key
  | .keypadFifoRead => true
  | .dspImageWrite r => r.wf
  | .fieldValueChange => true
  | .blinkPhase => true
  | .displayFrameEnd => true
  | .displayTempRead => true
  | .displayPowerOn => true
  | .railFault _ => true
  | .slotDataMissing => true
  | .displayPowerOff => true
  | .displayOffTimeout => true
  | .abruptDischarge => true
  | .railsDischarged => true
  | .displayColdRetry => true
  | .frontlightHoldExpiry => true
  | .frontlightSinkFault _ => true
  | .waveformSetLoad => true
  | .wngOpen r => r.wf
  | .wngChunk r _ => r.wf
  | .wngVerify r => r.wf
  | .verifyComplete _ => true
  | .wngCommit r => r.wf
  | .wngCommitCrc r => r.wf
  | .wngConfirm r => r.wf
  | .wngRollback r => r.wf
  | .wngAbandon r => r.wf
  | .reverifyTimer => true
  | .stageManagerSleep => true
  | .vcoreWaitTimeout => true
  | .samWaitingTimeExpiry => true
  | .slacRunTimeout => true
  | .sessionSetupReq _ _ => true
  | .authorizationReq _ _ _ => true
  | .ptpAnnounceReceive prio1 cls accuracy _ prio2 _ _ _ => below 256 prio1 && below 256 cls && below 256 accuracy && below 256 prio2
  | .slModuleRemoved lane => below 4 lane
  | .tagHalt => true

end Sys2Proof
end

