-- ==== Sys2Proof/Tests/Slice0.lean ====
section
/-!
SUPPORT. Tests of the model: ill-formed commands that WellFormed refuses, states and operands that meet the hypotheses of each
statement of Certificates/Slice0/Obligations.lean together, and single steps whose results the manual gives.
-/

namespace Sys2Proof.Tests

open Sys2Proof Sys2Proof.Machine

set_option maxRecDepth 4000
set_option Elab.async false
set_option linter.unusedVariables false

def up : State :=
  { State.reset with
    mono := 1000 * second
    now := 1000 * second
    pwr := { State.reset.pwr with dom := List.replicate 64 .on, vsup := true, vcore := true, vsrd := true, vio33 := true, vio18 := true, vcpP := true, vcpM := true, coreEn := true, srdEn := true, rstOut := true, boot := .running, ironOn := true }
    clk := { State.reset.clk with src := List.replicate 12 2, judges := List.replicate 7 ⟨true, 0, 0⟩, islands := List.replicate 24 ⟨1, false, none, false, none, none, false⟩, plla := 1000 }
    cue := { State.reset.cue with running := true, lastMain := 1000 * second, lastSide := 1000 * second }
    jnl := { State.reset.jnl with ready := true } }
def upc (n : Nat) (c : Channel) : State := up.setChan n c
def qr : FabReq := { init := 1, tag := 5, prio := 2, since := 0, addr := 0x01000010, beats := 1, byteEn := 0xFFFF, write := false, data := [], route := 13, passed := false, resp := none }
def s0count (j : Nat) : Nat := let f := judgeFreqs up j; (up.reg (P.ckJudgeWin j) * f.1 + f.2 / 2) / f.2
def upS : State := { up with saf := { up.saf with chans := [SafChan.reset 0, SafChan.reset 0], prOk := 5, prFirst := false } }.setReg P.irnFaults 0
def upV (n : Nat) (dc : Bool) (d : CpDrive) : State :=
  { ((((upS.setReg P.wdnSesState n).setReg P.wdnSesProto 2).setReg P.smgTier 0x4D).setReg P.wngCastState 0) with veh := { VehState.reset with dc := dc, drive := d, sid := some 77, vMax := 900, iMax := 300, limit := 16000, cable := 320 } }
def upF (ph : FlyPhase) (g : FlyGoal) : State := { upS with fly := { FlyState.reset with phase := ph, goal := g } }
def upB (s : State) : State := (s.setReg P.smgBatonHolder 0xAAAAAAAA).setReg P.smgCueEpoch 7
def rq (op p : Nat) (val : Bytes) (s : State) : Req :=
  { via := .stageDoor, ip := 0, port := 0, version := 1, flags := 4, seq := 1, src := 5, dst := s.seat, pid := p, len := val.length, payload := val
    cmac := cueMac (s.key 4) s.postId s.epoch (frameBytes 1 4 1 5 s.seat op p val.length val) }
def subW : Sub := ⟨P.pwVsupMv, 5, .stageLink, 0x0A000001, 2, 9, true, 10, 3, 0, [], false⟩
def upT (n : Nat) (rats : Bool) : State := { (up.setReg P.tagState n).setDom 62 .on with tag := { TagState.reset with field := true, fieldAt := 0, level := 1, rats := rats } }
def upU (n m : Nat) : State := up.setReg (P.uartMode n) m
def tokW (c : Nat) : Token := ⟨[], false, true, true, c, 7, 3, 99⟩
def upK (c : Nat) : State := { up with box := { BoxState.reset with token := some (tokW c) } }
def crdW : Card := ⟨1, [1, 2, 3, 4]⟩
def sesW : Session := ⟨2, 3, 0, 1, 0, 0, 5, []⟩
def tokPlain : List Nat := [5, 0, 0, 0, 0, 0, 0, 0, 7, 0, 0, 0, 0, 0, 0, 0, 0, 0, 0, 5, 5, 3, 1, 8, 2]
def tokDigits : List Nat := [3, 5, 5, 3, 8, 6, 3, 6, 6, 2, 1, 7, 6, 9, 4, 8, 5, 7, 1, 7, 8, 2, 2, 9, 0]
def doorW : List (Nat × Nat) := (cobsEncode (List.replicate 22 0 ++ toBytes 2 (crc16 (List.replicate 22 0)))).map fun b => (b, 0)
def upD (l : List (Nat × Nat)) : State := { up with ser := { up.ser with door := l } }
def pmiW : Bytes := let b : Bytes := [0x3C, 9, 1, 2, 3, 4, 0x01, 0, 0, 0]; b ++ toBytes 2 (crc16 b)
def upP (w : Option Nat) (m : Nat) : State := { upU 1 3 with ser := { up.ser with pmiWait := w, pmiMissed := m } }
def upY (n : Nat) (d : DspState) : State := { up.setReg P.dspState n with dsp := d }
def runW : SegRun := ⟨5, 0, 3, 2⟩
def setW : List Nat := [0x0008006000010104, 0xFE7003E8 * 2 ^ 96] ++ List.replicate 32 0 ++ [10 * 2 ^ 56] ++ List.replicate 230 0
def setWaves : List Nat := setW.take 16 ++ [10 * 2 ^ 56] ++ setW.drop 17
def dspW : DspState := { DspState.reset with loaded := true, set := setWaves }
def upW (st : Nat) (w : WngState) : State := { (up.setReg P.wngStatus (st + 8 * 256)).setReg P.smgTier 0x46 with wng := w }
def imgW : List Nat := [0x4D5A4431 * 2 ^ 96 + 8 * 2 ^ 88 + 2 ^ 80 + 5 * 2 ^ 64 + 9 * 2 ^ 32, 0, 0, ofBytes ((sha256 []).take 16), ofBytes ((sha256 []).drop 16), 3 * 2 ^ 32]
def ldrW : List Nat := [0x4D5A4431 * 2 ^ 96 + 2 ^ 88 + 2 ^ 80 + 5 * 2 ^ 64 + 9 * 2 ^ 32] ++ imgW.drop 1
def upRom : State := { (State.reset.setWords 0x02040000 ldrW) with pwr := { State.reset.pwr with boot := .rom, vaon := true } }
def wngW : WngState := { WngState.reset with owner := .side, mode := 1, declared := 256, staged := 256, ranges := [(0, 256)] }
def frB : Bytes := toBytesBE 6 0x021122334455 ++ toBytesBE 6 0x0266778899AA ++ [8, 0] ++ List.replicate 50 3
def upL : State := { ((up.setReg (P.slLaneState 0) 3).setReg (P.slLaneState 1) 3).setReg P.slIpAddr 0x0A000001 with sl := { SlState.reset with mods := List.replicate 4 true, table := [(1, 0x021122334455, 1, 5), (1, 0x020000000001, 0, 6)] } }
def itW : TxItem := ⟨1, 7, 8, 0, 0, [1, 2, 3], 2, none, 0, false⟩
def nbW : Neigh := { Neigh.fresh 8 (999 * second) with ident := 0x88 }
def rtW : Route := ⟨8, 8, 48, 1, 990 * second, true, 0⟩
def upR : State := { ((up.setReg P.smgHouseId 0x12345678).setReg P.smgSeat 7).setReg P.smgTier 0x46 with tir := { TirState.reset with houseKey := some 5, neigh := [nbW] } }
def rxFc (type src dst fseq ack : Nat) : Nat := sealFc (dst * 2 ^ 32 + src * 2 ^ 48 + 0x5678 * 2 ^ 64 + fseq * 2 ^ 96 + ack * 2 ^ 115 + 2 ^ 122 + type * 2 ^ 124)
def rxMac (kind origin final hops count : Nat) (body : Bytes) : Bytes := TxItem.mac ⟨kind, origin, final, hops, count, body, 0, none, 0, false⟩ upR
def bcnW : Bytes := beaconBody { upR.setReg P.smgSeat 2 with now := 1000 * second + 5 } 77 (1000 * second + ms 500) 30000 1 0 [(7, 4000)]
def nbM : Neigh := { nbW with txMaps := [⟨0, true, 4 :: List.replicate 391 0, 5⟩] }
def upG (st : Nat) (x : SlacState) : State := { (up.setReg P.irnCpState 2).setReg P.tirGpState st with slac := x }
def upFly (ph : FlyPhase) (g : FlyGoal) : State := (upF ph g).setReg P.flyStatus 6
def rqPlain : Req := { via := .stageDoor, ip := 0, port := 0, version := 1, flags := 4, seq := 1, src := 5, dst := 0xFFFE, pid := 0, len := 0, payload := [], cmac := 0 }

/-- A request whose CMAC is that of the key, identity and epoch in force passes step 3. -/
theorem verdict_of {op : Nat} {r : Req} {s : State} (hb : isBroadcast r = false) (ha : asksEpoch op r = false)
    (hm : r.cmac = cueMac (s.key (reqKey r)) s.postId s.epoch
      (frameBytes r.version r.flags r.seq r.src r.dst op r.pid r.len r.payload)) : verdict op r s = .passed s.epoch := by
  simp [verdict, hb, ha, verifies, identOf, hm]

/-- A signed request of the side-band passes step 3. -/
theorem verdict_rq {op p : Nat} {val : Bytes} {s₀ s : State} {r : Req} (hr : r = rq op p val s₀) (hk : s.key 4 = s₀.key 4)
    (hi : s.postId = s₀.postId) (he : s.epoch = s₀.epoch) (hb : isBroadcast r = false) (ha : asksEpoch op r = false) :
    verdict op r s = .passed s.epoch :=
  verdict_of hb ha (by subst hr; rw [hi, he]; show _ = cueMac (s.key 4) _ _ _; rw [hk]; rfl)

/-- A signed request of the side-band is accepted where the checks that need no CMAC pass. -/
theorem accepted_rq {op p : Nat} {val : Bytes} {s₀ s : State} {r : Req} (hr : r = rq op p val s₀) (hk : s.key 4 = s₀.key 4)
    (hi : s.postId = s₀.postId) (he : s.epoch = s₀.epoch)
    (h : s.cue.inbox = [] ∧ served r.via s = true ∧ frameOk op r = true ∧ addressed op r s = true ∧ isBroadcast r = false
      ∧ asksEpoch op r = false ∧ s.epoch ≠ 0 ∧ masterOf s r ≠ .none
      ∧ batonStep (servingOf op r s) (noteVerified r s) = (true, noteVerified r s)
      ∧ seqVerdict (masterOf s r) r.seq s = .accepted ∧ s.pwr.forcedStart = false) : Accepted op r s :=
  ⟨h.1, h.2.1, h.2.2.1, h.2.2.2.1, h.2.2.2.2.1,
    verdict_rq hr hk hi he h.2.2.2.2.1 h.2.2.2.2.2.1,
    h.2.2.2.2.2.2.1, h.2.2.2.2.2.2.2.1, h.2.2.2.2.2.2.2.2.1, h.2.2.2.2.2.2.2.2.2⟩

/-! ### States and operands that meet the hypotheses of each statement -/

/-- StepServesTheFront. -/
theorem witness_StepServesTheFront :
    ({ up with pending := [.frameControlError] } : State).pending = .frameControlError :: []
 := by
  decide +kernel

/-- IdlePassesTime. -/
theorem witness_IdlePassesTime :
    (up.pending = [] ∧ up.cue.inbox = [] ∧ up.tag.clearing = none ∧ up.pwr.vaon = true ∧ up.tir.slew = 0) ∧
    ((fun (s : State) => s.pending = [] ∧ s.cue.inbox = [] ∧ s.tag.clearing = none ∧ s.pwr.vaon = false)
      { up with pwr := { up.pwr with vaon := false } }) ∧
    ((fun (s : State) (i : Nat) => s.pending = [] ∧ s.cue.inbox = [] ∧ s.tag.clearing = some i ∧ i < 191 ∧ s.pwr.vaon = false)
      { up with pwr := { up.pwr with vaon := false }, tag := { up.tag with clearing := some 190 } } 190) ∧
    ((fun (s : State) => s.pending = [] ∧ s.cue.inbox = [] ∧ s.tag.clearing = some 191 ∧ s.pwr.vaon = false)
      { up with pwr := { up.pwr with vaon := false }, tag := { up.tag with clearing := some 191 } }) ∧
    ((fun (s : State) (i : Inbound) (l : List Inbound) => s.pending = [] ∧ s.cue.inbox = i :: l)
      { up with cue := { up.cue with inbox := [⟨opRead, rqPlain, false⟩] } } ⟨opRead, rqPlain, false⟩ []) := by
  decide +kernel

/-- StepKeepsSound. -/
theorem witness_StepKeepsSound :
    State.reset.ok (0, []) ∧ step State.reset = .next { State.reset with now := 1, mono := 1 }
 := by
  refine ⟨by unfold State.ok; decide +kernel, by rfl⟩

/-- MemoryReadsBack. -/
theorem witness_MemoryReadsBack :
    Memory.wf (up.setBytes 5 [1, 0, 3]).mem = true ∧ ∀ b ∈ ([1, 2, 255] : Bytes), b < 256
 := by
  decide +kernel

/-- ReadsNeedNoBaton. -/
theorem witness_ReadsNeedNoBaton :
    (servingOf opRead rqPlain up).op = opRead ∨ (servingOf opRead rqPlain up).op = opBulkRead
 := by
  decide +kernel

/-- ReleaseOnlyByTheHolder. -/
theorem witness_ReleaseOnlyByTheHolder :
    ((fun (s : State) (r : Req) (h : State) (a : Nat) => Accepted opRelease r s ∧ r.payload = [] ∧ a < 16 ∧ r.pid = a
      * 0x100000 ∧ h = heard r s ∧ s.holder a = (masterOf s r).holds) (upB up) (rq opRelease 0x500000 [] (upB up))
      (heard (rq opRelease 0x500000 [] (upB up)) (upB up)) 5) ∧
    ((fun (s : State) (r : Req) => s.cue.inbox = [] ∧ served r.via s = true ∧ frameOk opRelease r = true ∧ addressed
      opRelease r s = true ∧ verdict opRelease r s = .passed s.epoch ∧ masterOf s r ≠ .none ∧ s.pwr.forcedStart =
      false ∧ (s.holder (areaOf r.pid) == (masterOf s r).holds) = false) ((upB up).setReg P.smgBatonHolder 0x55555555)
      (rq opRelease 0x500000 [] (upB up))) := by
  refine ⟨⟨accepted_rq (op := opRelease) (p := 0x500000) (val := []) (s₀ := (upB up)) rfl rfl rfl rfl (by decide +kernel),
      by decide +kernel, by decide +kernel, by decide +kernel, rfl, by decide +kernel⟩,
    ⟨by decide +kernel, by decide +kernel, by decide +kernel, by decide +kernel, verdict_rq (op := opRelease) (p :=
      0x500000) (val := []) (s₀ := (upB up)) rfl (by decide +kernel) (by decide +kernel) (by decide +kernel)
      (by decide +kernel) (by decide +kernel), by decide +kernel, by decide +kernel, by decide +kernel⟩⟩

/-- PendingChannels. -/
theorem witness_PendingChannels :
    3 < 32 ∧ up.cbd.ch.length = 32
 := by
  decide +kernel

/-- FabricRequests. -/
theorem witness_FabricRequests :
    ((fun (s : State) (init : Nat) (addr : Nat) (tag : Nat) => coreOrDma init = true ∧ s.present (initIsland init) =
      true ∧ s.present 7 = true ∧ s.present 13 = true ∧ s.clockStopped 7 = false ∧ s.clockStopped 13 = false ∧ (∀ q ∈
      s.fab.reqs, q.route = 13 → q.passed = true) ∧ s.request init tag = none ∧ 0x01000000 ≤ addr ∧ addr < 0x01800000
      ∧ s.domOn (20 + (addr - 0x01000000) / 0x100000) = true) up 1 0x01000010 5) ∧
    ((fun (s : State) (init : Nat) (addr : Nat) (tag : Nat) (w : Nat) => coreOrDma init = true ∧ s.present (initIsland
      init) = true ∧ s.present 7 = true ∧ s.present 13 = true ∧ s.clockStopped 7 = false ∧ s.clockStopped 13 = false ∧
      (∀ q ∈ s.fab.reqs, q.route = 13 → q.passed = true) ∧ 0x01000000 ≤ addr ∧ addr < 0x01800000 ∧ s.domOn (20 + (addr
      - 0x01000000) / 0x100000) = true ∧ Memory.wf s.mem = true ∧ w < 2 ^ 128) up 1 0x01000010 5 0x0123456789) ∧
    ((fun (s : State) (init : Nat) (tag : Nat) (q : FabReq) => s.request init tag = some q ∧ q.passed = false ∧
      s.present (initIsland q.init) = true) (listReq qr up) 1 5 qr) ∧
    ((fun (s : State) (init : Nat) (tag : Nat) (q : FabReq) => s.request init tag = some q ∧ q.passed = true ∧
      s.present (initIsland q.init) = true ∧ s.pwr.forcedStart = false) (listReq { qr with passed := true } up) 1 5
      ({ qr with passed := true })) ∧
    ((fun (s : State) (init : Nat) (tag : Nat) (data : Nat) (q : FabReq) => s.request init tag = some q ∧ olderOpen s
      q = false ∧ q.resp = some (stOk, [data]) ∧ q.addr < 0x10000000 ∧ q.beats = 1 ∧ (∀ x ∈ s.fab.reqs, x.route =
      q.route → x.passed = true) ∧ s.present (initIsland q.init) = true ∧ s.pwr.forcedStart = false) (listReq
      { qr with passed := true, resp := some (0, [7]) } up) 1 5 7 ({ qr with passed := true, resp := some (0, [7]) })) ∧
    ((fun (s : State) (island : Nat) (event : Nat) => s.present island = true) up 8 3) ∧
    ((fun (s : State) (route : Nat) (q : FabReq) (x : FabReq) => nextAt s route = some q ∧ x ∈ waitingAt s route)
      ({ up with fab := { up.fab with reqs := [{ qr with init := 2, tag := 6, prio := 1 }, qr] } }) 13 qr
      ({ qr with init := 2, tag := 6, prio := 1 })) := by
  refine ⟨⟨by decide +kernel, by decide +kernel, by decide +kernel, by decide +kernel, by decide +kernel, by decide +kernel,
      by decide +kernel, by decide +kernel, by decide +kernel, by decide +kernel, by decide +kernel⟩,
    ⟨by decide +kernel, by decide +kernel, by decide +kernel, by decide +kernel, by decide +kernel,
      by decide +kernel, by decide +kernel, by decide +kernel, by decide +kernel, by decide +kernel,
      by decide +kernel, by decide +kernel⟩,
    ⟨by decide +kernel, by decide +kernel, by decide +kernel⟩,
    ⟨by decide +kernel, by decide +kernel, by decide +kernel, by decide +kernel⟩,
    ⟨by decide +kernel, by decide +kernel, by decide +kernel, by decide +kernel, by decide +kernel,
      by decide +kernel, by decide +kernel, by decide +kernel⟩,
    by decide +kernel,
    ⟨by decide +kernel, by decide +kernel⟩⟩

/-- CallboardNotices. -/
theorem witness_CallboardNotices :
    ((fun (s : State) (ch : Nat) (init : Nat) (word : Nat) => s.cbdOn = true ∧ ch < s.cbd.ch.length ∧ (s.chan
      ch).permits init = true ∧ s.present (initIsland (s.chan ch).receiver) = true ∧ (s.chan ch).full = false) up 18
      0x0C 0x123400000000000000) ∧
    ((fun (s : State) (ch : Nat) (init : Nat) => s.cbdOn = true ∧ ch < s.cbd.ch.length ∧ (s.chan ch).receiver = init ∧
      (s.chan ch).full = true ∧ (s.chan ch).taken = false ∧ (s.chan ch).ackMode = true) (upc 3
      { Channel.empty (2 ^ 37 + 9 * 2 ^ 32 + 2 ^ 12) with notice := 77, full := true }) 3 9) ∧
    ((fun (s : State) (ch : Nat) (init : Nat) (code : Nat) => s.cbdOn = true ∧ ch < s.cbd.ch.length ∧ (s.chan
      ch).receiver = init ∧ (s.chan ch).full = true ∧ (s.chan ch).taken = true ∧ (s.chan ch).ackMode = true ∧
      s.cbd.cancels = [] ∧ s.cbd.retracts = []) (upc 3
      { Channel.empty (2 ^ 37 + 9 * 2 ^ 32 + 2 ^ 12) with notice := 77, full := true, taken := true }) 3 9 5) ∧
    ((fun (s : State) (ch : Nat) (init : Nat) (tag : Nat) => s.cbdOn = true ∧ ch < s.cbd.ch.length ∧ (s.chan
      ch).permits init = true ∧ (s.chan ch).full = true ∧ (s.chan ch).taken = false ∧ (s.chan ch).inDelivery = false ∧
      noticeSender (s.chan ch).notice = init ∧ noticeTag (s.chan ch).notice = tag % 2 ^ 16 ∧ s.cbd.cancels = [] ∧
      s.cbd.retracts = []) (upc 3
      { Channel.empty (2 ^ 37 + 9 * 2 ^ 32 + 2 ^ 12) with notice := 12 * 2 ^ 80 + 0x55 * 2 ^ 64, full := true, lastSender := 12 })
      3 12 0x55) ∧
    ((fun (s : State) (ch : Nat) (init : Nat) => s.cbdOn = true ∧ (s.chan ch).lastSender = init) ((upc 3
      { Channel.empty 0 with result := 2, lastSender := 12 }).setReg P.cbdResultNew 0xFF) 3 12) ∧
    ((fun (s : State) (ch : Nat) (word : Nat) => s.cbdOn = true ∧ ch < s.cbd.ch.length) up 31 0xFFFFFFFFFF) := by
  refine ⟨⟨by decide +kernel, by decide +kernel, by decide +kernel, by decide +kernel, by decide +kernel⟩,
    ⟨by decide +kernel, by decide +kernel, by decide +kernel, by decide +kernel, by decide +kernel,
      by decide +kernel⟩,
    ⟨by decide +kernel, by decide +kernel, by decide +kernel, by decide +kernel, by decide +kernel,
      by decide +kernel, by decide +kernel, by decide +kernel⟩,
    ⟨by decide +kernel, by decide +kernel, by decide +kernel, by decide +kernel, by decide +kernel,
      by decide +kernel, by decide +kernel, by decide +kernel, by decide +kernel, by decide +kernel⟩,
    ⟨by decide +kernel, by decide +kernel⟩,
    ⟨by decide +kernel, by decide +kernel⟩⟩

/-- CallboardLosses. -/
theorem witness_CallboardLosses :
    ((fun (s : State) (island : Nat) => s.cbd.cancels = [] ∧ s.cbd.retracts = [] ∧ s.cbd.ch.length = 32) (upc 3
      { Channel.empty (9 * 2 ^ 32) with full := true }) 9) ∧
    ((fun (s : State) => s.cbd.cancels = []) (upc 3 { Channel.empty (9 * 2 ^ 32) with full := true })) ∧
    ((fun (s : State) (sender : Nat) (tag : Nat) (ch : Nat) => s.cbdOn = true ∧ ch < s.cbd.ch.length ∧ s.cbd.cancels =
      [] ∧ s.cbd.retracts = [] ∧ s.provisional sender tag ch = some 0 ∧ (s.chan ch).permits sender = true ∧ (s.chan
      ch).full = true ∧ (s.chan ch).taken = false ∧ (s.chan ch).inDelivery = false ∧ noticeSender (s.chan ch).notice =
      sender ∧ noticeTag (s.chan ch).notice = tag ∧ tag < 2 ^ 16)
      ({ (upc 3 { Channel.empty (2 ^ 37 + 9 * 2 ^ 32 + 2 ^ 12) with notice := 12 * 2 ^ 80 + 0x55 * 2 ^ 64, full := true, lastSender := 12 }) with cbd := { (upc 3 { Channel.empty (2 ^ 37 + 9 * 2 ^ 32 + 2 ^ 12) with notice := 12 * 2 ^ 80 + 0x55 * 2 ^ 64, full := true, lastSender := 12 }).cbd with prov := [(12, 0x55, 3, 0)] } })
      12 0x55 3) ∧
    ((fun (s : State) (sender : Nat) (tag : Nat) (ch : Nat) (r : Nat) => s.cbdOn = true ∧ ch < s.cbd.ch.length ∧
      s.cbd.retracts = [] ∧ s.provisional sender tag ch = some r ∧ (r = 1 ∨ r = 2) ∧ (s.chan ch).permits sender = true
      ∧ s.present (initIsland (s.chan ch).receiver) = true ∧ (s.chan ch).full = false ∧ tag < 2 ^ 16 ∧ sender < 32)
      ({ up with cbd := { up.cbd with prov := [(12, 0x55, 18, 2)] } }) 12 0x55 18 2) ∧
    ((fun (s : State) (code : Nat) (unit : Nat) => s.pwr.ironOn = true) up 5 6) ∧
    ((fun (s : State) => s.managerRuns = true ∧ s.domOn 0 = true ∧ s.pwr.ironOn = true) up) ∧
    ((fun (s : State) (e : IronEvent) => s.managerRuns = true ∧ s.domOn 0 = true ∧ s.pwr.ironOn = true ∧ s.iron.events
      = [e] ∧ e.keeper = false ∧ e.code ≠ 0x12) (ironLatch 5 6 up) ((ironLatch 5 6 up).iron.events.headD ⟨0, 0, 0, 0,
      false, false, false⟩)) ∧
    ((fun (s : State) (ch : Nat) (e : IronEvent) (l : List IronEvent) => ch ≤ 1 ∧ s.present 22 = true ∧ s.iron.toPost
      ch = e :: l ∧ s.cbdOn = true ∧ (s.chan ch).permits 0x1F = true ∧ s.present (initIsland (s.chan ch).receiver) =
      true ∧ (s.chan ch).full = false ∧ ch < s.cbd.ch.length) (ironLatch 5 6 up) 1 ((ironLatch 5 6
      up).iron.events.headD ⟨0, 0, 0, 0, false, false, false⟩) ([])) ∧
    ((fun (s : State) (ch : Nat) (e : IronEvent) (l : List IronEvent) => ch ≤ 1 ∧ (if ch = 0 then s.iron.wait0 else
      s.iron.wait1) = true ∧ s.present 22 = true ∧ s.iron.toPost ch = e :: l ∧ s.cbdOn = true ∧ (s.chan ch).permits
      0x1F = true ∧ s.present (initIsland (s.chan ch).receiver) = true ∧ (s.chan ch).full = false ∧ ch <
      s.cbd.ch.length) (setIronWait 0 true (ironLatch 5 6 up)) 0 ((ironLatch 5 6 up).iron.events.headD ⟨0, 0, 0, 0,
      false, false, false⟩) ([])) := by
  refine ⟨⟨by decide +kernel, by decide +kernel, by decide +kernel⟩,
    by decide +kernel,
    ⟨by decide +kernel, by decide +kernel, by decide +kernel, by decide +kernel, by decide +kernel,
      by decide +kernel, by decide +kernel, by decide +kernel, by decide +kernel, by decide +kernel,
      by decide +kernel, by decide +kernel⟩,
    ⟨by decide +kernel, by decide +kernel, by decide +kernel, by decide +kernel, by decide +kernel,
      by decide +kernel, by decide +kernel, by decide +kernel, by decide +kernel, by decide +kernel⟩,
    by decide +kernel,
    ⟨by decide +kernel, by decide +kernel, by decide +kernel⟩,
    ⟨by decide +kernel, by decide +kernel, by decide +kernel, by decide +kernel, by decide +kernel,
      by decide +kernel⟩,
    ⟨by decide +kernel, by decide +kernel, by decide +kernel, by decide +kernel, by decide +kernel,
      by decide +kernel, by decide +kernel, by decide +kernel⟩,
    ⟨by decide +kernel, by decide +kernel, by decide +kernel, by decide +kernel, by decide +kernel,
      by decide +kernel, by decide +kernel, by decide +kernel, by decide +kernel⟩⟩

/-- ClockJudges. -/
theorem witness_ClockJudges :
    ((fun (s : State) (j : Nat) (count : Nat) (g : Judge) => s.clk.judges[j]? = some g ∧ g.active = true ∧ (¬ (j = 0 ∧
      s.clk.search.isSome = true)) ∧ s.src (judgeSource j) = 2 ∧ windowPasses s j count = true) up 0 (s0count 0)
      (⟨true, 0, 0⟩)) ∧
    ((fun (s : State) (j : Nat) (count : Nat) (g : Judge) => s.clk.judges[j]? = some g ∧ g.active = true ∧ g.fails = 0
      ∧ (¬ (j = 0 ∧ s.clk.search.isSome = true)) ∧ s.src (judgeSource j) = 2 ∧ windowPasses s j count = false) up 6 0
      (⟨true, 0, 0⟩)) ∧
    ((fun (s : State) (count : Nat) (g : Judge) => s.clk.judges[0]? = some g ∧ g.active = true ∧ s.clk.search = none ∧
      s.clk.src.length = 12 ∧ s.src 1 ≠ 2 ∧ windowPasses s 0 count = true ∧ s.reg (P.ckJudgeK 0) ≤ g.passes + 1)
      ({ up with clk := { up.clk with src := [1, 1, 2, 1, 0, 0, 0, 0, 0, 0, 0, 0], judges := List.replicate 7 ⟨true, 200, 0⟩ } })
      (s0count 0) (⟨true, 200, 0⟩)) ∧
    ((fun (s : State) (j : Nat) (g : Judge) => j < 7 ∧ s.clk.judges[j]? = some g ∧ g.active = true ∧ s.clk.src.length
      = 12 ∧ s.src (judgeSource j) ≠ 2) ({ up with clk := { up.clk with src := List.replicate 12 1 } }) 1 (⟨true, 0,
      0⟩)) ∧
    ((fun (s : State) (j : Nat) => s.src (judgeSource j) = 3 ∧ j ≤ 2 ∧ (j = 0 ∨ s.src 1 = 2) ∧ j <
      s.clk.judges.length) ({ up with clk := { up.clk with src := List.replicate 12 3 } }) 0) ∧
    ((fun (s : State) => s.pwr.vaon = true ∧ s.src 2 ≠ 0 ∧ s.clk.src.length = 12) up) ∧
    ((fun (s : State) => s.pwr.vaon = true ∧ s.domOn 0 = true ∧ s.clk.src.length = 12) up) ∧
    ((fun (s : State) (c : Nat) => s.pwr.vaon = true ∧ 0 < c ∧ c ≤ 11 ∧ (c ≤ 8 → s.src c ≠ 0) ∧ s.clk.src.length = 12)
      up 9) ∧
    ((fun (s : State) (k : Nat) (count : Nat) => s.clk.search = some k ∧ k < 7)
      ({ up with clk := { up.clk with search := some 6 } }) 6 16001) ∧
    ((fun (s : State) (count : Nat) => s.clk.search = some 7 ∧ 0 < s.clk.judges.length)
      ({ up with clk := { up.clk with search := some 7 } }) 16001) ∧
    ((fun (s : State) (count : Nat) => s.clk.search = none ∧ s.clk.trimming = true)
      ({ up with clk := { up.clk with trimming := true } }) 15991) ∧
    ((fun (s : State) => s.src 1 = 2 ∧ s.clk.search = none) up) := by
  refine ⟨⟨by decide +kernel, by decide +kernel, by decide +kernel, by decide +kernel, by decide +kernel⟩,
    ⟨by decide +kernel, by decide +kernel, by decide +kernel, by decide +kernel, by decide +kernel,
      by decide +kernel⟩,
    ⟨by decide +kernel, by decide +kernel, by decide +kernel, by decide +kernel, by decide +kernel,
      by decide +kernel, by decide +kernel⟩,
    ⟨by decide +kernel, by decide +kernel, by decide +kernel, by decide +kernel, by decide +kernel⟩,
    ⟨by decide +kernel, by decide +kernel, by decide +kernel, by decide +kernel⟩,
    ⟨by decide +kernel, by decide +kernel, by decide +kernel⟩,
    ⟨by decide +kernel, by decide +kernel, by decide +kernel⟩,
    ⟨by decide +kernel, by decide +kernel, by decide +kernel, by decide +kernel, by decide +kernel⟩,
    ⟨by decide +kernel, by decide +kernel⟩,
    ⟨by decide +kernel, by decide +kernel⟩,
    ⟨by decide +kernel, by decide +kernel⟩,
    ⟨by decide +kernel, by decide +kernel⟩⟩

/-- ClockSwitches. -/
theorem witness_ClockSwitches :
    ((fun (s : State) (n : Nat) (i : Nat) => n ≠ 1 ∧ i < (islandInputs n).length ∧ s.srcGood (inputSource n i) = true
      ∧ (s.isl n).switchTo = none ∧ (s.isl n).sel ≠ i ∧ n < s.clk.islands.length) up 8 0) ∧
    ((fun (s : State) (n : Nat) (i : Nat) => (s.isl n).switchTo = some i ∧ (s.isl n).hung = false ∧ (s.isl n).waiting
      = none ∧ n < s.clk.islands.length) (up.setIsl 8 ⟨1, false, some 0, false, none, none, true⟩) 8 0) ∧
    ((fun (s : State) (n : Nat) (i : Nat) => (s.isl n).switchTo = some i ∧ bitOf (s.reg P.ckForceEn) n = false ∧
      s.cue.route = none ∧ n < s.clk.islands.length) ((up.setIsl 8 ⟨1, false, some 0, true, none, none, false⟩).setReg
      P.ckForceEn 0) 8 0) ∧
    ((fun (s : State) (n : Nat) (i : Nat) => (s.isl n).switchTo = some i ∧ bitOf (s.reg P.ckForceEn) n = true ∧
      s.clk.islands.length = 24 ∧ n < 24) ((up.setIsl 8 ⟨1, false, some 0, true, none, none, false⟩).setReg
      P.ckForceEn 0x100) 8 0) ∧
    ((fun (s : State) (f : Nat × Nat × Nat) => (s.isl 0).forced = some f ∧ 0 < s.clk.islands.length) (up.setIsl 0 ⟨0,
      true, none, false, none, some (6, 0, 2), false⟩) (6, 0, 2)) ∧
    ((fun (s : State) (n : Nat) (f : Nat × Nat × Nat) => 0 < n ∧ n < 24 ∧ (s.isl n).forced = some f ∧
      s.clk.islands.length = 24) (up.setIsl 8 ⟨0, true, none, false, none, some (6, 0, 2), false⟩) 8 (6, 0, 2)) ∧
    ((fun (s : State) (p : Nat) => p < 4 ∧ s.clk.pllOn.length = 4 ∧ s.src (5 + p) = 3 ∧ s.clk.pllHeld.getD p false =
      false ∧ s.pwr.boot = .running ∧ s.src 1 = 2)
      ({ up with clk := { up.clk with src := List.replicate 12 2 |>.set 6 3 } }) 1) ∧
    ((fun (s : State) (p : Nat) => s.clk.pllHeld.getD p false = true ∧ s.src (5 + p) = 3)
      ({ up with clk := { up.clk with src := List.replicate 12 2 |>.set 6 3, pllHeld := [false, true, false, false] } })
      1) ∧
    ((fun (s : State) (p : Nat) => p ≠ 3 ∧ s.clk.pllOn.getD p false = true ∧ s.src 1 = 2 ∧ 3 + p <
      s.clk.judges.length) ({ up with clk := { up.clk with pllOn := [true, false, false, false] } }) 0) ∧
    ((fun (s : State) (c : Nat) (d : Nat) => s.pwr.vio18 = true ∧ c ≤ 8 ∧ d < 16 ∧ s.reg P.ckObsSel = 16 * c + d)
      (up.setReg P.ckObsSel 0x13) 1 3) := by
  refine ⟨⟨by decide +kernel, by decide +kernel, by decide +kernel, by decide +kernel, by decide +kernel, by decide +kernel⟩,
    ⟨by decide +kernel, by decide +kernel, by decide +kernel, by decide +kernel⟩,
    ⟨by decide +kernel, by decide +kernel, by decide +kernel, by decide +kernel⟩,
    ⟨by decide +kernel, by decide +kernel, by decide +kernel, by decide +kernel⟩,
    ⟨by decide +kernel, by decide +kernel⟩,
    ⟨by decide +kernel, by decide +kernel, by decide +kernel, by decide +kernel⟩,
    ⟨by decide +kernel, by decide +kernel, by decide +kernel, by decide +kernel, by decide +kernel,
      by decide +kernel⟩,
    ⟨by decide +kernel, by decide +kernel⟩,
    ⟨by decide +kernel, by decide +kernel, by decide +kernel, by decide +kernel⟩,
    ⟨by decide +kernel, by decide +kernel, by decide +kernel, by decide +kernel⟩⟩

/-- Supplies. -/
theorem witness_Supplies :
    ((fun (s : State) (mv : Nat) => 8800 ≤ mv) up 8800) ∧
    ((fun (s : State) (mv : Nat) => s.pwr.coreEn = true ∧ 776 ≤ mv) up 900) ∧
    ((fun (s : State) (mv : Nat) => s.pwr.srdEn = true ∧ 873 ≤ mv) up 900) ∧
    ((fun (s : State) (mv : Nat) => mv < 830 ∧ s.pwr.dom.length = 64) up 829) ∧
    ((fun (s : State) (mv : Nat) => s.pwr.boot ≠ .running ∧ s.pwr.boot ≠ .waitVcore)
      ({ up with pwr := { up.pwr with boot := .romHold } }) 8400) ∧
    ((fun (s : State) (mv : Nat) => s.pwr.boot = .waitVcore) ({ up with pwr := { up.pwr with boot := .waitVcore } })
      8400) ∧
    ((fun (s : State) (mv : Nat) => s.pwr.boot = .running ∧ s.pwr.failing = false ∧ s.pwr.dom.length = 64) up 8400) ∧
    ((fun (s : State) (us : Nat) (mv : Nat) => s.pwr.failing = true)
      ({ up with pwr := { up.pwr with failing := true } }) 5000 2800) ∧
    ((fun (s : State) (k : Nat × List Instr) => s.ok k) up ((0, []))) ∧
    ((fun (s : State) => s.pwr.dom.length = 64) State.reset) ∧
    ((fun (s : State) => s.pwr.dom.length = 64) up) ∧
    ((fun (s : State) => s.pwr.vsup = true ∧ s.pwr.failing = false) up) ∧
    ((fun (s : State) => s.pwr.dom.length = 64) up) ∧
    ((fun (s : State) => s.pwr.ironOn = false ∧ s.pwr.dom.length = 64) State.reset) ∧
    ((fun (s : State) => s.pwr.dom.length = 64) State.reset) := by
  refine ⟨by decide +kernel,
    ⟨by decide +kernel, by decide +kernel⟩,
    ⟨by decide +kernel, by decide +kernel⟩,
    ⟨by decide +kernel, by decide +kernel⟩,
    ⟨by decide +kernel, by decide +kernel⟩,
    by decide +kernel,
    ⟨by decide +kernel, by decide +kernel, by decide +kernel⟩,
    by decide +kernel,
    (by unfold State.ok; decide +kernel),
    by decide +kernel,
    by decide +kernel,
    ⟨by decide +kernel, by decide +kernel⟩,
    by decide +kernel,
    ⟨by decide +kernel, by decide +kernel⟩,
    by decide +kernel⟩

/-- StartsAndBoot. -/
theorem witness_StartsAndBoot :
    ((fun (s : State) => s.pwr.resetArmed = true) ({ up with pwr := { up.pwr with resetArmed := true } })) ∧
    ((fun (s : State) => s.pwr.deferred = true ∧ s.pwr.boot = .running ∧ s.pwr.vsup = true ∧ s.pwr.vcore = true)
      ({ up with pwr := { up.pwr with deferred := true } })) ∧
    ((fun (s : State) => s.pwr.boot = .held ∧ s.pwr.vaon = true) State.reset) ∧
    ((fun (s : State) (other : Bool) => s.pwr.boot = .rom ∧ slotHashes s (loaderCurrent s) = true ∧ stagedWaiting
      (ensureReady s) = false) upRom false) ∧
    ((fun (s : State) (current : Bool) (other : Bool) => s.pwr.boot = .rom ∧ (current && slotHashes s (loaderCurrent
      s)) = false ∧ (other && slotHashes s (1 - loaderCurrent s)) = false) upRom false true) ∧
    ((fun (s : State) (current : Bool) => s.pwr.boot = .rom ∧ (current && slotHashes s (loaderCurrent s)) = false ∧
      slotHashes s (1 - loaderCurrent s) = true ∧ stagedWaiting (ensureReady s) = false) ((upRom.setWords 0x02060000
      ldrW).setWord 0x02060000 0 |>.setWords 0x02040000 (0 :: ldrW.drop 1) |>.setWords 0x02060000 ldrW) true) ∧
    ((fun (s : State) => s.pwr.boot = .waitVcore ∧ s.pwr.vcore = true ∧ s.pwr.vsup = true)
      ({ up with pwr := { up.pwr with boot := .waitVcore } })) ∧
    ((fun (s : State) => s.pwr.boot = .waitVcore) ({ up with pwr := { up.pwr with boot := .waitVcore } })) ∧
    ((fun (s : State) => s.pwr.boot = .romHold ∧ s.pwr.vio33 = true)
      ({ up with pwr := { up.pwr with boot := .romHold } })) ∧
    ((fun (s : State) => s.pwr.boot = .handOver) ({ up with pwr := { up.pwr with boot := .handOver } })) := by
  refine ⟨by decide +kernel,
    ⟨by decide +kernel, by decide +kernel, by decide +kernel, by decide +kernel⟩,
    ⟨by decide +kernel, by decide +kernel⟩,
    ⟨by decide +kernel, by decide +kernel, by decide +kernel⟩,
    ⟨by decide +kernel, by decide +kernel, by decide +kernel⟩,
    ⟨by decide +kernel, by decide +kernel, by decide +kernel, by decide +kernel⟩,
    ⟨by decide +kernel, by decide +kernel, by decide +kernel⟩,
    by decide +kernel,
    ⟨by decide +kernel, by decide +kernel⟩,
    by decide +kernel⟩

/-- DomainsAndTiers. -/
theorem witness_DomainsAndTiers :
    ((fun (s : State) => s.pwr.boot = .running ∧ groupRuns s = false ∧ groupToDrop s (wantedDomains s (aimTier s)) =
      none ∧ aimTier s ≠ tierK ∧ (s.pwr.coreEn = false ∨ s.pwr.srdEn = false))
      ({ State.reset with pwr := { State.reset.pwr with boot := .running, vsup := true }, clk := up.clk })) ∧
    ((fun (s : State) (g : Nat) => s.pwr.boot = .running ∧ groupRuns s = false ∧ groupToDrop s (wantedDomains s
      (aimTier s)) = none ∧ aimTier s ≠ tierK ∧ s.pwr.coreEn = true ∧ s.pwr.srdEn = true ∧ groupToStart s
      (wantedDomains s (aimTier s)) (aimTier s) = some g ∧ groupReady s g = true ∧ s.pwr.dom.length = 64)
      ({ (up.setDom 13 .off) with pwr := { (up.setDom 13 .off).pwr with vsupHeld := true } }.setReg P.pwTierReq 0x46)
      2) ∧
    ((fun (s : State) (d : Nat) => s.pwr.boot = .running ∧ d < 64 ∧ domainAllowed s d = true ∧ s.dom d = .off ∧
      s.pwr.dom.length = 64) (up.setDom 13 .off) 13) ∧
    ((fun (s : State) (d : Nat) (k : Nat × List Instr) => s.ok k ∧ s.dom d = .rising) (up.setDom 13 .rising) 13 ((0,
      []))) ∧
    ((fun (s : State) (d : Nat) (k : Nat × List Instr) => s.ok k ∧ s.dom d = .rising) (up.setDom 13 .rising) 13 ((0,
      []))) ∧
    ((fun (s : State) (d : Nat) (k : Nat × List Instr) => s.ok k ∧ s.pwr.boot = .running ∧ switchOffRefused d s =
      false ∧ 3 ≤ d ∧ d < 52 ∧ s.dom d = .on ∧ retains s d = false) up 13 ((0, []))) ∧
    ((fun (s : State) (t0 : Int) (t1 : Int) => s.pwr.boot = .running ∧ -32768 ≤ max t0 t1 ∧ max t0 t1 < 32768 ∧
      thermLevelFor s (max t0 t1) ≤ s.reg P.pwThermLevel) up (-400) 350) ∧
    ((fun (s : State) => s.pwr.thermBelow.isSome = true ∧ 0 < s.reg P.pwThermLevel)
      ({ (up.setReg P.pwThermLevel 1) with pwr := { up.pwr with thermBelow := some 0 } })) ∧
    ((fun (s : State) (init : Nat) (addr : Nat) => s.pwr.boot = .running ∧ s.present (initIsland init) = true ∧
      initIsland init = 0) up 0x0C 0x02001000) := by
  refine ⟨⟨by decide +kernel, by decide +kernel, by decide +kernel, by decide +kernel, by decide +kernel⟩,
    ⟨by decide +kernel, by decide +kernel, by decide +kernel, by decide +kernel, by decide +kernel,
      by decide +kernel, by decide +kernel, by decide +kernel, by decide +kernel⟩,
    ⟨by decide +kernel, by decide +kernel, by decide +kernel, by decide +kernel, by decide +kernel⟩,
    ⟨(by unfold State.ok; decide +kernel), by decide +kernel⟩,
    ⟨(by unfold State.ok; decide +kernel), by decide +kernel⟩,
    ⟨(by unfold State.ok; decide +kernel), by decide +kernel, by decide +kernel, by decide +kernel,
      by decide +kernel, by decide +kernel, by decide +kernel⟩,
    ⟨by decide +kernel, by decide +kernel, by decide +kernel, by decide +kernel⟩,
    ⟨by decide +kernel, by decide +kernel⟩,
    ⟨by decide +kernel, by decide +kernel, by decide +kernel⟩⟩

/-- ArrayAccesses. -/
theorem witness_ArrayAccesses :
    ((fun (s : State) (init : Nat) (addr : Nat) => mramAdmit s init addr false = stOk ∧ readsZero (regionOf addr) =
      false) up 1 0x02001000) ∧
    ((fun (s : State) (init : Nat) (addr : Nat) (b : Nat) (c : Nat) => mramAdmit s init addr false = stOk ∧ liveErrs s
      (addr / 16 * 16) [b, c] = [b, c] ∧ readsZero (regionOf addr) = false) up 1 0x02001000 4 9) ∧
    ((fun (s : State) (init : Nat) (addr : Nat) (b : Nat) => mramAdmit s init addr false = stOk ∧ liveErrs s (addr /
      16 * 16) [b] = [b] ∧ readsZero (regionOf addr) = false ∧ knownColumn s (bankOf (addr / 16 * 16)) (subOf (addr /
      16 * 16)) (slotOf (addr / 16 * 16)) b = false ∧ columnSeen s (addr / 16 * 16) b = false) up 1 0x02001000 4) ∧
    ((fun (s : State) (init : Nat) (addr : Nat) (w : Nat) => mramAdmit s init addr true = stOk ∧ w < 2 ^ 128 ∧
      Memory.wf s.mem = true) up 0x0C 0x02C00040 0x123456789) ∧
    ((fun (s : State) (init : Nat) (addr : Nat) (be : Nat) (w : Nat) => mramAdmit s init addr true = stOk ∧ Memory.wf
      s.mem = true) (up.setWord 0x02C00040 0x55667788) 0x0C 0x02C00040 0x000F 0x1122334455) ∧
    ((fun (s : State) (p : Nat) => s.present 14 = true ∧ s.reg P.smgTier ≠ 0x4B ∧ s.reg P.pbkScrubPos = p ∧ s.domOn
      (28 + bits p 20 18) = true ∧ s.mram.refDone = true ∧ bits p 17 0 + 8 < 262144)
      ({ (up.setReg P.smgTier 0x57) with mram := { MramState.reset with refDone := true } }) 0) ∧
    ((fun (s : State) (e : Repair) (a : Nat) => s.present 14 = true ∧ s.mram.repairs = [e] ∧ e.done = false ∧ e.row <
      4096 ∧ e.bank < 8 ∧ e.sub < 8 ∧ e.slot < 8 ∧ e.missed = [] ∧ a = columnAddr e.bank e.sub e.slot + 1024 * e.row ∧
      s.wrongAt a = [] ∧ Memory.wf s.mem = true)
      ({ up with mram := { MramState.reset with repairs := [⟨1, 2, 3, 4, 0, 17, false, 5, []⟩] } }) (⟨1, 2, 3, 4, 0,
      17, false, 5, []⟩) (columnAddr 1 2 3 + 1024 * 17)) ∧
    ((fun (s : State) (e : Repair) => s.present 14 = true ∧ s.mram.repairs = [e] ∧ e.done = false ∧ e.row = 4096 ∧
      s.jnl.ready = true)
      ({ up with mram := { MramState.reset with repairs := [⟨1, 2, 3, 4, 0, 4096, false, 5, []⟩] } }) (⟨1, 2, 3, 4, 0,
      4096, false, 5, []⟩)) ∧
    ((fun (s : State) (b : Nat) => s.mram.op = some (1, b, 0))
      ({ up with mram := { MramState.reset with op := some (1, 3, 0) } }) 3) ∧
    ((fun (s : State) (b : Nat) (d : Nat) => s.mram.op = some (2, b, d) ∧ Memory.wf s.mem = true)
      ({ up.setWord 0x02800040 0x55667788 with mram := { MramState.reset with op := some (2, 2, 5) } }) 2 5) ∧
    ((fun (s : State) (b : Nat) => s.mram.op = some (3, b, 0))
      ({ up.setWord 0x02800040 0x55667788 with mram := { MramState.reset with op := some (3, 2, 0) } }) 2) := by
  refine ⟨⟨by decide +kernel, by decide +kernel⟩,
    ⟨by decide +kernel, by decide +kernel, by decide +kernel⟩,
    ⟨by decide +kernel, by decide +kernel, by decide +kernel, by decide +kernel, by decide +kernel⟩,
    ⟨by decide +kernel, by decide +kernel, by decide +kernel⟩,
    ⟨by decide +kernel, by decide +kernel⟩,
    ⟨by decide +kernel, by decide +kernel, by decide +kernel, by decide +kernel, by decide +kernel,
      by decide +kernel⟩,
    ⟨by decide +kernel, by decide +kernel, by decide +kernel, by decide +kernel, by decide +kernel,
      by decide +kernel, by decide +kernel, by decide +kernel, by decide +kernel, by decide +kernel,
      by decide +kernel⟩,
    ⟨by decide +kernel, by decide +kernel, by decide +kernel, by decide +kernel, by decide +kernel⟩,
    by decide +kernel,
    ⟨by decide +kernel, by decide +kernel⟩,
    by decide +kernel⟩

/-- CommitsAndCompaction. -/
theorem witness_CommitsAndCompaction :
    ((fun (s : State) (who : Nat) (j : JReq) => s.jnl.ready = true ∧ s.bookPowered = true ∧ s.jnl.slot = none ∧
      s.jnl.held = [] ∧ s.judgeCommit j = .accepted ∧ Memory.wf s.mem = true ∧ s.nextSeq + 1 < 2 ^ 48) up 7 (⟨0x31,
      99, [5, 6], false⟩)) ∧
    ((fun (s : State) (who : Nat) (j : JReq) => s.jnl.ready = true ∧ s.bookPowered = true ∧ s.jnl.keeper = false ∧
      s.jnl.slot = none ∧ s.judgeCommit j = .busy)
      ({ up with jnl := { up.jnl with window := [(1000 * second, 1000000)] } }) 7 (⟨0x31, 99, [5, 6], false⟩)) ∧
    ((fun (s : State) (who : Nat) (r : Rec) => s.jnl.slot = some (who, r) ∧ s.jnl.owed = [] ∧ s.jnl.keeper = false ∧
      Memory.wf s.mem = true ∧ s.fill + r.words < 2 ^ 32)
      ({ up with jnl := { up.jnl with slot := some (7, ⟨1, 0x31, 99, [5, 6]⟩) } }) 7 (⟨1, 0x31, 99, [5, 6]⟩)) ∧
    ((fun (s : State) (c : Compaction) (typ : Nat) (st : Nat) (p : List Nat) => s.jnl.comp = some c ∧ s.jnl.slot =
      none ∧ c.todo = [(typ, st, p)] ∧ p.length + 2 ≤ 1024 ∧ s.nextSeq + 1 < 2 ^ 48)
      ({ up with jnl := { up.jnl with comp := some ⟨3, [(3, 4, [5, 6])], 2, 1, 2, []⟩ } }) (⟨3, [(3, 4, [5, 6])], 2,
      1, 2, []⟩) 3 4 [5, 6]) ∧
    ((fun (s : State) (c : Compaction) => s.jnl.comp = some c ∧ s.jnl.slot = none ∧ s.jnl.held = [] ∧ s.jnl.keeper =
      false ∧ c.todo = [] ∧ s.tail c.carried = [] ∧ c.pos + 3 < 2 ^ 32 ∧ s.nextSeq + 1 < 2 ^ 48)
      ({ up with jnl := { up.jnl with comp := some ⟨3, [], 2, 1, 2, []⟩ } }) (⟨3, [], 2, 1, 2, []⟩)) ∧
    ((fun (s : State) (us : Nat) (bad : List Nat) => s.domOn 36 = true ∧ s.jnl.ready = false ∧ (scanHalf s bad 1
      131073 Scan.start).complete = false ∧ (scanHalf s bad 2 131073 Scan.start).complete = false ∧ us < 2 ^ 16)
      ({ up with jnl := JnlState.reset }) 5000 ([])) ∧
    ((fun (s : State) (who : Nat) (j : JReq) => s.pwr.dom.length = 64) up 7 (⟨0x31, 99, [5, 6], false⟩)) := by
  refine ⟨⟨by decide +kernel, by decide +kernel, by decide +kernel, by decide +kernel, by decide +kernel, by decide +kernel,
      by decide +kernel⟩,
    ⟨by decide +kernel, by decide +kernel, by decide +kernel, by decide +kernel, by decide +kernel⟩,
    ⟨by decide +kernel, by decide +kernel, by decide +kernel, by decide +kernel, by decide +kernel⟩,
    ⟨by decide +kernel, by decide +kernel, by decide +kernel, by decide +kernel, by decide +kernel⟩,
    ⟨by decide +kernel, by decide +kernel, by decide +kernel, by decide +kernel, by decide +kernel,
      by decide +kernel, by decide +kernel, by decide +kernel⟩,
    ⟨by decide +kernel, by decide +kernel, by decide +kernel, by decide +kernel, by decide +kernel⟩,
    by decide +kernel⟩

/-- SafetyInputs. -/
theorem witness_SafetyInputs :
    ((fun (s : State) (ch : Nat) (n : Nat) (c : Nat) (shut : Bool) => chanAlive s ch = true ∧ ch < s.saf.chans.length
      ∧ roleOf s ch n = 0) ({ upS with jnl := up.jnl }) 1 2 0 true) ∧
    ((fun (s : State) (n : Nat) => s.present 8 = true ∧ s.saf.chans.length = 2 ∧ n < 8 ∧ s.reg (P.wdnSiRole n) = 1 ∧
      s.reg (P.wdnSiPairing n) = 0 ∧ inDemand s 1 n = false ∧ (s.saf? 1).closed.length = 16) ((setSwitches 63 63
      ((upS.setReg (P.wdnSiRole 2) 1).setReg (P.wdnSiPairing 2) 0)).setChan' 1
      { SafChan.reset 0 with closed := List.replicate 16 true }) 2) ∧
    ((fun (s : State) (ch : Nat) (n : Nat) => chanAlive s ch = true ∧ ch < s.saf.chans.length ∧ inDiscrepancy s ch n =
      true ∧ bitOf (s.saf? ch).disc n = false) (upS.setChan' 1
      { SafChan.reset 0 with closed := true :: List.replicate 15 false }) 1 0) ∧
    ((fun (s : State) (n : Nat) => s.present 8 = true ∧ s.pwr.ironOn = false ∧ s.saf.chans.length = 2 ∧ (s.saf?
      1).tpFails.length = 8 ∧ n < 8 ∧ s.reg (P.wdnSiTest n) ≠ 0 ∧ (s.saf? 1).tpFails.getD n 0 = 0)
      ({ upS with pwr := { upS.pwr with ironOn := false } }.setReg (P.wdnSiTest 3) 1) 3) ∧
    ((fun (s : State) (n : Nat) => s.present 8 = true ∧ s.pwr.ironOn = false ∧ s.saf.chans.length = 2 ∧ (s.saf?
      1).tpFails.length = 8 ∧ n < 8 ∧ s.reg (P.wdnSiTest n) ≠ 0 ∧ (s.saf? 1).tpFails.getD n 0 = 1 ∧ bitOf (s.saf?
      1).tp n = false) (({ upS with pwr := { upS.pwr with ironOn := false } }.setReg (P.wdnSiTest 3) 1).setChan' 1
      { SafChan.reset 0 with tpFails := List.replicate 8 1 }) 3) ∧
    ((fun (s : State) (p : Nat) (n : Nat) => n < 8 ∧ roleOf s 1 n = 4 ∧ chanVal s 1 (P.wdnSiTarget n) % 8 = p ∧
      inDemand s 1 n = true ∧ pairClosed s p = false ∧ s.saf.chans.length = 2) ((upS.setReg (P.wdnSiRole 3) 4).setReg
      (P.wdnSiTarget 3) 3) 3 3) := by
  refine ⟨⟨by decide +kernel, by decide +kernel, by decide +kernel⟩,
    ⟨by decide +kernel, by decide +kernel, by decide +kernel, by decide +kernel, by decide +kernel,
      by decide +kernel, by decide +kernel⟩,
    ⟨by decide +kernel, by decide +kernel, by decide +kernel, by decide +kernel⟩,
    ⟨by decide +kernel, by decide +kernel, by decide +kernel, by decide +kernel, by decide +kernel,
      by decide +kernel, by decide +kernel⟩,
    ⟨by decide +kernel, by decide +kernel, by decide +kernel, by decide +kernel, by decide +kernel,
      by decide +kernel, by decide +kernel, by decide +kernel⟩,
    ⟨by decide +kernel, by decide +kernel, by decide +kernel, by decide +kernel, by decide +kernel,
      by decide +kernel⟩⟩

/-- SafetyOutputs. -/
theorem witness_SafetyOutputs :
    ((fun (s : State) (p : Nat) => p < 6 ∧ s.saf.chans.length = 2) (setSwitches 63 63 upS) 2) ∧
    ((fun (s : State) (p : Nat) => p < 6 ∧ s.saf.chans.length = 2) (setSwitches 63 63 upS) 5) ∧
    ((fun (s : State) => s.saf.chans.length = 2) (setSwitches 63 63 upS)) ∧
    ((fun (s : State) (p : Nat) (ok2 : Bool) (ok6 : Bool) => p < 6 ∧ s.saf.chans.length = 2 ∧ pairClosed s p = true ∧
      s.reg (P.wdnSoDark p) ≠ 0 ∧ (ok2 && ok6) = false) ((setSwitches 63 63 upS).setReg (P.wdnSoDark 2) 1) 2 true
      false) ∧
    ((fun (s : State) (p : Nat) (ok2 : Bool) (ok6 : Bool) => s.reg (P.wdnSoDark p) = 0 ∧ pairMissing s = false)
      ((setSwitches 63 63 upS).setReg (P.wdnSoDark 2) 0) 2 true false) ∧
    ((fun (s : State) (temp : Int) => s.pwr.ironOn = true ∧ s.saf.chans.length = 2 ∧ 1500 < temp ∧ temp < 32768 ∧
      bitOf (s.saf? 0).lat 2 = false) (setSwitches 63 63 upS) 1501) ∧
    ((fun (s : State) (edges : Nat) => s.pwr.ironOn = true ∧ s.saf.chans.length = 2 ∧ chanVal s 0 P.irnOverspeed < 400
      * edges ∧ bitOf (s.saf? 0).lat 12 = false) (setSwitches 63 63 upS) 1000000) := by
  refine ⟨⟨by decide +kernel, by decide +kernel⟩,
    ⟨by decide +kernel, by decide +kernel⟩,
    by decide +kernel,
    ⟨by decide +kernel, by decide +kernel, by decide +kernel, by decide +kernel, by decide +kernel⟩,
    ⟨by decide +kernel, by decide +kernel⟩,
    ⟨by decide +kernel, by decide +kernel, by decide +kernel, by decide +kernel, by decide +kernel⟩,
    ⟨by decide +kernel, by decide +kernel, by decide +kernel, by decide +kernel⟩⟩

/-- PrompterAndBlocks. -/
theorem witness_PrompterAndBlocks :
    ((fun (s : State) (word : Nat) (dt : Nat) => s.pwr.ironOn = true ∧ s.saf.prFirst = false ∧ 8000 ≤ dt ∧ dt ≤ 12000
      ∧ bits word 31 16 = challengeCheck s ∧ bits word 13 6 = demandBits s 0 ∧ bits word 5 0 = lowSide s ∧ s.saf.prOk
      + 1 ≠ 4 ∧ pairMissing s = false) upS (challengeCheck upS * 65536 + demandBits upS 0 * 64 + lowSide upS) 10000) ∧
    ((fun (s : State) (word : Nat) (dt : Nat) (aborted : Bool) => s.pwr.ironOn = true ∧ s.saf.chans.length = 2 ∧
      s.saf.prFirst = false ∧ dt < 8000) (setSwitches 63 63 upS) 0 7999 false) ∧
    ((fun (s : State) => s.pwr.ironOn = true ∧ s.saf.chans.length = 2) (setSwitches 63 63 upS)) ∧
    ((fun (s : State) => s.present 8 = true ∧ s.saf.chans.length = 2) (setSwitches 63 63 upS)) ∧
    ((fun (s : State) => s.pwr.ironOn = true ∧ s.present 8 = true ∧ s.present 22 = true) upS) ∧
    ((fun (s : State) => s.pwr.ironOn = true ∧ s.present 8 = true ∧ s.present 22 = true ∧ blocksAgree s = true ∧ 0 <
      s.saf.chans.length)
      ({ upS with saf := { upS.saf with loaded := true, chans := [{ SafChan.reset 0 with lat := 0x8000 }, SafChan.reset 0], copy := blockGroups.flatMap fun g => blockValues upS g } })) ∧
    ((fun (s : State) => s.pwr.ironOn = true ∧ s.present 8 = true ∧ s.present 22 = true ∧ s.saf.chans.length = 2 ∧
      blocksAgree s = false) (setSwitches 63 63 ({ upS with saf := { upS.saf with loaded := true } }.setReg
      P.irnOverspeed 77))) := by
  refine ⟨⟨by decide +kernel, by decide +kernel, by decide +kernel, by decide +kernel, by decide +kernel, by decide +kernel,
      by decide +kernel, by decide +kernel, by decide +kernel⟩,
    ⟨by decide +kernel, by decide +kernel, by decide +kernel, by decide +kernel⟩,
    ⟨by decide +kernel, by decide +kernel⟩,
    ⟨by decide +kernel, by decide +kernel⟩,
    ⟨by decide +kernel, by decide +kernel, by decide +kernel⟩,
    ⟨by decide +kernel, by decide +kernel, by decide +kernel, by decide +kernel, by decide +kernel⟩,
    ⟨by decide +kernel, by decide +kernel, by decide +kernel, by decide +kernel, by decide +kernel⟩⟩

/-- BrakeAndSpeed. -/
theorem witness_BrakeAndSpeed :
    ((fun (s : State) (m : Nat) => s.present 8 = true ∧ atHome s = true ∧ brakeDue s = true ∧ bitOf (mayHold s 1) 5 =
      true ∧ m ≤ s.reg P.wdnBrakeMax ∧ s.fly.phase = .rest ∧ s.now < 2 ^ 64) ((upS.setReg P.flyStatus 0x20).setRegI
      P.flyPos 1000) 0) ∧
    ((fun (s : State) (m : Nat) => s.present 8 = true ∧ atHome s = true ∧ brakeDue s = true ∧ bitOf (mayHold s 1) 5 =
      true ∧ s.reg P.wdnBrakeMax < m ∧ s.saf.chans.length = 2) ((upS.setReg P.flyStatus 0x20).setRegI P.flyPos 1000)
      70000) ∧
    ((fun (s : State) => s.present 8 = true ∧ brakeDue s = true ∧ atHome s = false) upS) ∧
    ((fun (s : State) (v : Int) => s.present 8 = true ∧ s.saf.chans.length = 2 ∧ s.reg P.wdnSlsLimit ≠ 0 ∧ s.reg
      P.wdnSlsLimit < v.natAbs ∧ v.natAbs < 2 ^ 31) (upS.setReg P.wdnSlsLimit 100) (-101)) ∧
    ((fun (s : State) => s.saf.ss1.isSome = true) (setSwitches 63 63
      { upS with saf := { upS.saf with ss1 := some 5 } })) ∧
    ((fun (s : State) (a : Int) (b : Int) => s.present 8 = true ∧ s.present 21 = true ∧ (a - b).natAbs ≤ 8 ∧ b.natAbs
      < 500000 ∧ flyBit s 10 = false ∧ flyBit s 11 = false) upS 12 10) ∧
    ((fun (s : State) (a : Int) (b : Int) => s.present 8 = true ∧ s.present 21 = true ∧ flyBit s 12 = false)
      (setSwitches 63 63 upS) 12 10) := by
  refine ⟨⟨by decide +kernel, by decide +kernel, by decide +kernel, by decide +kernel, by decide +kernel, by decide +kernel,
      by decide +kernel⟩,
    ⟨by decide +kernel, by decide +kernel, by decide +kernel, by decide +kernel, by decide +kernel,
      by decide +kernel⟩,
    ⟨by decide +kernel, by decide +kernel, by decide +kernel⟩,
    ⟨by decide +kernel, by decide +kernel, by decide +kernel, by decide +kernel, by decide +kernel⟩,
    by decide +kernel,
    ⟨by decide +kernel, by decide +kernel, by decide +kernel, by decide +kernel, by decide +kernel,
      by decide +kernel⟩,
    ⟨by decide +kernel, by decide +kernel, by decide +kernel⟩⟩

/-- FlyEncoder. -/
theorem witness_FlyEncoder :
    ((fun (s : State) (d : Int) (gap : Nat) => s.present 21 = true ∧ s.fly.phase = .rest ∧ s.fly.newTarget = none ∧
      flyBit s 9 = false ∧ s.reg P.flyOutMode = 0 ∧ s.pwr.vio33 = true ∧ -2147483648 ≤ s.regI P.flyPos + d ∧ s.regI
      P.flyPos + d < 2147483648) (upF .rest .none) (-3) 2000) ∧
    ((fun (s : State) => s.present 21 = true) (upF .rest .none)) ∧
    ((fun (s : State) => s.present 21 = true ∧ s.fly.goal ≠ .homeIndex) (upF .rest .none)) ∧
    ((fun (s : State) => s.present 21 = true ∧ s.fly.goal = .homeIndex) (upF .run .homeIndex)) ∧
    ((fun (s : State) => s.present 21 = true ∧ flyBit s 11 = false ∧ 2000 ≤ s.fly.quiet)
      ({ up with fly := { up.fly with quiet := 2000 } })) ∧
    ((fun (s : State) => s.fly.goal = .homeOut) (upF .run .homeOut)) ∧
    ((fun (s : State) => s.fly.goal = .homeBack) (upF .run .homeBack)) ∧
    ((fun (s : State) => s.present 21 = true ∧ flyBit s 2 = false ∧ 0 ≤ s.fly.dir ∧ s.reg P.flyToothEn = 0 ∧ s.regI
      P.flyToothCount < 32767) ((upF .run .target).setReg P.flyToothEn 0)) ∧
    ((fun (s : State) => s.present 21 = true ∧ s.reg P.flyToothEn ≠ 0 ∧ flyBit s 3 = true ∧ flyBit s 9 = false ∧
      flyBit s 10 = false ∧ 3 * (s.reg P.flyToothPitch : Int) < twiceTravel s s.fly.lastTooth) ((((upF .run
      .target).setReg P.flyToothEn 1).setReg P.flyStatus 8).setRegI P.flyPos 100000)) := by
  refine ⟨⟨by decide +kernel, by decide +kernel, by decide +kernel, by decide +kernel, by decide +kernel, by decide +kernel,
      by decide +kernel, by decide +kernel⟩,
    by decide +kernel,
    ⟨by decide +kernel, by decide +kernel⟩,
    ⟨by decide +kernel, by decide +kernel⟩,
    ⟨by decide +kernel, by decide +kernel, by decide +kernel⟩,
    by decide +kernel,
    by decide +kernel,
    ⟨by decide +kernel, by decide +kernel, by decide +kernel, by decide +kernel, by decide +kernel⟩,
    ⟨by decide +kernel, by decide +kernel, by decide +kernel, by decide +kernel, by decide +kernel,
      by decide +kernel⟩⟩

/-- FlyMotion. -/
theorem witness_FlyMotion :
    ((fun (s : State) => s.fly.phase = .sto ∧ pairClosed s 5 = true ∧ s.pwr.vsup = true ∧ s.pwr.failing = false ∧
      bitOf (mayHold s 0) 4 = true ∧ bitOf (mayHold s 1) 4 = true) (setSwitches 32 32 (upF .sto .target))) ∧
    ((fun (s : State) => s.fly.phase = .brake ∧ pairClosed s 4 = true) (setSwitches 48 48 (upF .brake .target))) ∧
    ((fun (s : State) => s.fly.phase = .run ∧ s.fly.goal = .target ∧ (s.regI P.flyPos - s.fly.goalPos).natAbs ≤ s.reg
      P.flyInPosTol ∧ (s.regI P.flySpeed).natAbs < 20) (setSwitches 48 48 (upF .run .target))) ∧
    ((fun (s : State) => s.fly.phase = .hold) (upF .hold .none)) ∧
    ((fun (s : State) (k : Nat) (positive : Bool) (high : Bool) => s.present 21 = true ∧ k < 16 ∧ cueArmed s k
      positive = true ∧ flyBit s 9 = false ∧ bits (s.reg (P.flyCueCtrl k)) 3 0 = 3 ∧ s.pwr.vio33 = true) (up.setReg
      (P.flyCueCtrl 4) 0x63) 4 true false) := by
  refine ⟨⟨by decide +kernel, by decide +kernel, by decide +kernel, by decide +kernel, by decide +kernel, by decide +kernel⟩,
    ⟨by decide +kernel, by decide +kernel⟩,
    ⟨by decide +kernel, by decide +kernel, by decide +kernel, by decide +kernel⟩,
    by decide +kernel,
    ⟨by decide +kernel, by decide +kernel, by decide +kernel, by decide +kernel, by decide +kernel,
      by decide +kernel⟩⟩

/-- PilotAndLimit. -/
theorem witness_PilotAndLimit :
    ((fun (s : State) (h : Int) (l : Int) => pilotOn s = false) State.reset 9000 0) ∧
    ((fun (s : State) (h : Int) (l : Int) => pilotOn s = true ∧ s.veh.drive = .high ∧ 8000 ≤ h ∧ h ≤ 10000 ∧ ses s = 0
      ∧ sessionsAllowed s = true ∧ dcPost s = false ∧ s.veh.changes.length + 1 ≤ s.reg P.wdnChatterMax) (upV 0 false
      .high) 9000 9000) ∧
    ((fun (s : State) (h : Int) (l : Int) => pilotOn s = true ∧ s.veh.drive = .high ∧ -1000 ≤ h ∧ h ≤ 1000)
      (setSwitches 63 63 (upV 5 true .high)) 0 0) ∧
    ((fun (s : State) (ohm : Nat) => pilotOn s = true ∧ s.present 8 = true ∧ ses s = 0 ∧ s.veh.slacAt = none ∧ ohm <
      65536) (upV 0 false .high) 220) ∧
    ((fun (s : State) => ses s = 5 ∧ s.veh.paused = true ∧ s.veh.dc = false ∧ 6000 ≤ s.veh.limit)
      ({ upV 5 false .high with veh := { (upV 5 false .high).veh with paused := true } })) ∧
    ((fun (s : State) (ohm : Nat) => pilotOn s = true ∧ s.reg P.wdnPpMode ≠ 1 ∧ 1 ≤ ses s ∧ ses s ≤ 6 ∧ cableRating
      ohm = 0) (setSwitches 63 63 (upV 5 false .pwm)) 3000) ∧
    ((fun (s : State) => s.veh.drive = .low) (upV 0 false .low)) := by
  refine ⟨by decide +kernel,
    ⟨by decide +kernel, by decide +kernel, by decide +kernel, by decide +kernel, by decide +kernel,
      by decide +kernel, by decide +kernel, by decide +kernel⟩,
    ⟨by decide +kernel, by decide +kernel, by decide +kernel, by decide +kernel⟩,
    ⟨by decide +kernel, by decide +kernel, by decide +kernel, by decide +kernel, by decide +kernel⟩,
    ⟨by decide +kernel, by decide +kernel, by decide +kernel, by decide +kernel⟩,
    ⟨by decide +kernel, by decide +kernel, by decide +kernel, by decide +kernel, by decide +kernel⟩,
    by decide +kernel⟩

/-- HighLevelMessages. -/
theorem witness_HighLevelMessages :
    ((fun (s : State) (dc : Bool) (l : List Nat) (p : Nat) => e0On s = true ∧ ses s = 1 ∧ fivePercent s = true ∧ s.reg
      P.wdnSesProto = 0 ∧ chooseProto s dc l = some p ∧ p < 256) (((upV 1 true .pwm).setReg P.wdnSesProto 0).setReg
      P.irnCpDuty 50) true ([1, 2, 3]) ((chooseProto (upV 1 true .pwm) true [1, 2, 3]).getD 0)) ∧
    ((fun (s : State) (sid : Nat) => e0On s = true ∧ s.reg P.wdnSesProto ≠ 0 ∧ sessionOpen s = true ∧ s.veh.sid =
      none) ({ upV 1 true .pwm with veh := VehState.reset }) 0) ∧
    ((fun (s : State) (sid : Nat) => e0On s = true ∧ s.reg P.wdnSesProto ≠ 0 ∧ ses s = 2 ∧ s.veh.sid = some sid) (upV
      2 true .pwm) 77) ∧
    ((fun (s : State) (sid : Nat) (ohm : Nat) (vmax : Nat) (imax : Nat) => e0On s = true ∧ s.reg P.wdnSesProto ≠ 0 ∧
      ses s = 3 ∧ s.veh.dc = true ∧ s.veh.sid = some sid) (upV 3 true .pwm) 77 100000 900 200) ∧
    ((fun (s : State) (sid : Nat) (ohm : Nat) (vmax : Nat) (imax : Nat) => e0On s = true ∧ s.reg P.wdnSesProto ≠ 0 ∧
      ses s = 2 ∧ s.veh.dc = true ∧ s.veh.sid = some sid ∧ Config.dcMinimum.1 ≤ vmax ∧ Config.dcMinimum.2 ≤ imax ∧
      85000 ≤ ohm ∧ ohm ≤ 115000 ∧ s.pwr.vsup = true ∧ s.pwr.failing = false ∧ castOk s = true ∧ mayHold s 0 &&& 6 = 6
      ∧ mayHold s 1 &&& 6 = 6) (upV 2 true .pwm) 77 100000 (Config.dcMinimum.1) (Config.dcMinimum.2)) ∧
    ((fun (s : State) (sid : Nat) (v : Nat) (a : Nat) => e0On s = true ∧ s.reg P.wdnSesProto ≠ 0 ∧ ses s = 4 ∧
      s.veh.dc = true ∧ s.veh.sid = some sid ∧ v ≤ s.veh.vMax ∧ a ≤ s.veh.iMax ∧ v ≤ s.reg P.wdnDcMaxV ∧ a ≤ s.reg
      P.wdnDcMaxA) (upV 4 true .pwm) 77 400 2) ∧
    ((fun (s : State) (sid : Nat) => e0On s = true ∧ s.reg P.wdnSesProto ≠ 0 ∧ ses s = 4 ∧ s.veh.dc = true ∧
      s.veh.so2Open = true ∧ s.veh.sid = some sid)
      ({ upV 4 true .pwm with veh := { (upV 4 true .pwm).veh with so2Open := true } }) 77) ∧
    ((fun (s : State) (sid : Nat) (v : Nat) (a : Nat) => e0On s = true ∧ s.reg P.wdnSesProto ≠ 0 ∧ ses s = 5 ∧
      s.veh.dc = true ∧ s.veh.sid = some sid ∧ v ≤ s.veh.vMax ∧ a ≤ s.veh.iMax ∧ v ≤ s.reg P.wdnDcMaxV ∧ a ≤ s.reg
      P.wdnDcMaxA) (upV 5 true .pwm) 77 400 100) ∧
    ((fun (s : State) (sid : Nat) => e0On s = true ∧ s.reg P.wdnSesProto ≠ 0 ∧ ses s = 5 ∧ s.veh.dc = true ∧ s.veh.sid
      = some sid) (upV 5 true .pwm) 77) := by
  refine ⟨⟨by decide +kernel, by decide +kernel, by decide +kernel, by decide +kernel, by decide +kernel, by decide +kernel⟩,
    ⟨by decide +kernel, by decide +kernel, by decide +kernel, by decide +kernel⟩,
    ⟨by decide +kernel, by decide +kernel, by decide +kernel, by decide +kernel⟩,
    ⟨by decide +kernel, by decide +kernel, by decide +kernel, by decide +kernel, by decide +kernel⟩,
    ⟨by decide +kernel, by decide +kernel, by decide +kernel, by decide +kernel, by decide +kernel, Nat.le_refl _,
      Nat.le_refl _, by decide +kernel, by decide +kernel, by decide +kernel, by decide +kernel, by decide +kernel,
      by decide +kernel, by decide +kernel⟩,
    ⟨by decide +kernel, by decide +kernel, by decide +kernel, by decide +kernel, by decide +kernel,
      by decide +kernel, by decide +kernel, by decide +kernel, by decide +kernel⟩,
    ⟨by decide +kernel, by decide +kernel, by decide +kernel, by decide +kernel, by decide +kernel,
      by decide +kernel⟩,
    ⟨by decide +kernel, by decide +kernel, by decide +kernel, by decide +kernel, by decide +kernel,
      by decide +kernel, by decide +kernel, by decide +kernel, by decide +kernel⟩,
    ⟨by decide +kernel, by decide +kernel, by decide +kernel, by decide +kernel, by decide +kernel⟩⟩

/-- SessionSteps. -/
theorem witness_SessionSteps :
    ((fun (s : State) => ses s = 4 ∧ s.veh.dc = true ∧ s.present 9 = true ∧ prechargeNear s = true ∧ s.pwr.vsup = true
      ∧ s.pwr.failing = false ∧ castOk s = true ∧ bitOf (mayHold s 0) 0 = true ∧ bitOf (mayHold s 1) 0 = true)
      (setSwitches 6 6 (upV 4 true .pwm))) ∧
    ((fun (s : State) => ses s = 4 ∧ s.veh.dc = true ∧ pairClosed s 0 = true) (setSwitches 7 7 (upV 4 true .pwm))) ∧
    ((fun (s : State) => ses s = 6 ∧ s.veh.dc = true) (setSwitches 3 3 (upV 6 true .pwm))) ∧
    ((fun (s : State) (peak : Nat) (fall : Nat) => ses s = 7 ∧ s.veh.dc = true ∧ peak < 30000 ∧ fall ≤ 1000) (upV 7
      true .pwm) 20000 900) ∧
    ((fun (s : State) (auth : Nat) (ident : Nat) => s.veh.dc = false ∧ ses s = 1 ∧ sessionsAllowed s = true ∧
      calibrating s 2 = false ∧ 0 < ratingNow s ∧ s.reg P.irnCpState = 2 ∧ auth ≠ 1 ∧ auth ≠ 2 ∧ s.reg P.wdnHlcAc ≠ 1)
      (((upV 1 false .high).setReg P.wdnHlcAc 0).setReg P.irnCpState 2) 3 0x1234) ∧
    ((fun (s : State) => ses s = 6 ∧ s.veh.dc = false) (setSwitches 8 8 (upV 6 false .high))) ∧
    ((fun (s : State) => ses s = 7 ∧ s.veh.dc = false ∧ s.present 9 = true ∧ (∀ p < 3, s.regI (P.tlyPhVRms p) <
      50000000)) (upV 7 false .high)) := by
  refine ⟨⟨by decide +kernel, by decide +kernel, by decide +kernel, by decide +kernel, by decide +kernel, by decide +kernel,
      by decide +kernel, by decide +kernel, by decide +kernel⟩,
    ⟨by decide +kernel, by decide +kernel, by decide +kernel⟩,
    ⟨by decide +kernel, by decide +kernel⟩,
    ⟨by decide +kernel, by decide +kernel, by decide +kernel, by decide +kernel⟩,
    ⟨by decide +kernel, by decide +kernel, by decide +kernel, by decide +kernel, by decide +kernel,
      by decide +kernel, by decide +kernel, by decide +kernel, by decide +kernel⟩,
    ⟨by decide +kernel, by decide +kernel⟩,
    ⟨by decide +kernel, by decide +kernel, by decide +kernel, by decide +kernel⟩⟩

/-- EarthFaults. -/
theorem witness_EarthFaults :
    ((fun (s : State) (r : Nat) => dcPath s = true ∧ s.pwr.ironOn = true ∧ s.domOn 58 = true ∧ r ≤ 50000 ∧ isoWarn s ≤
      100 * r ∧ isoFault s ≤ 100 * r) (upV 3 true .pwm) 50000) ∧
    ((fun (s : State) (r : Nat) => dcPath s = true ∧ ses s ≤ 6 ∧ s.pwr.ironOn = true ∧ s.domOn 58 = true ∧
      s.veh.isoLow = 1 ∧ r ≤ 50000 ∧ 100 * r < isoFault s) (setSwitches 3 3
      { upV 5 true .pwm with veh := { (upV 5 true .pwm).veh with isoLow := 1 } }) 10) ∧
    ((fun (s : State) (sum : Int) => rcMeasured s = true ∧ s.veh.rcTesting = true)
      ({ upV 5 false .pwm with veh := { (upV 5 false .pwm).veh with rcTesting := true } }) 30) ∧
    ((fun (s : State) => rcMeasured s = true) (setSwitches 8 8 (upV 5 false .pwm))) ∧
    ((fun (s : State) (m : Int) => s.veh.rcTesting = true ∧ rcMeasured s = true ∧ 4900 ≤ m ∧ m ≤ 9100 ∧ s.reg
      P.irnCpState ≠ 3 ∧ s.reg P.irnCpState ≠ 4)
      ({ upV 5 false .pwm with veh := { (upV 5 false .pwm).veh with rcTesting := true } }) 7000) := by
  refine ⟨⟨by decide +kernel, by decide +kernel, by decide +kernel, by decide +kernel, by decide +kernel, by decide +kernel⟩,
    ⟨by decide +kernel, by decide +kernel, by decide +kernel, by decide +kernel, by decide +kernel,
      by decide +kernel, by decide +kernel⟩,
    ⟨by decide +kernel, by decide +kernel⟩,
    by decide +kernel,
    ⟨by decide +kernel, by decide +kernel, by decide +kernel, by decide +kernel, by decide +kernel,
      by decide +kernel⟩⟩

/-- SessionTimeouts. -/
theorem witness_SessionTimeouts :
    ((fun (s : State) (ms : Nat) => ses s = 4 ∧ pairClosed s 0 = false ∧ s.veh.began = false) (setSwitches 6 6 (upV 4
      true .pwm)) 7001) ∧
    ((fun (s : State) (ms : Nat) => ses s = 1 ∧ fivePercent s = true ∧ s.veh.slacSeen = false ∧ s.veh.dc = true ∧
      s.veh.slacTry = 0) ((upV 1 true .pwm).setReg P.irnCpDuty 50) 50000) ∧
    ((fun (s : State) (ms : Nat) => ses s = 2 ∧ s.reg P.wdnSesProto ≠ 0) (upV 2 true .pwm) 60000) ∧
    ((fun (s : State) (ms : Nat) => ses s = 5 ∧ s.veh.dc = true ∧ s.veh.paused = false) (upV 5 true .pwm) 1000) ∧
    ((fun (s : State) (ms : Nat) => 1 ≤ ses s ∧ ses s ≤ 6 ∧ s.reg P.irnCpState = 4 ∧ s.reg P.wdnAllowD = 0)
      ((setSwitches 8 8 (upV 5 false .pwm)).setReg P.irnCpState 4) 3000) ∧
    ((fun (s : State) (ms : Nat) => ses s = 6 ∧ s.veh.dc = false ∧ s.reg P.irnCpState = 3) ((setSwitches 8 8 (upV 6
      false .high)).setReg P.irnCpState 3) 6000) ∧
    ((fun (s : State) (ma : Nat) => ses s = 5 ∧ s.veh.dc = false ∧ 11 * s.veh.limit + 5000 < 10 * ma) (setSwitches 8 8
      (upV 5 false .pwm)) 40000) ∧
    ((fun (s : State) (ms : Nat) => ses s = 5 ∧ s.veh.dc = true ∧ s.reg P.wdnSesProto ≠ 0) (upV 5 true .pwm) 2000) := by
  refine ⟨⟨by decide +kernel, by decide +kernel, by decide +kernel⟩,
    ⟨by decide +kernel, by decide +kernel, by decide +kernel, by decide +kernel, by decide +kernel⟩,
    ⟨by decide +kernel, by decide +kernel⟩,
    ⟨by decide +kernel, by decide +kernel, by decide +kernel⟩,
    ⟨by decide +kernel, by decide +kernel, by decide +kernel, by decide +kernel⟩,
    ⟨by decide +kernel, by decide +kernel, by decide +kernel⟩,
    ⟨by decide +kernel, by decide +kernel, by decide +kernel⟩,
    ⟨by decide +kernel, by decide +kernel, by decide +kernel⟩⟩

/-- ConverterSequences. -/
theorem witness_ConverterSequences :
    ((fun (s : State) (l : List Int) => meteringRuns s = true ∧ s.present 22 = true ∧ s.present 9 = true ∧ s.cnv.seq <
      2 ^ 32 ∧ (¬ (s.cnv.prev4 ≤ 0 ∧ 0 < l.getD 4 0))) up ([1, 2, -3, 4, -5, 6, 7, 8, 9, 10, 11, 2500])) ∧
    ((fun (s : State) (l : List Int) => meteringRuns s = true ∧ s.present 9 = false ∧ (¬ (s.cnv.prev4 ≤ 0 ∧ 0 < l.getD
      4 0))) (up.setDom 15 .off) ([1])) ∧
    ((fun (s : State) => s.reg P.irnMainsState = 1) (up.setReg P.irnMainsState 1)) ∧
    ((fun (s : State) (l : List Int) => s.pwr.ironOn = true ∧ s.domOn 57 = true ∧ bitOf (s.reg P.irnMcStatus) 24 =
      false ∧ s.present 22 = true ∧ s.present 9 = true) up ([5, 6])) ∧
    ((fun (s : State) (p : PcPacket) (l : List PcPacket) => s.present 9 = true ∧ s.cnv.packets = p :: l ∧ p.ended < 2
      ^ 64)
      ({ (up.setReg (P.tlyPcMode 3) 1).setReg (P.tlyPcMode 7) 3 with cnv := { CnvState.reset with packets := [⟨4, 4000000, [0, 1, 2, 1234567, 4, 5, 6, -77777], false, List.replicate 16 false, 99⟩] } })
      (⟨4, 4000000, [0, 1, 2, 1234567, 4, 5, 6, -77777], false, List.replicate 16 false, 99⟩) ([])) ∧
    ((fun (s : State) (c : Int) (n : Nat) => s.present 9 = true ∧ n ≠ 0 ∧ bits (s.reg P.tlyCalState) 7 0 = 1)
      (up.setReg P.tlyCalState 0x0501) (-12) 200000) ∧
    ((fun (s : State) (e : CalEntry) (l : List CalEntry) => s.cnv.entries = e :: l ∧ Memory.wf s.mem = true ∧ e.word <
      2 ^ 128 ∧ e.code < 12 ∧ e.commits = true)
      ({ up with cnv := { CnvState.reset with entries := [⟨3, 0x400000000000000000000005, true⟩] } }) (⟨3,
      0x400000000000000000000005, true⟩) ([])) ∧
    ((fun (s : State) (m : Nat) (d : Int) (r : Int) => m < 12 ∧ meteringRuns s = true ∧ s.cnv.aborted.contains m =
      false) up 11 501 0) ∧
    ((fun (s : State) (n : Nat) (d : Int) (r : Int) => n < 16 ∧ s.reg (P.tlyPcMode n) ≠ 0 ∧ s.domOn 57 = true ∧
      s.cnv.aborted.contains (0x10 + n) = false) (up.setReg (P.tlyPcMode 3) 1) 3 101 0) ∧
    ((fun (s : State) => s.pwr.ironOn = true ∧ sessionOpen s = false) up) ∧
    ((fun (s : State) => s.pwr.ironOn = true ∧ s.src 1 = 2 ∧ s.clk.pllOn.getD 3 false = true ∧ bitOf (s.reg
      P.irnMcStatus) 24 = true)
      ({ (up.setReg P.irnMcStatus 0x1000003) with clk := { up.clk with pllOn := [true, true, true, true] }, mono := 99999999, cnv := { CnvState.reset with seq := 4294967295, lostAt := some 77 } })) := by
  refine ⟨⟨by decide +kernel, by decide +kernel, by decide +kernel, by decide +kernel, by decide +kernel⟩,
    ⟨by decide +kernel, by decide +kernel, by decide +kernel⟩,
    by decide +kernel,
    ⟨by decide +kernel, by decide +kernel, by decide +kernel, by decide +kernel, by decide +kernel⟩,
    ⟨by decide +kernel, by decide +kernel, by decide +kernel⟩,
    ⟨by decide +kernel, by decide +kernel, by decide +kernel⟩,
    ⟨by decide +kernel, by decide +kernel, by decide +kernel, by decide +kernel, by decide +kernel⟩,
    ⟨by decide +kernel, by decide +kernel, by decide +kernel⟩,
    ⟨by decide +kernel, by decide +kernel, by decide +kernel, by decide +kernel⟩,
    ⟨by decide +kernel, by decide +kernel⟩,
    ⟨by decide +kernel, by decide +kernel, by decide +kernel, by decide +kernel⟩⟩

/-- TallyUpdates. -/
theorem witness_TallyUpdates :
    ((fun (s : State) (f : McFrame) (l : List McFrame) (q : Nat) (old : List Nat) => s.present 9 = true ∧ s.nrg.ready
      = true ∧ s.cnv.frames = f :: l ∧ s.nrg.last = some (q, old) ∧ f.seq = q + 1 ∧ f.seq < 2 ^ 32)
      ({ up with cnv := { CnvState.reset with frames := [⟨6, [10, 20], 1, 0, false, 0, 55⟩] }, nrg := { NrgState.reset with ready := true, last := some (5, [1, 2]) } })
      (⟨6, [10, 20], 1, 0, false, 0, 55⟩) ([]) 5 ([1, 2])) ∧
    ((fun (s : State) => s.present 9 = true ∧ s.nrg.sumN ≠ 0)
      ({ up with nrg := { NrgState.reset with sums := [12345678901234, -55555555555555, 7, 9], sumN := 100 } })) ∧
    ((fun (s : State) => s.present 9 = true ∧ s.nrg.squareN ≠ 0)
      ({ up with nrg := { NrgState.reset with squares := [12345678901234567890123456, 5, 7, 9], squareN := 2000 } })) ∧
    ((fun (s : State) => s.present 9 = true ∧ s.nrg.last.isSome = true)
      ({ up with nrg := { NrgState.reset with arrival := (7, 88), last := some (6, []) } })) ∧
    ((fun (s : State) (ts : Nat) (a : Nat) (b : Nat) => s.present 9 = true ∧ s.nrg.ready = true)
      ({ up with nrg := { NrgState.reset with ready := true } }) 99 1 2) ∧
    ((fun (s : State) => s.present 9 = true ∧ s.nrg.ready = true ∧ s.managerRuns = true ∧ s.cbdOn = true ∧ (commit
      ⟨0x20, boundaryTime s, energyPayload s s.nrg.flags, false⟩ s).1 = true ∧ boundaryTime s < 2 ^ 64)
      ({ up with nrg := { NrgState.reset with ready := true, flags := 2 } })) ∧
    ((fun (s : State) => s.present 9 = true ∧ keptPairWords s = []) up) := by
  refine ⟨⟨by decide +kernel, by decide +kernel, by decide +kernel, by decide +kernel, by decide +kernel, by decide +kernel⟩,
    ⟨by decide +kernel, by decide +kernel⟩,
    ⟨by decide +kernel, by decide +kernel⟩,
    ⟨by decide +kernel, by decide +kernel⟩,
    ⟨by decide +kernel, by decide +kernel⟩,
    ⟨by decide +kernel, by decide +kernel, by decide +kernel, by decide +kernel, by decide +kernel,
      by decide +kernel⟩,
    ⟨by decide +kernel, by decide +kernel⟩⟩

/-- RatesSplitEveryInterval. -/
theorem witness_RatesSplitEveryInterval :
    NrgState.reset.rate < 8 ∧ (∀ m ∈ NrgState.reset.seams, m.old < 8 ∧ m.new < 8) ∧ NrgState.reset.sets.length = 9 ∧
    NrgState.reset.rates.length = 72 ∧ ∀ x < 3, ∀ i < 3,
      ((List.range 8).map fun r => NrgState.reset.rates.getD (3 * (8 * x + r) + i) 0).sum = NrgState.reset.sets.getD (3 * x + i) 0
 := by
  decide +kernel

/-- CalendarCostDemand. -/
theorem witness_CalendarCostDemand :
    ((fun (s : State) => s.managerRuns = true ∧ s.box.rateNext = none ∧ rateAt s s.now ≠ s.reg P.boxRateNow)
      (up.setReg P.boxRateNow 3)) ∧
    ((fun (s : State) => s.managerRuns = true ∧ s.box.rateNext = none ∧ rateAt s (nextMinute s) ≠ s.reg P.boxRateNow)
      (up.setReg P.boxRateNow 3)) ∧
    ((fun (s : State) (e : Session) => s.box.session = some e ∧ e.prepaid = false ∧ s.present 9 = true ∧ s.present 12
      = true) ({ up with box := { BoxState.reset with session := some sesW } }) sesW) ∧
    ((fun (s : State) (b : Int) => s.present 9 = true ∧ s.present 12 = true ∧ s.nrg.longAt = none ∧ s.box.demand[s.reg
      P.boxMdSubs - 1]? = some b ∧ ((nanoJoule (s.nrg.sets.getD (3 * s.reg P.boxMdSet + 1) 0) - b) / ((s.reg
      P.boxMdMin * 60 : Nat) * 1000)).toNat ≤ s.reg (P.boxMd (rateNow s)))
      ({ up with box := { BoxState.reset with demand := List.replicate 16 0 } }) 0) ∧
    ((fun (s : State) (i : Nat) => s.managerRuns = true ∧ i ≤ 1 ∧ s.box.tampOpen = [] ∧ s.now < 2 ^ 64) up 1) ∧
    ((fun (s : State) (x : Nat) => x ≤ 2 ∧ boxWorks s = true ∧ s.managerRuns = true ∧ reverseRuns s x = true ∧
      s.box.tampOpen = []) ((up.setRegI (P.tlyOutP 1) (-2000000000)).setReg P.boxImportOnly 7) 1) ∧
    ((fun (s : State) => s.present 12 = true) ({ up with jnl := { up.jnl with persist := [(P.boxCredit, 8, 77)] } })) ∧
    ((fun (s : State) => boxWorks s = true ∧ s.present 3 = true ∧ s.cbdOn = true ∧ (s.chan 10).permits 9 = true ∧
      s.present (initIsland (s.chan 10).receiver) = true ∧ (s.chan 10).full = false ∧ 10 < s.cbd.ch.length) up) ∧
    ((fun (s : State) (x : Nat) (e : Session) => s.present 9 = true ∧ s.nrg.ready = true ∧ x ≤ 2 ∧ s.box.session =
      some e ∧ e.set = x)
      ({ up with box := { BoxState.reset with session := some sesW }, nrg := { NrgState.reset with ready := true } })
      2 sesW) ∧
    ((fun (s : State) (x : Nat) (e : Session) => s.present 9 = true ∧ s.nrg.ready = true ∧ x ≤ 2 ∧ s.box.session =
      some e ∧ e.set = x)
      ({ up with box := { BoxState.reset with session := some sesW }, nrg := { NrgState.reset with ready := true } })
      2 sesW) := by
  refine ⟨⟨by decide +kernel, by decide +kernel, by decide +kernel⟩,
    ⟨by decide +kernel, by decide +kernel, by decide +kernel⟩,
    ⟨by decide +kernel, by decide +kernel, by decide +kernel, by decide +kernel⟩,
    ⟨by decide +kernel, by decide +kernel, by decide +kernel, by decide +kernel, by decide +kernel⟩,
    ⟨by decide +kernel, by decide +kernel, by decide +kernel, by decide +kernel⟩,
    ⟨by decide +kernel, by decide +kernel, by decide +kernel, by decide +kernel, by decide +kernel⟩,
    by decide +kernel,
    ⟨by decide +kernel, by decide +kernel, by decide +kernel, by decide +kernel, by decide +kernel,
      by decide +kernel, by decide +kernel⟩,
    ⟨by decide +kernel, by decide +kernel, by decide +kernel, by decide +kernel, by decide +kernel⟩,
    ⟨by decide +kernel, by decide +kernel, by decide +kernel, by decide +kernel, by decide +kernel⟩⟩

/-- Tokens. -/
theorem witness_Tokens :
    ((fun (s : State) (k : Token) (p : List Nat) => s.box.token = some k ∧ k.posted = false ∧ k.keypad = false ∧
      boxWorks s = true ∧ p = tokenPlain s k.digits ∧ tokenCheck s (p.take 19) ≠ ofDigits (p.drop 19))
      ({ up with box := { BoxState.reset with token := some ⟨List.replicate 25 0, false, false, false, 0, 0, 0, 0⟩ } })
      (⟨List.replicate 25 0, false, false, false, 0, 0, 0, 0⟩) (tokenPlain up (List.replicate 25 0))) ∧
    ((fun (s : State) (k : Token) (p : List Nat) => s.box.token = some k ∧ k.posted = false ∧ boxWorks s = true ∧ p =
      tokenPlain s k.digits ∧ tokenCheck s (p.take 19) = ofDigits (p.drop 19) ∧ ofDigits (slice p 17 2) = s.reg
      P.boxTokenRev ∧ p.getD 0 0 = 5 ∧ serialJudge s (ofDigits (slice p 1 8)) = 0)
      ({ up with box := { BoxState.reset with token := some ⟨tokDigits, false, false, false, 0, 0, 0, 0⟩ } })
      (⟨tokDigits, false, false, false, 0, 0, 0, 0⟩) tokPlain) ∧
    ((fun (s : State) (k : Token) => s.box.token = some k ∧ k.reported = true ∧ boxWorks s = true ∧ s.managerRuns =
      true ∧ k.cls ≤ 5 ∧ (commit ⟨0x21, s.now, tokenPayload s k, false⟩ s).1 = true) (upK 5) (tokW 5)) ∧
    ((fun (s : State) (k : Token) => s.box.token = some k ∧ k.reported = true ∧ boxWorks s = true ∧ s.managerRuns =
      true ∧ k.cls = 0 ∧ (commit ⟨0x21, s.now, tokenPayload s k, false⟩ s).1 = true ∧ -2 ^ 63 ≤ s.regI P.boxCredit +
      k.credit ∧ s.regI P.boxCredit + k.credit < 2 ^ 63) (upK 0) (tokW 0)) ∧
    ((fun (s : State) (k : Token) => s.box.token = some k ∧ k.reported = true ∧ boxWorks s = true ∧ s.managerRuns =
      true ∧ k.cls = 1 ∧ (commit ⟨0x21, s.now, tokenPayload s k, false⟩ s).1 = true) (upK 1) (tokW 1)) ∧
    ((fun (s : State) (k : Token) (d : Nat) => s.box.token = some k ∧ k.reported = true ∧ boxWorks s = true ∧
      s.managerRuns = true ∧ k.cls = 2 ∧ heldPart s = some d ∧ s.reg P.boxTokenRev ≤ 99 ∧ (commit ⟨0x21, s.now,
      tokenPayload s k, false⟩ s).1 = true)
      ({ upK 2 with box := { (upK 2).box with partOne := some (7, 1000 * second) } }) (tokW 2) 7) ∧
    ((fun (s : State) (k : Token) => s.box.token = some k ∧ k.reported = true ∧ boxWorks s = true ∧ s.managerRuns =
      true ∧ k.cls = 3 ∧ (commit ⟨0x21, s.now, tokenPayload s k, false⟩ s).1 = true ∧ s.reg P.boxTamperAlarm < 2 ^ (8
      * sizeOf' P.boxTamperAlarm)) ((upK 3).setReg P.boxTamperAlarm 7) (tokW 3)) ∧
    ((fun (s : State) (k : Token) => s.box.token = some k ∧ k.reported = true ∧ boxWorks s = true ∧ s.managerRuns =
      true ∧ k.cls = 4 ∧ k.value ≤ 3 ∧ (commit ⟨0x21, s.now, tokenPayload s k, false⟩ s).1 = true) (upK 4) (tokW 4)) ∧
    ((fun (s : State) (k : Token) => s.box.token = some k ∧ k.reported = true ∧ boxWorks s = true ∧ s.managerRuns =
      true ∧ k.cls = 5 ∧ (commit ⟨0x21, s.now, tokenPayload s k, false⟩ s).1 = true) (upK 5) (tokW 5)) := by
  refine ⟨⟨by decide +kernel, by decide +kernel, by decide +kernel, by decide +kernel, by decide +kernel, by decide +kernel⟩,
    ⟨by decide +kernel, by decide +kernel, by decide +kernel, by decide +kernel, by decide +kernel,
      by decide +kernel, by decide +kernel, by decide +kernel⟩,
    ⟨by decide +kernel, by decide +kernel, by decide +kernel, by decide +kernel, by decide +kernel,
      by decide +kernel⟩,
    ⟨by decide +kernel, by decide +kernel, by decide +kernel, by decide +kernel, by decide +kernel,
      by decide +kernel, by decide +kernel, by decide +kernel⟩,
    ⟨by decide +kernel, by decide +kernel, by decide +kernel, by decide +kernel, by decide +kernel,
      by decide +kernel⟩,
    ⟨by decide +kernel, by decide +kernel, by decide +kernel, by decide +kernel, by decide +kernel,
      by decide +kernel, by decide +kernel, by decide +kernel⟩,
    ⟨by decide +kernel, by decide +kernel, by decide +kernel, by decide +kernel, by decide +kernel,
      by decide +kernel, by decide +kernel⟩,
    ⟨by decide +kernel, by decide +kernel, by decide +kernel, by decide +kernel, by decide +kernel,
      by decide +kernel, by decide +kernel⟩,
    ⟨by decide +kernel, by decide +kernel, by decide +kernel, by decide +kernel, by decide +kernel,
      by decide +kernel⟩⟩

/-- CueReads. -/
theorem witness_CueReads :
    ((fun (s : State) (r : Req) (h : State) (val : Bytes) => Accepted opRead r s ∧ areaOf r.pid ≠ 0xE ∧ h = heard r s
      ∧ readObject (reqKey r) r.pid h = (resOk, val) ∧ r.payload = [] ∧ val.length < 1400) (upB up) (rq opRead
      P.smgTier [] (upB up)) (heard (rq opRead P.smgTier [] (upB up)) (upB up)) (objBytes (upB up) P.smgTier)) ∧
    ((fun (s : State) (r : Req) (h : State) (n : Nat) (val : Bytes) => Accepted opRead r s ∧ (n = 1 ∨ n = 2) ∧ r.pid =
      P.uartRxData n ∧ h = heard r s ∧ readObject (reqKey r) r.pid h = (resOk, val) ∧ r.payload = [] ∧ val.length <
      1400) (upB up) (rq opRead (P.uartRxData 2) [] (upB up)) (heard (rq opRead (P.uartRxData 2) [] (upB up)) (upB
      up)) 2 ([])) ∧
    ((fun (s : State) (r : Req) (h : State) (l : List Nat) => Accepted opBulkRead r s ∧ r.pid = 0 ∧ r.payload.length %
      3 = 0 ∧ h = heard r s ∧ parsePids 500 r.payload = l ∧ l ≠ [] ∧ l.length ≤ 64 ∧ (bulkReadEntries (reqKey r) l
      h).1.length < 1400) (upB up) (rq opBulkRead 0 (toBytes 3 P.smgTier ++ toBytes 3 P.pwTj) (upB up)) (heard (rq
      opBulkRead 0 (toBytes 3 P.smgTier ++ toBytes 3 P.pwTj) (upB up)) (upB up)) ([P.smgTier, P.pwTj])) ∧
    ((fun (s : State) (r : Req) (h : State) (lo : Nat) (hi : Nat) (i : Nat) (val : Bytes) => Accepted opNotify r s ∧ h
      = heard r s ∧ readObject (reqKey r) r.pid h = (resOk, val) ∧ r.payload = [1, lo, hi] ∧ 10 ≤ lo + 256 * hi ∧ lo +
      256 * hi ≤ 60000 ∧ val.length < 1398 ∧ subSlot r.src r.pid h = none ∧ (List.range 64).find? (fun i => (h.sub
      i).isNone) = some i) (upB up) (rq opNotify P.smgTier [1, 100, 0] (upB up)) (heard (rq opNotify P.smgTier [1,
      100, 0] (upB up)) (upB up)) 100 0 0 (objBytes (upB up) P.smgTier)) ∧
    ((fun (s : State) (r : Req) (h : State) => Accepted opRead (rawReq r) s ∧ h = heard (rawReq r) s ∧ (serveRaw
      (servingOf opRead (rawReq r) s) h).1.1 = resOk) (upB up) (rq opRead 0xE01504 [0x44, 0, 0, 0] (upB up)) (heard
      (rq opRead 0xE01504 [0x44, 0, 0, 0] (upB up)) (upB up))) := by
  refine ⟨⟨accepted_rq (op := opRead) (p := P.smgTier) (val := []) (s₀ := (upB up)) rfl rfl rfl rfl (by decide +kernel),
      by decide +kernel, rfl, by decide +kernel, by decide +kernel, by decide +kernel⟩,
    ⟨accepted_rq (op := opRead) (p := (P.uartRxData 2)) (val := []) (s₀ := (upB up)) rfl rfl rfl rfl
      (by decide +kernel), by decide +kernel, by decide +kernel, rfl, by decide +kernel, by decide +kernel,
      by decide +kernel⟩,
    ⟨accepted_rq (op := opBulkRead) (p := 0) (val := (toBytes 3 P.smgTier ++ toBytes 3 P.pwTj)) (s₀ := (upB up)) rfl
      rfl rfl rfl (by decide +kernel), by decide +kernel, by decide +kernel, rfl, by decide +kernel,
      by decide +kernel, by decide +kernel, by decide +kernel⟩,
    ⟨accepted_rq (op := opNotify) (p := P.smgTier) (val := [1, 100, 0]) (s₀ := (upB up)) rfl rfl rfl rfl
      (by decide +kernel), rfl, by decide +kernel, by decide +kernel, by decide +kernel, by decide +kernel,
      by decide +kernel, by decide +kernel, by decide +kernel⟩,
    ⟨accepted_rq (op := opRead) (p := 0xE01504) (val := [0x44, 0, 0, 0]) (s₀ := (upB up)) rfl rfl rfl rfl
      (by decide +kernel), rfl, by decide +kernel⟩⟩

/-- CueWrites. -/
theorem witness_CueWrites :
    ((fun (s : State) (r : Req) (h : State) => AcceptedWrite r s ∧ h = heard r s ∧ (performWrite (servingOf opWrite r
      s) r.pid r.payload h).1 = resOk) (upB up) (rq opWrite P.smgBatonTimeout (toBytes 2 60) (upB up)) (heard (rq
      opWrite P.smgBatonTimeout (toBytes 2 60) (upB up)) (upB up))) ∧
    ((fun (s : State) (r : Req) (h : State) => Accepted opWrite r s ∧ areaOf r.pid ≠ 0xE ∧ inBlock r.pid = true ∧ h =
      heard r s ∧ judgeWrite (reqKey r) r.pid r.payload h = resOk ∧ s.cue.pend = none) (upB up) (rq opWrite
      (P.wdnSoDark 2) [1] (upB up)) (heard (rq opWrite (P.wdnSoDark 2) [1] (upB up)) (upB up))) ∧
    ((fun (s : State) (r : Req) (h : State) (l : List (Nat × Bytes)) => Accepted opBulkWrite r s ∧ r.pid = 0 ∧
      parseWrites 300 r.payload = (l, true) ∧ l ≠ [] ∧ l.length ≤ 64 ∧ (∀ e ∈ l, persistent e.1 = false) ∧ h = heard r
      s ∧ bulkJudges (servingOf opBulkWrite r s) 0 none l h = none) (upB up) (rq opBulkWrite 0 (toBytes 3
      P.rdrHostGrant ++ [1, 0, 1]) (upB up)) (heard (rq opBulkWrite 0 (toBytes 3 P.rdrHostGrant ++ [1, 0, 1]) (upB
      up)) (upB up)) ([(P.rdrHostGrant, [1])])) ∧
    ((fun (s : State) (r : Req) (h : State) (n : Nat) (b : PendBlock) => Accepted opConfirm r s ∧ 3 ≤ reqKey r ∧ h =
      heard r s ∧ groupHome r.pid = some n ∧ h.homePresent n = true ∧ r.payload.length = 4 ∧ r.pid % 256 = 0 ∧ (r.pid
      = 0x30F000 ∨ (anyPairClosed h = false ∧ anyClosed h = false)) ∧ livePend h = some b ∧ b.group = r.pid ∧ b.writer
      = masterOf s r ∧ ofBytes r.payload = blockCrc b.values ∧ h.ironPresent = true)
      ({ upB upS with cue := { (upB upS).cue with pend := some ⟨0x302200, .side, blockValues upS 0x302200, 1000 * second⟩ } })
      (rq opConfirm 0x302200 (toBytes 4 (blockCrc (blockValues upS 0x302200))) (upB up)) (heard (rq opConfirm 0x302200
      (toBytes 4 (blockCrc (blockValues upS 0x302200))) (upB up))
      { upB upS with cue := { (upB upS).cue with pend := some ⟨0x302200, .side, blockValues upS 0x302200, 1000 * second⟩ } })
      8 (⟨0x302200, .side, blockValues upS 0x302200, 1000 * second⟩)) ∧
    ((fun (s : State) (r : Req) (h : State) => Accepted opWrite (rawReq r) s ∧ h = heard (rawReq r) s ∧ (serveRaw
      (servingOf opWrite (rawReq r) s) h).1.1 = resOk) (upB up) (rq opWrite 0xE00004 [0xA0, 4, 0, 0, 0, 2, 0, 0] (upB
      up)) (heard (rq opWrite 0xE00004 [0xA0, 4, 0, 0, 0, 2, 0, 0] (upB up)) (upB up))) ∧
    ((fun (s : State) (r : Req) (h : State) (k : Nat) => AcceptedWrite r s ∧ k < 3 ∧ r.pid = P.smgCueKey k ∧ h = heard
      r s ∧ s.cue.keys.length = 5) (upB up) (rq opWrite (P.smgCueKey 1) (toBytes 16 0x123456789) (upB up)) (heard (rq
      opWrite (P.smgCueKey 1) (toBytes 16 0x123456789) (upB up)) (upB up)) 1) := by
  refine ⟨⟨⟨accepted_rq (op := opWrite) (p := P.smgBatonTimeout) (val := (toBytes 2 60)) (s₀ := (upB up)) rfl rfl rfl rfl
      (by decide +kernel), by decide +kernel⟩, rfl, by decide +kernel⟩,
    ⟨accepted_rq (op := opWrite) (p := (P.wdnSoDark 2)) (val := [1]) (s₀ := (upB up)) rfl rfl rfl rfl
      (by decide +kernel), by decide +kernel, by decide +kernel, rfl, by decide +kernel, by decide +kernel⟩,
    ⟨accepted_rq (op := opBulkWrite) (p := 0) (val := (toBytes 3 P.rdrHostGrant ++ [1, 0, 1])) (s₀ := (upB up)) rfl
      rfl rfl rfl (by decide +kernel), by decide +kernel, by decide +kernel, by decide +kernel, by decide +kernel,
      by decide +kernel, rfl, by decide +kernel⟩,
    ⟨accepted_rq (op := opConfirm) (p := 0x302200) (val := (toBytes 4 (blockCrc (blockValues upS 0x302200)))) (s₀ :=
      (upB up)) rfl (by decide +kernel) (by decide +kernel) (by decide +kernel) (by decide +kernel),
      by decide +kernel, rfl, by decide +kernel, by decide +kernel, by decide +kernel, by decide +kernel,
      by decide +kernel, by decide +kernel, by decide +kernel, by decide +kernel, by decide +kernel,
      by decide +kernel⟩,
    ⟨accepted_rq (op := opWrite) (p := 0xE00004) (val := [0xA0, 4, 0, 0, 0, 2, 0, 0]) (s₀ := (upB up)) rfl rfl rfl
      rfl (by decide +kernel), rfl, by decide +kernel⟩,
    ⟨⟨accepted_rq (op := opWrite) (p := (P.smgCueKey 1)) (val := (toBytes 16 0x123456789)) (s₀ := (upB up)) rfl rfl
      rfl rfl (by decide +kernel), by decide +kernel⟩, by decide +kernel, by decide +kernel, rfl, by decide +kernel⟩⟩

/-- BatonsAndNotifications. -/
theorem witness_BatonsAndNotifications :
    ((fun (s : State) (r : Req) (h : State) (a : Nat) => Accepted opSeize r s ∧ r.payload = [] ∧ a < 16 ∧ r.pid = a *
      0x100000 ∧ h = heard r s) ((upB up).setReg P.smgBatonHolder 0) (rq opSeize 0x500000 [] (upB up)) (heard (rq
      opSeize 0x500000 [] (upB up)) ((upB up).setReg P.smgBatonHolder 0)) 5) ∧
    ((fun (s : State) (r : Req) (h : State) (a : Nat) => Accepted opRelease r s ∧ r.payload = [] ∧ a < 16 ∧ r.pid = a
      * 0x100000 ∧ h = heard r s) (upB up) (rq opRelease 0x500000 [] (upB up)) (heard (rq opRelease 0x500000 [] (upB
      up)) (upB up)) 5) ∧
    ((fun (s : State) (i : Nat) (u : Sub) => s.sub i = some u ∧ i < s.cue.subs.length ∧ s.homePresent (homeOf u.pid) =
      true ∧ noteDue u s = true ∧ accessAborts s u.pid = false ∧ u.via = .stageLink ∧ s.carries u.via = true ∧
      (nextHop s u.ip).isSome = true) (upL.setSub 3 (some subW)) 3 subW) ∧
    ((fun (s : State) (i : Nat) (u : Sub) => s.sub i = some u ∧ i < s.cue.subs.length ∧ s.homePresent (homeOf u.pid) =
      true ∧ u.onChange = false ∧ accessAborts s u.pid = false ∧ u.via = .stageLink ∧ s.carries u.via = true ∧
      (nextHop s u.ip).isSome = true) (upL.setSub 3 (some { subW with onChange := false })) 3
      ({ subW with onChange := false })) ∧
    ((fun (s : State) => s.jnl.retry ≠ [] ∧ (commit ⟨0x10, s.now, s.ownPayload s.jnl.retry, false⟩ s).1 = true)
      ({ up with jnl := { up.jnl with retry := [P.boxTokenFails] } })) := by
  refine ⟨⟨accepted_rq (op := opSeize) (p := 0x500000) (val := []) (s₀ := (upB up)) rfl (by decide +kernel)
      (by decide +kernel) (by decide +kernel) (by decide +kernel), by decide +kernel, by decide +kernel,
      by decide +kernel, rfl⟩,
    ⟨accepted_rq (op := opRelease) (p := 0x500000) (val := []) (s₀ := (upB up)) rfl rfl rfl rfl (by decide +kernel),
      by decide +kernel, by decide +kernel, by decide +kernel, rfl⟩,
    ⟨by decide +kernel, by decide +kernel, by decide +kernel, by decide +kernel, by decide +kernel,
      by decide +kernel, by decide +kernel, by decide +kernel⟩,
    ⟨by decide +kernel, by decide +kernel, by decide +kernel, by decide +kernel, by decide +kernel,
      by decide +kernel, by decide +kernel, by decide +kernel⟩,
    ⟨by decide +kernel, by decide +kernel⟩⟩

/-- ReaderAndContacts. -/
theorem witness_ReaderAndContacts :
    ((fun (s : State) (c : Card) => s.present 20 = true ∧ s.domOn 60 = true ∧ s.reg P.rdrEnable ≠ 0 ∧ s.reg
      P.rdrTestMode = 0 ∧ 1 ≤ c.kind ∧ c.kind ≤ 3 ∧ bitOf (s.reg P.rdrTypes) (c.kind - 1) = true ∧ sessionOpen s =
      false ∧ s.rdr.judging = none ∧ s.rdr.seen = some c ∧ s.reg P.rdrAuthMode = 0 ∧ cardAllowed s c = false)
      ({ (up.setReg P.rdrEnable 1).setReg P.rdrAuthMode 0 with rdr := { RdrState.reset with seen := some crdW } })
      crdW) ∧
    ((fun (s : State) (c : Card) => s.rdr.judging = some (c, 1))
      ({ up with rdr := { RdrState.reset with judging := some (crdW, 1) } }) crdW) ∧
    ((fun (s : State) (c : Card) (sw : Nat) => s.rdr.judging = some (c, 2) ∧ sw ≠ 0x9000)
      ({ up with rdr := { RdrState.reset with judging := some (crdW, 2) } }) crdW 0x6A82) ∧
    ((fun (s : State) (c : Card) => s.rdr.judging = some (c, 2))
      ({ up with rdr := { RdrState.reset with judging := some (crdW, 2) } }) crdW) ∧
    ((fun (s : State) (c : Card) => s.rdr.judging = some (c, 2))
      ({ up with rdr := { RdrState.reset with judging := some (crdW, 2) } }) crdW) ∧
    ((fun (s : State) (n : Nat) (c : Nat) => s.present 18 = true ∧ (n = 3 ∨ n = 4) ∧ s.crd.slots.length = 2 ∧
      nextClass s n 4 = some c) (up.setReg (P.crdClassEn 3) 7) 3 3) ∧
    ((fun (s : State) (n : Nat) (l : Bytes) (a : Atr) => s.present 18 = true ∧ (n = 3 ∨ n = 4) ∧ s.crd.slots.length =
      2 ∧ s.reg (P.crdState n) = 1 ∧ parseAtr l = some a ∧ bitOf a.classes (classBit (s.slot n).cls) = true ∧
      (a.protos.head?).getD 0 ≤ 1) ((up.setReg (P.crdState 3) 1).setSlot 3 ⟨1, false, 0x11, false, 0⟩) 3 ([0x3B,
      0x00]) (⟨none, [], 1, [], true⟩)) ∧
    ((fun (s : State) (n : Nat) (c : Nat) => s.present 18 = true ∧ (n = 3 ∨ n = 4) ∧ s.crd.slots.length = 2 ∧ s.reg
      (P.crdState n) = 1 ∧ nextClass s n (s.slot n).cls = some c) (((up.setReg (P.crdState 3) 1).setReg (P.crdClassEn
      3) 7).setSlot 3 ⟨3, false, 0x11, false, 0⟩) 3 2) ∧
    ((fun (s : State) (n : Nat) => s.present 18 = true ∧ (n = 3 ∨ n = 4) ∧ s.rdr.judging = none ∧ s.crd.slots.length =
      2) (up.setReg (P.crdState 3) 2) 3) := by
  refine ⟨⟨by decide +kernel, by decide +kernel, by decide +kernel, by decide +kernel, by decide +kernel, by decide +kernel,
      by decide +kernel, by decide +kernel, by decide +kernel, by decide +kernel, by decide +kernel,
      by decide +kernel⟩,
    by decide +kernel,
    ⟨by decide +kernel, by decide +kernel⟩,
    by decide +kernel,
    by decide +kernel,
    ⟨by decide +kernel, by decide +kernel, by decide +kernel, by decide +kernel⟩,
    ⟨by decide +kernel, by decide +kernel, by decide +kernel, by decide +kernel, by decide +kernel,
      by decide +kernel, by decide +kernel⟩,
    ⟨by decide +kernel, by decide +kernel, by decide +kernel, by decide +kernel, by decide +kernel⟩,
    ⟨by decide +kernel, by decide +kernel, by decide +kernel, by decide +kernel⟩⟩

/-- TagProtocol. -/
theorem witness_TagProtocol :
    ((fun (s : State) => s.tag.field = false ∧ s.pwr.dom.length = 64) up) ∧
    ((fun (s : State) => s.pwr.darkKeeper = true ∧ s.pwr.dom.length = 64) (upT 1 false)) ∧
    ((fun (s : State) => tagReadyToAnswer s = true ∧ tagSt s = 1) (upT 1 false)) ∧
    ((fun (s : State) => tagReadyToAnswer s = true ∧ tagSt s = 6) (upT 6 false)) ∧
    ((fun (s : State) (n : Nat) (p : Nat) => tagSt s = 2 ∧ n ≤ 40 ∧ ofBytes (uidPart s s.tag.level) % 2 ^ n = p % 2 ^
      n) (upT 2 false) 0 0) ∧
    ((fun (s : State) => tagSt s = 2 ∧ s.tag.level = 1) (upT 2 false)) ∧
    ((fun (s : State) => tagSt s = 2 ∧ s.tag.level = 2)
      ({ upT 2 false with tag := { (upT 2 false).tag with level := 2 } })) ∧
    ((fun (s : State) (lv : Nat) (part : Bytes) => tagSelecting s = false) (upT 1 false) 1 ([1, 2])) ∧
    ((fun (s : State) (lv : Nat) (part : Bytes) => tagSt s = 2 ∧ lv ≠ s.tag.level)
      ({ up with tag := { up.tag with level := 1, woken := true } }.setReg P.tagState 2) 2 ([])) ∧
    ((fun (s : State) => tagSt s = 5 ∧ s.tag.rats = false) (upT 5 false)) ∧
    ((fun (s : State) => tagSt s = 5 ∧ s.tag.rats = false) (upT 5 false)) ∧
    ((fun (s : State) => s.tag.rats = true ∧ (tagSt s = 5 ∨ tagSt s = 3 ∨ tagSt s = 4)) (upT 3 true)) ∧
    ((fun (s : State) => tagBlock s = true ∧ tagSt s = 5 ∧ (∀ k < 192, s.wrongAt (noteAddr k) = [])) (upT 5 true)) ∧
    ((fun (s : State) => tagBlock s = true ∧ tagSt s = 5) (upT 5 true)) := by
  refine ⟨⟨by decide +kernel, by decide +kernel⟩,
    ⟨by decide +kernel, by decide +kernel⟩,
    ⟨by decide +kernel, by decide +kernel⟩,
    ⟨by decide +kernel, by decide +kernel⟩,
    ⟨by decide +kernel, by decide +kernel, by decide +kernel⟩,
    ⟨by decide +kernel, by decide +kernel⟩,
    ⟨by decide +kernel, by decide +kernel⟩,
    by decide +kernel,
    ⟨by decide +kernel, by decide +kernel⟩,
    ⟨by decide +kernel, by decide +kernel⟩,
    ⟨by decide +kernel, by decide +kernel⟩,
    ⟨by decide +kernel, by decide +kernel⟩,
    ⟨by decide +kernel, by decide +kernel, by decide +kernel⟩,
    ⟨by decide +kernel, by decide +kernel⟩⟩

/-- TagApplication. -/
theorem witness_TagApplication :
    ((fun (s : State) => tagBlock s = true ∧ tagApp s = true) (upT 3 true)) ∧
    ((fun (s : State) (i : Nat) (le : Nat) => tagBlock s = true ∧ tagApp s = true ∧ (le = 16 ∨ le = 32 ∨ le = 48) ∧ i
      + le / 16 ≤ 256 ∧ (∀ k < le / 16, s.wrongAt (0x02001000 + 16 * (i + k)) = [])) (upT 3 true) 254 32) ∧
    ((fun (s : State) (i : Nat) => tagBlock s = true ∧ tagApp s = true ∧ i < 256 ∧ darkBad s (0x02001000 + 16 * i) =
      false) (upT 3 true) 254) ∧
    ((fun (s : State) (i : Nat) (le : Nat) (k : Nat) => tagBlock s = true ∧ tagApp s = true ∧ s.present 14 = false ∧
      (le = 16 ∨ le = 32 ∨ le = 48) ∧ i + le / 16 ≤ 256 ∧ k < le / 16 ∧ darkBad s (0x02001000 + 16 * (i + k)) = true)
      ((fun (x : State) => ({ x with mram := { x.mram with wrong := [(0x02001FE0, x.word 0x02001FE0, [1, 2])] } } :
      State)) ((upT 3 true).setDom 36 .off)) 254 32 0) ∧
    ((fun (s : State) (vh : Nat) (vr : Nat) => tagBlock s = true ∧ tagApp s = true) (upT 3 true) 2500 2300) ∧
    ((fun (s : State) (text : Bytes) (vh : Nat) (vr : Nat) (c : Nat) => tagBlock s = true ∧ tagSt s = 4 ∧ text.length
      = 11 ∧ ofBytes text < 2 ^ 88 ∧ noteFeed s vh vr = true ∧ s.tag.clearing = none ∧ c = s.reg P.tagNoteNext ∧ c + 1
      < 2 ^ 32 ∧ Memory.wf s.mem = true) (upT 4 true) ([1, 2, 3, 4, 5, 6, 7, 8, 9, 10, 11]) 0 0 ((upT 4 true).reg
      P.tagNoteNext)) ∧
    ((fun (s : State) (pw : Bytes) => tagBlock s = true ∧ tagApp s = true ∧ pw.length = 8 ∧ s.tag.password = some
      (ofBytes pw) ∧ authBarred s 0 = false)
      ({ (upT 3 true).setReg P.tagAuthModes 3 with tag := { (upT 3 true).tag with password := some 0x0807060504030201 } })
      ([1, 2, 3, 4, 5, 6, 7, 8])) ∧
    ((fun (s : State) (pw : Bytes) (k : Nat) => tagBlock s = true ∧ tagApp s = true ∧ pw.length = 8 ∧ s.tag.password =
      some k ∧ ofBytes pw ≠ k ∧ authBarred s 0 = false ∧ s.pwr.vaon = true)
      ({ (upT 4 true).setReg P.tagAuthModes 3 with tag := { (upT 4 true).tag with password := some 1 } }) ([1, 2, 3,
      4, 5, 6, 7, 8]) 1) ∧
    ((fun (s : State) => tagBlock s = true ∧ tagApp s = true ∧ authBarred s 1 = false) (upT 3 true)) ∧
    ((fun (s : State) (data : Bytes) (b : Nat) => tagBlock s = true ∧ s.tag.rndB = some b ∧ data.length = 32 ∧
      xorBytes (aesDecrypt (tagKey s) (data.drop 16)) (data.take 16) = rotl (toBytes 16 b))
      ({ upT 3 true with tag := { (upT 3 true).tag with rndB := some 0x1234 } }) (List.replicate 16 0 ++ aesEncrypt
      (tagKey up) (rotl (toBytes 16 0x1234))) 0x1234) ∧
    ((fun (s : State) (cause : Nat) => s.managerRuns = true ∧ Memory.wf s.mem = true) up 3) := by
  refine ⟨⟨by decide +kernel, by decide +kernel⟩,
    ⟨by decide +kernel, by decide +kernel, by decide +kernel, by decide +kernel, by decide +kernel⟩,
    ⟨by decide +kernel, by decide +kernel, by decide +kernel, by decide +kernel⟩,
    ⟨by decide +kernel, by decide +kernel, by decide +kernel, by decide +kernel, by decide +kernel,
      by decide +kernel, by decide +kernel⟩,
    ⟨by decide +kernel, by decide +kernel⟩,
    ⟨by decide +kernel, by decide +kernel, by decide +kernel, by decide +kernel, by decide +kernel,
      by decide +kernel, by decide +kernel, by decide +kernel, by decide +kernel⟩,
    ⟨by decide +kernel, by decide +kernel, by decide +kernel, by decide +kernel, by decide +kernel⟩,
    ⟨by decide +kernel, by decide +kernel, by decide +kernel, by decide +kernel, by decide +kernel,
      by decide +kernel, by decide +kernel⟩,
    ⟨by decide +kernel, by decide +kernel, by decide +kernel⟩,
    ⟨by decide +kernel, by decide +kernel, by decide +kernel, by decide +kernel⟩,
    ⟨by decide +kernel, by decide +kernel⟩⟩

/-- SerialPorts. -/
theorem witness_SerialPorts :
    ((fun (s : State) (b : Bytes) (op : Nat) (r : Req) => doorOpen s = true ∧ s.ser.door ≠ [] ∧ (∀ e ∈ s.ser.door, e.2
      = 0) ∧ cobsDecode (s.ser.door.map (·.1)) = some b ∧ 2 ≤ b.length ∧ b.length ≤ 1424 ∧ crc16 (b.take (b.length -
      2)) = ofBytes (b.drop (b.length - 2)) ∧ s.cue.running = true ∧ parseCue .stageDoor 0 0 (b.take (b.length - 2)) =
      some (op, r)) (upD doorW) (List.replicate 22 0 ++ toBytes 2 (crc16 (List.replicate 22 0))) 0 (⟨.stageDoor, 0, 0,
      0, 0, 0, 0, 0, 0, 0, [], 0⟩)) ∧
    ((fun (s : State) => s.ser.door ≠ []) (upD [(3, 0)])) ∧
    ((fun (s : State) (c : Nat) => doorOpen s = true ∧ s.pwr.asleep = false ∧ s.ser.lostFirst = false ∧ ustat s 0 7 =
      false ∧ bitOf s.ser.doorFmt 0 = false ∧ 0 < c ∧ c < 256) (upD [(3, 0)]) 0x55) ∧
    ((fun (s : State) (n : Nat) (c : Nat) => (n = 1 ∨ n = 2) ∧ tunnels s n = true ∧ s.reg (P.uartFlow n) ≠ 1 ∧
      s.ser.uarts.length = 5 ∧ (s.uart n).fifo = [] ∧ (s.uart n).lost = false ∧ (s.uart n).inBuf.length < 1024 ∧ bitOf
      (s.reg (P.uartFormat n)) 0 = false ∧ c < 256) (upU 2 1) 2 0x55) ∧
    ((fun (s : State) (u : Nat) => flows s u = true ∧ s.pwr.vio33 = true ∧ ustat s u 3 = true ∧ (s.uart u).fifo.length
      ≤ bits (s.reg (P.uartWm u)) 7 0) (((upU 1 1).setReg (P.uartFlow 1) 1).setReg (P.uartStatus 1) 8) 1) ∧
    ((fun (s : State) (u : Nat) => ((u = 0 ∧ doorOpen s = true) ∨ (1 ≤ u ∧ u ≤ 4 ∧ s.present 18 = true))) up 4) ∧
    ((fun (s : State) => s.pwr.asleep = true ∧ s.clk.src.length = 12)
      ({ up with pwr := { up.pwr with asleep := true } })) ∧
    ((fun (s : State) (n : Nat) => s.ser.woken = true ∧ wakeCountOk s n = true)
      ({ up with ser := { up.ser with woken := true } }) 15625) ∧
    ((fun (s : State) => doorOpen s = true) ({ up with ser := { up.ser with doorBaud := 9600 } })) ∧
    ((fun (s : State) => s.ser.doorPend = true) ({ up with ser := { up.ser with doorPend := true } })) ∧
    ((fun (s : State) => doorOpen s = true ∧ s.reg P.smgTier = 0x4B ∧ s.ser.door = [] ∧ s.ser.doorAt + ms (s.reg
      P.sdrFrameTimeoutMs) ≤ s.mono ∧ s.clk.src.length = 12) (up.setReg P.smgTier 0x4B)) := by
  refine ⟨⟨by decide +kernel, by decide +kernel, by decide +kernel, by decide +kernel, by decide +kernel, by decide +kernel,
      by decide +kernel, by decide +kernel, by decide +kernel⟩,
    by decide +kernel,
    ⟨by decide +kernel, by decide +kernel, by decide +kernel, by decide +kernel, by decide +kernel,
      by decide +kernel, by decide +kernel⟩,
    ⟨by decide +kernel, by decide +kernel, by decide +kernel, by decide +kernel, by decide +kernel,
      by decide +kernel, by decide +kernel, by decide +kernel, by decide +kernel⟩,
    ⟨by decide +kernel, by decide +kernel, by decide +kernel, by decide +kernel⟩,
    by decide +kernel,
    ⟨by decide +kernel, by decide +kernel⟩,
    ⟨by decide +kernel, by decide +kernel⟩,
    by decide +kernel,
    by decide +kernel,
    ⟨by decide +kernel, by decide +kernel, by decide +kernel, by decide +kernel, by decide +kernel⟩⟩

/-- ModuleAndKeypad. -/
theorem witness_ModuleAndKeypad :
    ((fun (s : State) => pmiRuns s = true ∧ s.pwr.vio33 = true) (upU 1 3)) ∧
    ((fun (s : State) (b : Bytes) => pmiRuns s = true ∧ pmiReplyOk s b = true ∧ bitOf (b.getD 6 0) 1 = false) (upP
      (some 9) 2) pmiW) ∧
    ((fun (s : State) => pmiRuns s = true ∧ s.ser.pmiWait ≠ none ∧ s.ser.pmiMissed < 2) (upP (some 9) 1)) ∧
    ((fun (s : State) => pmiRuns s = true ∧ s.ser.pmiWait ≠ none ∧ s.ser.pmiMissed = 2 ∧ s.veh.dc = false) (upP (some
      9) 2)) ∧
    ((fun (s : State) (k : Nat) => s.present 18 = true ∧ k < 20 ∧ s.ser.down = [] ∧ s.ser.keys.length < 32) up 5) ∧
    ((fun (s : State) (k : Nat) (d : Nat) (l : List Nat) => s.ser.keys = k :: l ∧ s.present 9 = true ∧ s.present 18 =
      true ∧ s.box.token = none ∧ keyDigit k = some d) ({ up with ser := { up.ser with keys := [5] } }) 5 5 ([])) := by
  refine ⟨⟨by decide +kernel, by decide +kernel⟩,
    ⟨by decide +kernel, by decide +kernel, by decide +kernel⟩,
    ⟨by decide +kernel, by decide +kernel, by decide +kernel⟩,
    ⟨by decide +kernel, by decide +kernel, by decide +kernel, by decide +kernel⟩,
    ⟨by decide +kernel, by decide +kernel, by decide +kernel, by decide +kernel⟩,
    ⟨by decide +kernel, by decide +kernel, by decide +kernel, by decide +kernel, by decide +kernel⟩⟩

/-- DisplayUpdates. -/
theorem witness_DisplayUpdates :
    ((fun (s : State) => s.present 3 = true ∧ s.present 19 = true ∧ dspState s = 4 ∧ s.dsp.offReq = false) (upY 4
      dspW)) ∧
    ((fun (s : State) => s.present 3 = true ∧ s.present 19 = true ∧ dspState s = 3 ∧ s.dsp.offReq = false ∧ tooCold
      (readTemp (renderFields s)) = false) ((upY 3 dspW).setReg P.dspImage 3)) ∧
    ((fun (s : State) => s.reg P.dspBlink = 0 ∧ s.dsp.fieldBlink = [] ∧ composeTarget (s.setDsp
      { s.dsp with dark := !s.dsp.dark }) = s.dsp.target) (upY 3 dspW)) ∧
    ((fun (s : State) => s.present 19 = true ∧ s.reg P.dspBlink ≠ 0 ∧ dspState s = 4 ∧ s.dsp.offReq = false) ((upY 4
      dspW).setReg P.dspBlink 6)) ∧
    ((fun (s : State) => s.present 19 = true ∧ s.domOn 61 = true ∧ dspState s = 2 ∧ s.dsp.frames + 1 < waveLen s
      s.dsp.band 3 0) (upY 2 dspW)) ∧
    ((fun (s : State) (r : SegRun) => s.present 19 = true ∧ s.domOn 61 = true ∧ dspState s = 4 ∧ s.dsp.offReq = false
      ∧ s.dsp.waiting = none ∧ s.dsp.runs = [r] ∧ r.frame + 1 < waveLen s s.dsp.band r.old r.new ∧ levelAt
      s.dsp.target r.seg = r.new ∧ (∀ i < 768, i = r.seg ∨ levelAt (s.reg P.dspImageNow) i = levelAt s.dsp.target i))
      (upY 4 { dspW with runs := [runW], target := 3 * 2 ^ 10 }) runW) ∧
    ((fun (s : State) => s.present 19 = true ∧ dspState s = 3) (upY 3 dspW)) ∧
    ((fun (s : State) (k : Nat) => k < 2 ∧ sinkCurrent s k ≠ 0) (((upY 3 dspW).setReg P.dspFlMode 2).setReg P.dspFl1Ma
      50) 1) ∧
    ((fun (s : State) => s.present 19 = true ∧ (dspState s = 0 ∨ dspState s = 8) ∧ castStands s 8 = true ∧ setOk
      (s.setDsp { s.dsp with set := s.wordsAt 0x02F10100 265, loaded := true }) = true) (((upY 8
      DspState.reset).setWords 0x02F10100 setW).setReg (P.wngCast 8) (2 ^ 72))) := by
  refine ⟨⟨by decide +kernel, by decide +kernel, by decide +kernel, by decide +kernel⟩,
    ⟨by decide +kernel, by decide +kernel, by decide +kernel, by decide +kernel, by decide +kernel⟩,
    ⟨by decide +kernel, by decide +kernel, by decide +kernel⟩,
    ⟨by decide +kernel, by decide +kernel, by decide +kernel, by decide +kernel⟩,
    ⟨by decide +kernel, by decide +kernel, by decide +kernel, by decide +kernel⟩,
    ⟨by decide +kernel, by decide +kernel, by decide +kernel, by decide +kernel, by decide +kernel,
      by decide +kernel, by decide +kernel, by decide +kernel, by decide +kernel⟩,
    ⟨by decide +kernel, by decide +kernel⟩,
    ⟨by decide +kernel, by decide +kernel⟩,
    ⟨by decide +kernel, by decide +kernel, by decide +kernel, by decide +kernel⟩⟩

/-- DisplayPower. -/
theorem witness_DisplayPower :
    ((fun (s : State) => s.present 19 = true ∧ s.domOn 61 = true ∧ dspState s = 0 ∧ s.dsp.loaded = true ∧ tooCold
      (readTemp s) = false) (upY 0 dspW)) ∧
    ((fun (s : State) => s.present 19 = true ∧ s.domOn 61 = true ∧ dspState s = 6 ∧ s.dsp.loaded = true ∧ tooCold
      (readTemp s) = false) (upY 6 dspW)) ∧
    ((fun (s : State) (late : Bool) => dspDriven s = true) (upY 4 { dspW with runs := [runW] }) false) ∧
    ((fun (s : State) => s.domOn 61 = true ∧ s.reg P.irnDspRails ≠ 0 ∧ dspDriven s = true) ((upY 4
      { dspW with runs := [runW] }).setReg P.irnDspRails 5)) ∧
    ((fun (s : State) => s.present 19 = true ∧ dspState s = 3 ∧ s.dsp.waiting = none) (upY 3 dspW)) ∧
    ((fun (s : State) => s.dsp.offReq = true ∧ dspDriven s = true) (upY 4
      { dspW with offReq := true, runs := [runW] })) ∧
    ((fun (s : State) => dspDriven s = true) (upY 4 { dspW with runs := [runW] })) ∧
    ((fun (s : State) => dspState s = 5 ∧ s.dsp.offReq = true) (upY 5 { dspW with offReq := true })) := by
  refine ⟨⟨by decide +kernel, by decide +kernel, by decide +kernel, by decide +kernel, by decide +kernel⟩,
    ⟨by decide +kernel, by decide +kernel, by decide +kernel, by decide +kernel, by decide +kernel⟩,
    by decide +kernel,
    ⟨by decide +kernel, by decide +kernel, by decide +kernel⟩,
    ⟨by decide +kernel, by decide +kernel, by decide +kernel⟩,
    ⟨by decide +kernel, by decide +kernel⟩,
    by decide +kernel,
    ⟨by decide +kernel, by decide +kernel⟩⟩

/-- ImagesJudged. -/
theorem witness_ImagesJudged :
    ((fun (s : State) (sig : Bool) => wngState s = 3 ∧ verifyResult sig s = 0) ((upW 3 wngW).setWords wingsBank imgW)
      true) ∧
    ((fun (s : State) (sig : Bool) => wngState s = 3 ∧ verifyResult sig s ≠ 0) ((upW 3 wngW).setWords wingsBank imgW)
      false) ∧
    ((fun (s : State) => s.pwr.boot = .running ∧ hashDiffers s = []) up) ∧
    ((fun (s : State) (c : Nat) => s.pwr.boot = .running ∧ hashDiffers s = [c]) (up.setReg (P.wngCast 8) (2 ^ 72)) 8) := by
  refine ⟨⟨by decide +kernel, by decide +kernel⟩,
    ⟨by decide +kernel, by decide +kernel⟩,
    ⟨by decide +kernel, by decide +kernel⟩,
    ⟨by decide +kernel, by decide +kernel⟩⟩

/-- LanesAndModules. -/
theorem witness_LanesAndModules :
    ((fun (s : State) (n : Nat) => lanePowered s n = true ∧ s.reg (P.slLaneState n) = 2 ∧ s.reg (P.slLaneSpeed n) = 0
      ∧ n < s.sl.slow.length) (upL.setReg (P.slLaneState 2) 2) 2) ∧
    ((fun (s : State) (n : Nat) => lanePowered s n = true ∧ s.reg (P.slLaneState n) = 2 ∧ s.reg (P.slLaneSpeed n) = 0
      ∧ s.src 4 = 2) (upL.setReg (P.slLaneState 2) 2) 2) ∧
    ((fun (s : State) (n : Nat) => lanePowered s n = true ∧ laneUp s n = true) upL 1) ∧
    ((fun (s : State) (n : Nat) (p : Nat) => lanePowered s n = true ∧ laneUp s n = true ∧ p < 4 ∧ s.reg (P.slLaneSpeed
      n) = 0 ∧ laneTests s n = false ∧ s.sl.mods.getD n false = true) upL 1 0) ∧
    ((fun (s : State) (n : Nat) (a : Bytes) (b : Bytes) => s.present 16 = true ∧ n < 4 ∧ a.length = 128 ∧ b.length =
      16 ∧ ofBytes a < 2 ^ 1024 ∧ ofBytes b < 2 ^ 128) upL 3 (List.replicate 128 3) (List.replicate 16 200)) ∧
    ((fun (s : State) (n : Nat) => s.present 16 = true ∧ n < 4 ∧ laneUp s n = false ∧ laneTests s n = false ∧ s.reg
      (P.slLaneSpeed n) = 0 ∧ s.sl.mods.length = 4) ((upL.setReg (P.slModId 3) 7).setReg (P.slLaneState 3) 1) 3) ∧
    ((fun (s : State) (n : Nat) (b : Bytes) => s.present 16 = true ∧ n < 4 ∧ s.sl.mods.getD n false = true ∧ b.length
      = 16 ∧ ofBytes b < 2 ^ 128) upL 0 (List.replicate 16 9)) ∧
    ((fun (s : State) (n : Nat) => s.present 16 = true ∧ n < 4 ∧ laneUp s n = true ∧ laneTests s n = false ∧ s.reg
      (P.slLaneSpeed n) = 0 ∧ s.sl.mods.length = 4) upL 1) := by
  refine ⟨⟨by decide +kernel, by decide +kernel, by decide +kernel, by decide +kernel⟩,
    ⟨by decide +kernel, by decide +kernel, by decide +kernel, by decide +kernel⟩,
    ⟨by decide +kernel, by decide +kernel⟩,
    ⟨by decide +kernel, by decide +kernel, by decide +kernel, by decide +kernel, by decide +kernel,
      by decide +kernel⟩,
    ⟨by decide +kernel, by decide +kernel, by decide +kernel, by decide +kernel, by decide +kernel,
      by decide +kernel⟩,
    ⟨by decide +kernel, by decide +kernel, by decide +kernel, by decide +kernel, by decide +kernel,
      by decide +kernel⟩,
    ⟨by decide +kernel, by decide +kernel, by decide +kernel, by decide +kernel, by decide +kernel⟩,
    ⟨by decide +kernel, by decide +kernel, by decide +kernel, by decide +kernel, by decide +kernel,
      by decide +kernel⟩⟩

/-- SwitchedFrames. -/
theorem witness_SwitchedFrames :
    ((fun (s : State) (p : Nat) (busy : Nat) (full : Nat) (residence : Nat) (l : Bytes) => s.present 15 = true ∧ p < 4
      ∧ portTakes s p = true ∧ (l.length < 64 ∨ 9216 < l.length)) upL 0 0 0 0 (List.replicate 63 1)) ∧
    ((fun (s : State) (p : Nat) (busy : Nat) (full : Nat) (residence : Nat) (l : Bytes) => s.present 15 = true ∧ p < 4
      ∧ portTakes s p = true ∧ 64 ≤ l.length ∧ l.length ≤ 9216 ∧ (¬ (frameFcs l = fcsOf (frameBody l))) ∧ frameFcs l =
      0xFFFFFFFF - fcsOf (frameBody l)) upL 0 0 0 0 (frB ++ toBytes 4 (0xFFFFFFFF - crc32 frB))) ∧
    ((fun (s : State) (p : Nat) (busy : Nat) (full : Nat) (residence : Nat) (l : Bytes) => s.present 15 = true ∧ p < 4
      ∧ portTakes s p = true ∧ 64 ≤ l.length ∧ l.length ≤ 9216 ∧ frameFcs l = fcsOf (frameBody l) ∧ vlanEntry s
      (frameVlan s p l).2 = none) (upL.setReg (P.slPortPvid 0) 5) 0 0 0 0 (frB ++ toBytes 4 (crc32 frB))) ∧
    ((fun (s : State) (u : State) (p : Nat) (q : Nat) (pcp : Nat) (vid : Nat) (e : Nat) (busy : Nat) (full : Nat)
      (residence : Nat) (l : Bytes) => s.present 15 = true ∧ p < 4 ∧ q < 4 ∧ portTakes s p = true ∧ portForwards s p =
      true ∧ 64 ≤ l.length ∧ l.length ≤ 9216 ∧ frameFcs l = fcsOf (frameBody l) ∧ frameVlan s p l = (pcp, vid) ∧
      vlanEntry s vid = some e ∧ vlanMember e p = true ∧ u = learn vid (macAt l 6) p (s.count (P.slPortRxFrames p) 1)
      ∧ egressPorts u p vid (macAt l 0) (ptpType (untag l)).isSome = ([q], false) ∧ bitOf full q = false) upL (learn 1
      0x0266778899AA 0 (upL.count (P.slPortRxFrames 0) 1)) 0 1 0 1 0x1F1F0001 2 0 77 (frB ++ toBytes 4 (crc32 frB))) ∧
    ((fun (s : State) (u : State) (p : Nat) (q : Nat) (pcp : Nat) (vid : Nat) (e : Nat) (busy : Nat) (full : Nat)
      (residence : Nat) (l : Bytes) => s.present 15 = true ∧ p < 4 ∧ q < 4 ∧ portTakes s p = true ∧ 64 ≤ l.length ∧
      l.length ≤ 9216 ∧ (¬ (frameFcs l = fcsOf (frameBody l))) ∧ (¬ (frameFcs l = 0xFFFFFFFF - fcsOf (frameBody l))) ∧
      frameVlan s p l = (pcp, vid) ∧ vlanEntry s vid = some e ∧ vlanMember e p = true ∧ u = s.count (P.slPortRxFcsErr
      p) 1 ∧ egressPorts u p vid (macAt l 0) (ptpType (untag l)).isSome = ([q], false) ∧ bitOf full q = false ∧
      cutsThrough s p q busy = true) upL (upL.count (P.slPortRxFcsErr 0) 1) 0 1 0 1 0x1F1F0001 0 0 77 (frB ++ toBytes
      4 (crc32 frB + 1))) := by
  refine ⟨⟨by decide +kernel, by decide +kernel, by decide +kernel, by decide +kernel⟩,
    ⟨by decide +kernel, by decide +kernel, by decide +kernel, by decide +kernel, by decide +kernel,
      by decide +kernel, by decide +kernel⟩,
    ⟨by decide +kernel, by decide +kernel, by decide +kernel, by decide +kernel, by decide +kernel,
      by decide +kernel, by decide +kernel⟩,
    ⟨by decide +kernel, by decide +kernel, by decide +kernel, by decide +kernel, by decide +kernel,
      by decide +kernel, by decide +kernel, by decide +kernel, by decide +kernel, by decide +kernel,
      by decide +kernel, rfl, by decide +kernel, by decide +kernel⟩,
    ⟨by decide +kernel, by decide +kernel, by decide +kernel, by decide +kernel, by decide +kernel,
      by decide +kernel, by decide +kernel, by decide +kernel, by decide +kernel, by decide +kernel,
      by decide +kernel, rfl, by decide +kernel, by decide +kernel, by decide +kernel⟩⟩

/-- PortFourAndPtp. -/
theorem witness_PortFourAndPtp :
    ((fun (s : State) (mac : Nat) (ip : Nat) (p : Nat) => hostReached s = true ∧ hostServing s = true ∧ egressPorts s
      4 (s.reg P.slHostVid) mac false = ([p], false) ∧ p < 4) upL 0x021122334455 0x0A000007 1) ∧
    ((fun (s : State) (mac : Nat) (ip : Nat) (p : Nat) (d : Bytes) => hostReached s = true ∧ hostServing s = true ∧
      (nextHop s ip).isSome = true ∧ egressPorts s 4 (s.reg P.slHostVid) mac false = ([p], false) ∧ p < 4) upL
      0x021122334455 0x0A000007 1 ([1, 2, 3])) ∧
    ((fun (s : State) (mac : Nat) (ip : Nat) (d : Bytes) => hostReached s = true ∧ hostServing s = true) upL
      0x021122334455 0x0A000007 ([1, 2, 3])) ∧
    ((fun (s : State) (port : Nat) (ip : Nat) (udp : Nat) (op : Nat) (d : Bytes) (r : Req) => hostReached s = true ∧
      hostServing s = true ∧ portForwards s port = true ∧ s.cue.running = true ∧ parseCue .stageLink ip udp d = some
      (op, r)) upL 1 0x0A000007 49320 7 ([1, 0, 2, 0, 3, 0, 4, 0, 7, 1, 0, 0, 0, 0, 9, 9, 9, 9, 9, 9, 9, 9])
      ({ via := .stageLink, ip := 0x0A000007, port := 49320, version := 1, flags := 0, seq := 2, src := 3, dst := 4, pid := 1, len := 0, payload := [], cmac := 0x0909090909090909 })) ∧
    ((fun (s : State) (port : Nat) (ip : Nat) (udp : Nat) (d : Bytes) => hostReached s = true ∧ hostServing s = true ∧
      portForwards s port = true) upL 1 0x0A000007 49320 ([])) ∧
    ((fun (s : State) (o : Int) (sec : Nat) (ns : Nat) => ptpWorks s = true ∧ s.reg P.slPtpState = 2 ∧ s.sl.inside =
      15 ∧ s.sl.timescale = false ∧ o.natAbs < s.reg P.slPtpLockNs)
      ({ upL.setReg P.slPtpState 2 with sl := { upL.sl with inside := 15 } }) (-40) 1000000000 5) ∧
    ((fun (s : State) (o : Int) (sec : Nat) (ns : Nat) => ptpWorks s = true ∧ s.reg P.slPtpState = 3 ∧ s.sl.outside =
      3 ∧ s.reg P.slPtpLockNs ≤ o.natAbs ∧ o.natAbs < 2 ^ 63)
      ({ upL.setReg P.slPtpState 3 with sl := { upL.sl with outside := 3 } }) 100 1000000000 5) ∧
    ((fun (s : State) (o : Int) (sec : Nat) (ns : Nat) => ptpWorks s = true ∧ s.reg P.slPtpState = 3 ∧ s.sl.timescale
      = true ∧ s.reg P.tirTimeSrc ≠ 1 ∧ o.natAbs < s.reg P.slPtpLockNs ∧ 946684800 ≤ sec ∧ s.now + ms 1 ≤ ptpTime sec
      ns) ({ upL.setReg P.slPtpState 3 with sl := { upL.sl with timescale := true } }) 1 946685900 500000000) ∧
    ((fun (s : State) (p1 : Nat) (cl : Nat) (ac : Nat) (va : Nat) (p2 : Nat) (id : Nat) (port : Nat) (ts : Bool) =>
      ptpWorks s = true ∧ s.sl.parent = none ∧ s.reg P.slPtpMode = 1 ∧ port < 4) upL 128 6 0x21 0x4E5D 128
      0xAABBCCFFFE001122 2 true) ∧
    ((fun (s : State) => ptpWorks s = true ∧ s.reg P.slPtpMode = 1 ∧ s.reg P.slPtpState = 3) (upL.setReg P.slPtpState
      3)) ∧
    ((fun (s : State) => ptpWorks s = true ∧ s.reg P.slPtpState = 4) (upL.setReg P.slPtpState 4)) := by
  refine ⟨⟨by decide +kernel, by decide +kernel, by decide +kernel, by decide +kernel⟩,
    ⟨by decide +kernel, by decide +kernel, by decide +kernel, by decide +kernel, by decide +kernel⟩,
    ⟨by decide +kernel, by decide +kernel⟩,
    ⟨by decide +kernel, by decide +kernel, by decide +kernel, by decide +kernel, by decide +kernel⟩,
    ⟨by decide +kernel, by decide +kernel, by decide +kernel⟩,
    ⟨by decide +kernel, by decide +kernel, by decide +kernel, by decide +kernel, by decide +kernel⟩,
    ⟨by decide +kernel, by decide +kernel, by decide +kernel, by decide +kernel, by decide +kernel⟩,
    ⟨by decide +kernel, by decide +kernel, by decide +kernel, by decide +kernel, by decide +kernel,
      by decide +kernel, by decide +kernel⟩,
    ⟨by decide +kernel, by decide +kernel, by decide +kernel, by decide +kernel⟩,
    ⟨by decide +kernel, by decide +kernel, by decide +kernel⟩,
    ⟨by decide +kernel, by decide +kernel⟩⟩

/-- TirwaFrames. -/
theorem witness_TirwaFrames :
    ((fun (s : State) (fc : Nat) (op : Nat) (mac : Bytes) (r : Req) => fcOk s fc = true ∧ fcType fc = 1 ∧ fcDst fc =
      s.seat ∧ fcAckReq fc = true ∧ macCrcOk mac = true ∧ bits (macHead mac) 127 96 = s.reg P.smgHouseId ∧ macKind mac
      = 1 ∧ macFinal mac = s.seat ∧ s.present 3 = true ∧ s.cue.running = true ∧ parseCue .tirwa 0 0 (macBody mac) =
      some (op, r)) upR (rxFc 1 8 7 9 1) 7 (rxMac 1 8 7 0 0 [1, 0, 2, 0, 3, 0, 4, 0, 7, 1, 0, 0, 0, 0, 9, 9, 9, 9, 9,
      9, 9, 9])
      ({ via := .tirwa, ip := 0, port := 0, version := 1, flags := 0, seq := 2, src := 3, dst := 4, pid := 1, len := 0, payload := [], cmac := 0x0909090909090909 })) ∧
    ((fun (s : State) (fc : Nat) (mac : Bytes) => fcOk s fc = true ∧ fcType fc = 1 ∧ fcDst fc = s.seat ∧ fcAckReq fc =
      true ∧ macCrcOk mac = false) upR (rxFc 1 8 7 9 1) ([1, 2, 3])) ∧
    ((fun (s : State) (fc : Nat) (mac : Bytes) => fcOk s fc = true ∧ fcType fc = 1 ∧ fcDst fc = s.seat ∧ macCrcOk mac
      = true ∧ bits (macHead mac) 127 96 = s.reg P.smgHouseId ∧ macKind mac = 1 ∧ macFinal mac ≠ s.seat ∧ macHops mac
      < 8) upR (rxFc 1 8 7 9 1) (rxMac 1 8 5 7 0 [1, 2, 3])) ∧
    ((fun (s : State) (fc : Nat) (it : TxItem) => fcOk s fc = true ∧ fcType fc = 2 ∧ fcDst fc = s.seat ∧ s.tir.waiting
      = some (it, fcSeq fc, fcSrc fc) ∧ fcAckStatus fc = 0)
      ({ upR with tir := { upR.tir with waiting := some (itW, 9, 8) } }) (rxFc 2 8 7 9 0) itW) ∧
    ((fun (s : State) (fc : Nat) (it : TxItem) => fcOk s fc = true ∧ fcType fc = 2 ∧ fcDst fc = s.seat ∧ s.tir.waiting
      = some (it, fcSeq fc, fcSrc fc) ∧ fcAckStatus fc ≠ 0 ∧ it.tries < s.reg P.tirRetryMax)
      ({ upR with tir := { upR.tir with waiting := some (itW, 9, 8) } }) (sealFc (rxFc 2 8 7 9 0 / 65536 * 65536 + 2 ^
      30)) itW) ∧
    ((fun (s : State) (it : TxItem) (f : Nat) (hop : Nat) => s.tir.waiting = some (it, f, hop) ∧ s.reg P.tirRetryMax ≤
      it.tries) ({ upR with tir := { upR.tir with waiting := some ({ itW with tries := 15 }, 9, 8) } })
      ({ itW with tries := 15 }) 9 8) ∧
    ((fun (s : State) => s.present 10 = true) upR) ∧
    ((fun (s : State) (it : TxItem) => inHouse s = true ∧ s.tir.waiting = none ∧ s.tir.queue = [it] ∧ it.sound = false
      ∧ it.kind ≠ 3 ∧ it.next = none ∧ it.final = 0xFFFF)
      ({ upR with tir := { upR.tir with queue := [{ itW with final := 0xFFFF }] } }) ({ itW with final := 0xFFFF })) ∧
    ((fun (s : State) (it : TxItem) (hop : Nat) => inHouse s = true ∧ s.tir.waiting = none ∧ s.tir.queue = [it] ∧
      it.sound = false ∧ it.kind ≠ 3 ∧ hopOf s it = some hop ∧ hop ≠ 0xFFFF)
      ({ upR with tir := { upR.tir with queue := [itW] } }) itW 8) ∧
    ((fun (s : State) (it : TxItem) => inHouse s = true ∧ s.tir.waiting = none ∧ s.tir.queue = [it] ∧ hopOf s it =
      none) ({ upR with tir := { upR.tir with queue := [{ itW with final := 99 }] } }) ({ itW with final := 99 })) := by
  refine ⟨⟨by decide +kernel, by decide +kernel, by decide +kernel, by decide +kernel, by decide +kernel, by decide +kernel,
      by decide +kernel, by decide +kernel, by decide +kernel, by decide +kernel, by decide +kernel⟩,
    ⟨by decide +kernel, by decide +kernel, by decide +kernel, by decide +kernel, by decide +kernel⟩,
    ⟨by decide +kernel, by decide +kernel, by decide +kernel, by decide +kernel, by decide +kernel,
      by decide +kernel, by decide +kernel, by decide +kernel⟩,
    ⟨by decide +kernel, by decide +kernel, by decide +kernel, by decide +kernel, by decide +kernel⟩,
    ⟨by decide +kernel, by decide +kernel, by decide +kernel, by decide +kernel, by decide +kernel,
      by decide +kernel⟩,
    ⟨by decide +kernel, by decide +kernel⟩,
    by decide +kernel,
    ⟨by decide +kernel, by decide +kernel, by decide +kernel, by decide +kernel, by decide +kernel,
      by decide +kernel, by decide +kernel⟩,
    ⟨by decide +kernel, by decide +kernel, by decide +kernel, by decide +kernel, by decide +kernel,
      by decide +kernel, by decide +kernel⟩,
    ⟨by decide +kernel, by decide +kernel, by decide +kernel, by decide +kernel⟩⟩

/-- NeighboursAndRoutes. -/
theorem witness_NeighboursAndRoutes :
    ((fun (s : State) (fc : Nat) (mac : Bytes) (via : Bool) => (takeControl 2 fc mac s).1 = true ∧ fcSrc fc ≤ 0x0FFF ∧
      fcSrc fc ≠ s.seat) upR (rxFc 1 8 0xFFFF 9 0) (rxMac 2 8 0xFFFF 0 5 (helloBody upR [])) true) ∧
    ((fun (s : State) (fc : Nat) (mac : Bytes) (via : Bool) => fcOk s fc = true ∧ fcType fc = 1 ∧ fcDst fc = 0xFFFF ∧
      macCrcOk mac = true ∧ bits (macHead mac) 127 96 = s.reg P.smgHouseId ∧ macKind mac = 2 ∧ s.present 3 = true ∧
      s.seat ≤ 0x0FFF ∧ (s.neigh (fcSrc fc)).isSome = true ∧ (macAuthentic s mac = false ∨ (macOrigin mac ≠ s.seat ∧
      countFresh s mac = false))) ({ upR with tir := { upR.tir with counts := [(8, 5, 1000 * second)] } }) (rxFc 1 8
      0xFFFF 9 0) (rxMac 2 8 0xFFFF 0 5 (helloBody upR [])) true) ∧
    ((fun (s : State) => s.present 3 = true ∧ inHouse s = true ∧ s.tir.asking = false) upR) ∧
    ((fun (s : State) => s.present 3 = true ∧ inHouse s = true ∧ s.tir.routes.any Route.urgent = true ∧ s.tir.helloAt
      + second ≤ s.mono) ({ upR with tir := { upR.tir with routes := [rtW] } })) ∧
    ((fun (s : State) => s.mono < s.tir.helloAt + second)
      ({ upR with tir := { upR.tir with helloAt := 1000 * second } })) ∧
    ((fun (s : State) => s.tir.routes.any Route.urgent = false) (upR)) ∧
    ((fun (s : State) (n : Nat) => s.tir.neigh.length ≤ 256 ∧ (∀ r ∈ s.tir.routes, r.dest ≤ 0x0FFF ∧ r.dest ≠ s.seat))
      ({ upR with tir := { upR.tir with routes := [rtW] } }) 8) ∧
    ((fun (s : State) (d : Nat) (r : Route) => s.route d = some r ∧ r.works = true)
      ({ upR with tir := { upR.tir with routes := [rtW] } }) 8 rtW) ∧
    ((fun (s : State) (d : Nat) (r : Route) => s.route d = some r ∧ r.works = false)
      ({ upR with tir := { upR.tir with routes := [{ rtW with hops := 15 }] } }) 8 ({ rtW with hops := 15 })) ∧
    ((fun (s : State) (f : Flood) (o : Nat) (c : Nat) => inHouse s = true ∧ s.tir.floods.find? (fun x => x.item.origin
      == o && x.item.count == c && !x.done) = some f ∧ f.heard < 2)
      ({ upR with tir := { upR.tir with floods := [⟨itW, 1, false⟩] } }) (⟨itW, 1, false⟩) 7 0) ∧
    ((fun (s : State) (f : Flood) (o : Nat) (c : Nat) => s.tir.floods.find? (fun x => x.item.origin == o &&
      x.item.count == c && !x.done) = some f ∧ 2 ≤ f.heard)
      ({ upR with tir := { upR.tir with floods := [⟨itW, 2, false⟩] } }) (⟨itW, 2, false⟩) 7 0) ∧
    ((fun (s : State) => s.present 10 = true ∧ s.present 3 = true ∧ inHouse s = true ∧ s.reg P.tirSeatCfg ≠ 0xFFFE ∧
      s.tir.lead = false) (upR.setReg P.tirSeatCfg 7)) := by
  refine ⟨⟨by decide +kernel, by decide +kernel, by decide +kernel⟩,
    ⟨by decide +kernel, by decide +kernel, by decide +kernel, by decide +kernel, by decide +kernel,
      by decide +kernel, by decide +kernel, by decide +kernel, by decide +kernel, by decide +kernel⟩,
    ⟨by decide +kernel, by decide +kernel, by decide +kernel⟩,
    ⟨by decide +kernel, by decide +kernel, by decide +kernel, by decide +kernel⟩,
    by decide +kernel,
    by decide +kernel,
    ⟨by decide +kernel, by decide +kernel⟩,
    ⟨by decide +kernel, by decide +kernel⟩,
    ⟨by decide +kernel, by decide +kernel⟩,
    ⟨by decide +kernel, by decide +kernel, by decide +kernel⟩,
    ⟨by decide +kernel, by decide +kernel⟩,
    ⟨by decide +kernel, by decide +kernel, by decide +kernel, by decide +kernel, by decide +kernel⟩⟩

/-- HouseLead. -/
theorem witness_HouseLead :
    ((fun (s : State) (fc : Nat) (mac : Bytes) (w0 : Nat) (w1 : Nat) => (takeControl 3 fc mac s).1 = true ∧ s.tir.lead
      = false ∧ w0 = ofBytes ((macBody mac).take 16) ∧ w1 = ofBytes (slice (macBody mac) 16 16))
      ({ upR with tir := { upR.tir with claim := 1 } }) (rxFc 1 8 0xFFFF 9 0) (rxMac 3 2 0xFFFF 1 5 bcnW) (ofBytes
      (bcnW.take 16)) (ofBytes (slice bcnW 16 16))) ∧
    ((fun (s : State) (fc : Nat) (w : Nat) (mac : Bytes) => (takeControl 3 fc mac s).1 = true ∧ s.tir.lead = false ∧
      s.present 9 = true ∧ (beaconEntries (min 160 (bits (ofBytes (slice (macBody mac) 32 16)) 63 48)) ((macBody
      mac).drop 48)).find? (fun e => e.1 == s.seat) = some (s.seat, w) ∧ w < 2 ^ 32 ∧ w ≤ s.reg P.tirShareW ∧ bits
      (ofBytes (slice (macBody mac) 16 16)) 63 0 + ms 1500 < 2 ^ 64) (upR.setReg P.tirShareW 9000) (rxFc 1 8 0xFFFF 9
      0) 4000 (rxMac 3 2 0xFFFF 1 5 bcnW)) ∧
    ((fun (s : State) (fc : Nat) (mac : Bytes) => (takeControl 4 fc mac s).1 = true ∧ macHops mac < 8 ∧ rankOf
      ((macBody mac).getD 8 0) (ofBytes ((macBody mac).take 8)) < ownRank s)
      ({ upR with tir := { upR.tir with claim := 2 } }) (rxFc 1 8 0xFFFF 9 0) (rxMac 4 2 0xFFFF 1 5 [1, 0, 0, 0, 0, 0,
      0, 0, 0])) ∧
    ((fun (s : State) => s.tir.lead = false ∧ candidate s = true) upR) ∧
    ((fun (s : State) => s.tir.claim = 1 ∧ candidate s = true) ({ upR with tir := { upR.tir with claim := 1 } })) ∧
    ((fun (s : State) => s.tir.claim = 2 ∧ candidate s = true ∧ s.seat ≤ 0x0FFF)
      ({ upR with tir := { upR.tir with claim := 2 } })) := by
  refine ⟨⟨by decide +kernel, by decide +kernel, by decide +kernel, by decide +kernel⟩,
    ⟨by decide +kernel, by decide +kernel, by decide +kernel, by decide +kernel, by decide +kernel,
      by decide +kernel, by decide +kernel⟩,
    ⟨by decide +kernel, by decide +kernel, by decide +kernel⟩,
    ⟨by decide +kernel, by decide +kernel⟩,
    ⟨by decide +kernel, by decide +kernel⟩,
    ⟨by decide +kernel, by decide +kernel, by decide +kernel⟩⟩

/-- SeatsAndShares. -/
theorem witness_SeatsAndShares :
    ((fun (s : State) (fc : Nat) (id : Nat) (n : Nat) (mac : Bytes) => (takeControl 5 fc mac s).1 = true ∧ s.tir.lead
      = true ∧ id = ofBytes ((macBody mac).take 8) ∧ n = ofBytes (slice (macBody mac) 8 2) ∧ (s.tir.seats.any (fun e
      => e.2.1 == id)) = false ∧ seatFree s n = true) ({ upR with tir := { upR.tir with lead := true } }) (rxFc 1 8 7
      9 1) 0x77 20 (rxMac 5 0xFFFE 7 0 5 (toBytes 8 0x77 ++ [20, 0]))) ∧
    ((fun (s : State) (fc : Nat) (n : Nat) (mac : Bytes) => (takeControl 6 fc mac s).1 = true ∧ ofBytes ((macBody
      mac).take 8) = s.ident ∧ n = ofBytes (slice (macBody mac) 8 2) ∧ (macBody mac).getD 10 0 = 0 ∧ n ≤ 0x0FFF) upR
      (rxFc 1 8 7 9 1) 20 (rxMac 6 8 7 0 5 (upR.postId ++ [20, 0, 0]))) ∧
    ((fun (s : State) => s.present 3 = true ∧ sessionOpen s = true ∧ s.tir.lead = true ∧ s.reg P.tirSafeW < 2 ^ 32 ∧
      s.reg P.tirPhaseClass < 8) ({ (upR.setReg P.wdnSesState 5) with tir := { upR.tir with lead := true } })) ∧
    ((fun (s : State) => s.present 3 = true ∧ inHouse s = true ∧ sessionOpen s = true ∧ s.tir.lead = false ∧ s.reg
      P.tirLeadSeat ≠ 0xFFFE) ((upR.setReg P.wdnSesState 5).setReg P.tirLeadSeat 2)) ∧
    ((fun (s : State) (fc : Nat) (mac : Bytes) => (takeControl 8 fc mac s).1 = true ∧ macFinal mac = s.seat ∧
      s.tir.lead = true) ({ upR with tir := { upR.tir with lead := true } }) (rxFc 1 8 7 9 1) (rxMac 8 8 7 0 5
      (List.replicate 16 1))) ∧
    ((fun (s : State) => s.tir.lead = true ∧ s.present 3 = true ∧ inHouse s = true)
      ({ upR with tir := { upR.tir with lead := true, reports := [⟨8, 9000 * 2 ^ 96 + 1000 * 2 ^ 64 + 500 * 2 ^ 32 + 7 * 2 ^ 26 + 2 ^ 24, 1000 * second⟩] } })) ∧
    ((fun (s : State) (w : Nat) (a : Nat) => s.tir.share = some (w, a) ∧ s.present 9 = true ∧ w < 2 ^ 32)
      ({ upR with tir := { upR.tir with share := some (7000, 5) } }) 7000 5) ∧
    ((fun (s : State) => s.present 9 = true ∧ s.reg P.tirSafeW < 2 ^ 32)
      ({ upR with tir := { upR.tir with share := some (7000, 5) } })) := by
  refine ⟨⟨by decide +kernel, by decide +kernel, by decide +kernel, by decide +kernel, by decide +kernel, by decide +kernel⟩,
    ⟨by decide +kernel, by decide +kernel, by decide +kernel, by decide +kernel, by decide +kernel⟩,
    ⟨by decide +kernel, by decide +kernel, by decide +kernel, by decide +kernel, by decide +kernel⟩,
    ⟨by decide +kernel, by decide +kernel, by decide +kernel, by decide +kernel, by decide +kernel⟩,
    ⟨by decide +kernel, by decide +kernel, by decide +kernel⟩,
    ⟨by decide +kernel, by decide +kernel, by decide +kernel⟩,
    ⟨by decide +kernel, by decide +kernel, by decide +kernel⟩,
    ⟨by decide +kernel, by decide +kernel⟩⟩

/-- ToneMapsAndSlac. -/
theorem witness_ToneMapsAndSlac :
    ((fun (s : State) (fc : Nat) (snr : List Int) => fcOk s fc = true ∧ fcType fc = 3 ∧ fcDst fc = s.seat ∧ s.present
      3 = true ∧ s.neigh (fcSrc fc) = none ∧ s.tir.neigh.length < 256 ∧ fcSrc fc ≤ 0x0FFF ∧ fcSrc fc ≠ s.seat) upR
      (rxFc 3 9 7 9 0) (List.replicate 768 100)) ∧
    ((fun (s : State) (fc : Nat) (mac : Bytes) => (takeControl 7 fc mac s).1 = true ∧ (macBody mac).length = 392 ∧
      fcSrc fc ≤ 0x0FFF ∧ fcSrc fc ≠ s.seat) upR (rxFc 1 8 7 9 1) (rxMac 7 8 7 0 5 (4 :: List.replicate 391 0))) ∧
    ((fun (s : State) (n : Nat) => (s.neigh n).isSome = true ∧ inHouse s = true) upR 8) ∧
    ((fun (s : State) (seat : Nat) (n : Neigh) => s.neigh seat = some n ∧ (n.txMaps.any (fun m => !(m.body == []))) =
      true) ({ upR with tir := { upR.tir with neigh := [nbM] } }) 8 nbM) ∧
    ((fun (s : State) (mac : Nat) => slacServes s = true ∧ mac < 2 ^ 48) (upG 1 SlacState.reset) 0x021122334455) ∧
    ((fun (s : State) (n : Nat) => slacServes s = true ∧ s.slac.running = true ∧ 0 < n) (upG 1
      { SlacState.reset with running := true }) 10) ∧
    ((fun (s : State) (l : List Nat) => slacServes s = true ∧ s.slac.running = true ∧ s.reg P.tirGpState = 2 ∧
      s.slac.sounds + 1 < s.slac.expected) (upG 2 { SlacState.reset with running := true, expected := 10 })
      (List.replicate 58 30)) ∧
    ((fun (s : State) (l : List Nat) => slacServes s = true ∧ s.slac.running = true ∧ s.reg P.tirGpState = 2 ∧
      s.slac.expected = s.slac.sounds + 1) (upG 2
      { SlacState.reset with running := true, expected := 2, sounds := 1, sums := List.replicate 58 20 })
      (List.replicate 58 31)) ∧
    ((fun (s : State) => slacServes s = true ∧ s.reg P.tirGpState = 2 ∧ s.slac.sounds = s.slac.expected) (upG 2
      { SlacState.reset with running := true, expected := 2, sounds := 2 })) ∧
    ((fun (s : State) => slacServes s = true ∧ s.slac.answered = true) (upG 2
      { SlacState.reset with running := true, expected := 2, sounds := 2, answered := true })) ∧
    ((fun (s : State) => s.present 11 = true ∧ s.slac.running = true) (upG 2
      { SlacState.reset with running := true, expected := 2, sounds := 2 })) := by
  refine ⟨⟨by decide +kernel, by decide +kernel, by decide +kernel, by decide +kernel, by decide +kernel, by decide +kernel,
      by decide +kernel, by decide +kernel⟩,
    ⟨by decide +kernel, by decide +kernel, by decide +kernel, by decide +kernel⟩,
    ⟨by decide +kernel, by decide +kernel⟩,
    ⟨by decide +kernel, by decide +kernel⟩,
    ⟨by decide +kernel, by decide +kernel⟩,
    ⟨by decide +kernel, by decide +kernel, by decide +kernel⟩,
    ⟨by decide +kernel, by decide +kernel, by decide +kernel, by decide +kernel⟩,
    ⟨by decide +kernel, by decide +kernel, by decide +kernel, by decide +kernel⟩,
    ⟨by decide +kernel, by decide +kernel, by decide +kernel⟩,
    ⟨by decide +kernel, by decide +kernel⟩,
    ⟨by decide +kernel, by decide +kernel⟩⟩

/-- ClockPowerBankRequests. -/
theorem witness_ClockPowerBankRequests :
    ((fun (s : State) (h : State) (r : Req) (q : Req) => q = reqFor r P.ckForceNow ∧ AcceptedWrite q s ∧ h = heard q s
      ∧ s.clk.islands.length = 24) (upB up) (heard (reqFor (rq opWrite P.ckForceNow (toBytes 4 0x010004) (upB up))
      P.ckForceNow) (upB up)) (rq opWrite P.ckForceNow (toBytes 4 0x010004) (upB up)) (reqFor (rq opWrite P.ckForceNow
      (toBytes 4 0x010004) (upB up)) P.ckForceNow)) ∧
    ((fun (s : State) (h : State) (r : Req) (q : Req) => q = reqWith r P.pwResetReq [0x5A] ∧ AcceptedWrite q s ∧ h =
      heard q s) (upB up) (heard (reqWith (rq opWrite P.pwResetReq [0x5A] (upB up)) P.pwResetReq [0x5A]) (upB up)) (rq
      opWrite P.pwResetReq [0x5A] (upB up)) (reqWith (rq opWrite P.pwResetReq [0x5A] (upB up)) P.pwResetReq [0x5A])) ∧
    ((fun (s : State) (h : State) (r : Req) (q : Req) => q = reqFor r P.pwTierReq ∧ AcceptedWrite q s ∧ h = heard q s
      ∧ ofBytes r.payload < 256 ∧ (performWrite (servingOf opWrite q s) q.pid q.payload h).1 = resOk) (upB up) (heard
      (reqFor (rq opWrite P.pwTierReq [0x4D] (upB up)) P.pwTierReq) (upB up)) (rq opWrite P.pwTierReq [0x4D] (upB up))
      (reqFor (rq opWrite P.pwTierReq [0x4D] (upB up)) P.pwTierReq)) ∧
    ((fun (s : State) (h : State) (r : Req) (q : Req) (u : State) => q = reqOp r P.pbkBankCmd 1 ∧ AcceptedWrite q s ∧
      h = heard q s ∧ bankRequest 0x0C 1 (bits (ofBytes q.payload) 10 8) (bits (ofBytes q.payload) 14 12) h =
      (.started, u) ∧ bits (ofBytes q.payload) 7 0 = 1) (upB up) (heard (reqOp (rq opWrite P.pbkBankCmd [1, 6, 0, 0]
      (upB up)) P.pbkBankCmd 1) (upB up)) (rq opWrite P.pbkBankCmd [1, 6, 0, 0] (upB up)) (reqOp (rq opWrite
      P.pbkBankCmd [1, 6, 0, 0] (upB up)) P.pbkBankCmd 1) ((bankRequest 0x0C 1 (bits (ofBytes [1, 6, 0, 0]) 10 8)
      (bits (ofBytes [1, 6, 0, 0]) 14 12) (heard (reqOp (rq opWrite P.pbkBankCmd [1, 6, 0, 0] (upB up)) P.pbkBankCmd
      1) (upB up))).2)) ∧
    ((fun (s : State) (h : State) (r : Req) (q : Req) (u : State) => q = reqOp r P.pbkBankCmd 2 ∧ AcceptedWrite q s ∧
      h = heard q s ∧ bankRequest 0x0C 2 (bits (ofBytes q.payload) 10 8) (bits (ofBytes q.payload) 14 12) h =
      (.started, u) ∧ bits (ofBytes q.payload) 7 0 = 2 ∧ 4 ≤ reqKey q) (upB up) (heard (reqOp (rq opWrite P.pbkBankCmd
      [2, 0x56, 0, 0] (upB up)) P.pbkBankCmd 2) (upB up)) (rq opWrite P.pbkBankCmd [2, 0x56, 0, 0] (upB up)) (reqOp
      (rq opWrite P.pbkBankCmd [2, 0x56, 0, 0] (upB up)) P.pbkBankCmd 2) ((bankRequest 0x0C 2 (bits (ofBytes [2, 0x56,
      0, 0]) 10 8) (bits (ofBytes [2, 0x56, 0, 0]) 14 12) (heard (reqOp (rq opWrite P.pbkBankCmd [2, 0x56, 0, 0] (upB
      up)) P.pbkBankCmd 2) (upB up))).2)) ∧
    ((fun (s : State) (h : State) (r : Req) (q : Req) (u : State) => q = reqOp r P.pbkBankCmd 3 ∧ AcceptedWrite q s ∧
      h = heard q s ∧ bankRequest 0x0C 3 (bits (ofBytes q.payload) 10 8) (bits (ofBytes q.payload) 14 12) h =
      (.started, u) ∧ bits (ofBytes q.payload) 7 0 = 3 ∧ 4 ≤ reqKey q) (upB up) (heard (reqOp (rq opWrite P.pbkBankCmd
      [3, 6, 0, 0] (upB up)) P.pbkBankCmd 3) (upB up)) (rq opWrite P.pbkBankCmd [3, 6, 0, 0] (upB up)) (reqOp (rq
      opWrite P.pbkBankCmd [3, 6, 0, 0] (upB up)) P.pbkBankCmd 3) ((bankRequest 0x0C 3 (bits (ofBytes [3, 6, 0, 0]) 10
      8) (bits (ofBytes [3, 6, 0, 0]) 14 12) (heard (reqOp (rq opWrite P.pbkBankCmd [3, 6, 0, 0] (upB up))
      P.pbkBankCmd 3) (upB up))).2)) := by
  refine ⟨⟨rfl, ⟨accepted_rq (op := opWrite) (p := P.ckForceNow) (val := (toBytes 4 0x010004)) (s₀ := (upB up)) rfl rfl rfl
      rfl (by decide +kernel), by decide +kernel⟩, rfl, by decide +kernel⟩,
    ⟨rfl, ⟨accepted_rq (op := opWrite) (p := P.pwResetReq) (val := [0x5A]) (s₀ := (upB up)) rfl rfl rfl rfl
      (by decide +kernel), by decide +kernel⟩, rfl⟩,
    ⟨rfl, ⟨accepted_rq (op := opWrite) (p := P.pwTierReq) (val := [0x4D]) (s₀ := (upB up)) rfl rfl rfl rfl
      (by decide +kernel), by decide +kernel⟩, rfl, by decide +kernel, by decide +kernel⟩,
    ⟨rfl, ⟨accepted_rq (op := opWrite) (p := P.pbkBankCmd) (val := [1, 6, 0, 0]) (s₀ := (upB up)) rfl rfl rfl rfl
      (by decide +kernel), by decide +kernel⟩, rfl, by decide +kernel, by decide +kernel⟩,
    ⟨rfl, ⟨accepted_rq (op := opWrite) (p := P.pbkBankCmd) (val := [2, 0x56, 0, 0]) (s₀ := (upB up)) rfl rfl rfl rfl
      (by decide +kernel), by decide +kernel⟩, rfl, by decide +kernel, by decide +kernel, by decide +kernel⟩,
    ⟨rfl, ⟨accepted_rq (op := opWrite) (p := P.pbkBankCmd) (val := [3, 6, 0, 0]) (s₀ := (upB up)) rfl rfl rfl rfl
      (by decide +kernel), by decide +kernel⟩, rfl, by decide +kernel, by decide +kernel, by decide +kernel⟩⟩

/-- FlyRequests. -/
theorem witness_FlyRequests :
    ((fun (s : State) (h : State) (r : Req) (q : Req) => q = reqWith r P.flyCmd [1] ∧ AcceptedWrite q s ∧ h = heard q
      s ∧ motionRefused true h = none ∧ h.fly.phase = .run) (upB (upFly .run .target)) (heard (reqWith (rq opWrite
      P.flyCmd [1] (upB (upFly .run .target))) P.flyCmd [1]) (upB (upFly .run .target))) (rq opWrite P.flyCmd [1] (upB
      (upFly .run .target))) (reqWith (rq opWrite P.flyCmd [1] (upB (upFly .run .target))) P.flyCmd [1])) ∧
    ((fun (s : State) (h : State) (r : Req) (q : Req) => q = reqWith r P.flyCmd [1] ∧ AcceptedWrite q s ∧ h = heard q
      s ∧ motionRefused true h = none ∧ h.fly.phase = .rest ∧ brakeDue h = true ∧ atHome h = true) (upB (((upFly .rest
      .none).setReg P.flyStatus 0x26).setReg P.flyPos 1000)) (heard (reqWith (rq opWrite P.flyCmd [1] (upB (((upFly
      .rest .none).setReg P.flyStatus 0x26).setReg P.flyPos 1000))) P.flyCmd [1]) (upB (((upFly .rest .none).setReg
      P.flyStatus 0x26).setReg P.flyPos 1000))) (rq opWrite P.flyCmd [1] (upB (((upFly .rest .none).setReg P.flyStatus
      0x26).setReg P.flyPos 1000))) (reqWith (rq opWrite P.flyCmd [1] (upB (((upFly .rest .none).setReg P.flyStatus
      0x26).setReg P.flyPos 1000))) P.flyCmd [1])) ∧
    ((fun (s : State) (h : State) (r : Req) (q : Req) => q = reqWith r P.flyCmd [3] ∧ AcceptedWrite q s ∧ h = heard q
      s ∧ h.fly.phase = .run) (upB (upFly .run .target)) (heard (reqWith (rq opWrite P.flyCmd [3] (upB (upFly .run
      .target))) P.flyCmd [3]) (upB (upFly .run .target))) (rq opWrite P.flyCmd [3] (upB (upFly .run .target)))
      (reqWith (rq opWrite P.flyCmd [3] (upB (upFly .run .target))) P.flyCmd [3])) ∧
    ((fun (s : State) (h : State) (r : Req) (q : Req) => q = reqWith r P.flyCmd [4] ∧ AcceptedWrite q s ∧ h = heard q
      s ∧ h.fly.phase = .run) (upB (upFly .run .target)) (heard (reqWith (rq opWrite P.flyCmd [4] (upB (upFly .run
      .target))) P.flyCmd [4]) (upB (upFly .run .target))) (rq opWrite P.flyCmd [4] (upB (upFly .run .target)))
      (reqWith (rq opWrite P.flyCmd [4] (upB (upFly .run .target))) P.flyCmd [4])) ∧
    ((fun (s : State) (h : State) (r : Req) (q : Req) => q = reqWith r P.flyCmd [5] ∧ AcceptedWrite q s ∧ h = heard q
      s ∧ (actFlyResume h).1 = resOk ∧ h.fly.phase = .run) (upB ((upFly .run .quick).setReg P.flyStatus 0x86)) (heard
      (reqWith (rq opWrite P.flyCmd [5] (upB ((upFly .run .quick).setReg P.flyStatus 0x86))) P.flyCmd [5]) (upB
      ((upFly .run .quick).setReg P.flyStatus 0x86))) (rq opWrite P.flyCmd [5] (upB ((upFly .run .quick).setReg
      P.flyStatus 0x86))) (reqWith (rq opWrite P.flyCmd [5] (upB ((upFly .run .quick).setReg P.flyStatus 0x86)))
      P.flyCmd [5])) ∧
    ((fun (s : State) (h : State) (r : Req) (q : Req) => q = reqWith r P.flyCmd [6] ∧ AcceptedWrite q s ∧ h = heard q
      s ∧ motionRefused false h = none ∧ h.fly.phase = .run) (upB (upFly .run .target)) (heard (reqWith (rq opWrite
      P.flyCmd [6] (upB (upFly .run .target))) P.flyCmd [6]) (upB (upFly .run .target))) (rq opWrite P.flyCmd [6] (upB
      (upFly .run .target))) (reqWith (rq opWrite P.flyCmd [6] (upB (upFly .run .target))) P.flyCmd [6])) ∧
    ((fun (s : State) (h : State) (r : Req) (q : Req) => q = reqWith r P.flyCmd [7] ∧ AcceptedWrite q s ∧ h = heard q
      s ∧ motionRefused false h = none ∧ h.fly.phase = .run) (upB (upFly .run .target)) (heard (reqWith (rq opWrite
      P.flyCmd [7] (upB (upFly .run .target))) P.flyCmd [7]) (upB (upFly .run .target))) (rq opWrite P.flyCmd [7] (upB
      (upFly .run .target))) (reqWith (rq opWrite P.flyCmd [7] (upB (upFly .run .target))) P.flyCmd [7])) ∧
    ((fun (s : State) (h : State) (r : Req) (q : Req) => q = reqFor r P.flyTarget ∧ AcceptedWrite q s ∧ h = heard q s
      ∧ (actFlyTarget (ofBytes r.payload) h).1 = resOk ∧ h.fly.goal ≠ .quick ∧ ofBytes r.payload < 2 ^ 32) (upB (upFly
      .run .target)) (heard (reqFor (rq opWrite P.flyTarget (toBytes 4 1000) (upB (upFly .run .target))) P.flyTarget)
      (upB (upFly .run .target))) (rq opWrite P.flyTarget (toBytes 4 1000) (upB (upFly .run .target))) (reqFor (rq
      opWrite P.flyTarget (toBytes 4 1000) (upB (upFly .run .target))) P.flyTarget)) := by
  refine ⟨⟨rfl, ⟨accepted_rq (op := opWrite) (p := P.flyCmd) (val := [1]) (s₀ := (upB (upFly .run .target))) rfl rfl rfl rfl
      (by decide +kernel), by decide +kernel⟩, rfl, by decide +kernel, by decide +kernel⟩,
    ⟨rfl, ⟨accepted_rq (op := opWrite) (p := P.flyCmd) (val := [1]) (s₀ := (upB (((upFly .rest .none).setReg
      P.flyStatus 0x26).setReg P.flyPos 1000))) rfl rfl rfl rfl (by decide +kernel), by decide +kernel⟩, rfl,
      by decide +kernel, by decide +kernel, by decide +kernel, by decide +kernel⟩,
    ⟨rfl, ⟨accepted_rq (op := opWrite) (p := P.flyCmd) (val := [3]) (s₀ := (upB (upFly .run .target))) rfl rfl rfl
      rfl (by decide +kernel), by decide +kernel⟩, rfl, by decide +kernel⟩,
    ⟨rfl, ⟨accepted_rq (op := opWrite) (p := P.flyCmd) (val := [4]) (s₀ := (upB (upFly .run .target))) rfl rfl rfl
      rfl (by decide +kernel), by decide +kernel⟩, rfl, by decide +kernel⟩,
    ⟨rfl, ⟨accepted_rq (op := opWrite) (p := P.flyCmd) (val := [5]) (s₀ := (upB ((upFly .run .quick).setReg
      P.flyStatus 0x86))) rfl rfl rfl rfl (by decide +kernel), by decide +kernel⟩, rfl, by decide +kernel,
      by decide +kernel⟩,
    ⟨rfl, ⟨accepted_rq (op := opWrite) (p := P.flyCmd) (val := [6]) (s₀ := (upB (upFly .run .target))) rfl rfl rfl
      rfl (by decide +kernel), by decide +kernel⟩, rfl, by decide +kernel, by decide +kernel⟩,
    ⟨rfl, ⟨accepted_rq (op := opWrite) (p := P.flyCmd) (val := [7]) (s₀ := (upB (upFly .run .target))) rfl rfl rfl
      rfl (by decide +kernel), by decide +kernel⟩, rfl, by decide +kernel, by decide +kernel⟩,
    ⟨rfl, ⟨accepted_rq (op := opWrite) (p := P.flyTarget) (val := (toBytes 4 1000)) (s₀ := (upB (upFly .run
      .target))) rfl rfl rfl rfl (by decide +kernel), by decide +kernel⟩, rfl, by decide +kernel, by decide +kernel,
      by decide +kernel⟩⟩

/-- TallyAndBoxRequests. -/
theorem witness_TallyAndBoxRequests :
    ((fun (s : State) (h : State) (r : Req) (q : Req) (x : Nat) => q = r ∧ AcceptedWrite q s ∧ h = heard q s ∧ x < 3 ∧
      r.pid = P.tlyOutMode x ∧ ofBytes r.payload < 256 ∧ (performWrite (servingOf opWrite q s) q.pid q.payload h).1 =
      resOk) (upB up) (heard (rq opWrite (P.tlyOutMode 0) [1] (upB up)) (upB up)) (rq opWrite (P.tlyOutMode 0) [1]
      (upB up)) (rq opWrite (P.tlyOutMode 0) [1] (upB up)) 0) ∧
    ((fun (s : State) (h : State) (r : Req) (q : Req) (c : Nat) => q = reqOp r P.tlyCalCmd 1 ∧ AcceptedWrite q s ∧ h =
      heard q s ∧ c = bits (ofBytes q.payload) 15 8 ∧ (actCalCmd (reqKey q) (ofBytes q.payload) h).1 = resOk ∧ bits
      (ofBytes q.payload) 7 0 = 1 ∧ bits (h.reg P.tlyCalState) 7 0 = 0) (upB upS) (heard (reqOp (rq opWrite
      P.tlyCalCmd [1, 0x11, 0, 0] (upB upS)) P.tlyCalCmd 1) (upB upS)) (rq opWrite P.tlyCalCmd [1, 0x11, 0, 0] (upB
      upS)) (reqOp (rq opWrite P.tlyCalCmd [1, 0x11, 0, 0] (upB upS)) P.tlyCalCmd 1) 0x11) ∧
    ((fun (s : State) (h : State) (r : Req) (q : Req) (c : Nat) => q = reqOp r P.tlyCalCmd 2 ∧ AcceptedWrite q s ∧ h =
      heard q s ∧ c = bits (ofBytes q.payload) 15 8 ∧ (actCalCmd (reqKey q) (ofBytes q.payload) h).1 = resOk ∧ bits
      (ofBytes q.payload) 7 0 = 2 ∧ h.reg P.tlyCalState = c * 256 + 2) (upB (upS.setReg P.tlyCalState 0x1102)) (heard
      (reqOp (rq opWrite P.tlyCalCmd [2, 0x11, 0, 0] (upB (upS.setReg P.tlyCalState 0x1102))) P.tlyCalCmd 2) (upB
      (upS.setReg P.tlyCalState 0x1102))) (rq opWrite P.tlyCalCmd [2, 0x11, 0, 0] (upB (upS.setReg P.tlyCalState
      0x1102))) (reqOp (rq opWrite P.tlyCalCmd [2, 0x11, 0, 0] (upB (upS.setReg P.tlyCalState 0x1102))) P.tlyCalCmd 2)
      0x11) ∧
    ((fun (s : State) (h : State) (r : Req) (q : Req) (c : Nat) => q = reqOp r P.tlyCalCmd 3 ∧ AcceptedWrite q s ∧ h =
      heard q s ∧ c = bits (ofBytes q.payload) 15 8 ∧ (actCalCmd (reqKey q) (ofBytes q.payload) h).1 = resOk ∧ bits
      (ofBytes q.payload) 7 0 = 3 ∧ h.reg P.tlyCalState = c * 256 + 4) (upB (upS.setReg P.tlyCalState 0x1104)) (heard
      (reqOp (rq opWrite P.tlyCalCmd [3, 0x11, 0, 0] (upB (upS.setReg P.tlyCalState 0x1104))) P.tlyCalCmd 3) (upB
      (upS.setReg P.tlyCalState 0x1104))) (rq opWrite P.tlyCalCmd [3, 0x11, 0, 0] (upB (upS.setReg P.tlyCalState
      0x1104))) (reqOp (rq opWrite P.tlyCalCmd [3, 0x11, 0, 0] (upB (upS.setReg P.tlyCalState 0x1104))) P.tlyCalCmd 3)
      0x11) ∧
    ((fun (s : State) (h : State) (r : Req) (q : Req) (c : Nat) => q = reqOp r P.tlyCalCmd 4 ∧ AcceptedWrite q s ∧ h =
      heard q s ∧ c = bits (ofBytes q.payload) 15 8 ∧ (actCalCmd (reqKey q) (ofBytes q.payload) h).1 = resOk ∧ bits
      (ofBytes q.payload) 7 0 = 4 ∧ h.reg P.tlyCalState = c * 256 + 2) (upB (upS.setReg P.tlyCalState 0x1102)) (heard
      (reqOp (rq opWrite P.tlyCalCmd [4, 0x11, 0, 0] (upB (upS.setReg P.tlyCalState 0x1102))) P.tlyCalCmd 4) (upB
      (upS.setReg P.tlyCalState 0x1102))) (rq opWrite P.tlyCalCmd [4, 0x11, 0, 0] (upB (upS.setReg P.tlyCalState
      0x1102))) (reqOp (rq opWrite P.tlyCalCmd [4, 0x11, 0, 0] (upB (upS.setReg P.tlyCalState 0x1102))) P.tlyCalCmd 4)
      0x11) ∧
    ((fun (s : State) (h : State) (r : Req) (q : Req) (n : Nat) => q = r ∧ AcceptedWrite q s ∧ h = heard q s ∧ n < 16
      ∧ r.pid = P.tlyPcMode n ∧ ofBytes r.payload < 256 ∧ (performWrite (servingOf opWrite q s) q.pid q.payload h).1 =
      resOk) (upB up) (heard (rq opWrite (P.tlyPcMode 3) [1] (upB up)) (upB up)) (rq opWrite (P.tlyPcMode 3) [1] (upB
      up)) (rq opWrite (P.tlyPcMode 3) [1] (upB up)) 3) ∧
    ((fun (s : State) (h : State) (r : Req) (q : Req) (m : Nat) => q = r ∧ AcceptedWrite q s ∧ h = heard q s ∧ m < 12
      ∧ r.pid = P.tlyMcFs m ∧ ofBytes r.payload < 2 ^ (8 * sizeOf' (P.tlyMcFs m)) ∧ (performWrite (servingOf opWrite q
      s) q.pid q.payload h).1 = resOk) (upB up) (heard (rq opWrite (P.tlyMcFs 2) (toBytes 4 120000) (upB up)) (upB
      up)) (rq opWrite (P.tlyMcFs 2) (toBytes 4 120000) (upB up)) (rq opWrite (P.tlyMcFs 2) (toBytes 4 120000) (upB
      up)) 2) ∧
    ((fun (s : State) (h : State) (r : Req) (q : Req) (k : Nat) => q = reqFor r P.boxMdReset ∧ AcceptedWrite q s ∧ h =
      heard q s ∧ k < 8 ∧ ofBytes r.payload = 2 ^ k) (upB up) (heard (reqFor (rq opWrite P.boxMdReset [4] (upB up))
      P.boxMdReset) (upB up)) (rq opWrite P.boxMdReset [4] (upB up)) (reqFor (rq opWrite P.boxMdReset [4] (upB up))
      P.boxMdReset) 2) ∧
    ((fun (s : State) (h : State) (r : Req) (q : Req) => q = reqWith r P.boxEmergReq [1] ∧ AcceptedWrite q s ∧ h =
      heard q s ∧ 0 < h.regI P.boxEmergAmount ∧ h.reg P.boxEmergActive = 0 ∧ h.regI P.boxCredit ≤ h.regI
      P.boxEmergThreshold) (upB (up.setReg P.boxEmergAmount 500)) (heard (reqWith (rq opWrite P.boxEmergReq [1] (upB
      (up.setReg P.boxEmergAmount 500))) P.boxEmergReq [1]) (upB (up.setReg P.boxEmergAmount 500))) (rq opWrite
      P.boxEmergReq [1] (upB (up.setReg P.boxEmergAmount 500))) (reqWith (rq opWrite P.boxEmergReq [1] (upB (up.setReg
      P.boxEmergAmount 500))) P.boxEmergReq [1])) ∧
    ((fun (s : State) => boxWorks s = true ∧ 0 < s.regI P.boxEmergAmount ∧ s.reg P.boxEmergActive = 0 ∧ s.regI
      P.boxCredit ≤ s.regI P.boxEmergThreshold) (up.setReg P.boxEmergAmount 500)) ∧
    ((fun (s : State) (h : State) (r : Req) (q : Req) => q = reqFor r P.boxTokenIn ∧ AcceptedWrite q s ∧ h = heard q s
      ∧ (actTokenIn r.payload h).1 = resOk) (upB up) (heard (reqFor (rq opWrite P.boxTokenIn (List.replicate 25 0x35)
      (upB up)) P.boxTokenIn) (upB up)) (rq opWrite P.boxTokenIn (List.replicate 25 0x35) (upB up)) (reqFor (rq
      opWrite P.boxTokenIn (List.replicate 25 0x35) (upB up)) P.boxTokenIn)) ∧
    ((fun (s : State) => s.box.entry.length = 25 ∧ boxWorks s = true ∧ s.reg P.boxTokenLockUntil ≤ s.now)
      ({ up with box := { up.box with entry := List.replicate 25 3 } })) := by
  refine ⟨⟨rfl, ⟨accepted_rq (op := opWrite) (p := (P.tlyOutMode 0)) (val := [1]) (s₀ := (upB up)) rfl rfl rfl rfl
      (by decide +kernel), by decide +kernel⟩, rfl, by decide +kernel, by decide +kernel, by decide +kernel,
      by decide +kernel⟩,
    ⟨rfl, ⟨accepted_rq (op := opWrite) (p := P.tlyCalCmd) (val := [1, 0x11, 0, 0]) (s₀ := (upB upS)) rfl rfl rfl rfl
      (by decide +kernel), by decide +kernel⟩, rfl, by decide +kernel, by decide +kernel, by decide +kernel,
      by decide +kernel⟩,
    ⟨rfl, ⟨accepted_rq (op := opWrite) (p := P.tlyCalCmd) (val := [2, 0x11, 0, 0]) (s₀ := (upB (upS.setReg
      P.tlyCalState 0x1102))) rfl rfl rfl rfl (by decide +kernel), by decide +kernel⟩, rfl, by decide +kernel,
      by decide +kernel, by decide +kernel, by decide +kernel⟩,
    ⟨rfl, ⟨accepted_rq (op := opWrite) (p := P.tlyCalCmd) (val := [3, 0x11, 0, 0]) (s₀ := (upB (upS.setReg
      P.tlyCalState 0x1104))) rfl rfl rfl rfl (by decide +kernel), by decide +kernel⟩, rfl, by decide +kernel,
      by decide +kernel, by decide +kernel, by decide +kernel⟩,
    ⟨rfl, ⟨accepted_rq (op := opWrite) (p := P.tlyCalCmd) (val := [4, 0x11, 0, 0]) (s₀ := (upB (upS.setReg
      P.tlyCalState 0x1102))) rfl rfl rfl rfl (by decide +kernel), by decide +kernel⟩, rfl, by decide +kernel,
      by decide +kernel, by decide +kernel, by decide +kernel⟩,
    ⟨rfl, ⟨accepted_rq (op := opWrite) (p := (P.tlyPcMode 3)) (val := [1]) (s₀ := (upB up)) rfl rfl rfl rfl
      (by decide +kernel), by decide +kernel⟩, rfl, by decide +kernel, by decide +kernel, by decide +kernel,
      by decide +kernel⟩,
    ⟨rfl, ⟨accepted_rq (op := opWrite) (p := (P.tlyMcFs 2)) (val := (toBytes 4 120000)) (s₀ := (upB up)) rfl rfl rfl
      rfl (by decide +kernel), by decide +kernel⟩, rfl, by decide +kernel, by decide +kernel, by decide +kernel,
      by decide +kernel⟩,
    ⟨rfl, ⟨accepted_rq (op := opWrite) (p := P.boxMdReset) (val := [4]) (s₀ := (upB up)) rfl rfl rfl rfl
      (by decide +kernel), by decide +kernel⟩, rfl, by decide +kernel, by decide +kernel⟩,
    ⟨rfl, ⟨accepted_rq (op := opWrite) (p := P.boxEmergReq) (val := [1]) (s₀ := (upB (up.setReg P.boxEmergAmount
      500))) rfl rfl rfl rfl (by decide +kernel), by decide +kernel⟩, rfl, by decide +kernel, by decide +kernel,
      by decide +kernel⟩,
    ⟨by decide +kernel, by decide +kernel, by decide +kernel, by decide +kernel⟩,
    ⟨rfl, ⟨accepted_rq (op := opWrite) (p := P.boxTokenIn) (val := (List.replicate 25 0x35)) (s₀ := (upB up)) rfl
      rfl rfl rfl (by decide +kernel), by decide +kernel⟩, rfl, by decide +kernel⟩,
    ⟨by decide +kernel, by decide +kernel, by decide +kernel⟩⟩

/-- NetworkAndPortRequests. -/
theorem witness_NetworkAndPortRequests :
    ((fun (s : State) (h : State) (r : Req) (q : Req) => q = reqFor r P.tirTestMode ∧ AcceptedWrite q s ∧ h = heard q
      s ∧ ofBytes r.payload < 256) (upB upR) (heard (reqFor (rq opWrite P.tirTestMode [1] (upB upR)) P.tirTestMode)
      (upB upR)) (rq opWrite P.tirTestMode [1] (upB upR)) (reqFor (rq opWrite P.tirTestMode [1] (upB upR))
      P.tirTestMode)) ∧
    ((fun (s : State) (h : State) (r : Req) (q : Req) => q = reqFor r P.tirGpTestMode ∧ AcceptedWrite q s ∧ h = heard
      q s ∧ h.reg P.irnCpState = 1 ∧ ofBytes r.payload < 256) (upB (up.setReg P.irnCpState 1)) (heard (reqFor (rq
      opWrite P.tirGpTestMode [1] (upB (up.setReg P.irnCpState 1))) P.tirGpTestMode) (upB (up.setReg P.irnCpState 1)))
      (rq opWrite P.tirGpTestMode [1] (upB (up.setReg P.irnCpState 1))) (reqFor (rq opWrite P.tirGpTestMode [1] (upB
      (up.setReg P.irnCpState 1))) P.tirGpTestMode)) ∧
    ((fun (s : State) (h : State) (r : Req) (q : Req) (n : Nat) => q = r ∧ AcceptedWrite q s ∧ h = heard q s ∧ n < 4 ∧
      r.pid = P.slLanePatGen n ∧ throughLane h r.via r.ip n = false ∧ ofBytes r.payload < 256) (upB upL) (heard (rq
      opWrite (P.slLanePatGen 1) [2] (upB upL)) (upB upL)) (rq opWrite (P.slLanePatGen 1) [2] (upB upL)) (rq opWrite
      (P.slLanePatGen 1) [2] (upB upL)) 1) ∧
    ((fun (s : State) (h : State) (r : Req) (q : Req) (n : Nat) => q = r ∧ AcceptedWrite q s ∧ h = heard q s ∧ n < 4 ∧
      r.pid = P.slLanePatChk n ∧ throughLane h r.via r.ip n = false ∧ ofBytes r.payload < 256) (upB upL) (heard (rq
      opWrite (P.slLanePatChk 1) [2] (upB upL)) (upB upL)) (rq opWrite (P.slLanePatChk 1) [2] (upB upL)) (rq opWrite
      (P.slLanePatChk 1) [2] (upB upL)) 1) ∧
    ((fun (s : State) (h : State) (r : Req) (q : Req) (n : Nat) => q = r ∧ AcceptedWrite q s ∧ h = heard q s ∧ n < 4 ∧
      r.pid = P.slLaneLoopback n ∧ throughLane h r.via r.ip n = false ∧ ofBytes r.payload < 256) (upB upL) (heard (rq
      opWrite (P.slLaneLoopback 1) [2] (upB upL)) (upB upL)) (rq opWrite (P.slLaneLoopback 1) [2] (upB upL)) (rq
      opWrite (P.slLaneLoopback 1) [2] (upB upL)) 1) ∧
    ((fun (s : State) (h : State) (r : Req) (q : Req) (c : Card) => q = reqFor r P.rdrHostGrant ∧ AcceptedWrite q s ∧
      h = heard q s ∧ h.rdr.judging = some (c, 1) ∧ ofBytes r.payload ≠ 1) (upB
      { up with rdr := { RdrState.reset with judging := some (crdW, 1) } }) (heard (reqFor (rq opWrite P.rdrHostGrant
      [0] (upB { up with rdr := { RdrState.reset with judging := some (crdW, 1) } })) P.rdrHostGrant) (upB
      { up with rdr := { RdrState.reset with judging := some (crdW, 1) } })) (rq opWrite P.rdrHostGrant [0] (upB
      { up with rdr := { RdrState.reset with judging := some (crdW, 1) } })) (reqFor (rq opWrite P.rdrHostGrant [0]
      (upB { up with rdr := { RdrState.reset with judging := some (crdW, 1) } })) P.rdrHostGrant) crdW) ∧
    ((fun (s : State) (h : State) (r : Req) (q : Req) (c : Card) => q = reqFor r P.rdrHostGrant ∧ AcceptedWrite q s ∧
      h = heard q s ∧ h.rdr.judging = some (c, 1) ∧ ofBytes r.payload = 1) (upB
      { up with rdr := { RdrState.reset with judging := some (crdW, 1) } }) (heard (reqFor (rq opWrite P.rdrHostGrant
      [1] (upB { up with rdr := { RdrState.reset with judging := some (crdW, 1) } })) P.rdrHostGrant) (upB
      { up with rdr := { RdrState.reset with judging := some (crdW, 1) } })) (rq opWrite P.rdrHostGrant [1] (upB
      { up with rdr := { RdrState.reset with judging := some (crdW, 1) } })) (reqFor (rq opWrite P.rdrHostGrant [1]
      (upB { up with rdr := { RdrState.reset with judging := some (crdW, 1) } })) P.rdrHostGrant) crdW) ∧
    ((fun (s : State) (h : State) (r : Req) (q : Req) => q = reqFor r P.rdrTestMode ∧ AcceptedWrite q s ∧ h = heard q
      s ∧ ofBytes r.payload = 1) (upB up) (heard (reqFor (rq opWrite P.rdrTestMode [1] (upB up)) P.rdrTestMode) (upB
      up)) (rq opWrite P.rdrTestMode [1] (upB up)) (reqFor (rq opWrite P.rdrTestMode [1] (upB up)) P.rdrTestMode)) ∧
    ((fun (s : State) (h : State) (r : Req) (q : Req) => q = r ∧ AcceptedWrite q s ∧ h = heard q s ∧ r.pid =
      P.tagAesKey) (upB up) (heard (rq opWrite P.tagAesKey (toBytes 16 0x1234567) (upB up)) (upB up)) (rq opWrite
      P.tagAesKey (toBytes 16 0x1234567) (upB up)) (rq opWrite P.tagAesKey (toBytes 16 0x1234567) (upB up))) ∧
    ((fun (s : State) (h : State) (r : Req) (q : Req) => q = r ∧ AcceptedWrite q s ∧ h = heard q s ∧ r.pid =
      P.tagAuthModes ∧ ofBytes r.payload < 256 ∧ (performWrite (servingOf opWrite q s) q.pid q.payload h).1 = resOk)
      (upB (upT 4 true)) (heard (rq opWrite P.tagAuthModes [3] (upB (upT 4 true))) (upB (upT 4 true))) (rq opWrite
      P.tagAuthModes [3] (upB (upT 4 true))) (rq opWrite P.tagAuthModes [3] (upB (upT 4 true)))) ∧
    ((fun (s : State) (h : State) (r : Req) (q : Req) => q = reqWith r P.tagNoteClear [0xC1] ∧ AcceptedWrite q s ∧ h =
      heard q s) (upB up) (heard (reqWith (rq opWrite P.tagNoteClear [0xC1] (upB up)) P.tagNoteClear [0xC1]) (upB up))
      (rq opWrite P.tagNoteClear [0xC1] (upB up)) (reqWith (rq opWrite P.tagNoteClear [0xC1] (upB up)) P.tagNoteClear
      [0xC1])) ∧
    ((fun (s : State) (h : State) (r : Req) (q : Req) (n : Nat) => q = r ∧ AcceptedWrite q s ∧ h = heard q s ∧ (n = 1
      ∨ n = 2) ∧ r.pid = P.uartTxData n ∧ tunnels h n = true ∧ ustat h n 4 = false ∧ (h.uart n).outBuf.length +
      r.payload.length ≤ 1024 ∧ r.payload ≠ [] ∧ r.via = .stageDoor ∧ h.ser.uarts.length = 5 ∧ h.pwr.vio33 = true)
      (upB (upU 1 1)) (heard (rq opWrite (P.uartTxData 1) [1, 2, 3] (upB (upU 1 1))) (upB (upU 1 1))) (rq opWrite
      (P.uartTxData 1) [1, 2, 3] (upB (upU 1 1))) (rq opWrite (P.uartTxData 1) [1, 2, 3] (upB (upU 1 1))) 1) ∧
    ((fun (s : State) (h : State) (r : Req) (q : Req) (n : Nat) => q = r ∧ AcceptedWrite q s ∧ h = heard q s ∧ (n = 1
      ∨ n = 2 ∨ n = 5) ∧ r.pid = P.uartTest n ∧ ofBytes r.payload ≤ 2 ∧ (actUartTest n (ofBytes r.payload) h).1 =
      resOk) (upB up) (heard (rq opWrite (P.uartTest 2) [2] (upB up)) (upB up)) (rq opWrite (P.uartTest 2) [2] (upB
      up)) (rq opWrite (P.uartTest 2) [2] (upB up)) 2) ∧
    ((fun (s : State) (h : State) (r : Req) (q : Req) => q = reqFor r P.dspImage ∧ AcceptedWrite q s ∧ h = heard q s ∧
      ofBytes r.payload < 2 ^ (8 * sizeOf' P.dspImage)) (upB up) (heard (reqFor (rq opWrite P.dspImage (List.replicate
      (sizeOf' P.dspImage) 0) (upB up)) P.dspImage) (upB up)) (rq opWrite P.dspImage (List.replicate (sizeOf'
      P.dspImage) 0) (upB up)) (reqFor (rq opWrite P.dspImage (List.replicate (sizeOf' P.dspImage) 0) (upB up))
      P.dspImage)) := by
  refine ⟨⟨rfl, ⟨accepted_rq (op := opWrite) (p := P.tirTestMode) (val := [1]) (s₀ := (upB upR)) rfl rfl rfl rfl
      (by decide +kernel), by decide +kernel⟩, rfl, by decide +kernel⟩,
    ⟨rfl, ⟨accepted_rq (op := opWrite) (p := P.tirGpTestMode) (val := [1]) (s₀ := (upB (up.setReg P.irnCpState 1)))
      rfl rfl rfl rfl (by decide +kernel), by decide +kernel⟩, rfl, by decide +kernel, by decide +kernel⟩,
    ⟨rfl, ⟨accepted_rq (op := opWrite) (p := (P.slLanePatGen 1)) (val := [2]) (s₀ := (upB upL)) rfl rfl rfl rfl
      (by decide +kernel), by decide +kernel⟩, rfl, by decide +kernel, by decide +kernel, by decide +kernel,
      by decide +kernel⟩,
    ⟨rfl, ⟨accepted_rq (op := opWrite) (p := (P.slLanePatChk 1)) (val := [2]) (s₀ := (upB upL)) rfl rfl rfl rfl
      (by decide +kernel), by decide +kernel⟩, rfl, by decide +kernel, by decide +kernel, by decide +kernel,
      by decide +kernel⟩,
    ⟨rfl, ⟨accepted_rq (op := opWrite) (p := (P.slLaneLoopback 1)) (val := [2]) (s₀ := (upB upL)) rfl rfl rfl rfl
      (by decide +kernel), by decide +kernel⟩, rfl, by decide +kernel, by decide +kernel, by decide +kernel,
      by decide +kernel⟩,
    ⟨rfl, ⟨accepted_rq (op := opWrite) (p := P.rdrHostGrant) (val := [0]) (s₀ := (upB
      { up with rdr := { RdrState.reset with judging := some (crdW, 1) } })) rfl rfl rfl rfl (by decide +kernel),
      by decide +kernel⟩, rfl, by decide +kernel, by decide +kernel⟩,
    ⟨rfl, ⟨accepted_rq (op := opWrite) (p := P.rdrHostGrant) (val := [1]) (s₀ := (upB
      { up with rdr := { RdrState.reset with judging := some (crdW, 1) } })) rfl rfl rfl rfl (by decide +kernel),
      by decide +kernel⟩, rfl, by decide +kernel, by decide +kernel⟩,
    ⟨rfl, ⟨accepted_rq (op := opWrite) (p := P.rdrTestMode) (val := [1]) (s₀ := (upB up)) rfl rfl rfl rfl
      (by decide +kernel), by decide +kernel⟩, rfl, by decide +kernel⟩,
    ⟨rfl, ⟨accepted_rq (op := opWrite) (p := P.tagAesKey) (val := (toBytes 16 0x1234567)) (s₀ := (upB up)) rfl rfl
      rfl rfl (by decide +kernel), by decide +kernel⟩, rfl, by decide +kernel⟩,
    ⟨rfl, ⟨accepted_rq (op := opWrite) (p := P.tagAuthModes) (val := [3]) (s₀ := (upB (upT 4 true))) rfl rfl rfl rfl
      (by decide +kernel), by decide +kernel⟩, rfl, by decide +kernel, by decide +kernel, by decide +kernel⟩,
    ⟨rfl, ⟨accepted_rq (op := opWrite) (p := P.tagNoteClear) (val := [0xC1]) (s₀ := (upB up)) rfl rfl rfl rfl
      (by decide +kernel), by decide +kernel⟩, rfl⟩,
    ⟨rfl, ⟨accepted_rq (op := opWrite) (p := (P.uartTxData 1)) (val := [1, 2, 3]) (s₀ := (upB (upU 1 1))) rfl rfl
      rfl rfl (by decide +kernel), by decide +kernel⟩, rfl, by decide +kernel, by decide +kernel, by decide +kernel,
      by decide +kernel, by decide +kernel, by decide +kernel, by decide +kernel, by decide +kernel,
      by decide +kernel⟩,
    ⟨rfl, ⟨accepted_rq (op := opWrite) (p := (P.uartTest 2)) (val := [2]) (s₀ := (upB up)) rfl rfl rfl rfl
      (by decide +kernel), by decide +kernel⟩, rfl, by decide +kernel, by decide +kernel, by decide +kernel,
      by decide +kernel⟩,
    ⟨rfl, ⟨accepted_rq (op := opWrite) (p := P.dspImage) (val := (List.replicate (sizeOf' P.dspImage) 0)) (s₀ :=
      (upB up)) rfl rfl rfl rfl (by decide +kernel), by decide +kernel⟩, rfl, by decide +kernel⟩⟩

/-- WingsRequests. -/
theorem witness_WingsRequests :
    ((fun (s : State) (h : State) (r : Req) (q : Req) => q = reqFor r P.wngOpen ∧ AcceptedWrite q s ∧ h = heard q s ∧
      (actWngOpen (ofBytes r.payload) (servingOf opWrite q s).ctx.writer h).1 = resOk ∧ 0 < bits (ofBytes r.payload)
      63 32 ∧ bits (ofBytes r.payload) 15 8 = 1) (upB ((upW 0 wngW).setReg P.wngStatus 0)) (heard (reqFor (rq opWrite
      P.wngOpen [8, 1, 0, 0, 0, 1, 0, 0] (upB ((upW 0 wngW).setReg P.wngStatus 0))) P.wngOpen) (upB ((upW 0
      wngW).setReg P.wngStatus 0))) (rq opWrite P.wngOpen [8, 1, 0, 0, 0, 1, 0, 0] (upB ((upW 0 wngW).setReg
      P.wngStatus 0))) (reqFor (rq opWrite P.wngOpen [8, 1, 0, 0, 0, 1, 0, 0] (upB ((upW 0 wngW).setReg P.wngStatus
      0))) P.wngOpen)) ∧
    ((fun (s : State) (h : State) (r : Req) (q : Req) (bad : Bool) (o : Nat) => q = reqFor r P.wngChunk ∧
      AcceptedWrite q s ∧ h = heard q s ∧ (wngState h = 1 ∨ wngState h = 2) ∧ h.wng.owner = masterOf s q ∧ h.wng.mode
      = 1 ∧ o = ofBytes (r.payload.take 4) ∧ 5 ≤ r.payload.length ∧ r.payload.length ≤ 1028 ∧ o + (r.payload.length -
      4) ≤ h.wng.declared ∧ Memory.wf s.mem = true ∧ (∀ b ∈ r.payload, b < 256)) (upB (upW 1
      { wngW with ranges := [], staged := 256 })) (heard (reqFor (rq opWrite P.wngChunk [16, 0, 0, 0, 1, 2, 3] (upB
      (upW 1 { wngW with ranges := [], staged := 256 }))) P.wngChunk) (upB (upW 1
      { wngW with ranges := [], staged := 256 }))) (rq opWrite P.wngChunk [16, 0, 0, 0, 1, 2, 3] (upB (upW 1
      { wngW with ranges := [], staged := 256 }))) (reqFor (rq opWrite P.wngChunk [16, 0, 0, 0, 1, 2, 3] (upB (upW 1
      { wngW with ranges := [], staged := 256 }))) P.wngChunk) false 16) ∧
    ((fun (s : State) (h : State) (r : Req) (q : Req) => q = reqWith r P.wngVerify [1] ∧ AcceptedWrite q s ∧ h = heard
      q s ∧ wngState h = 2 ∧ h.wng.owner = masterOf s q) (upB (upW 2 wngW)) (heard (reqWith (rq opWrite P.wngVerify
      [1] (upB (upW 2 wngW))) P.wngVerify [1]) (upB (upW 2 wngW))) (rq opWrite P.wngVerify [1] (upB (upW 2 wngW)))
      (reqWith (rq opWrite P.wngVerify [1] (upB (upW 2 wngW))) P.wngVerify [1])) ∧
    ((fun (s : State) (h : State) (r : Req) (q : Req) => q = reqWith r P.wngCommit [1] ∧ AcceptedWrite q s ∧ h = heard
      q s ∧ (actWngCommit (servingOf opWrite q s).ctx.writer h).1 = resOk ∧ (wngComponent h = 3 ∨ wngComponent h = 4))
      (upB ((upW 4 wngW).setReg P.wngStatus 0x304)) (heard (reqWith (rq opWrite P.wngCommit [1] (upB ((upW 4
      wngW).setReg P.wngStatus 0x304))) P.wngCommit [1]) (upB ((upW 4 wngW).setReg P.wngStatus 0x304))) (rq opWrite
      P.wngCommit [1] (upB ((upW 4 wngW).setReg P.wngStatus 0x304))) (reqWith (rq opWrite P.wngCommit [1] (upB ((upW 4
      wngW).setReg P.wngStatus 0x304))) P.wngCommit [1])) ∧
    ((fun (s : State) (h : State) (r : Req) (q : Req) => q = reqWith r P.wngCommit [1] ∧ AcceptedWrite q s ∧ h = heard
      q s ∧ (actWngCommit (servingOf opWrite q s).ctx.writer h).1 = resOk ∧ wngComponent h ≠ 3 ∧ wngComponent h ≠ 4)
      (upB ((upW 4 wngW))) (heard (reqWith (rq opWrite P.wngCommit [1] (upB ((upW 4 wngW)))) P.wngCommit [1]) (upB
      ((upW 4 wngW)))) (rq opWrite P.wngCommit [1] (upB ((upW 4 wngW)))) (reqWith (rq opWrite P.wngCommit [1] (upB
      ((upW 4 wngW)))) P.wngCommit [1])) ∧
    ((fun (s : State) (h : State) (r : Req) (q : Req) => q = reqFor r P.wngCommitCrc ∧ AcceptedWrite q s ∧ h = heard q
      s ∧ h.wng.pendCommit = true ∧ wngState h = 4 ∧ anyPairClosed h = false ∧ ofBytes r.payload = h.reg
      P.wngPendingCrc ∧ (commitImage (servingOf opWrite q s).ctx.writer h).1 = resOk) (upB
      ({ (upW 4 { wngW with pendCommit := true }).setReg P.wngStatus 0x304 with saf := upS.saf }.setReg P.irnSafeState
      0)) (heard (reqFor (rq opWrite P.wngCommitCrc [0, 0, 0, 0] (upB
      ({ (upW 4 { wngW with pendCommit := true }).setReg P.wngStatus 0x304 with saf := upS.saf }.setReg P.irnSafeState
      0))) P.wngCommitCrc) (upB
      ({ (upW 4 { wngW with pendCommit := true }).setReg P.wngStatus 0x304 with saf := upS.saf }.setReg P.irnSafeState
      0))) (rq opWrite P.wngCommitCrc [0, 0, 0, 0] (upB
      ({ (upW 4 { wngW with pendCommit := true }).setReg P.wngStatus 0x304 with saf := upS.saf }.setReg P.irnSafeState
      0))) (reqFor (rq opWrite P.wngCommitCrc [0, 0, 0, 0] (upB
      ({ (upW 4 { wngW with pendCommit := true }).setReg P.wngStatus 0x304 with saf := upS.saf }.setReg P.irnSafeState
      0))) P.wngCommitCrc)) ∧
    ((fun (s : State) (h : State) (r : Req) (q : Req) => q = reqWith r P.wngConfirm [1] ∧ AcceptedWrite q s ∧ h =
      heard q s ∧ (actWngConfirm (servingOf opWrite q s).ctx.writer h).1 = resOk) (upB (upW 6 wngW)) (heard (reqWith
      (rq opWrite P.wngConfirm [1] (upB (upW 6 wngW))) P.wngConfirm [1]) (upB (upW 6 wngW))) (rq opWrite P.wngConfirm
      [1] (upB (upW 6 wngW))) (reqWith (rq opWrite P.wngConfirm [1] (upB (upW 6 wngW))) P.wngConfirm [1])) ∧
    ((fun (s : State) (h : State) (r : Req) (q : Req) => q = reqWith r P.wngRollback [1] ∧ AcceptedWrite q s ∧ h =
      heard q s ∧ (actWngRollback (servingOf opWrite q s).ctx.writer h).1 = resOk) (upB
      ({ upW 6 wngW with mem := ((up.setBytes previousBank (toBytes 16 (imgW.getD 0 0))).setBytes (previousBank + 48) (toBytes 16 (imgW.getD 3 0) ++ toBytes 16 (imgW.getD 4 0))).mem }))
      (heard (reqWith (rq opWrite P.wngRollback [1] (upB
      ({ upW 6 wngW with mem := ((up.setBytes previousBank (toBytes 16 (imgW.getD 0 0))).setBytes (previousBank + 48) (toBytes 16 (imgW.getD 3 0) ++ toBytes 16 (imgW.getD 4 0))).mem })))
      P.wngRollback [1]) (upB
      ({ upW 6 wngW with mem := ((up.setBytes previousBank (toBytes 16 (imgW.getD 0 0))).setBytes (previousBank + 48) (toBytes 16 (imgW.getD 3 0) ++ toBytes 16 (imgW.getD 4 0))).mem })))
      (rq opWrite P.wngRollback [1] (upB
      ({ upW 6 wngW with mem := ((up.setBytes previousBank (toBytes 16 (imgW.getD 0 0))).setBytes (previousBank + 48) (toBytes 16 (imgW.getD 3 0) ++ toBytes 16 (imgW.getD 4 0))).mem })))
      (reqWith (rq opWrite P.wngRollback [1] (upB
      ({ upW 6 wngW with mem := ((up.setBytes previousBank (toBytes 16 (imgW.getD 0 0))).setBytes (previousBank + 48) (toBytes 16 (imgW.getD 3 0) ++ toBytes 16 (imgW.getD 4 0))).mem })))
      P.wngRollback [1])) ∧
    ((fun (s : State) (h : State) (r : Req) (q : Req) => q = reqWith r P.wngAbandon [1] ∧ AcceptedWrite q s ∧ h =
      heard q s ∧ (actWngAbandon (servingOf opWrite q s).ctx.writer h).1 = resOk) (upB (upW 2 wngW)) (heard (reqWith
      (rq opWrite P.wngAbandon [1] (upB (upW 2 wngW))) P.wngAbandon [1]) (upB (upW 2 wngW))) (rq opWrite P.wngAbandon
      [1] (upB (upW 2 wngW))) (reqWith (rq opWrite P.wngAbandon [1] (upB (upW 2 wngW))) P.wngAbandon [1])) := by
  refine ⟨⟨rfl, ⟨accepted_rq (op := opWrite) (p := P.wngOpen) (val := [8, 1, 0, 0, 0, 1, 0, 0]) (s₀ := (upB ((upW 0
      wngW).setReg P.wngStatus 0))) rfl rfl rfl rfl (by decide +kernel), by decide +kernel⟩, rfl, by decide +kernel,
      by decide +kernel, by decide +kernel⟩,
    ⟨rfl, ⟨accepted_rq (op := opWrite) (p := P.wngChunk) (val := [16, 0, 0, 0, 1, 2, 3]) (s₀ := (upB (upW 1
      { wngW with ranges := [], staged := 256 }))) rfl rfl rfl rfl (by decide +kernel), by decide +kernel⟩, rfl,
      by decide +kernel, by decide +kernel, by decide +kernel, by decide +kernel, by decide +kernel,
      by decide +kernel, by decide +kernel, by decide +kernel, by decide +kernel⟩,
    ⟨rfl, ⟨accepted_rq (op := opWrite) (p := P.wngVerify) (val := [1]) (s₀ := (upB (upW 2 wngW))) rfl rfl rfl rfl
      (by decide +kernel), by decide +kernel⟩, rfl, by decide +kernel, by decide +kernel⟩,
    ⟨rfl, ⟨accepted_rq (op := opWrite) (p := P.wngCommit) (val := [1]) (s₀ := (upB ((upW 4 wngW).setReg P.wngStatus
      0x304))) rfl rfl rfl rfl (by decide +kernel), by decide +kernel⟩, rfl, by decide +kernel, by decide +kernel⟩,
    ⟨rfl, ⟨accepted_rq (op := opWrite) (p := P.wngCommit) (val := [1]) (s₀ := (upB ((upW 4 wngW)))) rfl rfl rfl rfl
      (by decide +kernel), by decide +kernel⟩, rfl, by decide +kernel, by decide +kernel, by decide +kernel⟩,
    ⟨rfl, ⟨accepted_rq (op := opWrite) (p := P.wngCommitCrc) (val := [0, 0, 0, 0]) (s₀ := (upB
      ({ (upW 4 { wngW with pendCommit := true }).setReg P.wngStatus 0x304 with saf := upS.saf }.setReg
      P.irnSafeState 0))) rfl rfl rfl rfl (by decide +kernel), by decide +kernel⟩, rfl, by decide +kernel,
      by decide +kernel, by decide +kernel, by decide +kernel, by decide +kernel⟩,
    ⟨rfl, ⟨accepted_rq (op := opWrite) (p := P.wngConfirm) (val := [1]) (s₀ := (upB (upW 6 wngW))) rfl rfl rfl rfl
      (by decide +kernel), by decide +kernel⟩, rfl, by decide +kernel⟩,
    ⟨rfl, ⟨accepted_rq (op := opWrite) (p := P.wngRollback) (val := [1]) (s₀ := (upB
      ({ upW 6 wngW with mem := ((up.setBytes previousBank (toBytes 16 (imgW.getD 0 0))).setBytes (previousBank + 48) (toBytes 16 (imgW.getD 3 0) ++ toBytes 16 (imgW.getD 4 0))).mem })))
      rfl rfl rfl rfl (by decide +kernel), by decide +kernel⟩, rfl, by decide +kernel⟩,
    ⟨rfl, ⟨accepted_rq (op := opWrite) (p := P.wngAbandon) (val := [1]) (s₀ := (upB (upW 2 wngW))) rfl rfl rfl rfl
      (by decide +kernel), by decide +kernel⟩, rfl, by decide +kernel⟩⟩

/-- StageDoorDriver. -/
theorem witness_StageDoorDriver :
    ((fun (s : State) (t : State) (baud : Nat) (f : Nat) (turn : Nat) (lead : Nat) (b : Bytes) => s.ser.deFall ≤
      s.mono ∧ t = doorSend baud f turn lead b s) up
      ({ up with ser := { up.ser with deRise := 16777216000, deStart := 16777216000, deFall := 16777216000 }, sent := [.uart 0 []] })
      115200 0 0 0 ([])) ∧
    ((fun (s : State) (c : Nat) (p : Bool) (f : Bool) => sdrDe s = true)
      ({ up with ser := { up.ser with deFall := 2 ^ 60 } }) 0x55 false false) ∧
    ((fun (s : State) => sdrDe s = true) ({ up with ser := { up.ser with deFall := 2 ^ 60 } })) ∧
    ((fun (s : State) => s.pwr.vaon = false) ({ up with pwr := { up.pwr with vaon := false } })) ∧
    ((fun (s : State) (o : Output) => o.onVio33 = true ∧ s.pwr.vio33 = false)
      ({ up with pwr := { up.pwr with vio33 := false } }) (.uart 1 [0x55])) := by
  refine ⟨⟨by decide +kernel, rfl⟩,
    by decide +kernel,
    by decide +kernel,
    by decide +kernel,
    ⟨by decide +kernel, by decide +kernel⟩⟩

/-! ### Ill-formed commands, which WellFormed refuses: one for each of its checks -/

theorem test_wf_accepts : (Instr.read rqPlain).wf = true := by decide
theorem test_wf_below : (Instr.notificationOnChange 64).wf = false := by decide
theorem test_wf_allBelow : (Instr.testPulse [3, 16]).wf = false := by decide
theorem test_wf_fromOne : (Instr.anticollision 3 0 0).wf = false := by decide
theorem test_wf_exactly : (Instr.meteringIntervalEnd [1, 2, 3]).wf = false := by decide
theorem test_wf_bytesOk : (Instr.writeNote [256] 0 0).wf = false := by decide
theorem test_wf_bytesOk_optional : (Instr.moduleA2Poll 0 (some [300])).wf = false := by decide
theorem test_wf_wordOk : (Instr.mramWordWrite 1 0x02000000 (2 ^ 128)).wf = false := by decide
theorem test_wf_wordsOk : (Instr.fabricWriteRequest 1 0x01000000 0 0xFFFF []).wf = false := by decide
theorem test_wf_uartOk : (Instr.xonSend 6).wf = false := by decide
theorem test_wf_cardSlotOk : (Instr.cardInsert 2).wf = false := by decide
theorem test_wf_initOk : (Instr.noticeTake 0 7 true).wf = false := by decide
theorem test_wf_request : (Instr.write { rqPlain with pid := 0x1000000 }).wf = false := by decide
theorem test_wf_request_optional : (Instr.tokenEntry (some { rqPlain with src := 0x10000 })).wf = false := by decide
theorem test_wf_record : (Instr.journalCommitRequest 0 ⟨0x32, 0, List.replicate 255 0, false⟩).wf = false := by decide

/-! ### Published vectors of the standards that the manual names: FIPS 197, RFC 4493, FIPS 180-4, SP 800-38G, and the usual
check values of its CRCs -/

theorem test_aes_encrypt :
    aesEncrypt (toBytesBE 16 0x000102030405060708090A0B0C0D0E0F) (toBytesBE 16 0x00112233445566778899AABBCCDDEEFF)
      = toBytesBE 16 0x69C4E0D86A7B0430D8CDB78070B4C55A := by decide +kernel
theorem test_aes_decrypt :
    aesDecrypt (toBytesBE 16 0x000102030405060708090A0B0C0D0E0F) (toBytesBE 16 0x69C4E0D86A7B0430D8CDB78070B4C55A)
      = toBytesBE 16 0x00112233445566778899AABBCCDDEEFF := by decide +kernel
theorem test_cmac :
    aesCmac (toBytesBE 16 0x2B7E151628AED2A6ABF7158809CF4F3C) (toBytesBE 16 0x6BC1BEE22E409F96E93D7E117393172A)
      = toBytesBE 16 0x070A16B46B4D4144F79BDD9DD04A287C := by decide +kernel
theorem test_sha256 :
    sha256 [0x61, 0x62, 0x63] = toBytesBE 32 0xBA7816BF8F01CFEA414140DE5DAE2223B00361A396177A9CB410FF61F20015AD := by
  decide +kernel
theorem test_ff1 :
    ff1Encrypt (toBytesBE 16 0x2B7E151628AED2A6ABF7158809CF4F3C) [] [0, 1, 2, 3, 4, 5, 6, 7, 8, 9]
      = [2, 4, 3, 3, 4, 7, 7, 4, 8, 4] := by decide +kernel
theorem test_crc32 : crc32 [0x31, 0x32, 0x33, 0x34, 0x35, 0x36, 0x37, 0x38, 0x39] = 0xCBF43926 := by decide +kernel
theorem test_crc16 : crc16 [0x31, 0x32, 0x33, 0x34, 0x35, 0x36, 0x37, 0x38, 0x39] = 0x29B1 := by decide +kernel
theorem test_crc8 : crc8 [0x31, 0x32, 0x33, 0x34, 0x35, 0x36, 0x37, 0x38, 0x39] = 0xF4 := by decide +kernel
theorem test_cobs : cobsEncode [0x11, 0, 0, 0x22] = [2, 0x11, 1, 2, 0x22] := by decide +kernel

/-! ### The manual's worked examples -/

/-- spec/00_scope.md: the bytes of a stage time. -/
theorem test_stage_time_bytes : toBytes 8 0x003B29F8C0400000 = [0, 0, 0x40, 0xC0, 0xF8, 0x29, 0x3B, 0] := by decide +kernel
/-- spec/00_scope.md: 2031-06-15T12:00:00.25 as PTP gives it, 946,684,800 s later. -/
theorem test_ptp_time : ptpTime (946684800 + 992606400) 250000000 = 0x003B29F8C0400000 := by decide +kernel
/-- spec/00_scope.md: day 11,488 is 15 June 2031, a Sunday. -/
theorem test_civil_date : civilDate 11488 = (2031, 6, 15) ∧ weekday 11488 = 6 := by decide +kernel
/-- spec/01_house_and_post.md: an Operator's SEIZE fails after 12.0 s of silence and succeeds after 31.0 s. -/
theorem test_seize_after_silence :
    let s := { (up.setReg P.smgBatonHolder 0x1000).setReg P.smgBatonTimeout 30 with cue := { up.cue with lastMain := 988 * second } }
    let v := { servingOf opSeize { rqPlain with pid := 0x600000 } s with master := .side, level := 1 }
    maySeize v s = false ∧ maySeize v { s with cue := { s.cue with lastMain := 969 * second } } = true := by decide +kernel
/-- spec/02_dies_islands_fabric.md: PW_FAB_LAST_FAULT of E0's aborted read of the Tally. -/
theorem test_last_fault :
    let w := (fabFault 1 9 0x01 0x10090040 up).reg P.pwFabLastFault
    bits w 63 59 = 1 ∧ bits w 58 54 = 9 ∧ bits w 53 46 = 1 ∧ bits w 39 0 = 0x10090040 := by decide +kernel
/-- spec/03_clocks.md: a dead PLL_C shows in CK_SRC_STATUS bits [15:14]. -/
theorem test_dead_source :
    (match execMonitorDeadEdge 7 up with | .next t => bits (srcStatusWord t) 15 14 | _ => 9) = 3 := by decide +kernel
/-- spec/03_clocks.md: CK_LAST_FORCED with ISLAND 11, FROM 7, TO 0, CAUSE 1. -/
theorem test_last_forced : forcedWord 0 11 7 0 1 = 0x000B701000000000 := by decide +kernel
/-- spec/05_callboard.md: the stored notice. -/
theorem test_notice : mkNotice 9 0x0213 5 0x30 0x01004A00 = 0x00000000000902135000300001004A00 := by decide +kernel
/-- spec/05_callboard.md: CBD_STATUS08 after the Tally's WITHDRAW. -/
theorem test_withdraw :
    let s := up.setChan 8 { up.chan 8 with notice := mkNotice 9 0x0213 5 0x30 0x01004A00, full := true, lastSender := 9 }
    (match execNoticeWithdraw 8 9 0x0213 s with
      | .next t => bits (t.chan 8).status 15 0 == 0x4C00 && bits (t.chan 8).status 63 48 == 0x0213
      | _ => false) = true := by decide +kernel
/-- spec/06_mram_and_prompt_book.md: the place of the column's last word. -/
theorem test_column_place : subOf 0x027FFEB0 = 3 ∧ slotOf 0x027FFEB0 = 5 ∧ bankOf 0x027FFEB0 = 1 ∧ columnAddr 1 3 5 = 0x024002B0 := by
  decide +kernel
/-- spec/06_mram_and_prompt_book.md: PBK_SPARES_FREE1 once the scrub finds the column. -/
theorem test_spares_free :
    (match execScrubVisit [] false [5 * 256 + 77] [] ((up.setReg P.pbkScrubPos (2 ^ 18 + 3)).setReg P.smgTier 0x46) with
      | .next t => t.reg (P.pbkSparesFree 1)
      | _ => 0) = 0x44443444 := by decide +kernel
/-- spec/07_object_dictionary.md: the bytes of the request before its CMAC. -/
theorem test_request_bytes :
    frameBytes 1 2 0x135 12 417 2 0x101001 2 [0x3C, 0]
      = [0x01, 0x02, 0x35, 0x01, 0x0C, 0x00, 0xA1, 0x01, 0x02, 0x01, 0x10, 0x10, 0x02, 0x00, 0x3C, 0x00] := by decide +kernel
/-- spec/07_object_dictionary.md: the descriptor and value words of its OBJECT record. -/
theorem test_object_entry : objEntry 12 0x19 2 2 0x101001 60 = [0x000CCA0002101001, 60] := by decide +kernel
/-- spec/07_object_dictionary.md R172: the epoch passes from its top to 1. -/
theorem test_epoch_wraps : nextEpoch 0xFFFFFFFF = 1 := by decide
/-- spec/09_vehicle_and_earth_fault.md: the first period at 70 kΩ, at 800 V, is a warning. -/
theorem test_isolation_warning :
    let s := (upV 5 true .pwm).setReg P.wdnDcMaxV 800
    isoWarn s = 400000 ∧ isoFault s = 80000 ∧
    (match execIsolationPeriodEnd 700 s with
      | .next t => (t.reg P.irnIsoR, t.reg P.irnEarthFaults, t.veh.isoLow)
      | _ => (0, 0, 0)) = (700, 1, 1) := by decide +kernel
/-- spec/10_fly_axis.md: the profile at 10,000 and 16,000 counts/s reverses at 14,000. -/
theorem test_stop_point : stopPoint ⟨10000 * flyUnit, 16000 * flySpeedUnit, 0⟩ 40000 400000 = 14000 * flyUnit := by decide +kernel
/-- spec/10_fly_axis.md: the command at cruise, and the high time of FLY_PWM. -/
theorem test_fly_command :
    flyCommand { upFly .run .none with fly := { FlyState.reset with phase := .run, w := 16000 * flySpeedUnit } } = 16000 ∧
      16000 * 12500 / 32768 = 6103 := by decide +kernel
/-- spec/11_converters.md: GAIN of the calibrated process channel 3, and the place of its entry. -/
theorem test_calibration :
    let s := ((up.setReg (P.tlyPcMode 3) 1).setRegI P.tlyCalLoRef 4000).setRegI P.tlyCalHiRef 20000
    let g := calGainFrac { s with cnv := { s.cnv with calLow := (642000, 4000000), calHigh := (3208400, 4000000) } } 0x13
    roundDiv (g.1 * 2 ^ 30) g.2 = 0x3FD72464 ∧ calAddr 0x13 = 0x02005130 := by decide +kernel
/-- spec/11_converters.md: 12.000 mA reads 8,000 mbar. -/
theorem test_process_value :
    let s := (up.setWord (calAddr 0x13) (entryWord 1 0x3FD72464 0x000346DC)).setReg (P.tlyPcMode 3) 1
    let s := (((s.setRegI (P.tlyPcInLo 3) 4000).setRegI (P.tlyPcInHi 3) 20000).setRegI (P.tlyPcEngLo 3) 0).setRegI (P.tlyPcEngHi 3) 16000
    pcValue s 3 1 (pcPhys s 3 1 1925200 4000000) 0 = 8000 := by decide +kernel
/-- spec/21_package_and_balls.md: 1,000 Ω reads 0 m°C. -/
theorem test_pt1000 : ptTemp 1000000 1 = 0 := by decide +kernel
/-- spec/12_energy.md: the interval with a seam at clock 733, in units of 2^-64 nJ. -/
theorem test_seam_split :
    let n := NrgState.interval (tallyCoefs up) [0, 0, 0] 11 [1200, 481] { up.nrg with seams := [⟨1907, 0, 1⟩], anchor := (0, 0) }
    n.sets.getD 0 0 = 901875000 * 2 ^ 64 ∧ n.rates.getD 0 0 = 330537187 * 2 ^ 64 + 2 ^ 63 ∧
      n.rates.getD 3 0 = 571337812 * 2 ^ 64 + 2 ^ 63 := by decide +kernel
/-- spec/13_box_office.md: the window after serial 51,207. -/
theorem test_serial_window : windowAccept 51190 (2 ^ 39 + 2 ^ 19) 51207 = (51207, 2 ^ 16 + 2 ^ 36 + 2 ^ 56) := by decide +kernel
/-- spec/13_box_office.md: the same token again, serial 50,100 and an unused 51,200. -/
theorem test_serial_judge :
    [51207, 50100, 51200].map (serialJudge ((up.setReg P.boxSerialHigh 51207).setReg P.boxSerialBitmap (2 ^ 16 + 2 ^ 36 + 2 ^ 56)))
      = [4, 5, 0] := by decide +kernel
/-- spec/14_tirwa_house_network.md: the route of seat 12 goes through 402 at 48.0 Mbit/s and 2 hops. -/
theorem test_route :
    let nb (seat info : Nat) (adv : List (Nat × Nat × Nat)) : Neigh :=
      { Neigh.fresh seat (999 * second) with
          txMaps := if info = 0 then [] else [⟨0, true, [0, 0, 0, 0, 0] ++ toBytes 2 info ++ [0], 999 * second⟩], adverts := adv }
    bestCand { upR with tir := { upR.tir with neigh := [nb 12 0 [], nb 430 4558 [(12, 400, 2)], nb 402 1728 [(12, 800, 1)]] } } 12
      = some (480, 2, 402) := by decide +kernel
/-- spec/14_tirwa_house_network.md: 648 carriers of 16-QAM at FEC 2/3. -/
theorem test_info_bits : infoBits 1 (648 * codeBits 3) = 1728 := by decide +kernel
/-- spec/14_tirwa_house_network.md R378, by hand: two AC posts on one phase of 15,000 W and a DC post share 30,000 W; seat 8 asks for
8,000 W or nothing, gets 0, and seat 7 then reaches its demand. -/
theorem test_allocation :
    let r (seat demand least : Nat) (dc : Bool) : Report :=
      ⟨seat, demand * 2 ^ 96 + least * 2 ^ 64 + 2 ^ 24 + ofBool dc * 2 ^ 25 + ofBool (!dc) * 2 ^ 26, 999 * second⟩
    let s (least : Nat) := { (up.setReg P.tirBudgetW 30000).setReg P.tirPhaseMaxW 15000 with
      tir := { up.tir with reports := [r 7 11000 0 false, r 8 12000 least false, r 9 30000 0 true] } }
    allocate (s 0) = [(7, 7500), (8, 7500), (9, 15000)] ∧ allocate (s 8000) = [(7, 11000), (8, 0), (9, 19000)] := by decide +kernel
/-- spec/15_stage_link.md: the stomped FCS is the inverse of the CRC. -/
theorem test_stomped_fcs : 0xFFFFFFFF - 0x1C29E4A7 = 0xE3D61B58 := by decide
/-- spec/16_tags_and_cards.md: the note word and its place, written in the dark. -/
theorem test_note :
    let s := (upT tagSecured true).setReg P.tagNoteNext 390
    (match execWriteNote [0x46, 0x55, 0x53, 0x45, 0x20, 0x46, 0x32, 0x20, 0x4F, 0x55, 0x54] 2610 2550
        { s with tag := { s.tag with byAes := true }, pwr := { s.pwr with vaon := false } } with
      | .next t => bits (t.word 0x02001460) 33 0 == 0x300000186 && t.sent.head? == some (.tagApdu [0x86, 0x01, 0, 0] 0x9000)
      | _ => false) = true := by decide +kernel
/-- spec/17_serial_keypad_stage_door.md: the wake check takes 15,313 to 15,937 while XO32K is good. -/
theorem test_wake_check : [15602, 15312, 15313, 15937, 15938].map (wakeCountOk up) = [true, false, true, true, false] := by decide +kernel
/-- spec/18_display.md: segment 106 at level 1 is bits [5:4] of byte 26. -/
theorem test_image_byte : (objBytes (up.setReg P.dspImageNow (2 ^ 212)) P.dspImageNow).getD 26 0 = 0x10 := by decide +kernel
/-- spec/20_electrical_characteristics.md: the governor's levels at 119.9, 120.0, 134.2, 136.0 and 140.0 °C. -/
theorem test_governor : [1199, 1200, 1342, 1360, 1400].map (thermLevelFor up) = [0, 1, 2, 3, 4] := by decide +kernel

/-! ### Boundaries and the step itself -/

/-- spec/09_vehicle_and_earth_fault.md R231: the pilot's windows. -/
theorem test_pilot_windows : [10999, 11000, 10000, 10001, 7000, 3000, -1000].map pilotState = [7, 1, 2, 7, 3, 4, 5] := by decide +kernel
/-- spec/09_vehicle_and_earth_fault.md R233: the duty of 5.999, 6, 16, 51 and 80 A in 0.1 %. -/
theorem test_pilot_duty : [5999, 6000, 16000, 51000, 80000].map pilotDuty = [1000, 100, 266, 850, 960] := by decide +kernel
/-- An empty queue lets one unit of time pass. -/
theorem test_idle : (match step up with | .next t => decide (t.now = up.now + 1) | _ => false) = true := by decide +kernel
/-- The front of the queue is served and leaves it. -/
theorem test_step_serves :
    (match step { up with pending := [.mainsLost, .anchorRefresh] } with | .next t => t.pending | _ => []) = [.anchorRefresh] := by
  decide +kernel
/-- The table gives the commands no bits. -/
theorem test_no_words : decodeTableWord 16 0 = none := by decide

end Sys2Proof.Tests
end

section
/-!
SUPPORT. The scope of the post: reads after writes of registers and memory, the soundness of the state after reset and of every
step, and the power-fail sequence on a prompt book that is due for a compaction.
-/

namespace Sys2Proof.Machine

open Sys2Proof

/-! ### Registers (R10, R11, R14) -/

/-- Settles O5, by the rules of a read after a write and after a clear. -/
theorem registersReadBack : Obligations.RegistersReadBack := by
  intro s p v
  exact ⟨s.reg_setReg p v, s.reg_clearReg p, fun q hq => ⟨s.reg_setReg_ne v hq, s.reg_clearReg_ne hq⟩⟩

/-! ### Memory (R5, R139, R142) -/

theorem toBytes_length (k n : Nat) : (toBytes k n).length = k := by
  induction k generalizing n with
  | zero => rfl
  | succ k ih => simp [toBytes, ih]

theorem toBytes_lt (k n : Nat) : ∀ b ∈ toBytes k n, b < 256 := by
  induction k generalizing n with
  | zero => simp [toBytes]
  | succ k ih =>
    intro b hb
    obtain rfl | hb := List.mem_cons.mp hb
    · exact Nat.mod_lt _ (by decide)
    · exact ih _ b hb

/-- The bytes of a value spell the value cut to them (R5). -/
theorem ofBytes_toBytes (k n : Nat) : ofBytes (toBytes k n) = n % 256 ^ k := by
  induction k generalizing n with
  | zero => simp [toBytes, ofBytes, Nat.mod_one]
  | succ k ih => rw [toBytes, ofBytes, ih, Nat.mod_mod, pow_succ', Nat.mod_mul]

theorem Memory.readBytes_writeBytes {m : List Host.Cell} {x : Nat} {l : Bytes} (hm : Memory.wf m = true)
    (hl : ∀ b ∈ l, b < 256) : Memory.readBytes (Memory.writeBytes m x l) x l.length = l := by
  induction l generalizing m x with
  | nil => rfl
  | cons v t ih =>
    obtain ⟨hv, ht⟩ := List.forall_mem_cons.mp hl
    have first : Memory.read (Memory.writeBytes (Memory.write m x v) (x + 1) t) x = v := by
      rw [Memory.read_writeBytes_out _ _ _ _ (.inl x.lt_succ_self), Memory.read_write hm, Nat.mod_eq_of_lt hv]
    exact congrArg₂ List.cons first (ih (Memory.write_wf hm) ht)

theorem State.bytes_setBytes {s : State} {x : Nat} {l : Bytes} (hm : Memory.wf s.mem = true) (hl : ∀ b ∈ l, b < 256) :
    (s.setBytes x l).bytes x l.length = l :=
  Memory.readBytes_writeBytes hm hl

theorem State.byte_setBytes_out (s : State) {x a : Nat} {l : Bytes} (h : a < x ∨ x + l.length ≤ a) :
    (s.setBytes x l).byte a = s.byte a :=
  Memory.read_writeBytes_out s.mem x a l h

theorem State.word_setWord {s : State} {x w : Nat} (hm : Memory.wf s.mem = true) : (s.setWord x w).word x = w % 2 ^ 128 := by
  have back := State.bytes_setBytes (x := x) hm (toBytes_lt 16 w)
  rw [toBytes_length] at back
  calc (s.setWord x w).word x = ofBytes (toBytes 16 w) := congrArg ofBytes back
    _ = w % 2 ^ 128 := ofBytes_toBytes 16 w

/-- Settles O6, by induction on the bytes written. -/
theorem memoryReadsBack : Obligations.MemoryReadsBack := by
  intro s x w l hm hl
  exact ⟨State.bytes_setBytes hm hl, fun _ ha => s.byte_setBytes_out ha, Memory.writeBytes_wf hm, State.word_setWord hm⟩

/-! ### The invariant (R14, R38, R92, R119, R137, R171, R188) -/

theorem State.reset_ok : State.reset.ok (0, []) :=
  ⟨rfl, rfl, rfl, rfl, rfl, rfl, rfl, rfl, rfl⟩

/-- Settles O3: nothing is listed at reset, so every read answers a default. -/
theorem resetIsSound : Obligations.ResetIsSound :=
  ⟨State.reset_ok, fun _ => rfl, fun _ => rfl⟩

/-- A sound state whose queue is replaced is sound with the new queue. -/
theorem State.ok.withPending {k : Nat × List Instr} {s : State} (h : s.ok k) (l : List Instr) :
    State.ok (k.1, l) { s with pending := l } := by
  obtain ⟨mem, regs, keys, key4, subs, dom, chans, islands, -⟩ := h
  exact ⟨mem, regs, keys, key4, subs, dom, chans, islands, rfl⟩

theorem State.ok.pending_eq {k : Nat × List Instr} {s : State} (h : s.ok k) : s.pending = k.2 := by
  obtain ⟨-, -, -, -, -, -, -, -, pending⟩ := h
  exact pending

theorem State.ok.dom_length {k : Nat × List Instr} {s : State} (h : s.ok k) : s.pwr.dom.length = 64 := by
  obtain ⟨-, -, -, -, -, dom, -⟩ := h
  exact dom

/-- Every command keeps a sound state sound: one lemma for the meaning that each of the 338 commands calls. -/
theorem exec_ok {k : Nat × List Instr} {s : State} (h : s.ok k) : ∀ c : Instr, Sound k (exec c s)
  | .read .. => execRead_ok h
  | .write .. => execWrite_ok h
  | .confirm .. => execConfirm_ok h
  | .notify .. => execNotify_ok h
  | .bulkRead .. => execBulkRead_ok h
  | .bulkWrite .. => execBulkWrite_ok h
  | .seize .. => execSeize_ok h
  | .release .. => execRelease_ok h
  | .safetyBlockExpiry => execSafetyBlockExpiry_ok h
  | .rawWindowRead .. => execRawWindowRead_ok h
  | .rawWindowWrite .. => execRawWindowWrite_ok h
  | .keyChange .. => execKeyChange_ok h
  | .notificationOnChange .. => execNotificationOnChange_ok h
  | .notificationPeriodic .. => execNotificationPeriodic_ok h
  | .objectSelfCommitRetry => execObjectSelfCommitRetry_ok h
  | .stageDoorFrame => execStageDoorFrame_ok h
  | .stageDoorFrameTimeout => execStageDoorFrameTimeout_ok h
  | .fabricReadRequest .. => execFabricReadRequest_ok h
  | .fabricWriteRequest .. => execFabricWriteRequest_ok h
  | .requestWatchdogExpiry .. => execRequestWatchdogExpiry_ok h
  | .responseWatchdogExpiry .. => execResponseWatchdogExpiry_ok h
  | .portPresentFall .. => execPortPresentFall_ok h
  | .fabricResponseReturn .. => execFabricResponseReturn_ok h
  | .fabricEventPacket .. => execFabricEventPacket_ok h
  | .ironEventLatch .. => execIronEventLatch_ok h
  | .ironEventKeeperDelivery => execIronEventKeeperDelivery_ok h
  | .ironEventMainPost .. => execIronEventMainPost_ok h
  | .ironEventRepost .. => execIronEventRepost_ok h
  | .judgeWindowEnd .. => execJudgeWindowEnd_ok h
  | .judgeLimitExpiry .. => execJudgeLimitExpiry_ok h
  | .judgeRetry .. => execJudgeRetry_ok h
  | .monitorDeadEdge .. => execMonitorDeadEdge_ok h
  | .rc16TrimMeasurement .. => execRc16TrimMeasurement_ok h
  | .rc16RetrimTimer => execRc16RetrimTimer_ok h
  | .clockSwitchRequest .. => execClockSwitchRequest_ok h
  | .clockSwitchComplete .. => execClockSwitchComplete_ok h
  | .clockHangTimeout .. => execClockHangTimeout_ok h
  | .ckForceNow .. => execCkForceNow_ok h
  | .forcedSwitchResetRelease .. => execForcedSwitchResetRelease_ok h
  | .pllRestart .. => execPllRestart_ok h
  | .pllLock .. => execPllLock_ok h
  | .vsupWarning mv => execVsupWarning_ok (a0 := mv) h
  | .powerFailLastCommit .. => execPowerFailLastCommit_ok h
  | .ironPor => execIronPor_ok h
  | .ironPorRelease => execIronPorRelease_ok h
  | .vaonPor => execVaonPor_ok h
  | .vaonPorRelease => execVaonPorRelease_ok h
  | .vcoreLoss => execVcoreLoss_ok h
  | .supplyGood .. => execSupplyGood_ok h
  | .vsupGoodHoldExpiry => execVsupGoodHoldExpiry_ok h
  | .vcpStateChange .. => execVcpStateChange_ok h
  | .sysRstNLow => execSysRstNLow_ok h
  | .stageManagerWatchdogExpiry => execStageManagerWatchdogExpiry_ok h
  | .pwResetReq .. => execPwResetReq_ok h
  | .resetRequestDelayExpiry => execResetRequestDelayExpiry_ok h
  | .deferredCopyStart => execDeferredCopyStart_ok h
  | .bootRomStart => execBootRomStart_ok h
  | .loaderCheckComplete .. => execLoaderCheckComplete_ok h
  | .bootStagedCopy => execBootStagedCopy_ok h
  | .romHoldStatusFrame => execRomHoldStatusFrame_ok h
  | .stageManagerStart => execStageManagerStart_ok h
  | .pwTierReq .. => execPwTierReq_ok h
  | .tierGroupStart => execTierGroupStart_ok h
  | .domainSwitchOn .. => execDomainSwitchOn_ok h
  | .domainOnComplete .. => execDomainOnComplete_ok h
  | .domainPowerGoodTimeout .. => execDomainPowerGoodTimeout_ok h
  | .domainSwitchOff .. => execDomainSwitchOff_ok h
  | .thermalSample .. => execThermalSample_ok h
  | .thermalLevelDrop => execThermalLevelDrop_ok h
  | .darkSourceSwitch .. => execDarkSourceSwitch_ok h
  | .noticePost .. => execNoticePost_ok h
  | .noticeTake .. => execNoticeTake_ok h
  | .noticeAck .. => execNoticeAck_ok h
  | .noticeWithdraw .. => execNoticeWithdraw_ok h
  | .callboardStatusRead .. => execCallboardStatusRead_ok h
  | .callboardConfigWrite .. => execCallboardConfigWrite_ok h
  | .receiverReset .. => execReceiverReset_ok h
  | .callboardReset => execCallboardReset_ok h
  | .provisionalCancel .. => execProvisionalCancel_ok h
  | .mramWordRead .. => execMramWordRead_ok h
  | .mramWordWrite .. => execMramWordWrite_ok h
  | .mramMergeWrite .. => execMramMergeWrite_ok h
  | .fetchErrorRestart .. => execFetchErrorRestart_ok h
  | .scrubVisit .. => execScrubVisit_ok h
  | .columnRepairStep => execColumnRepairStep_ok h
  | .columnRepairComplete => execColumnRepairComplete_ok h
  | .bankSelfTest .. => execBankSelfTest_ok h
  | .bankCopy .. => execBankCopy_ok h
  | .bankWipe .. => execBankWipe_ok h
  | .bankOperationComplete .. => execBankOperationComplete_ok h
  | .journalCommitRequest .. => execJournalCommitRequest_ok h
  | .journalCommitComplete => execJournalCommitComplete_ok h
  | .compactionSector => execCompactionSector_ok h
  | .journalRecovery .. => execJournalRecovery_ok h
  | .safetyInputFilterChange .. => execSafetyInputFilterChange_ok h
  | .discrepancyTimeout .. => execDiscrepancyTimeout_ok h
  | .testPulse .. => execTestPulse_ok h
  | .mirrorTimeout .. => execMirrorTimeout_ok h
  | .readbackMismatch .. => execReadbackMismatch_ok h
  | .switchCurrentLimitTimeout .. => execSwitchCurrentLimitTimeout_ok h
  | .totalOverloadTimeout => execTotalOverloadTimeout_ok h
  | .darkTest .. => execDarkTest_ok h
  | .prompterAnswer .. => execPrompterAnswer_ok h
  | .prompterAnswerTimeout => execPrompterAnswerTimeout_ok h
  | .lockstepMismatch => execLockstepMismatch_ok h
  | .safetyBlockLoad => execSafetyBlockLoad_ok h
  | .blockCrcCheck => execBlockCrcCheck_ok h
  | .brakeTest .. => execBrakeTest_ok h
  | .brakeTestGraceExpiry => execBrakeTestGraceExpiry_ok h
  | .slsOverspeed .. => execSlsOverspeed_ok h
  | .ss1StopComplete => execSs1StopComplete_ok h
  | .ironOverspeedWindow .. => execIronOverspeedWindow_ok h
  | .ironOvertemp .. => execIronOvertemp_ok h
  | .cpStateReport .. => execCpStateReport_ok h
  | .currentLimitRecompute .. => execCurrentLimitRecompute_ok h
  | .acResume => execAcResume_ok h
  | .proximityLost .. => execProximityLost_ok h
  | .supportedAppProtocolReq .. => execSupportedAppProtocolReq_ok h
  | .cableCheckReq .. => execCableCheckReq_ok h
  | .preChargeReq .. => execPreChargeReq_ok h
  | .prechargeConditionMet => execPrechargeConditionMet_ok h
  | .prechargeSo2Open => execPrechargeSo2Open_ok h
  | .prechargeTimeout .. => execPrechargeTimeout_ok h
  | .powerDeliveryReq .. => execPowerDeliveryReq_ok h
  | .currentDemandReq .. => execCurrentDemandReq_ok h
  | .sessionStopReq .. => execSessionStopReq_ok h
  | .rampDownEnd => execRampDownEnd_ok h
  | .dcWeldingCheckEnd .. => execDcWeldingCheckEnd_ok h
  | .acAuthorisation .. => execAcAuthorisation_ok h
  | .acEndingTimeout => execAcEndingTimeout_ok h
  | .acWeldingCheckEnd => execAcWeldingCheckEnd_ok h
  | .isolationPeriodEnd .. => execIsolationPeriodEnd_ok h
  | .residualCurrentUpdate .. => execResidualCurrentUpdate_ok h
  | .rcSensorFault => execRcSensorFault_ok h
  | .rcSelfTest .. => execRcSelfTest_ok h
  | .slacTimeout .. => execSlacTimeout_ok h
  | .sequenceTimeout .. => execSequenceTimeout_ok h
  | .currentDemandGap .. => execCurrentDemandGap_ok h
  | .stateDTimeout .. => execStateDTimeout_ok h
  | .stateCTimeout .. => execStateCTimeout_ok h
  | .acOvercurrentTimeout .. => execAcOvercurrentTimeout_ok h
  | .stateFEnd => execStateFEnd_ok h
  | .tcpConnectionLoss .. => execTcpConnectionLoss_ok h
  | .flyControlCycle .. => execFlyControlCycle_ok h
  | .encoderIllegalTransition => execEncoderIllegalTransition_ok h
  | .encoderIndex => execEncoderIndex_ok h
  | .encValidSet => execEncValidSet_ok h
  | .flyHome .. => execFlyHome_ok h
  | .flyStop .. => execFlyStop_ok h
  | .flyQuickStop .. => execFlyQuickStop_ok h
  | .flyResume .. => execFlyResume_ok h
  | .flyJogPositive .. => execFlyJogPositive_ok h
  | .flyJogNegative .. => execFlyJogNegative_ok h
  | .flyTargetWrite .. => execFlyTargetWrite_ok h
  | .homingHomeSwitch .. => execHomingHomeSwitch_ok h
  | .toothEdge .. => execToothEdge_ok h
  | .missedTooth => execMissedTooth_ok h
  | .cueFire .. => execCueFire_ok h
  | .motionStoSettle => execMotionStoSettle_ok h
  | .motionBrakeRelease => execMotionBrakeRelease_ok h
  | .inPositionReached => execInPositionReached_ok h
  | .brakeSetHoldEnd => execBrakeSetHoldEnd_ok h
  | .wardenAxisSupervision .. => execWardenAxisSupervision_ok h
  | .meteringIntervalEnd .. => execMeteringIntervalEnd_ok h
  | .mainsLost => execMainsLost_ok h
  | .meteringFrameReceive => execMeteringFrameReceive_ok h
  | .supportingUpdate => execSupportingUpdate_ok h
  | .phaseRmsUpdate => execPhaseRmsUpdate_ok h
  | .anchorRefresh => execAnchorRefresh_ok h
  | .seamReceive .. => execSeamReceive_ok h
  | .energyCommit => execEnergyCommit_ok h
  | .tallyRestore => execTallyRestore_ok h
  | .sessionLatch .. => execSessionLatch_ok h
  | .tlyOutModeWrite .. => execTlyOutModeWrite_ok h
  | .processWindowEnd .. => execProcessWindowEnd_ok h
  | .processResultUpdate => execProcessResultUpdate_ok h
  | .calMeasureLow .. => execCalMeasureLow_ok h
  | .calMeasureHigh .. => execCalMeasureHigh_ok h
  | .calCommit .. => execCalCommit_ok h
  | .calAbandon .. => execCalAbandon_ok h
  | .calAveragingComplete .. => execCalAveragingComplete_ok h
  | .calEntryAck => execCalEntryAck_ok h
  | .tlyPcModeWrite .. => execTlyPcModeWrite_ok h
  | .tlyMcFsWrite .. => execTlyMcFsWrite_ok h
  | .meteringSelfCheckPhase .. => execMeteringSelfCheckPhase_ok h
  | .processSelfCheck .. => execProcessSelfCheck_ok h
  | .selfCheckReschedule => execSelfCheckReschedule_ok h
  | .converterClockLost => execConverterClockLost_ok h
  | .calendarEvaluate .. => execCalendarEvaluate_ok h
  | .costAccrual => execCostAccrual_ok h
  | .boxEmergReq .. => execBoxEmergReq_ok h
  | .demandSubIntervalEnd => execDemandSubIntervalEnd_ok h
  | .boxMdReset .. => execBoxMdReset_ok h
  | .tokenEntry .. => execTokenEntry_ok h
  | .tokenEntryTimeout => execTokenEntryTimeout_ok h
  | .tokenDecodeComplete => execTokenDecodeComplete_ok h
  | .tokenRecordAck => execTokenRecordAck_ok h
  | .creditToken => execCreditToken_ok h
  | .keyChangePartOne => execKeyChangePartOne_ok h
  | .keyChangePartTwo => execKeyChangePartTwo_ok h
  | .keyChangePartOneExpiry => execKeyChangePartOneExpiry_ok h
  | .clearTamperToken => execClearTamperToken_ok h
  | .setTariffIndexToken => execSetTariffIndexToken_ok h
  | .testToken => execTestToken_ok h
  | .tamperInputChange .. => execTamperInputChange_ok h
  | .reverseEnergyTimer .. => execReverseEnergyTimer_ok h
  | .boxRestore => execBoxRestore_ok h
  | .channel10StateReport => execChannel10StateReport_ok h
  | .tirwaCueFrame .. => execTirwaCueFrame_ok h
  | .tirwaAck .. => execTirwaAck_ok h
  | .tirwaAckTimeout => execTirwaAckTimeout_ok h
  | .frameControlError => execFrameControlError_ok h
  | .tirwaBackoffExpiry => execTirwaBackoffExpiry_ok h
  | .helloTimer => execHelloTimer_ok h
  | .helloReceive .. => execHelloReceive_ok h
  | .routeTriggeredHello => execRouteTriggeredHello_ok h
  | .neighbourAgeOut .. => execNeighbourAgeOut_ok h
  | .routeExpiry .. => execRouteExpiry_ok h
  | .floodRelay .. => execFloodRelay_ok h
  | .beaconReceive .. => execBeaconReceive_ok h
  | .claimReceive .. => execClaimReceive_ok h
  | .leadLost => execLeadLost_ok h
  | .claimSend => execClaimSend_ok h
  | .electionWin => execElectionWin_ok h
  | .joinRequest .. => execJoinRequest_ok h
  | .joinGrant .. => execJoinGrant_ok h
  | .seatTableAgeOut .. => execSeatTableAgeOut_ok h
  | .demandReportTimer => execDemandReportTimer_ok h
  | .demandReportReceive .. => execDemandReportReceive_ok h
  | .allocationCycle => execAllocationCycle_ok h
  | .shareApplyAt => execShareApplyAt_ok h
  | .shareLapse => execShareLapse_ok h
  | .soundFrameReceive .. => execSoundFrameReceive_ok h
  | .toneMapReceive .. => execToneMapReceive_ok h
  | .toneMapRefresh .. => execToneMapRefresh_ok h
  | .toneMapExpiry .. => execToneMapExpiry_ok h
  | .cmSlacParmReq .. => execCmSlacParmReq_ok h
  | .cmStartAttenCharInd .. => execCmStartAttenCharInd_ok h
  | .cmMnbcSoundInd .. => execCmMnbcSoundInd_ok h
  | .cmAttenCharRsp => execCmAttenCharRsp_ok h
  | .cmSlacMatchReq => execCmSlacMatchReq_ok h
  | .tirTestMode .. => execTirTestMode_ok h
  | .tirGpTestMode .. => execTirGpTestMode_ok h
  | .courierStart => execCourierStart_ok h
  | .laneSearchTimer .. => execLaneSearchTimer_ok h
  | .laneLinkUp .. => execLaneLinkUp_ok h
  | .laneLinkDown .. => execLaneLinkDown_ok h
  | .moduleInsertRead .. => execModuleInsertRead_ok h
  | .moduleA2Poll .. => execModuleA2Poll_ok h
  | .switchIngressFrame .. => execSwitchIngressFrame_ok h
  | .addressAgeOut .. => execAddressAgeOut_ok h
  | .arpRequest .. => execArpRequest_ok h
  | .icmpEchoRequest .. => execIcmpEchoRequest_ok h
  | .cueUdpDatagram .. => execCueUdpDatagram_ok h
  | .ptpSyncReceive .. => execPtpSyncReceive_ok h
  | .ptpSyncTimeout => execPtpSyncTimeout_ok h
  | .ptpSyncSend => execPtpSyncSend_ok h
  | .slPatternGenWrite .. => execSlPatternGenWrite_ok h
  | .slPatternChkWrite .. => execSlPatternChkWrite_ok h
  | .slLoopbackWrite .. => execSlLoopbackWrite_ok h
  | .readerPoll .. => execReaderPoll_ok h
  | .rdrHostGrant .. => execRdrHostGrant_ok h
  | .hostGrantTimeout => execHostGrantTimeout_ok h
  | .samResponse .. => execSamResponse_ok h
  | .rdrTestMode .. => execRdrTestMode_ok h
  | .tagFieldOn => execTagFieldOn_ok h
  | .tagFieldLoss => execTagFieldLoss_ok h
  | .reqa => execReqa_ok h
  | .wupa => execWupa_ok h
  | .anticollision .. => execAnticollision_ok h
  | .selectCascade .. => execSelectCascade_ok h
  | .rats => execRats_ok h
  | .sDeselect => execSDeselect_ok h
  | .selectApplication .. => execSelectApplication_ok h
  | .readIdentity => execReadIdentity_ok h
  | .readWindow .. => execReadWindow_ok h
  | .writeNote .. => execWriteNote_ok h
  | .verifyPassword .. => execVerifyPassword_ok h
  | .authenticate1 => execAuthenticate1_ok h
  | .authenticate2 .. => execAuthenticate2_ok h
  | .getStatus .. => execGetStatus_ok h
  | .tagSecurityWrite .. => execTagSecurityWrite_ok h
  | .statusPageUpdate .. => execStatusPageUpdate_ok h
  | .tagNoteClear .. => execTagNoteClear_ok h
  | .cardInsert .. => execCardInsert_ok h
  | .cardAtr .. => execCardAtr_ok h
  | .cardAtrTimeout .. => execCardAtrTimeout_ok h
  | .cardRemove .. => execCardRemove_ok h
  | .uartCharacterReceive .. => execUartCharacterReceive_ok h
  | .xonSend .. => execXonSend_ok h
  | .idleLine .. => execIdleLine_ok h
  | .startEdgeWake => execStartEdgeWake_ok h
  | .wakeRc16Check .. => execWakeRc16Check_ok h
  | .breakDetect => execBreakDetect_ok h
  | .stageDoorSettingsApply => execStageDoorSettingsApply_ok h
  | .pmiCommandFrame => execPmiCommandFrame_ok h
  | .pmiReply .. => execPmiReply_ok h
  | .pmiReplyMissing => execPmiReplyMissing_ok h
  | .uartRxDataRead .. => execUartRxDataRead_ok h
  | .uartTxDataWrite .. => execUartTxDataWrite_ok h
  | .uartTestWrite .. => execUartTestWrite_ok h
  | .keypadKeyEvent .. => execKeypadKeyEvent_ok h
  | .keypadFifoRead => execKeypadFifoRead_ok h
  | .dspImageWrite .. => execDspImageWrite_ok h
  | .fieldValueChange => execFieldValueChange_ok h
  | .blinkPhase => execBlinkPhase_ok h
  | .displayFrameEnd => execDisplayFrameEnd_ok h
  | .displayTempRead => execDisplayTempRead_ok h
  | .displayPowerOn => execDisplayPowerOn_ok h
  | .railFault .. => execRailFault_ok h
  | .slotDataMissing => execSlotDataMissing_ok h
  | .displayPowerOff => execDisplayPowerOff_ok h
  | .displayOffTimeout => execDisplayOffTimeout_ok h
  | .abruptDischarge => execAbruptDischarge_ok h
  | .railsDischarged => execRailsDischarged_ok h
  | .displayColdRetry => execDisplayColdRetry_ok h
  | .frontlightHoldExpiry => execFrontlightHoldExpiry_ok h
  | .frontlightSinkFault .. => execFrontlightSinkFault_ok h
  | .waveformSetLoad => execWaveformSetLoad_ok h
  | .wngOpen .. => execWngOpen_ok h
  | .wngChunk .. => execWngChunk_ok h
  | .wngVerify .. => execWngVerify_ok h
  | .verifyComplete .. => execVerifyComplete_ok h
  | .wngCommit .. => execWngCommit_ok h
  | .wngCommitCrc .. => execWngCommitCrc_ok h
  | .wngConfirm .. => execWngConfirm_ok h
  | .wngRollback .. => execWngRollback_ok h
  | .wngAbandon .. => execWngAbandon_ok h
  | .reverifyTimer => execReverifyTimer_ok h
  | .stageManagerSleep => execStageManagerSleep_ok h
  | .vcoreWaitTimeout => execVcoreWaitTimeout_ok h
  | .samWaitingTimeExpiry => execSamWaitingTimeExpiry_ok h
  | .slacRunTimeout => execSlacRunTimeout_ok h
  | .sessionSetupReq .. => execSessionSetupReq_ok h
  | .authorizationReq .. => execAuthorizationReq_ok h
  | .ptpAnnounceReceive .. => execPtpAnnounceReceive_ok h
  | .slModuleRemoved .. => execSlModuleRemoved_ok h
  | .tagHalt => execTagHalt_ok h

theorem step_ok {k : Nat × List Instr} {s : State} (h : s.ok k) : Sound (k.1, k.2.tail) (step s) := by
  have queue := h.pending_eq
  unfold step
  split
  case h_1 none =>
    have same : (k.1, k.2.tail) = k := by rw [← queue, none, List.tail_nil, ← none, queue]
    rw [same]
    exact sound_next (idle_ok h)
  case h_2 c rest front =>
    rw [← queue, front]
    exact exec_ok (h.withPending rest) c

/-- Settles O4: an idle step and the execution of every command keep a sound state sound. -/
theorem stepKeepsSound : Obligations.StepKeepsSound :=
  fun _ _ t h ht => step_ok h t ht

/-! ### The power-fail sequence and a compaction (R161, R162) -/

/-- A post whose Stage manager runs, whose VSUP is good, whose prompt book has power, and whose live half is full beyond PBK_COMPACT_PCT: the
compaction that R161 asks for has just been started. -/
def compactingPost : State :=
  startCompaction (((({ State.reset with
    pwr := { State.reset.pwr with boot := .running, vsup := true }
    jnl := { State.reset.jnl with ready := true } }.setDom 36 .on).setDom 29 .on).setDom 30 .on).setReg P.pbkFill 200000)

theorem compactingPost_ok : compactingPost.ok (0, []) :=
  startCompaction_ok (State.setReg_ok (State.setDom_ok (State.setDom_ok (State.setDom_ok
    (ok_upd State.reset_ok rfl rfl rfl rfl rfl)))))

/-- The VSUP warning abandons the compaction in progress (R162). The records of the power-fail sequence are then committed like any
others, and because the live half is still full to PBK_COMPACT_PCT their commit starts a compaction again (`compactIfFull`). -/
theorem vsupWarning_restarts_compaction : (vsupWarning compactingPost).jnl.comp.isSome = true := by
  decide +kernel

/-- Refutes O15: its clause of the VSUP warning while the Stage manager runs asks that no compaction be in progress afterwards, and in
the sound state `compactingPost` one is. -/
theorem not_supplies : ¬ Obligations.Supplies := by
  unfold Obligations.Supplies
  rintro ⟨-, -, -, -, -, -, -, -, -, warning, -⟩
  obtain ⟨t, run, -, -, -, -, -, -, noCompaction, -⟩ := warning compactingPost 8400 rfl rfl compactingPost_ok.dom_length
  have after : vsupWarning compactingPost = t := Host.Outcome.next.inj run
  have restarted := vsupWarning_restarts_compaction
  rw [after, noCompaction] at restarted
  exact Bool.noConfusion restarted

end Sys2Proof.Machine
end

section
/-!
SUPPORT. Batons (spec/01_house_and_post.md R26, R31): no read is refused for want of one, and a RELEASE in area F, which is no area
for a level below 4 (`serveBaton`), frees nothing.
-/

namespace Sys2Proof.Machine

open Sys2Proof

/-! ### Reads and batons (R26) -/

theorem judgeObject_ne_baton (write : Bool) (level p : Nat) (s : State) : judgeObject write level p s ≠ resBaton := by
  unfold judgeObject
  split
  · simp
  · split_ifs <;> simp

theorem readObject_ne_baton (level p : Nat) (s : State) : (readObject level p s).1 ≠ resBaton := by
  unfold readObject
  dsimp only
  split_ifs
  · exact judgeObject_ne_baton false level p s
  · simp
  · simp

theorem cueOf_ne_baton (status : Nat) : cueOf status ≠ resBaton := by
  unfold cueOf
  split_ifs <;> simp

/-- Every refusal of a READ is written out or is the one that `readObject` gave. -/
theorem serveRead_ne_baton (v : Serving) (s : State) : (serveRead v s).1.1 ≠ resBaton := by
  have object := readObject_ne_baton v.level v.req.pid s
  unfold serveRead
  dsimp only
  split_ifs <;> simp [object]

theorem serveBulkRead_ne_baton (v : Serving) (s : State) : (serveBulkRead v s).1.1 ≠ resBaton := by
  unfold serveBulkRead
  dsimp only
  split_ifs <;> simp

/-- A raw access answers a refusal written out or the result code of its status. -/
theorem serveRaw_ne_baton (v : Serving) (s : State) : (serveRaw v s).1.1 ≠ resBaton := by
  unfold serveRaw
  dsimp only
  split_ifs <;> simp [cueOf_ne_baton]

/-- Settles O7: step 4 asks for no baton, and neither a raw read, an object's read nor a BULK_READ answers BATON. -/
theorem readsNeedNoBaton : Obligations.ReadsNeedNoBaton := by
  rintro v s (read | bulk)
  · refine ⟨by simp [batonStep, read], ?_⟩
    by_cases raw : areaOf v.req.pid = 0xE
    · have code : serveOp v s = serveRaw v s := by simp [serveOp, read, raw]
      exact code ▸ serveRaw_ne_baton v s
    · have code : serveOp v s = serveRead v s := by simp [serveOp, read, raw]
      exact code ▸ serveRead_ne_baton v s
  · have code : serveOp v s = serveBulkRead v s := by simp [serveOp, bulk]
    exact ⟨by simp [batonStep, bulk], code ▸ serveBulkRead_ne_baton v s⟩

/-! ### An accepted request is executed (R178) -/

theorem noteVerified_stored (r : Req) (s : State) (m : Master) : (noteVerified r s).stored m = s.stored m := by
  unfold noteVerified
  dsimp only
  split <;> cases m <;> rfl

theorem noteVerified_lastCueSeq (r : Req) (s : State) (m : Master) :
    (noteVerified r s).lastCueSeq m = s.lastCueSeq m := by
  unfold noteVerified
  dsimp only
  split <;> cases m <;> rfl

theorem seqVerdict_noteVerified (r : Req) (s : State) (m : Master) (seq : Nat) :
    seqVerdict m seq (noteVerified r s) = seqVerdict m seq s := by
  simp only [seqVerdict, noteVerified_stored, noteVerified_lastCueSeq]

theorem serveCue_of_accepted {op : Nat} {r : Req} {s : State} (h : Accepted op r s) :
    serveCue op false r s = execute (servingOf op r s) (heard r s) := by
  obtain ⟨queue, runs, form, address, -, mac, epoch, master, baton, seq, -⟩ := h
  have nothingWaits : drainInbox s.cue.inbox.length s = s := by rw [queue]; rfl
  have verified : serveRequest op false false r s = serveVerified (servingOf op r s) (noteVerified r s) := by
    simp [serveRequest, runs, form, address, mac, servingOf]
  have sequenced : unsequenced (servingOf op r s) = false := by
    simp [unsequenced, servingOf, master, epoch]
  have inOrder : seqVerdict (servingOf op r s).master (servingOf op r s).req.seq (noteVerified r s) = .accepted :=
    (seqVerdict_noteVerified r s _ _).trans seq
  rw [serveCue, nothingWaits, verified]
  simp only [serveVerified, baton, sequenced, inOrder]
  rfl

theorem execute_eq_answered (v : Serving) (s : State) : execute v s = answered v (serveOp v s).1 (serveOp v s).2 := rfl

theorem serveOp_baton {v : Serving} (op : v.op = opSeize ∨ v.op = opRelease) (s : State) : serveOp v s = serveBaton v s := by
  obtain op | op := op <;> simp [serveOp, op]

/-- Below level 4 area F has no baton to seize or release. -/
theorem serveBaton_areaF {v : Serving} (area : areaOf v.req.pid = 0xF) (low : v.level < 4) (s : State) :
    serveBaton v s = ((resNoObject, []), s) :=
  if_pos ⟨area, low⟩

/-! ### A reply on the stage door port (R167) -/

theorem storeReply_reg (m : Master) (seq : Nat) (f : CueFrame) (s : State) (p : Nat) :
    (storeReply m seq f s).reg p = s.reg p := by
  unfold storeReply
  split
  · rfl
  · cases m <;> rfl

/-- Where no forced start of I00 waits for the reply, sending it is all. -/
theorem sendReply_door {r : Req} {s : State} (door : r.via = .stageDoor) (calm : s.pwr.forcedStart = false) (f : CueFrame) :
    sendReply r f s = putCue .stageDoor r.ip r.port f s := by
  have still : (putCue .stageDoor r.ip r.port f s).pwr.forcedStart = false := calm
  simp [sendReply, sendCue, door, State.carries, forcedStart, still]

theorem storeReply_pwr (m : Master) (seq : Nat) (f : CueFrame) (s : State) : (storeReply m seq f s).pwr = s.pwr := by
  unfold storeReply
  split
  · rfl
  · cases m <;> rfl

theorem answered_door_reg {v : Serving} {u : State} (door : v.req.via = .stageDoor) (calm : u.pwr.forcedStart = false)
    (b : Reply) (p : Nat) : (answered v b u).reg p = u.reg p := by
  rw [answered, sendReply_door door ((storeReply_pwr _ _ _ u).symm ▸ calm)]
  exact storeReply_reg _ _ _ u p

theorem answered_door_head {v : Serving} {u : State} (door : v.req.via = .stageDoor) (calm : u.pwr.forcedStart = false)
    (b : Reply) : (answered v b u).sent.head? = some (.cue .stageDoor (v.reply u b)) := by
  rw [answered, sendReply_door door ((storeReply_pwr _ _ _ u).symm ▸ calm)]
  rfl

/-! ### Area F below level 4 (R29, R31) -/

/-- A post whose Cue server runs under epoch 1 and whose baton of area F the side-band holds. -/
def areaFPost : State :=
  { (State.reset.setReg P.smgBatonHolder 0x80000000).setReg P.smgCueEpoch 1 with
    cue := { CueState.reset with running := true } }

/-- A SEIZE or RELEASE of area F from the side-band at level 2. -/
def areaFRequest (op : Nat) : Req :=
  { via := .stageDoor, ip := 0, port := 0, version := 1, flags := 2, seq := 1, src := 5, dst := 0xFFFE, pid := 0xF00000, len := 0
    payload := []
    cmac := cueMac (areaFPost.key 2) areaFPost.postId areaFPost.epoch (frameBytes 1 2 1 5 0xFFFE op 0xF00000 0 []) }

theorem areaFRequest_verdict (op : Nat) : verdict op (areaFRequest op) areaFPost = .passed areaFPost.epoch := by
  have named : asksEpoch op (areaFRequest op) = false := by simp [asksEpoch, areaFRequest]
  have one : isBroadcast (areaFRequest op) = false := rfl
  have mac : verifies op (areaFRequest op) areaFPost areaFPost.epoch = true := by
    simp [verifies, identOf, one]
    rfl
  simp [verdict, one, named, mac]

/-- The side-band holds the baton, so step 4 passes its SEIZE and its RELEASE. -/
theorem areaFRequest_accepted {op : Nat} (h : op = opSeize ∨ op = opRelease) : Accepted op (areaFRequest op) areaFPost := by
  obtain rfl | rfl := h <;>
    exact ⟨rfl, by decide, by decide, by decide, by decide, areaFRequest_verdict _, by decide, by decide,
      Prod.ext (by decide +kernel) rfl, by decide, by decide⟩

/-- No area F is shown below level 4: the answer is NO_OBJECT, and no baton moves. -/
theorem areaFRequest_answered {op : Nat} (h : op = opSeize ∨ op = opRelease) :
    serveCue op false (areaFRequest op) areaFPost
      = answered (servingOf op (areaFRequest op) areaFPost) (resNoObject, []) (heard (areaFRequest op) areaFPost) := by
  have code : serveOp (servingOf op (areaFRequest op) areaFPost) (heard (areaFRequest op) areaFPost)
      = ((resNoObject, []), heard (areaFRequest op) areaFPost) := by
    rw [serveOp_baton h, serveBaton_areaF (by simp [areaOf, servingOf, areaFRequest]) (by simp [servingOf, reqKey, areaFRequest])]
  rw [serveCue_of_accepted (areaFRequest_accepted h), execute_eq_answered, code]

theorem areaFRelease_keeps_baton : (serveCue opRelease false (areaFRequest opRelease) areaFPost).holder 15 = 2 := by
  have register : (serveCue opRelease false (areaFRequest opRelease) areaFPost).reg P.smgBatonHolder = 0x80000000 := by
    rw [areaFRequest_answered (.inr rfl), answered_door_reg rfl (by decide +kernel)]
    decide +kernel
  simp [State.holder, register, bits]

/-- Refutes O8: its first clause also speaks of a RELEASE of area F below level 4, which is answered NO_OBJECT and leaves the baton
with its holder. -/
theorem not_releaseOnlyByTheHolder : ¬ Obligations.ReleaseOnlyByTheHolder := by
  unfold Obligations.ReleaseOnlyByTheHolder
  rintro ⟨byHolder, -⟩
  obtain ⟨t, run, -, freed⟩ := byHolder areaFPost (areaFRequest opRelease) _ 15 (areaFRequest_accepted (.inr rfl)) rfl (by decide)
    rfl rfl (by decide +kernel)
  have after : serveCue opRelease false (areaFRequest opRelease) areaFPost = t := Host.Outcome.next.inj run
  have kept : t.holder 15 = 2 := after ▸ areaFRelease_keeps_baton
  exact absurd (freed.symm.trans kept) (by decide)

/-- Refutes O38: its first clause also speaks of a SEIZE of area F below level 4, by the holder of that baton here: the answer is
NO_OBJECT and not OK. -/
theorem not_batonsAndNotifications : ¬ Obligations.BatonsAndNotifications := by
  unfold Obligations.BatonsAndNotifications
  rintro ⟨seize, -⟩
  obtain ⟨t, run, answer, -⟩ := seize areaFPost (areaFRequest opSeize) _ 15 (areaFRequest_accepted (.inl rfl)) rfl (by decide) rfl rfl
  have after : serveCue opSeize false (areaFRequest opSeize) areaFPost = t := Host.Outcome.next.inj run
  have held : changeBaton (servingOf opSeize (areaFRequest opSeize) areaFPost) 1 15 (masterOf areaFPost (areaFRequest opSeize)).holds
      (heard (areaFRequest opSeize) areaFPost) = heard (areaFRequest opSeize) areaFPost := if_pos (by decide +kernel)
  rw [held] at answer
  have refused := answered_door_head (v := servingOf opSeize (areaFRequest opSeize) areaFPost)
    (u := heard (areaFRequest opSeize) areaFPost) rfl (by decide +kernel) (resNoObject, [])
  rw [← areaFRequest_answered (.inl rfl), after, answer, answered_door_head rfl (by decide +kernel)] at refused
  simp [Serving.reply, replyFrame, mkFrame] at refused

end Sys2Proof.Machine
end

section
/-!
SUPPORT. What only the power layer changes: the states of the domains (R93), the time since which the governor waits below its
threshold (R112), the restarts noted for a word (R152), and whether the Cue server runs. The operations that the power layer
calls leave these four as they are: one lemma for each, in the order of the chapters.
-/

namespace Sys2Proof.Machine

open Sys2Proof

/-- The parts of the state that operations below the power layer leave alone. -/
def State.steady (s : State) : List DomState × Option Nat × List (Nat × Nat) × Bool :=
  (s.pwr.dom, s.pwr.thermBelow, s.mram.restarts, s.cue.running)

theorem dom_of_steady {s t : State} (h : t.steady = s.steady) (d : Nat) : t.dom d = s.dom d :=
  congrArg (fun l => l.getD d .off) (congrArg Prod.fst h)

theorem restarts_of_steady {s t : State} (h : t.steady = s.steady) : t.mram.restarts = s.mram.restarts :=
  congrArg (fun x => x.2.2.1) h

theorem running_of_steady {s t : State} (h : t.steady = s.steady) : t.cue.running = s.cue.running :=
  congrArg (fun x => x.2.2.2) h

/-! ### Updates of the parts -/

/-- An update of other parts than the power layer's, the MRAM controller's and the Cue server's. -/
@[simp] theorem steady_upd {s : State} {now mono freeCtr regs mem fab clk cbd jnl iron saf veh fly cnv nrg box tir slac sl rdr tag crd
    ser dsp wng sent pending} :
    (State.mk now mono freeCtr regs mem s.cue fab clk s.pwr cbd s.mram jnl iron saf veh fly cnv nrg box tir slac sl rdr tag crd ser
      dsp wng sent pending).steady = s.steady := rfl

/-- An update of the MRAM controller that leaves the restarts noted. -/
@[simp] theorem steady_updMram {s : State}
    {now mono freeCtr regs mem fab clk cbd jnl iron saf veh fly cnv nrg box tir slac sl rdr tag crd
    ser dsp wng sent pending repairs wrong history pass refDone badSpares exhausted fetchBank op} :
    (State.mk now mono freeCtr regs mem s.cue fab clk s.pwr cbd
      (MramState.mk repairs wrong history pass refDone badSpares exhausted fetchBank op s.mram.restarts) jnl iron saf veh fly cnv nrg
      box tir slac sl rdr tag crd ser dsp wng sent pending).steady = s.steady := rfl

@[simp] theorem steady_ite {c : Prop} {d : Decidable c} {a b : State} : (@ite State c d a b).steady = @ite _ c d a.steady b.steady :=
  apply_ite State.steady c a b

@[simp] theorem steady_ite_snd {α : Type} {c : Prop} {d : Decidable c} {a b : α × State} :
    (@ite (α × State) c d a b).2.steady = @ite _ c d a.2.steady b.2.steady :=
  apply_ite (fun x : α × State => x.2.steady) c a b

@[simp] theorem steady_ite_thd {α β : Type} {c : Prop} {d : Decidable c} {a b : α × β × State} :
    (@ite (α × β × State) c d a b).2.2.steady = @ite _ c d a.2.2.steady b.2.2.steady :=
  apply_ite (fun x : α × β × State => x.2.2.steady) c a b

theorem foldl_keeps {α β : Type} {f : State → α → State} {l : List α} (g : State → β)
    (h : ∀ x ∈ l, ∀ s, g (f s x) = g s) (s : State) : g (l.foldl f s) = g s := by
  induction l generalizing s with
  | nil => rfl
  | cons x t ih =>
    obtain ⟨first, rest⟩ := List.forall_mem_cons.mp h
    exact (ih rest _).trans (first s)

theorem foldl_steady {α : Type} {f : State → α → State} (h : ∀ s x, (f s x).steady = s.steady) (l : List α) (s : State) :
    (l.foldl f s).steady = s.steady :=
  foldl_keeps State.steady (fun x _ s => h s x) s

/-! ### Registers, memory, time and outputs -/

@[simp] theorem State.setReg_steady (s : State) (p v : Nat) : (s.setReg p v).steady = s.steady := rfl
@[simp] theorem State.count_steady (s : State) (p k : Nat) : (s.count p k).steady = s.steady := rfl
@[simp] theorem State.setRegs_steady (s : State) (l : List (Nat × Nat)) : (s.setRegs l).steady = s.steady :=
  foldl_steady (f := fun s (e : Nat × Nat) => s.setReg e.1 e.2) (fun _ _ => rfl) l s
@[simp] theorem State.setWord_steady (s : State) (x w : Nat) : (s.setWord x w).steady = s.steady := rfl
@[simp] theorem State.setWords_steady (s : State) (x : Nat) (l : List Nat) : (s.setWords x l).steady = s.steady := by
  induction l generalizing s x with
  | nil => rfl
  | cons w t ih => exact ih _ _
@[simp] theorem State.drawBits_steady (s : State) (w : Nat) : (s.drawBits w).2.steady = s.steady := rfl
@[simp] theorem State.emit_steady (s : State) (o : Output) : (s.emit o).steady = s.steady := rfl
@[simp] theorem State.setIsl_steady (s : State) (n : Nat) (c : IslClk) : (s.setIsl n c).steady = s.steady := rfl
@[simp] theorem State.setSrc_steady (s : State) (c v : Nat) : (s.setSrc c v).steady = s.steady := rfl
@[simp] theorem State.setChan_steady (s : State) (n : Nat) (c : Channel) : (s.setChan n c).steady = s.steady := rfl
@[simp] theorem State.setNrg_steady (s : State) (x : NrgState) : (s.setNrg x).steady = s.steady := rfl
@[simp] theorem State.setVeh_steady (s : State) (x : VehState) : (s.setVeh x).steady = s.steady := rfl
@[simp] theorem State.setTir_steady (s : State) (x : TirState) : (s.setTir x).steady = s.steady := rfl
@[simp] theorem State.setSl_steady (s : State) (x : SlState) : (s.setSl x).steady = s.steady := rfl
@[simp] theorem State.setRdr_steady (s : State) (x : RdrState) : (s.setRdr x).steady = s.steady := rfl
@[simp] theorem State.setTag_steady (s : State) (x : TagState) : (s.setTag x).steady = s.steady := rfl
@[simp] theorem State.setDsp_steady (s : State) (x : DspState) : (s.setDsp x).steady = s.steady := rfl
@[simp] theorem State.setSer_steady (s : State) (x : SerState) : (s.setSer x).steady = s.steady := rfl
@[simp] theorem State.setSub_steady (s : State) (i : Nat) (x : Option Sub) : (s.setSub i x).steady = s.steady := rfl
@[simp] theorem State.offerEvent_steady (s : State) (i n : Nat) : (s.offerEvent i n).steady = s.steady := by
  simp only [State.offerEvent, steady_ite, State.emit_steady, steady_upd, State.count_steady, ite_self]
@[simp] theorem fabFault_steady (init route status addr : Nat) (s : State) :
    (fabFault init route status addr s).steady = s.steady := by
  unfold fabFault
  extract_lets t
  have recorded : t.steady = s.steady := State.setReg_steady s _ _
  clear_value t
  split <;> exact (State.count_steady t _ _).trans recorded

/-! ### The Callboard -/

@[simp] theorem storeNotice_steady (n init word : Nat) (s : State) : (storeNotice n init word s).steady = s.steady := by
  simp only [storeNotice, State.count_steady, State.offerEvent_steady, State.setChan_steady, State.setReg_steady, steady_ite,
    steady_upd, ite_self]

@[simp] theorem postNotice_steady (n init word beats byteEn : Nat) (s : State) :
    (postNotice n init word beats byteEn s).2.steady = s.steady := by
  simp only [postNotice, State.count_steady, storeNotice_steady, steady_ite_snd, ite_self]

@[simp] theorem offerRetracts_steady (n : Nat) (s : State) : (offerRetracts n s).steady = s.steady := by
  unfold offerRetracts
  split <;> simp only [postNotice_steady, steady_ite, steady_upd, ite_self]

@[simp] theorem retract_steady (n sender tag : Nat) (s : State) : (retract n sender tag s).steady = s.steady := by
  simp only [retract, offerRetracts_steady, steady_upd]

@[simp] theorem cancelWaiting_steady (n sender tag result : Nat) (s : State) :
    (cancelWaiting n sender tag result s).steady = s.steady := by
  simp only [cancelWaiting, retract_steady, steady_ite, steady_upd, ite_self]

@[simp] theorem recordResult_steady (n result code : Nat) (s : State) : (recordResult n result code s).steady = s.steady := by
  simp only [recordResult, State.offerEvent_steady, State.setChan_steady, State.setReg_steady, cancelWaiting_steady,
    offerRetracts_steady, steady_ite, steady_upd, ite_self]

@[simp] theorem readNotice_steady (n init : Nat) (s : State) : (readNotice n init s).2.2.steady = s.steady := by
  simp only [readNotice, State.setChan_steady, steady_ite_thd, ite_self]

@[simp] theorem deliverNotice_steady (n : Nat) (delivered : Bool) (s : State) :
    (deliverNotice n delivered s).steady = s.steady := by
  simp only [deliverNotice, State.setChan_steady, recordResult_steady, steady_ite, ite_self]

@[simp] theorem ackNotice_steady (n init code : Nat) (s : State) : (ackNotice n init code s).2.steady = s.steady := by
  simp only [ackNotice, recordResult_steady, steady_ite_snd, ite_self]

@[simp] theorem loseNotice_steady (island n : Nat) (s : State) : (loseNotice island n s).steady = s.steady := by
  simp only [loseNotice, State.count_steady, recordResult_steady, steady_ite, ite_self]

@[simp] theorem receiverReset_steady (island : Nat) (s : State) : (receiverReset island s).steady = s.steady :=
  foldl_steady (fun s n => loseNotice_steady island n s) _ s

@[simp] theorem callboardReset_steady (s : State) : (callboardReset s).steady = s.steady := rfl

@[simp] theorem repost_steady (e : Nat × Nat) (s : State) : (repost e s).steady = s.steady := by
  simp only [repost, postNotice_steady, steady_ite, ite_self]

@[simp] theorem callboardReturns_steady (s : State) : (callboardReturns s).steady = s.steady := by
  unfold callboardReturns
  split
  · exact (foldl_steady (fun s n => offerRetracts_steady n s) _ _).trans (foldl_steady (fun s e => repost_steady e s) _ _)
  · rfl

@[simp] theorem senderGone_steady (island : Nat) (s : State) : (senderGone island s).steady = s.steady := rfl

@[simp] theorem relay_steady (n sender kind code : Nat) (s : State) : (relay n sender kind code s).steady = s.steady := by
  simp only [relay, State.drawBits_steady, ackNotice_steady, deliverNotice_steady, postNotice_steady, readNotice_steady,
    steady_ite, ite_self]

/-! ### The prompt book -/

@[simp] theorem writeRec_steady (s : State) (bank pos : Nat) (r : Rec) : (writeRec s bank pos r).steady = s.steady :=
  State.setWords_steady s _ _

@[simp] theorem noteRec_steady (r : Rec) (counted : Bool) (s : State) : (noteRec r counted s).steady = s.steady := by
  simp only [noteRec, steady_upd]

@[simp] theorem appendRec_steady (j : JReq) (s : State) : (appendRec j s).steady = s.steady := by
  simp only [appendRec, State.setReg_steady, noteRec_steady, writeRec_steady]

@[simp] theorem finishSlot_steady (s : State) : (finishSlot s).steady = s.steady := by
  unfold finishSlot
  split <;> simp only [State.emit_steady, State.setReg_steady, State.setWord_steady, noteRec_steady, steady_upd]

@[simp] theorem startCompaction_steady (s : State) : (startCompaction s).steady = s.steady := by
  unfold startCompaction
  split <;> simp only [steady_upd]

@[simp] theorem compactRec_steady (c : Compaction) (typ stime : Nat) (payload : List Nat) (s : State) :
    (compactRec c typ stime payload s).2.steady = s.steady := by
  simp only [compactRec, State.setReg_steady, writeRec_steady]

@[simp] theorem compactSome_steady (k room : Nat) (c : Compaction) (l : List (Nat × Nat × List Nat)) (s : State) :
    (compactSome k room c l s).2.2.steady = s.steady := by
  induction k generalizing room c l s with
  | zero => rfl
  | succ k ih =>
    cases l with
    | nil => rfl
    | cons e t => simp only [compactSome, steady_ite_thd, ih, compactRec_steady, ite_self]

@[simp] theorem switchHalf_steady (c : Compaction) (s : State) : (switchHalf c s).steady = s.steady := by
  simp only [switchHalf, State.count_steady, State.setReg_steady, steady_upd]

@[simp] theorem releaseHeld_steady (k : Nat) (s : State) : (releaseHeld k s).steady = s.steady := by
  induction k generalizing s with
  | zero => rfl
  | succ k ih =>
    unfold releaseHeld
    split
    · rfl
    · simp only [ih, State.emit_steady, appendRec_steady, steady_upd]

@[simp] theorem compactionSector_steady (s : State) : (compactionSector s).steady = s.steady := by
  unfold compactionSector
  split <;> simp only [compactRec_steady, compactSome_steady, releaseHeld_steady, switchHalf_steady, steady_ite, steady_upd,
    ite_self]

@[simp] theorem compactAll_steady (k : Nat) (s : State) : (compactAll k s).steady = s.steady := by
  induction k generalizing s with
  | zero => rfl
  | succ k ih => simp only [compactAll, steady_ite, ih, compactionSector_steady, ite_self]

@[simp] theorem compactNow_steady (s : State) : (compactNow s).steady = s.steady := by
  simp only [compactNow, compactAll_steady, startCompaction_steady]

@[simp] theorem compactIfFull_steady (s : State) : (compactIfFull s).steady = s.steady := by
  simp only [compactIfFull, startCompaction_steady, steady_ite, ite_self]

@[simp] theorem restoreOwn_steady (s : State) : (restoreOwn s).steady = s.steady := by
  simp only [restoreOwn, State.setRegs_steady]

@[simp] theorem adoptHalf_steady (bank : Nat) (c : Scan) (next status us : Nat) (s : State) :
    (adoptHalf bank c next status us s).steady = s.steady := by
  simp only [adoptHalf, State.setRegs_steady, restoreOwn_steady, steady_upd]

@[simp] theorem recover_steady (us : Nat) (bad : List Nat) (s : State) : (recover us bad s).steady = s.steady := by
  simp only [recover, adoptHalf_steady, startCompaction_steady, writeRec_steady, steady_ite, ite_self]

@[simp] theorem ensureReady_steady (s : State) : (ensureReady s).steady = s.steady := by
  simp only [ensureReady, State.drawBits_steady, recover_steady, steady_ite, ite_self]

@[simp] theorem payOwed_steady (s : State) : (payOwed s).steady = s.steady := by
  simp only [payOwed, appendRec_steady, steady_ite, steady_upd, ite_self]

@[simp] theorem bookRest_steady (s : State) : (bookRest s).steady = s.steady := by
  simp only [bookRest, compactNow_steady, finishSlot_steady, steady_ite, ite_self]

@[simp] theorem commitOn_steady (j : JReq) (s : State) : (commitOn j s).2.steady = s.steady := by
  unfold commitOn
  dsimp only
  split <;> simp only [State.count_steady, appendRec_steady, bookRest_steady, compactIfFull_steady, compactNow_steady,
    payOwed_steady]

@[simp] theorem ownEntryOn_steady (s : State) : (ownEntryOn s).steady = s.steady := by
  simp only [ownEntryOn, commitOn_steady, steady_ite, ite_self]

theorem setDom_steady (s : State) (d : Nat) (x : DomState) : (s.setDom d x).steady = (s.steady.1.set d x, s.steady.2) := rfl

/-- Three domains put back into the states they had before they were switched on. -/
theorem set_undo (l : List DomState) :
    (((((l.set 36 .on).set 29 .on).set 30 .on).set 36 (l.getD 36 .off)).set 29 (l.getD 29 .off)).set 30 (l.getD 30 .off) = l := by
  have one (m : List DomState) (i : Nat) : (m.set i .on).set i (m.getD i .off) = m := by
    rw [List.set_set]
    by_cases h : i < m.length
    · rw [List.getD_eq_getElem m .off h, List.set_getElem_self]
    · exact List.set_eq_of_length_le (Nat.not_lt.mp h)
  rw [List.set_comm _ _ (show 30 ≠ 36 by decide), List.set_comm _ _ (show 29 ≠ 36 by decide), one l 36,
    List.set_comm _ _ (show 30 ≠ 29 by decide), one l 29, one l 30]

theorem keeperUp_steady (s : State) : (keeperUp s).steady = (((s.setDom 36 .on).setDom 29 .on).setDom 30 .on).steady := by
  simp only [keeperUp, ensureReady_steady]
  split <;> rfl

/-- After a commit over the keeper path the domains stand as before (R155). -/
theorem keeperDown_steady {was s : State} (h : s.steady = (((was.setDom 36 .on).setDom 29 .on).setDom 30 .on).steady) :
    (keeperDown was s).steady = was.steady := by
  simp only [keeperDown, setDom_steady, steady_ite, ownEntryOn_steady, compactAll_steady, steady_upd, ite_self, h]
  exact Prod.ext (set_undo was.pwr.dom) rfl

@[simp] theorem commit_steady (j : JReq) (s : State) : (commit j s).2.steady = s.steady := by
  unfold commit
  split
  · simp only [commitOn_steady, ensureReady_steady]
  · exact keeperDown_steady ((commitOn_steady j _).trans (keeperUp_steady s))

@[simp] theorem record_steady (typ : Nat) (payload : List Nat) (s : State) : (record typ payload s).steady = s.steady := by
  simp only [record, commit_steady]

@[simp] theorem selfCommit_steady (never : Bool) (pids : List Nat) (s : State) :
    (selfCommit never pids s).steady = s.steady := by
  simp only [selfCommit, commit_steady, steady_upd]

@[simp] theorem countJournalled_steady (p : Nat) (s : State) : (countJournalled p s).steady = s.steady := by
  simp only [countJournalled, State.count_steady, selfCommit_steady]

@[simp] theorem ownObjectEntry_steady (s : State) : (ownObjectEntry s).steady = s.steady := by
  simp only [ownObjectEntry, bookRest_steady, ownEntryOn_steady, steady_ite, ite_self]

@[simp] theorem openRecord_steady (typ : Nat) (s : State) : (openRecord typ s).steady = s.steady := by
  simp only [openRecord, State.drawBits_steady, record_steady]

@[simp] theorem clearFetch_steady (island : Nat) (s : State) : (clearFetch island s).steady = s.steady := by
  simp only [clearFetch, steady_updMram]

@[simp] theorem mramStart_steady (s : State) : (mramStart s).steady = s.steady := by
  simp only [mramStart, steady_updMram]

@[simp] theorem bankStatus_steady (st faults : Nat) (s : State) : (bankStatus st faults s).steady = s.steady := by
  simp only [bankStatus, State.setReg_steady]

@[simp] theorem bankCut_steady (b : Nat) (s : State) : (bankCut b s).steady = s.steady := by
  unfold bankCut
  split <;> simp only [bankStatus_steady, steady_ite, steady_updMram, ite_self]

/-! ### Frames and notifications -/

@[simp] theorem doorSend_steady (baud f turn lead : Nat) (b : Bytes) (s : State) :
    (doorSend baud f turn lead b s).steady = s.steady := by
  simp only [doorSend, State.emit_steady, steady_upd]

@[simp] theorem tirSend_steady (t : TxItem) (s : State) : (tirSend t s).steady = s.steady := by
  simp only [tirSend, steady_ite, steady_upd, ite_self]

@[simp] theorem putCue_steady (via : Via) (ip port : Nat) (f : CueFrame) (s : State) :
    (putCue via ip port f s).steady = s.steady := by
  cases via with
  | stageDoor => simp only [putCue, State.emit_steady, doorSend_steady]
  | tirwa => simp only [putCue, State.emit_steady, tirSend_steady, relay_steady]
  | stageLink =>
    unfold putCue
    dsimp only
    split <;> rfl

@[simp] theorem sendCue_steady (via : Via) (ip port : Nat) (f : CueFrame) (s : State) :
    (sendCue via ip port f s).steady = s.steady := by
  simp only [sendCue, putCue_steady, steady_ite, ite_self]

@[simp] theorem sendNoteOf_steady (slot : Nat) (u : Sub) (result : Nat) (v : Bytes) (s : State) :
    (sendNoteOf slot u result v s).steady = s.steady := by
  simp only [sendNoteOf, State.setSub_steady, sendCue_steady]

@[simp] theorem noteGone_steady (slot : Nat) (s : State) : (noteGone slot s).steady = s.steady := by
  unfold noteGone
  split <;> simp only [sendNoteOf_steady, steady_ite, ite_self]

@[simp] theorem notesGone_steady (s : State) : (notesGone s).steady = s.steady :=
  foldl_steady (fun s i => noteGone_steady i s) _ s

@[simp] theorem noteBack_steady (slot : Nat) (s : State) : (noteBack slot s).steady = s.steady := by
  unfold noteBack
  split <;> simp only [State.setSub_steady, steady_ite, ite_self]

@[simp] theorem notesBack_steady (s : State) : (notesBack s).steady = s.steady :=
  foldl_steady (fun s i => noteBack_steady i s) _ s

/-! ### Blocks of the islands -/

@[simp] theorem setSwitches_steady (hs ls : Nat) (s : State) : (setSwitches hs ls s).steady = s.steady := by
  simp only [setSwitches, State.setReg_steady]

@[simp] theorem openPairs_steady (mask : Nat) (s : State) : (openPairs mask s).steady = s.steady := by
  simp only [openPairs, setSwitches_steady]

@[simp] theorem wardenGone_steady (s : State) : (wardenGone s).steady = s.steady := by
  simp only [wardenGone, setSwitches_steady, steady_upd]

@[simp] theorem startWindow_steady (s : State) : (startWindow s).steady = s.steady := by
  simp only [startWindow, steady_upd]

@[simp] theorem meteringStart_steady (s : State) : (meteringStart s).steady = s.steady := by
  unfold meteringStart
  extract_lets _ t
  have converters : t.steady = s.steady := rfl
  clear_value t
  exact (State.setReg_steady _ _ _).trans ((State.setReg_steady _ _ _).trans ((State.setReg_steady _ _ _).trans
    ((State.setReg_steady t _ _).trans converters)))

@[simp] theorem processStart_steady (s : State) : (processStart s).steady = s.steady := by
  simp only [processStart, startWindow_steady, steady_upd]

@[simp] theorem framesLost_steady (s : State) : (framesLost s).steady = s.steady := by
  simp only [framesLost, steady_upd]

@[simp] theorem demandAnew_steady (s : State) : (demandAnew s).steady = s.steady := by
  simp only [demandAnew, steady_upd]

@[simp] theorem boxForget_steady (s : State) : (boxForget s).steady = s.steady := by
  simp only [boxForget, steady_upd]

@[simp] theorem boxRestore_steady (s : State) : (boxRestore s).steady = s.steady := by
  simp only [boxRestore, State.setRegs_steady, boxForget_steady]

@[simp] theorem flyGone_steady (s : State) : (flyGone s).steady = s.steady := by
  simp only [flyGone, State.emit_steady, steady_upd]

@[simp] theorem setSes_steady (n : Nat) (s : State) : (setSes n s).steady = s.steady := by
  simp only [setSes, State.setReg_steady]

@[simp] theorem drive_steady (d : CpDrive) (duty : Nat) (s : State) : (drive d duty s).steady = s.steady := by
  simp only [drive, State.setReg_steady, State.setVeh_steady, steady_ite, ite_self]

@[simp] theorem driveHigh_steady (s : State) : (driveHigh s).steady = s.steady := by
  simp only [driveHigh, drive_steady]

@[simp] theorem driveLimit_steady (s : State) : (driveLimit s).steady = s.steady := by
  simp only [driveLimit, drive_steady, driveHigh_steady, steady_ite, ite_self]

@[simp] theorem moduleZero_steady (s : State) : (moduleZero s).steady = s.steady := by
  simp only [moduleZero, State.setVeh_steady]

@[simp] theorem startWeldCheck_steady (s : State) : (startWeldCheck s).steady = s.steady := by
  simp only [startWeldCheck, State.setVeh_steady, setSes_steady, steady_ite, ite_self]

@[simp] theorem cutSession_steady (cause : Nat) (s : State) : (cutSession cause s).steady = s.steady := by
  simp only [cutSession, State.setReg_steady, moduleZero_steady, openPairs_steady, setSes_steady, startWeldCheck_steady,
    steady_ite, ite_self]

@[simp] theorem windSession_steady (cause : Nat) (s : State) : (windSession cause s).steady = s.steady := by
  simp only [windSession, State.setReg_steady, State.setVeh_steady, cutSession_steady, driveHigh_steady, moduleZero_steady,
    setSes_steady, steady_ite, ite_self]

@[simp] theorem recomputeLimit_steady (s : State) : (recomputeLimit s).steady = s.steady := by
  simp only [recomputeLimit, State.setVeh_steady, driveHigh_steady, driveLimit_steady, steady_ite, ite_self]

@[simp] theorem e0Lost_steady (s : State) : (e0Lost s).steady = s.steady := by
  simp only [e0Lost, State.setVeh_steady, windSession_steady, steady_ite, ite_self]

@[simp] theorem vehicleForget_steady (s : State) : (vehicleForget s).steady = s.steady := by
  simp only [vehicleForget, State.setVeh_steady]

@[simp] theorem meterLost_steady (s : State) : (meterLost s).steady = s.steady := by
  simp only [meterLost, cutSession_steady, driveHigh_steady, steady_ite, ite_self]

@[simp] theorem setNeighs_steady (l : List Neigh) (s : State) : (setNeighs l s).steady = s.steady := by
  simp only [setNeighs, State.setReg_steady, State.setTir_steady]

@[simp] theorem updateRepeater_steady (s : State) : (updateRepeater s).steady = s.steady := by
  simp only [updateRepeater, State.setReg_steady]

@[simp] theorem sendControl_steady (kind final prio : Nat) (next : Option Nat) (body : Bytes) (s : State) :
    (sendControl kind final prio next body s).steady = s.steady := by
  simp only [sendControl, State.setTir_steady, tirSend_steady, steady_ite, ite_self]

@[simp] theorem sendHello_steady (s : State) : (sendHello s).steady = s.steady := by
  simp only [sendHello, State.setTir_steady, sendControl_steady, steady_ite, ite_self]

@[simp] theorem askSeat_steady (s : State) : (askSeat s).steady = s.steady := by
  unfold askSeat
  extract_lets best
  cases best with
  | none => rfl
  | some n => simp only [steady_ite, sendControl_steady, ite_self]

@[simp] theorem setShare_steady (w src : Nat) (s : State) : (setShare w src s).steady = s.steady := by
  simp only [setShare, State.setReg_steady, recomputeLimit_steady, relay_steady]

@[simp] theorem shareLapse_steady (s : State) : (shareLapse s).steady = s.steady := by
  simp only [shareLapse, State.setTir_steady, setShare_steady, steady_ite, ite_self]

@[simp] theorem takeSeat_steady (v : Nat) (s : State) : (takeSeat v s).steady = s.steady := by
  simp only [takeSeat, State.setReg_steady, shareLapse_steady, steady_ite, ite_self]

@[simp] theorem leadSeat_steady (s : State) : (leadSeat s).steady = s.steady := by
  unfold leadSeat
  split
  · rfl
  · split <;> simp only [State.setReg_steady, takeSeat_steady]

@[simp] theorem regainSeat_steady (s : State) : (regainSeat s).steady = s.steady := by
  simp only [regainSeat, State.setTir_steady, leadSeat_steady, takeSeat_steady, steady_ite, ite_self]

@[simp] theorem helloTimer_steady (s : State) : (helloTimer s).steady = s.steady := by
  simp only [helloTimer, askSeat_steady, sendHello_steady]

@[simp] theorem setLead_steady (b : Bool) (s : State) : (setLead b s).steady = s.steady := by
  simp only [setLead, State.setReg_steady, State.setTir_steady]

@[simp] theorem courierForget_steady (s : State) : (courierForget s).steady = s.steady := by
  simp only [courierForget, State.setTir_steady]

@[simp] theorem courierStart_steady (s : State) : (courierStart s).steady = s.steady := by
  simp only [courierStart, courierForget_steady, helloTimer_steady, regainSeat_steady, setNeighs_steady, updateRepeater_steady,
    steady_ite, ite_self]

@[simp] theorem e1Lost_steady (s : State) : (e1Lost s).steady = s.steady := by
  simp only [e1Lost, setLead_steady, steady_upd]

@[simp] theorem laneInto_steady (n v : Nat) (s : State) : (laneInto n v s).steady = s.steady := by
  simp only [laneInto, State.setReg_steady, State.setSl_steady]

@[simp] theorem laneReset_steady (n : Nat) (s : State) : (laneReset n s).steady = s.steady := by
  simp only [laneReset, laneInto_steady]

@[simp] theorem laneDown_steady (n rest : Nat) (s : State) : (laneDown n rest s).steady = s.steady := by
  simp only [laneDown, State.count_steady, laneInto_steady, steady_ite, ite_self]

@[simp] theorem laneLoses_steady (n : Nat) (s : State) : (laneLoses n s).steady = s.steady := by
  simp only [laneLoses, laneDown_steady, steady_ite, ite_self]

@[simp] theorem ptpStart_steady (s : State) : (ptpStart s).steady = s.steady := by
  simp only [ptpStart, State.setReg_steady, State.setSl_steady]

@[simp] theorem switchStart_steady (s : State) : (switchStart s).steady = s.steady := by
  unfold switchStart
  dsimp only
  split <;> simp only [State.setReg_steady, State.setSl_steady]

@[simp] theorem lanesStart_steady (s : State) : (lanesStart s).steady = s.steady :=
  foldl_steady (fun s n => laneReset_steady n s) _ s

@[simp] theorem cardResult_steady (res : Nat) (s : State) : (cardResult res s).steady = s.steady := by
  simp only [cardResult, State.setRdr_steady, State.setReg_steady]

@[simp] theorem samLost_steady (s : State) : (samLost s).steady = s.steady := by
  unfold samLost
  split <;> simp only [cardResult_steady]

@[simp] theorem markSlot_steady (k : Nat) (s : State) : (markSlot k s).steady = s.steady := by
  simp only [markSlot, State.setWord_steady]

@[simp] theorem updateCast_steady (s : State) : (updateCast s).steady = s.steady := by
  simp only [updateCast, State.setReg_steady]

@[simp] theorem setCast_steady (c w : Nat) (s : State) : (setCast c w s).steady = s.steady := by
  simp only [setCast, State.setReg_steady]

@[simp] theorem setStatus_steady (v : Nat) (s : State) : (setStatus v s).steady = s.steady := by
  simp only [setStatus, State.setReg_steady, steady_upd]

@[simp] theorem wngTo_steady (st result : Nat) (s : State) : (wngTo st result s).steady = s.steady := by
  simp only [wngTo, setStatus_steady]

@[simp] theorem rollback_steady (w : Writer) (s : State) : (rollback w s).2.steady = s.steady := by
  simp only [rollback, commit_steady, markSlot_steady, wngTo_steady, steady_ite, steady_ite_snd, ite_self]

@[simp] theorem markDamaged_steady (c : Nat) (s : State) : (markDamaged c s).steady = s.steady := by
  simp only [markDamaged, countJournalled_steady, record_steady, rollback_steady, setCast_steady, updateCast_steady, steady_ite,
    ite_self]

@[simp] theorem displayForget_steady (s : State) : (displayForget s).steady = s.steady := by
  simp only [displayForget, State.setDsp_steady]

@[simp] theorem serialStart_steady (s : State) : (serialStart s).steady = s.steady := by
  simp only [serialStart, State.setSer_steady, State.setVeh_steady]

/-! ### Islands -/

@[simp] theorem blockOn_steady (n : Nat) (s : State) : (blockOn n s).steady = s.steady := by
  simp only [blockOn, State.setReg_steady, boxRestore_steady, courierStart_steady, lanesStart_steady, mramStart_steady,
    ptpStart_steady, regainSeat_steady, serialStart_steady, switchStart_steady, steady_ite, steady_upd, ite_self]

@[simp] theorem domainStops_steady (d : Nat) (s : State) : (domainStops d s).steady = s.steady := by
  simp only [domainStops, laneLoses_steady, steady_ite, ite_self]

@[simp] theorem domainBlocks_steady (d : Nat) (s : State) : (domainBlocks d s).steady = s.steady := by
  unfold domainBlocks
  simp only [laneReset_steady, meteringStart_steady, processStart_steady, steady_ite, ite_self]

@[simp] theorem fabDeliver_steady (init tag status : Nat) (data : List Nat) (s : State) :
    (fabDeliver init tag status data s).steady = s.steady := by
  simp only [fabDeliver, State.count_steady, State.emit_steady, steady_ite, steady_upd, ite_self]

@[simp] theorem undelivered_steady (q : FabReq) (s : State) : (undelivered q s).steady = s.steady :=
  foldl_steady (fun s n => deliverNotice_steady n false s) _ s

@[simp] theorem abortReq_steady (q : FabReq) (s : State) : (abortReq q s).steady = s.steady := by
  simp only [abortReq, fabDeliver_steady, fabFault_steady, undelivered_steady]

@[simp] theorem abortPort_steady (island : Nat) (s : State) : (abortPort island s).steady = s.steady :=
  foldl_steady (fun s q => abortReq_steady q s) _ _

@[simp] theorem abortAll_steady (s : State) : (abortAll s).steady = s.steady :=
  foldl_steady (fun s n => abortPort_steady n s) _ s

@[simp] theorem restoreObjects_steady (n : Nat) (s : State) : (restoreObjects n s).steady = s.steady := by
  simp only [restoreObjects, State.setRegs_steady, steady_upd]

@[simp] theorem loseObjects_steady (n : Nat) (s : State) : (loseObjects n s).steady = s.steady := by
  simp only [loseObjects, steady_upd]

/-! ### Clocks -/

@[simp] theorem driveStops_steady (n : Nat) (s : State) : (driveStops n s).steady = s.steady := by
  simp only [driveStops, wardenGone_steady, steady_ite, ite_self]

@[simp] theorem requestSwitch_steady (n i : Nat) (s : State) : (requestSwitch n i s).steady = s.steady := by
  simp only [requestSwitch, State.setIsl_steady, driveStops_steady, steady_ite, ite_self]

@[simp] theorem controllerMove_steady (n : Nat) (s : State) : (controllerMove n s).steady = s.steady := by
  simp only [controllerMove, requestSwitch_steady, steady_ite, ite_self]

@[simp] theorem leaveSource_steady (code : Nat) (s : State) : (leaveSource code s).steady = s.steady :=
  foldl_steady (fun s n => by simp only [steady_ite, requestSwitch_steady, ite_self]) _ s

@[simp] theorem stopJudge_steady (j : Nat) (s : State) : (stopJudge j s).steady = s.steady := by
  simp only [stopJudge, steady_upd]

@[simp] theorem startJudge_steady (j : Nat) (s : State) : (startJudge j s).steady = s.steady := by
  simp only [startJudge, steady_upd]

@[simp] theorem setPll_steady (p : Nat) (b : Bool) (s : State) : (setPll p b s).steady = s.steady := by
  simp only [setPll, steady_upd]

@[simp] theorem enablePll_steady (p : Nat) (s : State) : (enablePll p s).steady = s.steady := by
  simp only [enablePll, setPll_steady, steady_ite, ite_self]

@[simp] theorem stopPll_steady (p : Nat) (s : State) : (stopPll p s).steady = s.steady := by
  simp only [stopPll, State.setSrc_steady, leaveSource_steady, setPll_steady, stopJudge_steady, steady_ite, steady_upd, ite_self]

@[simp] theorem retunePllA_steady (s : State) : (retunePllA s).steady = s.steady := by
  simp only [retunePllA, State.setSrc_steady, leaveSource_steady, startJudge_steady, steady_ite, steady_upd, ite_self]

/-! ### Power -/

@[simp] theorem releasePlls_steady (s : State) : (releasePlls s).steady = s.steady := by
  simp only [releasePlls, steady_upd]

@[simp] theorem updateTier_steady (s : State) : (updateTier s).steady = s.steady := by
  simp only [updateTier, State.setReg_steady, relay_steady, releasePlls_steady, steady_ite, ite_self]

@[simp] theorem configCheck_steady (s : State) : (configCheck s).steady = s.steady :=
  foldl_steady (fun s n => State.setChan_steady s n _) _ s

@[simp] theorem pllsUp_steady (d : Nat) (s : State) : (pllsUp d s).steady = s.steady := by
  simp only [pllsUp, enablePll_steady, steady_ite, ite_self]

@[simp] theorem sourcesDown_steady (d : Nat) (s : State) : (sourcesDown d s).steady = s.steady := by
  simp only [sourcesDown, State.setSrc_steady, leaveSource_steady, stopJudge_steady, stopPll_steady, steady_ite, ite_self]

end Sys2Proof.Machine
end

section
/-!
SUPPORT. Domains, tiers and the thermal governor (spec/04_power_and_start.md): what the switching of a domain changes beyond the
domain itself, and the steps of the Stage manager that O17 states.
-/

namespace Sys2Proof.Machine

open Sys2Proof

/-! ### Islands that stop and start -/

/-- The blocks of an island, I00's apart, stop without touching the domains. -/
theorem blockStops_steady {n : Nat} (hn : n ≠ 0) (s : State) : (blockStops n s).steady = s.steady := by
  cases card : s.rdr.judging <;>
    simp only [blockStops, if_neg hn, card, steady_ite, e0Lost_steady, e1Lost_steady, vehicleForget_steady, wardenGone_steady,
      meterLost_steady, demandAnew_steady, framesLost_steady, State.setNrg_steady, updateRepeater_steady, courierForget_steady,
      steady_upd, boxForget_steady, steady_updMram, samLost_steady, displayForget_steady, cardResult_steady, flyGone_steady,
      ite_self]

/-- What the fall of PRESENT of any island but I00 does leaves the domains and the governor's time (R41, R48). -/
theorem islandDown_steady {n : Nat} (hn : n ≠ 0) (s : State) : (islandDown n s).steady = s.steady := by
  simp only [islandDown, blockOff, notesGone_steady, blockStops_steady hn, clearFetch_steady, senderGone_steady, steady_ite,
    callboardReset_steady, abortAll_steady, receiverReset_steady, abortPort_steady, loseObjects_steady, ite_self]

theorem islandUp_steady (n : Nat) (s : State) : (islandUp n s).steady = s.steady := by
  simp only [islandUp, notesBack_steady, steady_ite, callboardReturns_steady, blockOn_steady, restoreObjects_steady, ite_self]

/-- The Cue server stops with I00; the restarts noted stay. -/
theorem islandDown_zero (s : State) :
    (islandDown 0 s).cue.running = false ∧ (islandDown 0 s).mram.restarts = s.mram.restarts := by
  have before (u : State) : (blockOff 0 u).cue.running = false ∧ (blockOff 0 u).mram.restarts = u.mram.restarts := ⟨rfl, rfl⟩
  unfold islandDown
  extract_lets u v
  have same : v.steady = s.steady := by
    simp only [v, u, steady_ite, receiverReset_steady, callboardReset_steady, abortAll_steady, abortPort_steady,
      loseObjects_steady, ite_self]
  clear_value v
  obtain ⟨stopped, noted⟩ := before (senderGone 0 v)
  exact ⟨(running_of_steady (notesGone_steady _)).trans stopped,
    ((restarts_of_steady (notesGone_steady _)).trans noted).trans (restarts_of_steady same)⟩

/-! ### Domains -/

theorem dom_setDom {s : State} {d : Nat} (x : DomState) (h : d < s.pwr.dom.length) : (s.setDom d x).dom d = x := by
  simp [State.dom, State.setDom, setAt, h]

theorem dom_setDom_ne (s : State) {d e : Nat} (x : DomState) (h : e ≠ d) : (s.setDom d x).dom e = s.dom e := by
  simp [State.dom, State.setDom, setAt, h.symm]

/-- A domain that is not off is one of the domains. -/
theorem lt_of_dom {s : State} {d : Nat} (h : s.dom d ≠ .off) : d < s.pwr.dom.length := by
  by_contra outside
  exact h (List.getD_eq_default _ _ (Nat.not_lt.mp outside))

theorem islandOfDom_ne_zero {d n : Nat} (hd : d ≠ 0) (h : islandOfDom d = some n) : n ≠ 0 := by
  rintro rfl
  have home : firstDom 0 = d := by simpa using List.find?_some h
  exact hd home.symm

theorem domainLoses_steady (d : Nat) (s : State) : (domainLoses d s).steady = s.steady := by
  simp only [domainLoses, steady_ite, steady_upd, bankCut_steady, callboardReset_steady, ite_self]

/-- A domain that goes down takes no other domain with it, PD00 apart (R97). -/
theorem dropDomain_steady {d : Nat} (hd : d ≠ 0) (into : DomState) (s : State) :
    (dropDomain d into s).steady = (s.setDom d into).steady := by
  unfold dropDomain
  extract_lets was u v
  have switched : u.steady = (s.setDom d into).steady := by
    simp only [u, setDom_steady, domainStops_steady]
  have lost : v.steady = (s.setDom d into).steady := by
    simp only [v, steady_ite, domainLoses_steady, switched, ite_self]
  clear_value u v
  split
  · split
    · next n island =>
      rw [islandDown_steady (islandOfDom_ne_zero hd island), State.setIsl_steady, lost]
    · exact lost
  · exact lost

theorem domainUp_steady (d : Nat) (s : State) : (domainUp d s).steady = (s.setDom d .on).steady := by
  unfold domainUp
  extract_lets u j v w
  have on : w.steady = (s.setDom d .on).steady := by
    simp only [w, v, u, steady_ite, callboardReturns_steady, steady_upd, ite_self]
  clear_value w
  split
  · rw [islandUp_steady, State.setIsl_steady, on]
  · exact on

/-- A domain that is on and that the Iron does not hold goes off with its sources (R97, R99). -/
theorem switchOff_steady {d : Nat} {s : State} (hd : d ≠ 0) (into : DomState) (on : s.dom d ≠ .off)
    (free : switchOffRefused d s = false) : (switchOff d into s).steady = (s.setDom d into).steady := by
  have down : domainOff d into s = dropDomain d into (if d = 36 ∧ s.dom 36 = .on then ownObjectEntry s else s) := by
    simp [domainOff, on, free]
  rw [switchOff, sourcesDown_steady, down, dropDomain_steady hd]
  simp only [setDom_steady, steady_ite, ownObjectEntry_steady, ite_self]

/-- Whatever becomes of a domain, the rest of the parts stays. -/
theorem switchOff_rest {d : Nat} (hd : d ≠ 0) (into : DomState) (s : State) : (switchOff d into s).steady.2 = s.steady.2 := by
  rw [switchOff, sourcesDown_steady]
  unfold domainOff
  split
  · rfl
  · rw [dropDomain_steady hd, setDom_steady, steady_ite, ownObjectEntry_steady, ite_self]

theorem loseDomain_rest {d : Nat} (hd : d ≠ 0) (s : State) : (loseDomain d s).steady.2 = s.steady.2 := by
  unfold loseDomain
  split
  · rfl
  · rw [sourcesDown_steady, dropDomain_steady hd, setDom_steady]

/-! ### The tier steps (R100, R101) -/

theorem tierStep_enables {s : State} (still : groupRuns s = false) (keep : groupToDrop s (wantedDomains s (aimTier s)) = none)
    (up : aimTier s ≠ tierK) (low : s.pwr.coreEn = false ∨ s.pwr.srdEn = false) : tierStep s = setEnables true true s := by
  simp [tierStep, still, keep, up, low]

theorem tierStep_group {s : State} {g : Nat} (still : groupRuns s = false)
    (keep : groupToDrop s (wantedDomains s (aimTier s)) = none) (up : aimTier s ≠ tierK) (core : s.pwr.coreEn = true)
    (srd : s.pwr.srdEn = true) (next : groupToStart s (wantedDomains s (aimTier s)) (aimTier s) = some g)
    (ready : groupReady s g = true) : tierStep s = updateTier (startGroup g (wantedDomains s (aimTier s)) s) := by
  simp [tierStep, still, keep, up, core, srd, next, ready]

/-- A request for a domain in the walk of `startGroup`. -/
def requestIn (want : List Nat) (s : State) (d : Nat) : State :=
  if want.contains d ∧ ¬ (s.dom d = .fault) then domainRequestOn d s else s

theorem requestIn_length (want : List Nat) (s : State) (e : Nat) : (requestIn want s e).pwr.dom.length = s.pwr.dom.length := by
  unfold requestIn domainRequestOn
  split_ifs
  · exact List.length_set
  · rfl
  · rfl

/-- A domain asked for stays so while the others of its group are asked. -/
theorem requestIn_rising {want : List Nat} {s : State} {d : Nat} (h : s.dom d = .rising) (e : Nat) :
    (requestIn want s e).dom d = .rising := by
  unfold requestIn domainRequestOn
  by_cases same : d = e
  · subst same
    simp [h]
  · split_ifs
    · rw [dom_setDom_ne s _ same, h]
    · exact h
    · exact h

theorem requestIn_self {want : List Nat} {s : State} {d : Nat} (wanted : want.contains d = true)
    (h : s.dom d = .off ∨ s.dom d = .retain) (hd : d < s.pwr.dom.length) : (requestIn want s d).dom d = .rising := by
  have asked : requestIn want s d = s.setDom d .rising := by
    have fit : ¬ s.dom d = .fault := by obtain h | h := h <;> simp [h]
    rw [requestIn, if_pos ⟨wanted, fit⟩, domainRequestOn, if_pos (by tauto)]
  rw [asked, dom_setDom _ hd]

theorem requestIn_other {want : List Nat} {s : State} {d e : Nat} (h : d ≠ e) : (requestIn want s e).dom d = s.dom d := by
  unfold requestIn domainRequestOn
  split_ifs
  · exact dom_setDom_ne s _ h
  · rfl
  · rfl

theorem foldl_requestIn_rising {want l : List Nat} {s : State} {d : Nat} (h : s.dom d = .rising) :
    (l.foldl (requestIn want) s).dom d = .rising := by
  induction l generalizing s with
  | nil => exact h
  | cons e t ih => exact ih (requestIn_rising h e)

/-- Each domain of the walk that is wanted begins to rise where it was off or retained (R96, R101). -/
theorem foldl_requestIn {want l : List Nat} {s : State} {d : Nat} (mem : d ∈ l) (wanted : want.contains d = true)
    (h : s.dom d = .off ∨ s.dom d = .retain) (hd : d < s.pwr.dom.length) : (l.foldl (requestIn want) s).dom d = .rising := by
  induction l generalizing s with
  | nil => cases mem
  | cons e t ih =>
    by_cases same : d = e
    · subst same
      exact foldl_requestIn_rising (l := t) (requestIn_self wanted h hd)
    · have inTail : d ∈ t := (List.mem_cons.mp mem).resolve_left same
      refine ih inTail ?_ ?_
      · rwa [requestIn_other same]
      · rwa [requestIn_length]

theorem groupDomains_lt {g d : Nat} (h : d ∈ groupDomains g) : d < 64 := by
  unfold groupDomains at h
  split_ifs at h <;> revert d <;> decide

theorem startGroup_rising {g d : Nat} {want : List Nat} {s : State} (mem : d ∈ groupDomains g) (wanted : want.contains d = true)
    (h : s.dom d = .off ∨ s.dom d = .retain) (len : s.pwr.dom.length = 64) : (startGroup g want s).dom d = .rising := by
  unfold startGroup
  extract_lets u v
  have same : v.steady = s.steady := by
    simp only [v, u, steady_ite, enablePll_steady, configCheck_steady, ite_self]
  clear_value v
  have doms : v.pwr.dom = s.pwr.dom := congrArg Prod.fst same
  refine foldl_requestIn mem wanted ?_ ?_
  · rwa [dom_of_steady same]
  · rw [doms, len]
    exact groupDomains_lt mem

/-! ### Domains that come up (R96, R98) -/

theorem domainComplete_steady {s : State} {d : Nat} (h : s.dom d = .rising) :
    (domainComplete d s).steady = (s.setDom d .on).steady := by
  unfold domainComplete
  rw [if_neg (not_not.mpr h)]
  extract_lets p u v w x
  have came : x.steady = (s.setDom d .on).steady := by
    have unshed : (u.setDom d .on).steady = (s.setDom d .on).steady := rfl
    simp only [x, w, v, pllsUp_steady, steady_ite, startJudge_steady, State.setSrc_steady, domainBlocks_steady, domainUp_steady, unshed,
      ite_self]
  clear_value x
  rw [updateTier_steady]
  split
  · rw [controllerMove_steady, came]
  · exact came

theorem powerGoodTimeout_steady {s : State} {d : Nat} (h : s.dom d = .rising) :
    (powerGoodTimeout d s).steady = (s.setDom d .fault).steady := by
  simp only [powerGoodTimeout, h, not_true, if_false, updateTier_steady, openRecord_steady]

/-! ### The thermal governor (R112, R113) -/

theorem shedDomains_ne_zero {level d : Nat} (h : d ∈ shedDomains level) : d ≠ 0 := by
  unfold shedDomains at h
  split_ifs at h <;> revert d <;> decide

theorem shedDomain_rest {d : Nat} (hd : d ≠ 0) (s : State) : (shedDomain d s).steady.2 = s.steady.2 := by
  unfold shedDomain
  split
  · exact switchOff_rest hd .off _
  · rfl

/-- A change of level sheds domains; the time below the threshold is not its own. -/
theorem changeLevel_rest (level : Nat) (s : State) : (changeLevel level s).steady.2 = s.steady.2 := by
  unfold changeLevel
  extract_lets u
  have recorded : u.steady = s.steady := by
    simp only [u, openRecord_steady, countJournalled_steady, State.setReg_steady]
  clear_value u
  rw [updateTier_steady, retunePllA_steady, ← recorded]
  exact foldl_keeps (fun t => t.steady.2) (fun d mem t => shedDomain_rest (shedDomains_ne_zero mem) t) u

theorem thermalDrop_thermBelow {s : State} (waits : s.pwr.thermBelow.isSome = true) (level : 0 < s.reg P.pwThermLevel) :
    (thermalDrop s).pwr.thermBelow = none := by
  rw [thermalDrop, if_pos ⟨waits, level⟩]
  exact congrArg Prod.fst (changeLevel_rest _ _)

theorem startTrim_keeps (s : State) : Keeps [] s (startTrim s) := by
  unfold startTrim
  split <;> exact ⟨fun _ _ => rfl, fun _ => rfl⟩

theorem thermLevelFor_congr {s t : State} (h : SameRegs [P.pwTj] s t) (tj : Int) : thermLevelFor t tj = thermLevelFor s tj := by
  have t1 : t.regI P.pwThermT1 = s.regI P.pwThermT1 := congrArg _ (h P.pwThermT1 (by decide))
  have t2 : t.regI P.pwThermT2 = s.regI P.pwThermT2 := congrArg _ (h P.pwThermT2 (by decide))
  have t3 : t.regI P.pwThermT3 = s.regI P.pwThermT3 := congrArg _ (h P.pwThermT3 (by decide))
  simp only [thermLevelFor, thermThreshold, t1, t2, t3]

/-- A signed value of 16 bits is read back as it was written (R11). -/
theorem toSigned_ofSigned {i : Int} (low : -32768 ≤ i) (high : i < 32768) : toSigned 16 (ofSigned 16 i % 2 ^ 16) = i := by
  unfold toSigned ofSigned
  split <;> omega

theorem regI_pwTj {s : State} {i : Int} (low : -32768 ≤ i) (high : i < 32768) : (s.setRegI P.pwTj i).regI P.pwTj = i := by
  have width : sizeOf' P.pwTj = 2 := by decide +kernel
  rw [State.regI, State.setRegI, State.reg_setReg, width]
  exact toSigned_ofSigned low high

/-- A sample that reaches no higher level is read into PW_TJ, and beyond the trim of RC16 nothing follows. -/
theorem thermalSample_reads {s : State} {t0 t1 : Int} (running : s.pwr.boot = .running) (low : -32768 ≤ max t0 t1)
    (high : max t0 t1 < 32768) (level : thermLevelFor s (max t0 t1) ≤ s.reg P.pwThermLevel) :
    (thermalSample t0 t1 s).regI P.pwTj = max t0 t1 ∧ Keeps [P.pwTj] s (thermalSample t0 t1 s) := by
  unfold thermalSample
  rw [if_neg (not_not.mpr running)]
  extract_lets tj u v now want w below
  have read : u.regI P.pwTj = tj ∧ Keeps [P.pwTj] s u :=
    ⟨regI_pwTj low high, fun p hp => State.reg_setReg_ne s _ (List.ne_of_not_mem_cons hp), fun _ => rfl⟩
  have trimmed : Keeps [] u v := by
    simp only [v]
    split
    · exact startTrim_keeps u
    · exact ⟨fun _ _ => rfl, fun _ => rfl⟩
  obtain ⟨value, regs, mem⟩ := read
  obtain ⟨regs', mem'⟩ := trimmed
  have keeps : SameRegs [P.pwTj] s v := fun p hp => (regs' p List.not_mem_nil).trans (regs p hp)
  have calm : w = v := by
    have same : now = s.reg P.pwThermLevel := keeps P.pwThermLevel (by decide)
    have reached : want = thermLevelFor s tj := thermLevelFor_congr keeps tj
    exact if_neg (by rw [same, reached]; exact Nat.not_lt.mpr level)
  rw [calm]
  exact ⟨(congrArg _ (regs' P.pwTj List.not_mem_nil)).trans value, keeps, fun a => (mem' a).trans (mem a)⟩

/-! ### A start of the main die (R103, R152) -/

theorem clocksRestart_steady (s : State) : (clocksRestart s).steady = s.steady := rfl

theorem restarts_of_rest {s t : State} (h : t.steady.2 = s.steady.2) : t.mram.restarts = s.mram.restarts :=
  congrArg (fun x => x.2.1) h

theorem mainDomainsOff_rest (s : State) : (mainDomainsOff s).steady.2 = s.steady.2 := by
  have vcore : ∀ d ∈ vcoreOnly, d ≠ 0 := by decide
  have mram : ∀ d ∈ [28, 29, 30, 31, 32, 33, 34, 35, 36], d ≠ 0 := by decide
  rw [mainDomainsOff, foldl_keeps (fun t => t.steady.2) fun d mem t => loseDomain_rest (mram d mem) t, loseVcoreDomains,
    foldl_keeps (fun t => t.steady.2) fun d mem t => loseDomain_rest (vcore d mem) t]

/-- The main die waits for its boot ROM with the cause given, its Cue server stopped; the restarts noted stay. -/
theorem mainDieStart_state (cause : Nat) (s : State) :
    (mainDieStart cause s).pwr.boot = .held ∧ (mainDieStart cause s).pwr.cause = cause ∧
      (mainDieStart cause s).cue.running = false ∧ (mainDieStart cause s).pwr.rstOut = false ∧
      (mainDieStart cause s).mram.restarts = s.mram.restarts := by
  obtain ⟨stopped, noted⟩ := islandDown_zero (clocksRestart (mainDomainsOff s))
  have kept := (restarts_of_steady (clocksRestart_steady (mainDomainsOff s))).trans (restarts_of_rest (mainDomainsOff_rest s))
  have restarts := noted.trans kept
  unfold mainDieStart
  dsimp only
  exact ⟨rfl, rfl, stopped, rfl, restarts⟩

/-- The state in which a fetch error restarts the main die: the restart is noted, and a third one marks its image damaged. -/
def fetchNoted (addr : Nat) (s : State) : State :=
  let a := addr / 16 * 16
  let n := restartsOf s a + 1
  let s := { s with mram := { s.mram with restarts := (a, n) :: s.mram.restarts.filter fun e => !(e.1 == a) } }
  match (if n = 3 then componentAt s a else none) with
  | some c => markDamaged c s
  | none => s

theorem fetchNoted_restarts (addr : Nat) (s : State) :
    (fetchNoted addr s).mram.restarts.head? = some (addr / 16 * 16, restartsOf s (addr / 16 * 16) + 1) := by
  unfold fetchNoted
  extract_lets a n _ u
  have noted : u.mram.restarts.head? = some (a, n) := rfl
  split
  · rw [restarts_of_steady (markDamaged_steady _ u), noted]
  · exact noted

theorem fetchError_I00 {init addr : Nat} {s : State} (running : s.pwr.boot = .running) (there : s.present (initIsland init) = true)
    (main : initIsland init = 0) : fetchError init addr s = mainDieStart 4 (journalWait (fetchNoted addr s)) := by
  have goes : ¬ (s.pwr.boot ≠ .running ∨ s.present (initIsland init) = false) := by simp [running, there]
  rw [fetchError, if_neg goes, restartIsland, if_pos main]
  rfl

/-! ### The obligation -/

theorem completes_of_eq {c : Instr} {s t : State} {Q : State → Prop} (run : exec c s = .next t) (h : Q t) : Completes c s Q :=
  ⟨t, run, h⟩

/-- Settles O17, each clause by the lemma of its operation. -/
theorem domainsAndTiers : Obligations.DomainsAndTiers := by
  refine ⟨?enables, ?group, ?on, ?complete, ?timeout, ?off, ?sample, ?drop, ?fetch⟩
  case enables =>
    intro s running still keep up low
    have run : execTierGroupStart s = .next (setEnables true true s) := by
      rw [execTierGroupStart, if_pos running, tierStep_enables still keep up low]
    exact completes_of_eq run ⟨rfl, rfl, fun _ _ => rfl, fun _ => rfl⟩
  case group =>
    intro s g running still keep up core srd start ready len
    have run : execTierGroupStart s = .next (updateTier (startGroup g (wantedDomains s (aimTier s)) s)) := by
      rw [execTierGroupStart, if_pos running, tierStep_group still keep up core srd start ready]
    refine completes_of_eq run fun d mem wanted h => ?_
    rw [dom_of_steady (updateTier_steady _)]
    exact startGroup_rising mem wanted h len
  case on =>
    intro s d running hd allowed off len
    have run : execDomainSwitchOn d s = .next (s.setDom d .rising) := by
      rw [execDomainSwitchOn, if_pos ⟨running, allowed⟩, domainRequestOn, if_pos (.inl off)]
    exact completes_of_eq run ⟨dom_setDom _ (len ▸ hd), fun _ _ => rfl, fun _ => rfl⟩
  case complete =>
    intro s d k _ rising
    exact completes_of_eq rfl ((dom_of_steady (domainComplete_steady rising) d).trans (dom_setDom _ (lt_of_dom (by simp [rising]))))
  case timeout =>
    intro s d k _ rising
    exact completes_of_eq rfl ((dom_of_steady (powerGoodTimeout_steady rising) d).trans (dom_setDom _ (lt_of_dom (by simp [rising]))))
  case off =>
    intro s d k _ running free low high on unretained
    have switched : ¬ (¬ (s.pwr.boot = .running) ∨ d ≤ 2 ∨ d = 52 ∨ d = 53 ∨ d = 54 ∨ 62 ≤ d) := by
      simp only [running, not_true, false_or]
      omega
    have down : (switchOff d .off s).dom d = .off :=
      (dom_of_steady (switchOff_steady (by omega) .off (by simp [on]) free) d).trans (dom_setDom _ (lt_of_dom (by simp [on])))
    have run : execDomainSwitchOff d s = .next (updateTier (switchOff d .off s)) := by
      rw [execDomainSwitchOff, if_neg switched, unretained, if_neg Bool.false_ne_true]
    exact completes_of_eq run ((dom_of_steady (updateTier_steady _) d).trans down)
  case sample =>
    intro s t0 t1 running low high level
    exact completes_of_eq rfl (thermalSample_reads running low high level)
  case drop =>
    intro s waits level
    exact completes_of_eq rfl (thermalDrop_thermBelow waits level)
  case fetch =>
    intro s init addr running there main
    obtain ⟨held, cause, stopped, reset, noted⟩ := mainDieStart_state 4 (journalWait (fetchNoted addr s))
    have waited := restarts_of_steady (ownObjectEntry_steady (fetchNoted addr s))
    have run : execFetchErrorRestart init addr s = .next (mainDieStart 4 (journalWait (fetchNoted addr s))) := by
      rw [execFetchErrorRestart, fetchError_I00 running there main]
    refine completes_of_eq run ⟨held, cause, stopped, reset, ?_⟩
    rw [noted, journalWait, waited, fetchNoted_restarts]

end Sys2Proof.Machine
end

section
/-!
SUPPORT. The fabric (spec/02_dies_islands_fabric.md R42 to R54): what an aborted request leaves unchanged, which request the hub
serves next, and what the SRAM answers to one word.
-/

namespace Sys2Proof.Machine

open Sys2Proof

/-! ### Completions (R43, R48) -/

/-- A fault on the fabric is noted in registers only (R59, R61). -/
theorem fabFault_keeps {β : Type} (g : State → β) (h : ∀ s p v, g (State.setReg s p v) = g s) (init route status addr : Nat)
    (s : State) : g (fabFault init route status addr s) = g s := by
  unfold fabFault
  extract_lets t
  have noted : g t = g s := h s _ _
  clear_value t
  split <;> exact (h t _ _).trans noted

theorem fabDeliver_present {init : Nat} {s : State} (there : s.present (initIsland init) = true) (tag status : Nat)
    (data : List Nat) :
    fabDeliver init tag status data s =
      { s with fab := { s.fab with delivered := ⟨init, tag, stampedPrio init, status, data⟩ :: s.fab.delivered } }.emit
        (.bus init status data) :=
  if_pos there

theorem fabDeliver_reqs (init tag status : Nat) (data : List Nat) (s : State) :
    (fabDeliver init tag status data s).fab.reqs = s.fab.reqs := by
  unfold fabDeliver
  split <;> rfl

theorem fabDeliver_byte (init tag status : Nat) (data : List Nat) (s : State) (a : Nat) :
    (fabDeliver init tag status data s).byte a = s.byte a := by
  unfold fabDeliver
  split <;> rfl

theorem fabDeliver_pwr (init tag status : Nat) (data : List Nat) (s : State) :
    (fabDeliver init tag status data s).pwr = s.pwr := by
  unfold fabDeliver
  split <;> rfl

/-- A response that was not delivered changes a channel at most (R53). -/
theorem deliverNotice_failed (n : Nat) (s : State) : ∃ c, deliverNotice n false s = { s with cbd := c } := by
  unfold deliverNotice
  dsimp only
  split
  · exact ⟨s.cbd, rfl⟩
  · exact ⟨_, rfl⟩

theorem undelivered_keeps {β : Type} (g : State → β) (h : ∀ s c, g { s with cbd := c } = g s) (q : FabReq) (s : State) :
    g (undelivered q s) = g s := by
  refine foldl_keeps g (fun n _ s => ?_) s
  obtain ⟨c, eq⟩ := deliverNotice_failed n s
  rw [eq, h]

theorem abortReq_reqs (q : FabReq) (s : State) : (abortReq q s).fab.reqs = s.fab.reqs := by
  rw [abortReq, undelivered_keeps (fun s => s.fab.reqs) (fun _ _ => rfl), fabDeliver_reqs,
    fabFault_keeps (fun s => s.fab.reqs) fun _ _ _ => rfl]

theorem abortReq_sameMem (q : FabReq) (s : State) : SameMem s (abortReq q s) := by
  intro a
  rw [abortReq, undelivered_keeps (fun s => s.byte a) (fun _ _ => rfl), fabDeliver_byte,
    fabFault_keeps (fun s => s.byte a) fun _ _ _ => rfl]

theorem abortReq_pwr (q : FabReq) (s : State) : (abortReq q s).pwr = s.pwr := by
  rw [abortReq, undelivered_keeps State.pwr (fun _ _ => rfl), fabDeliver_pwr,
    fabFault_keeps State.pwr fun _ _ _ => rfl]

/-- An initiator whose island is present receives ABORTED (R46, R48). -/
theorem abortReq_delivered {q : FabReq} {s : State} (there : s.present (initIsland q.init) = true) :
    (abortReq q s).fab.delivered = ⟨q.init, q.tag, stampedPrio q.init, stAborted, []⟩ :: s.fab.delivered := by
  have still : (fabFault q.init q.route stAborted q.addr s).present (initIsland q.init) = true :=
    (fabFault_keeps (fun s => s.present (initIsland q.init)) (fun _ _ _ => rfl) ..).trans there
  rw [abortReq, undelivered_keeps (fun s => s.fab.delivered) (fun _ _ => rfl), fabDeliver_present still, State.emit_fab,
    fabFault_keeps State.fab fun _ _ _ => rfl]

theorem forcedStart_none {s : State} (h : s.pwr.forcedStart = false) : forcedStart s = s := by
  rw [forcedStart, if_neg (by simp [h])]

/-- The fall of PRESENT leaves no request to the port, and memory as it was. -/
theorem abortPort_state (island : Nat) (s : State) :
    (abortPort island s).fab.reqs = s.fab.reqs.filter (fun q => !(q.route == island)) ∧ SameMem s (abortPort island s) := by
  constructor
  · exact foldl_keeps (fun s => s.fab.reqs) (fun q _ s => abortReq_reqs q s) _
  · intro a
    exact foldl_keeps (fun s => s.byte a) (fun q _ s => abortReq_sameMem q s a) _

/-! ### The request that the hub serves next (R44, R52) -/

/-- The better of two waiting requests, as `nextAt` goes through them. -/
def betterOf (mono last : Nat) (best x : FabReq) : FabReq := if servedBefore mono last x best then x else best

theorem betterOf_eq (mono last : Nat) (best x : FabReq) : betterOf mono last best x = x ∨ betterOf mono last best x = best := by
  unfold betterOf
  split
  · exact .inl rfl
  · exact .inr rfl

theorem rank_le_betterOf (mono last : Nat) (best x : FabReq) :
    best.rank mono ≤ (betterOf mono last best x).rank mono ∧ x.rank mono ≤ (betterOf mono last best x).rank mono := by
  unfold betterOf
  split <;> rename_i h <;> simp [servedBefore] at h <;> omega

theorem foldl_betterOf_mem (mono last : Nat) (best : FabReq) (l : List FabReq) :
    l.foldl (betterOf mono last) best ∈ best :: l := by
  induction l generalizing best with
  | nil => exact List.mem_cons_self
  | cons x t ih =>
    have rest := ih (betterOf mono last best x)
    obtain eq | eq := betterOf_eq mono last best x <;> rw [List.foldl_cons] <;> rw [eq] at rest ⊢
    · exact List.mem_cons_of_mem _ rest
    · obtain same | later := List.mem_cons.mp rest
      · exact List.mem_cons.mpr (.inl same)
      · exact List.mem_cons_of_mem _ (List.mem_cons_of_mem _ later)

theorem rank_le_foldl_betterOf (mono last : Nat) (best : FabReq) (l : List FabReq) :
    ∀ x ∈ best :: l, x.rank mono ≤ (l.foldl (betterOf mono last) best).rank mono := by
  induction l generalizing best with
  | nil => exact fun x hx => by rw [List.mem_singleton.mp hx]; rfl
  | cons y t ih =>
    obtain ⟨old, new⟩ := rank_le_betterOf mono last best y
    obtain ⟨first, later⟩ := List.forall_mem_cons.mp (ih (betterOf mono last best y))
    exact List.forall_mem_cons.mpr ⟨old.trans first, List.forall_mem_cons.mpr ⟨new.trans first, later⟩⟩

theorem nextAt_cons {s : State} {route : Nat} {q : FabReq} {l : List FabReq} (h : waitingAt s route = q :: l) :
    ∃ last, nextAt s route = some (l.foldl (betterOf s.mono last) q) :=
  ⟨((s.fab.last.find? fun e => e.1 == route).map (·.2)).getD 0x1F, by unfold nextAt; simp only [h]; rfl⟩

theorem nextAt_nil {s : State} {route : Nat} (h : waitingAt s route = []) : nextAt s route = none := by
  unfold nextAt
  simp only [h]

theorem nextAt_mem {s : State} {route : Nat} {q : FabReq} (h : nextAt s route = some q) : q ∈ waitingAt s route := by
  cases w : waitingAt s route with
  | nil => rw [nextAt_nil w] at h; cases h
  | cons x l =>
    obtain ⟨last, eq⟩ := nextAt_cons w
    obtain rfl := Option.some.inj (eq.symm.trans h)
    exact foldl_betterOf_mem _ last x l

/-- The hub serves no request before one of a higher level (R44). -/
theorem rank_le_nextAt {s : State} {route : Nat} {q x : FabReq} (h : nextAt s route = some q) (hx : x ∈ waitingAt s route) :
    x.rank s.mono ≤ q.rank s.mono := by
  cases w : waitingAt s route with
  | nil => rw [w] at hx; cases hx
  | cons y l =>
    obtain ⟨last, eq⟩ := nextAt_cons w
    obtain rfl := Option.some.inj (eq.symm.trans h)
    exact rank_le_foldl_betterOf _ last y l x (w ▸ hx)

theorem mem_waitingAt {s : State} {route : Nat} {q : FabReq} (h : q ∈ waitingAt s route) :
    q ∈ s.fab.reqs ∧ q.route = route ∧ q.passed = false := by
  simp only [waitingAt, List.mem_filter, Bool.and_eq_true, beq_iff_eq, Bool.not_eq_true'] at h
  obtain ⟨⟨listed, port, waits⟩, -⟩ := h
  exact ⟨listed, port, waits⟩

theorem waitingAt_eq_nil {s : State} {route : Nat} (h : ∀ x ∈ s.fab.reqs, x.route = route → x.passed = true) :
    waitingAt s route = [] := by
  refine List.eq_nil_iff_forall_not_mem.mpr fun x hx => ?_
  obtain ⟨listed, port, waits⟩ := mem_waitingAt hx
  exact Bool.false_ne_true (waits.symm.trans (h x listed port))

theorem waitingAt_listReq {s : State} {q : FabReq} (waits : q.passed = false)
    (h : ∀ x ∈ s.fab.reqs, x.route = q.route → x.passed = true) : waitingAt (listReq q s) q.route = [q] := by
  have others : (s.fab.reqs.filter fun x => x.route == q.route && !x.passed) = [] :=
    List.filter_eq_nil_iff.mpr fun x hx => by simpa using h x hx
  have waiting : ((listReq q s).fab.reqs.filter fun x => x.route == q.route && !x.passed) = [q] := by
    simp [listReq, List.filter_append, others, waits]
  simp [waitingAt, waiting]

/-- A port at which nothing waits serves nothing. -/
theorem servePort_idle {route : Nat} {s : State} (h : ∀ x ∈ s.fab.reqs, x.route = route → x.passed = true) (fuel : Nat) :
    servePort route fuel s = s := by
  cases fuel with
  | zero => rfl
  | succ k => simp [servePort, nextAt_nil (waitingAt_eq_nil h)]

/-- A request offered to a port at which no other waits is taken at once, if the target's clock runs (R41, R46). -/
theorem drainPort_listReq {s : State} {q : FabReq} (waits : q.passed = false) (runs : stuck s q.route = false)
    (h : ∀ x ∈ s.fab.reqs, x.route = q.route → x.passed = true) :
    drainPort q.route (listReq q s) = servePort q.route s.fab.reqs.length (takeReq q (listReq q s)) := by
  have still : stuck (listReq q s) q.route = false := runs
  obtain ⟨_, next⟩ := nextAt_cons (waitingAt_listReq waits h)
  have len : (listReq q s).fab.reqs.length = s.fab.reqs.length + 1 := List.length_append
  rw [drainPort, len, servePort, still, if_neg Bool.false_ne_true, next]
  rfl

theorem offer_eq {s : State} {q : FabReq} (known : initiators.contains q.init = true) (there : s.present (initIsland q.init) = true)
    (hub : s.present 7 = true) (target : s.present q.route = true) : offer q s = drainPort q.route (listReq q s) := by
  simp [offer, reaches, there, hub, target, -List.contains_eq_mem, known]

/-! ### Lists of requests -/

theorem replaceFirst_append {α : Type} {p : α → Bool} {l : List α} (h : ∀ a ∈ l, p a = false) (x : α) (r : List α) :
    replaceFirst p x (l ++ r) = l ++ replaceFirst p x r := by
  induction l with
  | nil => rfl
  | cons a t ih =>
    obtain ⟨first, rest⟩ := List.forall_mem_cons.mp h
    simp [replaceFirst, first, ih rest]

theorem mem_replaceFirst {α : Type} {p : α → Bool} {x y : α} {l : List α} (h : y ∈ replaceFirst p x l) : y = x ∨ y ∈ l := by
  induction l with
  | nil => cases h
  | cons a t ih =>
    unfold replaceFirst at h
    split at h <;> obtain rfl | later := List.mem_cons.mp h
    · exact .inl rfl
    · exact .inr (List.mem_cons_of_mem _ later)
    · exact .inr List.mem_cons_self
    · exact (ih later).imp_right (List.mem_cons_of_mem _)

/-! ### The SRAM (R50, R51) -/

theorem regionOf_sram {a : Nat} (low : 0x01000000 ≤ a) (high : a < 0x01800000) :
    regionOf a = .sram ((a - 0x01000000) / 0x100000) := by
  rw [regionOf, if_neg (by omega), if_pos ⟨low, high⟩]

/-- The word of an address lies in the address's bank. -/
theorem regionOf_sram_word {a : Nat} (low : 0x01000000 ≤ a) (high : a < 0x01800000) :
    regionOf (a / 16 * 16) = .sram ((a - 0x01000000) / 0x100000) := by
  have bank : (a / 16 * 16 - 0x01000000) / 0x100000 = (a - 0x01000000) / 0x100000 := by omega
  rw [regionOf_sram (by omega) (by omega), bank]

theorem noticeChannel_sram {a : Nat} (high : a < 0x01800000) : noticeChannel a = none := by
  have below : ¬ 0x10071000 ≤ a := by omega
  unfold noticeChannel
  extract_lets o
  exact if_neg fun h => below h.1

section
variable {s : State} {init addr : Nat} (core : coreOrDma init = true) (low : 0x01000000 ≤ addr) (high : addr < 0x01800000)
  (power : s.domOn (20 + (addr - 0x01000000) / 0x100000) = true)
include core low high power

theorem readFlit_sram (level byteEn : Nat) : readFlit init level addr byteEn s = (stOk, s.word (addr / 16 * 16), s) := by
  simp [readFlit, regionOf_sram_word low high, mayRead, core, partPowered, power]

theorem writeFlit_sram (level byteEn beats data : Nat) :
    writeFlit init level addr byteEn beats data s =
      (stOk, s.setWord (addr / 16 * 16) (mergeBytes (s.word (addr / 16 * 16)) data byteEn)) := by
  simp [writeFlit, regionOf_sram_word low high, mayWrite, core, partPowered, power]

end

theorem toBytes_eq_map (k n : Nat) : toBytes k n = (List.range k).map fun i => n / 256 ^ i % 256 := by
  induction k generalizing n with
  | zero => rfl
  | succ k ih =>
    rw [toBytes, ih, List.range_succ_eq_map]
    simp [pow_succ', Nat.div_div_eq_div_mul]

/-- All bytes enabled leave nothing of the old word. -/
theorem mergeBytes_all (old new : Nat) : mergeBytes old new 0xFFFF = new % 2 ^ 128 := by
  have all : ∀ i ∈ List.range 16, bitOf 0xFFFF i = true := by decide
  have bytes : ((List.range 16).map fun i => if bitOf 0xFFFF i then new / 256 ^ i % 256 else old / 256 ^ i % 256)
      = toBytes 16 new := by
    rw [toBytes_eq_map]
    exact List.map_congr_left fun i hi => if_pos (all i hi)
  rw [mergeBytes, bytes, ofBytes_toBytes]
  norm_num

/-! ### One word read and written (R42, R50) -/

/-- A core's request for one whole word. -/
def wordReq (s : State) (init addr tag : Nat) (write : Bool) (data : List Nat) : FabReq :=
  { init := init, tag := tag, prio := stampedPrio init, since := s.mono, addr := addr, beats := 1, byteEn := 0xFFFF
    write := write, data := data, route := 13, passed := false, resp := none }

theorem formed_word (addr : Nat) : formed addr 1 0xFFFF = true := by
  simp [formed]

/-- What the target's answer leaves of the request: it stays listed until its response returns. -/
def answeredReq (q : FabReq) (answer : Nat × List Nat) : FabReq := { q with passed := true, resp := some answer }

/-- The hub notes the initiator that it served last at a port (R44). -/
def noteServed (q : FabReq) (s : State) : State :=
  { s with fab := { s.fab with last := (q.route, q.init) :: s.fab.last.filter fun e => !(e.1 == q.route) } }

@[simp] theorem noteServed_mem (q : FabReq) (s : State) : (noteServed q s).mem = s.mem := rfl

/-- Taking a request answers it and lists the answer. -/
theorem takeReq_eq {q : FabReq} {s t : State} {st : Nat} {d : List Nat}
    (h : serve (leastLevel q.write) q (noteServed q s) = (st, d, t)) :
    takeReq q s = { t with fab := { t.fab with
      reqs := replaceFirst (fun x => x.named q.init q.tag && !x.passed) (answeredReq q (st, d)) t.fab.reqs } } := by
  have same : serve (leastLevel q.write) q
      { s with fab := { s.fab with last := (q.route, q.init) :: s.fab.last.filter fun e => !(e.1 == q.route) } } = (st, d, t) := h
  unfold takeReq
  simp only [same]
  rfl

section
variable {s : State} {q : FabReq} (core : coreOrDma q.init = true) (low : 0x01000000 ≤ q.addr) (high : q.addr < 0x01800000)
  (power : s.domOn (20 + (q.addr - 0x01000000) / 0x100000) = true) (one : q.beats = 1) (all : q.byteEn = 0xFFFF)
include core low high power one all

theorem serve_sram_read (level : Nat) (reads : q.write = false) :
    serve level q s = (stOk, [s.word (q.addr / 16 * 16)], s) := by
  simp [serve, regionOf_sram low high, reads, answerRead, one, all, formed_word, readFlits, readFlit_sram core low high power]

theorem serve_sram_write (level w : Nat) (writes : q.write = true) (data : q.data = [w]) :
    serve level q s = (stOk, [], s.setWord (q.addr / 16 * 16) (w % 2 ^ 128)) := by
  simp [serve, regionOf_sram low high, writes, answerWrite, noticeChannel_sram high, one, all, formed_word, data, writeFlits,
    writeFlit_sram core low high power, mergeBytes_all]

end

@[simp] theorem State.setWord_mem (s : State) (x w : Nat) : (s.setWord x w).mem = Memory.writeBytes s.mem x (toBytes 16 w) :=
  s.setBytes_mem x (toBytes 16 w)

/-- A word stored and nothing else in memory and registers. -/
def WroteWord (a w : Nat) (s t : State) : Prop := t.word a = w ∧ StoresOnly a 16 s t ∧ SameRegs [] s t

theorem wroteWord_of_mem {s t : State} {a w : Nat} (canonical : Memory.wf s.mem = true)
    (mem : t.mem = Memory.writeBytes s.mem a (toBytes 16 (w % 2 ^ 128))) (regs : t.regs = s.regs) : WroteWord a (w % 2 ^ 128) s t := by
  have same : t.mem = (s.setWord a (w % 2 ^ 128)).mem := mem.trans (s.setWord_mem _ _).symm
  have word : t.word a = (s.setWord a (w % 2 ^ 128)).word a := congrArg (fun m => ofBytes (Memory.readBytes m a 16)) same
  have bytes : ∀ b, t.byte b = (s.setWord a (w % 2 ^ 128)).byte b := fun b => congrArg (fun m => Memory.read m b) same
  refine ⟨?_, fun b hb => (bytes b).trans ?_, fun p _ => ?_⟩
  · rw [word, State.word_setWord canonical, Nat.mod_mod]
  · exact s.byte_setBytes_out (by rwa [toBytes_length])
  · rw [State.reg, regs]; rfl

theorem WroteWord.trans {a w : Nat} {s t u : State} (first : WroteWord a w s t) (next : WroteWord a w t u) : WroteWord a w s u := by
  obtain ⟨-, bytes, regs⟩ := first
  obtain ⟨word, bytes', regs'⟩ := next
  exact ⟨word, fun b hb => (bytes' b hb).trans (bytes b hb), fun p hp => (regs' p hp).trans (regs p hp)⟩

section
variable {q : FabReq} {w : Nat} (core : coreOrDma q.init = true) (low : 0x01000000 ≤ q.addr) (high : q.addr < 0x01800000)
  (one : q.beats = 1) (all : q.byteEn = 0xFFFF) (writes : q.write = true) (data : q.data = [w])
include core low high one all writes data

/-- A whole word's write taken stores the word and lists no new request that waits. -/
theorem takeReq_sram_write {s : State} (power : s.domOn (20 + (q.addr - 0x01000000) / 0x100000) = true)
    (canonical : Memory.wf s.mem = true) :
    WroteWord (q.addr / 16 * 16) (w % 2 ^ 128) s (takeReq q s) ∧ Memory.wf (takeReq q s).mem = true ∧
      (takeReq q s).pwr = s.pwr ∧ ∀ x ∈ (takeReq q s).fab.reqs, x.passed = true ∨ x ∈ s.fab.reqs := by
  have taken := takeReq_eq (serve_sram_write (s := noteServed q s) core low high power one all _ w writes data)
  generalize stored : (noteServed q s).setWord (q.addr / 16 * 16) (w % 2 ^ 128) = t at taken
  have mem : (takeReq q s).mem = Memory.writeBytes s.mem (q.addr / 16 * 16) (toBytes 16 (w % 2 ^ 128)) := by
    rw [taken, ← noteServed_mem q s, ← State.setWord_mem, stored]
  refine ⟨wroteWord_of_mem canonical mem ?_, ?_, ?_, fun x hx => ?_⟩
  · simp [taken, ← stored, noteServed]
  · rw [mem]
    exact Memory.writeBytes_wf canonical
  · simp [taken, ← stored, noteServed]
  · rw [taken, ← stored] at hx
    obtain rfl | old := mem_replaceFirst hx
    · exact .inl rfl
    · exact .inr old

/-- The same whole write served any number of times stores its word or nothing. -/
theorem servePort_sram_write (fuel : Nat) {s : State} (power : s.domOn (20 + (q.addr - 0x01000000) / 0x100000) = true)
    (canonical : Memory.wf s.mem = true) (only : ∀ x ∈ s.fab.reqs, x.route = 13 → x.passed = true ∨ x = q) :
    servePort 13 fuel s = s ∨ WroteWord (q.addr / 16 * 16) (w % 2 ^ 128) s (servePort 13 fuel s) := by
  induction fuel generalizing s with
  | zero => exact .inl rfl
  | succ k ih =>
    unfold servePort
    split
    · exact .inl rfl
    · split
      · exact .inl rfl
      · next y next =>
        obtain ⟨listed, port, waits⟩ := mem_waitingAt (nextAt_mem next)
        obtain rfl : y = q := (only y listed port).resolve_left (by simp [waits])
        obtain ⟨wrote, canonical', pwr, reqs⟩ := takeReq_sram_write core low high one all writes data power canonical
        have power' : (takeReq y s).domOn (20 + (y.addr - 0x01000000) / 0x100000) = true := by
          rwa [State.domOn, State.dom, pwr]
        have only' : ∀ x ∈ (takeReq y s).fab.reqs, x.route = 13 → x.passed = true ∨ x = y :=
          fun x hx at13 => (reqs x hx).elim .inl fun old => only x old at13
        obtain same | again := ih power' canonical' only'
        · exact .inr (same.symm ▸ wrote)
        · exact .inr (wrote.trans again)

end

theorem initiators_of_coreOrDma {init : Nat} (core : coreOrDma init = true) : initiators.contains init = true :=
  (Bool.and_eq_true_iff.mp core).1

theorem not_named_of_request_none {s : State} {init tag : Nat} (fresh : s.request init tag = none) :
    ∀ x ∈ s.fab.reqs, (x.named init tag && !x.passed) = false := by
  intro x hx
  have other := List.find?_eq_none.mp fresh x hx
  simp only [Bool.not_eq_true] at other
  rw [other, Bool.false_and]

section
variable {s : State} {init addr tag : Nat} (core : coreOrDma init = true) (there : s.present (initIsland init) = true)
  (hub : s.present 7 = true) (sram : s.present 13 = true) (hubRuns : s.clockStopped 7 = false)
  (sramRuns : s.clockStopped 13 = false) (alone : ∀ q ∈ s.fab.reqs, q.route = 13 → q.passed = true)
  (low : 0x01000000 ≤ addr) (high : addr < 0x01800000) (power : s.domOn (20 + (addr - 0x01000000) / 0x100000) = true)
include core there hub sram hubRuns sramRuns alone

/-- A core's word request to the SRAM is taken at once (R46). -/
theorem offer_wordReq (write : Bool) (data : List Nat) :
    offer (wordReq s init addr tag write data) s
      = servePort 13 s.fab.reqs.length
          (takeReq (wordReq s init addr tag write data) (listReq (wordReq s init addr tag write data) s)) := by
  have runs : stuck s 13 = false := by simp [stuck, hubRuns, sramRuns]
  exact (offer_eq (q := wordReq s init addr tag write data) (initiators_of_coreOrDma core) there hub sram).trans
    (drainPort_listReq (q := wordReq s init addr tag write data) rfl runs alone)

include low high power

theorem offer_read (fresh : s.request init tag = none) :
    (offer (wordReq s init addr tag false []) s).fab.reqs
        = s.fab.reqs ++ [answeredReq (wordReq s init addr tag false []) (stOk, [s.word (addr / 16 * 16)])] ∧
      Keeps [] s (offer (wordReq s init addr tag false []) s) := by
  set q := wordReq s init addr tag false [] with hq
  have served := serve_sram_read (s := noteServed q (listReq q s)) (q := q) core low high power rfl rfl (leastLevel q.write) rfl
  have listed : replaceFirst (fun x => x.named q.init q.tag && !x.passed) (answeredReq q (stOk, [s.word (addr / 16 * 16)]))
      (s.fab.reqs ++ [q]) = s.fab.reqs ++ [answeredReq q (stOk, [s.word (addr / 16 * 16)])] := by
    have others : ∀ x ∈ s.fab.reqs, (x.named q.init q.tag && !x.passed) = false := not_named_of_request_none fresh
    rw [replaceFirst_append others]
    simp [replaceFirst, hq, wordReq, FabReq.named]
  have taken : (takeReq q (listReq q s)).fab.reqs = s.fab.reqs ++ [answeredReq q (stOk, [s.word (addr / 16 * 16)])] := by
    rw [takeReq_eq served]
    exact listed
  have idle : ∀ x ∈ (takeReq q (listReq q s)).fab.reqs, x.route = 13 → x.passed = true := by
    rw [taken]
    intro x hx port
    obtain old | new := List.mem_append.mp hx
    · exact alone x old port
    · rw [List.mem_singleton.mp new]; rfl
  rw [offer_wordReq core there hub sram hubRuns sramRuns alone, servePort_idle idle]
  refine ⟨taken, ?_⟩
  rw [takeReq_eq served]
  exact ⟨fun _ _ => rfl, fun _ => rfl⟩

theorem offer_write {w : Nat} (canonical : Memory.wf s.mem = true) :
    WroteWord (addr / 16 * 16) (w % 2 ^ 128) s (offer (wordReq s init addr tag true [w]) s) := by
  obtain ⟨wrote, canonical', pwr, reqs⟩ := takeReq_sram_write (q := wordReq s init addr tag true [w])
    (s := listReq (wordReq s init addr tag true [w]) s) core low high rfl rfl rfl rfl power canonical
  rw [offer_wordReq core there hub sram hubRuns sramRuns alone]
  set q := wordReq s init addr tag true [w]
  have power' : (takeReq q (listReq q s)).domOn (20 + (addr - 0x01000000) / 0x100000) = true := by
    rw [State.domOn, State.dom, pwr]
    exact power
  have only : ∀ x ∈ (takeReq q (listReq q s)).fab.reqs, x.route = 13 → x.passed = true ∨ x = q := by
    intro x hx port
    obtain passed | old := reqs x hx
    · exact .inl passed
    · exact (List.mem_append.mp old).imp (fun h => alone x h port) List.mem_singleton.mp
  obtain same | again := servePort_sram_write (q := q) core low high rfl rfl rfl rfl s.fab.reqs.length power' canonical' only
  · exact same.symm ▸ wrote
  · exact wrote.trans again

end

/-! ### Responses that return (R46, R52) -/

theorem drainPort_idle {route : Nat} {s : State} (h : ∀ x ∈ s.fab.reqs, x.route = route → x.passed = true) :
    drainPort route s = s :=
  servePort_idle h _

/-- The register windows lie above the memories (R50). -/
theorem regionOf_below_windows {a : Nat} (low : a < 0x10000000) (n off : Nat) : regionOf a ≠ .window n off := by
  have below : ¬ (0x10000000 ≤ a ∧ a < 0x10180000) := fun h => absurd h.1 (Nat.not_le.mpr low)
  unfold regionOf
  rw [if_neg below]
  split_ifs <;> exact Region.noConfusion

/-- A delivered read of one word outside the register windows has no side effect (R53). -/
theorem delivered_memory {q : FabReq} (low : q.addr < 0x10000000) (one : q.beats = 1) (s : State) : delivered q s = s := by
  have flits : q.flits = [q.addr / 16 * 16] := by simp [FabReq.flits, one, List.range_succ]
  unfold delivered
  split
  · rfl
  · rw [flits, List.foldl_cons, List.foldl_nil]
    split
    · next n off window => exact absurd window (regionOf_below_windows (by omega) n off)
    · rfl

/-- An answer of OK to one word returns to its initiator (R43, R46). -/
theorem returnReq_answered {q : FabReq} {s : State} (there : s.present (initIsland q.init) = true) (low : q.addr < 0x10000000)
    (one : q.beats = 1) (data : List Nat) :
    returnReq q stOk data s =
      { s with fab := { s.fab with delivered := ⟨q.init, q.tag, stampedPrio q.init, stOk, data⟩ :: s.fab.delivered } }.emit
        (.bus q.init stOk data) := by
  simp only [returnReq, if_true, there, delivered_memory low one, fabDeliver_present there]

theorem offerEvent_present {s : State} {island : Nat} (there : s.present island = true) (number : Nat) :
    s.offerEvent island number =
      { s with fab := { s.fab with events := (island, number) :: s.fab.events } }.emit (.event island number) :=
  if_pos there

/-! ### The obligation -/

/-- Settles O10, each clause by the lemma of its operation. -/
theorem fabricRequests : Obligations.FabricRequests := by
  refine ⟨?read, ?write, ?unsent, ?unanswered, ?fall, ?back, ?event, fun s route q x => rank_le_nextAt⟩
  case read =>
    intro s init addr tag core there hub sram hubRuns sramRuns alone fresh low high power
    have run : exec (.fabricReadRequest init addr tag 1 0xFFFF false) s
        = .next (offer (wordReq s init addr tag false []) s) := by
      have port : (regionOf addr).island = 13 := by rw [regionOf_sram low high]; rfl
      simp only [wordReq, ← port]
      rfl
    exact completes_of_eq run (offer_read core there hub sram hubRuns sramRuns alone low high power fresh)
  case write =>
    intro s init addr tag w core there hub sram hubRuns sramRuns alone low high power canonical fits
    have run : exec (.fabricWriteRequest init addr tag 0xFFFF [w]) s = .next (offer (wordReq s init addr tag true [w]) s) := by
      have port : (regionOf addr).island = 13 := by rw [regionOf_sram low high]; rfl
      simp only [wordReq, ← port]
      rfl
    have wrote := offer_write (tag := tag) (w := w) core there hub sram hubRuns sramRuns alone low high power canonical
    rw [Nat.mod_eq_of_lt fits] at wrote
    exact completes_of_eq run wrote
  case unsent =>
    intro s init tag q listed waits there
    have run : requestExpires init tag s = abortReq q (dropReq init tag s) := by
      rw [requestExpires, listed]
      exact if_neg (by simp [waits])
    refine completes_of_eq (congrArg Host.Outcome.next run) ⟨?_, ?_, ?_⟩
    · rw [abortReq_reqs]; rfl
    · exact abortReq_delivered (s := dropReq init tag s) there
    · exact abortReq_sameMem q (dropReq init tag s)
  case unanswered =>
    intro s init tag q listed passed there calm
    have run : responseExpires init tag s = abortReq q (dropReq init tag s) := by
      rw [responseExpires, listed]
      dsimp only
      rw [if_pos passed, forcedStart_none (by rw [abortReq_pwr]; exact calm)]
    refine completes_of_eq (congrArg Host.Outcome.next run) ⟨?_, ?_, ?_⟩
    · rw [abortReq_reqs]; rfl
    · exact abortReq_delivered (s := dropReq init tag s) there
    · exact abortReq_sameMem q (dropReq init tag s)
  case fall => exact fun s island => completes_of_eq rfl (abortPort_state island s)
  case back =>
    intro s init tag data q listed oldest answer low one idle there calm
    have run : responseReturn init tag s = returnReq q stOk [data] (dropReq init tag s) := by
      simp only [responseReturn, listed, drainPort_idle idle, returnListed, answer, oldest]
      rw [returnReq_answered (s := dropReq init tag s) there low one]
      exact forcedStart_none calm
    rw [returnReq_answered (s := dropReq init tag s) there low one] at run
    exact completes_of_eq (congrArg Host.Outcome.next run) ⟨rfl, rfl, fun _ _ => rfl, fun _ => rfl⟩
  case event =>
    intro s island event there
    exact completes_of_eq (congrArg Host.Outcome.next (offerEvent_present there event)) ⟨rfl, rfl, fun _ _ => rfl, fun _ => rfl⟩

end Sys2Proof.Machine
end

section
/-!
SUPPORT. What the prompt book's engine leaves alone (spec/06_mram_and_prompt_book.md R155 to R163): a commit changes registers, memory,
the engine's books, the free values drawn, the outputs, and for its own time the domains that it needs.
-/

namespace Sys2Proof.Machine

open Sys2Proof

/-- The state apart from what a commit may change. -/
def State.apart (s : State) : State :=
  { s with freeCtr := 0, regs := [], mem := [], pwr := { s.pwr with dom := [] }, jnl := JnlState.reset, sent := [] }

theorem iron_of_apart {s t : State} (h : t.apart = s.apart) : t.iron = s.iron := by
  have parts : t.apart.iron = s.apart.iron := congrArg State.iron h
  exact parts

/-- An update of the parts that a commit may change. -/
@[simp] theorem apart_upd {s : State} {freeCtr regs mem jnl sent} :
    (State.mk s.now s.mono freeCtr regs mem s.cue s.fab s.clk s.pwr s.cbd s.mram jnl s.iron s.saf s.veh s.fly s.cnv s.nrg s.box s.tir
      s.slac s.sl s.rdr s.tag s.crd s.ser s.dsp s.wng sent s.pending).apart = s.apart := rfl

theorem apart_ite {c : Prop} {d : Decidable c} {a b : State} : (@ite State c d a b).apart = @ite _ c d a.apart b.apart :=
  apply_ite State.apart c a b

theorem setReg_apart (s : State) (p v : Nat) : (s.setReg p v).apart = s.apart := rfl
theorem count_apart (s : State) (p k : Nat) : (s.count p k).apart = s.apart := rfl
theorem setWord_apart (s : State) (x w : Nat) : (s.setWord x w).apart = s.apart := rfl
theorem emit_apart (s : State) (o : Output) : (s.emit o).apart = s.apart := rfl
theorem setDom_apart (s : State) (d : Nat) (x : DomState) : (s.setDom d x).apart = s.apart := rfl
theorem drawBits_apart (s : State) (w : Nat) : (s.drawBits w).2.apart = s.apart := rfl

theorem setRegs_apart (s : State) (l : List (Nat × Nat)) : (s.setRegs l).apart = s.apart :=
  foldl_keeps (f := fun s (e : Nat × Nat) => s.setReg e.1 e.2) State.apart (fun e _ s => setReg_apart s e.1 e.2) s

theorem setWords_apart (s : State) (x : Nat) (l : List Nat) : (s.setWords x l).apart = s.apart := by
  induction l generalizing s x with
  | nil => rfl
  | cons w t ih => exact ih _ _

theorem writeRec_apart (s : State) (bank pos : Nat) (r : Rec) : (writeRec s bank pos r).apart = s.apart := setWords_apart s _ _

theorem appendRec_apart (j : JReq) (s : State) : (appendRec j s).apart = s.apart := by
  simp only [appendRec, noteRec, setReg_apart, apart_upd, writeRec_apart]

theorem finishSlot_apart (s : State) : (finishSlot s).apart = s.apart := by
  unfold finishSlot
  split
  · rfl
  · simp only [emit_apart, apart_upd, setReg_apart, noteRec, setWord_apart]

theorem startCompaction_apart (s : State) : (startCompaction s).apart = s.apart := by
  unfold startCompaction
  split <;> rfl

theorem compactRec_apart (c : Compaction) (typ stime : Nat) (payload : List Nat) (s : State) :
    (compactRec c typ stime payload s).2.apart = s.apart := by
  simp only [compactRec, setReg_apart, writeRec_apart]

theorem compactSome_apart (k room : Nat) (c : Compaction) (l : List (Nat × Nat × List Nat)) (s : State) :
    (compactSome k room c l s).2.2.apart = s.apart := by
  induction k generalizing room c l s with
  | zero => rfl
  | succ k ih =>
    cases l with
    | nil => rfl
    | cons e t =>
      rw [compactSome]
      split
      · rfl
      · exact (ih ..).trans (compactRec_apart ..)

theorem switchHalf_apart (c : Compaction) (s : State) : (switchHalf c s).apart = s.apart := by
  simp only [switchHalf, apart_upd, count_apart, setReg_apart]

theorem releaseHeld_apart (k : Nat) (s : State) : (releaseHeld k s).apart = s.apart := by
  induction k generalizing s with
  | zero => rfl
  | succ k ih =>
    unfold releaseHeld
    split
    · rfl
    · simp only [ih, emit_apart, appendRec_apart, apart_upd]

theorem compactionSector_apart (s : State) : (compactionSector s).apart = s.apart := by
  unfold compactionSector
  split
  · rfl
  · simp only [apart_ite, releaseHeld_apart, switchHalf_apart, compactRec_apart, compactSome_apart, apart_upd, ite_self]

theorem compactAll_apart (k : Nat) (s : State) : (compactAll k s).apart = s.apart := by
  induction k generalizing s with
  | zero => rfl
  | succ k ih => simp only [compactAll, apart_ite, ih, compactionSector_apart, ite_self]

theorem compactNow_apart (s : State) : (compactNow s).apart = s.apart :=
  (compactAll_apart ..).trans (startCompaction_apart s)

theorem compactIfFull_apart (s : State) : (compactIfFull s).apart = s.apart := by
  simp only [compactIfFull, apart_ite, startCompaction_apart, ite_self]

theorem adoptHalf_apart (bank : Nat) (c : Scan) (next status us : Nat) (s : State) :
    (adoptHalf bank c next status us s).apart = s.apart := by
  simp only [adoptHalf, restoreOwn, setRegs_apart, apart_upd]

theorem recover_apart (us : Nat) (bad : List Nat) (s : State) : (recover us bad s).apart = s.apart := by
  simp only [recover, apart_ite, adoptHalf_apart, startCompaction_apart, writeRec_apart, ite_self]

theorem ensureReady_apart (s : State) : (ensureReady s).apart = s.apart := by
  simp only [ensureReady, apart_ite, recover_apart, drawBits_apart, ite_self]

theorem payOwed_apart (s : State) : (payOwed s).apart = s.apart := by
  simp only [payOwed, apart_ite, appendRec_apart, apart_upd, ite_self]

theorem bookRest_apart (s : State) : (bookRest s).apart = s.apart := by
  simp only [bookRest, apart_ite, compactNow_apart, finishSlot_apart, ite_self]

theorem commitOn_apart (j : JReq) (s : State) : (commitOn j s).2.apart = s.apart := by
  unfold commitOn
  dsimp only
  split <;> simp only [count_apart, compactIfFull_apart, payOwed_apart, appendRec_apart, compactNow_apart, bookRest_apart]

theorem ownEntryOn_apart (s : State) : (ownEntryOn s).apart = s.apart := by
  simp only [ownEntryOn, apart_ite, commitOn_apart, ite_self]

theorem keeperUp_apart (s : State) : (keeperUp s).apart = s.apart := by
  simp only [keeperUp, ensureReady_apart, setDom_apart, apart_ite, apart_upd, ite_self]

theorem keeperDown_apart (was s : State) : (keeperDown was s).apart = s.apart := by
  simp only [keeperDown, setDom_apart, apart_ite, apart_upd, ownEntryOn_apart, compactAll_apart, ite_self]

theorem commit_apart (j : JReq) (s : State) : (commit j s).2.apart = s.apart := by
  unfold commit
  split
  · simp only [commitOn_apart, ensureReady_apart]
  · simp only [keeperDown_apart, commitOn_apart, keeperUp_apart]

theorem record_apart (typ : Nat) (payload : List Nat) (s : State) : (record typ payload s).apart = s.apart :=
  commit_apart _ s

end Sys2Proof.Machine
end

section
/-!
SUPPORT. The Callboard (spec/05_callboard.md): channels, postings, results, losses and retractions, and the notices of the Iron's
events (R58, R530).
-/

namespace Sys2Proof.Machine

open Sys2Proof

/-! ### Channels -/

theorem chan_setChan {s : State} {n : Nat} (h : n < s.cbd.ch.length) (c : Channel) : (s.setChan n c).chan n = c := by
  simp [State.chan, State.setChan, setAt, h]

theorem chan_setChan_ne (s : State) {m n : Nat} (h : m ≠ n) (c : Channel) : (s.setChan n c).chan m = s.chan m := by
  simp [State.chan, State.setChan, setAt, List.getElem?_set_ne h.symm]

/-! ### Events (R54) -/

theorem offerEvent_cbd (s : State) (island number : Nat) : (s.offerEvent island number).cbd = s.cbd := by
  unfold State.offerEvent
  split <;> rfl

theorem offerEvent_iron (s : State) (island number : Nat) : (s.offerEvent island number).iron = s.iron := by
  unfold State.offerEvent
  split <;> rfl

theorem offerEvent_keeps (s : State) (island number : Nat) : Keeps [P.pwFabEventDrops] s (s.offerEvent island number) := by
  unfold State.offerEvent
  split
  · exact ⟨fun _ _ => rfl, fun _ => rfl⟩
  · exact ⟨fun _ hp => s.reg_count_ne _ (List.ne_of_not_mem_cons hp), fun _ => rfl⟩

theorem Keeps.trans {l m : List Nat} {s t u : State} (first : Keeps l s t) (next : Keeps m t u) : Keeps (l ++ m) s u := by
  obtain ⟨regs, mem⟩ := first
  obtain ⟨regs', mem'⟩ := next
  refine ⟨fun p hp => ?_, fun a => (mem' a).trans (mem a)⟩
  obtain ⟨hl, hm⟩ := not_or.mp (fun h => hp (List.mem_append.mpr h))
  exact (regs' p hm).trans (regs p hl)

theorem keeps_setReg (s : State) (p v : Nat) : Keeps [p] s (s.setReg p v) :=
  ⟨fun _ hq => s.reg_setReg_ne v (List.ne_of_not_mem_cons hq), fun _ => rfl⟩

/-! ### The words of notices (R121) -/

/-- The hub's stamp replaces the SENDER of a word and nothing else. -/
theorem posted_notice (c : Channel) (init word : Nat) : (c.posted init word).notice = word % 2 ^ 80 + init % 32 * 2 ^ 80 := by
  unfold Channel.posted setBits bits
  norm_num
  omega

theorem posted_full (c : Channel) (init word : Nat) : (c.posted init word).full = true := rfl

theorem posted_lastSender (c : Channel) (init word : Nat) : (c.posted init word).lastSender = init := rfl

theorem posted_resultTag (c : Channel) (init word : Nat) : (c.posted init word).resultTag = noticeTag word := rfl

theorem noticeTag_posted (c : Channel) (init word : Nat) : noticeTag (c.posted init word).notice = noticeTag word := by
  rw [posted_notice]
  unfold noticeTag bits
  norm_num
  omega

theorem noticeKind_posted (c : Channel) (init word : Nat) : noticeKind (c.posted init word).notice = noticeKind word := by
  rw [posted_notice]
  unfold noticeKind bits
  norm_num
  omega

theorem noticeSender_posted (c : Channel) (init word : Nat) : noticeSender (c.posted init word).notice = init % 32 := by
  rw [posted_notice]
  unfold noticeSender bits
  norm_num
  omega

theorem noticeTag_mkNotice (sender tag kind length addr : Nat) :
    noticeTag (mkNotice sender tag kind length addr) = tag % 2 ^ 16 := by
  unfold noticeTag mkNotice bits
  norm_num
  omega

theorem noticeKind_mkNotice (sender tag kind length addr : Nat) :
    noticeKind (mkNotice sender tag kind length addr) = kind % 16 := by
  unfold noticeKind mkNotice bits
  norm_num
  omega

/-! ### Posting (R123, R124) -/

theorem storeNotice_cbd (n init word : Nat) (s : State) :
    (storeNotice n init word s).cbd =
      { s.cbd with ch := setAt s.cbd.ch n ((s.chan n).posted init word), prov := provPosted n init word s.cbd.prov } := by
  unfold storeNotice
  dsimp only
  rw [offerEvent_cbd]
  split <;> rfl

theorem storeNotice_iron (n init word : Nat) (s : State) : (storeNotice n init word s).iron = s.iron := by
  unfold storeNotice
  dsimp only
  rw [offerEvent_iron]
  split <;> rfl

theorem storeNotice_chan {n : Nat} {s : State} (h : n < s.cbd.ch.length) (init word : Nat) :
    (storeNotice n init word s).chan n = (s.chan n).posted init word := by
  rw [State.chan, storeNotice_cbd]
  exact chan_setChan h _

/-- A posting to a receiver that is present changes the Callboard's own registers at most. -/
theorem storeNotice_keeps {n : Nat} {s : State} (there : s.present (initIsland (s.chan n).receiver) = true) (init word : Nat) :
    Keeps [P.cbdResultNew, P.cbdRetractions] s (storeNotice n init word s) := by
  unfold storeNotice
  extract_lets c u _ v w
  have stored : Keeps [P.cbdResultNew] s v := keeps_setReg (s.setChan n (c.posted init word)) _ _
  have counted : Keeps [P.cbdRetractions] v w := by
    simp only [w]
    split
    · exact keeps_setReg v _ _
    · exact ⟨fun _ _ => rfl, fun _ => rfl⟩
  have here : w.present (initIsland c.receiver) = true := by
    simp only [w]
    split <;> exact there
  clear_value w
  rw [offerEvent_present here]
  exact stored.trans counted

/-- A permitted whole write to an empty channel of a receiver that is present is accepted (R123). -/
theorem postNotice_accepted {n init : Nat} {s : State} (on : s.cbdOn = true) (may : (s.chan n).permits init = true)
    (there : s.present (initIsland (s.chan n).receiver) = true) (empty : (s.chan n).full = false) (word : Nat) :
    postNotice n init word 1 0xFFFF s = (stOk, storeNotice n init word s) := by
  simp [postNotice, on, may, there, empty]

/-! ### Results (R128, R131) -/

theorem cancelWaiting_none {s : State} (h : s.cbd.cancels = []) (n sender tag result : Nat) :
    cancelWaiting n sender tag result s = s := by
  simp [cancelWaiting, h]

theorem offerRetracts_none {s : State} (h : s.cbd.retracts = []) (n : Nat) : offerRetracts n s = s := by
  simp [offerRetracts, h]

/-- A channel that empties with a result (R128). -/
def Channel.emptied (c : Channel) (result code : Nat) : Channel :=
  { c with
      notice := 0, full := false, taken := false, inDelivery := false, result := result, resultCode := code,
      resultTag := noticeTag c.notice }

/-- The state with a result recorded for a channel, before what waits for the channel follows. -/
def resultNoted (n result code : Nat) (s : State) : State :=
  let c := s.chan n
  let s := (s.setChan n (c.emptied result code)).setReg P.cbdResultNew (setBit (s.reg P.cbdResultNew) n true)
  let s := { s with cbd := { s.cbd with prov := provResult n c.lastSender (noticeTag c.notice) result s.cbd.prov } };
  s.offerEvent (initIsland c.lastSender) n

theorem resultNoted_cbd (n result code : Nat) (s : State) :
    (resultNoted n result code s).cbd =
      { s.cbd with
          ch := setAt s.cbd.ch n ((s.chan n).emptied result code)
          prov := provResult n (s.chan n).lastSender (noticeTag (s.chan n).notice) result s.cbd.prov } := by
  rw [resultNoted, offerEvent_cbd]
  rfl

theorem resultNoted_keeps (n result code : Nat) (s : State) :
    Keeps [P.cbdResultNew, P.pwFabEventDrops] s (resultNoted n result code s) :=
  (keeps_setReg (s.setChan n ((s.chan n).emptied result code)) _ _).trans (offerEvent_keeps _ _ _)

/-- Where no cancellation and no retraction waits, the channel empties with its result and nothing follows. -/
theorem recordResult_quiet {s : State} (noCancels : s.cbd.cancels = []) (noRetracts : s.cbd.retracts = []) (n result code : Nat) :
    recordResult n result code s = resultNoted n result code s := by
  have cancels : (resultNoted n result code s).cbd.cancels = [] := by rw [resultNoted_cbd]; exact noCancels
  have retracts : (resultNoted n result code s).cbd.retracts = [] := by rw [resultNoted_cbd]; exact noRetracts
  have noted : recordResult n result code s =
      (let t := cancelWaiting n (s.chan n).lastSender (noticeTag (s.chan n).notice) result (resultNoted n result code s)
       if (t.chan n).full then t else offerRetracts n t) := rfl
  rw [noted, cancelWaiting_none cancels]
  dsimp only
  rw [offerRetracts_none retracts, ite_self]

theorem resultNoted_chan {n : Nat} {s : State} (h : n < s.cbd.ch.length) (result code : Nat) :
    (resultNoted n result code s).chan n = (s.chan n).emptied result code := by
  rw [State.chan, resultNoted_cbd]
  exact chan_setChan h _

theorem resultNoted_chan_ne {m n : Nat} (h : m ≠ n) (result code : Nat) (s : State) :
    (resultNoted n result code s).chan m = s.chan m := by
  rw [State.chan, resultNoted_cbd]
  exact chan_setChan_ne s h _

/-! ### Losses (R130, R136) -/

/-- Channel `n` holds no notice for an island. -/
def FreeOf (island n : Nat) (s : State) : Prop := (s.chan n).full = true → initIsland (s.chan n).receiver ≠ island

/-- No cancellation and no retraction waits, and the channels are those of R119. -/
def Quiet (s : State) : Prop := s.cbd.cancels = [] ∧ s.cbd.retracts = [] ∧ s.cbd.ch.length = 32

theorem loseNotice_sameMem {s : State} (quiet : Quiet s) (island n : Nat) : SameMem s (loseNotice island n s) := by
  obtain ⟨noCancels, noRetracts, -⟩ := quiet
  unfold loseNotice
  split
  · rw [recordResult_quiet noCancels noRetracts]
    exact (resultNoted_keeps n 3 0 s).2
  · exact fun _ => rfl

theorem loseNotice_cbd {s : State} (quiet : Quiet s) (island n : Nat) :
    (loseNotice island n s).cbd = s.cbd ∧ FreeOf island n s ∨ (loseNotice island n s).cbd = (resultNoted n 3 0 s).cbd := by
  obtain ⟨noCancels, noRetracts, -⟩ := quiet
  unfold loseNotice
  split
  · exact .inr (by rw [recordResult_quiet noCancels noRetracts]; rfl)
  · next free => exact .inl ⟨rfl, fun full at' => free ⟨full, at'⟩⟩

theorem loseNotice_quiet {s : State} (quiet : Quiet s) (island n : Nat) : Quiet (loseNotice island n s) := by
  obtain ⟨noCancels, noRetracts, len⟩ := id quiet
  obtain ⟨same, -⟩ | lost := loseNotice_cbd quiet island n
  · rw [Quiet, same]
    exact quiet
  · rw [Quiet, lost, resultNoted_cbd]
    exact ⟨noCancels, noRetracts, List.length_set.trans len⟩

theorem freeOf_congr {s t : State} {island n : Nat} (h : t.chan n = s.chan n) (free : FreeOf island n s) : FreeOf island n t := by
  rwa [FreeOf, h]

theorem freeOf_loseNotice {s : State} (quiet : Quiet s) (island : Nat) {m n : Nat} (hn : n < 32)
    (h : m = n ∨ FreeOf island m s) : FreeOf island m (loseNotice island n s) := by
  obtain ⟨same, free⟩ | lost := loseNotice_cbd quiet island n
  · have chan : (loseNotice island n s).chan m = s.chan m := by rw [State.chan, same]; rfl
    exact freeOf_congr chan (h.elim (fun eq => eq ▸ free) id)
  · have chan : (loseNotice island n s).chan m = (resultNoted n 3 0 s).chan m := by rw [State.chan, lost]; rfl
    refine freeOf_congr chan ?_
    by_cases same : m = n
    · have fits : n < s.cbd.ch.length := quiet.2.2 ▸ hn
      rw [same, FreeOf, resultNoted_chan fits]
      exact fun full => absurd full Bool.false_ne_true
    · exact freeOf_congr (resultNoted_chan_ne same 3 0 s) (h.resolve_left same)

theorem foldl_loseNotice {island : Nat} {l : List Nat} (hl : ∀ n ∈ l, n < 32) {s : State} (quiet : Quiet s) :
    (∀ m, m ∈ l ∨ FreeOf island m s → FreeOf island m (l.foldl (fun s n => loseNotice island n s) s)) ∧
      SameMem s (l.foldl (fun s n => loseNotice island n s) s) := by
  induction l generalizing s with
  | nil => exact ⟨fun m h => h.resolve_left List.not_mem_nil, fun _ => rfl⟩
  | cons n t ih =>
    obtain ⟨hn, ht⟩ := List.forall_mem_cons.mp hl
    obtain ⟨free, mem⟩ := ih ht (loseNotice_quiet quiet island n)
    refine ⟨fun m h => free m ?_, fun a => (mem a).trans (loseNotice_sameMem quiet island n a)⟩
    obtain inList | before := h
    · exact (List.mem_cons.mp inList).symm.imp_right fun eq => freeOf_loseNotice quiet island hn (.inl eq)
    · exact .inr (freeOf_loseNotice quiet island hn (.inr before))

/-- The fall of a receiver's PRESENT leaves no full channel of it (R130). -/
theorem receiverReset_free {s : State} (quiet : Quiet s) (island : Nat) :
    (∀ n < 32, FreeOf island n (receiverReset island s)) ∧ SameMem s (receiverReset island s) := by
  obtain ⟨free, mem⟩ := foldl_loseNotice (island := island) (l := List.range 32) (fun _ => List.mem_range.mp) quiet
  exact ⟨fun n hn => free n (.inl (List.mem_range.mpr hn)), mem⟩

/-- After a reset of the Callboard every channel is empty under its CONFIG of the table of R132 (R120, R136). -/
theorem callboardReset_chan {n : Nat} (hn : n < 32) (s : State) :
    (callboardReset s).chan n = Channel.empty (dfltOf (P.cbdConfig n)) := by
  have listed : (callboardReset s).cbd.ch = (List.range 32).map fun n => Channel.empty (dfltOf (P.cbdConfig n)) := rfl
  rw [State.chan, listed]
  simp [hn]

theorem callboardReset_lost {n : Nat} (hn : n < 32) {s : State} (noCancels : s.cbd.cancels = []) (full : (s.chan n).full = true) :
    (n, (s.chan n).notice) ∈ (callboardReset s).cbd.lost := by
  have held : heldNotice s n = [(n, (s.chan n).notice)] := by simp [heldNotice, noCancels, full]
  exact List.mem_append_right _ (List.mem_flatMap.mpr ⟨n, List.mem_range.mpr hn, held ▸ List.mem_singleton_self _⟩)

theorem keeps_clearReg (s : State) (p : Nat) : Keeps [p] s (s.clearReg p) :=
  ⟨fun _ hq => s.reg_clearReg_ne (List.ne_of_not_mem_cons hq), fun _ => rfl⟩

/-- The counters of the Callboard are lost with it (R136). -/
theorem callboardReset_regs (s : State) :
    (callboardReset s).reg P.cbdResultNew = 0 ∧ (callboardReset s).reg P.cbdRefused = 0 ∧
      (callboardReset s).reg P.cbdAborted = 0 ∧ (callboardReset s).reg P.cbdRetractions = 0 := by
  have zero : dfltOf P.cbdResultNew = 0 ∧ dfltOf P.cbdRefused = 0 ∧ dfltOf P.cbdAborted = 0 ∧ dfltOf P.cbdRetractions = 0 := by
    decide +kernel
  obtain ⟨new, refused, aborted, retractions⟩ := zero
  unfold callboardReset
  extract_lets t
  clear_value t
  refine ⟨?_, ?_, ?_, ?_⟩
  · rw [State.reg_clearReg_ne _ (by decide), State.reg_clearReg_ne _ (by decide), State.reg_clearReg_ne _ (by decide),
      State.reg_clearReg, new]
  · rw [State.reg_clearReg_ne _ (by decide), State.reg_clearReg_ne _ (by decide), State.reg_clearReg, refused]
  · rw [State.reg_clearReg_ne _ (by decide), State.reg_clearReg, aborted]
  · rw [State.reg_clearReg, retractions]

theorem callboardReset_keeps (s : State) :
    Keeps [P.cbdResultNew, P.cbdRefused, P.cbdAborted, P.cbdRetractions] s (callboardReset s) := by
  unfold callboardReset
  extract_lets t
  have emptied : Keeps [] s t := ⟨fun _ _ => rfl, fun _ => rfl⟩
  clear_value t
  exact emptied.trans ((keeps_clearReg t _).trans ((keeps_clearReg _ _).trans ((keeps_clearReg _ _).trans (keeps_clearReg _ _))))

/-! ### Cancelling a provisional notice (R129, R131) -/

theorem cancelOn_held {sender tag n : Nat} {s : State} (held : s.provisional sender tag n = some 0) (waits : (s.chan n).taken = false)
    (unread : (s.chan n).inDelivery = false) : cancelOn sender tag n s = (withdrawNotice n sender tag s).2 := by
  simp [cancelOn, held, waits, unread]

theorem cancelOn_read {sender tag n r : Nat} {s : State} (result : s.provisional sender tag n = some r) (read : r = 1 ∨ r = 2) :
    cancelOn sender tag n s = retract n sender tag s := by
  obtain rfl | rfl := read <;> simp [cancelOn, result]

theorem withdrawNotice_accepted {n init tag : Nat} {s : State} (on : s.cbdOn = true) (may : (s.chan n).permits init = true)
    (full : (s.chan n).full = true) (waits : (s.chan n).taken = false) (unread : (s.chan n).inDelivery = false)
    (own : noticeSender (s.chan n).notice = init) (named : noticeTag (s.chan n).notice = tag % 2 ^ 16) :
    withdrawNotice n init tag s = (stOk, recordResult n 4 0 s) := by
  unfold withdrawNotice
  dsimp only
  rw [if_neg (by simp [on]), if_neg (by simp [may]), if_pos ⟨full, waits, unread, own, named⟩]

/-- The lists of a Callboard on which one retraction waits and no other. -/
def retracting (n sender tag : Nat) (s : State) : State :=
  { s with cbd := { s.cbd with
    prov := s.cbd.prov.filter fun e => !(e.1 == sender && e.2.1 == tag && e.2.2.1 == n)
    retracts := [(sender, tag, n)] } }

/-- Other retractions waiting, all else as it was. -/
def withRetracts (l : List (Nat × Nat × Nat)) (s : State) : State := { s with cbd := { s.cbd with retracts := l } }

theorem withRetracts_chan (l : List (Nat × Nat × Nat)) (s : State) (n : Nat) : (withRetracts l s).chan n = s.chan n := rfl

theorem withRetracts_keeps (l : List (Nat × Nat × Nat)) (s : State) : Keeps [] s (withRetracts l s) :=
  ⟨fun _ _ => rfl, fun _ => rfl⟩

/-- A retraction that finds its channel empty is posted at once (R131). -/
theorem retract_posted {n sender tag : Nat} {s : State} (on : s.cbdOn = true) (noRetracts : s.cbd.retracts = [])
    (may : (s.chan n).permits sender = true) (there : s.present (initIsland (s.chan n).receiver) = true)
    (empty : (s.chan n).full = false) :
    ∃ l, retract n sender tag s =
      withRetracts l (storeNotice n sender (mkNotice sender tag 4 0 0) (retracting n sender tag s)) := by
  have offered : retract n sender tag s = offerRetracts n (retracting n sender tag s) := by
    rw [retract, noRetracts]
    rfl
  have posted := postNotice_accepted (s := retracting n sender tag s) on may there empty (mkNotice sender tag 4 0 0)
  have waiting : ((retracting n sender tag s).cbd.retracts.find? fun e => e.2.2 == n) = some (sender, tag, n) := by
    simp [retracting]
  rw [offered, offerRetracts, waiting]
  dsimp only
  rw [posted, if_neg (show stOk ≠ stRefused by decide)]
  exact ⟨_, rfl⟩

theorem retract_chan {n sender tag : Nat} {s : State} (on : s.cbdOn = true) (noRetracts : s.cbd.retracts = [])
    (may : (s.chan n).permits sender = true) (there : s.present (initIsland (s.chan n).receiver) = true)
    (empty : (s.chan n).full = false) (fits : n < s.cbd.ch.length) :
    (retract n sender tag s).chan n = (s.chan n).posted sender (mkNotice sender tag 4 0 0) := by
  obtain ⟨l, posted⟩ := retract_posted (tag := tag) on noRetracts may there empty
  rw [posted, withRetracts_chan]
  exact storeNotice_chan (s := retracting n sender tag s) fits sender _

theorem retract_keeps {n sender tag : Nat} {s : State} (on : s.cbdOn = true) (noRetracts : s.cbd.retracts = [])
    (may : (s.chan n).permits sender = true) (there : s.present (initIsland (s.chan n).receiver) = true)
    (empty : (s.chan n).full = false) : Keeps [P.cbdResultNew, P.cbdRetractions] s (retract n sender tag s) := by
  obtain ⟨l, posted⟩ := retract_posted (tag := tag) on noRetracts may there empty
  rw [posted]
  exact (storeNotice_keeps (s := retracting n sender tag s) there sender _).trans (withRetracts_keeps l _)

/-! ### The Iron's events (R58, R530) -/

theorem record_iron (typ : Nat) (payload : List Nat) (s : State) : (record typ payload s).iron = s.iron :=
  iron_of_apart (record_apart typ payload s)

/-- Every event that the keeper channel delivers is marked, and dropped once both channels have had it. -/
theorem keeperDeliver_events {s : State} (runs : s.managerRuns = true) (power : s.domOn 0 = true) (iron : s.pwr.ironOn = true) :
    (keeperDeliver s).iron.events =
      (s.iron.events.map fun e => { e with keeper := true }).filter fun e => !(e.main0 && e.main1) := by
  rw [keeperDeliver, if_pos ⟨runs, power, iron⟩]
  refine foldl_keeps (fun s => s.iron.events) (fun e _ t => ?_) _
  extract_lets u
  have recorded : u.iron = t.iron := record_iron _ _ t
  clear_value u
  split <;> exact congrArg IronState.events recorded

/-- One event that is no restart of the Iron is recorded over the keeper channel (R58, R224). -/
theorem keeperDeliver_one {s : State} {e : IronEvent} (runs : s.managerRuns = true) (power : s.domOn 0 = true)
    (iron : s.pwr.ironOn = true) (single : s.iron.events = [e]) (waits : e.keeper = false) (other : e.code ≠ 0x12) :
    keeperDeliver s = record 0x34 [eventWord e.code 0 e.unit e.faults]
      { s with iron := { s.iron with events := if e.main0 && e.main1 then [] else [{ e with keeper := true }] } } := by
  have todo : (s.iron.events.filter fun e => !e.keeper) = [e] := by simp [single, waits]
  have kept : ((s.iron.events.map fun e => { e with keeper := true }).filter fun e => !(e.main0 && e.main1))
      = if e.main0 && e.main1 then [] else [{ e with keeper := true }] := by
    rw [single]
    cases zero : e.main0 <;> cases one : e.main1 <;> simp [zero, one]
  rw [keeperDeliver, if_pos ⟨runs, power, iron⟩, kept, todo]
  exact if_neg other

theorem setIronWait_cbd (n : Nat) (b : Bool) (s : State) : (setIronWait n b s).cbd = s.cbd := rfl

theorem setIronWait_byte (n : Nat) (b : Bool) (s : State) (a : Nat) : (setIronWait n b s).byte a = s.byte a := rfl

theorem ironPosted_cbd (seq n : Nat) (s : State) : (ironPosted seq n s).cbd = s.cbd := rfl

theorem ironPosted_byte (seq n : Nat) (s : State) (a : Nat) : (ironPosted seq n s).byte a = s.byte a := rfl

theorem ironPosted_wait0 (seq n : Nat) (s : State) : (ironPosted seq n s).iron.wait0 = s.iron.wait0 := rfl

theorem setIronWait_wait0 (n : Nat) (b : Bool) (s : State) :
    (setIronWait n b s).iron.wait0 = if n = 0 then b else s.iron.wait0 := by
  unfold setIronWait
  dsimp only
  split <;> rfl

theorem setIronWait_own (n : Nat) (b : Bool) (s : State) :
    (if n = 0 then (setIronWait n b s).iron.wait0 else (setIronWait n b s).iron.wait1) = b := by
  unfold setIronWait
  dsimp only
  split <;> rfl

/-- The oldest event still to post is stored on a channel that is free (R123, R530). -/
theorem ironPost_accepted {n : Nat} {e : IronEvent} {l : List IronEvent} {s : State} (bridge : s.present 22 = true)
    (next : s.iron.toPost n = e :: l) (on : s.cbdOn = true) (may : (s.chan n).permits 0x1F = true)
    (there : s.present (initIsland (s.chan n).receiver) = true) (empty : (s.chan n).full = false) :
    ironPost n s = setIronWait n false (ironPosted e.seq n (storeNotice n 0x1F (ironNotice e) s)) := by
  unfold ironPost
  rw [if_neg (by simp [bridge]), next]
  dsimp only
  rw [postNotice_accepted on may there empty, if_pos rfl]

/-- What the notice of an Iron event leaves on its channel and in the Iron bridge. -/
theorem ironPost_state {n : Nat} {e : IronEvent} {l : List IronEvent} {s : State} (bridge : s.present 22 = true)
    (next : s.iron.toPost n = e :: l) (on : s.cbdOn = true) (may : (s.chan n).permits 0x1F = true)
    (there : s.present (initIsland (s.chan n).receiver) = true) (empty : (s.chan n).full = false) (fits : n < s.cbd.ch.length) :
    ((ironPost n s).chan n).full = true ∧ ((ironPost n s).chan n).lastSender = 0x1F ∧
      ((ironPost n s).chan n).resultTag = e.seq % 2 ^ 16 ∧
      (ironPost n s).iron.wait0 = (if n = 0 then false else s.iron.wait0) ∧
      (if n = 0 then (ironPost n s).iron.wait0 else (ironPost n s).iron.wait1) = false ∧ SameMem s (ironPost n s) := by
  have run := ironPost_accepted bridge next on may there empty
  have chan : (ironPost n s).chan n = (s.chan n).posted 0x1F (ironNotice e) := by
    rw [run, State.chan, setIronWait_cbd, ironPosted_cbd]
    exact storeNotice_chan fits 0x1F (ironNotice e)
  have tag : noticeTag (ironNotice e) = e.seq % 2 ^ 16 := by
    rw [ironNotice, noticeTag_mkNotice, Nat.mod_mod]
  refine ⟨by rw [chan, posted_full], by rw [chan, posted_lastSender], by rw [chan, posted_resultTag, tag], ?_,
    by rw [run, setIronWait_own], fun a => ?_⟩
  · rw [run, setIronWait_wait0, ironPosted_wait0, storeNotice_iron]
  · rw [run, setIronWait_byte, ironPosted_byte]
    exact (storeNotice_keeps there 0x1F (ironNotice e)).2 a

/-! ### The obligation -/

/-- Settles O12, each clause by the lemma of its operation. -/
theorem callboardLosses : Obligations.CallboardLosses := by
  refine ⟨?fall, ?reset, ?lost, ?withdrawn, ?retracted, ?latched, ?delivered, ?recorded, ?posted, ?reposted⟩
  case fall =>
    intro s island noCancels noRetracts len
    exact completes_of_eq rfl (receiverReset_free ⟨noCancels, noRetracts, len⟩ island)
  case reset =>
    intro s
    obtain ⟨new, refused, aborted, retractions⟩ := callboardReset_regs s
    exact completes_of_eq rfl ⟨fun n hn => callboardReset_chan hn s, new, refused, aborted, retractions, callboardReset_keeps s⟩
  case lost =>
    intro s noCancels
    exact completes_of_eq rfl fun n hn full => callboardReset_lost hn noCancels full
  case withdrawn =>
    intro s sender tag ch on fits noCancels noRetracts held may full waits unread own named small
    have word : noticeTag (s.chan ch).notice = tag % 2 ^ 16 := by rw [named, Nat.mod_eq_of_lt small]
    have run : cancelNotice sender tag [ch] s = resultNoted ch 4 0 s := by
      rw [cancelNotice, List.foldl_cons, List.foldl_nil, cancelOn_held held waits unread,
        withdrawNotice_accepted on may full waits unread own word, recordResult_quiet noCancels noRetracts]
    refine completes_of_eq (congrArg Host.Outcome.next run) ?_
    rw [resultNoted_chan fits]
    exact ⟨rfl, rfl, named, resultNoted_keeps ch 4 0 s⟩
  case retracted =>
    intro s sender tag ch r on fits noRetracts result read may there empty small own
    have run : cancelNotice sender tag [ch] s = retract ch sender tag s := by
      rw [cancelNotice, List.foldl_cons, List.foldl_nil, cancelOn_read result read]
    refine completes_of_eq (congrArg Host.Outcome.next run) ?_
    rw [retract_chan on noRetracts may there empty fits, posted_full, noticeKind_posted, noticeTag_posted, noticeSender_posted,
      noticeKind_mkNotice, noticeTag_mkNotice]
    exact ⟨rfl, rfl, Nat.mod_eq_of_lt small, Nat.mod_eq_of_lt own, retract_keeps on noRetracts may there empty⟩
  case latched =>
    intro s code unit power
    have run : exec (.ironEventLatch code unit) s = .next (ironLatch code unit s) := congrArg Host.Outcome.next (if_pos power)
    exact completes_of_eq run ⟨rfl, rfl, fun _ _ => rfl, fun _ => rfl⟩
  case delivered =>
    intro s runs power iron
    exact completes_of_eq rfl (keeperDeliver_events runs power iron)
  case recorded =>
    intro s e runs power iron single waits other
    exact completes_of_eq rfl (keeperDeliver_one runs power iron single waits other)
  case posted =>
    intro s ch e l _ bridge next on may there empty fits
    obtain ⟨full, sender, tag, wait, -, mem⟩ := ironPost_state bridge next on may there empty fits
    exact completes_of_eq rfl ⟨full, sender, tag, wait, mem⟩
  case reposted =>
    intro s ch e l _ waits bridge next on may there empty fits
    obtain ⟨full, sender, tag, -, released, mem⟩ := ironPost_state bridge next on may there empty fits
    have run : exec (.ironEventRepost ch) s = .next (ironPost ch s) := congrArg Host.Outcome.next (if_pos waits)
    exact completes_of_eq run ⟨full, sender, tag, released, mem⟩

end Sys2Proof.Machine
end

section
/-!
SUPPORT. The step of the model (R80, R180).
-/

namespace Sys2Proof.Machine

open Sys2Proof

/-- Settles O1: the step's own equation at a queue that holds a command. -/
theorem stepServesTheFront : Obligations.StepServesTheFront := by
  intro s c rest front
  unfold step
  rw [front]
  rfl

end Sys2Proof.Machine
end

section
/-!
SUPPORT. What leaves the clocks alone: one lemma for each operation under a switch of an island or a start of the Stage manager
(spec/03_clocks.md R72 to R82, spec/04_power_and_start.md R103 to R108) that changes neither the clocks nor the power layer beyond
the states of its domains.
-/

namespace Sys2Proof.Machine

open Sys2Proof

/-- The clocks, the power layer's state but for the domains, and stage time. -/
def State.clockwork (s : State) : ClkState × PwrState × Nat := (s.clk, { s.pwr with dom := [] }, s.now)

theorem clockwork_of_apart {s t : State} (h : t.apart = s.apart) : t.clockwork = s.clockwork := by
  have parts : t.apart.clockwork = s.apart.clockwork := congrArg State.clockwork h
  exact parts

@[simp] theorem clockwork_upd {s : State} {mono freeCtr regs mem cue fab cbd mram jnl iron saf veh fly cnv nrg box tir slac sl rdr tag
    crd ser dsp wng sent pending} :
    (State.mk s.now mono freeCtr regs mem cue fab s.clk s.pwr cbd mram jnl iron saf veh fly cnv nrg box tir slac sl rdr tag crd
      ser dsp wng sent pending).clockwork = s.clockwork := rfl

@[simp] theorem clockwork_ite {c : Prop} {d : Decidable c} {a b : State} :
    (@ite State c d a b).clockwork = @ite _ c d a.clockwork b.clockwork :=
  apply_ite State.clockwork c a b

@[simp] theorem clockwork_ite_snd {α : Type} {c : Prop} {d : Decidable c} {a b : α × State} :
    (@ite (α × State) c d a b).2.clockwork = @ite _ c d a.2.clockwork b.2.clockwork :=
  apply_ite (fun x : α × State => x.2.clockwork) c a b

@[simp] theorem clockwork_ite_thd {α β : Type} {c : Prop} {d : Decidable c} {a b : α × β × State} :
    (@ite (α × β × State) c d a b).2.2.clockwork = @ite _ c d a.2.2.clockwork b.2.2.clockwork :=
  apply_ite (fun x : α × β × State => x.2.2.clockwork) c a b

theorem foldl_clockwork {α : Type} {f : State → α → State} (h : ∀ s x, (f s x).clockwork = s.clockwork) (l : List α) (s : State) :
    (l.foldl f s).clockwork = s.clockwork :=
  foldl_keeps State.clockwork (fun x _ s => h s x) s

@[simp] theorem State.setReg_clockwork (s : State) (p v : Nat) : (s.setReg p v).clockwork = s.clockwork := rfl
@[simp] theorem State.count_clockwork (s : State) (p k : Nat) : (s.count p k).clockwork = s.clockwork := rfl
@[simp] theorem State.setRegs_clockwork (s : State) (l : List (Nat × Nat)) : (s.setRegs l).clockwork = s.clockwork :=
  clockwork_of_apart (setRegs_apart s l)
@[simp] theorem State.setWord_clockwork (s : State) (x w : Nat) : (s.setWord x w).clockwork = s.clockwork := rfl
@[simp] theorem State.drawBits_clockwork (s : State) (w : Nat) : (s.drawBits w).2.clockwork = s.clockwork := rfl
@[simp] theorem State.emit_clockwork (s : State) (o : Output) : (s.emit o).clockwork = s.clockwork := rfl
@[simp] theorem State.setChan_clockwork (s : State) (n : Nat) (c : Channel) : (s.setChan n c).clockwork = s.clockwork := rfl
@[simp] theorem State.setNrg_clockwork (s : State) (x : NrgState) : (s.setNrg x).clockwork = s.clockwork := rfl
@[simp] theorem State.setVeh_clockwork (s : State) (x : VehState) : (s.setVeh x).clockwork = s.clockwork := rfl
@[simp] theorem State.setTir_clockwork (s : State) (x : TirState) : (s.setTir x).clockwork = s.clockwork := rfl
@[simp] theorem State.setSl_clockwork (s : State) (x : SlState) : (s.setSl x).clockwork = s.clockwork := rfl
@[simp] theorem State.setTag_clockwork (s : State) (x : TagState) : (s.setTag x).clockwork = s.clockwork := rfl
@[simp] theorem State.setDsp_clockwork (s : State) (x : DspState) : (s.setDsp x).clockwork = s.clockwork := rfl
@[simp] theorem State.setSer_clockwork (s : State) (x : SerState) : (s.setSer x).clockwork = s.clockwork := rfl
@[simp] theorem State.setSub_clockwork (s : State) (i : Nat) (x : Option Sub) : (s.setSub i x).clockwork = s.clockwork := rfl
@[simp] theorem State.setDom_clockwork (s : State) (d : Nat) (x : DomState) : (s.setDom d x).clockwork = s.clockwork := rfl

@[simp] theorem commit_clockwork (j : JReq) (s : State) : (commit j s).2.clockwork = s.clockwork :=
  clockwork_of_apart (commit_apart j s)
@[simp] theorem record_clockwork (typ : Nat) (payload : List Nat) (s : State) : (record typ payload s).clockwork = s.clockwork :=
  commit_clockwork _ s
@[simp] theorem openRecord_clockwork (typ : Nat) (s : State) : (openRecord typ s).clockwork = s.clockwork := by
  simp only [openRecord, State.drawBits_clockwork, record_clockwork]

@[simp] theorem bankStatus_clockwork (st faults : Nat) (s : State) : (bankStatus st faults s).clockwork = s.clockwork := rfl
@[simp] theorem doorSend_clockwork (baud f turn lead : Nat) (b : Bytes) (s : State) :
    (doorSend baud f turn lead b s).clockwork = s.clockwork := rfl
@[simp] theorem setSwitches_clockwork (hs ls : Nat) (s : State) : (setSwitches hs ls s).clockwork = s.clockwork := rfl
@[simp] theorem boxForget_clockwork (s : State) : (boxForget s).clockwork = s.clockwork := rfl
@[simp] theorem setSes_clockwork (n : Nat) (s : State) : (setSes n s).clockwork = s.clockwork := rfl
@[simp] theorem setNeighs_clockwork (l : List Neigh) (s : State) : (setNeighs l s).clockwork = s.clockwork := rfl
@[simp] theorem updateRepeater_clockwork (s : State) : (updateRepeater s).clockwork = s.clockwork := rfl
@[simp] theorem courierForget_clockwork (s : State) : (courierForget s).clockwork = s.clockwork := rfl
@[simp] theorem cardResult_clockwork (res : Nat) (s : State) : (cardResult res s).clockwork = s.clockwork := rfl

/-! ### Registers, memory, time and outputs -/

@[simp] theorem State.offerEvent_clockwork (s : State) (i n : Nat) : (s.offerEvent i n).clockwork = s.clockwork := by
  simp only [State.offerEvent, clockwork_ite, State.emit_clockwork, clockwork_upd, State.count_clockwork, ite_self]

@[simp] theorem fabFault_clockwork (init route status addr : Nat) (s : State) :
    (fabFault init route status addr s).clockwork = s.clockwork := by
  unfold fabFault
  extract_lets t
  have recorded : t.clockwork = s.clockwork := State.setReg_clockwork s _ _
  clear_value t
  split <;> exact (State.count_clockwork t _ _).trans recorded

/-! ### The Callboard -/

@[simp] theorem storeNotice_clockwork (n init word : Nat) (s : State) : (storeNotice n init word s).clockwork = s.clockwork := by
  simp only [storeNotice, State.count_clockwork, State.offerEvent_clockwork, State.setChan_clockwork, State.setReg_clockwork,
    clockwork_ite,
    clockwork_upd, ite_self]

@[simp] theorem postNotice_clockwork (n init word beats byteEn : Nat) (s : State) :
    (postNotice n init word beats byteEn s).2.clockwork = s.clockwork := by
  simp only [postNotice, State.count_clockwork, storeNotice_clockwork, clockwork_ite_snd, ite_self]

@[simp] theorem offerRetracts_clockwork (n : Nat) (s : State) : (offerRetracts n s).clockwork = s.clockwork := by
  unfold offerRetracts
  split <;> simp only [postNotice_clockwork, clockwork_ite, clockwork_upd, ite_self]

@[simp] theorem retract_clockwork (n sender tag : Nat) (s : State) : (retract n sender tag s).clockwork = s.clockwork := by
  simp only [retract, offerRetracts_clockwork, clockwork_upd]

@[simp] theorem cancelWaiting_clockwork (n sender tag result : Nat) (s : State) :
    (cancelWaiting n sender tag result s).clockwork = s.clockwork := by
  simp only [cancelWaiting, retract_clockwork, clockwork_ite, clockwork_upd, ite_self]

@[simp] theorem recordResult_clockwork (n result code : Nat) (s : State) : (recordResult n result code s).clockwork = s.clockwork := by
  simp only [recordResult, State.offerEvent_clockwork, State.setChan_clockwork, State.setReg_clockwork, cancelWaiting_clockwork,
    offerRetracts_clockwork, clockwork_ite, clockwork_upd, ite_self]

@[simp] theorem readNotice_clockwork (n init : Nat) (s : State) : (readNotice n init s).2.2.clockwork = s.clockwork := by
  simp only [readNotice, State.setChan_clockwork, clockwork_ite_thd, ite_self]

@[simp] theorem deliverNotice_clockwork (n : Nat) (delivered : Bool) (s : State) :
    (deliverNotice n delivered s).clockwork = s.clockwork := by
  simp only [deliverNotice, State.setChan_clockwork, recordResult_clockwork, clockwork_ite, ite_self]

@[simp] theorem ackNotice_clockwork (n init code : Nat) (s : State) : (ackNotice n init code s).2.clockwork = s.clockwork := by
  simp only [ackNotice, recordResult_clockwork, clockwork_ite_snd, ite_self]

@[simp] theorem loseNotice_clockwork (island n : Nat) (s : State) : (loseNotice island n s).clockwork = s.clockwork := by
  simp only [loseNotice, State.count_clockwork, recordResult_clockwork, clockwork_ite, ite_self]

@[simp] theorem receiverReset_clockwork (island : Nat) (s : State) : (receiverReset island s).clockwork = s.clockwork :=
  foldl_clockwork (fun s n => loseNotice_clockwork island n s) _ s

@[simp] theorem callboardReset_clockwork (s : State) : (callboardReset s).clockwork = s.clockwork := rfl

@[simp] theorem repost_clockwork (e : Nat × Nat) (s : State) : (repost e s).clockwork = s.clockwork := by
  simp only [repost, postNotice_clockwork, clockwork_ite, ite_self]

@[simp] theorem callboardReturns_clockwork (s : State) : (callboardReturns s).clockwork = s.clockwork := by
  unfold callboardReturns
  split
  · exact (foldl_clockwork (fun s n => offerRetracts_clockwork n s) _ _).trans (foldl_clockwork (fun s e => repost_clockwork e s) _ _)
  · rfl

@[simp] theorem relay_clockwork (n sender kind code : Nat) (s : State) : (relay n sender kind code s).clockwork = s.clockwork := by
  simp only [relay, State.drawBits_clockwork, ackNotice_clockwork, deliverNotice_clockwork, postNotice_clockwork,
    readNotice_clockwork,
    clockwork_ite, ite_self]

/-! ### The prompt book -/

@[simp] theorem selfCommit_clockwork (never : Bool) (pids : List Nat) (s : State) :
    (selfCommit never pids s).clockwork = s.clockwork := by
  simp only [selfCommit, commit_clockwork, clockwork_upd]

@[simp] theorem countJournalled_clockwork (p : Nat) (s : State) : (countJournalled p s).clockwork = s.clockwork := by
  simp only [countJournalled, State.count_clockwork, selfCommit_clockwork]

@[simp] theorem bankCut_clockwork (b : Nat) (s : State) : (bankCut b s).clockwork = s.clockwork := by
  unfold bankCut
  split <;> simp only [bankStatus_clockwork, clockwork_ite, clockwork_upd, ite_self]

/-! ### Frames and notifications -/

@[simp] theorem tirSend_clockwork (t : TxItem) (s : State) : (tirSend t s).clockwork = s.clockwork := by
  simp only [tirSend, clockwork_ite, clockwork_upd, ite_self]

@[simp] theorem putCue_clockwork (via : Via) (ip port : Nat) (f : CueFrame) (s : State) :
    (putCue via ip port f s).clockwork = s.clockwork := by
  cases via with
  | stageDoor => simp only [putCue, State.emit_clockwork, doorSend_clockwork]
  | tirwa => simp only [putCue, State.emit_clockwork, tirSend_clockwork, relay_clockwork]
  | stageLink =>
    unfold putCue
    dsimp only
    split <;> rfl

@[simp] theorem sendCue_clockwork (via : Via) (ip port : Nat) (f : CueFrame) (s : State) :
    (sendCue via ip port f s).clockwork = s.clockwork := by
  simp only [sendCue, putCue_clockwork, clockwork_ite, ite_self]

@[simp] theorem sendNoteOf_clockwork (slot : Nat) (u : Sub) (result : Nat) (v : Bytes) (s : State) :
    (sendNoteOf slot u result v s).clockwork = s.clockwork := by
  simp only [sendNoteOf, State.setSub_clockwork, sendCue_clockwork]

@[simp] theorem noteGone_clockwork (slot : Nat) (s : State) : (noteGone slot s).clockwork = s.clockwork := by
  unfold noteGone
  split <;> simp only [sendNoteOf_clockwork, clockwork_ite, ite_self]

@[simp] theorem notesGone_clockwork (s : State) : (notesGone s).clockwork = s.clockwork :=
  foldl_clockwork (fun s i => noteGone_clockwork i s) _ s

@[simp] theorem noteBack_clockwork (slot : Nat) (s : State) : (noteBack slot s).clockwork = s.clockwork := by
  unfold noteBack
  split <;> simp only [State.setSub_clockwork, clockwork_ite, ite_self]

@[simp] theorem notesBack_clockwork (s : State) : (notesBack s).clockwork = s.clockwork :=
  foldl_clockwork (fun s i => noteBack_clockwork i s) _ s

/-! ### Blocks of the islands -/

@[simp] theorem openPairs_clockwork (mask : Nat) (s : State) : (openPairs mask s).clockwork = s.clockwork := by
  simp only [openPairs, setSwitches_clockwork]

@[simp] theorem wardenGone_clockwork (s : State) : (wardenGone s).clockwork = s.clockwork := by
  simp only [wardenGone, setSwitches_clockwork, clockwork_upd]

@[simp] theorem boxRestore_clockwork (s : State) : (boxRestore s).clockwork = s.clockwork := by
  simp only [boxRestore, State.setRegs_clockwork, boxForget_clockwork]

@[simp] theorem drive_clockwork (d : CpDrive) (duty : Nat) (s : State) : (drive d duty s).clockwork = s.clockwork := by
  simp only [drive, State.setReg_clockwork, State.setVeh_clockwork, clockwork_ite, ite_self]

@[simp] theorem driveHigh_clockwork (s : State) : (driveHigh s).clockwork = s.clockwork := by
  simp only [driveHigh, drive_clockwork]

@[simp] theorem driveLimit_clockwork (s : State) : (driveLimit s).clockwork = s.clockwork := by
  simp only [driveLimit, drive_clockwork, driveHigh_clockwork, clockwork_ite, ite_self]

@[simp] theorem moduleZero_clockwork (s : State) : (moduleZero s).clockwork = s.clockwork := by
  simp only [moduleZero, State.setVeh_clockwork]

@[simp] theorem startWeldCheck_clockwork (s : State) : (startWeldCheck s).clockwork = s.clockwork := by
  simp only [startWeldCheck, State.setVeh_clockwork, setSes_clockwork, clockwork_ite, ite_self]

@[simp] theorem cutSession_clockwork (cause : Nat) (s : State) : (cutSession cause s).clockwork = s.clockwork := by
  simp only [cutSession, State.setReg_clockwork, moduleZero_clockwork, openPairs_clockwork, setSes_clockwork,
    startWeldCheck_clockwork,
    clockwork_ite, ite_self]

@[simp] theorem windSession_clockwork (cause : Nat) (s : State) : (windSession cause s).clockwork = s.clockwork := by
  simp only [windSession, State.setReg_clockwork, State.setVeh_clockwork, cutSession_clockwork, driveHigh_clockwork,
    moduleZero_clockwork,
    setSes_clockwork, clockwork_ite, ite_self]

@[simp] theorem recomputeLimit_clockwork (s : State) : (recomputeLimit s).clockwork = s.clockwork := by
  simp only [recomputeLimit, State.setVeh_clockwork, driveHigh_clockwork, driveLimit_clockwork, clockwork_ite, ite_self]

@[simp] theorem e0Lost_clockwork (s : State) : (e0Lost s).clockwork = s.clockwork := by
  simp only [e0Lost, State.setVeh_clockwork, windSession_clockwork, clockwork_ite, ite_self]

@[simp] theorem meterLost_clockwork (s : State) : (meterLost s).clockwork = s.clockwork := by
  simp only [meterLost, cutSession_clockwork, driveHigh_clockwork, clockwork_ite, ite_self]

@[simp] theorem sendControl_clockwork (kind final prio : Nat) (next : Option Nat) (body : Bytes) (s : State) :
    (sendControl kind final prio next body s).clockwork = s.clockwork := by
  simp only [sendControl, State.setTir_clockwork, tirSend_clockwork, clockwork_ite, ite_self]

@[simp] theorem sendHello_clockwork (s : State) : (sendHello s).clockwork = s.clockwork := by
  simp only [sendHello, State.setTir_clockwork, sendControl_clockwork, clockwork_ite, ite_self]

@[simp] theorem askSeat_clockwork (s : State) : (askSeat s).clockwork = s.clockwork := by
  unfold askSeat
  extract_lets best
  cases best with
  | none => rfl
  | some n => simp only [clockwork_ite, sendControl_clockwork, ite_self]

@[simp] theorem setShare_clockwork (w src : Nat) (s : State) : (setShare w src s).clockwork = s.clockwork := by
  simp only [setShare, State.setReg_clockwork, recomputeLimit_clockwork, relay_clockwork]

@[simp] theorem shareLapse_clockwork (s : State) : (shareLapse s).clockwork = s.clockwork := by
  simp only [shareLapse, State.setTir_clockwork, setShare_clockwork, clockwork_ite, ite_self]

@[simp] theorem takeSeat_clockwork (v : Nat) (s : State) : (takeSeat v s).clockwork = s.clockwork := by
  simp only [takeSeat, State.setReg_clockwork, shareLapse_clockwork, clockwork_ite, ite_self]

@[simp] theorem leadSeat_clockwork (s : State) : (leadSeat s).clockwork = s.clockwork := by
  unfold leadSeat
  split
  · rfl
  · split <;> simp only [State.setReg_clockwork, takeSeat_clockwork]

@[simp] theorem regainSeat_clockwork (s : State) : (regainSeat s).clockwork = s.clockwork := by
  simp only [regainSeat, State.setTir_clockwork, leadSeat_clockwork, takeSeat_clockwork, clockwork_ite, ite_self]

@[simp] theorem helloTimer_clockwork (s : State) : (helloTimer s).clockwork = s.clockwork := by
  simp only [helloTimer, askSeat_clockwork, sendHello_clockwork]

@[simp] theorem courierStart_clockwork (s : State) : (courierStart s).clockwork = s.clockwork := by
  simp only [courierStart, courierForget_clockwork, helloTimer_clockwork, regainSeat_clockwork, setNeighs_clockwork,
    updateRepeater_clockwork,
    clockwork_ite, ite_self]

@[simp] theorem laneInto_clockwork (n v : Nat) (s : State) : (laneInto n v s).clockwork = s.clockwork := by
  simp only [laneInto, State.setReg_clockwork, State.setSl_clockwork]

@[simp] theorem laneReset_clockwork (n : Nat) (s : State) : (laneReset n s).clockwork = s.clockwork := by
  simp only [laneReset, laneInto_clockwork]

@[simp] theorem laneDown_clockwork (n rest : Nat) (s : State) : (laneDown n rest s).clockwork = s.clockwork := by
  simp only [laneDown, State.count_clockwork, laneInto_clockwork, clockwork_ite, ite_self]

@[simp] theorem laneLoses_clockwork (n : Nat) (s : State) : (laneLoses n s).clockwork = s.clockwork := by
  simp only [laneLoses, laneDown_clockwork, clockwork_ite, ite_self]

@[simp] theorem ptpStart_clockwork (s : State) : (ptpStart s).clockwork = s.clockwork := by
  simp only [ptpStart, State.setReg_clockwork, State.setSl_clockwork]

@[simp] theorem switchStart_clockwork (s : State) : (switchStart s).clockwork = s.clockwork := by
  unfold switchStart
  dsimp only
  split <;> simp only [State.setReg_clockwork, State.setSl_clockwork]

@[simp] theorem lanesStart_clockwork (s : State) : (lanesStart s).clockwork = s.clockwork :=
  foldl_clockwork (fun s n => laneReset_clockwork n s) _ s

@[simp] theorem samLost_clockwork (s : State) : (samLost s).clockwork = s.clockwork := by
  unfold samLost
  split <;> simp only [cardResult_clockwork]

@[simp] theorem rollback_clockwork (w : Writer) (s : State) : (rollback w s).2.clockwork = s.clockwork := by
  simp only [rollback, markSlot, wngTo, setStatus, State.setReg_clockwork, State.setWord_clockwork, commit_clockwork, clockwork_ite,
    clockwork_ite_snd, clockwork_upd, ite_self]

/-! ### Islands -/

@[simp] theorem blockOn_clockwork (n : Nat) (s : State) : (blockOn n s).clockwork = s.clockwork := by
  simp only [blockOn, State.setReg_clockwork, boxRestore_clockwork, courierStart_clockwork, lanesStart_clockwork, mramStart,
    ptpStart_clockwork, regainSeat_clockwork, serialStart, State.setSer_clockwork, State.setVeh_clockwork, switchStart_clockwork,
    clockwork_ite,
    clockwork_upd, ite_self]

@[simp] theorem domainStops_clockwork (d : Nat) (s : State) : (domainStops d s).clockwork = s.clockwork := by
  simp only [domainStops, laneLoses_clockwork, clockwork_ite, ite_self]

@[simp] theorem fabDeliver_clockwork (init tag status : Nat) (data : List Nat) (s : State) :
    (fabDeliver init tag status data s).clockwork = s.clockwork := by
  simp only [fabDeliver, State.count_clockwork, State.emit_clockwork, clockwork_ite, clockwork_upd, ite_self]

@[simp] theorem undelivered_clockwork (q : FabReq) (s : State) : (undelivered q s).clockwork = s.clockwork :=
  foldl_clockwork (fun s n => deliverNotice_clockwork n false s) _ s

@[simp] theorem abortReq_clockwork (q : FabReq) (s : State) : (abortReq q s).clockwork = s.clockwork := by
  simp only [abortReq, fabDeliver_clockwork, fabFault_clockwork, undelivered_clockwork]

@[simp] theorem abortPort_clockwork (island : Nat) (s : State) : (abortPort island s).clockwork = s.clockwork :=
  foldl_clockwork (fun s q => abortReq_clockwork q s) _ _

@[simp] theorem abortAll_clockwork (s : State) : (abortAll s).clockwork = s.clockwork :=
  foldl_clockwork (fun s n => abortPort_clockwork n s) _ s

@[simp] theorem restoreObjects_clockwork (n : Nat) (s : State) : (restoreObjects n s).clockwork = s.clockwork := by
  simp only [restoreObjects, State.setRegs_clockwork, clockwork_upd]

/-- The blocks of an island stop without touching the clocks. -/
@[simp] theorem blockStops_clockwork (n : Nat) (s : State) : (blockStops n s).clockwork = s.clockwork := by
  cases card : s.rdr.judging <;>
    simp only [blockStops, card, doorLost, clearLost, State.setSer_clockwork, State.setTag_clockwork, e0Lost_clockwork, e1Lost,
      setLead,
      State.setReg_clockwork, State.setTir_clockwork, vehicleForget, State.setVeh_clockwork, wardenGone_clockwork,
      meterLost_clockwork,
      demandAnew, framesLost, State.setNrg_clockwork, updateRepeater_clockwork, courierForget_clockwork, boxForget_clockwork,
      samLost_clockwork, displayForget, State.setDsp_clockwork, cardResult_clockwork, flyGone, State.emit_clockwork, clockwork_ite,
      clockwork_upd, ite_self]

/-- The fall of PRESENT stops blocks and aborts requests (R41, R48); the clocks are the caller's. -/
@[simp] theorem islandDown_clockwork (n : Nat) (s : State) : (islandDown n s).clockwork = s.clockwork := by
  simp only [islandDown, blockOff, clearFetch, senderGone, loseObjects, notesGone_clockwork, blockStops_clockwork,
    receiverReset_clockwork,
    callboardReset_clockwork, abortAll_clockwork, abortPort_clockwork, clockwork_ite, clockwork_upd, ite_self]

@[simp] theorem islandUp_clockwork (n : Nat) (s : State) : (islandUp n s).clockwork = s.clockwork := by
  simp only [islandUp, notesBack_clockwork, callboardReturns_clockwork, blockOn_clockwork, restoreObjects_clockwork, clockwork_ite,
    ite_self]

@[simp] theorem domainLoses_clockwork (d : Nat) (s : State) : (domainLoses d s).clockwork = s.clockwork := by
  simp only [domainLoses, callboardReset_clockwork, bankCut_clockwork, clockwork_ite, clockwork_upd, ite_self]

/-! ### The start of the Stage manager -/

@[simp] theorem tamperStart_clockwork (e detail : Nat) (s : State) : (tamperStart e detail s).clockwork = s.clockwork := by
  unfold tamperStart
  extract_lets first u v a w
  have kept : v.clockwork = s.clockwork := by simp only [v, u, State.setReg_clockwork, State.count_clockwork, clockwork_ite,
      ite_self]
  clear_value v
  simp only [w, tamperRecord, setJournalled, record_clockwork, selfCommit_clockwork, State.setReg_clockwork, clockwork_ite,
    ite_self,
    kept]

@[simp] theorem settleRate_clockwork (s : State) : (settleRate s).clockwork = s.clockwork := by
  unfold settleRate
  split <;> simp only [State.setReg_clockwork, clockwork_ite, clockwork_upd, ite_self]

@[simp] theorem postSeam_clockwork (s : State) : (postSeam s).clockwork = s.clockwork := by
  simp only [postSeam, post, postNotice_clockwork, State.drawBits_clockwork]

@[simp] theorem calendarEvaluate_clockwork (boundary : Bool) (s : State) : (calendarEvaluate boundary s).clockwork = s.clockwork := by
  unfold calendarEvaluate
  extract_lets u t r
  have settled : u.clockwork = s.clockwork := settleRate_clockwork s
  clear_value u t r
  simp only [postSeam_clockwork, State.setReg_clockwork, clockwork_upd, clockwork_ite, settled, ite_self]

theorem rebuildCast_clockwork (trial c : Nat) (s : State) : (rebuildCast trial c s).clockwork = s.clockwork :=
  State.setReg_clockwork s _ _

@[simp] theorem setStatus_clockwork (v : Nat) (s : State) : (setStatus v s).clockwork = s.clockwork :=
  State.setReg_clockwork _ _ _

@[simp] theorem updateRecord_clockwork (event : Nat) (w : Writer) (s : State) : (updateRecord event w s).clockwork = s.clockwork :=
  record_clockwork _ _ s

@[simp] theorem wingsStart_clockwork (s : State) : (wingsStart s).clockwork = s.clockwork := by
  unfold wingsStart
  extract_lets was now noted _ begun closed named moved logged cast known
  have held : noted.clockwork = s.clockwork := State.setReg_clockwork s _ _
  clear_value noted
  have first : begun.clockwork = s.clockwork := held
  clear_value begun
  have recorded : closed.clockwork = s.clockwork := by
    simp only [closed, updateRecord_clockwork, clockwork_ite, first, ite_self]
  clear_value closed
  have status : moved.clockwork = s.clockwork := by
    simp only [moved, named, wngTo, setStatus_clockwork, clockwork_ite, recorded, ite_self]
  clear_value moved
  have event : logged.clockwork = s.clockwork := by
    simp only [logged, tamperStart_clockwork, clockwork_ite, status, ite_self]
  clear_value logged
  have rebuilt : cast.clockwork = s.clockwork :=
    (foldl_clockwork (f := fun s c => rebuildCast (if now = 6 then wngComponent s else 0) c s)
      (fun t c => rebuildCast_clockwork _ c t) components logged).trans event
  clear_value cast
  have shown : known.clockwork = s.clockwork := (State.setReg_clockwork cast _ _).trans rebuilt
  clear_value known
  simp only [countJournalled_clockwork, rollback_clockwork, clockwork_ite, shown, ite_self]

theorem noteFetch_clockwork (init addr : Nat) (s : State) : (noteFetch init addr s).clockwork = s.clockwork := by
  unfold noteFetch
  dsimp only
  split <;> rfl

theorem houseStart_clockwork (s : State) : (houseStart s).clockwork = s.clockwork :=
  (regainSeat_clockwork _).trans (State.setReg_clockwork s _ _)

@[simp] theorem makeBooks_clockwork (b : Nat × Nat × Nat × Nat × Nat) (s : State) : (makeBooks b s).clockwork = s.clockwork := by
  unfold makeBooks
  extract_lets t
  have counted : t.clockwork = s.clockwork := by simp only [t, countJournalled_clockwork, clockwork_ite, ite_self]
  clear_value t
  exact (openRecord_clockwork _ _).trans ((State.setReg_clockwork t _ _).trans counted)

/-- What the Stage manager does for its units at its start is not the clocks' or the power layer's (R172). -/
theorem managerStartBlocks_clockwork (s : State) : (managerStartBlocks s).clockwork = s.clockwork :=
  calc (managerStartBlocks s).clockwork
      = (wingsStart (calendarEvaluate false (houseStart (noteFetch 0x0C 0x02C00000 s)))).clockwork := rfl
    _ = s.clockwork := by rw [wingsStart_clockwork, calendarEvaluate_clockwork, houseStart_clockwork, noteFetch_clockwork]

end Sys2Proof.Machine
end

section
/-!
SUPPORT. The clock controller (spec/03_clocks.md R72 to R82): what its switches, its forced switches and the failure of a source
change of the sources, the judges and the islands' clocks.
-/

namespace Sys2Proof.Machine

open Sys2Proof

/-! ### Parts of the clockwork -/

/-- The power layer's state but for the domains, and stage time. -/
def State.powered (s : State) : PwrState × Nat := s.clockwork.2

/-- The clockwork but for the switches of the islands: sources, judges, trim and PLLs stand in it. -/
def State.sources (s : State) : ClkState × PwrState × Nat := ({ s.clk with islands := [] }, s.powered)

theorem sources_of_clockwork {s t : State} (h : t.clockwork = s.clockwork) : t.sources = s.sources :=
  congrArg (fun x : ClkState × PwrState × Nat => ({ x.1 with islands := [] }, x.2)) h

theorem powered_of_clockwork {s t : State} (h : t.clockwork = s.clockwork) : t.powered = s.powered := congrArg Prod.snd h

theorem powered_of_sources {s t : State} (h : t.sources = s.sources) : t.powered = s.powered := by
  have parts : t.sources.2 = s.sources.2 := congrArg Prod.snd h
  exact parts

section
variable {s t : State} (h : t.sources = s.sources)
include h

theorem srcs_of_sources : t.clk.src = s.clk.src := congrArg (fun x => x.1.src) h

theorem judges_of_sources : t.clk.judges = s.clk.judges := congrArg (fun x => x.1.judges) h

theorem src_of_sources (c : Nat) : t.src c = s.src c := congrArg (fun x => x.1.src.getD (srcIndex c) 0) h

theorem search_of_sources : t.clk.search = s.clk.search := congrArg (fun x => x.1.search) h

theorem trim_of_sources : t.clk.trim = s.clk.trim := congrArg (fun x => x.1.trim) h

theorem factoryCode_of_sources : t.clk.factoryCode = s.clk.factoryCode := congrArg (fun x => x.1.factoryCode) h

theorem owed_of_sources : t.clk.owed = s.clk.owed := congrArg (fun x => x.1.owed) h

end

section
variable {s t : State} (h : t.powered = s.powered)
include h

theorem boot_of_powered : t.pwr.boot = s.pwr.boot := congrArg (fun x => x.1.boot) h

theorem deferred_of_powered : t.pwr.deferred = s.pwr.deferred := congrArg (fun x => x.1.deferred) h

theorem resetArmed_of_powered : t.pwr.resetArmed = s.pwr.resetArmed := congrArg (fun x => x.1.resetArmed) h

theorem bootStatus_of_powered : t.pwr.bootStatus = s.pwr.bootStatus := congrArg (fun x => x.1.bootStatus) h

theorem now_of_powered : t.now = s.now := congrArg (fun x => x.2) h

end

theorem isl_of_clockwork {s t : State} (h : t.clockwork = s.clockwork) (n : Nat) : t.isl n = s.isl n :=
  congrArg (fun x => x.1.islands.getD n IslClk.fresh) h

theorem setIsl_sources (s : State) (n : Nat) (c : IslClk) : (s.setIsl n c).sources = s.sources := rfl

theorem isl_setIsl {s : State} {n : Nat} (h : n < s.clk.islands.length) (c : IslClk) : (s.setIsl n c).isl n = c := by
  simp [State.isl, State.setIsl, setAt, h]

theorem isl_setIsl_ne (s : State) {m n : Nat} (h : m ≠ n) (c : IslClk) : (s.setIsl n c).isl m = s.isl m := by
  simp [State.isl, State.setIsl, setAt, h.symm]

/-- An island that is none of the controller's cannot be changed. -/
theorem setIsl_outside {s : State} {n : Nat} (h : s.clk.islands.length ≤ n) (c : IslClk) : s.setIsl n c = s := by
  simp [State.setIsl, setAt, List.set_eq_of_length_le h]

/-- What a change of an island's clock keeps of it, it keeps of every island's. -/
theorem setIsl_keeps {α : Type} (g : IslClk → α) {s : State} {n : Nat} {c : IslClk} (h : g c = g (s.isl n)) (m : Nat) :
    g ((s.setIsl n c).isl m) = g (s.isl m) := by
  by_cases same : m = n
  · subst same
    by_cases inside : m < s.clk.islands.length
    · rw [isl_setIsl inside, h]
    · rw [setIsl_outside (Nat.not_lt.mp inside)]
  · rw [isl_setIsl_ne s same]

theorem src_setSrc {s : State} {c : Nat} (h : srcIndex c < s.clk.src.length) (v : Nat) : (s.setSrc c v).src c = v := by
  simp [State.src, State.setSrc, setAt, h]

theorem src_setSrc_ne (s : State) {c d : Nat} (h : srcIndex c ≠ srcIndex d) (v : Nat) : (s.setSrc d v).src c = s.src c := by
  simp [State.src, State.setSrc, setAt, h.symm]

theorem srcIndex_lt (c : Nat) : srcIndex c < 12 := by
  unfold srcIndex
  by_cases h : c < 12
  · interval_cases c <;> decide
  · rw [List.getD_eq_default _ _ (by simp; omega)]
    decide

/-- What lists the same registers and holds the same memory reads as before. -/
theorem keeps_of_eq {s t : State} (regs : t.regs = s.regs) (mem : t.mem = s.mem) : Keeps [] s t :=
  ⟨fun p _ => congrArg (fun r => (Regs.get? r p).getD (dfltOf p)) regs, fun a => congrArg (fun m => Memory.read m a) mem⟩

/-! ### Switches (R73 to R77) -/

theorem driveStops_clockwork (n : Nat) (s : State) : (driveStops n s).clockwork = s.clockwork := by
  simp only [driveStops, wardenGone_clockwork, clockwork_ite, ite_self]

/-- The Warden's lines go on toggling unless the clock of I08 or I22 hangs (R56). -/
theorem driveStops_calm {n : Nat} {s : State} (h : n = 8 ∨ n = 22 → (s.isl n).hung = false) : driveStops n s = s :=
  if_neg fun stops => Bool.false_ne_true ((h stops.1).symm.trans stops.2)

/-- The clock of an island that begins a switch to an input (R74), hanging where its source has stopped (R77). -/
def switching (s : State) (n i : Nat) : IslClk :=
  { s.isl n with switchTo := some i, hung := !(s.srcGood (inputSource n (s.isl n).sel)) }

/-- All that a request can do: nothing, wait behind the switch in progress, or start one. -/
theorem requestSwitch_cases (n i : Nat) (s : State) :
    requestSwitch n i s = s ∨ requestSwitch n i s = s.setIsl n { s.isl n with waiting := some i } ∨
      requestSwitch n i s = driveStops n (s.setIsl n (switching s n i)) := by
  unfold requestSwitch
  dsimp only
  split_ifs
  · exact .inl rfl
  · exact .inr (.inl rfl)
  · exact .inl rfl
  · exact .inr (.inr rfl)

theorem requestSwitch_starts {n i : Nat} {s : State} (clocked : n ≠ 1) (input : i < (islandInputs n).length)
    (good : s.srcGood (inputSource n i) = true) (free : (s.isl n).switchTo = none) (other : (s.isl n).sel ≠ i) :
    requestSwitch n i s = driveStops n (s.setIsl n (switching s n i)) := by
  simp [requestSwitch, clocked, input, good, free, other, switching]

theorem requestSwitch_sources (n i : Nat) (s : State) : (requestSwitch n i s).sources = s.sources := by
  obtain h | h | h := requestSwitch_cases n i s <;> rw [h]
  · exact setIsl_sources s n _
  · exact (sources_of_clockwork (driveStops_clockwork n _)).trans (setIsl_sources s n _)

/-- A request leaves the present input, the reset and the forced switch of every island. -/
theorem requestSwitch_keeps {α : Type} (g : IslClk → α) (waits : ∀ c w, g { c with waiting := w } = g c)
    (starts : ∀ c i b, g { c with switchTo := i, hung := b } = g c) (n i : Nat) (s : State) (m : Nat) :
    g ((requestSwitch n i s).isl m) = g (s.isl m) := by
  obtain h | h | h := requestSwitch_cases n i s <;> rw [h]
  · exact setIsl_keeps g (waits _ _) m
  · rw [isl_of_clockwork (driveStops_clockwork n _)]
    exact setIsl_keeps g (starts _ _ _) m

/-- A switch that hangs the clock of neither I08 nor I22 changes neither registers nor memory. -/
theorem requestSwitch_calm {n : Nat} {s : State} (h : n = 8 ∨ n = 22 → s.srcGood (inputSource n (s.isl n).sel) = true) (i : Nat) :
    Keeps [] s (requestSwitch n i s) := by
  obtain eq | eq | eq := requestSwitch_cases n i s <;> rw [eq]
  · exact keeps_of_eq rfl rfl
  · exact keeps_of_eq rfl rfl
  · have toggles : n = 8 ∨ n = 22 → ((s.setIsl n (switching s n i)).isl n).hung = false := by
      intro drive
      by_cases inside : n < s.clk.islands.length
      · simp [isl_setIsl inside, switching, h drive]
      · rw [setIsl_outside (Nat.not_lt.mp inside), State.isl, List.getD_eq_default _ _ (Nat.not_lt.mp inside)]
        rfl
    rw [driveStops_calm toggles]
    exact keeps_of_eq rfl rfl

theorem controllerMove_eq (n : Nat) (s : State) : controllerMove n s = s ∨ ∃ i, controllerMove n s = requestSwitch n i s := by
  unfold controllerMove
  extract_lets c
  split
  · exact .inl rfl
  · split
    · exact .inl rfl
    · exact .inr ⟨_, rfl⟩

theorem controllerMove_sources (n : Nat) (s : State) : (controllerMove n s).sources = s.sources := by
  obtain h | ⟨i, h⟩ := controllerMove_eq n s <;> rw [h]
  exact requestSwitch_sources n i s

theorem controllerMove_keeps {α : Type} (g : IslClk → α) (waits : ∀ c w, g { c with waiting := w } = g c)
    (starts : ∀ c i b, g { c with switchTo := i, hung := b } = g c) (n : Nat) (s : State) (m : Nat) :
    g ((controllerMove n s).isl m) = g (s.isl m) := by
  obtain h | ⟨i, h⟩ := controllerMove_eq n s <;> rw [h]
  exact requestSwitch_keeps g waits starts n i s m

theorem controllerMove_calm {n : Nat} {s : State} (h : n = 8 ∨ n = 22 → s.srcGood (inputSource n (s.isl n).sel) = true) :
    Keeps [] s (controllerMove n s) := by
  obtain eq | ⟨i, eq⟩ := controllerMove_eq n s <;> rw [eq]
  · exact keeps_of_eq rfl rfl
  · exact requestSwitch_calm h i

theorem controllerMoves_sources (s : State) : (controllerMoves s).sources = s.sources :=
  foldl_keeps State.sources (fun n _ t => controllerMove_sources n t) s

theorem leaveSource_sources (code : Nat) (s : State) : (leaveSource code s).sources = s.sources := by
  refine foldl_keeps State.sources (fun n _ t => ?_) s
  split
  · exact requestSwitch_sources n 0 t
  · rfl

/-- The present inputs of I08 and I22, whose clocks drive the Warden's lines, are good. -/
def DriveClocksGood (s : State) : Prop := ∀ n, n = 8 ∨ n = 22 → s.src (inputSource n (s.isl n).sel) = 2

theorem inputSource_drive {n : Nat} (h : n = 8 ∨ n = 22) (i : Nat) : inputSource n i = 0 ∨ inputSource n i = 6 := by
  have inputs : islandInputs n = [0, 6] := by obtain rfl | rfl := h <;> rfl
  rw [inputSource, inputs]
  match i with
  | 0 => exact .inl rfl
  | 1 => exact .inr rfl
  | _ + 2 => exact .inl rfl

/-- RC16 and PLL_B are good by their judges alone. -/
theorem srcGood_drive {n : Nat} (h : n = 8 ∨ n = 22) (s : State) (i : Nat) :
    s.srcGood (inputSource n i) = true ↔ s.src (inputSource n i) = 2 := by
  obtain code | code := inputSource_drive h i <;> simp [code, State.srcGood]

theorem DriveClocksGood.of_eq {s t : State} (h : DriveClocksGood s) (main : ∀ n i, n = 8 ∨ n = 22 →
    t.src (inputSource n i) = s.src (inputSource n i)) (sel : ∀ n, (t.isl n).sel = (s.isl n).sel) : DriveClocksGood t := by
  intro n drive
  rw [main n _ drive, sel]
  exact h n drive

/-- While both run, the controller's moves change neither registers nor memory. -/
theorem controllerMoves_calm {s : State} (h : DriveClocksGood s) : Keeps [] s (controllerMoves s) := by
  unfold controllerMoves
  generalize switchOrder = l
  induction l generalizing s with
  | nil => exact keeps_of_eq rfl rfl
  | cons n l ih =>
    have moved : Keeps [] s (controllerMove n s) := controllerMove_calm fun drive => (srcGood_drive drive s _).mpr (h n drive)
    have still : DriveClocksGood (controllerMove n s) :=
      h.of_eq (fun _ _ _ => src_of_sources (controllerMove_sources n s) _)
        (controllerMove_keeps IslClk.sel (fun _ _ => rfl) (fun _ _ _ => rfl) n s)
    exact moved.trans (ih still)

/-! ### Forced switches and failures (R79 to R82) -/

theorem forceIsland_sources (n i cause : Nat) (s : State) : (forceIsland n i cause s).sources = s.sources :=
  (sources_of_clockwork (islandDown_clockwork n _)).trans (setIsl_sources s n _)

theorem forceIsland_isl {n : Nat} {s : State} (h : n < s.clk.islands.length) (i cause : Nat) :
    (forceIsland n i cause s).isl n =
      { IslClk.fresh with
          sel := i, inReset := true, forced := some (inputSource n (s.isl n).sel, inputSource n i, cause) } :=
  (isl_of_clockwork (islandDown_clockwork n _) n).trans (isl_setIsl h _)

theorem islandLosesSource_sources (code : Nat) (dead : Bool) (n : Nat) (s : State) :
    (islandLosesSource code dead n s).sources = s.sources := by
  unfold islandLosesSource
  dsimp only
  split
  · rfl
  · split
    · exact forceIsland_sources n 0 3 s
    · split
      · rw [sources_of_clockwork (driveStops_clockwork n _), setIsl_sources]
        split
        · rfl
        · exact requestSwitch_sources n 0 s
      · rfl

theorem islandsLoseSource_sources (code : Nat) (dead : Bool) (s : State) : (islandsLoseSource code dead s).sources = s.sources :=
  foldl_keeps State.sources (fun n _ t => islandLosesSource_sources code dead n t) s

theorem resetIsland_sources (n : Nat) (s : State) : (resetIsland n s).sources = s.sources := by
  rw [resetIsland, sources_of_clockwork (islandUp_clockwork n _), setIsl_sources, sources_of_clockwork (islandDown_clockwork n _),
    setIsl_sources]

theorem rc16Island_sources (n : Nat) (s : State) : (rc16Island n s).sources = s.sources := by
  unfold rc16Island
  dsimp only
  split_ifs
  · rfl
  · exact (sources_of_clockwork (islandDown_clockwork 0 _)).trans (setIsl_sources s 0 _)
  · rfl
  · exact resetIsland_sources n s
  · exact forceIsland_sources n 0 3 s
  · rfl

/-- XO32K clocks no island (R72). -/
theorem inputSource_ne_xo32k (n i : Nat) : inputSource n i ≠ 2 := by
  have inputs : ∀ c ∈ islandInputs n, c ≠ 2 := by
    unfold islandInputs
    split_ifs <;> decide
  unfold inputSource
  by_cases h : i < (islandInputs n).length
  · rw [List.getD_eq_getElem _ _ h]
    exact inputs _ (List.getElem_mem h)
  · rw [List.getD_eq_default _ _ (Nat.not_lt.mp h)]
    decide

theorem islandsLoseSource_xo32k (dead : Bool) (s : State) : islandsLoseSource 2 dead s = s := by
  refine foldl_keeps id (fun n _ t => ?_) s
  have target : (t.isl n).switchTo.map (inputSource n) ≠ some 2 := by
    cases (t.isl n).switchTo with
    | none => simp
    | some i => simpa using inputSource_ne_xo32k n i
  simp [islandLosesSource, target, inputSource_ne_xo32k]

/-- The states of the sources and the judges. -/
def State.judged (s : State) : List Nat × List Judge := (s.clk.src, s.clk.judges)

theorem judged_of_sources {s t : State} (h : t.sources = s.sources) : t.judged = s.judged :=
  Prod.ext (srcs_of_sources h) (judges_of_sources h)

theorem judges_of_judged {s t : State} (h : t.judged = s.judged) : t.clk.judges = s.clk.judges := congrArg Prod.snd h

theorem src_of_judged {s t : State} (h : t.judged = s.judged) (c : Nat) : t.src c = s.src c :=
  congrArg (fun x => x.1.getD (srcIndex c) 0) h

theorem notePllFail_judged (code : Nat) (s : State) : (notePllFail code s).judged = s.judged := by
  unfold notePllFail
  split <;> rfl

theorem blockClock_clockwork (code : Nat) (s : State) : (blockClock code s).clockwork = s.clockwork := by
  have lanes (t : State) : (lanesLoseLock t).clockwork = t.clockwork := foldl_clockwork (fun t n => laneLoses_clockwork n t) _ t
  have ptp (t : State) : (ptpFaulty t).clockwork = t.clockwork := by
    unfold ptpFaulty
    split <;> rfl
  unfold blockClock
  split
  · rw [ptp, lanes]
  · rfl

/-- A source that fails is marked and its judge stops; what follows on the islands touches neither (R66, R78). -/
theorem failSource_judged (code : Nat) (stopped : Bool) (s : State) :
    (failSource code stopped s).judged = (stopJudge (judgeOf code) (s.setSrc code 3)).judged := by
  unfold failSource
  extract_lets u _ v _ w x dead
  have noted : u.judged = (stopJudge (judgeOf code) (s.setSrc code 3)).judged := notePllFail_judged code _
  clear_value u
  have rtc : v.judged = u.judged := by
    simp only [v]
    split <;> rfl
  clear_value v
  have trim : w.judged = v.judged := by
    simp only [w]
    split <;> rfl
  clear_value w
  have block : x.judged = w.judged := judged_of_sources (sources_of_clockwork (blockClock_clockwork code w))
  clear_value x
  rw [judged_of_sources (islandsLoseSource_sources code dead _), ← noted, ← rtc, ← trim, ← block]
  split
  · exact judged_of_sources (islandsLoseSource_sources 10 dead x)
  · split
    · exact judged_of_sources (islandsLoseSource_sources 11 dead x)
    · rfl

theorem failSource_src (code : Nat) (stopped : Bool) {s : State} (len : s.clk.src.length = 12) :
    (failSource code stopped s).src code = 3 := by
  rw [src_of_judged (failSource_judged code stopped s)]
  exact src_setSrc (len ▸ srcIndex_lt code) 3

theorem failSource_xo32k (stopped : Bool) (s : State) :
    failSource 2 stopped s =
      { stopJudge 1 (s.setSrc 2 3) with clk := { (stopJudge 1 (s.setSrc 2 3)).clk with rtcOnXo := false } } := by
  simp [failSource, islandsLoseSource_xo32k, blockClock, notePllFail, judgeOf]

theorem srcGood_of_failed {s : State} {c : Nat} (h : s.src c = 3) : s.srcGood c = false := by
  unfold State.srcGood
  split_ifs with field ptp carr
  · subst field; simp [h]
  · subst ptp; simp [h]
  · subst carr; simp [h]
  · simp [h]

end Sys2Proof.Machine
end

section
/-!
SUPPORT. Judges, monitors and the trim of RC16 (spec/03_clocks.md R65 to R71): the steps that O13 states.
-/

namespace Sys2Proof.Machine

open Sys2Proof

/-! ### Judges (R65 to R68) -/

/-- Judge `j` as a window or its start leaves it. -/
def putJudge (j : Nat) (g : Judge) (s : State) : State := { s with clk := { s.clk with judges := setAt s.clk.judges j g } }

theorem putJudge_self {j : Nat} {s : State} (h : j < s.clk.judges.length) (g : Judge) :
    (putJudge j g s).clk.judges[j]? = some g := by
  simp [putJudge, setAt, h]

theorem putJudge_keeps (j : Nat) (g : Judge) (s : State) : Keeps [] s (putJudge j g s) := keeps_of_eq rfl rfl

theorem judge_lt {j : Nat} {g : Judge} {s : State} (h : s.clk.judges[j]? = some g) : j < s.clk.judges.length :=
  (List.getElem?_eq_some_iff.mp h).1

section
variable {s : State} {j count : Nat} {g : Judge} (judge : s.clk.judges[j]? = some g) (active : g.active = true)
  (ready : ¬ (j = 0 ∧ s.clk.search.isSome = true))

include judge active ready

/-- A window that passes on a good source clears its failures. -/
theorem judgeWindow_passes (good : s.src (judgeSource j) = 2) (pass : windowPasses s j count = true) :
    judgeWindow j count s = putJudge j { g with fails := 0 } s := by
  simp [judgeWindow, judge, active, ready, good, pass, putJudge]

/-- The first that fails counts. -/
theorem judgeWindow_fails (good : s.src (judgeSource j) = 2) (none : g.fails = 0) (fail : windowPasses s j count = false) :
    judgeWindow j count s = putJudge j { g with fails := 1 } s := by
  simp [judgeWindow, judge, active, ready, good, none, fail, putJudge]

/-- The last window of a run of K makes the source good. -/
theorem judgeWindow_good (judging : s.src (judgeSource j) ≠ 2) (pass : windowPasses s j count = true)
    (run : s.reg (P.ckJudgeK j) ≤ g.passes + 1) :
    judgeWindow j count s = sourceGood (judgeSource j) (putJudge j ⟨true, 0, 0⟩ s) := by
  simp [judgeWindow, judge, active, ready, judging, pass, run, putJudge]

end

/-! ### XO25 judged good (R67, R69) -/

theorem beginJudge_src {j c : Nat} (h : srcIndex c ≠ srcIndex (judgeSource j)) (s : State) : (beginJudge j s).src c = s.src c := by
  unfold beginJudge
  split
  · rfl
  · split
    · rfl
    · exact src_setSrc_ne s h 1

theorem beginJudge_isl (j : Nat) (s : State) (n : Nat) : (beginJudge j s).isl n = s.isl n := by
  unfold beginJudge
  split
  · rfl
  · split <;> rfl

theorem beginJudge_keeps (j : Nat) (s : State) : Keeps [] s (beginJudge j s) := by
  unfold beginJudge
  split
  · exact keeps_of_eq rfl rfl
  · split <;> exact keeps_of_eq rfl rfl

/-- The judges that XO25 lets start: of XO32K, and of REF156 where a lane has power. -/
def lateJudges (s : State) : State :=
  let s := beginJudge 1 s
  if s.domOn 38 ∨ s.domOn 39 ∨ s.domOn 40 ∨ s.domOn 41 then beginJudge 2 s else s

theorem lateJudges_src {c : Nat} (h2 : srcIndex c ≠ srcIndex 2) (h4 : srcIndex c ≠ srcIndex 4) (s : State) :
    (lateJudges s).src c = s.src c := by
  unfold lateJudges
  dsimp only
  split
  · exact (beginJudge_src h4 _).trans (beginJudge_src h2 s)
  · exact beginJudge_src h2 s

theorem lateJudges_isl (s : State) (n : Nat) : (lateJudges s).isl n = s.isl n := by
  unfold lateJudges
  dsimp only
  split
  · exact (beginJudge_isl 2 _ n).trans (beginJudge_isl 1 s n)
  · exact beginJudge_isl 1 s n

theorem lateJudges_keeps (s : State) : Keeps [] s (lateJudges s) := by
  unfold lateJudges
  dsimp only
  split
  · exact (beginJudge_keeps 1 s).trans (beginJudge_keeps 2 _)
  · exact beginJudge_keeps 1 s

theorem sourceGood_xo25 (s : State) : sourceGood 1 s = controllerMoves (startSearch (lateJudges (s.setSrc 1 2))) := rfl

/-- XO25 is good and the trim search stands at its first code (R69). -/
theorem sourceGood_xo25_search {s : State} (len : s.clk.src.length = 12) :
    (sourceGood 1 s).src 1 = 2 ∧ (sourceGood 1 s).clk.search = some 0 ∧ (sourceGood 1 s).clk.trim = 0x80 := by
  have good : (lateJudges (s.setSrc 1 2)).src 1 = 2 :=
    (lateJudges_src (by decide) (by decide) _).trans (src_setSrc (len ▸ srcIndex_lt 1) 2)
  have moved := controllerMoves_sources (startSearch (lateJudges (s.setSrc 1 2)))
  rw [sourceGood_xo25]
  generalize controllerMoves _ = t at moved ⊢
  exact ⟨(src_of_sources moved 1).trans good, search_of_sources moved, trim_of_sources moved⟩

/-- Neither RC16 nor PLL_B, which drive the Warden's lines, is judged with XO25. -/
theorem sourceGood_xo25_calm {s : State} (h : DriveClocksGood s) : Keeps [] s (sourceGood 1 s) := by
  have still : DriveClocksGood (startSearch (lateJudges (s.setSrc 1 2))) := by
    refine h.of_eq (fun n i drive => ?_) fun n => congrArg IslClk.sel (lateJudges_isl _ n)
    obtain code | code := inputSource_drive drive i <;> rw [code]
    · exact (lateJudges_src (by decide) (by decide) _).trans (src_setSrc_ne s (by decide) 2)
    · exact (lateJudges_src (by decide) (by decide) _).trans (src_setSrc_ne s (by decide) 2)
  have good : Keeps [] s (s.setSrc 1 2) := keeps_of_eq rfl rfl
  have begun : Keeps [] (lateJudges (s.setSrc 1 2)) (startSearch (lateJudges (s.setSrc 1 2))) := keeps_of_eq rfl rfl
  rw [sourceGood_xo25]
  exact ((good.trans (lateJudges_keeps _)).trans begun).trans (controllerMoves_calm still)

/-! ### Failures (R66, R78, R82) -/

theorem judgeLimit_fails {j : Nat} {g : Judge} {s : State} (judge : s.clk.judges[j]? = some g) (active : g.active = true)
    (judging : s.src (judgeSource j) ≠ 2) : judgeLimit j s = failSource (judgeSource j) false s := by
  simp [judgeLimit, judge, active, judging]

theorem judgeOf_judgeSource {j : Nat} (h : j < 7) : judgeOf (judgeSource j) = j := by
  interval_cases j <;> rfl

/-- A judge whose source fails is stopped. -/
theorem failSource_judge {j : Nat} {g : Judge} {s : State} (hj : j < 7) (judge : s.clk.judges[j]? = some g) (stopped : Bool) :
    (failSource (judgeSource j) stopped s).clk.judges[j]? = some ⟨false, 0, 0⟩ := by
  rw [judges_of_judged (failSource_judged _ stopped s), judgeOf_judgeSource hj]
  exact putJudge_self (judge_lt judge) _

/-- XO32K's failure leaves the RTC on its other source and nothing else beside the clocks (R82). -/
theorem failSource_xo32k_calm (stopped : Bool) (s : State) :
    (failSource 2 stopped s).clk.rtcOnXo = false ∧ Keeps [] s (failSource 2 stopped s) := by
  rw [failSource_xo32k]
  exact ⟨rfl, keeps_of_eq rfl rfl⟩

theorem monitorDead_eq {c : Nat} {s : State} (power : s.pwr.vaon = true) (other : 0 < c) (known : c ≤ 11)
    (on : c ≤ 8 → s.src c ≠ 0) : monitorDead c s = failSource c true s := by
  have watched : ¬ (11 < c ∨ (c ≤ 8 ∧ s.src c = 0)) := by
    rintro (h | ⟨h, off⟩)
    · omega
    · exact on h off
  simp only [monitorDead, power, watched, if_false, if_neg (Nat.ne_of_gt other), Bool.true_eq_false]

/-! ### RC16 fails (R82) -/

theorem forceIsland_steady {n : Nat} (hn : n ≠ 0) (i cause : Nat) (s : State) : (forceIsland n i cause s).steady = s.steady := by
  rw [forceIsland, islandDown_steady hn, State.setIsl_steady]

theorem rc16Island_steady {n : Nat} (hn : n ≠ 0) (s : State) : (rc16Island n s).steady = s.steady := by
  unfold rc16Island
  dsimp only
  split_ifs
  · rfl
  · rfl
  · rw [resetIsland, islandUp_steady, State.setIsl_steady, islandDown_steady hn, State.setIsl_steady]
  · exact forceIsland_steady hn 0 3 s
  · rfl

/-- The islands that RC16 clocked, held in reset and started again. -/
def rc16Islands (s : State) : State := (List.range 24).foldl (fun s n => rc16Island n s) s

theorem rc16Islands_sources (s : State) : (rc16Islands s).sources = s.sources :=
  foldl_keeps State.sources (fun n _ t => rc16Island_sources n t) s

/-- I00 comes first, and its Cue server stops; no other island starts it again. -/
theorem rc16Islands_running {s : State} (power : s.domOn 0 = true) : (rc16Islands s).cue.running = false := by
  have order : List.range 24 = 0 :: List.range' 1 23 := rfl
  have others : ∀ n ∈ List.range' 1 23, n ≠ 0 := by decide
  have main : rc16Island 0 s = islandDown 0 (s.setIsl 0 IslClk.fresh) := by
    have bridge : s.domOn (firstDom 0) = true := power
    simp [rc16Island, bridge]
  rw [rc16Islands, order, List.foldl_cons, main,
    running_of_steady (foldl_keeps State.steady (fun n mem t => rc16Island_steady (others n mem) t) _)]
  exact (islandDown_zero _).1

/-- RC16 on its factory code, its books owed and the core of I00 where it starts again. -/
def rc16Restarted (s : State) : State :=
  { s with
    clk := { s.clk with
      trim := s.clk.factoryCode, trimming := false, search := none, owed := s.clk.owed ++ [(0, 0, 0, 4, s.now)] }
    pwr := { s.pwr with boot := bootAgain s.pwr.boot, cause := 0x10 } }

theorem rc16Fails_eq (s : State) :
    rc16Fails s = rc16Restarted (controllerMoves ((rc16Islands (s.setSrc 0 3)).setSrc 0 2)) := by
  unfold rc16Fails rc16Restarted rc16Islands
  rfl

theorem rc16Fails_state {s : State} (power : s.domOn 0 = true) (len : s.clk.src.length = 12) :
    (rc16Fails s).src 0 = 2 ∧ (rc16Fails s).clk.trim = s.clk.factoryCode ∧ (rc16Fails s).pwr.boot = bootAgain s.pwr.boot ∧
      (rc16Fails s).pwr.cause = 0x10 ∧ (rc16Fails s).cue.running = false ∧
      (rc16Fails s).clk.owed = s.clk.owed ++ [(0, 0, 0, 4, s.now)] := by
  have failed := rc16Islands_sources (s.setSrc 0 3)
  have stopped := rc16Islands_running (s := s.setSrc 0 3) power
  rw [rc16Fails_eq]
  generalize rc16Islands _ = u at failed stopped ⊢
  have moved := controllerMoves_sources (u.setSrc 0 2)
  have still : (controllerMoves (u.setSrc 0 2)).steady = (u.setSrc 0 2).steady :=
    foldl_steady (fun t n => controllerMove_steady n t) _ _
  generalize controllerMoves _ = v at moved still ⊢
  have good : v.src 0 = 2 := by
    have len : u.clk.src.length = 12 := by rw [srcs_of_sources failed, State.setSrc, setAt, List.length_set, len]
    exact (src_of_sources moved 0).trans (src_setSrc (len ▸ srcIndex_lt 0) 2)
  have factory : u.clk.factoryCode = s.clk.factoryCode := (factoryCode_of_sources failed :)
  have owed : u.clk.owed = s.clk.owed := (owed_of_sources failed :)
  have boot : u.pwr.boot = s.pwr.boot := (boot_of_powered (powered_of_sources failed) :)
  have time : u.now = s.now := (now_of_powered (powered_of_sources failed) :)
  replace factory : v.clk.factoryCode = s.clk.factoryCode := (factoryCode_of_sources moved).trans factory
  replace owed : v.clk.owed = s.clk.owed := (owed_of_sources moved).trans owed
  replace boot : v.pwr.boot = s.pwr.boot := (boot_of_powered (powered_of_sources moved)).trans boot
  replace time : v.now = s.now := (now_of_powered (powered_of_sources moved)).trans time
  refine ⟨good, factory, congrArg bootAgain boot, rfl, (running_of_steady still).trans stopped, ?_⟩
  rw [← owed, ← time]
  rfl

/-! ### Trimming (R69 to R71) -/

/-- CK_RC16_ERROR reads as the error written, within its 16 bits (R86). -/
theorem regI_rc16Error {s : State} {e : Int} (h : -32768 ≤ e ∧ e < 32768) : (s.setRegI P.ckRc16Error e).regI P.ckRc16Error = e := by
  obtain ⟨low, high⟩ := h
  have width : sizeOf' P.ckRc16Error = 2 := by decide +kernel
  rw [State.regI, State.setRegI, State.reg_setReg, width]
  exact toSigned_ofSigned low high

/-- The state with a measurement in CK_RC16_ERROR. -/
def measured (count : Nat) (s : State) : State := s.setRegI P.ckRc16Error (trimError count)

theorem measured_keeps (count : Nat) (s : State) : Keeps [P.ckRc16Error] s (measured count s) := keeps_setReg s _ _

theorem trimMeasure_searching {s : State} {k : Nat} (search : s.clk.search = some k) (more : k < 7) (count : Nat) :
    trimMeasure count s = { measured count s with
      clk := { s.clk with trim := searchCode k s.clk.trim count, search := some (k + 1) } } := by
  simp [trimMeasure, search, more, measured]

theorem trimMeasure_found {s : State} (search : s.clk.search = some 7) (count : Nat) :
    trimMeasure count s = startJudge 0 { measured count s with
      clk := { s.clk with trim := searchCode 7 s.clk.trim count, search := none, trimTemp := s.regI P.pwTj } } := by
  simp [trimMeasure, search, measured]

theorem trimMeasure_later {s : State} (search : s.clk.search = none) (trimming : s.clk.trimming = true) (count : Nat) :
    trimMeasure count s = { measured count s with
      clk := { s.clk with trim := trimStep s.clk.trim count, trimming := false, trimTemp := s.regI P.pwTj } } := by
  simp [trimMeasure, search, trimming, measured]

theorem completes_measurement {s t : State} {count : Nat} {Q : State → Prop} (run : trimMeasure count s = t) (h : Q t) :
    Completes (.rc16TrimMeasurement count) s Q :=
  ⟨t, congrArg Host.Outcome.next run, h⟩

/-! ### The obligation -/

/-- Settles O13, each clause by the lemma of its operation. -/
theorem clockJudges : Obligations.ClockJudges := by
  refine ⟨?pass, ?fail, ?good, ?limit, ?retry, ?rtc, ?rc16, ?dead, ?search, ?found, ?step, ?retrim⟩
  case pass =>
    intro s j count g judge active ready good pass
    have run : execJudgeWindowEnd j count s = .next (putJudge j { g with fails := 0 } s) := by
      rw [execJudgeWindowEnd, judgeWindow_passes judge active ready good pass]
    exact completes_of_eq run ⟨putJudge_self (judge_lt judge) _, putJudge_keeps j _ s⟩
  case fail =>
    intro s j count g judge active none ready good fail
    have run : execJudgeWindowEnd j count s = .next (putJudge j { g with fails := 1 } s) := by
      rw [execJudgeWindowEnd, judgeWindow_fails judge active ready good none fail]
    exact completes_of_eq run ⟨putJudge_self (judge_lt judge) _, putJudge_keeps j _ s⟩
  case good =>
    intro s count g judge active search len judging pass enough
    have run : execJudgeWindowEnd 0 count s = .next (sourceGood 1 (putJudge 0 ⟨true, 0, 0⟩ s)) := by
      have ready : ¬ (0 = 0 ∧ s.clk.search.isSome = true) := by simp [search]
      have xo25 : s.src (judgeSource 0) ≠ 2 := judging
      have long : s.reg (P.ckJudgeK 0) ≤ g.passes + 1 := enough
      have good := judgeWindow_good judge active ready xo25 pass long
      have source : judgeSource 0 = 1 := rfl
      rw [source] at good
      rw [execJudgeWindowEnd, good]
    obtain ⟨xo25, begun, code⟩ := sourceGood_xo25_search (s := putJudge 0 ⟨true, 0, 0⟩ s) len
    refine completes_of_eq run ⟨xo25, begun, code, fun warden bridge => sourceGood_xo25_calm (s := putJudge 0 ⟨true, 0, 0⟩ s) ?_⟩
    rintro n (rfl | rfl)
    · exact (srcGood_drive (.inl rfl) s _).mp warden
    · exact (srcGood_drive (.inr rfl) s _).mp bridge
  case limit =>
    intro s j g hj judge active len judging
    have run : execJudgeLimitExpiry j s = .next (failSource (judgeSource j) false s) := by
      rw [execJudgeLimitExpiry, judgeLimit_fails judge active judging]
    refine completes_of_eq run ⟨failSource_src _ false len, failSource_judge hj judge false, ?_⟩
    rintro rfl
    have source : judgeSource 1 = 2 := rfl
    rw [source]
    exact failSource_xo32k_calm false s
  case retry =>
    intro s j failed low ready hj
    have run : execJudgeRetry j s = .next (putJudge j ⟨true, 0, 0⟩ s) := by
      rw [execJudgeRetry, judgeRetry, if_pos ⟨failed, low, ready⟩]
      rfl
    exact completes_of_eq run ⟨putJudge_self hj _, putJudge_keeps j _ s⟩
  case rtc =>
    intro s power on len
    have run : execMonitorDeadEdge 2 s = .next (failSource 2 true s) := by
      rw [execMonitorDeadEdge, monitorDead_eq power (by decide) (by decide) fun _ => on]
    obtain ⟨rtc, keeps⟩ := failSource_xo32k_calm true s
    exact completes_of_eq run ⟨failSource_src 2 true len, rtc, keeps⟩
  case rc16 =>
    intro s power on len
    have run : execMonitorDeadEdge 0 s = .next (rc16Fails s) := by
      simp [execMonitorDeadEdge, monitorDead, power]
    exact completes_of_eq run (rc16Fails_state on len)
  case dead =>
    intro s c power other known on len
    have run : execMonitorDeadEdge c s = .next (failSource c true s) := by
      rw [execMonitorDeadEdge, monitorDead_eq power other known on]
    have failed := failSource_src c true len
    exact completes_of_eq run ⟨failed, srcGood_of_failed failed⟩
  case search =>
    intro s k count search more
    exact completes_measurement (trimMeasure_searching search more count)
      ⟨rfl, rfl, fun range => regI_rc16Error (s := s) range, measured_keeps count s⟩
  case found =>
    intro s count search judge
    exact completes_measurement (trimMeasure_found search count) ⟨rfl, rfl, putJudge_self judge _, measured_keeps count s⟩
  case step =>
    intro s count search trimming
    exact completes_measurement (trimMeasure_later search trimming count) ⟨rfl, rfl, measured_keeps count s⟩
  case retrim =>
    intro s good search
    have run : execRc16RetrimTimer s = .next { s with clk := { s.clk with trimming := true } } := by
      rw [execRc16RetrimTimer, startTrim, if_pos ⟨good, search⟩]
    exact completes_of_eq run ⟨rfl, keeps_of_eq rfl rfl⟩

end Sys2Proof.Machine
end

section
/-!
SUPPORT. Switches of an island's clock, PLLs and CK_OBS (spec/03_clocks.md R63 to R80): the steps that O14 states.
-/

namespace Sys2Proof.Machine

open Sys2Proof

/-- A notification to a main host that no address leads to is dropped (R189). -/
theorem notifyMain_unrouted {s : State} (h : s.cue.route = none) (pid : Nat) : notifyMain pid s = s := by
  simp [notifyMain, h]

/-! ### Reset of a forced island (R79, R80) -/

/-- Of I00 the Stage manager alone starts again, and the books wait until it runs (R103). -/
theorem releaseForced_zero {s : State} {frm into cause : Nat} (forced : (s.isl 0).forced = some (frm, into, cause)) :
    releaseForced 0 s = { s with
      clk := { s.clk with
        islands := setAt s.clk.islands 0 { s.isl 0 with inReset := false, forced := none }
        owed := s.clk.owed ++ [(0, frm, into, cause, s.now)] }
      pwr := { s.pwr with boot := .handOver, cause := 0x80 } } := by
  simp [releaseForced, forced, forcedBooks, State.setIsl]

theorem forcedBooks_isl (n frm into cause : Nat) (s : State) (m : Nat) : (forcedBooks n frm into cause s).isl m = s.isl m := by
  unfold forcedBooks
  split
  · exact isl_of_clockwork (makeBooks_clockwork _ s) m
  · rfl

/-- The controller's move after the release neither resets nor forces the island again. -/
theorem releaseForced_released {n : Nat} {s : State} {f : Nat × Nat × Nat} (other : n ≠ 0) (inside : n < s.clk.islands.length)
    (forced : (s.isl n).forced = some f) :
    ((releaseForced n s).isl n).inReset = false ∧ ((releaseForced n s).isl n).forced = none := by
  obtain ⟨frm, into, cause⟩ := f
  let u := s.setIsl n { s.isl n with inReset := false, forced := none }
  have run : releaseForced n s = controllerMove n (forcedBooks n frm into cause (if u.present n then islandUp n u else u)) := by
    simp only [releaseForced, forced, if_neg other, u]
  have up : (if u.present n then islandUp n u else u).isl n = { s.isl n with inReset := false, forced := none } := by
    rw [isl_of_clockwork (s := u) (by rw [clockwork_ite, islandUp_clockwork, ite_self])]
    exact isl_setIsl inside _
  rw [run]
  constructor
  · rw [controllerMove_keeps IslClk.inReset (fun _ _ => rfl) (fun _ _ _ => rfl), forcedBooks_isl, up]
  · rw [controllerMove_keeps IslClk.forced (fun _ _ => rfl) (fun _ _ _ => rfl), forcedBooks_isl, up]

/-! ### PLLs (R63, R84) -/

theorem pllRestart_enables {p : Nat} {s : State} (failed : s.src (5 + p) = 3) (held : s.clk.pllHeld.getD p false = false)
    (running : s.pwr.boot = .running) (xo25 : s.src 1 = 2) : pllRestart p s = setPll p true s := by
  rw [pllRestart, if_pos ⟨failed, running⟩, enablePll, if_pos ⟨xo25, held⟩]

theorem pllRestart_held {p : Nat} {s : State} (held : s.clk.pllHeld.getD p false = true) : pllRestart p s = s := by
  have kept : enablePll p s = s := if_neg fun ready => absurd (held.symm.trans ready.2) (by decide)
  rw [pllRestart, kept, ite_self]

/-- The clock of a PLL at its lock: PLL_A takes its output, and a PLL that had not failed is judged. -/
def locked (p : Nat) (s : State) : State :=
  let s := if p = 0 then { s with clk := { s.clk with plla := s.pllaTarget } } else s
  if s.src (5 + p) = 3 then s else s.setSrc (5 + p) 1

theorem pllLock_eq {p : Nat} {s : State} (main : p ≠ 3) (on : s.clk.pllOn.getD p false = true) (xo25 : s.src 1 = 2) :
    pllLock p s = startJudge (3 + p) (locked p s) := by
  have runs : ¬ (s.clk.pllOn.getD p false = false ∨ ¬ s.src 1 = 2) := by rw [on]; simp [xo25]
  simp only [pllLock, if_neg runs, if_neg main, locked]

theorem locked_judges (p : Nat) (s : State) : (locked p s).clk.judges = s.clk.judges := by
  unfold locked
  dsimp only
  split_ifs <;> rfl

theorem locked_keeps (p : Nat) (s : State) : Keeps [] s (locked p s) := by
  unfold locked
  dsimp only
  split_ifs <;> exact keeps_of_eq rfl rfl

theorem locked_plla (s : State) : (locked 0 s).clk.plla = s.pllaTarget := by
  simp only [locked, if_pos]
  split_ifs <;> rfl

/-! ### CK_OBS (R526) -/

theorem srcRuns_main {c : Nat} (h : c ≤ 8) (s : State) : srcRuns s c = true ↔ s.src c = 1 ∨ s.src c = 2 := by
  have main : c ≠ 9 ∧ c ≠ 10 ∧ c ≠ 11 := by omega
  obtain ⟨field, ptp, carr⟩ := main
  simp [srcRuns, srcRuns.srcRunsAt, field, ptp, carr]

theorem ckObs_eq {s : State} {c d : Nat} (power : s.pwr.vio18 = true) (main : c ≤ 8) (divisor : d < 16)
    (sel : s.reg P.ckObsSel = 16 * c + d) : ckObs s = if s.src c = 1 ∨ s.src c = 2 then some (obsNow s c, d) else none := by
  have high : bits (16 * c + d) 7 4 = c := by simp [bits]; omega
  have low : bits (16 * c + d) 3 0 = d := by simp [bits]; omega
  have some' : 16 * c + d ≠ 0xFF := by omega
  by_cases runs : s.src c = 1 ∨ s.src c = 2
  · have on := (srcRuns_main main s).mpr runs
    simp [ckObs, sel, high, low, some', on, power, runs]
  · have off : srcRuns s c = false := Bool.eq_false_iff.mpr fun h => runs ((srcRuns_main main s).mp h)
    simp [ckObs, sel, high, off, runs]

/-! ### The obligation -/

/-- Settles O14, each clause by the lemma of its operation. -/
theorem clockSwitches : Obligations.ClockSwitches := by
  refine ⟨?request, ?complete, ?listed, ?forced, ?manager, ?island, ?restart, ?held, ?lock, ?output⟩
  case request =>
    intro s n i clocked input good free other inside
    have run : execClockSwitchRequest n i s = .next (driveStops n (s.setIsl n (switching s n i))) :=
      congrArg Host.Outcome.next (requestSwitch_starts clocked input good free other)
    refine completes_of_eq run ⟨(isl_of_clockwork (driveStops_clockwork n _) n).trans (isl_setIsl inside _), fun calm => ?_⟩
    rw [← requestSwitch_starts clocked input good free other]
    exact requestSwitch_calm (fun drive => calm.resolve_right fun others => drive.elim others.1 others.2) i
  case complete =>
    intro s n i pending clocked free inside
    have run : execClockSwitchComplete n s =
        .next (s.setIsl n { s.isl n with sel := i, switchTo := none, waiting := none, listed := false }) := by
      simp [execClockSwitchComplete, completeSwitch, pending, clocked, free]
    exact completes_of_eq run ⟨isl_setIsl inside _, keeps_of_eq rfl rfl⟩
  case listed =>
    intro s n i pending disabled route inside
    have run : execClockHangTimeout n s = .next (s.setIsl n { s.isl n with listed := true }) := by
      simp [execClockHangTimeout, hangTimeout, pending, disabled, notifyMain_unrouted, State.setIsl, route]
    exact completes_of_eq run ⟨isl_setIsl inside _, keeps_of_eq rfl rfl⟩
  case forced =>
    intro s n i pending enabled len inside
    have run : execClockHangTimeout n s = .next (forceIsland n i 1 s) := by
      simp [execClockHangTimeout, hangTimeout, pending, enabled]
    have clock := forceIsland_isl (len ▸ inside) i 1
    refine completes_of_eq run ?_
    rw [clock]
    exact ⟨rfl, rfl, rfl, rfl⟩
  case manager =>
    intro s f forced inside
    have run := congrArg (Host.Outcome.next (ρ := Refusal) (φ := Fault)) (releaseForced_zero forced)
    refine completes_of_eq run ?_
    have clock := isl_setIsl inside { s.isl 0 with inReset := false, forced := none }
    exact ⟨congrArg IslClk.inReset clock, congrArg IslClk.forced clock, rfl, rfl, rfl, keeps_of_eq rfl rfl⟩
  case island =>
    intro s n f other inside forced len
    have run : execForcedSwitchResetRelease n s = .next (releaseForced n s) := rfl
    exact completes_of_eq run (releaseForced_released (Nat.ne_of_gt other) (len ▸ inside) forced)
  case restart =>
    intro s p hp len failed held running xo25
    have run : execPllRestart p s = .next (setPll p true s) :=
      congrArg Host.Outcome.next (pllRestart_enables failed held running xo25)
    exact completes_of_eq run ⟨by simp [setPll, setAt, len, hp], keeps_of_eq rfl rfl⟩
  case held =>
    intro s p held failed
    have run : execPllRestart p s = .next s := congrArg Host.Outcome.next (pllRestart_held held)
    exact completes_of_eq run rfl
  case lock =>
    intro s p main on xo25 judge
    have run : execPllLock p s = .next (startJudge (3 + p) (locked p s)) := congrArg Host.Outcome.next (pllLock_eq main on xo25)
    have started := putJudge_self (s := locked p s) ((locked_judges p s).symm ▸ judge) ⟨true, 0, 0⟩
    refine completes_of_eq run ⟨started, ?_, (locked_keeps p s).trans (putJudge_keeps (3 + p) ⟨true, 0, 0⟩ _)⟩
    rintro rfl
    exact locked_plla s
  case output =>
    intro s c d power main divisor sel
    exact ckObs_eq power main divisor sel

end Sys2Proof.Machine
end

section
/-!
SUPPORT. Starts of the main die and the boot (spec/04_power_and_start.md R103 to R108): the steps that O16 states.
-/

namespace Sys2Proof.Machine

open Sys2Proof

/-! ### What leaves the power layer alone -/

theorem foldl_powered {α : Type} {f : State → α → State} (h : ∀ s x, (f s x).powered = s.powered) (l : List α) (s : State) :
    (l.foldl f s).powered = s.powered :=
  foldl_keeps State.powered (fun x _ s => h s x) s

theorem islandDown_powered (n : Nat) (s : State) : (islandDown n s).powered = s.powered :=
  powered_of_clockwork (islandDown_clockwork n s)

theorem islandUp_powered (n : Nat) (s : State) : (islandUp n s).powered = s.powered := powered_of_clockwork (islandUp_clockwork n s)

theorem leaveSource_powered (code : Nat) (s : State) : (leaveSource code s).powered = s.powered :=
  powered_of_sources (leaveSource_sources code s)

theorem stopPll_powered (p : Nat) (s : State) : (stopPll p s).powered = s.powered := by
  refine Eq.trans ?_ (leaveSource_powered (5 + p) s)
  unfold stopPll
  generalize leaveSource (5 + p) s = u
  dsimp only
  split <;> rfl

/-- The sources that stop with a domain are the clock controller's. -/
theorem sourcesDown_powered (d : Nat) (s : State) : (sourcesDown d s).powered = s.powered := by
  unfold sourcesDown
  split_ifs
  · rfl
  · exact (stopPll_powered 1 _).trans (stopPll_powered 0 s)
  · exact (stopPll_powered 3 _).trans (stopPll_powered 2 s)
  · have left := (leaveSource_powered 10 _).trans (leaveSource_powered 4 s)
    generalize leaveSource 10 _ = u at left ⊢
    exact left
  · rfl
  · rfl
  · rfl

theorem dropDomain_powered (d : Nat) (into : DomState) (s : State) : (dropDomain d into s).powered = s.powered := by
  unfold dropDomain
  extract_lets was u v
  have stopped : u.powered = s.powered :=
    powered_of_clockwork ((State.setDom_clockwork _ d into).trans (domainStops_clockwork d s))
  clear_value u
  have lost : v.powered = u.powered := by
    simp only [v]
    split
    · rfl
    · exact powered_of_clockwork (domainLoses_clockwork d u)
  clear_value v
  rw [← stopped, ← lost]
  split
  · split
    · exact islandDown_powered _ _
    · rfl
  · rfl

theorem loseDomain_powered (d : Nat) (s : State) : (loseDomain d s).powered = s.powered := by
  unfold loseDomain
  split
  · rfl
  · exact (sourcesDown_powered d _).trans (dropDomain_powered d .off s)

theorem mainDomainsOff_powered (s : State) : (mainDomainsOff s).powered = s.powered :=
  (foldl_powered (fun t d => loseDomain_powered d t) _ _).trans (foldl_powered (fun t d => loseDomain_powered d t) vcoreOnly s)

theorem domainUp_powered (d : Nat) (s : State) : (domainUp d s).powered = s.powered := by
  unfold domainUp
  extract_lets u _ v w
  have on : u.powered = s.powered := powered_of_clockwork (State.setDom_clockwork s d .on)
  clear_value u
  have journal : v.powered = u.powered := by
    simp only [v]
    split <;> rfl
  clear_value v
  have board : w.powered = v.powered := by
    simp only [w]
    split
    · exact powered_of_clockwork (callboardReturns_clockwork v)
    · rfl
  clear_value w
  rw [← on, ← journal, ← board]
  split
  · exact islandUp_powered _ _
  · rfl

/-! ### A start of the main die (R103) -/

/-- Both enables are low, and no PW_RESET_REQ waits. -/
theorem mainDieStart_lines (cause : Nat) (s : State) : (mainDieStart cause s).pwr.coreEn = false ∧
    (mainDieStart cause s).pwr.srdEn = false ∧ (mainDieStart cause s).pwr.resetArmed = false := by
  unfold mainDieStart
  exact ⟨rfl, rfl, rfl⟩

theorem clocksRestart_powered (s : State) : (clocksRestart s).powered = s.powered := rfl

theorem mainDieStart_deferred (cause : Nat) (s : State) : (mainDieStart cause s).pwr.deferred = s.pwr.deferred := by
  have kept : (islandDown 0 (clocksRestart (mainDomainsOff s))).powered = s.powered :=
    ((islandDown_powered 0 _).trans (clocksRestart_powered _)).trans (mainDomainsOff_powered s)
  unfold mainDieStart
  generalize islandDown 0 _ = u at kept ⊢
  exact (deferred_of_powered kept :)

/-! ### The boot ROM (R106 to R108) -/

theorem bootRomStart_rom {s : State} (held : s.pwr.boot = .held) (power : s.pwr.vaon = true) :
    (bootRomStart s).pwr.boot = .rom ∧ (bootRomStart s).pwr.bootStatus = 0 := by
  have starts : ¬ (¬ s.pwr.boot = .held ∨ s.pwr.vaon = false) := by simp [held, power]
  rw [bootRomStart, if_neg starts]
  extract_lets _ u v
  have judged : v.pwr.boot = .rom ∧ v.pwr.bootStatus = 0 := ⟨rfl, rfl⟩
  clear_value v
  have up := domainUp_powered 36 (v.setDom 28 .on)
  generalize domainUp 36 _ = w at up ⊢
  exact ⟨(boot_of_powered up).trans judged.1, (bootStatus_of_powered up).trans judged.2⟩

/-- No signed loader matches its header: the ROM holds. -/
theorem loaderChecked_holds {s : State} {current other : Bool} (rom : s.pwr.boot = .rom)
    (main : (current && slotHashes s (loaderCurrent s)) = false) (spare : (other && slotHashes s (1 - loaderCurrent s)) = false) :
    loaderChecked current other s = { s with pwr := { s.pwr with boot := .romHold, coreEn := false } } := by
  simp only [loaderChecked, rom, main, spare, not_true_eq_false, if_false, and_self, if_true]

/-- A loader runs, and no staged image waits. -/
theorem loaderChecked_hands {s : State} {current other : Bool} {first : Bool} (rom : s.pwr.boot = .rom)
    (main : (current && slotHashes s (loaderCurrent s)) = first)
    (spare : first = false → (other && slotHashes s (1 - loaderCurrent s)) = true)
    (none : stagedWaiting (ensureReady s) = false) :
    loaderChecked current other s =
      handOver (if first then 0x00 else 0x01) { ensureReady s with
        pwr := { (ensureReady s).pwr with
          loaderRun := if first then loaderCurrent s else 1 - loaderCurrent s
          deferred := false } } := by
  have runs : ¬ (first = false ∧ (other && slotHashes s (1 - loaderCurrent s)) = false) := fun ⟨f, o⟩ => by simp [spare f] at o
  unfold loaderChecked
  simp only [main, rom, not_true_eq_false, if_false, runs]
  exact if_neg (Bool.eq_false_iff.mp none)

/-! ### ROM hold (R107) -/

theorem doorSend_uart (baud f turn lead : Nat) (b : Bytes) (s : State) :
    (doorSend baud f turn lead b s).sent = .uart 0 b :: s.sent := by
  have driven (t : State) : t.drives (.uart 0 b) = true := rfl
  simp only [doorSend, State.emit, driven, if_true]

/-- SDR_DE, high from its lead time before the first byte, falls after this moment. -/
theorem doorSend_deFall (baud f turn : Nat) {lead : Nat} (b : Bytes) {s : State} (leads : 0 < usUp lead) :
    s.mono < (doorSend baud f turn lead b s).ser.deFall := by
  by_cases going : s.mono < s.ser.deFall
  · simp only [doorSend, State.emit, going, decide_true, if_true]
    omega
  · simp only [doorSend, State.emit, going, decide_false, Bool.false_eq_true, if_false]
    omega

theorem doorSend_keeps (baud f turn lead : Nat) (b : Bytes) (s : State) : Keeps [] s (doorSend baud f turn lead b s) :=
  keeps_of_eq rfl rfl

/-! ### The Stage manager starts (R172) -/

theorem startBooks_powered (s : State) : (startBooks s).powered = s.powered := by
  unfold startBooks
  extract_lets due _ u
  have made : u.powered = s.powered :=
    (foldl_powered (fun t b => powered_of_clockwork (makeBooks_clockwork b t)) due _)
  clear_value u
  rw [← made, powered_of_sources (controllerMove_sources 0 _)]
  split <;> rfl

theorem updateTier_powered (s : State) : (updateTier s).powered = s.powered := by
  unfold updateTier
  split
  · rfl
  · have posted := relay_clockwork 18 0x0C 3 0 (releasePlls (s.setReg P.smgTier (tierNow s)))
    generalize relay 18 0x0C 3 0 _ = u at posted ⊢
    exact (powered_of_clockwork posted :)

theorem managerStart_runs {s : State} (hand : s.pwr.boot = .handOver) :
    (managerStart s).pwr.boot = .running ∧ (managerStart s).pwr.resetArmed = false := by
  unfold managerStart
  rw [if_neg (not_not_intro hand)]
  extract_lets u v cause w x _ _ y
  have kept : (managerStartBlocks (updateTier (startBooks y))).powered = y.powered :=
    ((powered_of_clockwork (managerStartBlocks_clockwork _)).trans (updateTier_powered _)).trans (startBooks_powered y)
  exact ⟨boot_of_powered kept, resetArmed_of_powered kept⟩

/-! ### The obligation -/

/-- Settles O16, each clause by the lemma of its operation. -/
theorem startsAndBoot : Obligations.StartsAndBoot := by
  refine ⟨?reset, ?watchdog, ?request, ?deferred, ?rom, ?current, ?hold, ?spare, ?copy, ?timeout, ?frame, ?manager⟩
  case reset =>
    intro s
    obtain ⟨boot, cause, server, out, -⟩ := mainDieStart_state 2 (journalWait s)
    obtain ⟨core, srd, -⟩ := mainDieStart_lines 2 (journalWait s)
    exact completes_of_eq rfl ⟨boot, cause, out, core, srd, server⟩
  case watchdog =>
    intro s
    obtain ⟨boot, cause, server, out, -⟩ := mainDieStart_state 4 (journalWait s)
    obtain ⟨core, srd, -⟩ := mainDieStart_lines 4 (journalWait s)
    exact completes_of_eq rfl ⟨boot, cause, out, core, srd, server⟩
  case request =>
    intro s armed
    have run : execResetRequestDelayExpiry s = .next (mainDieStart 8 (journalWait s)) := by
      rw [execResetRequestDelayExpiry, if_pos armed]
    obtain ⟨boot, cause, server, out, -⟩ := mainDieStart_state 8 (journalWait s)
    obtain ⟨core, -, disarmed⟩ := mainDieStart_lines 8 (journalWait s)
    exact completes_of_eq run ⟨boot, cause, out, core, server, disarmed⟩
  case deferred =>
    intro s deferred running vsup vcore
    have run : execDeferredCopyStart s = .next (mainDieStart 0x20 { s with pwr := { s.pwr with deferred := false } }) := by
      rw [execDeferredCopyStart, if_pos ⟨deferred, running, vsup, vcore⟩]
    obtain ⟨boot, cause, server, out, -⟩ := mainDieStart_state 0x20 { s with pwr := { s.pwr with deferred := false } }
    exact completes_of_eq run ⟨boot, cause, out, server, mainDieStart_deferred 0x20 _⟩
  case rom =>
    intro s held power
    exact completes_of_eq rfl (bootRomStart_rom held power)
  case current =>
    intro s other rom hashes none
    have run := loaderChecked_hands (current := true) (other := other) (first := true) rom (by simp [hashes]) nofun none
    exact completes_of_eq (congrArg Host.Outcome.next run) ⟨rfl, rfl, rfl, rfl⟩
  case hold =>
    intro s current other rom main spare
    have run := loaderChecked_holds rom main spare
    exact completes_of_eq (congrArg Host.Outcome.next run) ⟨rfl, rfl, keeps_of_eq rfl rfl⟩
  case spare =>
    intro s current rom main hashes none
    have run := loaderChecked_hands (other := true) rom main (by simp [hashes]) none
    exact completes_of_eq (congrArg Host.Outcome.next run) ⟨rfl, rfl, rfl, rfl⟩
  case copy =>
    intro s waits vcore vsup
    have run : stagedCopy s = handOver 0x02 (bootCopy s) := by rw [stagedCopy, if_pos ⟨waits, vcore, vsup⟩]
    exact completes_of_eq (congrArg Host.Outcome.next run) ⟨rfl, rfl, rfl⟩
  case timeout =>
    intro s waits
    have run : vcoreWaitTimeout s = deferCopy s := by rw [vcoreWaitTimeout, if_pos waits]
    exact completes_of_eq (congrArg Host.Outcome.next run) ⟨rfl, rfl, rfl, rfl, rfl, keeps_of_eq rfl rfl⟩
  case frame =>
    intro s hold power
    have run : romHoldFrame s = doorSend 115200 0 100 10 (cobsEncode (s.postId ++ [0x10] ++ [crc8 (s.postId ++ [0x10])]) ++ [0]) s := by
      rw [romHoldFrame, if_pos hold]
    exact completes_of_eq (congrArg Host.Outcome.next run)
      ⟨doorSend_uart _ _ _ _ _ s, doorSend_deFall _ _ _ _ (by decide), doorSend_keeps _ _ _ _ _ s⟩
  case manager =>
    intro s hand
    exact completes_of_eq rfl (managerStart_runs hand)

end Sys2Proof.Machine
end

section
/-!
SUPPORT. A request over Tirwa is answered through channel 15 of the Callboard: the post that refutes O55.
-/

namespace Sys2Proof.Machine

open Sys2Proof

/-! ### A relayed notice and its result (R128, R131) -/

/-- Only the domain of an island and its reset decide whether it is present. -/
theorem present_of {s t : State} (clocks : t.clockwork = s.clockwork) (domains : ∀ d, t.dom d = s.dom d) (n : Nat) :
    t.present n = s.present n := by
  rw [State.present, State.domOn, isl_of_clockwork clocks, domains]
  rfl

theorem storeNotice_present (n init word : Nat) (s : State) (m : Nat) : (storeNotice n init word s).present m = s.present m :=
  present_of (storeNotice_clockwork n init word s) (dom_of_steady (storeNotice_steady n init word s)) m

theorem storeNotice_cbdOn (n init word : Nat) (s : State) : (storeNotice n init word s).cbdOn = s.cbdOn := by
  rw [State.cbdOn, storeNotice_present, State.domOn, dom_of_steady (storeNotice_steady n init word s)]
  rfl

/-- A result is shown in CBD_RESULT_NEW. -/
theorem recordResult_shown {s : State} (noCancels : s.cbd.cancels = []) (noRetracts : s.cbd.retracts = []) (n result code : Nat) :
    (recordResult n result code s).reg P.cbdResultNew =
      setBit (s.reg P.cbdResultNew) n true % 2 ^ (8 * sizeOf' P.cbdResultNew) := by
  have other : P.cbdResultNew ≠ P.pwFabEventDrops := by decide
  rw [recordResult_quiet noCancels noRetracts, resultNoted, (offerEvent_keeps _ _ _).1 _ (by simp [other])]
  exact State.reg_setReg _ _ _

theorem readNotice_held {n : Nat} {s : State} (on : s.cbdOn = true) (full : (s.chan n).full = true)
    (waits : (s.chan n).taken = false) :
    (readNotice n (s.chan n).receiver s).2.2 = s.setChan n { s.chan n with inDelivery := true } := by
  simp [readNotice, on, full, waits]

theorem deliverNotice_taken {n : Nat} {s : State} (going : (s.chan n).inDelivery = true) (ack : (s.chan n).ackMode = true) :
    deliverNotice n true s = s.setChan n { s.chan n with inDelivery := false, taken := true } := by
  simp [deliverNotice, going, ack]

theorem ackNotice_taken {n : Nat} {s : State} (on : s.cbdOn = true) (ack : (s.chan n).ackMode = true) (full : (s.chan n).full = true)
    (taken : (s.chan n).taken = true) (code : Nat) :
    (ackNotice n (s.chan n).receiver code s).2 = recordResult n 2 (code % 2 ^ 16) s := by
  simp [ackNotice, on, ack, full, taken]

theorem posted_ackMode (c : Channel) (init word : Nat) : (c.posted init word).ackMode = c.ackMode := by
  rw [Channel.ackMode, Channel.posted, Channel.ackMode]

/-- A channel whose waiting notice was read by its receiver. -/
def noticeTaken (n : Nat) (s : State) : State :=
  (s.setChan n { s.chan n with inDelivery := true }).setChan n { s.chan n with inDelivery := false, taken := true }

theorem noticeTaken_chan {n : Nat} {s : State} (inside : n < s.cbd.ch.length) :
    (noticeTaken n s).chan n = { s.chan n with inDelivery := false, taken := true } := by
  refine chan_setChan ?_ _
  simpa [State.setChan, setAt] using inside

theorem deliverNotice_read {n : Nat} {s : State} (inside : n < s.cbd.ch.length) (on : s.cbdOn = true)
    (ack : (s.chan n).ackMode = true) (full : (s.chan n).full = true) (waits : (s.chan n).taken = false) :
    deliverNotice n true (readNotice n (s.chan n).receiver s).2.2 = noticeTaken n s := by
  have chan := chan_setChan inside { s.chan n with inDelivery := true }
  rw [readNotice_held on full waits, deliverNotice_taken (by rw [chan]) (by rw [chan]; exact ack), chan]
  rfl

/-- A notice that waits in its channel, read and acknowledged, ends with a result. -/
theorem noticeTaken_acknowledged {n rcv code : Nat} {u t : State} (inside : n < u.cbd.ch.length) (on : u.cbdOn = true)
    (full : (u.chan n).full = true) (waits : (u.chan n).receiver = rcv) (taken : t = noticeTaken n u)
    (ack : (u.chan n).ackMode = true) :
    (t.chan n).ackMode = true ∧ (ackNotice n rcv code t).2 = recordResult n 2 (code % 2 ^ 16) t := by
  have chan := noticeTaken_chan inside
  subst waits taken
  have mode : ((noticeTaken n u).chan n).ackMode = true := by rw [chan]; exact ack
  have receiver : ((noticeTaken n u).chan n).receiver = (u.chan n).receiver := by rw [chan]; rfl
  rw [← receiver]
  exact ⟨mode, ackNotice_taken (s := noticeTaken n u) on mode (by rw [chan]; exact full) (by rw [chan]) code⟩

/-- What follows the posting of a relayed notice: where it is accepted, its receiver reads and acknowledges it. -/
def relayed (n code : Nat) (p : Nat × State) : State :=
  if p.1 = stOk then
    let rcv := (p.2.chan n).receiver
    let t := deliverNotice n true (readNotice n rcv p.2).2.2
    if (t.chan n).ackMode then (ackNotice n rcv code t).2 else t
  else p.2

theorem relay_eq (n sender kind code : Nat) (s : State) : relay n sender kind code s =
    relayed n code (postNotice n sender (mkNotice sender (s.drawBits 16).1 kind 0 0) 1 0xFFFF (s.drawBits 16).2) := by
  unfold relay relayed
  rfl

section
variable {n sender : Nat} {s : State} (inside : n < s.cbd.ch.length) (on : s.cbdOn = true)
  (may : (s.chan n).permits sender = true) (there : s.present (initIsland (s.chan n).receiver) = true)
  (empty : (s.chan n).full = false) (ack : (s.chan n).ackMode = true)

include inside on may there empty ack

/-- A notice posted to a waiting receiver ends with a result (R125 to R128). -/
theorem relayed_result (word code : Nat) : ∃ t : State,
    relayed n code (postNotice n sender word 1 0xFFFF s) = recordResult n 2 (code % 2 ^ 16) t ∧ t.cbd.cancels = s.cbd.cancels ∧
      t.cbd.retracts = s.cbd.retracts := by
  have chan := storeNotice_chan inside sender word
  have cbd := storeNotice_cbd n sender word s
  have still := (storeNotice_cbdOn n sender word s).trans on
  rw [postNotice_accepted on may there empty word]
  generalize storeNotice n sender word s = u at chan cbd still ⊢
  have cancels : u.cbd.cancels = s.cbd.cancels := by rw [cbd]
  have retracts : u.cbd.retracts = s.cbd.retracts := by rw [cbd]
  have long : n < u.cbd.ch.length := by rw [cbd]; simpa [setAt] using inside
  have mode : (u.chan n).ackMode = true := by rw [chan, posted_ackMode, ack]
  have full : (u.chan n).full = true := by rw [chan]; exact posted_full _ _ _
  have read := deliverNotice_read long still mode full (by rw [chan]; rfl)
  obtain ⟨taken, acknowledged⟩ := noticeTaken_acknowledged (code := code) long still full rfl rfl mode
  refine ⟨noticeTaken n u, ?_, ?_, ?_⟩
  · unfold relayed
    dsimp only
    rw [if_pos rfl, read, if_pos taken, acknowledged]
  · exact cancels
  · exact retracts

theorem relay_result (kind code : Nat) : ∃ t : State, relay n sender kind code s = recordResult n 2 (code % 2 ^ 16) t ∧
    t.cbd.cancels = s.cbd.cancels ∧ t.cbd.retracts = s.cbd.retracts := by
  rw [relay_eq]
  exact relayed_result (s := (s.drawBits 16).2) inside on may there empty ack _ code

end

/-- The bit of its channel stands in CBD_RESULT_NEW after a relayed notice. -/
theorem relay_shown {sender : Nat} {s : State} (inside : 15 < s.cbd.ch.length) (on : s.cbdOn = true)
    (may : (s.chan 15).permits sender = true) (there : s.present (initIsland (s.chan 15).receiver) = true)
    (empty : (s.chan 15).full = false) (ack : (s.chan 15).ackMode = true) (noCancels : s.cbd.cancels = [])
    (noRetracts : s.cbd.retracts = []) (kind code : Nat) : (relay 15 sender kind code s).reg P.cbdResultNew ≠ 0 := by
  obtain ⟨t, run, cancels, retracts⟩ := relay_result inside on may there empty ack kind code
  have width : sizeOf' P.cbdResultNew = 4 := by decide +kernel
  rw [run, recordResult_shown (cancels.trans noCancels) (retracts.trans noRetracts), width]
  norm_num [setBit, setBits, bits]
  omega

/-! ### The answer to a request over Tirwa (R34, R131) -/

/-- The post answers over Tirwa through channel 15, whose receiver waits and acknowledges. -/
structure AnswersTirwa (s : State) : Prop where
  inside : 15 < s.cbd.ch.length
  on : s.cbdOn = true
  may : (s.chan 15).permits 2 = true
  there : s.present (initIsland (s.chan 15).receiver) = true
  empty : (s.chan 15).full = false
  ack : (s.chan 15).ackMode = true
  noCancels : s.cbd.cancels = []
  noRetracts : s.cbd.retracts = []
  carries : s.carries .tirwa = true
  calm : s.pwr.forcedStart = false

theorem storeReply_cue (m : Master) (seq : Nat) (f : CueFrame) (s : State) : ∃ c, storeReply m seq f s = { s with cue := c } := by
  unfold storeReply
  split
  · exact ⟨_, rfl⟩
  · cases m <;> exact ⟨_, rfl⟩

theorem putCue_tirwa_reg (ip port : Nat) (f : CueFrame) (s : State) (p : Nat) :
    (putCue .tirwa ip port f s).reg p = (relay 15 2 7 0 s).reg p := by
  unfold putCue tirSend
  dsimp only
  split <;> rfl

/-- A frame sent over Tirwa leaves its result in CBD_RESULT_NEW. -/
theorem sendReply_tirwa {r : Req} {s : State} (ready : AnswersTirwa s) (via : r.via = .tirwa) (f : CueFrame) :
    (sendReply r f s).reg P.cbdResultNew ≠ 0 := by
  obtain ⟨inside, on, may, there, empty, ack, noCancels, noRetracts, carries, calm⟩ := ready
  have sent : sendCue r.via r.ip r.port f s = putCue .tirwa r.ip r.port f s := by rw [via, sendCue, if_pos carries]
  have register := putCue_tirwa_reg r.ip r.port f s P.cbdResultNew
  have clocks := putCue_clockwork .tirwa r.ip r.port f s
  rw [sendReply, sent]
  generalize putCue .tirwa r.ip r.port f s = t at register clocks ⊢
  have still : t.pwr.forcedStart = false := (congrArg (fun x => x.2.1.forcedStart) clocks).trans calm
  rw [forcedStart_none still, register]
  exact relay_shown inside on may there empty ack noCancels noRetracts 7 0

theorem AnswersTirwa.of_cue {s : State} (h : AnswersTirwa s) (c : CueState) : AnswersTirwa { s with cue := c } :=
  ⟨h.inside, h.on, h.may, h.there, h.empty, h.ack, h.noCancels, h.noRetracts, h.carries, h.calm⟩

theorem answered_tirwa {v : Serving} {u : State} (ready : AnswersTirwa u) (via : v.req.via = .tirwa) (b : Reply) :
    (answered v b u).reg P.cbdResultNew ≠ 0 := by
  obtain ⟨c, stored⟩ := storeReply_cue v.master v.req.seq (v.reply u b) u
  rw [answered, stored]
  exact sendReply_tirwa (ready.of_cue c) via _

/-- A post in a house, whose Cue server runs under epoch 1 and whose main host at seat 5 holds the baton of area 2. -/
def tirwaPost : State :=
  { State.reset.setRegs [(P.smgBatonHolder, 0x10), (P.smgCueEpoch, 1), (P.smgHouseId, 1), (P.smgSeat, 7), (P.smgHostSeat, 5)] with
    pwr := { State.reset.pwr with dom := List.replicate 64 .on, boot := .running }
    cue := { CueState.reset with running := true }
    tir := { TirState.reset with houseKey := some 5 } }

/-- The main host's request for a reset, at level 4. -/
def resetRequest (s : State) : Req :=
  { via := .tirwa, ip := 0, port := 0, version := 1, flags := 4, seq := 1, src := 5, dst := 7, pid := P.pwResetReq, len := 1
    payload := [0x5A]
    cmac := cueMac (s.key 4) s.postId s.epoch (frameBytes 1 4 1 5 7 opWrite P.pwResetReq 1 [0x5A]) }

theorem resetRequest_verdict (s : State) : verdict opWrite (resetRequest s) s = .passed s.epoch := by
  have one : isBroadcast (resetRequest s) = false := rfl
  have named : asksEpoch opWrite (resetRequest s) = false := rfl
  have level : reqKey (resetRequest s) = 4 := rfl
  exact Tests.verdict_of one named (by rw [level]; rfl)

/-- A WRITE by the holder of its area's baton changes no baton. -/
theorem batonStep_held {v : Serving} {s : State} (write : v.op = opWrite) (known : v.master ≠ .none)
    (held : s.holder (areaOf v.req.pid) = v.master.holds) : batonStep v s = (true, s) := by
  have area : batonAreas v = [areaOf v.req.pid] := by simp [batonAreas, write]
  have kept : changeBaton v 2 (areaOf v.req.pid) v.master.holds s = s := if_pos held
  simp [batonStep, write, known, area, held, kept]

theorem resetRequest_accepted : AcceptedWrite (resetRequest tirwaPost) tirwaPost := by
  refine ⟨⟨rfl, ?_, ?_, ?_, ?_, resetRequest_verdict _, ?_, ?_, batonStep_held rfl ?_ ?_, ?_, ?_⟩, ?_, ?_, ?_, ?_⟩ <;>
    decide +kernel

/-- The post as the accepted request leaves it, its reset armed. -/
def armedPost : State :=
  { heard (resetRequest tirwaPost) tirwaPost with
    pwr := { (heard (resetRequest tirwaPost) tirwaPost).pwr with resetArmed := true } }

theorem armedPost_answers : AnswersTirwa armedPost := by
  constructor <;> decide +kernel

/-- Refutes O55: a request for a reset over Tirwa is answered through channel 15 of the Callboard, whose result shows in
CBD_RESULT_NEW, so the request changes a register. -/
theorem not_clockPowerBankRequests : ¬ Obligations.ClockPowerBankRequests := by
  unfold Obligations.ClockPowerBankRequests
  rintro ⟨-, reset, -⟩
  obtain ⟨t, -, wrote, -, keeps, -⟩ := reset tirwaPost _ (resetRequest tirwaPost) _ rfl resetRequest_accepted rfl
  have shown : t.reg P.cbdResultNew ≠ 0 := by
    rw [wrote]
    exact answered_tirwa armedPost_answers rfl _
  have before : (heard (resetRequest tirwaPost) tirwaPost).reg P.cbdResultNew = 0 := by decide +kernel
  exact shown ((keeps P.cbdResultNew List.not_mem_nil).trans before)

end Sys2Proof.Machine
end

section
/-!
SUPPORT. The driver of the stage door port (R449), the outputs of a bank without power (R90), and O60.
-/

namespace Sys2Proof.Machine

open Sys2Proof

/-- SDR_DE of a transmission that begins now: its rise, its first start bit and its fall. -/
theorem doorSend_times {s : State} (idle : s.ser.deFall ≤ s.mono) (baud f turn lead : Nat) (b : Bytes) :
    let rise := max s.mono (s.ser.doorAt + usUp turn)
    (doorSend baud f turn lead b s).ser = { s.ser with
      deRise := rise, deStart := rise + usUp lead, deFall := rise + usUp lead + charTime baud f b.length } := by
  have still : ¬ s.mono < s.ser.deFall := idle.not_gt
  simp only [doorSend, State.emit_ser, still, decide_false, Bool.false_eq_true, if_false]

theorem uartChar_driving {s : State} (driving : sdrDe s = true) (c : Nat) (p f : Bool) : uartChar 0 c p f s = s := by
  unfold uartChar
  exact (if_pos rfl).trans (if_pos (.inr (.inr driving)))

theorem sdrDe_unpowered {s : State} (lost : s.pwr.vaon = false) : sdrDe s = false := by
  rw [sdrDe, lost, Bool.false_and, Bool.false_and]

/-- An output of the VIO33 bank without VIO33 goes nowhere. -/
theorem emit_unpowered {s : State} {o : Output} (bank : o.onVio33 = true) (off : s.pwr.vio33 = false) : s.emit o = s := by
  have held : s.drives o = false := by rw [State.drives, bank, off]; rfl
  rw [State.emit, held]
  rfl

/-- Settles O60, each clause by the lemma of its operation. -/
theorem stageDoorDriver : Obligations.StageDoorDriver := by
  unfold Obligations.StageDoorDriver
  refine ⟨?transmission, ?character, ?delimiter, fun s lost => sdrDe_unpowered lost, fun s o bank off => emit_unpowered bank off⟩
  case transmission =>
    rintro s t baud f turn lead b idle rfl
    have times := doorSend_times idle baud f turn lead b
    rw [times]
    exact ⟨le_max_right _ _, le_max_left _ _, rfl, rfl, doorSend_uart _ _ _ _ _ s, doorSend_keeps _ _ _ _ _ s⟩
  case character =>
    intro s c p f driving
    exact completes_of_eq (congrArg Host.Outcome.next (uartChar_driving driving c p f)) rfl
  case delimiter =>
    intro s driving
    have shut : ¬ (doorOpen s = true ∧ sdrDe s = false) := fun ⟨_, idle⟩ => by simp [idle] at driving
    exact completes_of_eq (congrArg Host.Outcome.next (if_neg shut)) rfl

end Sys2Proof.Machine
end

section
/-!
SUPPORT. A WRITE over Tirwa is answered through channel 15 of the Callboard: the post that refutes O58.
-/

namespace Sys2Proof.Machine

open Sys2Proof

/-- A WRITE answered over Tirwa leaves no frame that omits CBD_RESULT_NEW, where no result stood there before (R128). -/
theorem wrote_tirwa_not_keeps {q : Req} {s u h t : State} {l : List Nat} (wrote : Wrote q s u t) (ready : AnswersTirwa u)
    (via : q.via = .tirwa) (none : h.reg P.cbdResultNew = 0) (outside : P.cbdResultNew ∉ l) : ¬ Keeps l h t := by
  rintro ⟨registers, -⟩
  have shown : t.reg P.cbdResultNew ≠ 0 := by
    rw [wrote]
    exact answered_tirwa ready via _
  exact shown ((registers P.cbdResultNew outside).trans none)

/-- A WRITE of one object by the main host over Tirwa, at level 4, with the CMAC of the key, identity and epoch in force. -/
def hostWrite (p : Nat) (value : Bytes) (s : State) : Req :=
  { reqWith (resetRequest s) p value with
    cmac := cueMac (s.key 4) s.postId s.epoch (frameBytes 1 4 1 5 7 opWrite p value.length value) }

theorem hostWrite_verdict (p : Nat) (value : Bytes) (s : State) :
    verdict opWrite (hostWrite p value s) s = .passed s.epoch := by
  have one : isBroadcast (hostWrite p value s) = false := rfl
  have named : asksEpoch opWrite (hostWrite p value s) = false := rfl
  have level : reqKey (hostWrite p value s) = 4 := rfl
  exact Tests.verdict_of one named (by rw [level]; rfl)

/-- The post of O55's refutation with the baton of area A, the tag's, in its main host's hands. -/
def tagHolderPost : State := tirwaPost.setReg P.smgBatonHolder 0x100000

/-- The main host's request for the clear of the notes. -/
def noteClearRequest : Req := hostWrite P.tagNoteClear [0xC1] tagHolderPost

theorem noteClearRequest_accepted : AcceptedWrite noteClearRequest tagHolderPost := by
  refine ⟨⟨rfl, ?_, ?_, ?_, ?_, hostWrite_verdict _ _ _, ?_, ?_, batonStep_held rfl ?_ ?_, ?_, ?_⟩, ?_, ?_, ?_, ?_⟩ <;>
    decide +kernel

theorem noteClearRequest_answers : AnswersTirwa (clearNotes (heard noteClearRequest tagHolderPost)) := by
  constructor <;> decide +kernel

/-- Refutes O58: a WRITE of TAG_NOTE_CLEAR over Tirwa is answered through channel 15 of the Callboard, whose result shows in
CBD_RESULT_NEW, so the WRITE changes a register. -/
theorem not_networkAndPortRequests : ¬ Obligations.NetworkAndPortRequests := by
  unfold Obligations.NetworkAndPortRequests
  rintro ⟨-, -, -, -, -, -, -, -, -, -, noteClear, -⟩
  obtain ⟨t, -, wrote, -, keeps⟩ := noteClear tagHolderPost _ noteClearRequest _ rfl noteClearRequest_accepted rfl
  have none : (heard noteClearRequest tagHolderPost).reg P.cbdResultNew = 0 := by decide +kernel
  exact wrote_tirwa_not_keeps wrote noteClearRequest_answers rfl none List.not_mem_nil keeps

end Sys2Proof.Machine
end

section
/-!
SUPPORT. The notices of the Callboard (spec/05_callboard.md): CBD_PENDING (R127) and the commands that post, take, acknowledge,
withdraw and read out (R123 to R134).
-/

namespace Sys2Proof.Machine

open Sys2Proof

/-! ### Bits of a value -/

theorem bitOf_eq_testBit (v i : Nat) : bitOf v i = v.testBit i := by
  rw [Nat.testBit_eq_decide_div_mod_eq, bitOf]
  rfl

/-- A bit set to 0 reads as 0 in whatever part of the value is kept. -/
theorem bitOf_setBit_false_mod (v i width : Nat) : bitOf (setBit v i false % 2 ^ width) i = false := by
  have cleared : setBit v i false = v - 2 ^ i * (v / 2 ^ i % 2) := by simp [setBit, setBits, bits, Nat.mul_comm]
  have rest : (v / 2 ^ i - v / 2 ^ i % 2) % 2 = 0 := by omega
  have even : bitOf (setBit v i false) i = false := by
    rw [bitOf, cleared, Nat.sub_mul_div, rest]
    rfl
  rw [bitOf_eq_testBit] at even ⊢
  rw [Nat.testBit_mod_two_pow, even, Bool.and_false]

/-- The value whose bits below `k` are those of `b`. -/
def bitSum (b : Nat → Bool) (k : Nat) : Nat := ((List.range k).map fun n => if b n then 2 ^ n else 0).foldl (· + ·) 0

theorem bitSum_succ (b : Nat → Bool) (k : Nat) : bitSum b (k + 1) = 2 ^ k * (b k).toNat + bitSum b k := by
  rw [bitSum, List.range_succ, List.map_append, List.foldl_append, Nat.add_comm]
  cases h : b k <;> simp [bitSum, h]

theorem bitSum_lt (b : Nat → Bool) (k : Nat) : bitSum b k < 2 ^ k := by
  induction k with
  | zero => exact Nat.one_pos
  | succ k ih =>
    have bit : 2 ^ k * (b k).toNat ≤ 2 ^ k * 1 := Nat.mul_le_mul_left _ (b k).toNat_le
    rw [bitSum_succ, pow_succ]
    omega

theorem bitOf_bitSum {n k : Nat} (h : n < k) (b : Nat → Bool) : bitOf (bitSum b k) n = b n := by
  rw [bitOf_eq_testBit]
  induction k with
  | zero => exact absurd h n.not_lt_zero
  | succ k ih =>
    rw [bitSum_succ, Nat.testBit_two_pow_mul_add _ (bitSum_lt b k)]
    obtain below | rfl := Nat.lt_succ_iff_lt_or_eq.mp h
    · rw [if_pos below, ih below]
    · rw [if_neg (lt_irrefl n), Nat.sub_self]
      cases b n <;> rfl

/-! ### CBD_PENDING (R127) -/

theorem cbdPending_eq_bitSum (s : State) : s.cbdPending = bitSum (fun n => (s.chan n).full && !(s.chan n).taken) 32 := rfl

/-- CBD_PENDING reads as the four bytes of the channels that wait. -/
theorem objBytes_cbdPending (s : State) : objBytes s P.cbdPending = toBytes 4 s.cbdPending := by
  have width : sizeOf' P.cbdPending = 4 := by decide +kernel
  have value : objVal s P.cbdPending = s.cbdPending := rfl
  have plain : objBytes s P.cbdPending = toBytes (sizeOf' P.cbdPending) (objVal s P.cbdPending) := rfl
  rw [plain, width, value]

/-- Settles O9: CBD_PENDING is the sum of one bit for each channel that waits, and all of it fits the object. -/
theorem pendingChannels : Obligations.PendingChannels := by
  unfold Obligations.PendingChannels
  intro s n hn _
  have fits : s.cbdPending < 256 ^ 4 := bitSum_lt _ 32
  rw [objBytes_cbdPending, ofBytes_toBytes, Nat.mod_eq_of_lt fits, cbdPending_eq_bitSum]
  exact bitOf_bitSum hn _

/-! ### Answers of the Callboard (R43) -/

theorem busAnswer_chan (init route addr : Nat) (data : List Nat) (s : State) (n : Nat) :
    (busAnswer init route stOk addr data s).chan n = s.chan n := rfl

theorem busAnswer_reg (init route addr : Nat) (data : List Nat) (s : State) (p : Nat) :
    (busAnswer init route stOk addr data s).reg p = s.reg p := rfl

theorem busAnswer_head (init route addr : Nat) (data : List Nat) (s : State) :
    (busAnswer init route stOk addr data s).sent.head? = some (.bus init stOk data) := rfl

/-- An answer OK is no register's and no byte's concern. -/
theorem Keeps.answered {l : List Nat} {s u : State} (keeps : Keeps l s u) (init route addr : Nat) (data : List Nat) :
    Keeps l s (busAnswer init route stOk addr data u) := keeps

/-- A command that writes a register of the Callboard and is accepted: it is answered OK and leaves its channel behind it. -/
theorem completes_of_accepted {c : Instr} {s u : State} {r : Nat × State} {init addr n : Nat} {channel : Channel} {l : List Nat}
    (run : exec c s = .next (busAnswer init 7 r.1 addr [] r.2)) (accepted : r = (stOk, u)) (chan : u.chan n = channel)
    (keeps : Keeps l s u) :
    Completes c s fun t => t.chan n = channel ∧ t.sent.head? = some (.bus init stOk []) ∧ Keeps l s t := by
  subst accepted
  exact completes_of_eq run ⟨(busAnswer_chan ..).trans chan, busAnswer_head .., keeps.answered ..⟩

/-! ### What each access does (R125, R126, R128, R133) -/

theorem noticeTaken_keeps (n : Nat) (s : State) : Keeps [] s (noticeTaken n s) := ⟨fun _ _ => rfl, fun _ => rfl⟩

/-- The receiver's read of a waiting notice is answered OK with it. -/
theorem readNotice_answer {n : Nat} {s : State} (on : s.cbdOn = true) (full : (s.chan n).full = true)
    (waits : (s.chan n).taken = false) :
    readNotice n (s.chan n).receiver s = (stOk, (s.chan n).notice, (readNotice n (s.chan n).receiver s).2.2) := by
  simp [readNotice, on, full, waits]

theorem execNoticeTake_taken {n : Nat} {s : State} (inside : n < s.cbd.ch.length) (on : s.cbdOn = true)
    (full : (s.chan n).full = true) (waits : (s.chan n).taken = false) (ack : (s.chan n).ackMode = true) :
    execNoticeTake n (s.chan n).receiver true s =
      .next (busAnswer (s.chan n).receiver 7 stOk (chanAddr n) [(s.chan n).notice] (noticeTaken n s)) := by
  have read := deliverNotice_read inside on ack full waits
  rw [execNoticeTake, readNotice_answer on full waits]
  dsimp only
  rw [if_pos rfl, read]

/-- The receiver's acknowledgement of a notice it took is accepted and empties the channel. -/
theorem ackNotice_accepted {n : Nat} {s : State} (on : s.cbdOn = true) (ack : (s.chan n).ackMode = true)
    (full : (s.chan n).full = true) (taken : (s.chan n).taken = true) (noCancels : s.cbd.cancels = [])
    (noRetracts : s.cbd.retracts = []) (code : Nat) :
    ackNotice n (s.chan n).receiver code s = (stOk, resultNoted n 2 (code % 2 ^ 16) s) := by
  have status : (ackNotice n (s.chan n).receiver code s).1 = stOk := by simp [ackNotice, on, ack, full, taken]
  have result := ackNotice_taken on ack full taken code
  rw [recordResult_quiet noCancels noRetracts] at result
  exact Prod.ext status result

theorem readStatus_lastSender {s : State} (on : s.cbdOn = true) (n : Nat) :
    readStatus n (s.chan n).lastSender s =
      (stOk, (s.chan n).status, s.setReg P.cbdResultNew (setBit (s.reg P.cbdResultNew) n false)) := by
  simp [readStatus, on]

theorem execCallboardStatusRead_lastSender {s : State} (on : s.cbdOn = true) (n : Nat) :
    execCallboardStatusRead n (s.chan n).lastSender s =
      .next (busAnswer (s.chan n).lastSender 7 stOk (chanAddr n + 0x20) [(s.chan n).status]
        (s.setReg P.cbdResultNew (setBit (s.reg P.cbdResultNew) n false))) := by
  rw [execCallboardStatusRead, readStatus_lastSender on]

theorem writeConfig_manager {s : State} (on : s.cbdOn = true) (n value : Nat) :
    writeConfig n 0x0C value s = (stOk, s.setChan n { s.chan n with config := value % 2 ^ 38 }) := by
  simp [writeConfig, on]

theorem setChan_keeps (s : State) (n : Nat) (c : Channel) : Keeps [] s (s.setChan n c) := ⟨fun _ _ => rfl, fun _ => rfl⟩

/-! ### The obligation -/

/-- Settles O11, each clause by the lemma of its access. -/
theorem callboardNotices : Obligations.CallboardNotices := by
  unfold Obligations.CallboardNotices
  refine ⟨?post, ?take, ?ack, ?withdraw, ?status, ?config⟩
  case post =>
    intro s ch init word on fits may there empty
    exact completes_of_accepted rfl (postNotice_accepted on may there empty word) (storeNotice_chan fits init word)
      (storeNotice_keeps there init word)
  case take =>
    rintro s ch _ on fits rfl full waits ack
    exact completes_of_eq (execNoticeTake_taken fits on full waits ack)
      ⟨(busAnswer_chan ..).trans (noticeTaken_chan fits), busAnswer_head .., (noticeTaken_keeps ch s).answered ..⟩
  case ack =>
    rintro s ch _ code on fits rfl full taken ack noCancels noRetracts
    exact completes_of_accepted rfl (ackNotice_accepted on ack full taken noCancels noRetracts code) (resultNoted_chan fits _ _)
      (resultNoted_keeps ch _ _ s)
  case withdraw =>
    intro s ch init tag on fits may full waits unread own named noCancels noRetracts
    have accepted := withdrawNotice_accepted on may full waits unread own named
    have emptied := resultNoted_chan fits 4 0
    rw [recordResult_quiet noCancels noRetracts] at accepted
    rw [Channel.emptied, named] at emptied
    exact completes_of_accepted rfl accepted emptied (resultNoted_keeps ch 4 0 s)
  case status =>
    rintro s ch _ on rfl
    refine completes_of_eq (execCallboardStatusRead_lastSender on ch)
      ⟨busAnswer_head .., ?_, (keeps_setReg ..).answered ..⟩
    rw [busAnswer_reg, State.reg_setReg]
    exact bitOf_setBit_false_mod _ _ _
  case config =>
    intro s ch word on fits
    obtain ⟨t, run, chan, -, keeps⟩ := completes_of_accepted (c := .callboardConfigWrite ch 0x0C word) rfl
      (writeConfig_manager on ch word) (chan_setChan fits _) (setChan_keeps ..)
    exact ⟨t, run, chan, keeps⟩

end Sys2Proof.Machine
end

section
/-!
SUPPORT. The registers that a commit writes (spec/06_mram_and_prompt_book.md R160, R161, R164): those of the live half, of SEQ and of the
engine's counters. Every other register reads as before a commit of an engine that has power and is ready, so that nothing is
recovered first.
-/

namespace Sys2Proof.Machine

open Sys2Proof

/-- The registers that the engine writes for a commit, and for the compaction that a commit may start or complete. -/
def bookPids : List Nat := [P.pbkFill, P.pbkSeqNext, P.pbkLiveHalf, P.pbkCompactions, P.pbkRateRefusals]

/-- An update of other parts than the registers. -/
theorem reg_upd {s : State} {now mono freeCtr mem cue fab clk pwr cbd mram jnl iron saf veh fly cnv nrg box tir slac sl rdr tag crd ser
    dsp wng sent pending} (q : Nat) :
    (State.mk now mono freeCtr s.regs mem cue fab clk pwr cbd mram jnl iron saf veh fly cnv nrg box tir slac sl rdr tag crd ser dsp wng
      sent pending).reg q = s.reg q := rfl

theorem reg_ite {c : Prop} {d : Decidable c} {a b : State} (q : Nat) : (@ite State c d a b).reg q = @ite _ c d (a.reg q) (b.reg q) :=
  apply_ite (fun s : State => s.reg q) c a b

theorem setWords_reg (s : State) (x : Nat) (l : List Nat) (q : Nat) : (s.setWords x l).reg q = s.reg q := by
  induction l generalizing s x with
  | nil => rfl
  | cons w t ih => exact ih _ _

theorem writeRec_reg (s : State) (bank pos : Nat) (r : Rec) (q : Nat) : (writeRec s bank pos r).reg q = s.reg q := setWords_reg ..

theorem noteRec_reg (r : Rec) (counted : Bool) (s : State) (q : Nat) : (noteRec r counted s).reg q = s.reg q := rfl

theorem startCompaction_reg (s : State) (q : Nat) : (startCompaction s).reg q = s.reg q := by
  unfold startCompaction
  split <;> rfl

theorem compactIfFull_reg (s : State) (q : Nat) : (compactIfFull s).reg q = s.reg q := by
  simp only [compactIfFull, reg_ite, startCompaction_reg, ite_self]

section
variable {q : Nat} (other : q ∉ bookPids)
include other

theorem ne_bookPid {p : Nat} (h : p ∈ bookPids) : q ≠ p := fun eq => other (eq ▸ h)

theorem appendRec_reg (j : JReq) (s : State) : (appendRec j s).reg q = s.reg q := by
  rw [appendRec, State.reg_setReg_ne _ _ (ne_bookPid other (by decide)), State.reg_setReg_ne _ _ (ne_bookPid other (by decide)),
    noteRec_reg, writeRec_reg]

theorem finishSlot_reg (s : State) : (finishSlot s).reg q = s.reg q := by
  unfold finishSlot
  split
  · rfl
  · rw [State.emit_reg, reg_upd, State.reg_setReg_ne _ _ (ne_bookPid other (by decide)), noteRec_reg, State.setWord_reg]

theorem compactRec_reg (c : Compaction) (typ stime : Nat) (payload : List Nat) (s : State) :
    (compactRec c typ stime payload s).2.reg q = s.reg q := by
  rw [compactRec, State.reg_setReg_ne _ _ (ne_bookPid other (by decide)), writeRec_reg]

theorem compactSome_reg (k room : Nat) (c : Compaction) (l : List (Nat × Nat × List Nat)) (s : State) :
    (compactSome k room c l s).2.2.reg q = s.reg q := by
  induction k generalizing room c l s with
  | zero => rfl
  | succ k ih =>
    cases l with
    | nil => rfl
    | cons e t =>
      rw [compactSome]
      split
      · rfl
      · exact (ih ..).trans (compactRec_reg other ..)

theorem switchHalf_reg (c : Compaction) (s : State) : (switchHalf c s).reg q = s.reg q := by
  rw [switchHalf, reg_upd, State.reg_count_ne _ _ (ne_bookPid other (by decide)),
    State.reg_setReg_ne _ _ (ne_bookPid other (by decide)), State.reg_setReg_ne _ _ (ne_bookPid other (by decide))]

theorem releaseHeld_reg (k : Nat) (s : State) : (releaseHeld k s).reg q = s.reg q := by
  induction k generalizing s with
  | zero => rfl
  | succ k ih =>
    unfold releaseHeld
    split
    · rfl
    · rw [ih, State.emit_reg, appendRec_reg other, reg_upd]

theorem compactionSector_reg (s : State) : (compactionSector s).reg q = s.reg q := by
  unfold compactionSector
  split
  · rfl
  · simp only [reg_ite, releaseHeld_reg other, switchHalf_reg other, compactRec_reg other, compactSome_reg other, reg_upd, ite_self]

theorem compactAll_reg (k : Nat) (s : State) : (compactAll k s).reg q = s.reg q := by
  induction k generalizing s with
  | zero => rfl
  | succ k ih => simp only [compactAll, reg_ite, ih, compactionSector_reg other, ite_self]

theorem compactNow_reg (s : State) : (compactNow s).reg q = s.reg q :=
  (compactAll_reg other ..).trans (startCompaction_reg s q)

theorem payOwed_reg (s : State) : (payOwed s).reg q = s.reg q := by
  simp only [payOwed, reg_ite, appendRec_reg other, reg_upd, ite_self]

theorem bookRest_reg (s : State) : (bookRest s).reg q = s.reg q := by
  simp only [bookRest, reg_ite, compactNow_reg other, finishSlot_reg other, ite_self]

theorem commitOn_reg (j : JReq) (s : State) : (commitOn j s).2.reg q = s.reg q := by
  have refusals := ne_bookPid other (p := P.pbkRateRefusals) (by decide)
  unfold commitOn
  dsimp only
  split <;> simp only [State.reg_count_ne _ _ refusals, compactIfFull_reg, payOwed_reg other, appendRec_reg other,
    compactNow_reg other, bookRest_reg other]

end

/-! ### A ready engine (R155, R163) -/

theorem ensureReady_ready {s : State} (ready : s.jnl.ready = true) : ensureReady s = s := if_pos ready

theorem keeperUp_ready {s : State} (on : s.domOn 36 = true) (ready : s.jnl.ready = true) :
    keeperUp s = ((s.setDom 36 .on).setDom 29 .on).setDom 30 .on := by
  rw [keeperUp, if_pos on]
  exact ensureReady_ready ready

theorem keeperDown_reg {was : State} (on : was.domOn 36 = true) (s : State) (q : Nat) : (keeperDown was s).reg q = s.reg q := by
  rw [keeperDown, if_pos on, if_pos on]
  rfl

theorem commit_reg {q : Nat} (other : q ∉ bookPids) {s : State} (on : s.domOn 36 = true) (ready : s.jnl.ready = true) (j : JReq) :
    (commit j s).2.reg q = s.reg q := by
  unfold commit
  split
  · rw [ensureReady_ready ready, commitOn_reg other]
  · rw [keeperDown_reg on, commitOn_reg other, keeperUp_ready on ready]
    rfl

theorem record_reg {q : Nat} (other : q ∉ bookPids) {s : State} (on : s.domOn 36 = true) (ready : s.jnl.ready = true) (typ : Nat)
    (payload : List Nat) : (record typ payload s).reg q = s.reg q := commit_reg other on ready _

theorem mram_of_apart {s t : State} (h : t.apart = s.apart) : t.mram = s.mram := by
  have parts : t.apart.mram = s.apart.mram := congrArg State.mram h
  exact parts

end Sys2Proof.Machine
end

section
/-!
SUPPORT. Words of the MRAM (spec/06_mram_and_prompt_book.md R139 to R152): what a read answers and a write stores, the findings and
what they count, the scrub and the repair of a column.
-/

namespace Sys2Proof.Machine

open Sys2Proof

/-! ### Counters and bytes -/

theorem State.reg_count (s : State) (p k : Nat) : (s.count p k).reg p = satAdd (8 * sizeOf' p) (s.reg p) k := by
  have fits : satAdd (8 * sizeOf' p) (s.reg p) k < 2 ^ (8 * sizeOf' p) :=
    lt_of_le_of_lt (min_le_right _ _) (Nat.sub_lt (by positivity) one_pos)
  rw [State.count, State.reg_setReg, Nat.mod_eq_of_lt fits]

theorem ofBytes_lt (l : Bytes) : ofBytes l < 256 ^ l.length := by
  induction l with
  | nil => decide
  | cons b t ih =>
    rw [ofBytes, List.length_cons, pow_succ']
    have low : b % 256 < 256 := Nat.mod_lt _ (by decide)
    omega

theorem ofBytes_lt_word {l : Bytes} (len : l.length = 16) : ofBytes l < 2 ^ 128 := by
  have bound := ofBytes_lt l
  rw [len] at bound
  omega

theorem mergeBytes_lt (old new byteEn : Nat) : mergeBytes old new byteEn < 2 ^ 128 := ofBytes_lt_word (by simp)

theorem Memory.readBytes_length (m : List Host.Cell) (x k : Nat) : (Memory.readBytes m x k).length = k := by
  induction k generalizing x with
  | zero => rfl
  | succ k ih => rw [Memory.readBytes, List.length_cons, ih]

theorem State.word_lt (s : State) (a : Nat) : s.word a < 2 ^ 128 := ofBytes_lt_word (Memory.readBytes_length ..)

theorem Memory.read_lt (m : List Host.Cell) (x : Nat) : Memory.read m x < 256 := by
  induction m with
  | nil => exact (by decide : blankByte < 256)
  | cons c t ih =>
    rw [Memory.read]
    split
    · exact c.2.isLt
    · exact ih

/-- A byte of a word is the byte at its place. -/
theorem Memory.read_of_readBytes (m : List Host.Cell) {x k i : Nat} (h : i < k) :
    Memory.read m (x + i) = ofBytes (Memory.readBytes m x k) / 256 ^ i % 256 := by
  have low := Memory.read_lt m x
  induction k generalizing x i with
  | zero => exact absurd h (Nat.not_lt_zero i)
  | succ k ih =>
    rw [Memory.readBytes, ofBytes]
    cases i with
    | zero =>
      rw [Nat.add_zero, pow_zero, Nat.div_one]
      omega
    | succ i =>
      have rest := ih (Nat.lt_of_succ_lt_succ h) (Memory.read_lt m (x + 1))
      have shift : (Memory.read m x % 256 + 256 * ofBytes (Memory.readBytes m (x + 1) k)) / 256
          = ofBytes (Memory.readBytes m (x + 1) k) := by omega
      rw [pow_succ', ← Nat.div_div_eq_div_mul, shift, ← rest, Nat.add_right_comm, Nat.add_assoc]

theorem State.byte_of_word (s : State) {a b : Nat} (low : a ≤ b) (high : b < a + 16) : s.byte b = s.word a / 256 ^ (b - a) % 256 := by
  have byte := Memory.read_of_readBytes s.mem (x := a) (k := 16) (i := b - a) (by omega)
  rwa [Nat.add_sub_of_le low] at byte

theorem Keeps.reg {l : List Nat} {s t : State} (keeps : Keeps l s t) {p : Nat} (other : p ∉ l) : t.reg p = s.reg p := keeps.1 p other

/-! ### Admission (R39, R43, R163) -/

/-- The controller admits an access only where PD36 is on and the recovery is done. -/
theorem mramAdmit_powered {s : State} {init addr : Nat} {write : Bool} (admitted : mramAdmit s init addr write = stOk) :
    s.domOn 36 = true ∧ s.jnl.ready = true := by
  unfold mramAdmit at admitted
  split at admitted
  · by_cases absent : s.present 14 = false ∨ s.jnl.ready = false
    · rw [if_pos absent] at admitted
      exact absurd admitted (by decide)
    · obtain ⟨there, ready⟩ := not_or.mp absent
      rw [Bool.not_eq_false] at there ready
      exact ⟨(Bool.and_eq_true_iff.mp there).1, ready⟩
  · exact absurd admitted (by decide)

/-! ### Findings (R148, R152) -/

theorem recordFault_reg {q : Nat} (other : q ∉ bookPids) (ne : q ≠ P.pbkLastMramFault) {s : State} (on : s.domOn 36 = true)
    (ready : s.jnl.ready = true) (w : Nat) : (recordFault w s).reg q = s.reg q := by
  have kept := record_reg (s := s.setReg P.pbkLastMramFault w) other on ready 0x35 [w]
  rw [recordFault, kept, State.reg_setReg_ne _ _ ne]

theorem recordFault_mram (w : Nat) (s : State) : (recordFault w s).mram = s.mram := mram_of_apart (record_apart ..)

theorem uncorrectable_reg {q : Nat} (other : q ∉ bookPids) (ne : q ≠ P.pbkLastMramFault) {s : State} (on : s.domOn 36 = true)
    (ready : s.jnl.ready = true) (a : Nat) : (uncorrectable a s).reg q = (s.count P.pbkUncorr 1).reg q :=
  recordFault_reg (s := s.count P.pbkUncorr 1) other ne on ready _

theorem cellFault_keeps (a bit : Nat) (s : State) : Keeps [P.pbkCellCorr, P.pbkLastMramFault] s (cellFault a bit s) :=
  (keeps_setReg s P.pbkCellCorr _).trans (keeps_setReg _ P.pbkLastMramFault _)

theorem cellFault_counts (a bit : Nat) (s : State) :
    (cellFault a bit s).reg P.pbkCellCorr = satAdd (8 * sizeOf' P.pbkCellCorr) (s.reg P.pbkCellCorr) 1 := by
  rw [cellFault, State.reg_setReg_ne _ _ (by decide), State.reg_count]

theorem cellFault_sent (a bit : Nat) (s : State) : (cellFault a bit s).sent = s.sent := by
  rw [cellFault, State.setReg_sent, State.count_sent]

/-! ### Reads (R139, R142) -/

theorem noteWrong_keeps (a : Nat) (errs : List Nat) (s : State) : Keeps [] s (noteWrong a errs s) := keeps_of_eq rfl rfl

theorem mramRead_clean (addr : Nat) (pairEqual : Option Bool) (s : State) :
    mramRead addr [] pairEqual s = (stOk, s.word (addr / 16 * 16), noteWrong (addr / 16 * 16) [] s) := rfl

theorem mramRead_single {addr b : Nat} {errs : List Nat} {s : State} (live : liveErrs s (addr / 16 * 16) errs = [b])
    (pairEqual : Option Bool) : mramRead addr errs pairEqual s = (stOk, s.word (addr / 16 * 16),
      corrected (addr / 16 * 16) b pairEqual (noteWrong (addr / 16 * 16) errs s)) := by
  have noted : liveErrs (noteWrong (addr / 16 * 16) errs s) (addr / 16 * 16) errs = [b] := live
  simp only [mramRead, noted]
  rfl

theorem mramRead_double {addr b c : Nat} {errs : List Nat} {s : State} (live : liveErrs s (addr / 16 * 16) errs = [b, c])
    (pairEqual : Option Bool) : mramRead addr errs pairEqual s =
      (stData, 0, uncorrectable (addr / 16 * 16) (noteWrong (addr / 16 * 16) errs s)) := by
  have noted : liveErrs (noteWrong (addr / 16 * 16) errs s) (addr / 16 * 16) errs = [b, c] := live
  simp only [mramRead, noted]

/-- The first correction in a column of which nothing is known is a cell fault. -/
theorem corrected_new {a bit : Nat} {s : State} (unknown : knownColumn s (bankOf a) (subOf a) (slotOf a) bit = false)
    (first : columnSeen s a bit = false) (pairEqual : Option Bool) :
    corrected a bit pairEqual s = cellFault a bit (notePass a bit s) := by
  rw [corrected, unknown, if_neg Bool.false_ne_true, first, if_neg Bool.false_ne_true]

/-- A read of a core that is admitted answers what the array read gives. -/
theorem wordRead_admitted {s u : State} {init addr st d : Nat} {errs : List Nat} {pairEqual : Bool}
    (admitted : mramAdmit s init addr false = stOk) (shown : readsZero (regionOf addr) = false)
    (read : mramRead addr errs (some pairEqual) s = (st, d, u)) :
    wordRead init addr false errs pairEqual s = busAnswer init 14 st addr (if st = stOk then [d] else []) u := by
  simp [wordRead, admitted, mramReadFabric, read, shown]

theorem busAnswer_sent (init route addr : Nat) (data : List Nat) (s : State) :
    (busAnswer init route stOk addr data s).sent = .bus init stOk data :: s.sent := rfl

/-- An answer DATA is recorded and counted as a bus error (R60, R61). -/
theorem busAnswer_data (init route addr : Nat) (data : List Nat) (s : State) : ∃ fault,
    busAnswer init route stData addr data s =
      ((s.setReg P.pwFabLastFault fault).count P.pwFabBusErrors 1).emit (.bus init stData data) := ⟨_, rfl⟩

/-! ### Writes (R141, R142, R150) -/

theorem mramStore_wrote {s : State} {a w : Nat} (canonical : Memory.wf s.mem = true) (fits : w < 2 ^ 128) :
    WroteWord a w s (mramStore a w s) := by
  have mem : (mramStore a w s).mem = Memory.writeBytes s.mem a (toBytes 16 w) := (noteWrong a [] s).setWord_mem a w
  have regs : (mramStore a w s).regs = s.regs := (noteWrong a [] s).setWord_regs a w
  have wrote := wroteWord_of_mem (s := s) (t := mramStore a w s) (a := a) (w := w) canonical
  rw [Nat.mod_eq_of_lt fits] at wrote
  exact wrote mem regs

theorem mramStore_sent (a w : Nat) (s : State) : (mramStore a w s).sent = s.sent := (noteWrong a [] s).setWord_sent a w

theorem WroteWord.answered {a w : Nat} {s u : State} (wrote : WroteWord a w s u) (init route addr : Nat) (data : List Nat) :
    WroteWord a w s (busAnswer init route stOk addr data u) := wrote

theorem WroteWord.of_noted {a b w : Nat} {errs : List Nat} {s u : State} (wrote : WroteWord a w (noteWrong b errs s) u) :
    WroteWord a w s u := wrote

/-- A write that is admitted stores its word. -/
theorem wordWrite_admitted {s : State} {init addr : Nat} (admitted : mramAdmit s init addr true = stOk) (w : Nat) :
    wordWrite init addr w s = busAnswer init 14 stOk addr [] (mramStore (addr / 16 * 16) w s) := by
  simp [wordWrite, admitted]

/-- Some bytes written to a good word: the word merged is stored. -/
theorem wordMerge_clean {s : State} {init addr : Nat} (admitted : mramAdmit s init addr true = stOk) (be w : Nat) :
    wordMerge init addr be w [] s = busAnswer init 14 stOk addr []
      (mramStore (addr / 16 * 16) (mergeBytes (s.word (addr / 16 * 16)) w be) (noteWrong (addr / 16 * 16) [] s)) := by
  simp [wordMerge, admitted, mramMerge, mramRead_clean]

/-- A word written with what it holds leaves every byte as it was. -/
theorem wroteWord_same {s t : State} {a : Nat} (wrote : WroteWord a (s.word a) s t) : Keeps [] s t := by
  obtain ⟨word, stores, regs⟩ := wrote
  refine ⟨regs, fun b => ?_⟩
  by_cases inside : a ≤ b ∧ b < a + 16
  · obtain ⟨low, high⟩ := inside
    rw [t.byte_of_word low high, s.byte_of_word low high, word]
  · exact stores b (by omega)

/-! ### The scrub (R146) -/

theorem nextScrub_row {s : State} {p : Nat} (position : s.reg P.pbkScrubPos = p) (rows : bits p 17 0 + 8 < 262144) :
    nextScrub s = s.setReg P.pbkScrubPos (bits p 20 18 * 2 ^ 18 + (bits p 17 0 + 8)) := by
  subst position
  exact if_pos rows

/-- A position of the scrub fits its register. -/
theorem reg_scrubPos {s : State} {v : Nat} (h : v < 2 ^ 21) : (s.setReg P.pbkScrubPos v).reg P.pbkScrubPos = v := by
  have size : sizeOf' P.pbkScrubPos = 4 := by decide +kernel
  rw [State.reg_setReg, size]
  omega

/-- A visit of a good word behind the reference pairs goes on to the next row. -/
theorem scrubVisit_clean {s : State} (there : s.present 14 = true) (tier : s.reg P.smgTier ≠ 0x4B)
    (power : s.domOn (28 + bits (s.reg P.pbkScrubPos) 20 18) = true) (refs : s.mram.refDone = true) :
    scrubVisit [] true [] [] s = nextScrub (noteWrong (scrubAddr s / 16 * 16) [] s) := by
  simp [scrubVisit, there, tier, power, refs, scrubWord, mramRead_clean, liveErrs]

/-! ### Column repair (R150) -/

theorem columnAddr_aligned (bank sub slot row : Nat) :
    (columnAddr bank sub slot + 1024 * row) / 16 * 16 = columnAddr bank sub slot + 1024 * row := by
  unfold columnAddr bankBase
  omega

theorem rowOf_columnAddr {bank sub slot row : Nat} (hsub : sub < 8) (hslot : slot < 8) (hrow : row < 4096) :
    rowOf (columnAddr bank sub slot + 1024 * row) = row := by
  unfold rowOf wordIndex columnAddr bankBase
  omega

theorem setRepair_single {s : State} {e : Repair} (only : s.mram.repairs = [e]) (e' : Repair) :
    (setRepair e e' s).mram.repairs = [e'] := by
  simp [setRepair, only]

/-- A write leaves a repair as it is that has passed over no word. -/
theorem mramStore_single {s : State} {e : Repair} (only : s.mram.repairs = [e]) (passed : e.missed = []) (a w : Nat) :
    (mramStore a w s).mram.repairs = [e] := by
  have noted : (noteWrong a [] s).mram.repairs = [e] := only
  have same : { e with missed := [] } = e := by rw [← passed]
  simp [mramStore, noted, passed, same]

section
variable {s : State} {e : Repair} {a : Nat} (only : s.mram.repairs = [e]) (opened : e.done = false) (rows : e.row < 4096)
  (place : a = columnAddr e.bank e.sub e.slot + 1024 * e.row) (good : s.wrongAt a = [])
include only opened rows place good

/-- A step of the one repair in progress at a word without a wrong cell: the row is counted and the word rewritten. -/
theorem repairStep_clean :
    repairStep s = mramStore a (s.word a) (setRepair e { e with row := e.row + 1 } (noteWrong a [] s)) := by
  subst place
  simp [repairStep, only, opened, rows, good, mramRead_clean, columnAddr_aligned]

theorem repairStep_repairs (passed : e.missed = []) : (repairStep s).mram.repairs = [{ e with row := e.row + 1 }] := by
  rw [repairStep_clean only opened rows place good]
  exact mramStore_single (e := { e with row := e.row + 1 }) (setRepair_single (s := noteWrong a [] s) only _) passed a _

theorem repairStep_rewrites (canonical : Memory.wf s.mem = true) : WroteWord a (s.word a) s (repairStep s) := by
  rw [repairStep_clean only opened rows place good]
  exact mramStore_wrote (s := setRepair e { e with row := e.row + 1 } (noteWrong a [] s)) canonical (s.word_lt a)

end

/-- The spare of a repair that has passed a word's row, and missed no word, holds its bit. -/
theorem spareCell_passed {s : State} {e : Repair} {a : Nat} (row : rowOf a < e.row) (none : e.missed = []) :
    spareCell s e a = some (bitOf (codeword (s.word a)) e.bit) := by
  simp [spareCell, spareHolds, row, none]

/-- What a state shares with the one before it when only an entry of the repair table was written. -/
def RepairNoted (e : Repair) (s u : State) : Prop :=
  u.mram.repairs = [e] ∧ (∀ q, u.reg q = s.reg q) ∧ u.pwr = s.pwr ∧ u.jnl = s.jnl

theorem writeRepairEntry_noted {s : State} {e : Repair} (only : s.mram.repairs = [e]) (e' : Repair) (i : Nat) :
    RepairNoted e' s (writeRepairEntry i (setRepair e e' s)) := by
  unfold writeRepairEntry
  extract_lets drawn
  refine ⟨?_, fun q => State.setWord_reg drawn.2 _ _ q, State.setWord_pwr drawn.2 _ _, State.setWord_jnl drawn.2 _ _⟩
  rw [State.setWord_mram]
  exact setRepair_single only e'

/-- The end of the one repair in progress: its entry is marked done, counted and recorded. -/
theorem repairDone_single {s : State} {e : Repair} (only : s.mram.repairs = [e]) (opened : e.done = false) (rows : e.row = 4096) :
    ∃ fault u, repairDone s = recordFault fault (u.count P.pbkColumnFaults 1) ∧ RepairNoted { e with done := true } s u := by
  refine ⟨mramFault e.time 3 e.bank e.sub e.slot e.bit e.spare (columnAddr e.bank e.sub e.slot), _, ?_,
    writeRepairEntry_noted only _ 0⟩
  simp [repairDone, only, opened, rows, List.findIdx_cons]

end Sys2Proof.Machine
end

section
/-!
SUPPORT. Bank-wide operations (spec/06_mram_and_prompt_book.md R153, R154, R166): the bytes that a copy and a wipe leave, and their status.
-/

namespace Sys2Proof.Machine

open Sys2Proof

/-! ### Ranges of memory (R153) -/

theorem Memory.read_filter {m : List Host.Cell} {f : Host.Cell → Bool} {x : Nat} (kept : ∀ b, f (x, b) = true) :
    Memory.read (m.filter f) x = Memory.read m x := by
  induction m with
  | nil => rfl
  | cons c t ih =>
    obtain ⟨a, b⟩ := c
    by_cases same : a = x
    · subst same
      simp [kept b, Memory.read]
    · rw [List.filter_cons]
      split <;> simp [Memory.read, same, ih]

theorem Memory.read_filter_none {m : List Host.Cell} {f : Host.Cell → Bool} {x : Nat} (gone : ∀ b, f (x, b) = false) :
    Memory.read (m.filter f) x = blankByte := by
  induction m with
  | nil => rfl
  | cons c t ih =>
    obtain ⟨a, b⟩ := c
    by_cases same : a = x
    · subst same
      simp [gone b, ih]
    · rw [List.filter_cons]
      split <;> simp [Memory.read, same, ih]

theorem Memory.read_clear_inside {m : List Host.Cell} {lo hi x : Nat} (low : lo ≤ x) (high : x < hi) :
    Memory.read (Memory.clear m lo hi) x = blankByte :=
  Memory.read_filter_none fun _ => decide_eq_false (by simp; omega)

theorem Memory.read_clear_outside {m : List Host.Cell} {lo hi x : Nat} (out : x < lo ∨ hi ≤ x) :
    Memory.read (Memory.clear m lo hi) x = Memory.read m x :=
  Memory.read_filter fun _ => decide_eq_true out

/-- Cells written at their distance from `src` behind `dst`: a cell that the list holds reads there as in the list. -/
theorem Memory.read_foldl_write {src dst lo : Nat} {l acc : List Host.Cell} (sorted : Memory.wfAbove lo l = true)
    (above : ∀ c ∈ l, src ≤ c.1) (canonical : Memory.wf acc = true) (x : Nat) :
    Memory.read (l.foldl (fun acc c => Memory.write acc (c.1 - src + dst) c.2.toNat) acc) (dst + x)
      = if Memory.read l (src + x) = blankByte then Memory.read acc (dst + x) else Memory.read l (src + x) := by
  induction l generalizing acc lo with
  | nil => rfl
  | cons c t ih =>
    obtain ⟨a, b⟩ := c
    simp only [Memory.wfAbove, Bool.and_eq_true, decide_eq_true_eq, Bool.not_eq_true', beq_eq_false_iff_ne] at sorted
    obtain ⟨⟨-, shown⟩, rest⟩ := sorted
    obtain ⟨low, above⟩ := List.forall_mem_cons.mp above
    rw [List.foldl_cons, ih rest above (Memory.write_wf canonical), Memory.read]
    by_cases same : a = src + x
    · have place : a - src + dst = dst + x := by omega
      rw [if_pos same, if_neg shown, Memory.read_of_wfAbove rest (by omega), if_pos rfl, place, Memory.read_write canonical,
        Nat.mod_eq_of_lt b.isLt]
    · have place : dst + x ≠ a - src + dst := by
        dsimp only at low
        omega
      rw [if_neg same, Memory.read_write_ne _ _ place]

theorem Memory.read_foldl_write_outside {l acc : List Host.Cell} {f : Host.Cell → Nat} {x : Nat} (out : ∀ c ∈ l, x ≠ f c) :
    Memory.read (l.foldl (fun acc c => Memory.write acc (f c) c.2.toNat) acc) x = Memory.read acc x := by
  induction l generalizing acc with
  | nil => rfl
  | cons c t ih =>
    obtain ⟨first, rest⟩ := List.forall_mem_cons.mp out
    rw [List.foldl_cons, ih rest, Memory.read_write_ne _ _ first]

/-- A range copied reads as its source did. -/
theorem Memory.read_copyRange_inside {m : List Host.Cell} (canonical : Memory.wf m = true) {src n x : Nat} (high : x < n) (dst : Nat) :
    Memory.read (Memory.copyRange m src dst n) (dst + x) = Memory.read m (src + x) := by
  have above : ∀ c ∈ m.filter (fun c => decide (src ≤ c.1 ∧ c.1 < src + n)), src ≤ c.1 :=
    fun c hc => (of_decide_eq_true (List.mem_filter.mp hc).2).1
  have listed : Memory.read (m.filter fun c => decide (src ≤ c.1 ∧ c.1 < src + n)) (src + x) = Memory.read m (src + x) :=
    Memory.read_filter fun _ => decide_eq_true ⟨Nat.le_add_right src x, Nat.add_lt_add_left high src⟩
  rw [Memory.copyRange, Memory.read_foldl_write (Memory.filter_wfAbove canonical) above (Memory.clear_wf canonical), listed,
    Memory.read_clear_inside (Nat.le_add_right dst x) (Nat.add_lt_add_left high dst)]
  split
  · next blank => exact blank.symm
  · rfl

theorem Memory.read_copyRange_outside (m : List Host.Cell) (src : Nat) {dst n x : Nat} (out : x < dst ∨ dst + n ≤ x) :
    Memory.read (Memory.copyRange m src dst n) x = Memory.read m x := by
  rw [Memory.copyRange, Memory.read_foldl_write_outside, Memory.read_clear_outside out]
  intro c hc
  have listed := of_decide_eq_true (List.mem_filter.mp hc).2
  omega

/-! ### Bank-wide operations (R153, R154) -/

theorem bankRanges_inside {b : Nat} : ∀ r ∈ bankRanges b, r.1 + r.2 ≤ 0x400000 := by
  unfold bankRanges
  split <;> decide

/-- Whether an address lies in one of a bank's ranges. -/
def InRanges (base : Nat) (l : List (Nat × Nat)) (a : Nat) : Prop := ∃ r ∈ l, base + r.1 ≤ a ∧ a < base + r.1 + r.2

/-- A walk over ranges of which each step sets the bytes of its range to `v`, as long as `I` holds, and leaves the others: the bytes of
all the ranges are those of `v` in the end. -/
theorem foldl_ranges_byte {f : State → Nat × Nat → State} {base : Nat} {l : List (Nat × Nat)} {I : State → Prop} {v : Nat → Nat}
    (keeps : ∀ r ∈ l, ∀ t, I t → I (f t r))
    (inside : ∀ r ∈ l, ∀ t, I t → ∀ x < r.2, (f t r).byte (base + r.1 + x) = v (base + r.1 + x))
    (outside : ∀ r ∈ l, ∀ t a, (a < base + r.1 ∨ base + r.1 + r.2 ≤ a) → (f t r).byte a = t.byte a) {s : State} (start : I s)
    (a : Nat) :
    (InRanges base l a → (l.foldl f s).byte a = v a) ∧ (¬ InRanges base l a → (l.foldl f s).byte a = s.byte a) := by
  induction l generalizing s with
  | nil => exact ⟨fun ⟨_, listed, _⟩ => absurd listed List.not_mem_nil, fun _ => rfl⟩
  | cons r t ih =>
    obtain ⟨keep, keeps⟩ := List.forall_mem_cons.mp keeps
    obtain ⟨into, inside⟩ := List.forall_mem_cons.mp inside
    obtain ⟨out, outside⟩ := List.forall_mem_cons.mp outside
    obtain ⟨later, untouched⟩ := ih keeps inside outside (keep s start)
    rw [List.foldl_cons]
    by_cases rest : InRanges base t a
    · refine ⟨fun _ => later rest, fun h => absurd ?_ h⟩
      obtain ⟨r', old, within⟩ := rest
      exact ⟨r', List.mem_cons_of_mem r old, within⟩
    · rw [untouched rest]
      refine ⟨fun h => ?_, fun h => out s a ?_⟩
      · obtain ⟨r', hr', low, high⟩ := h
        obtain rfl | old := List.mem_cons.mp hr'
        · have byte := into s start (a - (base + r'.1)) (by omega)
          rwa [Nat.add_sub_of_le low] at byte
        · exact absurd ⟨r', old, low, high⟩ rest
      · by_contra within
        exact h ⟨r, List.mem_cons_self, by omega, by omega⟩

theorem inRanges_of_mem {base : Nat} {l : List (Nat × Nat)} {r : Nat × Nat} (listed : r ∈ l) {x : Nat} (high : x < r.2) :
    InRanges base l (base + r.1 + x) := ⟨r, listed, by omega, by omega⟩

theorem not_inRanges {base : Nat} {l : List (Nat × Nat)} {a : Nat} (out : ∀ r ∈ l, a < base + r.1 ∨ base + r.1 + r.2 ≤ a) :
    ¬ InRanges base l a := by
  rintro ⟨r, listed, low, high⟩
  have apart := out r listed
  omega

/-- A bank wiped is blank in its ranges and as before outside them. -/
theorem wipeBank_byte (b : Nat) (s : State) (a : Nat) :
    (InRanges (bankBase b) (bankRanges b) a → (wipeBank b s).byte a = 0) ∧
      (¬ InRanges (bankBase b) (bankRanges b) a → (wipeBank b s).byte a = s.byte a) := by
  refine foldl_ranges_byte (I := fun _ => True) (v := fun _ => 0) (fun _ _ _ _ => trivial) ?_ ?_ trivial a
  · exact fun r _ t _ x hx => Memory.read_clear_inside (m := t.mem) (Nat.le_add_right _ x) (Nat.add_lt_add_left hx _)
  · exact fun _ _ t _ out => Memory.read_clear_outside (m := t.mem) out

/-- While one bank is copied to another, memory stays canonical and the source holds what it held. -/
def CopiesFrom (b : Nat) (s t : State) : Prop :=
  Memory.wf t.mem = true ∧ ∀ o < 0x400000, t.byte (bankBase b + o) = s.byte (bankBase b + o)

/-- The copy of a range leaves the source bank as it was, even where it is the destination too. -/
theorem copyRange_copiesFrom {b dest : Nat} {r : Nat × Nat} (fits : r.1 + r.2 ≤ 0x400000) {s t : State} (copies : CopiesFrom b s t) :
    CopiesFrom b s { t with mem := Memory.copyRange t.mem (bankBase b + r.1) (bankBase dest + r.1) r.2 } := by
  obtain ⟨canonical, source⟩ := copies
  refine ⟨Memory.copyRange_wf canonical, fun o ho => Eq.trans ?_ (source o ho)⟩
  by_cases within : bankBase dest + r.1 ≤ bankBase b + o ∧ bankBase b + o < bankBase dest + r.1 + r.2
  · obtain ⟨low, high⟩ := within
    have same : dest = b := by
      unfold bankBase at low high
      omega
    subst same
    have copied := Memory.read_copyRange_inside canonical (src := bankBase dest + r.1) (n := r.2) (x := o - r.1) (by omega)
      (bankBase dest + r.1)
    have place : bankBase dest + r.1 + (o - r.1) = bankBase dest + o := by omega
    rwa [place] at copied
  · exact Memory.read_copyRange_outside t.mem _ (by omega)

/-- A bank copied holds the source's bytes in its ranges and its own outside them. -/
theorem copyBank_byte {b dest : Nat} {s : State} (canonical : Memory.wf s.mem = true) (a : Nat) :
    (InRanges (bankBase dest) (bankRanges dest) a → (copyBank b dest s).byte a = s.byte (bankBase b + (a - bankBase dest))) ∧
      (¬ InRanges (bankBase dest) (bankRanges dest) a → (copyBank b dest s).byte a = s.byte a) := by
  refine foldl_ranges_byte (I := CopiesFrom b s) (v := fun a => s.byte (bankBase b + (a - bankBase dest)))
    (fun r hr t => copyRange_copiesFrom (bankRanges_inside r hr)) ?_
    (fun r _ t _ out => Memory.read_copyRange_outside t.mem (bankBase b + r.1) out) ⟨canonical, fun _ _ => rfl⟩ a
  intro r hr t copies x hx
  obtain ⟨wf, source⟩ := copies
  have fits := bankRanges_inside r hr
  have place : bankBase dest + r.1 + x - bankBase dest = r.1 + x := by omega
  rw [place, ← source (r.1 + x) (by omega), ← Nat.add_assoc]
  exact Memory.read_copyRange_inside wf hx _

theorem wipeBank_regs (b : Nat) (s : State) : (wipeBank b s).regs = s.regs := by
  unfold wipeBank
  refine foldl_keeps State.regs (fun _ _ _ => ?_) s
  rfl

theorem copyBank_regs (b dest : Nat) (s : State) : (copyBank b dest s).regs = s.regs := by
  unfold copyBank
  refine foldl_keeps State.regs (fun _ _ _ => ?_) s
  rfl

theorem bankStatus_done (s : State) : (bankStatus 2 0 s).reg P.pbkBankCmdStatus = 2 := by
  have size : sizeOf' P.pbkBankCmdStatus = 4 := by decide +kernel
  rw [bankStatus, State.reg_setReg, size]
  decide

/-- What an operation on a bank leaves behind its end: its status, and in memory and registers what the operation wrote. -/
theorem bankComplete_done {s : State} {op b dest : Nat} (runs : s.mram.op = some (op, b, dest)) :
    bankComplete 0 s = bankStatus 2 0 (if op = 2 then copyBank b dest { s with mram := { s.mram with op := none } }
      else if op = 3 then wipeBank b { s with mram := { s.mram with op := none } } else { s with mram := { s.mram with op := none } }) := by
  simp only [bankComplete, runs, if_true]

theorem bankStatus_sameRegs {s t : State} (regs : t.regs = s.regs) (st faults : Nat) :
    SameRegs [P.pbkBankCmdStatus] s (bankStatus st faults t) := by
  intro p hp
  have same : t.reg p = s.reg p := congrArg (fun r => (Regs.get? r p).getD (dfltOf p)) regs
  exact (State.reg_setReg_ne t _ (List.ne_of_not_mem_cons hp)).trans same

end Sys2Proof.Machine
end

section
/-!
SUPPORT. The accesses of the MRAM array (spec/06_mram_and_prompt_book.md R137 to R153): the steps that O18 states.
-/

namespace Sys2Proof.Machine

open Sys2Proof

/-- Settles O18, each clause by the lemma of its access. -/
theorem arrayAccesses : Obligations.ArrayAccesses := by
  unfold Obligations.ArrayAccesses
  refine ⟨?read, ?double, ?single, ?write, ?merge, ?scrub, ?repair, ?repaired, ?test, ?copy, ?wipe⟩
  case read =>
    intro s init addr admitted shown
    have run := wordRead_admitted admitted shown (mramRead_clean addr (some true) s)
    exact completes_of_eq (congrArg Host.Outcome.next run) ⟨rfl, (noteWrong_keeps ..).answered ..⟩
  case double =>
    intro s init addr b c admitted live shown
    obtain ⟨on, ready⟩ := mramAdmit_powered admitted
    have run := wordRead_admitted admitted shown (mramRead_double live (some true))
    obtain ⟨fault, answer⟩ := busAnswer_data init 14 addr [] (uncorrectable (addr / 16 * 16) (noteWrong (addr / 16 * 16) [b, c] s))
    have noted := noteWrong_keeps (addr / 16 * 16) [b, c] s
    have counted := fun {q} (other : q ∉ bookPids) ne =>
      uncorrectable_reg (s := noteWrong (addr / 16 * 16) [b, c] s) other ne on ready (addr / 16 * 16)
    refine completes_of_eq (congrArg Host.Outcome.next (run.trans answer)) ⟨rfl, ?_, ?_⟩
    · rw [State.emit_reg, State.reg_count_ne _ _ (by decide), State.reg_setReg_ne _ _ (by decide), counted (by decide) (by decide),
        State.reg_count, noted.reg List.not_mem_nil]
    · rw [State.emit_reg, State.reg_count, State.reg_setReg_ne _ _ (by decide), counted (by decide) (by decide),
        State.reg_count_ne _ _ (by decide), noted.reg List.not_mem_nil]
  case single =>
    intro s init addr b admitted live shown unknown first
    have run := wordRead_admitted admitted shown (mramRead_single live (some true))
    rw [corrected_new (s := noteWrong (addr / 16 * 16) [b] s) unknown first] at run
    have noted : Keeps [] s (notePass (addr / 16 * 16) b (noteWrong (addr / 16 * 16) [b] s)) := keeps_of_eq rfl rfl
    have sent : (notePass (addr / 16 * 16) b (noteWrong (addr / 16 * 16) [b] s)).sent = s.sent := rfl
    generalize notePass (addr / 16 * 16) b (noteWrong (addr / 16 * 16) [b] s) = u at run noted sent
    refine completes_of_eq (congrArg Host.Outcome.next run) ⟨?_, ?_, (noted.trans (cellFault_keeps _ b u)).answered ..⟩
    · rw [busAnswer_sent, cellFault_sent, sent, if_pos rfl]
    · rw [busAnswer_reg, cellFault_counts, noted.reg List.not_mem_nil]
  case write =>
    intro s init addr w admitted fits canonical
    obtain ⟨word, stores, regs⟩ := (mramStore_wrote (a := addr / 16 * 16) canonical fits).answered init 14 addr []
    exact completes_of_eq (congrArg Host.Outcome.next (wordWrite_admitted admitted w))
      ⟨word, stores, regs, by rw [busAnswer_sent, mramStore_sent]⟩
  case merge =>
    intro s init addr be w admitted canonical
    have wrote := mramStore_wrote (s := noteWrong (addr / 16 * 16) [] s) (a := addr / 16 * 16) canonical
      (mergeBytes_lt (s.word (addr / 16 * 16)) w be)
    exact completes_of_eq (congrArg Host.Outcome.next (wordMerge_clean admitted be w)) (wrote.of_noted.answered ..)
  case scrub =>
    rintro s p there tier position power refs rows
    have run := scrubVisit_clean there tier (position.symm ▸ power) refs
    rw [nextScrub_row (s := noteWrong (scrubAddr s / 16 * 16) [] s) position rows] at run
    have bank : bits p 20 18 < 8 := Nat.mod_lt _ (by decide)
    exact completes_of_eq (congrArg Host.Outcome.next run) ⟨reg_scrubPos (by omega), keeps_setReg (noteWrong _ [] s) _ _⟩
  case repair =>
    intro s e a there only opened rows _ sub slot passed place good canonical
    have repairs := repairStep_repairs only opened rows place good passed
    have wrote := repairStep_rewrites only opened rows place good canonical
    have row : rowOf a < e.row + 1 := by
      rw [place, rowOf_columnAddr sub slot rows]
      exact Nat.lt_succ_self _
    have spare := spareCell_passed (s := repairStep s) (e := { e with row := e.row + 1 }) row passed
    rw [wrote.1] at spare
    exact completes_of_eq (congrArg Host.Outcome.next (if_pos there)) ⟨repairs, spare, wroteWord_same wrote⟩
  case repaired =>
    intro s e there only opened rows ready
    obtain ⟨on, -⟩ := Bool.and_eq_true_iff.mp there
    obtain ⟨fault, u, done, repairs, regs, pwr, jnl⟩ := repairDone_single only opened rows
    have powered : (u.count P.pbkColumnFaults 1).domOn 36 = true := by
      rwa [State.domOn, State.dom, State.count_pwr, pwr]
    have recovered : (u.count P.pbkColumnFaults 1).jnl.ready = true := by
      rwa [State.count_jnl, jnl]
    have counted := recordFault_reg (q := P.pbkColumnFaults) (by decide) (by decide) powered recovered fault
    refine completes_of_eq (congrArg Host.Outcome.next ((if_pos there).trans done)) ⟨?_, ?_⟩
    · rw [recordFault_mram, State.count_mram, repairs]
    · rw [counted, State.reg_count, regs]
  case test =>
    intro s b runs
    exact completes_of_eq (congrArg Host.Outcome.next (bankComplete_done runs))
      ⟨rfl, bankStatus_done _, bankStatus_sameRegs rfl _ _, fun _ => rfl⟩
  case copy =>
    intro s b d runs canonical
    have byte := copyBank_byte (b := b) (dest := d) (s := { s with mram := { s.mram with op := none } }) canonical
    refine completes_of_eq (congrArg Host.Outcome.next (bankComplete_done runs)) ⟨bankStatus_done _, fun r hr x hx => ?_,
      fun a out => (byte a).2 (not_inRanges out), bankStatus_sameRegs (copyBank_regs ..) _ _⟩
    have copied := (byte _).1 (inRanges_of_mem hr hx)
    have place : bankBase b + (bankBase d + r.1 + x - bankBase d) = bankBase b + r.1 + x := by omega
    rw [place] at copied
    exact copied
  case wipe =>
    intro s b runs
    have byte := wipeBank_byte b { s with mram := { s.mram with op := none } }
    exact completes_of_eq (congrArg Host.Outcome.next (bankComplete_done runs)) ⟨bankStatus_done _,
      fun r hr x hx => (byte _).1 (inRanges_of_mem hr hx), fun a out => (byte a).2 (not_inRanges out),
      bankStatus_sameRegs (wipeBank_regs ..) _ _⟩

end Sys2Proof.Machine
end

section
/-!
SUPPORT. A recovery over an uncorrectable word (spec/06_mram_and_prompt_book.md R152, R163): the post that refutes O19.
-/

namespace Sys2Proof.Machine

open Sys2Proof

/-- A post at the power-up of PD36, PD29 and PD30 for its first recovery: neither half holds a record. -/
def unrecoveredPost : State := ((State.reset.setDom 36 .on).setDom 29 .on).setDom 30 .on

/-- The first word of half 1 reads as DATA, so neither half is complete and an empty half 1 of two records is written (R163). The MRAM
record of that word (R152) then follows them, and its three words move the fill on from 6. -/
theorem recovery_records_bad_word : (recoverCounting 5000 [bankBase 1] unrecoveredPost).reg P.pbkFill = 9 := by
  decide +kernel

/-- Refutes O19: its clause of the recovery asks that the new half hold 6 words, but behind a recovery that read an uncorrectable word
stands that word's record too. -/
theorem not_commitsAndCompaction : ¬ Obligations.CommitsAndCompaction := by
  unfold Obligations.CommitsAndCompaction
  rintro ⟨-, -, -, -, -, recovery, -⟩
  obtain ⟨t, run, -, -, fill, -⟩ := recovery unrecoveredPost 5000 [bankBase 1] (by decide +kernel) rfl (by decide +kernel)
    (by decide +kernel) (by decide)
  have after : recoverCounting 5000 [bankBase 1] unrecoveredPost = t := Host.Outcome.next.inj run
  rw [← after, recovery_records_bad_word] at fill
  exact absurd fill (by decide)

end Sys2Proof.Machine
end

section
/-!
SUPPORT. The opcodes of the Cue server that write (spec/07_object_dictionary.md R178 to R194): what each answers once a request is
accepted, and O37.
-/

namespace Sys2Proof.Machine

open Sys2Proof

/-! ### An accepted request and its answer (R178, R179) -/

/-- A command that serves an accepted request completes with the answer of its opcode. -/
theorem completes_of_served {c : Instr} {op : Nat} {r : Req} {s u : State} {b : Reply} {Q : State → Prop}
    (run : exec c s = .next (serveCue op false r s)) (accepted : Accepted op r s)
    (serves : serveOp (servingOf op r s) (heard r s) = (b, u)) (h : Q (answered (servingOf op r s) b u)) : Completes c s Q := by
  rw [serveCue_of_accepted accepted, execute_eq_answered, serves] at run
  exact completes_of_eq run h

theorem noteVerified_cue (r : Req) (s : State) :
    (noteVerified r s).cue.pend = s.cue.pend ∧ (noteVerified r s).cue.keys = s.cue.keys := by
  unfold noteVerified
  dsimp only
  split <;> exact ⟨rfl, rfl⟩

theorem setSeq_cue (m : Master) (seq : Nat) (s : State) :
    (setSeq m seq s).cue.pend = s.cue.pend ∧ (setSeq m seq s).cue.keys = s.cue.keys := by
  cases m <;> exact ⟨rfl, rfl⟩

/-- An accepted request has changed neither the pending block nor a key before it is executed. -/
theorem heard_cue (r : Req) (s : State) : (heard r s).cue.pend = s.cue.pend ∧ (heard r s).cue.keys = s.cue.keys := by
  obtain ⟨pend, keys⟩ := setSeq_cue (masterOf s r) r.seq (noteVerified r s)
  obtain ⟨pend', keys'⟩ := noteVerified_cue r s
  exact ⟨pend.trans pend', keys.trans keys'⟩

/-! ### The opcode of a request (R176, R190) -/

theorem serveOp_raw {v : Serving} (op : v.op = opRead ∨ v.op = opWrite) (area : areaOf v.req.pid = 0xE) (s : State) :
    serveOp v s = serveRaw v s := if_pos ⟨op, area⟩

theorem serveOp_write {v : Serving} (op : v.op = opWrite) (area : areaOf v.req.pid ≠ 0xE) (s : State) :
    serveOp v s = serveWrite v s := by simp [serveOp, op, area]

theorem serveOp_confirm {v : Serving} (op : v.op = opConfirm) (s : State) : serveOp v s = serveConfirm v s := by simp [serveOp, op]

theorem serveOp_bulkWrite {v : Serving} (op : v.op = opBulkWrite) (s : State) : serveOp v s = serveBulkWrite v s := by
  simp [serveOp, op]

theorem areaOf_rawReq (r : Req) : areaOf (rawReq r).pid = 0xE := by
  have low : r.pid % 0x100000 < 0x100000 := Nat.mod_lt _ (by decide)
  show (0xE00000 + r.pid % 0x100000) / 0x100000 % 16 = 0xE
  omega

/-! ### WRITE of one object (R182, R185) -/

theorem serveWrite_object {v : Serving} {s : State} (outside : inBlock v.req.pid = false)
    (judged : judgeWrite v.level v.req.pid v.req.payload s = resOk) :
    serveWrite v s =
      (((performWrite v v.req.pid v.req.payload s).1, []), (performWrite v v.req.pid v.req.payload s).2) := by
  simp [serveWrite, judged, outside]

/-- A WRITE that passes steps 6 to 10 and that its object takes. -/
theorem serveOp_accepted {r : Req} {s u : State} (accepted : AcceptedWrite r s)
    (performs : performWrite (servingOf opWrite r s) r.pid r.payload (heard r s) = (resOk, u)) :
    serveOp (servingOf opWrite r s) (heard r s) = ((resOk, []), u) := by
  obtain ⟨-, area, outside, judged, -⟩ := accepted
  have object := serveWrite_object (v := servingOf opWrite r s) (s := heard r s) outside judged
  rw [serveOp_write rfl area, object]
  exact congrArg (fun x : Nat × State => ((x.1, []), x.2)) performs

/-- Where no block is pending, the write of an object of a block begins it (R185). -/
theorem blockWrite_begins {s : State} (free : s.cue.pend = none) (m : Master) (p n : Nat) :
    (blockWrite m p n s).1 = resOk ∧ (blockWrite m p n s).2.cue.pend.map (·.group) = some (groupOf p) := by
  simp [blockWrite, free]

theorem serveWrite_block {v : Serving} {s : State} (inside : inBlock v.req.pid = true)
    (judged : judgeWrite v.level v.req.pid v.req.payload s = resOk) (prompt : v.late = false) (free : s.cue.pend = none) :
    serveWrite v s =
      ((resOk, toBytes 4 ((blockWrite v.master v.req.pid (ofBytes v.req.payload) s).2.reg P.smgCuePendingCrc)),
        (blockWrite v.master v.req.pid (ofBytes v.req.payload) s).2) := by
  obtain ⟨begins, -⟩ := blockWrite_begins free v.master v.req.pid (ofBytes v.req.payload)
  simp [serveWrite, judged, inside, prompt, begins]

/-- A WRITE of an object without a persistent value does what its action does. -/
theorem performWrite_volatile {v : Serving} {p : Nat} {val : Bytes} {s u : State} (prompt : v.late = false)
    (access : accessAborts s p = false) (volatile : persistent p = false) (acts : actWrite v.ctx p val s = (resOk, u)) :
    performWrite v p val s = (resOk, u) := by
  have applied : applyWrite v p val s = (resOk, u) := by rw [applyWrite, access, acts]; rfl
  simp [performWrite, applied, prompt, volatile, earlyRefusal]

/-! ### BULK_WRITE (R183) -/

/-- A BULK_WRITE of objects without persistent values, whose entries all pass, applies them. -/
theorem serveBulkWrite_applies {v : Serving} {s : State} {l : List (Nat × Bytes)} (whole : v.req.pid = 0)
    (parsed : parseWrites 300 v.req.payload = (l, true)) (filled : l ≠ []) (few : l.length ≤ 64)
    (volatile : ∀ e ∈ l, persistent e.1 = false) (prompt : v.late = false) (judged : bulkJudges v 0 none l s = none) :
    serveBulkWrite v s = bulkApplies v 0 l s := by
  have nothing : (l.filter fun e => persistent e.1 && !(inBlock e.1)) = [] :=
    List.filter_eq_nil_iff.mpr fun e he => by simp [volatile e he]
  simp [serveBulkWrite, whole, parsed, filled, few, prompt, judged, nothing]

/-! ### CONFIRM (R187) -/

theorem confirmAction_confirms {v : Serving} {s : State} {b : PendBlock} (live : livePend s = some b) (group : b.group = v.req.pid)
    (writer : b.writer = v.master) (crc : ofBytes v.req.payload = blockCrc b.values) (iron : s.ironPresent = true) :
    confirmAction v s = ((resOk, []), confirmBlock v b s) := by
  simp [confirmAction, live, group, writer, crc, iron, ironCrc]

/-- A CONFIRM that passes its own steps is judged against the pending block. -/
theorem serveConfirm_acts {v : Serving} {s : State} {n : Nat} (home : groupHome v.req.pid = some n) (level : 3 ≤ v.level)
    (there : s.homePresent n = true) (length : v.req.payload.length = 4) (group : v.req.pid % 256 = 0) (prompt : v.late = false)
    (still : v.req.pid = 0x30F000 ∨ (anyPairClosed s = false ∧ anyClosed s = false)) :
    serveConfirm v s = confirmAction v s := by
  have calm : ¬ (v.late = true ∨ (v.req.pid ≠ 0x30F000 ∧ (anyPairClosed s = true ∨ anyClosed s = true))) := by
    obtain ack | ⟨pairs, outputs⟩ := still
    · simp [prompt, ack]
    · simp [prompt, pairs, outputs]
  simp only [serveConfirm, home]
  rw [if_neg level.not_gt, if_neg (by simp [there]), if_neg (not_not_intro length), if_neg (not_not_intro group), if_neg calm]

theorem discardPend_pend (s : State) : (discardPend s).cue.pend = none := rfl

theorem confirmBlock_pend (v : Serving) (b : PendBlock) (s : State) : (confirmBlock v b s).cue.pend = none := discardPend_pend _

/-- Without a pending block its two objects read their defaults (R187). -/
theorem discardPend_state (s : State) : (discardPend s).reg P.smgCuePendingPid = 0xFFFFFFFF ∧
    (discardPend s).reg P.smgCuePendingCrc = 0 ∧ Keeps [P.smgCuePendingPid, P.smgCuePendingCrc] s (discardPend s) := by
  refine ⟨?_, ?_, ?_⟩
  · rw [discardPend, State.reg_clearReg_ne _ (by decide), State.reg_clearReg]
    decide +kernel
  · rw [discardPend, State.reg_clearReg]
    decide +kernel
  · exact (keeps_clearReg _ P.smgCuePendingPid).trans (keeps_clearReg _ P.smgCuePendingCrc)

/-! ### Keys (R171, R194) -/

theorem cue_of_apart {s t : State} (h : t.apart = s.apart) : t.cue = s.cue := by
  have parts : t.apart.cue = s.apart.cue := congrArg State.cue h
  exact parts

theorem selfCommit_apart (never : Bool) (pids : List Nat) (s : State) : (selfCommit never pids s).apart = s.apart :=
  commit_apart _ s

theorem setJournalled_apart (p v : Nat) (s : State) : (setJournalled p v s).apart = s.apart := selfCommit_apart false [p] _

/-- The tamper log is registers and records. -/
theorem tamperStart_apart (e detail : Nat) (s : State) : (tamperStart e detail s).apart = s.apart := by
  simp only [tamperStart, tamperRecord, record_apart, apart_ite, setJournalled_apart, setReg_apart, count_apart, ite_self]

theorem key_setCueKey {k : Nat} {s : State} (stored : k < 4) (inside : k < s.cue.keys.length) (v : Nat) :
    (setCueKey k v s).key k = v := by
  simp [setCueKey, stored, State.key, setAt, inside]

/-- The write of a key of the Cue server, decrypted, and its event in the tamper log. -/
theorem keyWrite_cueKey {k : Nat} (low : k < 3) (c : WriteCtx) (v : Bytes) (s : State) :
    keyWrite c (P.smgCueKey k) v s = tamperStart 9 0 (setCueKey k (ofBytes (aesDecrypt (toBytes 16 c.key) v)) s) := by
  have password : P.smgCueKey k ≠ P.tagPassword := by simp only [P.smgCueKey, P.tagPassword]; omega
  have aes : P.smgCueKey k ≠ P.tagAesKey := by simp only [P.smgCueKey, P.tagAesKey]; omega
  have house : P.smgCueKey k ≠ P.tirHouseKey := by simp only [P.smgCueKey, P.tirHouseKey]; omega
  have index : P.smgCueKey k - P.smgCueKey 0 = k := by simp only [P.smgCueKey]; omega
  rw [keyWrite, if_neg password, if_neg aes, if_neg house, index]

theorem keyWrite_key {k : Nat} {s : State} (low : k < 3) (inside : k < s.cue.keys.length) (c : WriteCtx) (v : Bytes) :
    (keyWrite c (P.smgCueKey k) v s).key k = ofBytes (aesDecrypt (toBytes 16 c.key) v) := by
  rw [keyWrite_cueKey low, State.key, cue_of_apart (tamperStart_apart ..)]
  exact key_setCueKey (by omega) inside _

/-- The keys of levels 0 to 2 stand among the key objects and have no persistent value of an object. -/
theorem smgCueKey_object {k : Nat} (low : k < 3) :
    persistent (P.smgCueKey k) = false ∧ keyObjects.contains (P.smgCueKey k) = true := by
  interval_cases k <;> decide +kernel

theorem actWrite_key {p : Nat} (key : keyObjects.contains p = true) (c : WriteCtx) (v : Bytes) (s : State) :
    actWrite c p v s = (resOk, keyWrite c p v s) := by
  rw [actWrite, actCommand, if_pos key]

/-! ### The obligation -/

/-- Settles O37, each clause by the lemma of its opcode. -/
theorem cueWrites : Obligations.CueWrites := by
  unfold Obligations.CueWrites
  refine ⟨?write, ?block, ?bulk, ?confirm, ?raw, ?key, ?expiry⟩
  case write =>
    rintro s r _ accepted rfl performed
    exact completes_of_served rfl accepted.1 (serveOp_accepted accepted (Prod.ext performed rfl)) rfl
  case block =>
    rintro s r _ accepted area inside rfl judged free
    obtain ⟨pend, -⟩ := heard_cue r s
    have begun := blockWrite_begins (pend.trans free) (masterOf s r) r.pid (ofBytes r.payload)
    refine completes_of_served rfl accepted ?_ ⟨rfl, begun.2⟩
    rw [serveOp_write rfl area]
    exact serveWrite_block inside judged rfl (pend.trans free)
  case bulk =>
    rintro s r _ l accepted whole parsed filled few volatile rfl judged
    refine completes_of_served rfl accepted ?_ rfl
    rw [serveOp_bulkWrite rfl]
    exact serveBulkWrite_applies whole parsed filled few volatile rfl judged
  case confirm =>
    rintro s r _ n b accepted level rfl home there length group calm live named writer crc iron
    refine completes_of_served rfl accepted ?_ ⟨rfl, confirmBlock_pend ..⟩
    rw [serveOp_confirm rfl, serveConfirm_acts home level there length group rfl calm]
    exact confirmAction_confirms live named writer crc iron
  case raw =>
    rintro s r _ accepted rfl -
    refine completes_of_served rfl accepted ?_ rfl
    exact serveOp_raw (.inr rfl) (areaOf_rawReq r) _
  case key =>
    rintro s r _ k accepted low pid rfl five
    obtain ⟨-, keys⟩ := heard_cue r s
    obtain ⟨volatile, key⟩ := smgCueKey_object low
    have inside : k < (heard r s).cue.keys.length := by rw [keys, five]; omega
    rw [← pid] at volatile key
    have performed := performWrite_volatile (v := servingOf opWrite r s) rfl accepted.2.2.2.2 volatile
      (actWrite_key key _ r.payload _)
    refine completes_of_served rfl accepted.1 (serveOp_accepted accepted performed) ⟨rfl, ?_⟩
    rw [pid]
    exact keyWrite_key low inside _ _
  case expiry => exact fun s => completes_of_eq rfl ⟨discardPend_pend s, discardPend_state s⟩

end Sys2Proof.Machine
end

section
/-!
SUPPORT. The requests that refute O36, O56, O57 and O59: a NOTIFY whose interval is not spelt in bytes (spec/07_object_dictionary.md
R188), a stop during a quick stop (spec/10_fly_axis.md R271), and writes that are answered over Tirwa (spec/05_callboard.md R128).
-/

namespace Sys2Proof.Machine

open Sys2Proof

/-! ### What a reply on the stage door port leaves alone (R167) -/

theorem storeReply_sub (m : Master) (seq : Nat) (f : CueFrame) (s : State) (i : Nat) : (storeReply m seq f s).sub i = s.sub i := by
  unfold storeReply
  split
  · rfl
  · cases m <;> rfl

section
variable {v : Serving} {u : State} (door : v.req.via = .stageDoor) (calm : u.pwr.forcedStart = false) (b : Reply)
include door calm

theorem answered_door_sub (i : Nat) : (answered v b u).sub i = u.sub i := by
  rw [answered, sendReply_door door ((storeReply_pwr _ _ _ u).symm ▸ calm)]
  exact storeReply_sub _ _ _ u i

theorem answered_door_fly : (answered v b u).fly = u.fly := by
  obtain ⟨c, stored⟩ := storeReply_cue v.master v.req.seq (v.reply u b) u
  rw [answered, stored, sendReply_door (s := { u with cue := c }) door calm]
  rfl

end

/-! ### The interval of a subscription (R188) -/

/-- The post of the tests, whose batons the side-band holds. -/
def doorPost : State := Tests.upB Tests.up

/-- A NOTIFY of SMG_TIER whose interval holds 300 in the place of a byte. -/
def wideNotify : Req := Tests.rq opNotify P.smgTier [1, 300, 0] doorPost

theorem wideNotify_accepted : Accepted opNotify wideNotify doorPost :=
  Tests.accepted_rq rfl rfl rfl rfl (by decide +kernel)

/-- The place is read as the byte 44, so the subscription is made at 44 ms. -/
theorem wideNotify_interval :
    ((serveCue opNotify false wideNotify doorPost).sub 0).map (·.interval) = some 44 := by
  rw [serveCue_of_accepted wideNotify_accepted, execute_eq_answered, answered_door_sub rfl (by decide +kernel)]
  decide +kernel

/-- Refutes O36: its clause of NOTIFY ranges over every number for the two bytes of the interval, and takes 300 as it stands where the
Cue server reads the byte 44. -/
theorem not_cueReads : ¬ Obligations.CueReads := by
  unfold Obligations.CueReads
  rintro ⟨-, -, -, notify, -⟩
  obtain ⟨t, run, told⟩ := notify doorPost wideNotify _ 300 0 0 (objBytes (heard wideNotify doorPost) P.smgTier)
    wideNotify_accepted rfl (by decide +kernel) rfl (by decide) (by decide) (by decide +kernel) (by decide +kernel)
    (by decide +kernel)
  have after : serveCue opNotify false wideNotify doorPost = t := Host.Outcome.next.inj run
  have asked : (t.sub 0).map (·.interval) = some 300 := by
    rw [told, answered_door_sub rfl (by decide +kernel)]
    decide +kernel
  rw [← after, wideNotify_interval] at asked
  exact absurd asked (by decide)

/-! ### A stop during a quick stop (R271) -/

/-- An axis in a quick stop stays in it when it is asked to stop. -/
theorem actFlyStop_quick {s : State} (runs : s.fly.phase = .run) (quick : s.fly.goal = .quick) (g : FlyGoal) :
    (actFlyStop g s).2.fly.goal = .quick := by
  simp [actFlyStop, setFly, runs, quick]

/-- A post whose axis makes a quick stop. -/
def quickPost : State := Tests.upB (Tests.upFly .run .quick)

/-- The side-band's FLY_CMD 0x03. -/
def stopRequest : Req := Tests.rq opWrite P.flyCmd [3] quickPost

theorem stopRequest_accepted : AcceptedWrite stopRequest quickPost :=
  ⟨Tests.accepted_rq rfl rfl rfl rfl (by decide +kernel), by decide +kernel⟩

/-- Refutes O56: a stop that is asked for during a quick stop leaves the quick stop, where the clause of FLY_STOP names the goal of a
stop. -/
theorem not_flyRequests : ¬ Obligations.FlyRequests := by
  unfold Obligations.FlyRequests
  rintro ⟨-, -, stop, -⟩
  obtain ⟨t, -, wrote, -, goal, -⟩ := stop quickPost _ stopRequest _ rfl stopRequest_accepted rfl (by decide +kernel)
  have kept : t.fly.goal = .quick := by
    rw [wrote, answered_door_fly rfl (by decide +kernel)]
    exact actFlyStop_quick (by decide +kernel) (by decide +kernel) .stop
  rw [kept] at goal
  cases goal

/-! ### Writes that the main host makes over Tirwa (R34, R128, R167) -/

/-- A WRITE of the main host, who holds its baton, is accepted where the checks that need no CMAC pass. -/
theorem hostWrite_accepted {p : Nat} {value : Bytes} {s : State}
    (checks : s.cue.inbox = [] ∧ served .tirwa s = true ∧ frameOk opWrite (hostWrite p value s) = true ∧
      addressed opWrite (hostWrite p value s) s = true ∧ s.epoch ≠ 0 ∧ masterOf s (hostWrite p value s) = .main ∧
      (noteVerified (hostWrite p value s) s).holder (areaOf p) = 1 ∧ seqVerdict .main 1 s = .accepted ∧
      s.pwr.forcedStart = false)
    (object : areaOf p ≠ 0xE ∧ inBlock p = false ∧ judgeWrite 4 p value (heard (hostWrite p value s) s) = resOk ∧
      accessAborts (heard (hostWrite p value s) s) p = false) : AcceptedWrite (hostWrite p value s) s := by
  obtain ⟨queue, runs, form, address, epoch, master, holder, seq, calm⟩ := checks
  have known : masterOf s (hostWrite p value s) ≠ .none := by simp [master]
  have held : (noteVerified (hostWrite p value s) s).holder (areaOf p) = (masterOf s (hostWrite p value s)).holds := by
    rw [holder, master]
    rfl
  have inOrder : seqVerdict (masterOf s (hostWrite p value s)) 1 s = .accepted := by rw [master, seq]
  exact ⟨⟨queue, runs, form, address, rfl, hostWrite_verdict p value s, epoch, known, batonStep_held rfl known held, inOrder,
    calm⟩, object⟩

/-- The post of O55's refutation with an emergency amount, and the baton of area 7 in its main host's hands. -/
def emergencyPost : State := tirwaPost.setRegs [(P.smgBatonHolder, 0x4000), (P.boxEmergAmount, 500)]

/-- The main host's request for the emergency credit. -/
def emergencyRequest : Req := hostWrite P.boxEmergReq [1] emergencyPost

theorem emergencyRequest_accepted : AcceptedWrite emergencyRequest emergencyPost :=
  hostWrite_accepted (by decide +kernel) (by decide +kernel)

theorem emergencyRequest_answers : AnswersTirwa ((heard emergencyRequest emergencyPost).setReg P.boxEmergActive 1) := by
  constructor <;> decide +kernel

/-- Refutes O57: a WRITE of BOX_EMERG_REQ over Tirwa is answered through channel 15 of the Callboard, whose result shows in
CBD_RESULT_NEW, so it changes more than BOX_EMERG_ACTIVE. -/
theorem not_tallyAndBoxRequests : ¬ Obligations.TallyAndBoxRequests := by
  unfold Obligations.TallyAndBoxRequests
  rintro ⟨-, -, -, -, -, -, -, -, emergency, -⟩
  obtain ⟨t, -, wrote, -, keeps⟩ := emergency emergencyPost _ emergencyRequest _ rfl emergencyRequest_accepted rfl
    (by decide +kernel) (by decide +kernel) (by decide +kernel)
  exact wrote_tirwa_not_keeps wrote emergencyRequest_answers rfl (by decide +kernel) (by decide) keeps

/-- The post of O55's refutation with a staging of the main host's in state 2, and the baton of area D in its hands. -/
def stagedPost : State :=
  { tirwaPost.setRegs [(P.smgBatonHolder, 0x4000000), (P.wngStatus, 2)] with wng := { tirwaPost.wng with owner := .main } }

/-- The main host's request for the verification. -/
def verifyRequest : Req := hostWrite P.wngVerify [1] stagedPost

theorem verifyRequest_accepted : AcceptedWrite verifyRequest stagedPost :=
  hostWrite_accepted (by decide +kernel) (by decide +kernel)

theorem verifyRequest_answers : AnswersTirwa (wngTo 3 0 (heard verifyRequest stagedPost)) := by
  constructor <;> decide +kernel

/-- Refutes O59: a WRITE of WNG_VERIFY over Tirwa is answered through channel 15 of the Callboard, whose result shows in
CBD_RESULT_NEW, so it changes more than WNG_STATUS. -/
theorem not_wingsRequests : ¬ Obligations.WingsRequests := by
  unfold Obligations.WingsRequests
  rintro ⟨-, -, verify, -⟩
  obtain ⟨t, -, wrote, -, keeps⟩ := verify stagedPost _ verifyRequest _ rfl verifyRequest_accepted rfl (by decide +kernel)
    (by decide +kernel)
  exact wrote_tirwa_not_keeps wrote verifyRequest_answers rfl (by decide +kernel) (by decide) keeps

end Sys2Proof.Machine
end

section
/-!
SUPPORT. What a safety event leaves alone (spec/08_safety.md R224): its notice passes the Callboard and its record the prompt book,
and both change the registers of those two alone.
-/

namespace Sys2Proof.Machine

open Sys2Proof

/-- The registers that an event may change: the Callboard's (R134), the fabric's count of dropped events (R54), the prompt book's
(R160 to R164, R529) and PW_RESET_CAUSE, which shows that an Iron reset was reported (R58). -/
def eventPids : List Nat :=
  [P.cbdResultNew, P.cbdRefused, P.cbdAborted, P.cbdRetractions, P.pwFabEventDrops, P.pwResetCause, P.pbkRecoveryStatus,
    P.pbkRecoveryUs, P.pbkScrubHours, P.pbkCompactPct, P.pbkRateLimit] ++ bookPids ++ ownPids

/-! ### The prompt book (R155 to R163, R529) -/

theorem bookPids_subset_eventPids : bookPids ⊆ eventPids := by decide

theorem setRegs_reg {q : Nat} {l : List (Nat × Nat)} (other : ∀ e ∈ l, q ≠ e.1) (s : State) : (s.setRegs l).reg q = s.reg q :=
  foldl_keeps (f := fun s (e : Nat × Nat) => s.setReg e.1 e.2) (fun s => s.reg q) (fun e mem s => s.reg_setReg_ne e.2 (other e mem)) s

section
variable {q : Nat} (other : q ∉ eventPids)
include other

theorem ne_eventPid {p : Nat} (h : p ∈ eventPids) : q ≠ p := fun eq => other (eq ▸ h)

theorem restoreOwn_reg (s : State) : (restoreOwn s).reg q = s.reg q := by
  have restored : ownPids ++ [P.pbkScrubHours, P.pbkCompactPct, P.pbkRateLimit] ⊆ eventPids := by decide
  refine setRegs_reg (fun e mem => ?_) s
  obtain ⟨p, listed, rfl⟩ := List.mem_map.mp mem
  exact ne_eventPid other (restored listed)

theorem adoptHalf_reg (bank : Nat) (c : Scan) (next status us : Nat) (s : State) :
    (adoptHalf bank c next status us s).reg q = s.reg q := by
  have books : [P.pbkSeqNext, P.pbkLiveHalf, P.pbkFill, P.pbkRecoveryStatus, P.pbkRecoveryUs] ⊆ eventPids := by decide
  unfold adoptHalf
  rw [setRegs_reg, restoreOwn_reg other, reg_upd]
  intro e mem
  exact ne_eventPid other (books (List.mem_map_of_mem (f := Prod.fst) mem))

theorem recover_reg (us : Nat) (bad : List Nat) (s : State) : (recover us bad s).reg q = s.reg q := by
  simp only [recover, reg_ite, adoptHalf_reg other, startCompaction_reg, writeRec_reg, ite_self]

theorem ensureReady_reg (s : State) : (ensureReady s).reg q = s.reg q := by
  unfold ensureReady
  split
  · rfl
  · exact recover_reg other ..

theorem commitOn_event_reg (j : JReq) (s : State) : (commitOn j s).2.reg q = s.reg q :=
  commitOn_reg (fun mem => other (bookPids_subset_eventPids mem)) j s

theorem ownEntryOn_reg (s : State) : (ownEntryOn s).reg q = s.reg q := by
  simp only [ownEntryOn, reg_ite, commitOn_event_reg other, ite_self]

theorem keeperUp_reg (s : State) : (keeperUp s).reg q = s.reg q := by
  rw [keeperUp, ensureReady_reg other, State.setDom_reg, State.setDom_reg, State.setDom_reg]
  split <;> rfl

theorem keeperDown_event_reg (was s : State) : (keeperDown was s).reg q = s.reg q := by
  have compacted := compactAll_reg (fun mem => other (bookPids_subset_eventPids mem)) 600 s
  simp only [keeperDown, State.setDom_reg, reg_ite, reg_upd, ownEntryOn_reg other, compacted, ite_self]

/-- A record changes no register outside the prompt book, even where the engine must recover it first. -/
theorem record_event_reg (typ : Nat) (payload : List Nat) (s : State) : (record typ payload s).reg q = s.reg q := by
  unfold record commit
  split
  · rw [commitOn_event_reg other, ensureReady_reg other]
  · rw [keeperDown_event_reg other, commitOn_event_reg other, keeperUp_reg other]

end

theorem saf_of_apart {s t : State} (h : t.apart = s.apart) : t.saf = s.saf := by
  have parts : t.apart.saf = s.apart.saf := congrArg State.saf h
  exact parts

/-! ### Readings that an event leaves alone -/

/-- A reading that depends on nothing an event changes: not on the Callboard, the Iron's list of events and the prompt book, nor on
free values, deliveries, outputs and the power layer's notes. -/
structure OffEvent {β : Type} (g : State → β) : Prop where
  parts : ∀ (s : State) freeCtr fab pwr cbd iron sent,
    g { s with freeCtr := freeCtr, fab := fab, pwr := pwr, cbd := cbd, iron := iron, sent := sent } = g s
  regs : ∀ (s : State) (p v : Nat), p ∈ eventPids → g (s.setReg p v) = g s
  records : ∀ (s : State) (typ : Nat) (payload : List Nat), g (record typ payload s) = g s

theorem offEvent_saf : OffEvent State.saf where
  parts := fun _ _ _ _ _ _ _ => rfl
  regs := fun _ _ _ _ => rfl
  records := fun s typ payload => saf_of_apart (record_apart typ payload s)

theorem offEvent_reg {q : Nat} (other : q ∉ eventPids) : OffEvent fun s => s.reg q where
  parts := fun _ _ _ _ _ _ _ => rfl
  regs := fun s _ v listed => s.reg_setReg_ne v (ne_eventPid other listed)
  records := fun s typ payload => record_event_reg other typ payload s

section
variable {β : Type} {g : State → β} (h : OffEvent g)
include h

theorem OffEvent.count {p : Nat} (listed : p ∈ eventPids) (s : State) (k : Nat) : g (s.count p k) = g s := h.regs s p _ listed

theorem OffEvent.board (s : State) (cbd : CbdState) : g { s with cbd := cbd } = g s := h.parts s ..

theorem OffEvent.setChan (s : State) (n : Nat) (c : Channel) : g (s.setChan n c) = g s := h.board s _

theorem OffEvent.offerEvent (s : State) (island number : Nat) : g (s.offerEvent island number) = g s := by
  unfold State.offerEvent
  split
  · exact h.parts s ..
  · exact h.count (by decide) s 1

/-! ### The Callboard (R123 to R131) -/

theorem OffEvent.storeNotice (n init word : Nat) (s : State) : g (storeNotice n init word s) = g s := by
  have shown (u : State) (v : Nat) := h.regs u P.cbdResultNew v (by decide)
  have counted (u : State) := h.count (p := P.cbdRetractions) (by decide) u 1
  simp only [Machine.storeNotice, h.offerEvent, apply_ite g, counted, h.board, shown, h.setChan, ite_self]

theorem OffEvent.postNotice (n init word beats byteEn : Nat) (s : State) : g (postNotice n init word beats byteEn s).2 = g s := by
  have counted (u : State) := h.count (p := P.cbdRefused) (by decide) u 1
  simp only [Machine.postNotice, apply_ite Prod.snd, apply_ite g, counted, h.storeNotice, ite_self]

theorem OffEvent.offerRetracts (n : Nat) (s : State) : g (offerRetracts n s) = g s := by
  unfold Machine.offerRetracts
  split
  · rfl
  · simp only [apply_ite g, h.board, h.postNotice, ite_self]

theorem OffEvent.retract (n sender tag : Nat) (s : State) : g (retract n sender tag s) = g s :=
  (h.offerRetracts n _).trans (h.board s _)

theorem OffEvent.cancelWaiting (n sender tag result : Nat) (s : State) : g (cancelWaiting n sender tag result s) = g s := by
  simp only [Machine.cancelWaiting, apply_ite g, h.retract, h.board, ite_self]

theorem OffEvent.recordResult (n result code : Nat) (s : State) : g (recordResult n result code s) = g s := by
  have shown (u : State) (v : Nat) := h.regs u P.cbdResultNew v (by decide)
  simp only [Machine.recordResult, apply_ite g, h.offerRetracts, h.cancelWaiting, h.offerEvent, h.board, shown, h.setChan, ite_self]

theorem OffEvent.readNotice (n init : Nat) (s : State) : g (readNotice n init s).2.2 = g s := by
  simp only [Machine.readNotice, apply_ite (fun x : Nat × Nat × State => g x.2.2), h.setChan, ite_self]

theorem OffEvent.deliverNotice (n : Nat) (delivered : Bool) (s : State) : g (deliverNotice n delivered s) = g s := by
  simp only [Machine.deliverNotice, apply_ite g, h.recordResult, h.setChan, ite_self]

theorem OffEvent.ackNotice (n init code : Nat) (s : State) : g (ackNotice n init code s).2 = g s := by
  simp only [Machine.ackNotice, apply_ite Prod.snd, apply_ite g, h.recordResult, ite_self]

theorem OffEvent.relay (n sender kind code : Nat) (s : State) : g (relay n sender kind code s) = g s := by
  have drawn : g (s.drawBits 16).2 = g s := h.parts s ..
  simp only [Machine.relay, apply_ite g, h.ackNotice, h.deliverNotice, h.readNotice, h.postNotice, drawn, ite_self]

/-! ### Events (R58, R224) -/

theorem OffEvent.keeperDeliver (s : State) : g (keeperDeliver s) = g s := by
  unfold Machine.keeperDeliver
  split
  · refine (foldl_keeps g (fun e _ u => ?_) _).trans (h.parts s ..)
    dsimp only
    split
    · exact ((h.regs _ _ _ (by decide)).trans (h.parts _ ..)).trans (h.records u ..)
    · exact h.records u ..
  · rfl

theorem OffEvent.ironEvent (code unit : Nat) (s : State) : g (ironEvent code unit s) = g s := by
  unfold Machine.ironEvent
  split
  · exact (h.keeperDeliver _).trans (h.parts s ..)
  · rfl

theorem OffEvent.wardenEvent (code unit detail : Nat) (s : State) : g (wardenEvent code unit detail s) = g s := by
  unfold Machine.wardenEvent
  split
  · exact (h.records _ ..).trans (h.relay ..)
  · rfl

theorem OffEvent.safetyEvent (ch code unit : Nat) (s : State) : g (safetyEvent ch code unit s) = g s := by
  unfold Machine.safetyEvent
  split
  · exact h.ironEvent ..
  · exact h.wardenEvent ..

end

end Sys2Proof.Machine
end

section
/-!
SUPPORT. The output pairs and the latches of the two channels (spec/08_safety.md R196, R197, R223): a latched fault opens the pairs that
it names in both channels, and what follows it, an event (R224) or the end of a session, closes none.
-/

namespace Sys2Proof.Machine

open Sys2Proof

/-! ### Bits of a value -/

theorem testBit_setBit (v i j : Nat) (b : Bool) : (setBit v i b).testBit j = if j = i then b else v.testBit j := by
  have low : v % 2 ^ i < 2 ^ i := Nat.mod_lt _ (by positivity)
  have whole : 2 ^ i * (v / 2 ^ i) + v % 2 ^ i = v := Nat.div_add_mod v (2 ^ i)
  have place : setBit v i b = 2 ^ i * (v / 2 ^ i - v / 2 ^ i % 2 + b.toNat) + v % 2 ^ i := by
    have bound : 2 ^ i * (v / 2 ^ i % 2) ≤ 2 ^ i * (v / 2 ^ i) := Nat.mul_le_mul_left _ (Nat.mod_le _ _)
    have width : i + 1 - i = 1 := by omega
    have value : (if b then 1 else 0) % 2 ^ 1 = b.toNat := by cases b <;> rfl
    rw [setBit, setBits, bits, width, value, Nat.mul_add, Nat.mul_sub, Nat.mul_comm (v / 2 ^ i % 2 ^ 1),
      Nat.mul_comm b.toNat, pow_one]
    omega
  conv_rhs => rw [← whole]
  rw [place, Nat.testBit_two_pow_mul_add _ low, Nat.testBit_two_pow_mul_add _ low]
  obtain below | rfl | above := lt_trichotomy j i
  · simp [below, below.ne]
  · cases b <;> simp [Nat.testBit_zero] <;> omega
  · obtain ⟨k, rfl⟩ := Nat.exists_eq_add_of_lt above
    have shift : i + k + 1 - i = k + 1 := by omega
    have rest : (v / 2 ^ i - v / 2 ^ i % 2 + b.toNat) / 2 = v / 2 ^ i / 2 := by
      have bit := b.toNat_le
      generalize v / 2 ^ i = q
      omega
    simp [shift, Nat.testBit_succ, rest, Nat.not_lt.mpr above.le, above.ne']

theorem bitOf_setBit_self (v i : Nat) (b : Bool) : bitOf (setBit v i b) i = b := by
  rw [bitOf_eq_testBit, testBit_setBit, if_pos rfl]

theorem bitOf_setBit_ne (v : Nat) {i j : Nat} (other : j ≠ i) (b : Bool) : bitOf (setBit v i b) j = bitOf v j := by
  rw [bitOf_eq_testBit, testBit_setBit, if_neg other, bitOf_eq_testBit]

theorem testBit_foldl_or (l : List Nat) (a i : Nat) :
    (l.foldl (· ||| ·) a).testBit i = (a.testBit i || l.any (·.testBit i)) := by
  induction l generalizing a with
  | nil => simp
  | cons b t ih => rw [List.foldl_cons, ih, Nat.testBit_or, List.any_cons, Bool.or_assoc]

/-! ### Switches (R196) -/

theorem highSide_setSwitches (hs ls : Nat) (s : State) : highSide (setSwitches hs ls s) = hs % 64 := by
  have width : 8 * sizeOf' P.irnSafeState = 32 := by decide +kernel
  rw [highSide, setSwitches, State.reg_setReg, width, bits]
  omega

theorem lowSide_setSwitches (hs ls : Nat) (s : State) : lowSide (setSwitches hs ls s) = ls % 64 := by
  have width : 8 * sizeOf' P.irnSafeState = 32 := by decide +kernel
  rw [lowSide, setSwitches, State.reg_setReg, width, bits]
  omega

theorem testBit_of_mod64 {v i : Nat} (h : (v % 64).testBit i = true) : v.testBit i = true := by
  have cut := Nat.testBit_mod_two_pow v 6 i
  rw [show (2 : Nat) ^ 6 = 64 from rfl, h] at cut
  exact (Bool.and_eq_true_iff.mp cut.symm).2

/-- Every switch that is closed in `t` is closed in `s`. -/
def OpensOnly (s t : State) : Prop :=
  ∀ i, ((highSide t).testBit i = true → (highSide s).testBit i = true) ∧ ((lowSide t).testBit i = true → (lowSide s).testBit i = true)

/-- Both switches of every pair of a mask are open. -/
def Opened (m : Nat) (s : State) : Prop := ∀ i, m.testBit i = true → (highSide s).testBit i = false ∧ (lowSide s).testBit i = false

theorem opensOnly_of_reg {s t : State} (h : t.reg P.irnSafeState = s.reg P.irnSafeState) : OpensOnly s t := by
  have high : highSide t = highSide s := by rw [highSide, h, highSide]
  have low : lowSide t = lowSide s := by rw [lowSide, h, lowSide]
  exact fun i => ⟨fun closed => high ▸ closed, fun closed => low ▸ closed⟩

theorem OpensOnly.trans {s t u : State} (first : OpensOnly s t) (next : OpensOnly t u) : OpensOnly s u :=
  fun i => ⟨fun closed => (first i).1 ((next i).1 closed), fun closed => (first i).2 ((next i).2 closed)⟩

theorem openPairs_opensOnly (mask : Nat) (s : State) : OpensOnly s (openPairs mask s) := by
  intro i
  rw [openPairs, highSide_setSwitches, lowSide_setSwitches]
  exact ⟨fun closed => (Bool.and_eq_true_iff.mp (Nat.testBit_and .. ▸ testBit_of_mod64 closed)).1,
    fun closed => (Bool.and_eq_true_iff.mp (Nat.testBit_and .. ▸ testBit_of_mod64 closed)).1⟩

theorem Opened.mono {m : Nat} {s t : State} (opened : Opened m s) (only : OpensOnly s t) : Opened m t := by
  intro i named
  obtain ⟨high, low⟩ := opened i named
  obtain ⟨high', low'⟩ := only i
  exact ⟨Bool.eq_false_of_not_eq_true fun closed => by simp [high' closed] at high,
    Bool.eq_false_of_not_eq_true fun closed => by simp [low' closed] at low⟩

/-- A pair of an open mask is not closed. -/
theorem Opened.pairClosed {m : Nat} {s : State} (opened : Opened m s) {p : Nat} (named : m.testBit p = true) :
    pairClosed s p = false := by
  rw [Machine.pairClosed, bitOf_eq_testBit, (opened p named).1, Bool.false_and]

theorem Opened.and_eq_zero {m : Nat} {s : State} (opened : Opened m s) : highSide s &&& m = 0 ∧ lowSide s &&& m = 0 := by
  constructor <;>
  · refine Nat.eq_of_testBit_eq fun i => ?_
    rw [Nat.testBit_and, Nat.zero_testBit]
    cases named : m.testBit i
    · exact Bool.and_false _
    · simp [opened i named]

/-! ### What the latched faults name (R197, R223) -/

section
variable {c : SafChan} {i : Nat}

theorem SafChan.names_all (low : i < 6)
    (latched : (bitOf c.lat 0 || bitOf c.lat 1 || bitOf c.lat 2 || bitOf c.lat 14 || bitOf c.lat 15) = true) :
    c.names.testBit i = true := by
  have all : ∀ i < 6, Nat.testBit 0x3F i = true := by decide
  simp [SafChan.names, Nat.testBit_or, latched, all i low]

theorem SafChan.names_estop (latched : bitOf c.lat 13 = true) (named : c.estop.testBit i = true) : c.names.testBit i = true := by
  simp [SafChan.names, Nat.testBit_or, latched, named]

theorem SafChan.names_overload (named : c.overload.testBit i = true) : c.names.testBit i = true := by
  simp [SafChan.names, Nat.testBit_or, named]

theorem SafChan.names_readback (named : c.readback.testBit i = true) : c.names.testBit i = true := by
  simp [SafChan.names, Nat.testBit_or, named]

theorem SafChan.names_dark (named : c.dark.testBit i = true) : c.names.testBit i = true := by
  simp [SafChan.names, Nat.testBit_or, named]

theorem SafChan.names_axis (latched : (bitOf c.lat 10 || bitOf c.lat 12) = true) (named : Nat.testBit 0x30 i = true) :
    c.names.testBit i = true := by
  simp [SafChan.names, Nat.testBit_or, latched, named]

end

theorem faultMask_of_names {s : State} {ch i : Nat} (inside : ch < s.saf.chans.length) (named : (s.saf? ch).names.testBit i = true) :
    (faultMask s).testBit i = true := by
  have mem : s.saf? ch ∈ s.saf.chans := by
    rw [State.saf?, List.getD_eq_getElem _ _ inside]
    exact List.getElem_mem inside
  have any : (s.saf.chans.map SafChan.names).any (·.testBit i) = true :=
    List.any_eq_true.mpr ⟨_, List.mem_map_of_mem mem, named⟩
  simp [faultMask, otherFaults, Nat.testBit_or, testBit_foldl_or, any]

theorem not_faulted_of_mayHold {s : State} {ch i : Nat} (held : (mayHold s ch).testBit i = true) : (faultMask s).testBit i = false := by
  unfold mayHold at held
  split at held
  · rw [show 0x3F = 2 ^ 6 - 1 from rfl, Nat.and_two_pow_sub_one_eq_mod, Nat.sub_sub, Nat.add_comm 1,
      Nat.testBit_two_pow_sub_succ (Nat.mod_lt _ (by decide)), Nat.testBit_mod_two_pow, Nat.testBit_or] at held
    cases faulted : (faultMask s).testBit i
    · rfl
    · cases low : decide (i < 6) <;> simp [faulted, low] at held
  · exact absurd held (by simp)

theorem brakeFollows_subset {before after i : Nat} (closed : (brakeFollows before after).testBit i = true) : after.testBit i = true := by
  unfold brakeFollows at closed
  split at closed
  · rw [testBit_setBit] at closed
    split at closed
    · cases closed
    · exact closed
  · exact closed

/-- The pairs that a latched fault names open in both channels (R196, R197). -/
theorem settle_opened {m : Nat} {s : State} (named : ∀ i, m.testBit i = true → (faultMask s).testBit i = true) :
    Opened m (settle s) := by
  have held {h ch i : Nat} (bit : m.testBit i = true) : ((brakeFollows h (h &&& mayHold s ch)) % 64).testBit i = false := by
    by_contra closed
    have both := brakeFollows_subset (testBit_of_mod64 (Bool.not_eq_false _ ▸ closed))
    rw [Nat.testBit_and] at both
    exact absurd (not_faulted_of_mayHold (Bool.and_eq_true_iff.mp both).2) (by simp [named i bit])
  intro i bit
  rw [settle, highSide_setSwitches, lowSide_setSwitches]
  exact ⟨held bit, held bit⟩

/-! ### Channels and latches -/

theorem saf?_setChan' (s : State) (ch n : Nat) (c : SafChan) :
    (s.setChan' ch c).saf? n = if n = ch ∧ ch < s.saf.chans.length then c else s.saf? n := by
  have chans : (s.setChan' ch c).saf.chans = s.saf.chans.set ch c := rfl
  rw [State.saf?, chans, State.saf?, List.getD_eq_getElem?_getD, List.getElem?_set, List.getD_eq_getElem?_getD]
  by_cases same : ch = n
  · subst same
    by_cases inside : ch < s.saf.chans.length
    · simp [inside]
    · simp [inside]
  · simp [same, Ne.symm same]

theorem setChan'_length (s : State) (ch : Nat) (c : SafChan) : (s.setChan' ch c).saf.chans.length = s.saf.chans.length :=
  List.length_set

theorem setChan'_reg (s : State) (ch : Nat) (c : SafChan) {q : Nat} (other : q ≠ P.irnFaults) : (s.setChan' ch c).reg q = s.reg q :=
  State.reg_setReg_ne _ _ other

theorem settle_reg (s : State) {q : Nat} (other : q ≠ P.irnSafeState) : (settle s).reg q = s.reg q := State.reg_setReg_ne _ _ other

/-- The channel with a bit latched. -/
def SafChan.latched (bit : Nat) (f : SafChan → SafChan) (c : SafChan) : SafChan := f { c with lat := setBit c.lat bit true }

section
variable {ch : Nat} {s : State} (bit : Nat) (f : SafChan → SafChan)

theorem latchWith_chan (inside : ch < s.saf.chans.length) : (latchWith ch bit f s).saf? ch = (s.saf? ch).latched bit f :=
  (saf?_setChan' s ch ch _).trans (if_pos ⟨rfl, inside⟩)

theorem latchWith_chan_ne {n : Nat} (other : n ≠ ch) : (latchWith ch bit f s).saf? n = s.saf? n :=
  (saf?_setChan' s ch n _).trans (if_neg fun same => other same.1)

theorem latchWith_length : (latchWith ch bit f s).saf.chans.length = s.saf.chans.length := setChan'_length s ch _

theorem latchWith_reg {q : Nat} (switches : q ≠ P.irnSafeState) (faults : q ≠ P.irnFaults) : (latchWith ch bit f s).reg q = s.reg q :=
  (settle_reg _ switches).trans (setChan'_reg s ch _ faults)

/-- A latched fault opens the pairs that its channel then names. -/
theorem latchWith_opened {m : Nat} (inside : ch < s.saf.chans.length)
    (named : ∀ i, m.testBit i = true → ((s.saf? ch).latched bit f).names.testBit i = true) : Opened m (latchWith ch bit f s) := by
  refine settle_opened fun i bit => faultMask_of_names ((setChan'_length s ch _).symm ▸ inside) ?_
  rw [saf?_setChan', if_pos ⟨rfl, inside⟩]
  exact named i bit

end

/-! ### What follows the act of a safety function -/

/-- The channels stand as the function left them and no switch closes. -/
structure Follows (s t : State) : Prop where
  chans : t.saf.chans = s.saf.chans
  opens : OpensOnly s t

theorem Follows.trans {s t u : State} (first : Follows s t) (next : Follows t u) : Follows s u :=
  ⟨next.chans.trans first.chans, first.opens.trans next.opens⟩

theorem follows_of_eq {s t : State} (h : t = s) : Follows s t := h ▸ ⟨rfl, fun _ => ⟨id, id⟩⟩

theorem Follows.chan {s t : State} (h : Follows s t) (ch : Nat) : t.saf? ch = s.saf? ch := by rw [State.saf?, h.chans, State.saf?]

theorem Follows.opened {s t : State} (h : Follows s t) {m : Nat} (opened : Opened m s) : Opened m t := opened.mono h.opens

theorem follows_of_event {s t : State} (kept : ∀ {β : Type} {g : State → β}, OffEvent g → g t = g s) : Follows s t :=
  ⟨congrArg SafState.chans (kept offEvent_saf), opensOnly_of_reg (kept (offEvent_reg (by decide)))⟩

theorem ironEvent_follows (code unit : Nat) (s : State) : Follows s (ironEvent code unit s) :=
  follows_of_event fun h => h.ironEvent code unit s

theorem wardenEvent_follows (code unit detail : Nat) (s : State) : Follows s (wardenEvent code unit detail s) :=
  follows_of_event fun h => h.wardenEvent code unit detail s

theorem safetyEvent_follows (ch code unit : Nat) (s : State) : Follows s (safetyEvent ch code unit s) :=
  follows_of_event fun h => h.safetyEvent ch code unit s

/-! ### The end of a session (R237, R240) -/

/-- The registers that the end of a session writes besides IRN_SAFE_STATE. -/
def sessionPids : List Nat := [P.wdnSesState, P.wdnSesEnd, P.irnCpDuty, P.irnCpState]

section
variable {β : Type} {g : State → β} (veh : ∀ (s : State) v, g (s.setVeh v) = g s)
  (regs : ∀ (s : State) (p v : Nat), p ∈ sessionPids → g (s.setReg p v) = g s)
include veh regs

theorem drive_keeps (d : CpDrive) (duty : Nat) (s : State) : g (drive d duty s) = g s := by
  have duty' (u : State) (v : Nat) := regs u P.irnCpDuty v (by decide)
  have state (u : State) (v : Nat) := regs u P.irnCpState v (by decide)
  simp only [drive, apply_ite g, state, duty', veh, ite_self]

theorem startWeldCheck_keeps (s : State) : g (startWeldCheck s) = g s := by
  unfold startWeldCheck
  refine (regs _ _ _ (by decide)).trans ?_
  split <;> exact veh s _

theorem cutSession_keeps (cause : Nat) (s : State) : g (cutSession cause s) = g (openPairs 0x0F s) := by
  unfold cutSession
  extract_lets u v
  have ended : g v = g u := (veh _ _).trans (regs u _ _ (by decide))
  split
  · rfl
  · split
    · exact (startWeldCheck_keeps veh regs v).trans ended
    · exact (regs v _ _ (by decide)).trans ended

theorem sessionCheck_keeps (cause : Nat) (s : State) :
    g (sessionCheck cause s) = g (if s.present 8 = true ∧ pairMissing s = true then openPairs 0x0F s else s) := by
  unfold sessionCheck
  split
  · exact (drive_keeps veh regs .high 1000 _).trans (cutSession_keeps veh regs cause s)
  · rfl

end

theorem sessionCheck_saf (cause : Nat) (s : State) : (sessionCheck cause s).saf = s.saf := by
  rw [sessionCheck_keeps (g := State.saf) (fun _ _ => rfl) (fun _ _ _ _ => rfl)]
  split <;> rfl

theorem sessionCheck_mem (cause : Nat) (s : State) : (sessionCheck cause s).mem = s.mem := by
  rw [sessionCheck_keeps (g := State.mem) (fun _ _ => rfl) (fun _ _ _ _ => rfl)]
  split <;> rfl

theorem reg_setReg_session {q : Nat} (other : q ∉ sessionPids) (s : State) (p v : Nat) (listed : p ∈ sessionPids) :
    (s.setReg p v).reg q = s.reg q := s.reg_setReg_ne v fun eq => other (eq ▸ listed)

theorem sessionCheck_reg {q : Nat} (other : q ∉ sessionPids) (switches : q ≠ P.irnSafeState) (cause : Nat) (s : State) :
    (sessionCheck cause s).reg q = s.reg q := by
  rw [sessionCheck_keeps (g := fun s => s.reg q) (fun _ _ => rfl) (reg_setReg_session other)]
  split
  · exact s.reg_setReg_ne _ switches
  · rfl

theorem sessionCheck_follows (cause : Nat) (s : State) : Follows s (sessionCheck cause s) := by
  have switches := sessionCheck_keeps (g := fun s => s.reg P.irnSafeState) (fun _ _ => rfl) (reg_setReg_session (by decide)) cause s
  refine ⟨congrArg SafState.chans (sessionCheck_saf cause s), (?_ : OpensOnly s _).trans (opensOnly_of_reg switches)⟩
  split
  · exact openPairs_opensOnly _ s
  · exact fun _ => ⟨id, id⟩

theorem sessionCheck_after {u v : State} (act : v = u) (cause : Nat) : Follows u (sessionCheck cause v) := by
  subst act
  exact sessionCheck_follows cause v

/-- Where the session misses no pair nothing ends it. -/
theorem sessionCheck_complete {s : State} (complete : pairMissing s = false) (cause : Nat) : sessionCheck cause s = s :=
  if_neg fun missing => by simp [complete] at missing

end Sys2Proof.Machine
end

section
/-!
PROOF. O21: the output pairs (spec/08_safety.md R196, R206 to R208, R220, R221).
-/

namespace Sys2Proof.Machine

open Sys2Proof

theorem Opened.all {s : State} (opened : Opened 0x3F s) : ∀ p < 6, Machine.pairClosed s p = false := by
  have all : ∀ p < 6, Nat.testBit 0x3F p = true := by decide
  exact fun p low => opened.pairClosed (all p low)

theorem testBit_all {i : Nat} (named : Nat.testBit 0x3F i = true) : i < 6 :=
  Nat.lt_of_not_le fun high => by
    have small : 0x3F < 2 ^ i := lt_of_lt_of_le (by decide) (Nat.pow_le_pow_right (by decide) high)
    rw [Nat.testBit_eq_false_of_lt small] at named
    cases named

/-- A fault that names every pair opens every pair. -/
theorem latchFault_opens_all {ch bit : Nat} {s : State} (inside : ch < s.saf.chans.length)
    (whole : bit = 0 ∨ bit = 1 ∨ bit = 2 ∨ bit = 14 ∨ bit = 15) : Opened 0x3F (latchFault ch bit s) := by
  refine latchWith_opened bit id inside fun i named => SafChan.names_all (testBit_all named) ?_
  obtain rfl | rfl | rfl | rfl | rfl := whole <;> simp [SafChan.latched, bitOf_setBit_self]

theorem latchFault_lat {ch bit : Nat} {s : State} (inside : ch < s.saf.chans.length) :
    bitOf ((latchFault ch bit s).saf? ch).lat bit = true := by
  rw [latchFault, latchWith_chan bit id inside]
  exact bitOf_setBit_self ..

theorem testBit_set_pair (v p : Nat) : (setBit v p true).testBit p = true := by rw [testBit_setBit, if_pos rfl]

/-- A value that names a pair names the pairs of the pair's own mask. -/
theorem named_pair {v p : Nat} (named : v.testBit p = true) : ∀ i, (2 ^ p).testBit i = true → v.testBit i = true := by
  intro i bit
  rw [Nat.testBit_two_pow, decide_eq_true_eq] at bit
  exact bit ▸ named

theorem Opened.pair {p : Nat} {s : State} (opened : Opened (2 ^ p) s) : Machine.pairClosed s p = false :=
  opened.pairClosed Nat.testBit_two_pow_self

/-! ### Faults latched in both channels (R203, R206, R208, R224) -/

section
variable {s t : State} {bit code unit : Nat} {f : SafChan → SafChan} (two : s.saf.chans.length = 2)
  (after : Follows (latchBoth bit code unit f s) t)
include after

theorem follows_latches : Follows (latchWith 1 bit f (latchWith 0 bit f s)) t :=
  ((safetyEvent_follows ..).trans (safetyEvent_follows ..)).trans after

include two

theorem latchBoth_chan {ch : Nat} (channel : ch < 2) : t.saf? ch = (s.saf? ch).latched bit f := by
  have second : 1 < (latchWith 0 bit f s).saf.chans.length := by rw [latchWith_length, two]; decide
  rw [(follows_latches after).chan]
  obtain rfl | rfl : ch = 0 ∨ ch = 1 := by omega
  · rw [latchWith_chan_ne bit f (by decide), latchWith_chan bit f (by omega)]
  · rw [latchWith_chan bit f second, latchWith_chan_ne bit f (by decide)]

theorem latchBoth_opened {m : Nat} (named : ∀ i, m.testBit i = true → ((s.saf? 1).latched bit f).names.testBit i = true) :
    Opened m t := by
  have second : 1 < (latchWith 0 bit f s).saf.chans.length := by rw [latchWith_length, two]; decide
  refine (follows_latches after).opened (latchWith_opened bit f second ?_)
  rwa [latchWith_chan_ne bit f (by decide)]

end

/-! ### The Iron's own faults (R207, R220, R221) -/

section
variable {s t : State} {bit : Nat} {f : SafChan → SafChan} {code unit : Nat} (inside : 0 < s.saf.chans.length)
  (after : Follows (ironEvent code unit (latchWith 0 bit f s)) t)
include inside after

theorem ironLatched_chan : t.saf? 0 = (s.saf? 0).latched bit f := by
  rw [after.chan, (ironEvent_follows ..).chan, latchWith_chan bit f inside]

theorem ironLatched_opened {m : Nat} (named : ∀ i, m.testBit i = true → ((s.saf? 0).latched bit f).names.testBit i = true) :
    Opened m t :=
  ((ironEvent_follows ..).trans after).opened (latchWith_opened bit f inside named)

end

theorem regI_irnTemp {s : State} {i : Int} (low : -32768 ≤ i) (high : i < 32768) : (s.setRegI P.irnTemp i).regI P.irnTemp = i := by
  have width : sizeOf' P.irnTemp = 2 := by decide +kernel
  rw [State.regI, State.setRegI, State.reg_setReg, width]
  exact toSigned_ofSigned low high

theorem ironTemp_hot {s : State} {temp : Int} (on : s.pwr.ironOn = true) (hot : 1500 < temp) (fresh : bitOf (s.saf? 0).lat 2 = false) :
    ironTemp temp s = ironEvent 0x09 0xFF (latchFault 0 2 (s.setRegI P.irnTemp temp)) := by
  rw [ironTemp, if_neg (by simp [on])]
  exact if_pos ⟨hot, fresh⟩

theorem overspeedWindow_fast {s : State} {edges : Nat} (on : s.pwr.ironOn = true) (fast : chanVal s 0 P.irnOverspeed < 400 * edges)
    (fresh : bitOf (s.saf? 0).lat 12 = false) :
    overspeedWindow edges s = ironEvent 0x0E 0xFF (latchFault 0 12 { s with saf := { s.saf with fast := true } }) := by
  rw [overspeedWindow, if_neg (by simp [on]), decide_eq_true fast]
  exact if_pos ⟨rfl, fresh⟩

/-- Settles O21: each command latches a fault that names its pairs (R197, R223), and neither its event nor the end of a session closes
one of them. -/
theorem safetyOutputs : Obligations.SafetyOutputs := by
  unfold Obligations.SafetyOutputs
  refine ⟨?readback, ?limit, ?total, ?failed, ?untested, ?temperature, ?overspeed⟩
  case readback =>
    intro s p low two
    have act : readbackMismatch p s = latchBoth 6 0x04 p (fun c => { c with readback := setBit c.readback p true }) s :=
      if_neg (Nat.not_le.mpr low)
    have after := sessionCheck_after act 0x04
    refine ⟨_, rfl, ?_, ?_, ?_, (latchBoth_opened two after (named_pair (SafChan.names_readback (testBit_set_pair ..)))).pair⟩
    · rw [latchBoth_chan two after (by decide)]
      exact bitOf_setBit_self ..
    · rw [latchBoth_chan two after (by decide)]
      exact bitOf_setBit_self ..
    · rw [latchBoth_chan two after (by decide)]
      exact bitOf_setBit_self ..
  case limit =>
    intro s p low two
    have act : currentLimit p s = ironEvent 0x08 p (latchWith 0 3 (fun c => { c with overload := setBit c.overload p true }) s) :=
      if_neg (Nat.not_le.mpr low)
    have inside : 0 < s.saf.chans.length := by omega
    have after := sessionCheck_after act 0x04
    refine ⟨_, rfl, ?_, ?_, (ironLatched_opened inside after (named_pair (SafChan.names_overload (testBit_set_pair ..)))).pair⟩
    · rw [ironLatched_chan inside after]
      exact bitOf_setBit_self ..
    · rw [ironLatched_chan inside after]
      exact bitOf_setBit_self ..
  case total =>
    intro s two
    have inside : 0 < s.saf.chans.length := by omega
    have after := sessionCheck_follows 0x04 (totalOverload s)
    refine ⟨_, rfl, ?_, (ironLatched_opened inside after fun i named => SafChan.names_overload named).all⟩
    rw [ironLatched_chan inside after]
    rfl
  case failed =>
    intro s p ok2 ok6 low two closed tested wrong
    have act : darkTest p ok2 ok6 s = latchBoth 7 0x05 p (fun c => { c with dark := setBit c.dark p true }) s := by
      rw [darkTest, if_neg (by simp [closed, tested, Nat.not_le.mpr low]), if_neg (by simp [wrong])]
    have after := sessionCheck_after act 0x04
    refine ⟨_, rfl, ?_, ?_, (latchBoth_opened two after (named_pair (SafChan.names_dark (testBit_set_pair ..)))).pair⟩
    · rw [latchBoth_chan two after (by decide)]
      exact bitOf_setBit_self ..
    · rw [latchBoth_chan two after (by decide)]
      exact bitOf_setBit_self ..
  case untested =>
    intro s p ok2 ok6 off complete
    have act : darkTest p ok2 ok6 s = s := if_pos (Or.inr (Or.inr off))
    exact ⟨_, rfl, by rw [act, sessionCheck_complete complete]⟩
  case temperature =>
    intro s temp on two hot high fresh
    have inside : 0 < (s.setRegI P.irnTemp temp).saf.chans.length := by rw [State.setRegI_saf, two]; decide
    have after := sessionCheck_after (ironTemp_hot on hot fresh) 0x04
    have read : (sessionCheck 0x04 (ironTemp temp s)).reg P.irnTemp = (s.setRegI P.irnTemp temp).reg P.irnTemp := by
      rw [sessionCheck_reg (by decide) (by decide), ironTemp_hot on hot fresh, (offEvent_reg (by decide)).ironEvent, latchFault,
        latchWith_reg _ _ (by decide) (by decide)]
    refine ⟨_, rfl, ?_, ?_, ((ironEvent_follows ..).trans after |>.opened (latchFault_opens_all inside (by decide))).all⟩
    · rw [State.regI, read]
      exact regI_irnTemp (by omega) high
    · rw [ironLatched_chan inside after]
      exact bitOf_setBit_self ..
  case overspeed =>
    intro s edges on two fast fresh
    have inside : 0 < ({ s with saf := { s.saf with fast := true } } : State).saf.chans.length := by rw [two]; decide
    have after := follows_of_eq (overspeedWindow_fast on fast fresh)
    have opened : Opened 0x30 (overspeedWindow edges s) :=
      ironLatched_opened inside after fun i named => SafChan.names_axis (by simp [SafChan.latched, bitOf_setBit_self]) named
    refine ⟨_, rfl, ?_, opened.pairClosed (by decide), opened.pairClosed (by decide)⟩
    rw [ironLatched_chan inside after]
    exact bitOf_setBit_self ..

end Sys2Proof.Machine
end

section
/-!
SUPPORT. The channels over a restart of I08 (spec/08_safety.md R213): the loss and the start of the island leave the latches of both.
-/

namespace Sys2Proof.Machine

open Sys2Proof

/-! ### Notifications (R189) -/

theorem putCue_saf (via : Via) (ip port : Nat) (f : CueFrame) (s : State) : (putCue via ip port f s).saf = s.saf := by
  cases via with
  | stageDoor => rfl
  | tirwa =>
    have queued (t : TxItem) (u : State) : (tirSend t u).saf = u.saf := by
      unfold tirSend
      split <;> rfl
    exact (queued _ _).trans (offEvent_saf.relay 15 2 7 0 s)
  | stageLink =>
    unfold putCue
    dsimp only
    split <;> rfl

theorem noteGone_saf (slot : Nat) (s : State) : (noteGone slot s).saf = s.saf := by
  unfold noteGone sendNoteOf sendCue
  split
  · rfl
  · split
    · dsimp only
      split
      · exact putCue_saf ..
      · rfl
    · rfl

theorem notesGone_saf (s : State) : (notesGone s).saf = s.saf := foldl_keeps State.saf (fun i _ s => noteGone_saf i s) s

theorem noteBack_saf (slot : Nat) (s : State) : (noteBack slot s).saf = s.saf := by
  unfold noteBack
  split
  · rfl
  · split <;> rfl

theorem notesBack_saf (s : State) : (notesBack s).saf = s.saf := foldl_keeps State.saf (fun i _ s => noteBack_saf i s) s

/-! ### The fall and the rise of I08 (R41, R48) -/

theorem abortReq_saf (q : FabReq) (s : State) : (abortReq q s).saf = s.saf := by
  have delivered (u : State) : (fabDeliver q.init q.tag stAborted [] u).saf = u.saf := by
    unfold fabDeliver
    split <;> rfl
  rw [abortReq, undelivered_keeps State.saf (fun _ _ => rfl), delivered, fabFault_keeps State.saf fun _ _ _ => rfl]

theorem abortPort_saf (island : Nat) (s : State) : (abortPort island s).saf = s.saf :=
  (foldl_keeps State.saf (fun q _ s => abortReq_saf q s) _).trans rfl

theorem receiverReset_saf (island : Nat) (s : State) : (receiverReset island s).saf = s.saf := by
  refine foldl_keeps State.saf (fun n _ s => ?_) s
  unfold loseNotice
  split
  · exact offEvent_saf.recordResult n 3 0 s
  · rfl

theorem wardenDown_chans (s : State) : (islandDown 8 s).saf.chans = s.saf.chans := by
  have before (u : State) : (blockOff 8 (senderGone 8 u)).saf.chans = u.saf.chans := rfl
  have down : islandDown 8 s = notesGone (blockOff 8 (senderGone 8 (receiverReset 8 (abortPort 8 s)))) := rfl
  rw [down, notesGone_saf, before, receiverReset_saf, abortPort_saf]

theorem wardenUp_chans (s : State) : (islandUp 8 s).saf.chans = s.saf.chans := by
  have restored : (restoreObjects 8 s).saf.chans = s.saf.chans :=
    foldl_keeps (f := fun s (e : Nat × Nat) => s.setReg e.1 e.2) (fun s => s.saf.chans) (fun _ _ _ => rfl) _
  rw [islandUp, notesBack_saf, if_neg (by decide), blockOn, if_pos rfl]
  exact restored

theorem controllerMove_chans (n : Nat) (s : State) : (controllerMove n s).saf.chans = s.saf.chans := by
  have stopped (u : State) : (driveStops n u).saf.chans = u.saf.chans := by
    unfold driveStops
    split <;> rfl
  have asked (i : Nat) : (requestSwitch n i s).saf.chans = s.saf.chans := by
    simp only [requestSwitch, apply_ite (fun s : State => s.saf.chans), State.setIsl_saf, stopped, ite_self]
  simp only [controllerMove, apply_ite (fun s : State => s.saf.chans), asked, ite_self]

theorem restartWarden_chans (s : State) : (restartIsland 8 s).saf.chans = s.saf.chans := by
  have restart : restartIsland 8 s = controllerMove 8 (resetIsland 8 s) := if_neg (by decide)
  rw [restart, controllerMove_chans, resetIsland, wardenUp_chans, State.setIsl_saf, wardenDown_chans, State.setIsl_saf]

end Sys2Proof.Machine
end

section
/-!
PROOF. O22: the Prompter (spec/08_safety.md R209 to R212), the Warden's lockstep (R213) and the Iron's copy of the safety blocks (R214).
-/

namespace Sys2Proof.Machine

open Sys2Proof

/-! ### The Prompter (R209 to R212) -/

theorem compareAnswer_agrees {word : Nat} {s : State} (demands : bits word 13 6 = demandBits s 0) (switches : bits word 5 0 = lowSide s) :
    compareAnswer word s = { s with saf := { s.saf with prDiffer := 0 } } := by
  simp [compareAnswer, demands, switches]

theorem prompterAnswer_right {s : State} {word dt : Nat} (on : s.pwr.ironOn = true) (later : s.saf.prFirst = false) (early : 8000 ≤ dt)
    (late : dt ≤ 12000) (check : bits word 31 16 = challengeCheck s) (demands : bits word 13 6 = demandBits s 0)
    (switches : bits word 5 0 = lowSide s) (count : s.saf.prOk + 1 ≠ 4) :
    prompterAnswer word s.saf.prSeq dt false s =
      challenge { s with saf := { s.saf with prOk := s.saf.prOk + 1, prFirst := false, prDiffer := 0 } } := by
  unfold prompterAnswer
  rw [if_neg (by simp [on])]
  extract_lets inTime src u v w
  have accepted : inTime = true := by simp [inTime, later, early, late]
  have compared : v = { u with saf := { u.saf with prDiffer := 0 } } := compareAnswer_agrees demands switches
  have quiet : w = v := if_neg fun fourth => by
    rw [compared] at fourth
    exact count fourth.1
  rw [if_pos ⟨rfl, check, rfl, accepted⟩, quiet, compared]

theorem prompterAnswer_wrong {s : State} {dt : Nat} (on : s.pwr.ironOn = true) (later : s.saf.prFirst = false) (early : dt < 8000)
    (word seq : Nat) (aborted : Bool) : prompterAnswer word seq dt aborted s = prompterFail s := by
  have late : ¬ 8000 ≤ dt := Nat.not_le.mpr early
  rw [prompterAnswer, if_neg (by simp [on])]
  exact if_neg (by simp [later, late])

theorem challenge_follows (s : State) : Follows s (challenge s) := ⟨rfl, opensOnly_of_reg rfl⟩

/-- What a Prompter failure notes before it latches PROMPTER (R211). -/
def promptMissed (s : State) : State :=
  { s with saf := { s.saf with prOk := 0, prFirst := true, prDiffer := 0 } }.count P.irnPromptFails 1

section
variable {s : State} (on : s.pwr.ironOn = true)
include on

/-- A failure latches PROMPTER, sends its event where PROMPTER was not latched, and a new challenge. -/
theorem prompterFail_eq : ∃ t, prompterFail s = challenge t ∧
    (t = latchFault 0 0 (promptMissed s) ∨ t = ironEvent 0x06 0xFF (latchFault 0 0 (promptMissed s))) := by
  rw [prompterFail, if_neg (by simp [on])]
  refine ⟨_, rfl, ?_⟩
  split
  · exact .inl rfl
  · exact .inr rfl

theorem prompterFail_saf : (prompterFail s).saf.prOk = 0 ∧ (prompterFail s).saf.prFirst = true := by
  obtain ⟨t, fails, rfl | rfl⟩ := prompterFail_eq on
  · rw [fails]
    exact ⟨rfl, rfl⟩
  · have kept := offEvent_saf.ironEvent 0x06 0xFF (latchFault 0 0 (promptMissed s))
    rw [fails]
    exact ⟨congrArg SafState.prOk kept, congrArg SafState.prFirst kept⟩

theorem prompterFail_count :
    (prompterFail s).reg P.irnPromptFails = satAdd (8 * sizeOf' P.irnPromptFails) (s.reg P.irnPromptFails) 1 := by
  have latched : (latchFault 0 0 (promptMissed s)).reg P.irnPromptFails = (promptMissed s).reg P.irnPromptFails :=
    latchWith_reg _ _ (by decide) (by decide)
  have counted : (promptMissed s).reg P.irnPromptFails = satAdd (8 * sizeOf' P.irnPromptFails) (s.reg P.irnPromptFails) 1 :=
    State.reg_count _ P.irnPromptFails 1
  obtain ⟨t, fails, rfl | rfl⟩ := prompterFail_eq on
  · rw [fails]
    exact latched.trans counted
  · have kept := (offEvent_reg (q := P.irnPromptFails) (by decide)).ironEvent 0x06 0xFF (latchFault 0 0 (promptMissed s))
    rw [fails]
    exact kept.trans (latched.trans counted)

theorem prompterFail_follows : Follows (latchFault 0 0 (promptMissed s)) (prompterFail s) := by
  obtain ⟨t, fails, rfl | rfl⟩ := prompterFail_eq on
  · exact fails ▸ challenge_follows _
  · exact fails ▸ (ironEvent_follows ..).trans (challenge_follows _)

end

/-- A failure leaves PROMPTER latched and every pair open (R211). -/
theorem prompterFail_opens {s t : State} (on : s.pwr.ironOn = true) (two : s.saf.chans.length = 2) (after : Follows (prompterFail s) t) :
    bitOf (t.saf? 0).lat 0 = true ∧ ∀ p < 6, pairClosed t p = false := by
  have inside : 0 < (promptMissed s).saf.chans.length := by
    have same : (promptMissed s).saf.chans = s.saf.chans := rfl
    rw [same, two]
    decide
  have follows := (prompterFail_follows on).trans after
  exact ⟨by rw [follows.chan, latchFault_lat inside], (follows.opened (latchFault_opens_all inside (by decide))).all⟩

/-! ### The Iron's copy of the safety blocks (R214) -/

/-- The copy of the safety blocks and whether it was loaded. -/
def State.blocks (s : State) : List (Nat × Nat) × Bool := (s.saf.copy, s.saf.loaded)

theorem latchWith_blocks (ch bit : Nat) (f : SafChan → SafChan) (s : State) : (latchWith ch bit f s).blocks = s.blocks := rfl

theorem safetyEvent_blocks (ch code unit : Nat) (s : State) : (safetyEvent ch code unit s).blocks = s.blocks :=
  congrArg (fun saf : SafState => (saf.copy, saf.loaded)) (offEvent_saf.safetyEvent ch code unit s)

theorem checkBlocks_blocks (s : State) : (checkBlocks s).blocks = s.blocks := by
  have event (u : State) : (ironEvent 0x10 0xFF u).blocks = u.blocks := safetyEvent_blocks 0 0x10 0xFF u
  unfold checkBlocks
  split
  · rfl
  · unfold setBlockFault
    dsimp only
    split
    · split
      · rfl
      · exact event _
    · rfl

theorem refreshSi_blocks (s : State) : (refreshSi s).blocks = s.blocks := by
  unfold refreshSi
  split
  · exact foldl_keeps (f := fun s n => updateSi n s) State.blocks (fun _ _ _ => rfl) s
  · rfl

theorem latchEstop_blocks (ch n : Nat) (s : State) : (latchEstop ch n s).blocks = s.blocks := by
  unfold latchEstop
  dsimp only
  split
  · exact (safetyEvent_blocks ..).trans (latchWith_blocks ..)
  · rfl

theorem latchEstops_blocks (s : State) : (latchEstops s).blocks = s.blocks :=
  foldl_keeps State.blocks (fun i _ u => latchEstop_blocks (i / 8) (i % 8) u) s

section
variable {s : State} (iron : s.pwr.ironOn = true) (warden : s.present 8 = true) (bridge : s.present 22 = true)
include iron warden bridge

theorem loadBlocks_blocks (tableOk : Bool) :
    (loadBlocks tableOk s).blocks = (blockGroups.flatMap fun g => blockValues s g, tableOk) := by
  rw [loadBlocks, if_neg (by simp [iron, warden, bridge])]
  exact (latchEstops_blocks _).trans ((refreshSi_blocks _).trans (checkBlocks_blocks _))

theorem checkBlocks_judged : checkBlocks s = setBlockFault (!blocksAgree s) s := if_neg (by simp [iron, warden, bridge])

end

/-- BLOCK latched, already or anew, opens every pair (R196, R214). -/
theorem setBlockFault_opens {s : State} (two : s.saf.chans.length = 2) :
    bitOf ((setBlockFault true s).saf? 0).lat 15 = true ∧ Opened 0x3F (setBlockFault true s) := by
  have inside : 0 < s.saf.chans.length := by omega
  rw [setBlockFault, if_pos rfl]
  split
  case isTrue latched =>
    exact ⟨latched, settle_opened fun i named => faultMask_of_names inside
      (SafChan.names_all (testBit_all named) (by simp [latched]))⟩
  case isFalse =>
    exact ⟨by rw [(ironEvent_follows ..).chan, latchFault_lat inside],
      (ironEvent_follows ..).opened (latchFault_opens_all inside (by decide))⟩

/-- Settles O22: the Prompter's two outcomes, then the restart of I08 that keeps the channels, then the load and the check of the
blocks. -/
theorem prompterAndBlocks : Obligations.PrompterAndBlocks := by
  unfold Obligations.PrompterAndBlocks
  refine ⟨?right, ?wrong, ?missing, ?lockstep, ?load, ?agree, ?differ⟩
  case right =>
    intro s word dt on later early late check demands switches count complete
    have act := prompterAnswer_right on later early late check demands switches count
    have same : pairMissing (prompterAnswer word s.saf.prSeq dt false s) = false := by
      rw [act]
      exact complete
    refine ⟨prompterAnswer word s.saf.prSeq dt false s, congrArg Host.Outcome.next (sessionCheck_complete same 0x04), ?_⟩
    rw [act]
    exact ⟨rfl, rfl, rfl, fun _ _ => rfl, fun _ => rfl⟩
  case wrong =>
    intro s word dt aborted on two later early
    have act := prompterAnswer_wrong on later early word s.saf.prSeq aborted
    obtain ⟨latched, opened⟩ := prompterFail_opens on two (sessionCheck_after act 0x04)
    obtain ⟨none, -⟩ := prompterFail_saf on
    exact ⟨_, rfl, by rw [sessionCheck_saf, act, none], latched, opened⟩
  case missing =>
    intro s on two
    obtain ⟨latched, opened⟩ := prompterFail_opens on two (sessionCheck_follows 0x04 _)
    obtain ⟨none, first⟩ := prompterFail_saf on
    exact ⟨_, rfl, by rw [sessionCheck_saf, none], by rw [sessionCheck_saf, first], latched,
      by rw [sessionCheck_reg (by decide) (by decide), prompterFail_count on], opened⟩
  case lockstep =>
    intro s there two
    have act : lockstep s = wardenEvent 0x13 0xFF (s.reg P.irnFaults) (latchFault 1 14 (restartIsland 8 s)) :=
      if_neg (by simp [there])
    have inside : 1 < (restartIsland 8 s).saf.chans.length := by rw [restartWarden_chans, two]; decide
    have after := (wardenEvent_follows ..).trans (follows_of_eq act)
    exact ⟨_, rfl, by rw [after.chan, latchFault_lat inside], (after.opened (latchFault_opens_all inside (by decide))).all⟩
  case load =>
    intro s iron warden bridge
    have loaded := loadBlocks_blocks iron warden bridge (ironTableOk s)
    exact ⟨_, rfl, by rw [sessionCheck_saf]; exact congrArg Prod.snd loaded, by rw [sessionCheck_saf]; exact congrArg Prod.fst loaded⟩
  case agree =>
    intro s iron warden bridge agrees inside
    have act : checkBlocks s = s.setChan' 0 { s.saf? 0 with lat := setBit (s.saf? 0).lat 15 false } := by
      rw [checkBlocks_judged iron warden bridge, agrees]
      rfl
    have cleared : (sessionCheck 0x04 (checkBlocks s)).saf? 0 = { s.saf? 0 with lat := setBit (s.saf? 0).lat 15 false } := by
      rw [(sessionCheck_after act 0x04).chan, saf?_setChan', if_pos ⟨rfl, inside⟩]
    exact ⟨_, rfl, (congrArg (fun c : SafChan => bitOf c.lat 15) cleared).trans (bitOf_setBit_self ..)⟩
  case differ =>
    intro s iron warden bridge two differs
    have act : checkBlocks s = setBlockFault true s := by rw [checkBlocks_judged iron warden bridge, differs]; rfl
    obtain ⟨latched, opened⟩ := setBlockFault_opens two
    have after := sessionCheck_after act 0x04
    exact ⟨_, rfl, by rw [after.chan, latched], (after.opened opened).all⟩

end Sys2Proof.Machine
end

section
/-!
SUPPORT. The inputs of a channel (spec/08_safety.md R196, R199 to R202): what a changed contact, a demand and a check of a test pulse
leave as it was.
-/

namespace Sys2Proof.Machine

open Sys2Proof

/-! ### What a channel reads (R214) -/

theorem chanVal_congr {s t : State} {p : Nat} (copy : t.saf.copy = s.saf.copy) (active : t.reg p = s.reg p) (ch : Nat) :
    chanVal t ch p = chanVal s ch p := by
  rw [chanVal, copy, active, chanVal]

/-- A parameter of the inputs is none of the registers that show their state. -/
theorem inputPid_ne {k n q : Nat} (shown : q < 0x301000) : 0x301000 + k + 256 * n ≠ q := by omega

theorem chanVal_setReg (s : State) (ch k n v : Nat) {q : Nat} (shown : q < 0x301000) :
    chanVal (s.setReg q v) ch (0x301000 + k + 256 * n) = chanVal s ch (0x301000 + k + 256 * n) :=
  chanVal_congr (s := s) (t := s.setReg q v) rfl (s.reg_setReg_ne v (inputPid_ne shown)) ch

theorem chanVal_setChan' (s : State) (ch k n c : Nat) (x : SafChan) :
    chanVal (s.setChan' c x) ch (0x301000 + k + 256 * n) = chanVal s ch (0x301000 + k + 256 * n) :=
  chanVal_congr (s := s) (t := s.setChan' c x) rfl (setChan'_reg s c x (inputPid_ne (by decide))) ch

/-! ### A contact that changes (R199, R201) -/

/-- The channel with the new state of a contact and the release of its discrepancy brought on. -/
def contactKept (ch n c : Nat) (shut : Bool) (s : State) : State :=
  discProgress ch n (s.setChan' ch { s.saf? ch with closed := setAt (s.saf? ch).closed (2 * n + c) shut })

section
variable (ch n c : Nat) (shut : Bool) (s : State)

theorem contactKept_closed (inside : ch < s.saf.chans.length) :
    ((contactKept ch n c shut s).saf? ch).closed = setAt (s.saf? ch).closed (2 * n + c) shut := by
  have kept := setChan'_length s ch { s.saf? ch with closed := setAt (s.saf? ch).closed (2 * n + c) shut }
  rw [contactKept, discProgress, saf?_setChan', if_pos ⟨rfl, kept ▸ inside⟩, saf?_setChan', if_pos ⟨rfl, inside⟩]

theorem contactKept_length : (contactKept ch n c shut s).saf.chans.length = s.saf.chans.length :=
  (setChan'_length ..).trans (setChan'_length ..)

theorem contactKept_mem : (contactKept ch n c shut s).mem = s.mem := rfl

theorem chanVal_contactKept (k m : Nat) :
    chanVal (contactKept ch n c shut s) ch (0x301000 + k + 256 * m) = chanVal s ch (0x301000 + k + 256 * m) :=
  (chanVal_setChan' ..).trans (chanVal_setChan' ..)

end

theorem roleOf_setReg (s : State) (ch n v : Nat) {q : Nat} (shown : q < 0x301000) : roleOf (s.setReg q v) ch n = roleOf s ch n :=
  chanVal_setReg s ch 0 n v shown

theorem roleOf_showSi (s : State) (ch n : Nat) : roleOf (if ch = 0 then updateSi n s else s) ch n = roleOf s ch n := by
  split
  · exact roleOf_setReg s _ n _ (by decide)
  · rfl

/-- Without a role a new demand names no pair: the switches follow what holds already. -/
theorem newDemand_unused {s : State} {ch n : Nat} (unused : roleOf s ch n = 0) : newDemand ch n s = settle s := by
  have still : roleOf (settle s) ch n = 0 := (roleOf_setReg s ch n _ (by decide)).trans unused
  rw [newDemand, if_neg (by simp [unused])]
  exact if_neg (by simp [demandActs, still])

/-- A contact of an input without a role changes its channel alone, besides IRN_SAFE_STATE and IRN_SI_STATE. -/
theorem filterChange_unused_keeps {β : Type} {g : State → β} (switches : ∀ (s : State) v, g (s.setReg P.irnSafeState v) = g s)
    (shown : ∀ (s : State) v, g (s.setReg P.irnSiState v) = g s) {s : State} {ch n : Nat} (alive : chanAlive s ch = true)
    (unused : roleOf s ch n = 0) (c : Nat) (shut : Bool) :
    g (filterChange ch n c shut s) = g (contactKept ch n c shut s) := by
  have seen (u : State) : g (if ch = 0 then updateSi n u else u) = g u := by
    split
    · exact shown u _
    · rfl
  have role : roleOf (contactKept ch n c shut s) ch n = 0 := (chanVal_contactKept ch n c shut s 0 n).trans unused
  unfold filterChange
  rw [if_neg (by simp [alive])]
  extract_lets was k u now v w x
  have quiet : roleOf v ch n = 0 := (roleOf_showSi u ch n).trans role
  have same : w = v := if_neg (by simp [quiet])
  have settled : x = settle v := by
    simp only [x, same]
    split
    · exact newDemand_unused quiet
    · rfl
  rw [seen, settled]
  exact (switches v _).trans (seen u)

/-! ### Demands and discrepancies (R196, R201, R205) -/

theorem updateSi_follows (n : Nat) (s : State) : Follows s (updateSi n s) :=
  ⟨rfl, opensOnly_of_reg (s.reg_setReg_ne _ (by decide))⟩

theorem showSi_follows (ch n : Nat) (s : State) : Follows s (if ch = 0 then updateSi n s else s) := by
  split
  · exact updateSi_follows n s
  · exact follows_of_eq rfl

theorem targetOf_contactKept (ch n c : Nat) (shut : Bool) (s : State) :
    targetOf (contactKept ch n c shut s) ch n = targetOf s ch n := by
  have target := chanVal_contactKept ch n c shut s 5 n
  have role : roleOf (contactKept ch n c shut s) ch n = roleOf s ch n := chanVal_contactKept ch n c shut s 0 n
  rw [targetOf, target, role, targetOf]

/-- An open contact A, or B of a pair of closing contacts, is a demand (R200). -/
theorem contactDemand_open {s : State} {ch n c : Nat} (opens : ¬ (chanVal s ch (P.wdnSiPairing n) = 1 ∧ c = 1))
    (released : (s.saf? ch).closed.getD (2 * n + c) false = false) : contactDemand s ch n c = true := by
  rw [contactDemand, if_neg opens, released, Bool.not_false]

/-- A new demand of an input of role 0x01 latches ESTOP for its pairs. -/
theorem newDemand_estop {s : State} {ch n : Nat} (role : roleOf s ch n = 1) : newDemand ch n s =
    safetyEvent ch 0x01 n (latchWith ch 13 (fun c => { c with estop := c.estop ||| targetOf s ch n }) s) := by
  rw [newDemand, if_pos role]

theorem filterChange_warden_demand {s : State} {n c : Nat} {shut : Bool} (there : s.present 8 = true) (role : roleOf s 1 n = 1)
    (was : inDemand s 1 n = false) (now : inDemand (contactKept 1 n c shut s) 1 n = true) :
    filterChange 1 n c shut s = newDemand 1 n (contactKept 1 n c shut s) := by
  have kept : roleOf (contactKept 1 n c shut s) 1 n = 1 := (chanVal_contactKept 1 n c shut s 0 n).trans role
  have alive : chanAlive s 1 = true := there
  unfold filterChange
  rw [if_neg (by simp [alive])]
  extract_lets before k u demand v w x
  have shown : v = u := if_neg (by decide)
  have role' : roleOf v 1 n = 1 := shown ▸ kept
  have same : w = u := (if_neg (by simp [role'])).trans shown
  have demanded : x = newDemand 1 n u := by
    simp only [x, same]
    exact if_pos ⟨now, was⟩
  exact demanded

theorem latchEstop_chan {ch n : Nat} {s : State} (inside : ch < s.saf.chans.length) :
    ((latchEstop ch n s).saf? ch).tp = (s.saf? ch).tp ∧
      ∀ bit, bit ≠ 13 → bitOf ((latchEstop ch n s).saf? ch).lat bit = bitOf (s.saf? ch).lat bit := by
  unfold latchEstop
  dsimp only
  split
  · rw [(safetyEvent_follows ..).chan, latchWith_chan _ _ inside]
    exact ⟨rfl, fun bit other => bitOf_setBit_ne _ other true⟩
  · exact ⟨rfl, fun _ _ => rfl⟩

/-! ### Test pulses (R202) -/

/-- What the check of an input of the Warden reads and what it notes. -/
structure PulseView where
  there : Bool
  tested : Nat
  channels : Nat
  inputs : Nat
  fails : Nat
  tp : Nat
  lat : Nat

/-- The view of an input of the Warden. -/
def pulseView (n : Nat) (s : State) : PulseView :=
  ⟨s.present 8, s.reg (P.wdnSiTest n), s.saf.chans.length, (s.saf? 1).tpFails.length, (s.saf? 1).tpFails.getD n 0, (s.saf? 1).tp,
    (s.saf? 1).lat⟩

theorem pulseView_eq_iff {n : Nat} {s t : State} : pulseView n t = pulseView n s ↔
    t.present 8 = s.present 8 ∧ t.reg (P.wdnSiTest n) = s.reg (P.wdnSiTest n) ∧ t.saf.chans.length = s.saf.chans.length ∧
      (t.saf? 1).tpFails.length = (s.saf? 1).tpFails.length ∧ (t.saf? 1).tpFails.getD n 0 = (s.saf? 1).tpFails.getD n 0 ∧
      (t.saf? 1).tp = (s.saf? 1).tp ∧ (t.saf? 1).lat = (s.saf? 1).lat := by
  rw [pulseView, pulseView, PulseView.mk.injEq]

/-- The count of failed checks in a row noted for an input. -/
def pulseNoted (ch m k : Nat) (s : State) : State :=
  s.setChan' ch { s.saf? ch with tpFails := setAt (s.saf? ch).tpFails m k }

/-- A check that passes notes that alone. -/
theorem pulseCheck_passed (ch m : Nat) (s : State) : pulseCheck ch m false s = s ∨
    pulseCheck ch m false s = pulseNoted ch m 0 s := by
  unfold pulseCheck
  split
  · exact .inl rfl
  · exact .inr (if_neg (by simp))

/-- A check that passes leaves every other input of the Warden as it was. -/
theorem pulseCheck_passed_view {ch m n : Nat} (other : ch = 1 → m ≠ n) (s : State) :
    pulseView n (pulseCheck ch m false s) = pulseView n s := by
  obtain same | noted := pulseCheck_passed ch m s
  · rw [same]
  · have chan : (pulseCheck ch m false s).saf? 1 = s.saf? 1 ∨
        m ≠ n ∧ (pulseCheck ch m false s).saf? 1 = { s.saf? 1 with tpFails := setAt (s.saf? 1).tpFails m 0 } := by
      rw [noted, pulseNoted, saf?_setChan']
      split
      case isTrue own =>
        obtain ⟨rfl, -⟩ := own
        exact .inr ⟨other rfl, rfl⟩
      case isFalse => exact .inl rfl
    have tested : (pulseCheck ch m false s).reg (P.wdnSiTest n) = s.reg (P.wdnSiTest n) := by
      rw [noted]
      exact setChan'_reg s ch _ (inputPid_ne (k := 4) (by decide))
    have channels : (pulseCheck ch m false s).saf.chans.length = s.saf.chans.length := by rw [noted, pulseNoted, setChan'_length]
    have there : (pulseCheck ch m false s).present 8 = s.present 8 := by rw [noted]; rfl
    rw [pulseView, there, tested, channels]
    obtain chan | ⟨apart, chan⟩ := chan
    · rw [chan, pulseView]
    · rw [chan, pulseView]
      simp [setAt, List.getD_eq_getElem?_getD, apart]

/-- A pulse that one input of the Warden fails is its check between checks that leave it alone. -/
theorem testPulse_single {n : Nat} (input : n < 8) (s : State) :
    ∃ u, pulseView n u = pulseView n s ∧ pulseView n (testPulse [8 + n] s) = pulseView n (pulseCheck 1 n true u) := by
  obtain ⟨before, after, order⟩ := List.append_of_mem (List.mem_range.mpr (show 8 + n < 16 by omega))
  have once := order ▸ List.nodup_range (n := 16)
  obtain ⟨apart, -⟩ := List.nodup_cons.mp (List.nodup_middle.mp once)
  have passes (i : Nat) (mem : i ∈ before ++ after) (u : State) :
      pulseView n (pulseCheck (i / 8) (i % 8) ([8 + n].contains i) u) = pulseView n u := by
    have other : i ≠ 8 + n := fun same => apart (same ▸ mem)
    have passed : [8 + n].contains i = false := by simpa using other
    rw [passed]
    exact pulseCheck_passed_view (fun _ _ => other (by omega)) u
  refine ⟨_, foldl_keeps (pulseView n) (fun i mem u => passes i (List.mem_append_left _ mem) u) s, ?_⟩
  have place : (8 + n) / 8 = 1 ∧ (8 + n) % 8 = n := by omega
  rw [testPulse, order, List.foldl_append, List.foldl_cons,
    foldl_keeps (pulseView n) fun i mem u => passes i (List.mem_append_right _ mem) u, place.1, place.2]
  simp

/-- TEST_PULSE latched for an input of the Warden. -/
def pulseLatched (n : Nat) (s : State) : State := latchWith 1 5 (fun c => { c with tp := setBit c.tp n true }) s

section
variable {u : State} {n : Nat} (there : u.present 8 = true) (tested : u.reg (P.wdnSiTest n) ≠ 0) (two : u.saf.chans.length = 2)
  (known : n < (u.saf? 1).tpFails.length)
include there tested two

include known in
theorem pulseCheck_first_failure (fresh : (u.saf? 1).tpFails.getD n 0 = 0) :
    ((pulseCheck 1 n true u).saf? 1).tpFails.getD n 0 = 1 := by
  have noted : pulseCheck 1 n true u = pulseNoted 1 n 1 u := by
    rw [pulseCheck, if_neg (by simp [chanAlive, chanVal, there, tested])]
    extract_lets c k v
    have first : k = 1 := by simp only [k, c, fresh]; decide
    rw [if_neg (by simp [first])]
    simp only [v, first]
    rfl
  rw [noted, pulseNoted, saf?_setChan', if_pos ⟨rfl, by omega⟩]
  simp [setAt, known]

theorem pulseCheck_second_failure (again : (u.saf? 1).tpFails.getD n 0 = 1) (fresh : bitOf (u.saf? 1).tp n = false) :
    bitOf ((pulseCheck 1 n true u).saf? 1).tp n = true ∧ bitOf ((pulseCheck 1 n true u).saf? 1).lat 5 = true := by
  have act : pulseCheck 1 n true u = latchEstop 1 n (safetyEvent 1 0x03 n (pulseLatched n (pulseNoted 1 n 2 u))) := by
    rw [pulseCheck, if_neg (by simp [chanAlive, chanVal, there, tested])]
    extract_lets c k v w
    have second : k = 2 := by simp only [k, c, again]; decide
    rw [if_pos ⟨second, fresh⟩, if_neg (by decide)]
    simp only [w, v, second]
    rfl
  have second : 1 < (pulseNoted 1 n 2 u).saf.chans.length := by rw [pulseNoted, setChan'_length, two]; decide
  have event := safetyEvent_follows 1 0x03 n (pulseLatched n (pulseNoted 1 n 2 u))
  have inside : 1 < (safetyEvent 1 0x03 n (pulseLatched n (pulseNoted 1 n 2 u))).saf.chans.length := by
    rw [event.chans, pulseLatched, latchWith_length]
    exact second
  obtain ⟨pulse, bits⟩ := latchEstop_chan (n := n) inside
  rw [act, pulse, bits 5 (by decide), event.chan, pulseLatched, latchWith_chan _ _ second]
  exact ⟨bitOf_setBit_self .., bitOf_setBit_self ..⟩

end

end Sys2Proof.Machine
end

section
/-!
PROOF. O20: the safety inputs (spec/08_safety.md R196, R199 to R204).
-/

namespace Sys2Proof.Machine

open Sys2Proof

/-- Settles O20: the contact kept, the demand's latch, the discrepancy's latch, the two failed pulses and the welded mirror. -/
theorem safetyInputs : Obligations.SafetyInputs := by
  unfold Obligations.SafetyInputs
  refine ⟨?contact, ?demand, ?discrepancy, ?once, ?twice, ?mirror⟩
  case contact =>
    intro s ch n c shut alive inside unused
    have saf := filterChange_unused_keeps (g := State.saf) (fun _ _ => rfl) (fun _ _ => rfl) alive unused c shut
    have mem := filterChange_unused_keeps (g := State.mem) (fun _ _ => rfl) (fun _ _ => rfl) alive unused c shut
    refine ⟨_, rfl, ?_, fun a => ?_⟩
    · rw [State.saf?, sessionCheck_saf, saf]
      exact contactKept_closed ch n c shut s inside
    · rw [State.byte, sessionCheck_mem, mem, contactKept_mem, State.byte]
  case demand =>
    intro s n there two input role pairing was contacts
    have inside : 1 < (contactKept 1 n 0 false s).saf.chans.length := by rw [contactKept_length, two]; decide
    have released : ((contactKept 1 n 0 false s).saf? 1).closed.getD (2 * n + 0) false = false := by
      have place : 2 * n < (s.saf? 1).closed.length := by omega
      rw [contactKept_closed _ _ _ _ _ (by omega)]
      simp [setAt, List.getD_eq_getElem?_getD, place]
    have now : inDemand (contactKept 1 n 0 false s) 1 n = true := by
      simp [inDemand, contactDemand_open (by simp) released]
    have kept : roleOf (contactKept 1 n 0 false s) 1 n = 1 := (chanVal_contactKept 1 n 0 false s 0 n).trans role
    have act := (filterChange_warden_demand there role was now).trans (newDemand_estop kept)
    rw [targetOf_contactKept] at act
    have after := (safetyEvent_follows ..).trans (sessionCheck_after act 0x04)
    have opened := after.opened (m := targetOf s 1 n) (latchWith_opened _ _ inside fun i named =>
      SafChan.names_estop (bitOf_setBit_self ..) (by simp [SafChan.latched, Nat.testBit_or, named]))
    refine ⟨_, rfl, ?_, opened.and_eq_zero⟩
    rw [after.chan, latchWith_chan _ _ inside]
    exact bitOf_setBit_self ..
  case discrepancy =>
    intro s ch n alive inside differ fresh
    have act : discTimeout ch n s = _ := if_neg (by simp [alive, differ, fresh])
    have after := ((showSi_follows ch n _).trans (safetyEvent_follows ..)).trans (sessionCheck_after act 0x04)
    refine ⟨_, rfl, ?_, ?_⟩ <;>
    · rw [after.chan, latchWith_chan _ _ inside]
      exact bitOf_setBit_self ..
  case once =>
    intro s n there _ two inputs input tested fresh
    obtain ⟨u, same, single⟩ := testPulse_single input s
    obtain ⟨there', tested', two', inputs', fails, -, -⟩ := pulseView_eq_iff.mp same
    obtain ⟨-, -, -, -, noted, -, -⟩ := pulseView_eq_iff.mp single
    have failed := pulseCheck_first_failure (there'.trans there) (fun off => tested (tested'.symm.trans off)) (two'.trans two)
      (by omega) (fails.trans fresh)
    refine ⟨_, rfl, ?_⟩
    beta_reduce
    rw [(sessionCheck_follows 0x04 _).chan, noted, failed]
  case twice =>
    intro s n there _ two _ input tested again fresh
    obtain ⟨u, same, single⟩ := testPulse_single input s
    obtain ⟨there', tested', two', -, fails, tp, -⟩ := pulseView_eq_iff.mp same
    obtain ⟨-, -, -, -, -, tp', lat'⟩ := pulseView_eq_iff.mp single
    obtain ⟨pulse, latched⟩ := pulseCheck_second_failure (there'.trans there) (fun off => tested (tested'.symm.trans off))
      (two'.trans two) (fails.trans again) (tp ▸ fresh)
    refine ⟨_, rfl, ?_⟩
    beta_reduce
    rw [(sessionCheck_follows 0x04 _).chan, tp', lat']
    exact ⟨pulse, latched⟩
  case mirror =>
    intro s p n input role pair stuck opened two
    have mirror : n ∈ mirrorsOf s p := List.mem_filter.mpr ⟨List.mem_range.mpr input, by simp [role, pair]⟩
    have act : mirrorTimeout p s = latchBoth 8 0x0A p id s := by
      rw [mirrorTimeout, if_neg (by simp [opened])]
      exact if_pos (List.any_eq_true.mpr ⟨n, mirror, stuck⟩)
    have after := sessionCheck_after act 0x05
    refine ⟨_, rfl, ?_, ?_⟩ <;>
    · rw [latchBoth_chan two after (by decide)]
      exact bitOf_setBit_self ..

end Sys2Proof.Machine
end

section
/-!
PROOF. O23: the brake test during the stop of SLS (spec/08_safety.md R197, R216, R219).
-/

namespace Sys2Proof.Machine

open Sys2Proof

/-- Where the two channels may not both close SO5 a brake test does not act. -/
theorem brakeTest_barred {s : State} (barred : bitOf (mayClose s 0 &&& mayClose s 1) 5 = false) (movement : Nat) :
    brakeTest movement s = s := if_pos (.inr (.inr (.inr barred)))

/-- A post with its axis at home. -/
def homePost : State := (Tests.upS.setReg P.flyStatus 0x20).setRegI P.flyPos 1000

/-- The post where SLS has latched and the stop that it began has not ended. -/
def stoppingPost : State := latchFault 1 11 (wardenStop homePost)

/-- SO5 may still be held closed, so that the stop is driven, but no longer be closed. -/
theorem stoppingPost_holds_not_closes :
    bitOf (mayHold stoppingPost 1) 5 = true ∧ bitOf (mayClose stoppingPost 0 &&& mayClose stoppingPost 1) 5 = false := by
  constructor <;> decide +kernel

/-- Refutes O23: its first clause asks for a brake test wherever the Warden may hold SO5 closed. During the stop of SLS it may hold SO5
and may not close it, and the test does not run. -/
theorem not_brakeAndSpeed : ¬ Obligations.BrakeAndSpeed := by
  unfold Obligations.BrakeAndSpeed
  rintro ⟨passed, -⟩
  obtain ⟨held, barred⟩ := stoppingPost_holds_not_closes
  obtain ⟨t, run, done, -⟩ := passed stoppingPost 0 (by decide +kernel) (by decide +kernel) (by decide +kernel) held (Nat.zero_le _)
    (by decide +kernel) (by decide +kernel)
  have after : brakeTest 0 stoppingPost = t := Host.Outcome.next.inj run
  have undone : stoppingPost.saf.brakeDone = false := by decide +kernel
  rw [← after, brakeTest_barred barred, undone] at done
  cases done

end Sys2Proof.Machine
end

section
/-!
SUPPORT. The operations of the vehicle session (spec/09_vehicle_and_earth_fault.md): what the pilot's drive, the end of a session and
the commands to the output pairs write, and what they leave alone.
-/

namespace Sys2Proof.Machine

open Sys2Proof

/-- A command completes with what its operation is known to answer. -/
theorem completes_act {c : Instr} {s u t : State} {Q : State → Prop} (run : exec c s = .next u) (act : u = t) (h : Q t) :
    Completes c s Q := completes_of_eq (run.trans (congrArg _ act)) h

/-! ### Registers and frames (R14) -/

theorem reg_setReg_fits {p v : Nat} (fits : v < 2 ^ (8 * sizeOf' p)) (s : State) : (s.setReg p v).reg p = v := by
  rw [State.reg_setReg, Nat.mod_eq_of_lt fits]

theorem regI_setRegI_two {p : Nat} {i : Int} (width : sizeOf' p = 2) (low : -32768 ≤ i) (high : i < 32768) (s : State) :
    (s.setRegI p i).regI p = i := by
  rw [State.regI, State.setRegI, State.reg_setReg, width]
  exact toSigned_ofSigned low high

section
variable {l : List Nat} {s t : State}

theorem Keeps.refl (l : List Nat) (s : State) : Keeps l s s := ⟨fun _ _ => rfl, fun _ => rfl⟩

theorem Keeps.setReg (keeps : Keeps l s t) {p : Nat} (listed : p ∈ l) (v : Nat) : Keeps l s (t.setReg p v) :=
  ⟨fun q other => (t.reg_setReg_ne v (ne_of_mem_of_not_mem listed other).symm).trans (keeps.1 q other), keeps.2⟩

theorem Keeps.setVeh (keeps : Keeps l s t) (v : VehState) : Keeps l s (t.setVeh v) := keeps

theorem Keeps.emit (keeps : Keeps l s t) (o : Output) : Keeps l s (t.emit o) := keeps

/-- A value written where the register already held it. -/
theorem Keeps.setReg_same (keeps : Keeps l s t) {p v : Nat} (held : t.reg p = v) (fits : v < 2 ^ (8 * sizeOf' p)) :
    Keeps l s (t.setReg p v) := by
  refine ⟨fun q other => ?_, keeps.2⟩
  by_cases same : q = p
  · rw [same, reg_setReg_fits fits, ← held, ← same, keeps.1 q other]
  · rw [t.reg_setReg_ne v same, keeps.1 q other]

end

/-! ### The phase of a session (R237, R240) -/

theorem ses_setSes {n : Nat} (fits : n < 256) (s : State) : ses (setSes n s) = n := by
  have width : sizeOf' P.wdnSesState = 1 := by decide +kernel
  exact reg_setReg_fits (by rw [width]; exact fits) s

theorem Keeps.setSes {l : List Nat} {s t : State} (keeps : Keeps l s t) (listed : P.wdnSesState ∈ l) (n : Nat) :
    Keeps l s (Machine.setSes n t) := keeps.setReg listed n

theorem ses_setVeh (s : State) (v : VehState) : ses (s.setVeh v) = ses s := rfl

theorem ses_setReg {p : Nat} (other : P.wdnSesState ≠ p) (v : Nat) (s : State) : ses (s.setReg p v) = ses s := s.reg_setReg_ne v other

theorem sessionOpen_iff (s : State) : sessionOpen s = true ↔ ses s ≠ 0 ∧ ses s ≠ 8 := by simp [sessionOpen, ses]

/-! ### The pilot's drive (R231, R232) -/

/-- The hidden state after the pilot was driven: the periods counted start afresh with another drive. -/
def VehState.driven (v : VehState) (d : CpDrive) : VehState :=
  if d = v.drive then v else { v with drive := d, streak := 0, noDiode := 0 }

section
variable (v : VehState) (d : CpDrive)

@[simp] theorem VehState.driven_drive : (v.driven d).drive = d := by
  unfold VehState.driven
  split
  · exact Eq.symm ‹_›
  · rfl

@[simp] theorem VehState.driven_paused : (v.driven d).paused = v.paused := by unfold VehState.driven; split <;> rfl
@[simp] theorem VehState.driven_sid : (v.driven d).sid = v.sid := by unfold VehState.driven; split <;> rfl
@[simp] theorem VehState.driven_slacTry : (v.driven d).slacTry = v.slacTry := by unfold VehState.driven; split <;> rfl
@[simp] theorem VehState.driven_slacAt : (v.driven d).slacAt = v.slacAt := by unfold VehState.driven; split <;> rfl
@[simp] theorem VehState.driven_modV : (v.driven d).modV = v.modV := by unfold VehState.driven; split <;> rfl

end

section
variable (d : CpDrive) (duty : Nat) (s : State)

@[simp] theorem drive_veh : (drive d duty s).veh = s.veh.driven d := by
  simp only [drive, apply_ite State.veh, State.setReg_veh, ite_self]
  rfl

theorem drive_reg {q : Nat} (duties : q ≠ P.irnCpDuty) (states : q ≠ P.irnCpState) : (drive d duty s).reg q = s.reg q := by
  simp only [drive, reg_ite, State.reg_setReg_ne _ _ duties, State.reg_setReg_ne _ _ states, State.setVeh_reg, ite_self]

@[simp] theorem drive_ses : ses (drive d duty s) = ses s := drive_reg d duty s (by decide) (by decide)

theorem drive_duty {duty : Nat} (fits : duty < 65536) : (drive d duty s).reg P.irnCpDuty = duty := by
  have width : sizeOf' P.irnCpDuty = 2 := by decide +kernel
  have read (u : State) : (u.setReg P.irnCpDuty duty).reg P.irnCpDuty = duty := reg_setReg_fits (by rw [width]; exact fits) u
  have state (u : State) (v : Nat) : (u.setReg P.irnCpState v).reg P.irnCpDuty = u.reg P.irnCpDuty := u.reg_setReg_ne v (by decide)
  simp only [drive, reg_ite, state, read, ite_self]

theorem drive_mem : (drive d duty s).mem = s.mem :=
  Machine.drive_keeps (g := State.mem) (fun _ _ => rfl) (fun _ _ _ _ => rfl) d duty s

theorem drive_box : (drive d duty s).box = s.box :=
  Machine.drive_keeps (g := State.box) (fun _ _ => rfl) (fun _ _ _ _ => rfl) d duty s

theorem reg_irnCpState {state : Nat} (fits : state < 256) (s : State) : (s.setReg P.irnCpState state).reg P.irnCpState = state := by
  have width : sizeOf' P.irnCpState = 1 := by decide +kernel
  exact reg_setReg_fits (by rw [width]; exact fits) s

/-- Where the pilot is driven at +12 V or with PWM, IRN_CP_STATE stays. -/
theorem drive_state {d : CpDrive} (driven : d = .high ∨ d = .pwm) : (drive d duty s).reg P.irnCpState = s.reg P.irnCpState := by
  have duties (u : State) : (u.setReg P.irnCpDuty duty).reg P.irnCpState = u.reg P.irnCpState := u.reg_setReg_ne duty (by decide)
  obtain rfl | rfl := driven <;> simp [drive, reg_ite, duties]

theorem drive_frame : Keeps [P.irnCpDuty, P.irnCpState] s (drive d duty s) :=
  ⟨fun q other => drive_reg d duty s (fun eq => other (by simp [eq])) (fun eq => other (by simp [eq])),
    fun a => congrArg (Memory.read · a) (drive_mem d duty s)⟩

theorem Keeps.drive {l : List Nat} {s t : State} (keeps : Keeps l s t) {d : CpDrive} (driven : d = .high ∨ d = .pwm)
    (listed : P.irnCpDuty ∈ l) (duty : Nat) : Keeps l s (Machine.drive d duty t) := by
  obtain ⟨regs, mem⟩ := drive_frame d duty t
  refine ⟨fun q other => Eq.trans ?_ (keeps.1 q other), fun a => (mem a).trans (keeps.2 a)⟩
  by_cases state : q = P.irnCpState
  · rw [state, drive_state duty t driven]
  · exact drive_reg d duty t (ne_of_mem_of_not_mem listed other).symm state

end

/-! ### The output pairs (R196, R197, R485) -/

theorem testBit_kept (m i : Nat) : (0x3F - (m &&& 0x3F)).testBit i = (decide (i < 6) && !m.testBit i) := by
  have width : 0x3F - (m &&& 0x3F) = 2 ^ 6 - (m % 2 ^ 6 + 1) := by
    rw [show (0x3F : Nat) = 2 ^ 6 - 1 from rfl, Nat.and_two_pow_sub_one_eq_mod]
    omega
  rw [width, Nat.testBit_two_pow_sub_succ (Nat.mod_lt _ (by decide)), Nat.testBit_mod_two_pow]
  cases decide (i < 6) <;> rfl

/-- The pairs opened on command are open. -/
theorem openPairs_opened (mask : Nat) (s : State) : Opened mask (openPairs mask s) := by
  intro i named
  have wider : (if bitOf mask 5 then mask ||| 0x10 else mask).testBit i = true := by
    split
    · rw [Nat.testBit_or, named, Bool.true_or]
    · exact named
  have held (h : Nat) : ((h &&& (0x3F - ((if bitOf mask 5 then mask ||| 0x10 else mask) &&& 0x3F))) % 64).testBit i = false :=
    Bool.eq_false_of_not_eq_true fun closed => by
      have both := testBit_of_mod64 closed
      rw [Nat.testBit_and, testBit_kept, wider] at both
      simp at both
  rw [openPairs, highSide_setSwitches, lowSide_setSwitches]
  exact ⟨held _, held _⟩

/-- Open contactors: SO0 to SO3. -/
theorem Opened.contactors {s : State} (opened : Opened 0x0F s) : ∀ p < 4, Machine.pairClosed s p = false := by
  have named : ∀ p < 4, Nat.testBit 0x0F p = true := by decide
  exact fun p low => opened.pairClosed (named p low)

theorem Opened.drive {m : Nat} {s : State} (opened : Opened m s) (d : CpDrive) (duty : Nat) : Opened m (drive d duty s) :=
  opened.mono (opensOnly_of_reg (drive_reg d duty s (by decide) (by decide)))

/-- What a channel may hold of SO0 to SO3 it may close: the stop of SLS concerns SO4 and SO5 alone (R219). -/
theorem mayClose_of_mayHold {s : State} {ch i : Nat} (low : i < 4) (held : (mayHold s ch).testBit i = true) :
    (mayClose s ch).testBit i = true := by
  have axis : ∀ i < 4, Nat.testBit 0x30 i = false := by decide
  have sls (c : Bool) : Nat.testBit (if c then 0x30 else 0) i = false := by cases c <;> simp [axis i low]
  have same : (faultNames s).testBit i = (faultMask s).testBit i := by
    rw [faultNames, faultMask, Nat.testBit_or, Nat.testBit_or, sls, sls]
  unfold mayHold at held
  unfold mayClose
  split at held
  · rename_i up
    rw [if_pos up]
    rwa [testBit_kept, Nat.testBit_or, same, ← Nat.testBit_or, ← testBit_kept]
  · simp at held

/-- A pair that the Warden closes is closed where both channels may hold it and the cast lets it close. -/
theorem closePairs_closed {mask p : Nat} {s : State} (low : p < 4) (named : mask.testBit p = true) (vsup : s.pwr.vsup = true)
    (steady : s.pwr.failing = false) (cast : castOk s = true) (iron : (mayHold s 0).testBit p = true)
    (warden : (mayHold s 1).testBit p = true) : pairClosed (closePairs mask s) p = true := by
  have closed {side may : Nat} (allowed : may.testBit p = true) : ((side ||| (mask &&& may)) % 64).testBit p = true := by
    have inside : decide (p < 6) = true := decide_eq_true (by omega)
    rw [show 64 = 2 ^ 6 from rfl, Nat.testBit_mod_two_pow, inside, Nat.testBit_or, Nat.testBit_and, named, allowed]
    simp
  rw [closePairs, cast, if_pos ⟨vsup, steady⟩, pairClosed, highSide_setSwitches, lowSide_setSwitches, bitOf_eq_testBit,
    bitOf_eq_testBit]
  simp [closed (mayClose_of_mayHold low iron), closed (mayClose_of_mayHold low warden)]

theorem closePairs_keeps {β : Type} {g : State → β} (switches : ∀ (s : State) v, g (s.setReg P.irnSafeState v) = g s) (mask : Nat)
    (s : State) : g (closePairs mask s) = g s := by
  simp only [closePairs, setSwitches, apply_ite g, switches, ite_self]

theorem Keeps.openPairs {l : List Nat} {s t : State} (keeps : Keeps l s t) (listed : P.irnSafeState ∈ l) (mask : Nat) :
    Keeps l s (Machine.openPairs mask t) := keeps.setReg listed _

theorem Keeps.closePairs {l : List Nat} {s t : State} (keeps : Keeps l s t) (listed : P.irnSafeState ∈ l) (mask : Nat) :
    Keeps l s (Machine.closePairs mask t) := by
  unfold Machine.closePairs
  dsimp only
  split
  · exact keeps.setReg listed _
  · exact keeps

@[simp] theorem openPairs_ses (mask : Nat) (s : State) : ses (openPairs mask s) = ses s := s.reg_setReg_ne _ (by decide)

@[simp] theorem openPairs_veh (mask : Nat) (s : State) : (openPairs mask s).veh = s.veh := rfl

/-! ### The end of a session (R236, R237, R239, R240) -/

theorem reg_wdnSesEnd {cause : Nat} (fits : cause < 256) (s : State) : (s.setReg P.wdnSesEnd cause).reg P.wdnSesEnd = cause := by
  have width : sizeOf' P.wdnSesEnd = 1 := by decide +kernel
  exact reg_setReg_fits (by rw [width]; exact fits) s

theorem moduleZero_reg (s : State) (q : Nat) : (moduleZero s).reg q = s.reg q := rfl

theorem ses_startWeldCheck (s : State) : ses (startWeldCheck s) = 7 := ses_setSes (by decide) _

theorem startWeldCheck_reg {q : Nat} (other : q ≠ P.wdnSesState) (s : State) : (startWeldCheck s).reg q = s.reg q := by
  unfold startWeldCheck setSes
  rw [State.reg_setReg_ne _ _ other]
  split <;> rfl

theorem startWeldCheck_opened {m : Nat} {s : State} (opened : Opened m s) : Opened m (startWeldCheck s) :=
  opened.mono (opensOnly_of_reg (startWeldCheck_reg (by decide) s))

theorem Keeps.startWeldCheck {l : List Nat} {s t : State} (keeps : Keeps l s t) (listed : P.wdnSesState ∈ l) :
    Keeps l s (Machine.startWeldCheck t) := by
  unfold Machine.startWeldCheck
  split <;> exact Keeps.setReg (keeps.setVeh _) listed _

theorem startWeldCheck_sid (s : State) : (startWeldCheck s).veh.sid = s.veh.sid := by
  unfold startWeldCheck
  split <;> rfl

/-- Whatever the session does, a cut opens SO0 to SO3. -/
theorem cutSession_opened (cause : Nat) (s : State) : Opened 0x0F (cutSession cause s) := by
  have switches := cutSession_keeps (g := fun s => s.reg P.irnSafeState) (fun _ _ => rfl) (reg_setReg_session (by decide)) cause s
  exact (openPairs_opened 0x0F s).mono (opensOnly_of_reg switches)

section
variable {s : State} (runs : 1 ≤ ses s ∧ ses s ≤ 6) (cause : Nat)
include runs

/-- A running session that is cut ends with the cause, at once or by the welding check of R239. -/
theorem cutSession_running : cutSession cause s =
    if s.veh.began then startWeldCheck (moduleZero ((openPairs 0x0F s).setReg P.wdnSesEnd cause))
    else setSes 8 (moduleZero ((openPairs 0x0F s).setReg P.wdnSesEnd cause)) := by
  obtain ⟨low, high⟩ := runs
  have phase := openPairs_ses 0x0F s
  rw [cutSession, if_neg (by omega)]
  rfl

theorem cutSession_end (fits : cause < 256) : (cutSession cause s).reg P.wdnSesEnd = cause := by
  rw [cutSession_running runs, reg_ite, startWeldCheck_reg (by decide), setSes, State.reg_setReg_ne _ _ (by decide), ite_self,
    moduleZero_reg, reg_wdnSesEnd fits]

theorem cutSession_sid : (cutSession cause s).veh.sid = s.veh.sid := by
  rw [cutSession_running runs]
  split
  · exact startWeldCheck_sid _
  · rfl

/-- Where no energy has flowed the session is over at once. -/
theorem cutSession_ended (before : s.veh.began = false) : ses (cutSession cause s) = 8 := by
  rw [cutSession_running runs, if_neg (by simp [before])]
  exact ses_setSes (by decide) _

end

section
variable {s : State} (transfer : ses s = 5) (cause : Nat)
include transfer

/-- In DC energy transfer an end in order is the ramp-down, with zero current commanded (R236). -/
theorem windSession_dc (dc : s.veh.dc = true) : windSession cause s = setSes 6 (moduleZero (s.setReg P.wdnSesEnd cause)) := by
  rw [windSession, if_neg (by omega), if_pos ⟨transfer, dc⟩]

/-- In AC energy transfer it is the phase Ending at constant +12 V (R240). -/
theorem windSession_ac (ac : s.veh.dc = false) : windSession cause s =
    setSes 6 (driveHigh ((s.setVeh { s.veh with paused := false }).setReg P.wdnSesEnd cause)) := by
  rw [windSession, if_neg (by omega), if_neg (by simp [ac]), if_pos transfer]

end

end Sys2Proof.Machine
end

section
/-!
SUPPORT. What a violation leaves alone (spec/09_vehicle_and_earth_fault.md R251): its word and its count are written, the main host is
notified and events are recorded, and the session's own state and registers stay.
-/

namespace Sys2Proof.Machine

open Sys2Proof

theorem veh_of_apart {s t : State} (h : t.apart = s.apart) : t.veh = s.veh := by
  have parts : t.apart.veh = s.apart.veh := congrArg State.veh h
  exact parts

theorem mono_of_apart {s t : State} (h : t.apart = s.apart) : t.mono = s.mono := by
  have parts : t.apart.mono = s.apart.mono := congrArg State.mono h
  exact parts

theorem offEvent_veh : OffEvent State.veh where
  parts := fun _ _ _ _ _ _ _ => rfl
  regs := fun _ _ _ _ => rfl
  records := fun s typ payload => veh_of_apart (record_apart typ payload s)

theorem offEvent_mono : OffEvent State.mono where
  parts := fun _ _ _ _ _ _ _ => rfl
  regs := fun _ _ _ _ => rfl
  records := fun s typ payload => mono_of_apart (record_apart typ payload s)

/-- The registers that a violation may change: its own two and those of its events. -/
def violationPids : List Nat := [P.wdnViolLast, P.wdnViolCount] ++ eventPids

section
variable {β : Type} {g : State → β} (event : OffEvent g)
  (ports : ∀ (s : State) ser tir, g { s with ser := ser, tir := tir } = g s)
include event ports

/-- A frame sent changes the ports and the Callboard alone (R32). -/
theorem sendCue_keeps (via : Via) (ip port : Nat) (f : CueFrame) (s : State) : g (sendCue via ip port f s) = g s := by
  have sent (o : Output) (u : State) : g (u.emit o) = g u := event.parts u ..
  have queued (t : TxItem) (u : State) : g (tirSend t u) = g u := by
    unfold tirSend
    split
    · exact ports u u.ser _
    · rfl
  unfold sendCue
  split
  · cases via with
    | stageDoor => exact (sent _ _).trans ((sent _ _).trans (ports s _ s.tir))
    | tirwa => exact (sent _ _).trans ((queued _ _).trans (event.relay 15 2 7 0 s))
    | stageLink =>
      unfold putCue
      dsimp only
      split
      · exact sent _ s
      · rfl
  · rfl

theorem notifyMain_keeps (pid : Nat) (s : State) : g (notifyMain pid s) = g s := by
  unfold notifyMain
  split
  · rfl
  · exact sendCue_keeps event ports ..

theorem violation_keeps (noted : ∀ (s : State) v, g (s.setReg P.wdnViolLast v) = g s)
    (counted : ∀ (s : State) v, g (s.setReg P.wdnViolCount v) = g s) (code detail : Nat) (s : State) :
    g (violation code detail s) = g s := by
  have told : g (notifyMain P.wdnViolLast ((s.setReg P.wdnViolLast (violationWord s code detail)).count P.wdnViolCount 1)) = g s :=
    (notifyMain_keeps event ports ..).trans ((counted _ _).trans (noted _ _))
  unfold violation
  dsimp only
  split
  · exact (event.safetyEvent ..).trans ((event.safetyEvent ..).trans told)
  · exact told

end

section
variable (code detail : Nat) (s : State)

@[simp] theorem violation_veh : (violation code detail s).veh = s.veh :=
  violation_keeps offEvent_veh (fun _ _ _ => rfl) (fun _ _ => rfl) (fun _ _ => rfl) code detail s

@[simp] theorem violation_mono : (violation code detail s).mono = s.mono :=
  violation_keeps offEvent_mono (fun _ _ _ => rfl) (fun _ _ => rfl) (fun _ _ => rfl) code detail s

theorem violation_reg {q : Nat} (other : q ∉ violationPids) : (violation code detail s).reg q = s.reg q := by
  obtain ⟨last, other⟩ := not_or.mp (List.mem_cons.not.mp other)
  obtain ⟨count, other⟩ := not_or.mp (List.mem_cons.not.mp other)
  exact violation_keeps (offEvent_reg other) (fun _ _ _ => rfl) (fun s v => s.reg_setReg_ne v last)
    (fun s v => s.reg_setReg_ne v count) code detail s

@[simp] theorem violation_ses : ses (violation code detail s) = ses s := violation_reg code detail s (by decide)

end

/-- A violation that cuts a session: the pilot answers as told, and SO0 to SO3 are open (R253). -/
theorem violationCut_answers (code detail : Nat) (d : CpDrive) (s : State) :
    (violationCut code detail d s).veh.drive = d ∧ Opened 0x0F (violationCut code detail d s) :=
  ⟨by simp [violationCut], Opened.drive (cutSession_opened _ _) d 1000⟩

end Sys2Proof.Machine
end

section
/-!
PROOF. O28: the steps of DC and AC sessions (spec/09_vehicle_and_earth_fault.md R238 to R241, spec/13_box_office.md R333).
-/

namespace Sys2Proof.Machine

open Sys2Proof

theorem sessionsAllowed_setVeh {s : State} {v : VehState} (barred : v.barred = s.veh.barred) :
    sessionsAllowed (s.setVeh v) = sessionsAllowed s := by
  have kept : (s.setVeh v).veh.barred = s.veh.barred := barred
  unfold sessionsAllowed
  rw [kept]
  rfl

/-- A phase that is left for energy from the pilot is left at the duty of the limit, or at constant +12 V below 6 A. -/
theorem driveLimit_keeps {l : List Nat} {s t : State} (keeps : Keeps l s t) (listed : P.irnCpDuty ∈ l) : Keeps l s (driveLimit t) := by
  unfold driveLimit
  split
  · exact keeps.drive (.inl rfl) listed 1000
  · exact keeps.drive (.inr rfl) listed _

theorem driveLimit_reg {q : Nat} (duties : q ≠ P.irnCpDuty) (states : q ≠ P.irnCpState) (s : State) :
    (driveLimit s).reg q = s.reg q := by
  simp only [driveLimit, driveHigh, reg_ite, drive_reg _ _ _ duties states, ite_self]

theorem driveLimit_box (s : State) : (driveLimit s).box = s.box := by
  simp only [driveLimit, driveHigh, apply_ite State.box, drive_box, ite_self]

/-- The session that an authorisation opens in the Box office (R333), in phase Authorised. -/
def sessionOpened (auth ident set : Nat) (s : State) : State := setSes 2 (openSession auth ident set s)

theorem ses_sessionOpened (auth ident set : Nat) (s : State) : ses (sessionOpened auth ident set s) = 2 := ses_setSes (by decide) _

theorem cost_sessionOpened (auth ident set : Nat) (s : State) : (sessionOpened auth ident set s).reg P.boxSessionCost = 0 := by
  rw [sessionOpened, setSes, State.reg_setReg_ne _ _ (by decide)]
  exact reg_setReg_fits (by positivity) _

theorem sessionOpened_keeps {l : List Nat} {s t : State} (keeps : Keeps l s t) (phase : P.wdnSesState ∈ l)
    (cost : P.boxSessionCost ∈ l) (auth ident set : Nat) : Keeps l s (sessionOpened auth ident set t) :=
  (Keeps.setReg (t := { t with box := (openSession auth ident set t).box }) keeps cost 0).setReg phase 2

theorem authorise_ac {auth ident : Nat} {s : State} (ac : s.veh.dc = false) (paid : auth ≠ 1 ∧ auth ≠ 2)
    (plain : s.reg P.wdnHlcAc ≠ 1) : ∃ v : VehState, authorise auth ident s =
      driveLimit ((sessionOpened auth ident 2 (s.setVeh { s.veh with auth := none })).setVeh v) := by
  unfold authorise
  extract_lets _ granted opened
  have noPrepaid : ¬ ((auth = 1 ∨ auth = 2) ∧ creditStarts granted = false) := fun h => h.1.elim paid.1 paid.2
  have ac' : granted.veh.dc = false := ac
  have set2 : opened = sessionOpened auth ident 2 granted := by
    simp only [opened, ac']
    rfl
  have unread : opened.reg P.wdnHlcAc = granted.reg P.wdnHlcAc := by
    rw [set2, sessionOpened, setSes, State.reg_setReg_ne _ _ (by decide), openSession, State.reg_setReg_ne _ _ (by decide)]
    rfl
  have dc : opened.veh.dc = false := ac
  rw [if_neg noPrepaid, if_neg (by simp [dc]), if_neg fun h => plain (unread.symm.trans h.1), set2]
  exact ⟨_, rfl⟩

/-- A plugged AC session with a cable, the vehicle in state B, is authorised as soon as it is granted. -/
theorem grantSession_ac {auth ident : Nat} {s : State} (ac : s.veh.dc = false) (plugged : ses s = 1)
    (allowed : sessionsAllowed s = true) (calibrated : calibrating s 2 = false) (cable : 0 < ratingNow s)
    (stateB : s.reg P.irnCpState = 2) : grantSession auth ident s =
      authorise auth ident (s.setVeh { s.veh with auth := some (auth, ident) }) := by
  have granted : sessionsAllowed (s.setVeh { s.veh with auth := some (auth, ident) }) = true :=
    (sessionsAllowed_setVeh rfl).trans allowed
  have outlet : calibrating (s.setVeh { s.veh with auth := some (auth, ident) })
      (if (s.setVeh { s.veh with auth := some (auth, ident) }).veh.dc then 0 else 2) = false := by
    simp only [State.setVeh_veh, ac]
    exact calibrated
  rw [grantSession, if_pos ⟨plugged, allowed⟩]
  exact if_pos ⟨plugged, granted, outlet, .inr ⟨cable, stateB⟩⟩

/-- Settles O28, each step by the equation of its function. -/
theorem sessionSteps : Obligations.SessionSteps := by
  unfold Obligations.SessionSteps
  refine ⟨?precharge, ?so2, ?ramp, ?weldDc, ?authorised, ?ending, ?weldAc⟩
  case precharge =>
    intro s phase dc there near vsup steady cast iron warden
    have act : prechargeMet s = closePairs 0x01 s := if_pos ⟨phase, dc, there, near⟩
    rw [bitOf_eq_testBit] at iron warden
    refine completes_act rfl act ⟨?_, (Keeps.refl _ s).closePairs (by decide) _⟩
    exact closePairs_closed (by decide) (by decide) vsup steady cast iron warden
  case so2 =>
    intro s phase dc closed
    have act : prechargeSo2 s = (openPairs 0x04 s).setVeh { s.veh with so2Open := true } := if_pos ⟨phase, dc, closed⟩
    refine completes_act rfl act ⟨rfl, ?_, ((Keeps.refl _ s).openPairs (by decide) _).setVeh _⟩
    exact (openPairs_opened 0x04 s).pairClosed (by decide)
  case ramp =>
    intro s phase dc
    have act : rampDownEnd s = startWeldCheck (openPairs 0x0F s) := if_pos ⟨phase, dc⟩
    refine completes_act rfl act ⟨ses_startWeldCheck _, ?_, (startWeldCheck_opened (openPairs_opened _ s)).contactors,
      ((Keeps.refl _ s).openPairs (by decide) _).startWeldCheck (by decide)⟩
    rw [startWeldCheck, openPairs_veh, dc]
    rfl
  case weldDc =>
    intro s peak fall phase dc peakLow fallShort
    have act : dcWeldEnd peak fall s = setSes 8 (driveHigh (s.setVeh { s.veh with modV := 0, override := true })) := by
      rw [dcWeldEnd, if_pos ⟨phase, dc⟩]
      exact congrArg (fun u => setSes 8 (driveHigh u)) (if_pos ⟨peakLow, fallShort⟩)
    refine completes_act rfl act ⟨ses_setSes (by decide) _, ?_, ?_,
      (((Keeps.refl _ s).setVeh _).drive (.inl rfl) (by decide) 1000).setReg (by decide) 8⟩
    · simp [setSes, driveHigh]
    · simp [setSes, driveHigh]
  case authorised =>
    intro s auth ident ac plugged allowed calibrated cable stateB notToken notCard plain
    obtain ⟨v, act⟩ := authorise_ac (ident := ident) (s := s.setVeh { s.veh with auth := some (auth, ident) }) ac
      ⟨notToken, notCard⟩ plain
    have granted : (if s.veh.dc = true then s else grantSession auth ident s) = _ :=
      (if_neg (by simp [ac])).trans ((grantSession_ac ac plugged allowed calibrated cable stateB).trans act)
    refine completes_act rfl granted ⟨?_, ?_, ?_, ?_, ?_,
      driveLimit_keeps (Keeps.setVeh (sessionOpened_keeps (((Keeps.refl _ s).setVeh _).setVeh _) (by decide) (by decide) auth ident 2) v)
        (by decide)⟩
    · exact (driveLimit_reg (by decide) (by decide) _).trans (ses_sessionOpened auth ident 2 _)
    · rw [driveLimit_box]
      rfl
    · rw [driveLimit_box]
      rfl
    · rw [driveLimit_box]
      rfl
    · exact (driveLimit_reg (by decide) (by decide) _).trans (cost_sessionOpened auth ident 2 _)
  case ending =>
    intro s phase ac
    have act : acEndingTimeout s = startWeldCheck (openPairs 0x08 s) := by
      rw [acEndingTimeout, if_neg (by simp [ac]), if_pos phase]
    exact completes_act rfl act ⟨ses_startWeldCheck _,
      (startWeldCheck_opened (openPairs_opened 0x08 s)).pairClosed (by decide),
      ((Keeps.refl _ s).openPairs (by decide) _).startWeldCheck (by decide)⟩
  case weldAc =>
    intro s phase ac there low
    have judged : (s.present 9 && (List.range 3).all fun p => decide (s.regI (P.tlyPhVRms p) < 50000000)) = true := by
      rw [there, Bool.true_and, List.all_eq_true]
      exact fun p inside => decide_eq_true (low p (List.mem_range.mp inside))
    have act : acWeldEnd s = setSes 8 s := by
      rw [acWeldEnd, if_pos ⟨phase, ac⟩]
      exact congrArg (setSes 8) (if_pos judged)
    exact completes_act rfl act ⟨ses_setSes (by decide) _, (Keeps.refl _ s).setReg (by decide) 8⟩

end Sys2Proof.Machine
end

section
/-!
PROOF. O29: isolation and residual current (spec/09_vehicle_and_earth_fault.md R242 to R248).
-/

namespace Sys2Proof.Machine

open Sys2Proof

theorem bitOf_earthFaults (s : State) {bit : Nat} (low : bit < 8) (b : Bool) :
    bitOf ((s.setReg P.irnEarthFaults (setBit (s.reg P.irnEarthFaults) bit b)).reg P.irnEarthFaults) bit = b := by
  have width : 8 * sizeOf' P.irnEarthFaults = 8 := by decide +kernel
  rw [State.reg_setReg, width, bitOf_eq_testBit, Nat.testBit_mod_two_pow, testBit_setBit, if_pos rfl, decide_eq_true low,
    Bool.true_and]

/-! ### An earth fault latched (R243, R245, R247) -/

section
variable (bit : Nat) (s : State)

theorem earthFault_reg {q : Nat} (faults : q ≠ P.irnEarthFaults) (switches : q ≠ P.irnSafeState) (other : q ∉ eventPids) :
    (earthFault bit s).reg q = s.reg q := by
  have event := offEvent_reg other
  exact (event.safetyEvent ..).trans ((event.safetyEvent ..).trans ((settle_reg _ switches).trans (s.reg_setReg_ne _ faults)))

theorem earthFault_latched (low : bit < 8) : bitOf ((earthFault bit s).reg P.irnEarthFaults) bit = true := by
  have event := offEvent_reg (q := P.irnEarthFaults) (by decide)
  have shown : (earthFault bit s).reg P.irnEarthFaults =
      (s.setReg P.irnEarthFaults (setBit (s.reg P.irnEarthFaults) bit true)).reg P.irnEarthFaults :=
    (event.safetyEvent ..).trans ((event.safetyEvent ..).trans (settle_reg _ (by decide)))
  rw [shown, bitOf_earthFaults s low]

end

/-- An earth fault that cuts a running session stays latched, gives the session its cause and leaves SO0 to SO3 open. -/
theorem cut_earthFault {bit cause : Nat} {s : State} (low : bit < 8) (fits : cause < 256) (runs : 1 ≤ ses s ∧ ses s ≤ 6) :
    bitOf ((cutSession cause (earthFault bit s)).reg P.irnEarthFaults) bit = true ∧
      (cutSession cause (earthFault bit s)).reg P.wdnSesEnd = cause ∧ Opened 0x0F (cutSession cause (earthFault bit s)) := by
  have phase : ses (earthFault bit s) = ses s := earthFault_reg bit s (by decide) (by decide) (by decide)
  have kept : (cutSession cause (earthFault bit s)).reg P.irnEarthFaults = (earthFault bit s).reg P.irnEarthFaults :=
    (cutSession_keeps (g := fun s => s.reg P.irnEarthFaults) (fun _ _ => rfl) (reg_setReg_session (by decide)) cause _).trans
      (State.reg_setReg_ne _ _ (by decide))
  rw [kept]
  exact ⟨earthFault_latched bit s low, cutSession_end (phase.symm ▸ runs) cause fits, cutSession_opened cause _⟩

/-! ### An isolation period (R242, R243) -/

/-- The resistance of a period and ISO_WARN noted, before the period is judged. -/
def isolationNoted (r : Nat) (s : State) : State :=
  let u := s.setReg P.irnIsoR r
  u.setReg P.irnEarthFaults (setBit (u.reg P.irnEarthFaults) 0 (decide (100 * r < isoWarn u)))

theorem isolationNoted_reg {q : Nat} (faults : q ≠ P.irnEarthFaults) (res : q ≠ P.irnIsoR) (r : Nat) (s : State) :
    (isolationNoted r s).reg q = s.reg q :=
  (State.reg_setReg_ne _ _ faults).trans (s.reg_setReg_ne r res)

theorem isolationNoted_isoR {r : Nat} (fits : r < 2 ^ 32) (s : State) : (isolationNoted r s).reg P.irnIsoR = r := by
  have width : 8 * sizeOf' P.irnIsoR = 32 := by decide +kernel
  exact (State.reg_setReg_ne _ _ (by decide)).trans (reg_setReg_fits (by rw [width]; exact fits) s)

theorem isoWarn_setIsoR (s : State) (v : Nat) : isoWarn (s.setReg P.irnIsoR v) = isoWarn s := by
  rw [isoWarn, State.reg_setReg_ne _ _ (by decide), State.reg_setReg_ne _ _ (by decide), isoWarn]

theorem isoFault_isolationNoted (r : Nat) (s : State) : isoFault (isolationNoted r s) = isoFault s := by
  rw [isoFault, isolationNoted_reg (by decide) (by decide), isolationNoted_reg (by decide) (by decide), isoFault]

theorem isolationNoted_warning (r : Nat) (s : State) :
    bitOf ((isolationNoted r s).reg P.irnEarthFaults) 0 = decide (100 * r < isoWarn s) := by
  unfold isolationNoted
  dsimp only
  rw [bitOf_earthFaults _ (by decide), isoWarn_setIsoR]

theorem isolationNoted_keeps (r : Nat) (s : State) : Keeps [P.irnIsoR, P.irnEarthFaults] s (isolationNoted r s) :=
  ((Keeps.refl _ s).setReg (by decide) r).setReg (by decide) _

/-- A period judged against the fault threshold: the periods in a row below it, and whether the cause is present. -/
def isolationJudged (low : Bool) (u : State) : State :=
  earthCause 1 low (u.setVeh { u.veh with
    isoLow := if low then u.veh.isoLow + 1 else 0, isoRuns := u.veh.isoRuns + 1,
    isoValid := u.veh.isoValid || (ses u == 3 && decide (2 ≤ u.veh.isoRuns + 1) && !low) })

theorem isolationJudged_reg (low : Bool) (u : State) (q : Nat) : (isolationJudged low u).reg q = u.reg q := rfl

theorem isolationJudged_ses (low : Bool) (u : State) : ses (isolationJudged low u) = ses u := rfl

theorem isolationJudged_keeps {l : List Nat} {s t : State} (keeps : Keeps l s t) (low : Bool) : Keeps l s (isolationJudged low t) :=
  keeps

section
variable {s : State} {r : Nat} (path : dcPath s = true) (iron : s.pwr.ironOn = true) (power : s.domOn 58 = true) (range : r ≤ 50000)
include path iron power range

theorem isolationPeriod_measured : isolationPeriod r s =
    if (if decide (100 * r < isoFault s) then (isolationNoted r s).veh.isoLow + 1 else 0) = 2 then
      cutSession 0x02 (earthFault 1 (isolationJudged (decide (100 * r < isoFault s)) (isolationNoted r s)))
    else isolationJudged (decide (100 * r < isoFault s)) (isolationNoted r s) := by
  have whole : min r 0xFFFFFFFF = r := by omega
  have shown : (if 50000 < r then 0xFFFFFFFF else r) = r := if_neg (by omega)
  rw [← isoFault_isolationNoted r s, isolationPeriod, if_neg (by simp [path, iron, power])]
  simp only [whole, shown, isolationJudged, isolationNoted]
  rfl

theorem isolationPeriod_above (above : isoFault s ≤ 100 * r) :
    isolationPeriod r s = isolationJudged false (isolationNoted r s) := by
  rw [isolationPeriod_measured path iron power range, decide_eq_false (Nat.not_lt.mpr above)]
  exact if_neg (show ¬ (0 : Nat) = 2 by decide)

theorem isolationPeriod_second (below : 100 * r < isoFault s) (first : s.veh.isoLow = 1) :
    isolationPeriod r s = cutSession 0x02 (earthFault 1 (isolationJudged true (isolationNoted r s))) := by
  have second : (isolationNoted r s).veh.isoLow + 1 = 2 := congrArg (· + 1) first
  rw [isolationPeriod_measured path iron power range, decide_eq_true below, if_pos rfl, if_pos second]

end

/-! ### Residual current (R245, R247) -/

/-- During the self-test an update moves the mean and the cause of RC_SENSOR alone: the curve is not applied. -/
theorem residualUpdate_testing {s : State} (sum : Int) (measured : rcMeasured s = true) (testing : s.veh.rcTesting = true) :
    ∃ mean far, residualUpdate sum s = earthCause 3 far
      ((s.setVeh { s.veh with rcSums := (sum :: s.veh.rcSums).take 20 }).setRegI P.irnRcDcUa mean) := by
  rw [residualUpdate, if_neg (by simp [measured])]
  exact ⟨_, _, if_pos testing⟩

theorem ses_of_rcMeasured {s : State} (measured : rcMeasured s = true) : 1 ≤ ses s ∧ ses s ≤ 6 := by
  simp only [rcMeasured, Bool.and_eq_true, decide_eq_true_eq] at measured
  obtain ⟨-, low, high⟩ := measured
  exact ⟨Nat.le_of_succ_le low, high⟩

/-! ### The obligation -/

/-- Settles O29: an earth fault stays latched over its events and over the end of the session that it cuts. -/
theorem earthFaults : Obligations.EarthFaults := by
  unfold Obligations.EarthFaults
  refine ⟨?above, ?second, ?sum, ?sensor, ?test⟩
  case above =>
    intro s r path iron power range noWarning noFault
    refine completes_act rfl (isolationPeriod_above path iron power range noFault)
      ⟨?_, rfl, rfl, ?_, isolationJudged_keeps (isolationNoted_keeps r s) false⟩
    · rw [isolationJudged_reg, isolationNoted_isoR (by omega)]
    · rw [isolationJudged_reg, isolationNoted_warning, decide_eq_false (Nat.not_lt.mpr noWarning)]
  case second =>
    intro s r path phase iron power first range fault
    have running : 1 ≤ ses (isolationJudged true (isolationNoted r s)) ∧ ses (isolationJudged true (isolationNoted r s)) ≤ 6 := by
      have same : ses (isolationJudged true (isolationNoted r s)) = ses s := by
        rw [isolationJudged_ses, ses, isolationNoted_reg (by decide) (by decide), ses]
      simp only [dcPath, Bool.and_eq_true, decide_eq_true_eq] at path
      omega
    obtain ⟨latched, ended, opened⟩ := cut_earthFault (bit := 1) (cause := 0x02) (by decide) (by decide) running
    exact completes_act rfl (isolationPeriod_second path iron power range fault first) ⟨latched, ended, opened.contactors⟩
  case sum =>
    intro s sum measured testing
    obtain ⟨mean, far, act⟩ := residualUpdate_testing sum measured testing
    exact completes_act rfl act ⟨rfl, ((Keeps.refl _ s).setVeh _).setReg (by decide) _⟩
  case sensor =>
    intro s measured
    obtain ⟨latched, ended, opened⟩ := cut_earthFault (bit := 3) (cause := 0x03) (by decide) (by decide) (ses_of_rcMeasured measured)
    refine completes_act rfl (if_pos measured) ⟨?_, (drive_reg _ _ _ (by decide) (by decide)).trans ended, ?_,
      (opened.drive .high 1000).contactors⟩
    · rw [driveHigh, drive_reg _ _ _ (by decide) (by decide)]
      exact latched
    · rw [driveHigh, drive_veh, VehState.driven_drive]
  case test =>
    intro s m testing measured low high notC notD
    have act : rcSelfTest m s =
        (s.setVeh { s.veh with rcTesting := false }).setVeh { s.veh with rcTesting := false, rcTested := true } := by
      rw [rcSelfTest, if_neg (by simp [testing, measured])]
      exact (if_pos ⟨low, high⟩).trans (if_neg fun h => h.elim notC fun d => notD d.1)
    exact completes_act rfl act ⟨rfl, rfl, Keeps.refl _ s⟩

end Sys2Proof.Machine
end

section
/-!
PROOF. O27: requests of the high-level protocols and their responses (spec/09_vehicle_and_earth_fault.md R236 to R239, R242, R244, R249
to R254).
-/

namespace Sys2Proof.Machine

open Sys2Proof

/-! ### Responses (R250) -/

theorem hlcReply_ses (m : HlcMsg) (r : HlcRes) (vals : List Nat) (s : State) : ses (hlcReply m r vals s) = ses s := rfl

theorem hlcReply_veh (m : HlcMsg) (r : HlcRes) (vals : List Nat) (s : State) : (hlcReply m r vals s).veh = s.veh := rfl

theorem hlcReply_pairClosed (m : HlcMsg) (r : HlcRes) (vals : List Nat) (s : State) (p : Nat) :
    pairClosed (hlcReply m r vals s) p = pairClosed s p := rfl

theorem setSes_pairClosed (n : Nat) (s : State) (p : Nat) : pairClosed (setSes n s) p = pairClosed s p := by
  have switches : (setSes n s).reg P.irnSafeState = s.reg P.irnSafeState := s.reg_setReg_ne n (by decide)
  rw [pairClosed, highSide, lowSide, switches, pairClosed, highSide, lowSide]

theorem Keeps.hlcReply {l : List Nat} {s t : State} (keeps : Keeps l s t) (m : HlcMsg) (r : HlcRes) (vals : List Nat) :
    Keeps l s (Machine.hlcReply m r vals t) := keeps

/-- A decodable request of the session issued that its phase allows is judged by its own meaning. -/
theorem hlcGuard_passes {s : State} {sid : Nat} {allowed : Bool} (e0 : e0On s = true) (proto : s.reg P.wdnSesProto ≠ 0)
    (running : 1 ≤ ses s ∧ ses s ≤ 7) (issued : s.veh.sid = some sid) (phase : allowed = true) (m : HlcMsg) (ok : State → State) :
    hlcGuard m sid true allowed ok s = ok s := by
  have opened : sessionOpen s = true := (sessionOpen_iff s).mpr (by omega)
  rw [hlcGuard, if_neg (by simp [e0, proto, opened]), if_neg (by decide), if_neg (by simp [issued]), if_neg (by simp [phase])]

/-- A target within the vehicle's limits and the post's is taken as it stands. -/
theorem clampTarget_within {s : State} {v a : Nat} (vehV : v ≤ s.veh.vMax) (vehA : a ≤ s.veh.iMax) (postV : v ≤ s.reg P.wdnDcMaxV)
    (postA : a ≤ s.reg P.wdnDcMaxA) : clampTarget v a s = some (v, a, false, false, s) := by
  rw [clampTarget, if_neg (by omega), decide_eq_false (Nat.not_lt.mpr postV), decide_eq_false (Nat.not_lt.mpr postA)]
  simp [Nat.min_eq_left postV, Nat.min_eq_left postA]

/-! ### The cable check (R237) -/

/-- The check voltage commanded: the lower of the post's and the vehicle's maximum, without current. -/
def checkCommanded (vMax iMax : Nat) (s : State) : State := s.setVeh { s.veh with
  vMax := vMax, iMax := iMax, modV := 10 * min vMax (s.reg P.wdnDcMaxV), modI := 0, override := false }

theorem cableCheck_begins {s : State} {ohm vMax iMax : Nat} (before : ses s ≠ 3) (volt : Config.dcMinimum.1 ≤ vMax)
    (amp : Config.dcMinimum.2 ≤ iMax) (low : 85000 ≤ ohm) (high : ohm ≤ 115000)
    (closed : ∀ p, p = 1 ∨ p = 2 → pairClosed (closePairs 0x06 (checkCommanded vMax iMax s)) p = true) :
    ∃ vals, cableCheck ohm vMax iMax s =
      hlcReply .cableCheck .okOngoing vals (setSes 3 (closePairs 0x06 (checkCommanded vMax iMax s))) := by
  have both : (pairClosed (closePairs 0x06 (checkCommanded vMax iMax s)) 1 &&
      pairClosed (closePairs 0x06 (checkCommanded vMax iMax s)) 2) = true := by simp [closed]
  rw [cableCheck, if_neg before, if_neg (by omega), if_neg (by omega)]
  exact ⟨_, if_pos both⟩

/-- Settles O27: each request passes the guard in its phase, and its own function answers. -/
theorem highLevelMessages : Obligations.HighLevelMessages := by
  unfold Obligations.HighLevelMessages
  refine ⟨?protocol, ?setup, ?authorization, ?checked, ?check, ?precharge, ?delivery, ?demand, ?stop⟩
  case protocol =>
    intro s dc l p e0 plugged five fresh chosen fits
    have opened : sessionOpen s = true := (sessionOpen_iff s).mpr (by omega)
    have offered : chooseProto (s.setVeh { s.veh with dc := dc }) dc l = some p := chosen
    have act : appProtocol true dc l s = hlcReply .appProtocol .ok [p] ((s.setVeh { s.veh with dc := dc }).setReg P.wdnSesProto p) := by
      rw [appProtocol, if_neg (by simp [e0, opened, five]), if_neg (by decide), if_neg (by simp [fresh, plugged])]
      simp only [offered]
    have width : 8 * sizeOf' P.wdnSesProto = 8 := by decide +kernel
    refine completes_act rfl act ⟨?_, rfl, rfl, (((Keeps.refl _ s).setVeh _).setReg (by decide) p).hlcReply ..⟩
    exact reg_setReg_fits (by rw [width]; exact fits) _
  case setup =>
    intro s sid e0 proto opened fresh
    have act : sessionSetup sid true s = hlcReply .sessionSetup .ok [(s.drawBits 64).1]
        ((s.drawBits 64).2.setVeh { (s.drawBits 64).2.veh with sid := some (s.drawBits 64).1 }) := by
      rw [sessionSetup, if_neg (by simp [e0, proto, opened]), if_neg (by decide)]
      simp only [fresh]
    exact completes_act rfl act ⟨rfl, rfl, Keeps.refl _ s⟩
  case authorization =>
    intro s sid e0 proto phase issued
    have act : authorization none s = hlcReply .authorization .ok [] s := by
      unfold authorization
      simp only [ite_self, if_pos phase]
    refine completes_act rfl ((hlcGuard_passes e0 proto (by omega) issued ?_ _ _).trans act) rfl
    simp [phase]
  case checked =>
    intro s sid ohm vmax imax e0 proto phase dc issued
    refine completes_act rfl ((hlcGuard_passes e0 proto (by omega) issued ?_ _ _).trans (if_pos phase)) rfl
    simp [phase, dc]
  case check =>
    intro s sid ohm vmax imax e0 proto phase dc issued volt amp low high vsup steady cast iron warden
    have held {m p : Nat} (may : m &&& 6 = 6) (pair : p = 1 ∨ p = 2) : m.testBit p = true := by
      have both : (m &&& 6).testBit p = true := by
        rw [may]
        obtain rfl | rfl := pair <;> decide
      exact (Bool.and_eq_true_iff.mp (Nat.testBit_and .. ▸ both)).1
    have closed (p : Nat) (pair : p = 1 ∨ p = 2) : pairClosed (closePairs 0x06 (checkCommanded vmax imax s)) p = true := by
      refine closePairs_closed (s := checkCommanded vmax imax s) (by omega) ?_ vsup steady cast (held iron pair) (held warden pair)
      obtain rfl | rfl := pair <;> decide
    obtain ⟨vals, act⟩ := cableCheck_begins (by omega) volt amp low high closed
    have veh : (closePairs 0x06 (checkCommanded vmax imax s)).veh = (checkCommanded vmax imax s).veh :=
      closePairs_keeps (fun _ _ => rfl) 0x06 _
    refine completes_act rfl ((hlcGuard_passes e0 proto (by omega) issued (by simp [phase, dc]) _ _).trans act)
      ⟨?_, ?_, ?_, congrArg VehState.modV veh, congrArg VehState.modI veh,
        ((((Keeps.refl _ s).setVeh _).closePairs (by decide) 0x06).setSes (by decide) 3).hlcReply ..⟩
    · rw [hlcReply_ses, ses_setSes (by decide)]
    · rw [hlcReply_pairClosed, setSes_pairClosed, closed 1 (.inl rfl)]
    · rw [hlcReply_pairClosed, setSes_pairClosed, closed 2 (.inr rfl)]
  case precharge =>
    intro s sid v a e0 proto phase dc issued vehV vehA postV postA
    have act : preCharge v a s = hlcReply .preCharge (if s.veh.so2Open then .ok else .okOngoing) [0, 0]
        (setSes 4 (s.setVeh { s.veh with target := v, modV := 10 * v, modI := 10 * a, override := false })) := by
      rw [preCharge, clampTarget_within vehV vehA postV postA]
      rfl
    refine completes_act rfl ((hlcGuard_passes e0 proto (by omega) issued (by simp [phase, dc]) _ _).trans act)
      ⟨rfl, rfl, rfl, rfl, ?_⟩
    exact Keeps.setReg_same ((Keeps.refl _ s).setVeh _) phase (by decide +kernel)
  case delivery =>
    intro s sid e0 proto phase dc opened issued
    have act : powerDelivery true s = hlcReply .powerDelivery .ok [] (setSes 5 (s.setVeh { s.veh with began := true })) := by
      rw [powerDelivery, if_pos rfl, if_pos dc, if_pos ⟨phase, opened⟩]
    refine completes_act rfl ((hlcGuard_passes e0 proto (by omega) issued rfl _ _).trans act)
      ⟨?_, rfl, rfl, (((Keeps.refl _ s).setVeh _).setSes (by decide) 5).hlcReply ..⟩
    rw [hlcReply_ses, ses_setSes (by decide)]
  case demand =>
    intro s sid v a e0 proto phase dc issued vehV vehA postV postA
    have act : currentDemand v a s = hlcReply .currentDemand .ok (isoReport s ++ [maxCurrent s, 0, 0])
        (s.setVeh { s.veh with modV := 10 * v, modI := 10 * min a (maxCurrent s), override := false, paused := false }) := by
      rw [currentDemand, if_pos phase, clampTarget_within vehV vehA postV postA]
      rfl
    exact completes_act rfl ((hlcGuard_passes e0 proto (by omega) issued (by simp [demandAllowed, phase, dc]) _ _).trans act)
      ⟨rfl, rfl, rfl, Keeps.refl _ s⟩
  case stop =>
    intro s sid e0 proto phase dc issued
    have act : sessionStop s = setSes 6 (moduleZero ((hlcReply .sessionStop .ok [] s).setReg P.wdnSesEnd 0)) :=
      windSession_dc (s := hlcReply .sessionStop .ok [] s) phase 0 dc
    refine completes_act rfl ((hlcGuard_passes e0 proto (by omega) issued rfl _ _).trans act)
      ⟨ses_setSes (by decide) _, ?_, rfl, rfl, ?_⟩
    · rw [setSes, State.reg_setReg_ne _ _ (by decide), moduleZero_reg, reg_wdnSesEnd (by decide)]
    · exact ((((Keeps.refl _ s).hlcReply ..).setReg (by decide) 0).setVeh _).setSes (by decide) 6

end Sys2Proof.Machine
end

section
/-!
PROOF. O30: what ends or suspends a session by time (spec/09_vehicle_and_earth_fault.md R236, R238, R240, R241, R251, R253, R254).
-/

namespace Sys2Proof.Machine

open Sys2Proof

/-- The connection closed takes the SessionID with it. -/
theorem closeTcp_veh (s : State) : (closeTcp s).veh = { s.veh with sid := none } := rfl

theorem closeTcp_ses (s : State) : ses (closeTcp s) = ses s := rfl

/-- The precharge failed: the request in progress refused, the connection closed and the link let down (R238). -/
def prechargeFailed (ms' : Nat) (s : State) : State :=
  let u := hlcReply .preCharge .failed [] (violation 0x29 ms' s)
  closeTcp (u.setVeh { u.veh with modV := 0 })

theorem prechargeFailed_ses (ms' : Nat) (s : State) : ses (prechargeFailed ms' s) = ses s := by
  rw [prechargeFailed, closeTcp_ses, ses_setVeh, hlcReply_ses, violation_ses]

theorem prechargeFailed_began (ms' : Nat) (s : State) : (prechargeFailed ms' s).veh.began = s.veh.began := by
  simp only [prechargeFailed, closeTcp_veh, State.setVeh_veh, hlcReply_veh, violation_veh]

/-- The connection lost in energy transfer. -/
def connectionLost (ms' : Nat) (s : State) : State :=
  (violation 0x2D ms' s).setVeh { s.veh with sid := none }

theorem connectionLost_ses (ms' : Nat) (s : State) : ses (connectionLost ms' s) = ses s := by
  rw [connectionLost, ses_setVeh, violation_ses]

section
variable {cause : Nat} {s : State}

/-- A running session that is cut with the pilot at constant +12 V: its end cause, the pilot and SO0 to SO3 (R253). -/
theorem cutHigh_answers (runs : 1 ≤ ses s ∧ ses s ≤ 6) (fits : cause < 256) :
    (driveHigh (cutSession cause s)).reg P.wdnSesEnd = cause ∧ (driveHigh (cutSession cause s)).veh.sid = s.veh.sid ∧
      (driveHigh (cutSession cause s)).veh.drive = .high ∧ ∀ p < 4, pairClosed (driveHigh (cutSession cause s)) p = false := by
  refine ⟨?_, ?_, ?_, (Opened.drive (cutSession_opened cause s) .high 1000).contactors⟩
  · rw [driveHigh, drive_reg _ _ _ (by decide) (by decide), cutSession_end runs cause fits]
  · rw [driveHigh, drive_veh, VehState.driven_sid, cutSession_sid runs]
  · rw [driveHigh, drive_veh, VehState.driven_drive]

end

/-- Settles O30: after the violation, which leaves the session alone, each answer is that of its cut, its end in order or its
pause. -/
theorem sessionTimeouts : Obligations.SessionTimeouts := by
  unfold Obligations.SessionTimeouts
  refine ⟨?precharge, ?slac, ?sequence, ?demand, ?stateD, ?stateC, ?overcurrent, ?connection⟩
  case precharge =>
    intro s ms phase so0 before
    have act : prechargeTimeout ms s = driveHigh (cutSession 0x29 (prechargeFailed ms s)) := if_pos ⟨phase, so0⟩
    have kept := prechargeFailed_ses ms s
    obtain ⟨ended, sid, high, opened⟩ := cutHigh_answers (cause := 0x29) (s := prechargeFailed ms s) (by omega) (by decide)
    refine completes_act rfl act ⟨?_, ended, sid, high, opened⟩
    rw [driveHigh, drive_ses, cutSession_ended (by omega) _ ((prechargeFailed_began ms s).trans before)]
  case slac =>
    intro s ms phase five unseen dc fresh
    have act : slacTimeout ms s = driveHigh ((violation 0x21 ms s).setVeh
        { (violation 0x21 ms s).veh with slacTry := 1, slacAt := some (violation 0x21 ms s).mono }) := by
      rw [slacTimeout, if_neg (by simp [five, unseen, phase])]
      simp only [violation_veh, dc, fresh]
      rfl
    refine completes_act rfl act ⟨?_, ?_, ?_⟩ <;> simp [driveHigh]
  case sequence =>
    intro s ms phase proto
    have opened : sessionOpen s = true := (sessionOpen_iff s).mpr (by omega)
    have kept : ses (closeTcp (violation 0x22 ms s)) = 2 := by rw [closeTcp_ses, violation_ses, phase]
    have act : sequenceTimeout ms s = driveHigh (cutSession 0x22 (closeTcp (violation 0x22 ms s))) := by
      rw [sequenceTimeout, if_neg (by simp [proto, opened, phase])]
      exact if_neg fun transfer => by omega
    obtain ⟨ended, sid, high, contactors⟩ :=
      cutHigh_answers (cause := 0x22) (s := closeTcp (violation 0x22 ms s)) (by omega) (by decide)
    exact completes_act rfl act ⟨ended, sid, high, contactors⟩
  case demand =>
    intro s ms phase dc running
    have act : demandGap ms s = (violation 0x2A ms s).setVeh { (violation 0x2A ms s).veh with modI := 0, paused := true } :=
      if_pos ⟨phase, dc, running⟩
    exact completes_act rfl act ⟨rfl, rfl, by rw [ses_setVeh, violation_ses, phase]⟩
  case stateD =>
    intro s ms low high stateD forbidden
    have opened : sessionOpen s = true := (sessionOpen_iff s).mpr (by omega)
    have runs : 1 ≤ ses (violation 0x16 ms s) ∧ ses (violation 0x16 ms s) ≤ 6 := by rw [violation_ses]; exact ⟨low, high⟩
    exact completes_act rfl (if_pos ⟨opened, stateD, forbidden⟩)
      ⟨cutSession_end runs 0x16 (by decide), (cutSession_opened 0x16 _).contactors⟩
  case stateC =>
    intro s ms phase ac stateC
    have act : stateCTimeout ms s =
        startWeldCheck ((openPairs 0x08 (violation 0x1A ms s)).setReg P.wdnSesEnd 0x1A) := if_pos ⟨stateC, ac, phase⟩
    refine completes_act rfl act ⟨ses_startWeldCheck _, ?_, ?_⟩
    · rw [startWeldCheck_reg (by decide), reg_wdnSesEnd (by decide)]
    · have opened : Opened 0x08 ((openPairs 0x08 (violation 0x1A ms s)).setReg P.wdnSesEnd 0x1A) :=
        (openPairs_opened 0x08 _).mono (opensOnly_of_reg (State.reg_setReg_ne _ _ (by decide)))
      exact (startWeldCheck_opened opened).pairClosed (by decide)
  case overcurrent =>
    intro s ma phase ac excess
    have act : acOvercurrent ma s = windSession 0x19 (violation 0x19 ma s) := if_pos ⟨phase, ac, excess⟩
    have wound := windSession_ac (s := violation 0x19 ma s) ((violation_ses ..).trans phase) 0x19
      ((congrArg VehState.dc (violation_veh ..)).trans ac)
    refine completes_act rfl (act.trans wound) ⟨ses_setSes (by decide) _, ?_, ?_⟩
    · rw [setSes, State.reg_setReg_ne _ _ (by decide), driveHigh, drive_reg _ _ _ (by decide) (by decide), reg_wdnSesEnd (by decide)]
    · simp [setSes, driveHigh]
  case connection =>
    intro s ms phase dc proto
    have lost : tcpLost ms s = windSession 0x2D (connectionLost ms s) := by
      rw [tcpLost, if_pos ⟨phase, proto⟩]
      exact if_pos dc
    have wound := windSession_dc (s := connectionLost ms s) ((connectionLost_ses ms s).trans phase) 0x2D dc
    refine completes_act rfl (lost.trans wound) ⟨ses_setSes (by decide) _, ?_, rfl, rfl⟩
    rw [setSes, State.reg_setReg_ne _ _ (by decide), moduleZero_reg, reg_wdnSesEnd (by decide)]

end Sys2Proof.Machine
end

section
/-!
PROOF. O26: the control pilot, the proximity pilot and the current limit (spec/09_vehicle_and_earth_fault.md R231 to R235, R237, R241,
R253).
-/

namespace Sys2Proof.Machine

open Sys2Proof

/-! ### Levels and their classes (R231, R232) -/

theorem pilotState_B {mv : Int} (low : 8000 ≤ mv) (high : mv ≤ 10000) : pilotState mv = 2 := by
  rw [pilotState, if_neg (by omega), if_pos ⟨low, high⟩]

theorem pilotState_E {mv : Int} (low : -1000 ≤ mv) (high : mv ≤ 1000) : pilotState mv = 5 := by
  rw [pilotState, if_neg (by omega), if_neg (by omega), if_neg (by omega), if_neg (by omega), if_pos ⟨low, high⟩]

/-- A report of a class taken: the levels shown, the period counted and, where the state is new, the change noted. -/
def classNoted (st : Nat) (h l : Int) (s : State) : State :=
  let u := countPeriod st l ((s.setRegI P.irnCpHighMv h).setRegI P.irnCpLowMv l)
  if st = s.reg P.irnCpState then u else noteChange (u.setReg P.irnCpState st)

/-- At constant +12 V a report in a band is acted upon at once (R232). -/
theorem pilotReport_constant {s : State} {st : Nat} {h : Int} (on : pilotOn s = true) (constant : s.veh.drive = .high)
    (judged : pilotState h = st) (inBand : st ≠ 7) (l : Int) : pilotReport h l s = pilotAct st h l (classNoted st h l s) := by
  have driven : (if s.veh.drive = .off then driveHigh s else s) = s := if_neg (by simp [constant])
  subst judged
  rw [pilotReport, if_neg (by simp [on]), if_neg (by simp [constant])]
  simp only [driven]
  exact if_neg fun out => inBand out.1

section
variable (st : Nat) (h l : Int) (s : State)

theorem classNoted_reg {q : Nat} (low : q ≠ P.irnCpLowMv) (high : q ≠ P.irnCpHighMv) (state : q ≠ P.irnCpState) :
    (classNoted st h l s).reg q = s.reg q := by
  simp only [classNoted, noteChange, countPeriod, reg_ite, State.setVeh_reg, State.reg_setReg_ne _ _ state,
    State.reg_setRegI_ne _ _ low, State.reg_setRegI_ne _ _ high, ite_self]

theorem classNoted_state {st : Nat} (fits : st < 256) : (classNoted st h l s).reg P.irnCpState = st := by
  unfold classNoted
  dsimp only
  split
  · rename_i same
    rw [countPeriod, State.setVeh_reg, State.reg_setRegI_ne _ _ (by decide), State.reg_setRegI_ne _ _ (by decide), same]
  · exact reg_irnCpState fits _

theorem classNoted_high {h : Int} (low : -32768 ≤ h) (high : h < 32768) : (classNoted st h l s).regI P.irnCpHighMv = h := by
  have width : sizeOf' P.irnCpHighMv = 2 := by decide +kernel
  have shown : (classNoted st h l s).reg P.irnCpHighMv = (s.setRegI P.irnCpHighMv h).reg P.irnCpHighMv := by
    simp only [classNoted, noteChange, countPeriod, reg_ite, State.setVeh_reg]
    rw [State.reg_setReg_ne _ _ (by decide), State.setVeh_reg, ite_self, State.reg_setRegI_ne _ _ (by decide)]
  rw [State.regI, shown]
  exact regI_setRegI_two width low high s

theorem classNoted_mem : (classNoted st h l s).mem = s.mem := by
  simp only [classNoted, apply_ite State.mem]
  exact ite_self _

/-- At constant +12 V no period of a missing diode counts, and one change at most joins those of the last second. -/
theorem classNoted_veh (constant : s.veh.drive = .high) : (classNoted st h l s).veh.drive = .high ∧
    (classNoted st h l s).veh.noDiode = 0 ∧ (classNoted st h l s).veh.changes.length ≤ s.veh.changes.length + 1 ∧
    (classNoted st h l s).veh.barred = s.veh.barred := by
  have noDiode : (countPeriod st l ((s.setRegI P.irnCpHighMv h).setRegI P.irnCpLowMv l)).veh.noDiode = 0 :=
    if_neg fun diode => by simp [constant] at diode
  unfold classNoted
  dsimp only
  split
  · exact ⟨constant, noDiode, Nat.le_succ _, rfl⟩
  · exact ⟨constant, noDiode, Nat.succ_le_succ (List.length_filter_le ..), rfl⟩

theorem classNoted_plant : (classNoted st h l s).pwr = s.pwr ∧ (classNoted st h l s).clk = s.clk ∧
    (classNoted st h l s).saf = s.saf ∧ (classNoted st h l s).mono = s.mono := by
  unfold classNoted
  dsimp only
  split <;> simp [noteChange, countPeriod]

end

/-! ### Sessions that may start (R254) -/

/-- The registers that decide whether a session may start. -/
def allowPids : List Nat := [P.irnFaults, P.wngCastState, P.smgTier, P.boxTamperAlarm, P.boxTamperBlock]

theorem present_congr {s t : State} (pwr : t.pwr = s.pwr) (clk : t.clk = s.clk) (n : Nat) : t.present n = s.present n := by
  simp only [State.present, State.domOn, State.dom, State.isl, pwr, clk]

theorem sessionsAllowed_congr {s t : State} (plant : t.pwr = s.pwr ∧ t.clk = s.clk ∧ t.saf = s.saf ∧ t.mono = s.mono)
    (barred : t.veh.barred = s.veh.barred) (regs : ∀ q ∈ allowPids, t.reg q = s.reg q) :
    sessionsAllowed t = sessionsAllowed s := by
  obtain ⟨pwr, clk, saf, mono⟩ := plant
  simp only [allowPids, List.forall_mem_cons] at regs
  obtain ⟨faults, cast, tier, alarm, block, -⟩ := regs
  have pilot : pilotOn t = pilotOn s := by
    simp only [pilotOn, present_congr pwr clk, pwr, State.domOn, State.dom]
  simp only [sessionsAllowed, pilot, prompterOk, castOk, State.src, saf, clk, mono, barred, faults, cast, tier, alarm, block]

theorem sessionsAllowed_classNoted {s : State} (constant : s.veh.drive = .high) (st : Nat) (h l : Int) :
    sessionsAllowed (classNoted st h l s) = sessionsAllowed s := by
  have apart : ∀ q ∈ allowPids, q ≠ P.irnCpLowMv ∧ q ≠ P.irnCpHighMv ∧ q ≠ P.irnCpState := by decide
  obtain ⟨-, -, -, barred⟩ := classNoted_veh st h l s constant
  refine sessionsAllowed_congr (classNoted_plant st h l s) barred fun q mem => ?_
  obtain ⟨low, high, state⟩ := apart q mem
  exact classNoted_reg st h l s low high state

theorem dcPost_congr {s t : State} (pwr : t.pwr = s.pwr) (clk : t.clk = s.clk)
    (uart : t.reg (P.uartMode 1) = s.reg (P.uartMode 1)) : dcPost t = dcPost s := by
  simp only [dcPost, e0On, present_congr pwr clk, uart]

/-- The registers of a new session in Plugged. -/
def pluggedIn (s : State) : State := ((setSes 1 s).setReg P.wdnSesProto 0).setReg P.wdnSesEnd 0

theorem pluggedIn_session (s : State) :
    ses (pluggedIn s) = 1 ∧ (pluggedIn s).reg P.wdnSesProto = 0 ∧ (pluggedIn s).reg P.wdnSesEnd = 0 := by
  refine ⟨?_, ?_, reg_wdnSesEnd (by decide) _⟩
  · rw [pluggedIn, ses_setReg (by decide), ses_setReg (by decide), ses_setSes (by decide)]
  · rw [pluggedIn, State.reg_setReg_ne _ _ (by decide)]
    exact reg_setReg_fits (by positivity) _

theorem Keeps.pluggedIn {l : List Nat} {s t : State} (keeps : Keeps l s t)
    (listed : P.wdnSesState ∈ l ∧ P.wdnSesProto ∈ l ∧ P.wdnSesEnd ∈ l) : Keeps l s (Machine.pluggedIn t) :=
  ((keeps.setSes listed.1 1).setReg listed.2.1 0).setReg listed.2.2 0

section
variable {s : State} (allowed : sessionsAllowed s = true) (ac : dcPost s = false)
include allowed ac

/-- A vehicle plugged where a session may start and the post does not charge with DC: a session in Plugged at constant +12 V (R240). -/
theorem newPlug_ac : newPlug s = driveHigh ((pluggedIn s).setVeh (s.veh.fresh false)) := by
  have uart : (pluggedIn s).reg (P.uartMode 1) = s.reg (P.uartMode 1) :=
    Keeps.reg ((Keeps.refl _ s).pluggedIn (l := [P.wdnSesState, P.wdnSesProto, P.wdnSesEnd]) (by decide)) (by decide)
  have post : dcPost (((setSes 1 s).setReg P.wdnSesProto 0).setReg P.wdnSesEnd 0) = false :=
    (dcPost_congr (s := s) (t := pluggedIn s) rfl rfl uart).trans ac
  rw [newPlug, if_neg (by simp [allowed])]
  simp only [post]
  rfl

theorem newPlug_session : ses (newPlug s) = 1 ∧ (newPlug s).reg P.wdnSesProto = 0 ∧ (newPlug s).reg P.wdnSesEnd = 0 ∧
    (newPlug s).veh.drive = .high := by
  obtain ⟨one, proto, cause⟩ := pluggedIn_session s
  rw [newPlug_ac allowed ac, driveHigh]
  refine ⟨?_, ?_, ?_, by rw [drive_veh, VehState.driven_drive]⟩
  · rw [drive_ses, ses_setVeh, one]
  · rw [drive_reg _ _ _ (by decide) (by decide), State.setVeh_reg, proto]
  · rw [drive_reg _ _ _ (by decide) (by decide), State.setVeh_reg, cause]

theorem newPlug_keeps : Keeps [P.wdnSesState, P.wdnSesProto, P.wdnSesEnd, P.irnCpDuty] s (newPlug s) := by
  rw [newPlug_ac allowed ac]
  exact (((Keeps.refl _ s).pluggedIn (by decide)).setVeh _).drive (.inl rfl) (by decide) 1000

end

/-- State B of an unplugged post opens a session (R237, R240). -/
theorem pilotAct_B {u : State} (diode : u.veh.noDiode = 0) (calm : u.veh.changes.length ≤ u.reg P.wdnChatterMax) (idle : ses u = 0)
    (h l : Int) : pilotAct 2 h l u = newPlug (u.setVeh { u.veh with seenB := true }) := by
  have plugged : stateB u = newPlug (u.setVeh { u.veh with seenB := true }) := if_pos (.inl idle)
  rw [← plugged, pilotAct, if_neg (by decide), if_neg (by omega), if_neg (by decide), if_neg (by omega), if_neg (by decide),
    if_neg (by omega), if_pos rfl]

/-- A proximity reading shown, with the cable's rating (R235). -/
def proximityNoted (ohm : Nat) (s : State) : State :=
  (s.setReg P.irnPpOhm (ppReading ohm)).setVeh { s.veh with cable := cableRating ohm }

theorem ppReading_lt {ohm : Nat} (fits : ohm < 65536) : ppReading ohm < 65536 := by
  unfold ppReading
  split
  · decide
  · exact fits

/-- The limit does not depend on the limit held before (R234). -/
theorem currentLimitMa_setLimit (s : State) (n : Nat) : currentLimitMa (s.setVeh { s.veh with limit := n }) = currentLimitMa s := rfl

/-- Without a session a proximity reading renews the rating and the limit, and the pilot stays (R234, R235). -/
theorem limitRecompute_idle {s : State} {ohm : Nat} (on : pilotOn s = true) (there : s.present 8 = true) (idle : ses s = 0)
    (steady : s.veh.slacAt = none) : limitRecompute ohm s =
      (proximityNoted ohm s).setVeh { (proximityNoted ohm s).veh with limit := currentLimitMa (proximityNoted ohm s) } := by
  have phase : ses (proximityNoted ohm s) = 0 := (s.reg_setReg_ne _ (by decide)).trans idle
  have noted : (if pilotOn s = true then (s.setReg P.irnPpOhm (ppReading ohm)).setVeh { s.veh with cable := cableRating ohm } else s)
      = proximityNoted ohm s := if_pos on
  generalize limited : (proximityNoted ohm s).setVeh
    { (proximityNoted ohm s).veh with limit := currentLimitMa (proximityNoted ohm s) } = u
  have phaseU : ses u = 0 := by rw [← limited, ses_setVeh, phase]
  have recomputed : recomputeLimit (proximityNoted ohm s) = u := by
    rw [recomputeLimit, if_neg (by simp [proximityNoted, there])]
    simp only [limited, phaseU]
    simp
  have again : slacAgain u = u := by
    have uninterrupted : u.veh.slacAt = none := by rw [← limited]; exact steady
    simp only [slacAgain, uninterrupted]
  have stays : leavePlugged u = u := by
    unfold leavePlugged
    split
    · rfl
    · exact if_neg fun plugged => by omega
  simp only [limitRecompute, noted, recomputed, again, stays]

theorem pilotDuty_lt (ma : Nat) : pilotDuty ma < 65536 := by
  unfold pilotDuty
  split
  · decide
  · split <;> omega

/-- Settles O26, each clause by the path that its report or its timer takes. -/
theorem pilotAndLimit : Obligations.PilotAndLimit := by
  unfold Obligations.PilotAndLimit
  refine ⟨?unpowered, ?stateB, ?short, ?limit, ?resume, ?lost, ?stateF⟩
  case unpowered =>
    intro s h l off
    refine completes_act rfl (if_pos off) ⟨?_, drive_duty _ _ (by decide), reg_irnCpState (by decide) _, drive_frame .off 1000 s⟩
    rw [drive_veh, VehState.driven_drive]
  case stateB =>
    intro s h l on constant low high idle allowed ac calm
    obtain ⟨-, diode, changes, -⟩ := classNoted_veh 2 h l s constant
    obtain ⟨pwr, clk, -, -⟩ := classNoted_plant 2 h l s
    have kept {q : Nat} := classNoted_reg (q := q) 2 h l s
    have phase : ses (classNoted 2 h l s) = 0 := (kept (by decide) (by decide) (by decide)).trans idle
    have chatter : (classNoted 2 h l s).reg P.wdnChatterMax = s.reg P.wdnChatterMax := kept (by decide) (by decide) (by decide)
    have state := classNoted_state h l s (st := 2) (by decide)
    have level := classNoted_high 2 l s (h := h) (by omega) (by omega)
    have mem := classNoted_mem 2 h l s
    have act := (pilotReport_constant on constant (pilotState_B low high) (by decide) l).trans
      (pilotAct_B diode (by omega) phase h l)
    have may := (sessionsAllowed_setVeh (v := { (classNoted 2 h l s).veh with seenB := true }) rfl).trans
      ((sessionsAllowed_classNoted constant 2 h l).trans allowed)
    have post := (dcPost_congr (t := (classNoted 2 h l s).setVeh { (classNoted 2 h l s).veh with seenB := true }) pwr clk
      (kept (by decide) (by decide) (by decide))).trans ac
    obtain ⟨one, proto, cause, driven⟩ := newPlug_session may post
    have keeps := newPlug_keeps may post
    refine completes_act rfl act ⟨one, (keeps.reg (by decide)).trans state, ?_, proto, cause, driven, fun a => ?_⟩
    · rw [State.regI, keeps.reg (by decide)]
      exact level
    · exact (keeps.2 a).trans (congrArg (Memory.read · a) mem)
  case short =>
    intro s h l on constant low high
    obtain ⟨-, diode, -, -⟩ := classNoted_veh 5 h l s constant
    have act : pilotReport h l s = violationCut 0x13 (ofSigned 32 h) .low (classNoted 5 h l s) := by
      rw [pilotReport_constant on constant (pilotState_E low high) (by decide), pilotAct, if_neg (by decide),
        if_neg (by omega), if_pos rfl]
    obtain ⟨driven, opened⟩ := violationCut_answers 0x13 (ofSigned 32 h) .low (classNoted 5 h l s)
    exact completes_act rfl act ⟨driven, reg_irnCpState (by decide) _, opened.contactors⟩
  case limit =>
    intro s ohm on there idle steady fits
    have width : 8 * sizeOf' P.irnPpOhm = 16 := by decide +kernel
    refine completes_act rfl (limitRecompute_idle on there idle steady)
      ⟨?_, rfl, (currentLimitMa_setLimit (proximityNoted ohm s) _).symm, (((Keeps.refl _ s).setReg (by decide) _).setVeh _).setVeh _⟩
    exact reg_setReg_fits (by rw [width]; exact ppReading_lt fits) s
  case resume =>
    intro s phase paused ac enough
    have act : acResume s = drive .pwm (pilotDuty s.veh.limit) (s.setVeh { s.veh with paused := false }) := by
      rw [acResume, if_pos ⟨phase, paused, ac⟩, if_neg (by omega)]
      exact if_neg (Nat.not_lt.mpr enough)
    refine completes_act rfl act ⟨?_, ?_, drive_duty _ _ (pilotDuty_lt _),
      ((Keeps.refl _ s).setVeh _).drive (.inr rfl) (by decide) _⟩
    · rw [drive_veh, VehState.driven_drive]
    · rw [drive_veh, VehState.driven_paused]
      rfl
  case lost =>
    intro s ohm on socket low high unplugged
    have phase : ses (proximityNoted ohm s) = ses s := s.reg_setReg_ne _ (by decide)
    have opened : sessionOpen (proximityNoted ohm s) = true := (sessionOpen_iff _).mpr (by omega)
    have act : proximityLost ohm s = violationCut 0x18 0 .high (proximityNoted ohm s) := by
      rw [proximityLost, if_neg (by simp [on, socket])]
      exact if_pos ⟨opened, unplugged⟩
    have runs : 1 ≤ ses (violation 0x18 0 (proximityNoted ohm s)) ∧ ses (violation 0x18 0 (proximityNoted ohm s)) ≤ 6 := by
      rw [violation_ses]
      omega
    obtain ⟨driven, contactors⟩ := violationCut_answers 0x18 0 .high (proximityNoted ohm s)
    refine completes_act rfl act ⟨driven, ?_, contactors.contactors⟩
    rw [violationCut, drive_reg _ _ _ (by decide) (by decide), cutSession_end runs 0x18 (by decide)]
  case stateF =>
    intro s low
    refine completes_act rfl (if_pos low) ⟨?_, drive_duty _ _ (by decide), (Keeps.refl _ s).drive (.inl rfl) (by decide) 1000⟩
    rw [driveHigh, drive_veh, VehState.driven_drive]

end Sys2Proof.Machine
end

section
/-!
SUPPORT. The connector axis (spec/10_fly_axis.md): the bits of FLY_STATUS and the positions that read back, what an event and a held
cue write, and the encoder's movement and the drive's command in a control cycle.
-/

namespace Sys2Proof.Machine

open Sys2Proof

/-! ### Registers of 32 bits that are read as signed values (R11) -/

theorem regI_setRegI_four {p : Nat} {i : Int} (width : sizeOf' p = 4) (low : -2147483648 ≤ i) (high : i < 2147483648) (s : State) :
    (s.setRegI p i).regI p = i := by
  rw [State.regI, State.setRegI, State.reg_setReg, width]
  unfold toSigned ofSigned
  split <;> omega

theorem regI_bounds {p : Nat} (width : sizeOf' p = 4) (s : State) : -2147483648 ≤ s.regI p ∧ s.regI p < 2147483648 := by
  rw [State.regI, width]
  unfold toSigned
  split <;> omega

theorem regI_congr {s t : State} {p : Nat} (same : t.reg p = s.reg p) : t.regI p = s.regI p := by rw [State.regI, same, State.regI]

/-! ### FLY_STATUS (R281) -/

theorem flyBit_congr {s t : State} (same : t.reg P.flyStatus = s.reg P.flyStatus) (b : Nat) : flyBit t b = flyBit s b := by
  rw [flyBit, same, flyBit]

theorem flyBit_setFly (b : Nat) (v : Bool) {i : Nat} (low : i < 32) (s : State) :
    flyBit (setFly b v s) i = bitOf (setBit (s.reg P.flyStatus) b v) i := by
  have width : 8 * sizeOf' P.flyStatus = 32 := by decide +kernel
  rw [flyBit, setFly, State.reg_setReg, width, bitOf_eq_testBit, Nat.testBit_mod_two_pow, decide_eq_true low, Bool.true_and,
    bitOf_eq_testBit]

theorem flyBit_setFly_self {b : Nat} (low : b < 32) (v : Bool) (s : State) : flyBit (setFly b v s) b = v := by
  rw [flyBit_setFly b v low, bitOf_setBit_self]

theorem flyBit_setFly_ne {b i : Nat} (low : i < 32) (other : i ≠ b) (v : Bool) (s : State) : flyBit (setFly b v s) i = flyBit s i := by
  rw [flyBit_setFly b v low, bitOf_setBit_ne _ other, flyBit]

theorem keeps_ite {l : List Nat} {s a b : State} {c : Prop} [Decidable c] (yes : Keeps l s a) (no : Keeps l s b) :
    Keeps l s (if c then a else b) := by
  split
  · exact yes
  · exact no

theorem Keeps.setFly {l : List Nat} {s t : State} (keeps : Keeps l s t) (listed : P.flyStatus ∈ l) (b : Nat) (v : Bool) :
    Keeps l s (Machine.setFly b v t) := keeps.setReg listed _

theorem flyBit_withFly (s : State) (f : FlyState) (b : Nat) : flyBit { s with fly := f } b = flyBit s b := rfl

theorem Keeps.withFly {l : List Nat} {s t : State} (keeps : Keeps l s t) (f : FlyState) : Keeps l s { t with fly := f } := keeps

/-! ### Events (R282) -/

theorem flyEvent_reg {q : Nat} (last : q ≠ P.flyLastEvent) (counted : q ≠ P.flyEvents) (code : Nat) (s : State) :
    (flyEvent code s).reg q = s.reg q :=
  (State.reg_count_ne _ 1 counted).trans (s.reg_setReg_ne _ last)

theorem flyBit_flyEvent (code : Nat) (s : State) (b : Nat) : flyBit (flyEvent code s) b = flyBit s b :=
  flyBit_congr (flyEvent_reg (by decide) (by decide) code s) b

theorem Keeps.flyEventAt {l : List Nat} {s t : State} (keeps : Keeps l s t) (listed : P.flyLastEvent ∈ l ∧ P.flyEvents ∈ l)
    (code cue : Nat) (pos : Int) : Keeps l s (Machine.flyEventAt code cue pos t) := (keeps.setReg listed.1 _).setReg listed.2 _

theorem Keeps.flyEvent {l : List Nat} {s t : State} (keeps : Keeps l s t) (listed : P.flyLastEvent ∈ l ∧ P.flyEvents ∈ l) (code : Nat) :
    Keeps l s (Machine.flyEvent code t) := keeps.flyEventAt listed code 0xFF _

/-! ### Held cues and a missed tooth (R274) -/

theorem Keeps.holdCues {l : List Nat} {s t : State} (keeps : Keeps l s t) (listed : P.flyLastEvent ∈ l ∧ P.flyEvents ∈ l) :
    Keeps l s (Machine.holdCues t) := by
  unfold Machine.holdCues
  exact List.foldlRecOn _ _ keeps fun u kept k _ => keeps_ite ((kept.withFly _).flyEventAt listed 0x08 k _) kept

theorem flyBit_holdCues (s : State) (b : Nat) : flyBit (holdCues s) b = flyBit s b :=
  flyBit_congr (((Keeps.refl [P.flyLastEvent, P.flyEvents] s).holdCues (by decide)).reg (by decide)) b

theorem toothDisc_keeps (s : State) : Keeps [P.flyStatus, P.flyLastEvent, P.flyEvents] s (toothDisc s) := by
  have declared := ((Keeps.refl [P.flyStatus, P.flyLastEvent, P.flyEvents] s).setFly (by decide) 9 true).flyEvent (by decide) 0x02
  unfold toothDisc
  exact ((declared.withFly _).holdCues (by decide)).setFly (by decide) 6 true

/-- A tooth discrepancy declared sets TOOTH_DISC and CREEP. -/
theorem toothDisc_flags (s : State) : flyBit (toothDisc s) 9 = true ∧ flyBit (toothDisc s) 6 = true := by
  refine ⟨?_, flyBit_setFly_self (by decide) true _⟩
  rw [toothDisc, flyBit_setFly_ne (by decide) (by decide), flyBit_holdCues, flyBit_withFly, flyBit_flyEvent, flyBit_setFly_self (by decide)]

theorem missedTooth_declares {s : State} (there : s.present 21 = true) (enabled : s.reg P.flyToothEn ≠ 0) (referenced : flyBit s 3 = true)
    (agreed : flyBit s 9 = false) (sound : flyBit s 10 = false)
    (far : 3 * (s.reg P.flyToothPitch : Int) < twiceTravel s s.fly.lastTooth) : missedTooth s = toothDisc s := by
  rw [missedTooth, if_neg (by simp [there, enabled, referenced, sound]), if_neg (by simp [agreed])]
  exact if_pos far

/-! ### A tooth counted (R273) -/

theorem toothCounted_keeps (s : State) : Keeps [P.flyToothCount, P.flyToothDev] s (toothCounted s) :=
  ((Keeps.refl _ s).setReg (by decide) _).setReg (by decide) _

theorem toothCounted_up {s : State} (up : 0 ≤ s.fly.dir) (low : s.regI P.flyToothCount < 2147483647) :
    (toothCounted s).regI P.flyToothCount = s.regI P.flyToothCount + 1 := by
  have width : sizeOf' P.flyToothCount = 4 := by decide +kernel
  obtain ⟨bottom, -⟩ := regI_bounds width s
  have counted : (toothCounted s).regI P.flyToothCount =
      (s.setRegI P.flyToothCount (s.regI P.flyToothCount + (if flyUp s then 1 else -1))).regI P.flyToothCount :=
    regI_congr (State.reg_setRegI_ne _ _ (by decide))
  rw [counted, flyUp, if_pos (decide_eq_true up), regI_setRegI_four width (by omega) (by omega)]

/-- While the axis is not homed and no tooth check runs, an edge in the direction of travel is counted and nothing follows. -/
theorem toothEdge_counts {s : State} (there : s.present 21 = true) (unhomed : flyBit s 2 = false) (up : 0 ≤ s.fly.dir)
    (unchecked : s.reg P.flyToothEn = 0) : toothEdge true s = toothCounted s := by
  have still : (toothCounted s).reg P.flyToothEn = 0 := ((toothCounted_keeps s).reg (by decide)).trans unchecked
  rw [toothEdge, if_neg (by simp [there, flyUp, up]), if_neg (by simp [unhomed])]
  exact if_pos (.inl still)

/-! ### The control cycle (R261, R263, R270) -/

theorem flyMove_reg {q : Nat} (position : q ≠ P.flyPos) (speed : q ≠ P.flySpeed) (d : Int) (gap : Nat) (s : State) :
    (flyMove d gap s).reg q = s.reg q :=
  (State.reg_setRegI_ne _ _ speed).trans (State.reg_setRegI_ne _ _ position)

theorem flyMove_keeps (d : Int) (gap : Nat) (s : State) : Keeps [P.flyPos, P.flySpeed] s (flyMove d gap s) :=
  ((Keeps.refl _ s).setReg (by decide) _).setReg (by decide) _

theorem flyMove_position {d : Int} {s : State} (low : -2147483648 ≤ s.regI P.flyPos + d) (high : s.regI P.flyPos + d < 2147483648)
    (gap : Nat) : (flyMove d gap s).regI P.flyPos = s.regI P.flyPos + d :=
  (regI_congr (State.reg_setRegI_ne _ _ (by decide))).trans (regI_setRegI_four (by decide +kernel) low high _)

theorem driveOut_pwm {s : State} (mode : s.reg P.flyOutMode = 0) (c : Int) :
    driveOut c s = (s.setRegI P.flyCmdOut c).emit (.flyPwm (c.natAbs * 12500 / 32768) (decide (0 ≤ c))) :=
  if_pos ((State.reg_setRegI_ne s c (by decide)).trans mode)

/-- At rest, with no target written and no tooth discrepancy, a control cycle is the encoder's movement and the command 0. -/
theorem controlCycle_rest {s : State} (there : s.present 21 = true) (rest : s.fly.phase = .rest) (untargeted : s.fly.newTarget = none)
    (agreed : flyBit s 9 = false) (d : Int) (gap : Nat) : controlCycle d gap s = driveOut 0 (flyMove d gap s) := by
  have phase : (flyMove d gap s).fly.phase = .rest := rest
  have target : (flyMove d gap s).fly.newTarget = none := untargeted
  have steady : takeTarget (flyMove d gap s) = flyMove d gap s := by rw [takeTarget, target]
  have free : cuesWait (flyMove d gap s) = false := by
    rw [cuesWait, flyBit_congr (flyMove_reg (by decide) (by decide) d gap s), agreed]
    rfl
  have clear : limitAhead (flyMove d gap s) = false := by simp [limitAhead, phase]
  have command : flyCommand (flyMove d gap s) = 0 := by simp [flyCommand, phase]
  rw [controlCycle, if_neg (by simp [there])]
  simp only [steady, free, Bool.false_eq_true, if_false, clear, phase, reduceCtorEq, command]

/-! ### The index and the home switch (R266) -/

/-- The state in which the index of a homing has been taken, before its event. -/
def indexTaken (s : State) : State :=
  let shift := s.regI P.flyHomeOffset - s.regI P.flyPos
  { (setFly 2 true s).setRegI P.flyPos (s.regI P.flyHomeOffset) with
    fly := { s.fly with zLatch := s.regI P.flyPos, goal := .homeTooth, x := s.fly.x + shift * flyUnit, lastTooth := s.fly.lastTooth + shift } }

theorem encIndex_homing {s : State} (there : s.present 21 = true) (homing : s.fly.goal = .homeIndex) :
    encIndex s = flyEvent 0x0B (indexTaken s) := by
  rw [encIndex, if_neg (by simp [there])]
  exact if_pos homing

theorem indexTaken_position (s : State) : (indexTaken s).regI P.flyPos = s.regI P.flyHomeOffset := by
  obtain ⟨low, high⟩ := regI_bounds (p := P.flyHomeOffset) (by decide +kernel) s
  exact regI_setRegI_four (by decide +kernel) low high _

theorem indexTaken_homed (s : State) : flyBit (indexTaken s) 2 = true :=
  (flyBit_congr (State.reg_setRegI_ne _ _ (by decide)) 2).trans (flyBit_setFly_self (by decide) true s)

theorem indexTaken_keeps {l : List Nat} (listed : P.flyStatus ∈ l ∧ P.flyPos ∈ l) (s : State) : Keeps l s (indexTaken s) :=
  ((Keeps.refl _ s).setFly listed.1 2 true).setReg listed.2 _

end Sys2Proof.Machine
end

section
/-!
PROOF. O24: the control cycle at rest, the encoder, the marks of a homing and the teeth (spec/10_fly_axis.md R260 to R263, R266, R273,
R274).
-/

namespace Sys2Proof.Machine

open Sys2Proof

/-- Settles O24, each clause by the lemma of its operation. -/
theorem flyEncoder : Obligations.FlyEncoder := by
  unfold Obligations.FlyEncoder
  refine ⟨?cycle, ?illegal, ?latch, ?homing, ?standstill, ?out, ?back, ?counted, ?missed⟩
  case cycle =>
    intro s d gap there rest untargeted agreed pwm powered low high
    have mode : (flyMove d gap s).reg P.flyOutMode = 0 := (flyMove_reg (by decide) (by decide) d gap s).trans pwm
    have act : controlCycle d gap s = _ := (controlCycle_rest there rest untargeted agreed d gap).trans (driveOut_pwm mode 0)
    refine completes_act rfl act ⟨?_, ?_, ?_, ?_⟩
    · exact (regI_congr (State.reg_setRegI_ne (p := P.flyCmdOut) _ 0 (by decide))).trans (flyMove_position low high gap)
    · exact regI_setRegI_two (p := P.flyCmdOut) (i := 0) (by decide +kernel) (by decide) (by decide) _
    · have driven : s.drives (.flyPwm 0 true) = true := by simp [State.drives, powered]
      exact if_pos driven
    · exact ((flyMove_keeps d gap s).trans (keeps_setReg _ P.flyCmdOut _)).emit _
  case illegal =>
    intro s there
    refine completes_act rfl (if_pos there) ⟨?_, ?_, ?_⟩
    · rw [flyBit_flyEvent, flyBit_setFly_ne (by decide) (by decide), flyBit_setFly_self (by decide)]
    · rw [flyBit_flyEvent, flyBit_setFly_self (by decide)]
    · exact (((Keeps.refl _ s).setFly (by decide) 11 true).setFly (by decide) 1 false).flyEvent (by decide) 0x05
  case latch =>
    intro s there other
    have act : encIndex s = { s with fly := { s.fly with zLatch := s.regI P.flyPos } } := by
      rw [encIndex, if_neg (by simp [there])]
      exact if_neg other
    exact completes_act rfl act ⟨rfl, Keeps.refl _ s⟩
  case homing =>
    intro s there homing
    refine completes_act rfl (encIndex_homing there homing) ⟨?_, ?_, rfl, ?_⟩
    · exact (regI_congr (flyEvent_reg (by decide) (by decide) 0x0B _)).trans (indexTaken_position s)
    · exact (flyBit_flyEvent 0x0B _ 2).trans (indexTaken_homed s)
    · exact (indexTaken_keeps (by decide) s).flyEvent (by decide) 0x0B
  case standstill =>
    intro s there sound still
    exact completes_act rfl (if_pos ⟨there, sound, .inl still⟩)
      ⟨flyBit_setFly_self (by decide) true s, (Keeps.refl _ s).setFly (by decide) 1 true⟩
  case out =>
    intro s homing
    exact completes_act rfl (if_pos ⟨homing, rfl⟩) rfl
  case back =>
    intro s homing
    have act : homeSwitch false s = { s with fly := { s.fly with homeLow := false, goal := .homeIndex } } := by
      rw [homeSwitch, if_neg (by simp)]
      exact if_pos ⟨homing, rfl⟩
    exact completes_act rfl act rfl
  case counted =>
    intro s there unhomed up unchecked few
    exact completes_act rfl (toothEdge_counts there unhomed up unchecked) ⟨toothCounted_up up (by omega), toothCounted_keeps s⟩
  case missed =>
    intro s there enabled referenced agreed sound far
    obtain ⟨disc, creep⟩ := toothDisc_flags s
    obtain ⟨-, stored⟩ := toothDisc_keeps s
    exact completes_act rfl (missedTooth_declares there enabled referenced agreed sound far) 
      ⟨disc, creep, stored⟩

end Sys2Proof.Machine
end

section
/-!
PROOF. O25: the close of SO4 after the settling of SO5 during the stop of SLS (spec/08_safety.md R197, R219; spec/10_fly_axis.md R265).
-/

namespace Sys2Proof.Machine

open Sys2Proof

/-- A pair that is open and that the Iron may not close stays open, whatever the Warden commands (R197). -/
theorem closePairs_barred {p : Nat} {s : State} (barred : (mayClose s 0).testBit p = false) (opened : (highSide s).testBit p = false)
    (mask : Nat) : pairClosed (closePairs mask s) p = false := by
  unfold closePairs
  dsimp only
  split
  · rw [pairClosed, highSide_setSwitches, bitOf_eq_testBit, Bool.and_eq_false_iff]
    refine .inl (Bool.eq_false_of_not_eq_true fun closed => ?_)
    have either := testBit_of_mod64 closed
    simp [Nat.testBit_or, opened, barred] at either
  · rw [pairClosed, bitOf_eq_testBit, opened, Bool.false_and]

/-- Where the Iron may not close SO4, it stays open after the settling of SO5. -/
theorem stoSettle_barred {s : State} (barred : (mayClose s 0).testBit 4 = false) (opened : (highSide s).testBit 4 = false) :
    pairClosed (stoSettle s) 4 = false := by
  unfold stoSettle
  split
  · exact closePairs_barred (s := setGoal .brake s.fly.goal s) barred opened 0x10
  · rw [pairClosed, bitOf_eq_testBit, opened, Bool.false_and]

/-- The post of the running SLS stop with SO5 closed and the axis in the settling of SO5. -/
def settlingPost : State := setGoal .sto .target (setSwitches 0x20 0x20 stoppingPost)

/-- Both channels may still hold SO4, and the Iron may no longer close it. -/
theorem settlingPost_holds_not_closes : bitOf (mayHold settlingPost 0) 4 = true ∧ bitOf (mayHold settlingPost 1) 4 = true ∧
    (mayClose settlingPost 0).testBit 4 = false := by
  refine ⟨?_, ?_, ?_⟩ <;> decide +kernel

/-- Refutes O25: its first clause asks for the close of SO4 wherever both channels may hold it. During the stop of SLS they may hold it
and may not close it, and SO4 stays open. -/
theorem not_flyMotion : ¬ Obligations.FlyMotion := by
  unfold Obligations.FlyMotion
  rintro ⟨settled, -⟩
  obtain ⟨iron, warden, barred⟩ := settlingPost_holds_not_closes
  obtain ⟨t, run, -, closed, -⟩ := settled settlingPost rfl (by decide +kernel) (by decide +kernel) (by decide +kernel) iron warden
  have after : stoSettle settlingPost = t := Host.Outcome.next.inj run
  rw [← after, stoSettle_barred barred (by decide +kernel)] at closed
  cases closed

end Sys2Proof.Machine
end

section
/-!
PROOF. O33: an interval is split among the rates without a remainder lost (spec/12_energy.md R307, R314, R315).
-/

namespace Sys2Proof.Machine

open Sys2Proof

/-! ### The shares of an interval -/

/-- The rates of a list of shares are rates that exist. -/
def ratesExist (shares : List (Nat × Nat × Nat)) : Prop := ∀ e ∈ shares, e.1 < 8

theorem seamShares_ratesExist (anchor : Nat × Nat) (k : Nat) {rate : Nat} (c0 : Nat) {seams : List Seam} (first : rate < 8)
    (known : ∀ m ∈ seams, m.old < 8 ∧ m.new < 8) : ratesExist (seamShares anchor k rate c0 seams).1 := by
  induction seams generalizing rate c0 with
  | nil => simpa [seamShares, ratesExist] using first
  | cons m t ih =>
    obtain ⟨⟨old, new⟩, rest⟩ := List.forall_mem_cons.mp known
    unfold seamShares
    split
    · simpa [ratesExist] using first
    · exact List.forall_mem_cons.mpr ⟨old, ih _ new rest⟩

/-- Together the shares from a clock on are the interval's energy from that clock on. -/
theorem seamShares_sum (anchor : Nat × Nat) (k rate c0 : Nat) (seams : List Seam) (q : Int) :
    ((seamShares anchor k rate c0 seams).1.map fun e => sharePart q e.2.1 e.2.2).sum = sharePart q c0 2000 := by
  induction seams generalizing rate c0 with
  | nil => simp [seamShares]
  | cons m t ih =>
    unfold seamShares
    split
    · simp
    · simp only [List.map_cons, List.sum_cons, ih]
      unfold sharePart
      omega

/-- Each share goes to one rate register, so the eight gains are all the shares. -/
theorem rateGain_sum {shares : List (Nat × Nat × Nat)} (exist : ratesExist shares) (q : Int) :
    ((List.range 8).map fun r => rateGain shares r q).sum = (shares.map fun e => sharePart q e.2.1 e.2.2).sum := by
  simp only [rateGain, ← List.sum_eq_foldl]
  induction shares with
  | nil => simp
  | cons e t ih =>
    obtain ⟨low, rest⟩ := List.forall_mem_cons.mp exist
    have one : ∀ r, ((e :: t).filter fun x => x.1 == r).map (fun x => sharePart q x.2.1 x.2.2) =
        (if e.1 = r then [sharePart q e.2.1 e.2.2] else []) ++ (t.filter fun x => x.1 == r).map fun x => sharePart q x.2.1 x.2.2 := by
      intro r
      by_cases here : e.1 = r <;> simp [here]
    have own : ((List.range 8).map fun r => (if e.1 = r then [sharePart q e.2.1 e.2.2] else []).sum).sum = sharePart q e.2.1 e.2.2 := by
      obtain ⟨r, _⟩ := e
      simp only at low
      interval_cases r <;> simp [List.range, List.range.loop]
    rw [List.map_cons, List.sum_cons, ← ih rest, ← own, ← List.sum_map_add]
    simp only [one, List.sum_append]

theorem sharePart_whole (q : Int) : sharePart q 0 2000 = q := by
  unfold sharePart
  omega

/-! ### The registers after an interval -/

theorem gain_set {n : NrgState} (modes : List Nat) (k : Nat) (v : List Int) (nine : n.sets.length = 9) {i : Nat} (low : i < 9) :
    (n.gain modes k v).sets.getD i 0
      = n.sets.getD i 0 + ((List.range 3).flatMap fun x => setGains (modes.getD x 0) ((setEnergies v).getD x 0)).getD i 0 := by
  simp [NrgState.gain, addLists, nine, low]

theorem gain_rate (n : NrgState) (modes : List Nat) (k : Nat) (v : List Int) {i : Nat} (low : i < 72) :
    (n.gain modes k v).rates.getD i 0 = n.rates.getD i 0 + rateGain (seamShares n.anchor k n.rate 0 n.seams).1 (i / 3 % 8)
      (((List.range 3).flatMap fun x => setGains (modes.getD x 0) ((setEnergies v).getD x 0)).getD (i / 24 * 3 + i % 3) 0) := by
  simp [NrgState.gain, low]

/-- The eight rate registers of each set sum to its registers. -/
def NrgState.RatesSum (n : NrgState) : Prop := ∀ x < 3, ∀ i < 3,
  ((List.range 8).map fun r => n.rates.getD (3 * (8 * x + r) + i) 0).sum = n.sets.getD (3 * x + i) 0

/-- What an interval adds to a register of a set, its shares add to the rate registers. -/
theorem gain_ratesSum {n : NrgState} (first : n.rate < 8) (known : ∀ m ∈ n.seams, m.old < 8 ∧ m.new < 8) (nine : n.sets.length = 9)
    (split : n.RatesSum) (modes : List Nat) (k : Nat) (v : List Int) : (n.gain modes k v).RatesSum := by
  intro x hx i hi
  have place : ∀ r < 8, 3 * (8 * x + r) + i < 72 ∧ (3 * (8 * x + r) + i) / 3 % 8 = r ∧
      (3 * (8 * x + r) + i) / 24 * 3 + (3 * (8 * x + r) + i) % 3 = 3 * x + i := by omega
  rw [gain_set modes k v nine (by omega), ← split x hx i hi]
  generalize hq : ((List.range 3).flatMap fun x => setGains (modes.getD x 0) ((setEnergies v).getD x 0)).getD (3 * x + i) 0 = q
  calc _ = ((List.range 8).map fun r => n.rates.getD (3 * (8 * x + r) + i) 0 +
          rateGain (seamShares n.anchor k n.rate 0 n.seams).1 r q).sum := by
        refine congrArg List.sum (List.map_congr_left fun r hr => ?_)
        obtain ⟨inside, rate, set⟩ := place r (List.mem_range.mp hr)
        rw [gain_rate n modes k v inside, rate, set, hq]
    _ = _ := by
        rw [List.sum_map_add, rateGain_sum (seamShares_ratesExist _ _ _ first known), seamShares_sum, sharePart_whole]

/-- Settles O33: an interval gains in a state that differs in the remainders of R304 only. -/
theorem ratesSplitEveryInterval : Obligations.RatesSplitEveryInterval := by
  intro n coefs modes k counts first known nine _ split
  exact gain_ratesSum (n := { n with rho := _ }) first known nine split modes k _

end Sys2Proof.Machine
end

section
/-!
SUPPORT. Bits and counters of a register, and a list of distinct registers written one after another (spec/00_scope.md R4, R11, R14).
-/

namespace Sys2Proof.Machine

open Sys2Proof

theorem bitOf_mod_two_pow {i width : Nat} (low : i < width) (v : Nat) : bitOf (v % 2 ^ width) i = bitOf v i := by
  rw [bitOf_eq_testBit, Nat.testBit_mod_two_pow, decide_eq_true low, Bool.true_and, bitOf_eq_testBit]

theorem bitOf_reg_setReg {p i : Nat} (low : i < 8 * sizeOf' p) (v : Nat) (s : State) : bitOf ((s.setReg p v).reg p) i = bitOf v i := by
  rw [State.reg_setReg, bitOf_mod_two_pow low]

theorem bitOf_reg_setBit {p i : Nat} (low : i < 8 * sizeOf' p) (v : Nat) (b : Bool) (s : State) :
    bitOf ((s.setReg p (setBit v i b)).reg p) i = b := by
  rw [bitOf_reg_setReg low, bitOf_setBit_self]

theorem Keeps.count {l : List Nat} {s t : State} (keeps : Keeps l s t) {p : Nat} (listed : p ∈ l) (k : Nat) : Keeps l s (t.count p k) :=
  keeps.setReg listed _

theorem Keeps.setRegI {l : List Nat} {s t : State} (keeps : Keeps l s t) {p : Nat} (listed : p ∈ l) (i : Int) : Keeps l s (t.setRegI p i) :=
  keeps.setReg listed _

theorem State.setReg_word (s : State) (p v x : Nat) : (s.setReg p v).word x = s.word x := rfl

theorem Keeps.mem {l : List Nat} {s t : State} (keeps : Keeps l s t) : SameMem s t := keeps.2

end Sys2Proof.Machine
end

section
/-!
PROOF. O31: the sequencers of the converters, calibration and self-checks (spec/11_converters.md R286 to R301).
-/

namespace Sys2Proof.Machine

open Sys2Proof

/-! ### A metering interval (R286 to R289) -/

/-- The totals after an interval. -/
def totalsAfter (counts : List Int) (s : State) : List Nat :=
  (List.range 12).map fun i => (((s.cnv.totals.getD i 0 : Int) + max (-2000) (min 2000 (counts.getD i 0))) % 16777216).toNat

/-- The sequencer after an interval without a crossing, before its frame is passed. -/
def intervalCounted (counts : List Int) (s : State) : State :=
  { (s.setReg P.irnMcSeq s.cnv.seq).setReg P.irnMcStatus (setBits (s.reg P.irnMcStatus) 11 0 (overMask counts)) with
    cnv := { s.cnv with totals := totalsAfter counts s, prev4 := counts.getD 4 0, seq := (s.cnv.seq + 1) % 2 ^ 32 } }

/-- The frame of an interval without a crossing. -/
def intervalFrame (counts : List Int) (s : State) : McFrame :=
  { seq := s.cnv.seq, totals := totalsAfter counts s, check := checkBits s, overBits := overMask counts, cross := false, crossAt := 0,
    arrived := s.now }

theorem intervalCounted_keeps {l : List Nat} (listed : P.irnMcSeq ∈ l ∧ P.irnMcStatus ∈ l) (counts : List Int) (s : State) :
    Keeps l s (intervalCounted counts s) := ((Keeps.refl l s).setReg listed.1 _).setReg listed.2 _

theorem intervalEnd_uncrossed {counts : List Int} {s : State} (runs : meteringRuns s = true)
    (flat : ¬ (s.cnv.prev4 ≤ 0 ∧ 0 < counts.getD 4 0)) :
    intervalEnd counts s =
      if s.present 22 = true ∧ s.present 9 = true then
        { intervalCounted counts s with
          cnv := { (intervalCounted counts s).cnv with frames := s.cnv.frames ++ [intervalFrame counts s] } }
      else (intervalCounted counts s).count P.irnMcFramesLost 1 := by
  unfold intervalEnd
  simp only [runs, flat, decide_false, Bool.true_eq_false, if_false, Bool.false_eq_true]
  rfl

theorem mainsLost_tracked {s : State} (tracked : s.reg P.irnMainsState = 1) :
    mainsLost s = { s with cnv := { s.cnv with crossings := [], lastCross := none } }.setReg P.irnMainsState 2 := if_pos tracked

/-! ### The result of a process window (R290, R291) -/

theorem processWindowEnd_passed {counts : List Int} {s : State} (iron : s.pwr.ironOn = true) (power : s.domOn 57 = true)
    (clock : bitOf (s.reg P.irnMcStatus) 24 = false) (bridge : s.present 22 = true) (tally : s.present 9 = true) :
    processWindowEnd counts s = { s with cnv := { s.cnv with
      window := s.cnv.window + 1, settling := s.cnv.settling.map (fun k => k - 1), clocks := (nextWindow s).1
      fallback := (nextWindow s).2, third := if s.reg P.tlyPcPeriodSrc = 2 then (s.cnv.third + 1) % 3 else 0
      packets := s.cnv.packets ++ [⟨s.cnv.window, s.cnv.clocks, counts, s.cnv.fallback,
        s.cnv.settling.map fun k => decide (0 < k), s.now⟩] } } := by
  unfold processWindowEnd
  rw [if_neg (by simp [iron, power, clock])]
  have bridge' : ∀ c, (startWindow { s with cnv := c }).present 22 = true := fun _ => bridge
  have tally' : ∀ c, (startWindow { s with cnv := c }).present 9 = true := fun _ => tally
  simp only [bridge', tally', Bool.true_eq_false, if_false, if_true]
  rfl

/-- The registers that a result packet writes of a channel. -/
def channelPids (n : Nat) : List Nat := [P.tlyPcRaw n, P.tlyPcValue n, P.tlyPcFlags n, P.tlyPcTime n]

theorem updateChannel_keeps (p : PcPacket) (s : State) (n : Nat) : Keeps (channelPids n) s (updateChannel p s n) := by
  unfold updateChannel
  dsimp only
  split
  · exact Keeps.refl _ s
  · exact ((((Keeps.refl _ s).setRegI (by simp [channelPids]) _).setRegI (by simp [channelPids]) _).setReg
      (by simp [channelPids]) _).setReg (by simp [channelPids]) _

theorem updateChannel_result {p : PcPacket} {s : State} {n : Nat} (used : n < 16) (works : s.reg (P.tlyPcMode n) ≠ 0)
    (fits : p.ended < 2 ^ 64) : (updateChannel p s n).reg (P.tlyPcTime n) = p.ended ∧
      (updateChannel p s n).reg (P.tlyPcRaw n) = ofSigned (8 * sizeOf' (P.tlyPcRaw n)) (p.counts.getD n 0) := by
  have widths : ∀ k < 16, sizeOf' (P.tlyPcTime k) = 8 ∧ sizeOf' (P.tlyPcRaw k) = 4 := by decide +kernel
  obtain ⟨time, raw⟩ := widths n used
  unfold updateChannel
  simp only [works, if_false]
  refine ⟨?_, ?_⟩
  · exact reg_setReg_fits (by rw [time]; exact fits) _
  · have apart : P.tlyPcRaw n ≠ P.tlyPcTime n ∧ P.tlyPcRaw n ≠ P.tlyPcFlags n ∧ P.tlyPcRaw n ≠ P.tlyPcValue n := by
      simp only [P.tlyPcRaw, P.tlyPcTime, P.tlyPcFlags, P.tlyPcValue]
      omega
    obtain ⟨hTime, hFlags, hValue⟩ := apart
    rw [State.reg_setReg_ne _ _ hTime, State.reg_setReg_ne _ _ hFlags, State.reg_setRegI_ne _ _ hValue, State.setRegI, reg_setReg_fits]
    rw [raw, ofSigned]
    omega

theorem channelPids_apart (m n : Nat) :
    P.tlyPcMode n ∉ channelPids m ∧ (m ≠ n → P.tlyPcTime n ∉ channelPids m ∧ P.tlyPcRaw n ∉ channelPids m) := by
  simp only [channelPids, P.tlyPcMode, P.tlyPcTime, P.tlyPcRaw, P.tlyPcFlags, P.tlyPcValue, List.mem_cons, List.not_mem_nil, or_false]
  omega

/-- Each of the channels updated in turn has its own registers. -/
theorem updateChannels_result {p : PcPacket} (fits : p.ended < 2 ^ 64) {l : List Nat} (low : ∀ n ∈ l, n < 16) (once : l.Nodup) (s : State) :
    SameMem s (l.foldl (updateChannel p) s) ∧ (∀ n < 16, (l.foldl (updateChannel p) s).reg (P.tlyPcMode n) = s.reg (P.tlyPcMode n)) ∧
      (∀ n < 16, (n ∈ l → s.reg (P.tlyPcMode n) ≠ 0 → (l.foldl (updateChannel p) s).reg (P.tlyPcTime n) = p.ended ∧
          (l.foldl (updateChannel p) s).reg (P.tlyPcRaw n) = ofSigned (8 * sizeOf' (P.tlyPcRaw n)) (p.counts.getD n 0)) ∧
        (n ∉ l → (l.foldl (updateChannel p) s).reg (P.tlyPcTime n) = s.reg (P.tlyPcTime n) ∧
          (l.foldl (updateChannel p) s).reg (P.tlyPcRaw n) = s.reg (P.tlyPcRaw n))) := by
  induction l generalizing s with
  | nil => simp [SameMem]
  | cons m t ih =>
    obtain ⟨hm, ht⟩ := List.forall_mem_cons.mp low
    obtain ⟨fresh, rest⟩ := List.nodup_cons.mp once
    obtain ⟨mem, modes, results⟩ := ih ht rest (updateChannel p s m)
    have kept := updateChannel_keeps p s m
    have mode : ∀ n < 16, (updateChannel p s m).reg (P.tlyPcMode n) = s.reg (P.tlyPcMode n) :=
      fun n hn => kept.reg (channelPids_apart m n).1
    refine ⟨fun a => (mem a).trans (kept.mem a), fun n hn => (modes n hn).trans (mode n hn), fun n hn => ⟨fun listed works => ?_, fun other => ?_⟩⟩
    · obtain rfl | listed := List.mem_cons.mp listed
      · obtain ⟨time, raw⟩ := updateChannel_result (p := p) hn works fits
        exact ⟨((results n hn).2 fresh).1.trans time, ((results n hn).2 fresh).2.trans raw⟩
      · exact (results n hn).1 listed (by rwa [mode n hn])
    · obtain ⟨ne, other⟩ := not_or.mp (mt List.mem_cons.mpr other)
      obtain ⟨time, raw⟩ := (channelPids_apart m n).2 (Ne.symm ne)
      exact ⟨((results n hn).2 other).1.trans (kept.reg time), ((results n hn).2 other).2.trans (kept.reg raw)⟩

theorem updateChannels_packets (p : PcPacket) (l : List Nat) (s : State) : (l.foldl (updateChannel p) s).cnv.packets = s.cnv.packets := by
  refine foldl_keeps (fun s => s.cnv.packets) (fun n _ s => ?_) s
  unfold updateChannel
  dsimp only
  split <;> rfl

/-! ### Calibration (R295, R296) -/

theorem calAveraged_low {count : Int} {clocks : Nat} {s : State} (tally : s.present 9 = true) (some_ : clocks ≠ 0)
    (low : bits (s.reg P.tlyCalState) 7 0 = 1) :
    calAveraged count clocks s =
      setCal (bits (s.reg P.tlyCalState) 15 8) 2 { s with cnv := { s.cnv with calLow := (count, clocks) } } := by
  simp [calAveraged, tally, some_, low]

theorem setCal_state {code st : Nat} (hc : code < 256) (hs : st < 256) (s : State) : (setCal code st s).reg P.tlyCalState = code * 256 + st := by
  have width : sizeOf' P.tlyCalState = 4 := by decide +kernel
  rw [setCal, Nat.mod_eq_of_lt hc, reg_setReg_fits]
  rw [width]
  omega

/-- The entry at the front of the list stored in bank 0, its channel's remainder restarted. -/
def entryStored (e : CalEntry) (l : List CalEntry) (s : State) : State :=
  { s.setWord (calAddr e.code) e.word with
    cnv := { s.cnv with entries := l }, nrg := { s.nrg with rho := setAt s.nrg.rho e.code 0 } }

theorem entryStored_wrote {e : CalEntry} (fits : e.word < 2 ^ 128) {s : State} (canonical : Memory.wf s.mem = true) (l : List CalEntry) :
    WroteWord (calAddr e.code) e.word s (entryStored e l s) := by
  have stored : (entryStored e l s).mem = Memory.writeBytes s.mem (calAddr e.code) (toBytes 16 e.word) := by
    simp only [entryStored, State.setWord_mem]
  have regs : (entryStored e l s).regs = s.regs := by simp only [entryStored, State.setWord_regs]
  rw [← Nat.mod_eq_of_lt fits] at stored ⊢
  exact wroteWord_of_mem canonical stored regs

theorem entryAck_commits {e : CalEntry} {l : List CalEntry} {s : State} (front : s.cnv.entries = e :: l) (metering : e.code < 12)
    (commits : e.commits = true) : entryAck s = (entryStored e l s).setReg P.tlyCalState (e.code * 256 + 5) := by
  simp only [entryAck, entryStored, front, metering, commits, if_true, State.setWord]
  rfl

/-! ### Self-checks (R298, R299) -/

/-- IRN_MC_STATUS with the bit of a channel's self-check. -/
def statusJudged (m : Nat) (bad : Bool) (s : State) : State := s.setReg P.irnMcStatus (setBit (s.reg P.irnMcStatus) (12 + m) bad)

/-- The difference reported where the Tally is present. -/
def checkReported (m : Nat) (diff : Int) (s : State) : State := if s.present 9 then s.setRegI (P.tlyMcCheckPpm m) diff else s

theorem meteringCheck_judged {m : Nat} {s : State} (used : m < 12) (runs : meteringRuns s = true) (goes : s.cnv.aborted.contains m = false)
    (diff ref : Int) : meteringCheck m diff ref s =
      let t := checkReported m diff (statusJudged m (decide (500 < diff.natAbs ∨ 500 < ref.natAbs)) s)
      { t with cnv := { t.cnv with shadow := (m + 1) % 12 } } :=
  if_neg (by rw [runs, goes]; simpa using used)

theorem checkReported_status (m : Nat) (diff : Int) (s : State) : (checkReported m diff s).reg P.irnMcStatus = s.reg P.irnMcStatus := by
  unfold checkReported
  split
  · exact State.reg_setRegI_ne _ _ (by unfold P.irnMcStatus P.tlyMcCheckPpm; omega)
  · rfl

theorem statusJudged_bit {m : Nat} (used : m < 12) (bad : Bool) (s : State) :
    bitOf ((statusJudged m bad s).reg P.irnMcStatus) (12 + m) = bad := by
  have width : sizeOf' P.irnMcStatus = 4 := by decide +kernel
  exact bitOf_reg_setBit (by rw [width]; omega) _ bad s

theorem Keeps.checkReported {l : List Nat} {s t : State} (keeps : Keeps l s t) {m : Nat} (listed : P.tlyMcCheckPpm m ∈ l) (diff : Int) :
    Keeps l s (Machine.checkReported m diff t) := keeps_ite (keeps.setRegI listed diff) keeps

/-- CHECK raised where the Tally is present. -/
def checkFlagged (n : Nat) (s : State) : State :=
  if s.present 9 then s.setReg (P.tlyPcFlags n) (setBit (s.reg (P.tlyPcFlags n)) 7 true) else s

theorem checkFlagged_cnv (n : Nat) (s : State) : (checkFlagged n s).cnv = s.cnv := by
  unfold checkFlagged
  split <;> rfl

theorem checkFlagged_check {n : Nat} {s : State} (used : n < 16) (tally : s.present 9 = true) :
    bitOf ((checkFlagged n s).reg (P.tlyPcFlags n)) 7 = true := by
  have widths : ∀ k < 16, sizeOf' (P.tlyPcFlags k) = 1 := by decide +kernel
  rw [checkFlagged, if_pos tally, bitOf_reg_setBit (by rw [widths n used]; decide)]

theorem processCheck_judged {n : Nat} {s : State} (used : n < 16) (works : s.reg (P.tlyPcMode n) ≠ 0) (power : s.domOn 57 = true)
    (goes : s.cnv.aborted.contains (0x10 + n) = false) (short ref : Int) : processCheck n short ref s =
      let t := checkFlagged n s
      { t with cnv := { t.cnv with pcFail := setAt t.cnv.pcFail n (decide (100 < short.natAbs ∨ 500 < ref.natAbs)) } } :=
  if_neg (by rw [power, goes]; simpa [works] using used)

/-! ### The converter clock (R301) -/

/-- The judge of PLL_D started. -/
def pllDJudged (s : State) : State := startJudge 6 (if s.src 8 = 3 then s else s.setSrc 8 1)

theorem pllDJudged_leaves (s : State) : (pllDJudged s).regs = s.regs ∧ (pllDJudged s).mem = s.mem ∧ (pllDJudged s).cnv = s.cnv := by
  unfold pllDJudged
  split <;> exact ⟨rfl, rfl, rfl⟩

theorem pllLock_clockBack {s : State} (source : s.src 1 = 2) (enabled : s.clk.pllOn.getD 3 false = true) :
    pllLock 3 s = pllDJudged (converterClockBack s) :=
  if_neg (not_or.mpr ⟨by rw [enabled]; decide, not_not.mpr source⟩)

/-- SEQ counts the intervals missed, and bit 24 is cleared. -/
def clockBackNoted (s : State) : State :=
  { s with cnv := { s.cnv with seq := (s.cnv.seq + missedIntervals s) % 2 ^ 32, lostAt := none } }.setReg P.irnMcStatus
    (setBit (s.reg P.irnMcStatus) 24 false)

theorem converterClockBack_runs {s : State} (iron : s.pwr.ironOn = true) (lost : bitOf (s.reg P.irnMcStatus) 24 = true) :
    converterClockBack s = startWindow (clockBackNoted s) := if_pos ⟨iron, lost⟩

theorem startWindow_leaves (s : State) : (startWindow s).regs = s.regs ∧ (startWindow s).mem = s.mem ∧
    (startWindow s).cnv.lostAt = s.cnv.lostAt ∧ (startWindow s).cnv.seq = s.cnv.seq := ⟨rfl, rfl, rfl, rfl⟩

theorem sessionOpen_setReg {p : Nat} (other : P.wdnSesState ≠ p) (v : Nat) (s : State) : sessionOpen (s.setReg p v) = sessionOpen s := by
  rw [sessionOpen, sessionOpen, State.reg_setReg_ne _ _ other]

theorem mcStatus_width : sizeOf' P.irnMcStatus = 4 := by decide +kernel

/-- Settles O31, each clause by the equation of its operation. -/
theorem converterSequences : Obligations.ConverterSequences := by
  unfold Obligations.ConverterSequences
  refine ⟨?passed, ?lostFrame, ?mains, ?window, ?result, ?averaged, ?entry, ?metering, ?process, ?again, ?clockLost, ?clockBack⟩
  case passed =>
    intro s l runs bridge tally low flat
    refine completes_act rfl ((intervalEnd_uncrossed runs flat).trans (if_pos ⟨bridge, tally⟩)) ⟨?_, rfl, rfl, ?_, ?_, ?_⟩
    · have width : sizeOf' P.irnMcSeq = 4 := by decide +kernel
      exact (State.reg_setReg_ne _ _ (by decide)).trans (reg_setReg_fits (by rw [width]; exact low) s)
    · exact List.length_append
    · exact congrArg _ List.getLast?_concat
    · exact intervalCounted_keeps (by simp) l s
  case lostFrame =>
    intro s l runs tally flat
    refine completes_act rfl ((intervalEnd_uncrossed runs flat).trans (if_neg (by simp [tally]))) ⟨?_, rfl, ?_⟩
    · have same := (intervalCounted_keeps (l := [P.irnMcSeq, P.irnMcStatus]) (by simp) l s).reg (p := P.irnMcFramesLost) (by decide)
      rw [State.reg_count, same]
    · exact (intervalCounted_keeps (by simp) l s).count (by simp) 1
  case mains =>
    intro s tracked
    exact completes_act rfl (mainsLost_tracked tracked) ⟨reg_setReg_fits (by decide +kernel) _, rfl, keeps_setReg s _ _⟩
  case window =>
    intro s l iron power clock bridge tally
    exact completes_act rfl (processWindowEnd_passed iron power clock bridge tally) ⟨rfl, rfl, rfl, rfl, Keeps.refl _ s⟩
  case result =>
    intro s p l tally front fits
    have act : processResult s = (List.range 16).foldl (updateChannel p) { s with cnv := { s.cnv with packets := l } } := by
      simp [processResult, tally, front]
    obtain ⟨mem, -, results⟩ := updateChannels_result fits (l := List.range 16) (by simp) List.nodup_range { s with cnv := { s.cnv with packets := l } }
    refine completes_act rfl act ⟨updateChannels_packets p _ _, fun n hn works => ?_, mem⟩
    exact (results n hn).1 (List.mem_range.mpr hn) works
  case averaged =>
    intro s c n tally some_ low
    refine completes_act rfl (calAveraged_low tally some_ low) ⟨?_, rfl, keeps_setReg s _ _⟩
    exact setCal_state (Nat.mod_lt _ (by decide)) (by decide) _
  case entry =>
    intro s e l front canonical fits metering commits
    have width : sizeOf' P.tlyCalState = 4 := by decide +kernel
    obtain ⟨stored, others, same⟩ := entryStored_wrote fits canonical l
    refine completes_act rfl (entryAck_commits front metering commits) ⟨?_, ?_, ?_, ?_, fun p other => ?_, fun a out => ?_⟩
    · simp only [State.setReg_cnv, entryStored]
    · rw [calWord, State.setReg_word, stored]
    · simp only [State.setReg_nrg, entryStored]
    · exact reg_setReg_fits (by rw [width]; omega) _
    · exact (State.reg_setReg_ne _ _ (by simpa using other)).trans (same p (by simp))
    · rw [State.setReg_byte, others a out]
  case metering =>
    intro s m d r used runs goes
    refine completes_act rfl (meteringCheck_judged used runs goes d r) ⟨?_, rfl, ?_⟩
    · exact (congrArg (bitOf · _) (checkReported_status m d _)).trans (statusJudged_bit used _ s)
    · exact ((Keeps.refl _ s).setReg (by simp) _).checkReported (by simp) d
  case process =>
    intro s n d r used works power goes
    refine completes_act rfl (processCheck_judged used works power goes d r) ⟨?_, fun tally => ?_, ?_⟩
    · exact congrArg (fun c => setAt c.pcFail n _) (checkFlagged_cnv n s)
    · exact checkFlagged_check used tally
    · exact keeps_ite (keeps_setReg s _ _) (Keeps.refl _ s)
  case again => exact fun s => completes_of_eq rfl rfl
  case clockLost =>
    intro s iron closed
    have act : converterClockLost s = _ := if_pos iron
    have still : sessionOpen (converterClockLost s) = false := by
      rw [← closed, act]
      exact sessionOpen_setReg (by decide) _ _
    refine completes_act (t := converterClockLost s) rfl (if_neg (by simp [still])) ?_
    rw [act]
    exact ⟨bitOf_reg_setBit (by rw [mcStatus_width]; decide) _ true _, keeps_setReg s _ _⟩
  case clockBack =>
    intro s iron source enabled lost
    obtain ⟨judgedRegs, judgedMem, judgedCnv⟩ := pllDJudged_leaves (converterClockBack s)
    obtain ⟨windowRegs, windowMem, lostAt, seq⟩ := startWindow_leaves (clockBackNoted s)
    rw [converterClockBack_runs iron lost] at judgedRegs judgedMem judgedCnv
    have same := keeps_of_eq (judgedRegs.trans windowRegs) (judgedMem.trans windowMem)
    refine completes_act rfl ((pllLock_clockBack source enabled).trans (by rw [converterClockBack_runs iron lost])) ⟨?_, ?_, ?_, ?_⟩
    · rw [same.reg (by simp), clockBackNoted, bitOf_reg_setBit (by rw [mcStatus_width]; decide)]
    · rw [judgedCnv, lostAt, clockBackNoted, State.setReg_cnv]
    · rw [judgedCnv, seq, clockBackNoted, State.setReg_cnv]
    · exact (keeps_setReg s P.irnMcStatus _).trans same

end Sys2Proof.Machine
end

section
/-!
SUPPORT. What the Callboard and the prompt book leave alone of the Tally's state and of memory (spec/05_callboard.md R123 to R131;
spec/06_mram_and_prompt_book.md R155 to R163).
-/

namespace Sys2Proof.Machine

open Sys2Proof

/-! ### Memory under the Callboard's operations -/

theorem offerEvent_mem (s : State) (island number : Nat) : (s.offerEvent island number).mem = s.mem := by
  unfold State.offerEvent
  split <;> rfl

theorem storeNotice_mem (n init word : Nat) (s : State) : (storeNotice n init word s).mem = s.mem := by
  simp only [storeNotice, offerEvent_mem, apply_ite State.mem, State.count_mem, State.setReg_mem, State.setChan_mem, ite_self]

theorem postNotice_mem (n init word beats byteEn : Nat) (s : State) : (postNotice n init word beats byteEn s).2.mem = s.mem := by
  simp only [postNotice, apply_ite Prod.snd, apply_ite State.mem, storeNotice_mem, State.count_mem, ite_self]

theorem offerRetracts_mem (n : Nat) (s : State) : (offerRetracts n s).mem = s.mem := by
  unfold offerRetracts
  split
  · rfl
  · simp only [apply_ite State.mem, postNotice_mem, ite_self]

theorem cancelWaiting_mem (n sender tag result : Nat) (s : State) : (cancelWaiting n sender tag result s).mem = s.mem := by
  simp only [cancelWaiting, retract, apply_ite State.mem, offerRetracts_mem, ite_self]

theorem recordResult_mem (n result code : Nat) (s : State) : (recordResult n result code s).mem = s.mem := by
  unfold recordResult
  dsimp only
  split
  · simp only [cancelWaiting_mem, offerEvent_mem, State.setReg_mem, State.setChan_mem]
  · simp only [offerRetracts_mem, cancelWaiting_mem, offerEvent_mem, State.setReg_mem, State.setChan_mem]

theorem readNotice_mem (n init : Nat) (s : State) : (readNotice n init s).2.2.mem = s.mem := by
  simp only [readNotice, apply_ite (fun x : Nat × Nat × State => x.2.2.mem), State.setChan_mem, ite_self]

theorem deliverNotice_mem (n : Nat) (delivered : Bool) (s : State) : (deliverNotice n delivered s).mem = s.mem := by
  simp only [deliverNotice, apply_ite State.mem, recordResult_mem, State.setChan_mem, ite_self]

theorem ackNotice_mem (n init code : Nat) (s : State) : (ackNotice n init code s).2.mem = s.mem := by
  simp only [ackNotice, apply_ite Prod.snd, apply_ite State.mem, recordResult_mem, ite_self]

theorem relay_mem (n sender kind code : Nat) (s : State) : (relay n sender kind code s).mem = s.mem := by
  have drawn : (s.drawBits 16).2.mem = s.mem := rfl
  simp only [relay, apply_ite State.mem, ackNotice_mem, deliverNotice_mem, readNotice_mem, postNotice_mem, drawn, ite_self]

theorem sameMem_of_mem {s t : State} (mem : t.mem = s.mem) : SameMem s t := fun a => congrArg (fun m => Memory.read m a) mem

/-! ### Commits -/

theorem commit_event_reg {q : Nat} (other : q ∉ eventPids) (j : JReq) (s : State) : (commit j s).2.reg q = s.reg q := by
  unfold commit
  split
  · rw [commitOn_event_reg other, ensureReady_reg other]
  · rw [keeperDown_event_reg other, commitOn_event_reg other, keeperUp_reg other]

theorem nrg_of_apart {s t : State} (h : t.apart = s.apart) : t.nrg = s.nrg := by
  have parts : t.apart.nrg = s.apart.nrg := congrArg State.nrg h
  exact parts

theorem offEvent_nrg : OffEvent State.nrg where
  parts := fun _ _ _ _ _ _ _ => rfl
  regs := fun _ _ _ _ => rfl
  records := fun s typ payload => nrg_of_apart (record_apart typ payload s)

section
variable {s : State} (runs : s.managerRuns = true) (board : s.cbdOn = true)
include runs board

theorem viaManager_result (j : JReq) : (viaManager j s).1 = (commit j s).1 := by simp [viaManager, runs, board]

end

theorem viaManager_keeps {β : Type} {g : State → β} (event : OffEvent g) (commits : ∀ j s, g (commit j s).2 = g s) (j : JReq) (s : State) :
    g (viaManager j s).2 = g s := by
  simp only [viaManager, apply_ite Prod.snd, apply_ite g, event.relay, commits, ite_self]

theorem viaManager_nrg (j : JReq) (s : State) : (viaManager j s).2.nrg = s.nrg :=
  viaManager_keeps offEvent_nrg (fun j s => nrg_of_apart (commit_apart j s)) j s

theorem viaManager_reg {q : Nat} (other : q ∉ eventPids) (j : JReq) (s : State) : (viaManager j s).2.reg q = s.reg q :=
  viaManager_keeps (offEvent_reg other) (fun j s => commit_event_reg other j s) j s

end Sys2Proof.Machine
end

section
/-!
PROOF. O32: the Tally's frames, supporting values, seams, commits and restoration (spec/12_energy.md R304 to R318).
-/

namespace Sys2Proof.Machine

open Sys2Proof

theorem limit32_bounds (i : Int) : -2147483648 ≤ limit32 i ∧ limit32 i < 2147483648 := by
  unfold limit32
  omega

theorem ensureTally_ready {s : State} (ready : s.nrg.ready = true) : ensureTally s = s := if_pos ready

/-! ### Frames (R288, R311) -/

theorem spreadCounts_one (sums : List Int) : spreadCounts sums 1 0 = sums := by simp [spreadCounts]

/-- The counts of the interval that a frame closes right after the last one processed. -/
def frameCounts (f : McFrame) (old : List Nat) : List Int :=
  (List.range 12).map fun i => toSigned 24 (f.totals.getD i 0 + 2 ^ 24 - old.getD i 0)

/-- The frame of the next interval closes that interval and no other. -/
theorem frameGap_one {f : McFrame} (fits : f.seq < 2 ^ 32) (old : List Nat) (s : State) :
    frameGap f 1 old s = s.setNrg (s.nrg.interval (tallyCoefs s) (tallyModes s) f.seq (frameCounts f old)) := by
  have first : (f.seq + 2 ^ 32 + 1 - 1 + 0) % 2 ^ 32 = f.seq := by omega
  simp only [frameGap, NrgState.intervals, spreadCounts_one, first, frameCounts]
  rfl

/-- A frame noted as the last one processed, less the crossing that it tells of. -/
def frameNoted (f : McFrame) (s : State) : State :=
  (s.setNrg { s.nrg with
    last := some (f.seq, f.totals), arrival := ((f.seq + 1) % 2 ^ 32, f.arrived)
    anchor := if s.nrg.last.isNone then ((f.seq + 1) % 2 ^ 32, f.arrived) else s.nrg.anchor
    overAt := (List.range 3).map fun x =>
      if (setChannels x).any fun m => bitOf f.overBits m then some s.mono else s.nrg.overAt.getD x none }).setReg P.tlySeq f.seq

theorem adoptFrame_eq (f : McFrame) (s : State) : adoptFrame f s =
    if f.cross then (frameNoted f s).setReg P.tlyMainsCross (clockTime (frameNoted f s).nrg.anchor f.seq f.crossAt)
    else frameNoted f s := rfl

/-- Noting a crossing moves one register of the Tally. -/
theorem crossNoted_leaves (c : Bool) (at_ : Nat) (u : State) :
    (if c then u.setReg P.tlyMainsCross at_ else u).nrg = u.nrg ∧ (if c then u.setReg P.tlyMainsCross at_ else u).cnv = u.cnv ∧
      Keeps [P.tlyMainsCross] u (if c then u.setReg P.tlyMainsCross at_ else u) := by
  split
  · exact ⟨State.setReg_nrg .., State.setReg_cnv .., keeps_setReg u _ _⟩
  · exact ⟨rfl, rfl, Keeps.refl _ u⟩

theorem adoptFrame_leaves (f : McFrame) (s : State) :
    (adoptFrame f s).nrg = (frameNoted f s).nrg ∧ (adoptFrame f s).cnv = (frameNoted f s).cnv ∧
      Keeps [P.tlyMainsCross] (frameNoted f s) (adoptFrame f s) := by
  rw [adoptFrame_eq]
  exact crossNoted_leaves ..

theorem Keeps.setNrg {l : List Nat} {s t : State} (keeps : Keeps l s t) (n : NrgState) : Keeps l s (t.setNrg n) := keeps

theorem setNrg_nrg (n : NrgState) (s : State) : (s.setNrg n).nrg = n := rfl

theorem setNrg_regI (n : NrgState) (s : State) (p : Nat) : (s.setNrg n).regI p = s.regI p := rfl

theorem setNrg_cnv (n : NrgState) (s : State) : (s.setNrg n).cnv = s.cnv := rfl

theorem frameNoted_nrg (f : McFrame) (s : State) :
    (frameNoted f s).nrg.sets = s.nrg.sets ∧ (frameNoted f s).nrg.last = some (f.seq, f.totals) := by
  simp only [frameNoted, State.setReg_nrg, setNrg_nrg, and_self]

theorem frameNoted_cnv (f : McFrame) (s : State) : (frameNoted f s).cnv = s.cnv := by
  simp only [frameNoted, State.setReg_cnv, setNrg_cnv]

theorem frameNoted_keeps (f : McFrame) (s : State) : Keeps [P.tlySeq] s (frameNoted f s) :=
  Keeps.setReg (Keeps.setNrg (Keeps.refl _ s) _) (by simp) _

theorem frameNoted_seq {f : McFrame} (fits : f.seq < 2 ^ 32) (s : State) : (frameNoted f s).reg P.tlySeq = f.seq := by
  have width : sizeOf' P.tlySeq = 4 := by decide +kernel
  exact reg_setReg_fits (by rw [width]; exact fits) _

theorem adoptFrame_adopts {f : McFrame} (fits : f.seq < 2 ^ 32) (s : State) :
    (adoptFrame f s).nrg.sets = s.nrg.sets ∧ (adoptFrame f s).nrg.last = some (f.seq, f.totals) ∧ (adoptFrame f s).reg P.tlySeq = f.seq ∧
      (adoptFrame f s).cnv = s.cnv ∧ Keeps [P.tlySeq, P.tlyMainsCross] s (adoptFrame f s) := by
  obtain ⟨nrg, cnv, mains⟩ := adoptFrame_leaves f s
  obtain ⟨sets, last⟩ := frameNoted_nrg f s
  rw [nrg, cnv, sets, last, frameNoted_cnv, mains.reg (by decide), frameNoted_seq fits]
  exact ⟨rfl, rfl, rfl, rfl, (frameNoted_keeps f s).trans mains⟩

/-- The oldest frame taken from the queue. -/
def frameTaken (l : List McFrame) (s : State) : State := { s with cnv := { s.cnv with frames := l } }

theorem frameTaken_leaves (l : List McFrame) (s : State) : (frameTaken l s).nrg = s.nrg ∧ (frameTaken l s).cnv.frames = l ∧
    tallyCoefs (frameTaken l s) = tallyCoefs s ∧ tallyModes (frameTaken l s) = tallyModes s := ⟨rfl, rfl, rfl, rfl⟩

theorem Keeps.frameTaken {k : List Nat} {s t : State} (keeps : Keeps k s t) (l : List McFrame) : Keeps k s (Machine.frameTaken l t) := keeps

theorem frameReceive_next {s : State} {f : McFrame} {l : List McFrame} {q : Nat} {old : List Nat} (tally : s.present 9 = true)
    (ready : s.nrg.ready = true) (front : s.cnv.frames = f :: l) (last : s.nrg.last = some (q, old)) (next : f.seq = q + 1) :
    frameReceive s = adoptFrame f (frameGap f 1 old (frameTaken l s)) := by
  have gap : (q + 1 + 2 ^ 32 - q) % 2 ^ 32 = 1 := by omega
  simp only [frameReceive, tally, ensureTally_ready ready, front, last, next, gap, Bool.true_eq_false, if_false]
  rfl

/-! ### Supporting values (R310) -/

theorem supportSet_nrg (s : State) (x : Nat) : (supportSet s x).nrg.sums = s.nrg.sums ∧ (supportSet s x).nrg.sumN = s.nrg.sumN ∧
    (supportSet s x).nrg.sets = s.nrg.sets := by
  simp only [supportSet, State.setRegI, State.setReg_nrg, setNrg_nrg, and_self]

theorem Keeps.supportSet {l : List Nat} {s t : State} (keeps : Keeps l s t) {x : Nat} (listed : P.tlyOutV x ∈ l ∧ P.tlyOutI x ∈ l) :
    Keeps l s (Machine.supportSet t x) := ((keeps.setNrg _).setRegI listed.1 _).setRegI listed.2 _

theorem supportSet_means {x : Nat} (low : x < 2) (s : State) :
    (supportSet s x).regI (P.tlyOutV x) = limit32 (meanMicro (s.nrg.sums.getD (2 * x) 0) s.nrg.sumN) ∧
      (supportSet s x).regI (P.tlyOutI x) = limit32 (meanMicro (s.nrg.sums.getD (2 * x + 1) 0) s.nrg.sumN) := by
  have widths : ∀ x < 2, sizeOf' (P.tlyOutV x) = 4 ∧ sizeOf' (P.tlyOutI x) = 4 := by decide +kernel
  obtain ⟨volts, amps⟩ := widths x low
  have apart : P.tlyOutV x ≠ P.tlyOutI x := by unfold P.tlyOutV P.tlyOutI; omega
  refine ⟨?_, ?_⟩
  · exact (regI_congr (State.reg_setRegI_ne _ _ apart)).trans (regI_setRegI_four volts (limit32_bounds _).1 (limit32_bounds _).2 _)
  · exact regI_setRegI_four amps (limit32_bounds _).1 (limit32_bounds _).2 _

/-- The power of one set. -/
def setPower (s : State) (x : Nat) : State := s.setRegI (P.tlyOutP x) (powerOf (powerChange s x) s.nrg.sumN)

theorem Keeps.setPower {l : List Nat} {s t : State} (keeps : Keeps l s t) {x : Nat} (listed : P.tlyOutP x ∈ l) :
    Keeps l s (Machine.setPower t x) := keeps.setRegI listed _

theorem setPower_nrg (s : State) (x : Nat) : (setPower s x).nrg = s.nrg := State.setReg_nrg ..

/-- The values of the millisecond update, before its sums begin again. -/
def supported (s : State) : State := setPower (setPower (setPower (supportSet (supportSet s 0) 1) 0) 1) 2

theorem supportingUpdate_eq {s : State} (tally : s.present 9 = true) (some : s.nrg.sumN ≠ 0) : supportingUpdate s =
    (supported s).setNrg { (supported s).nrg with sums := List.replicate 4 0, sumN := 0, bases := (supported s).nrg.sets } :=
  if_neg (by simp [tally, some])

theorem supported_sets (s : State) : (supported s).nrg.sets = s.nrg.sets := by
  simp only [supported, setPower_nrg, supportSet_nrg]

theorem supported_keeps (s : State) : Keeps [P.tlyOutV 0, P.tlyOutI 0, P.tlyOutV 1, P.tlyOutI 1, P.tlyOutP 0, P.tlyOutP 1, P.tlyOutP 2]
    s (supported s) :=
  ((((Keeps.refl _ s).supportSet (by decide)).supportSet (by decide)).setPower (by decide) |>.setPower (by decide)).setPower (by decide)

/-- After the first set come the second and the powers. -/
theorem supported_rest (s : State) : Keeps [P.tlyOutV 1, P.tlyOutI 1, P.tlyOutP 0, P.tlyOutP 1, P.tlyOutP 2] (supportSet s 0) (supported s) :=
  (((Keeps.refl _ (supportSet s 0)).supportSet (by decide)).setPower (by decide) |>.setPower (by decide)).setPower (by decide)

/-- After the second set come the powers. -/
theorem supported_powers (s : State) : Keeps [P.tlyOutP 0, P.tlyOutP 1, P.tlyOutP 2] (supportSet (supportSet s 0) 1) (supported s) :=
  (((Keeps.refl _ (supportSet (supportSet s 0) 1)).setPower (by decide)).setPower (by decide)).setPower (by decide)

theorem supported_means (s : State) {x : Nat} (low : x < 2) :
    (supported s).regI (P.tlyOutV x) = limit32 (meanMicro (s.nrg.sums.getD (2 * x) 0) s.nrg.sumN) ∧
      (supported s).regI (P.tlyOutI x) = limit32 (meanMicro (s.nrg.sums.getD (2 * x + 1) 0) s.nrg.sumN) := by
  obtain rfl | rfl : x = 0 ∨ x = 1 := by omega
  · obtain ⟨volts, amps⟩ := supportSet_means low s
    exact ⟨(regI_congr ((supported_rest s).reg (by decide))).trans volts, (regI_congr ((supported_rest s).reg (by decide))).trans amps⟩
  · obtain ⟨volts, amps⟩ := supportSet_means low (supportSet s 0)
    obtain ⟨sums, count, -⟩ := supportSet_nrg s 0
    rw [sums, count] at volts amps
    exact ⟨(regI_congr ((supported_powers s).reg (by decide))).trans volts, (regI_congr ((supported_powers s).reg (by decide))).trans amps⟩

/-! ### The RMS values of the phases (R310) -/

/-- Three values written after the sums leave the sums. -/
theorem setRegI_three_nrg (n : NrgState) (p q r : Nat) (i j k : Int) (s : State) :
    ((((s.setNrg n).setRegI p i).setRegI q j).setRegI r k).nrg = n := rfl

theorem phaseSet_nrg (s : State) (p : Nat) : (phaseSet s p).nrg.squares = s.nrg.squares ∧ (phaseSet s p).nrg.squareN = s.nrg.squareN ∧
    (phaseSet s p).nrg.phases = s.nrg.phases := by
  unfold phaseSet
  dsimp only
  rw [setRegI_three_nrg]
  exact ⟨rfl, rfl, rfl⟩

theorem Keeps.phaseSet {l : List Nat} {s t : State} (keeps : Keeps l s t) {p : Nat}
    (listed : P.tlyPhVRms p ∈ l ∧ P.tlyPhIRms p ∈ l ∧ P.tlyPhP p ∈ l) : Keeps l s (Machine.phaseSet t p) :=
  (((keeps.setNrg _).setRegI listed.1 _).setRegI listed.2.1 _).setRegI listed.2.2 _

theorem phaseSet_rms {p : Nat} (low : p < 3) (s : State) :
    (phaseSet s p).regI (P.tlyPhVRms p) = limit32 (rmsMicro (s.nrg.squares.getD p 0) s.nrg.squareN) ∧
      (phaseSet s p).regI (P.tlyPhIRms p) = limit32 (rmsMicro (s.nrg.squares.getD (3 + p) 0) s.nrg.squareN) := by
  have widths : ∀ p < 3, sizeOf' (P.tlyPhVRms p) = 4 ∧ sizeOf' (P.tlyPhIRms p) = 4 := by decide +kernel
  obtain ⟨volts, amps⟩ := widths p low
  have apart : P.tlyPhVRms p ≠ P.tlyPhIRms p ∧ P.tlyPhVRms p ≠ P.tlyPhP p ∧ P.tlyPhIRms p ≠ P.tlyPhP p := by
    unfold P.tlyPhVRms P.tlyPhIRms P.tlyPhP; omega
  obtain ⟨apartI, apartP, apartIP⟩ := apart
  refine ⟨?_, ?_⟩
  · exact (regI_congr ((State.reg_setRegI_ne _ _ apartP).trans (State.reg_setRegI_ne _ _ apartI))).trans
      (regI_setRegI_four volts (limit32_bounds _).1 (limit32_bounds _).2 _)
  · exact (regI_congr (State.reg_setRegI_ne _ _ apartIP)).trans (regI_setRegI_four amps (limit32_bounds _).1 (limit32_bounds _).2 _)

/-- The state of an RMS update before its first phase. -/
def rmsBegun (s : State) : State := s.setNrg { s.nrg with sat := setAt s.nrg.sat 2 false }

/-- The three phases of an RMS update. -/
def phasesSet (s : State) : State := phaseSet (phaseSet (phaseSet (rmsBegun s) 0) 1) 2

/-- The input's RMS value. -/
def inputNoted (s : State) : State := s.setRegI P.tlyInRms (limit32 (rmsMicro (s.nrg.squares.getD 6 0) s.nrg.squareN))

/-- The mains frequency where the mains is tracked. -/
def mainsNoted (s : State) : State :=
  if s.reg P.irnMainsState = 1 then s.setReg P.tlyFreq (200000000000 / s.reg P.irnMainsPeriod) else s

theorem phaseUpdate_eq {s : State} (tally : s.present 9 = true) (some : s.nrg.squareN ≠ 0) : phaseUpdate s =
    (mainsNoted (inputNoted (phasesSet s))).setNrg { (mainsNoted (inputNoted (phasesSet s))).nrg with
      squares := List.replicate 7 0, squareN := 0, phBases := (mainsNoted (inputNoted (phasesSet s))).nrg.phases } :=
  if_neg (by simp [tally, some])

theorem inputNoted_nrg (s : State) : (inputNoted s).nrg = s.nrg := State.setReg_nrg ..

theorem mainsNoted_nrg (s : State) : (mainsNoted s).nrg = s.nrg := by
  unfold mainsNoted
  split
  · exact State.setReg_nrg ..
  · rfl

theorem Keeps.inputNoted {l : List Nat} {s t : State} (keeps : Keeps l s t) (listed : P.tlyInRms ∈ l) :
    Keeps l s (Machine.inputNoted t) := keeps.setRegI listed _

theorem Keeps.mainsNoted {l : List Nat} {s t : State} (keeps : Keeps l s t) (listed : P.tlyFreq ∈ l) : Keeps l s (Machine.mainsNoted t) := by
  unfold Machine.mainsNoted
  split
  · exact keeps.setReg listed _
  · exact keeps

/-- What an RMS update still moves after the phases below `p`. -/
def rmsLeft (p : Nat) : List Nat :=
  ((List.range 3).drop p).flatMap (fun p => [P.tlyPhVRms p, P.tlyPhIRms p, P.tlyPhP p]) ++ [P.tlyInRms, P.tlyFreq]

theorem phasesSet_phases (s : State) : (phasesSet s).nrg.phases = s.nrg.phases := by
  simp only [phasesSet, phaseSet_nrg]
  rfl

theorem rmsUpdate_keeps (s : State) : Keeps (rmsLeft 0) s (mainsNoted (inputNoted (phasesSet s))) := by
  unfold phasesSet rmsBegun
  exact (((Keeps.refl _ s).setNrg _).phaseSet (by decide) |>.phaseSet (by decide)).phaseSet (by decide) |>.inputNoted (by decide)
    |>.mainsNoted (by decide)

theorem phaseUpdate_rms (s : State) {p : Nat} (low : p < 3) :
    (mainsNoted (inputNoted (phasesSet s))).regI (P.tlyPhVRms p) = limit32 (rmsMicro (s.nrg.squares.getD p 0) s.nrg.squareN) ∧
      (mainsNoted (inputNoted (phasesSet s))).regI (P.tlyPhIRms p) = limit32 (rmsMicro (s.nrg.squares.getD (3 + p) 0) s.nrg.squareN) := by
  have sums : ∀ u : State, (phaseSet u 0).nrg.squares = u.nrg.squares ∧ (phaseSet u 0).nrg.squareN = u.nrg.squareN :=
    fun u => ⟨(phaseSet_nrg u 0).1, (phaseSet_nrg u 0).2.1⟩
  obtain rfl | rfl | rfl : p = 0 ∨ p = 1 ∨ p = 2 := by omega
  · obtain ⟨volts, amps⟩ := phaseSet_rms low (rmsBegun s)
    have rest : Keeps (rmsLeft 1) (phaseSet (rmsBegun s) 0) (mainsNoted (inputNoted (phasesSet s))) :=
      ((Keeps.refl _ _).phaseSet (by decide)).phaseSet (by decide) |>.inputNoted (by decide) |>.mainsNoted (by decide)
    exact ⟨(regI_congr (rest.reg (by decide))).trans volts, (regI_congr (rest.reg (by decide))).trans amps⟩
  · obtain ⟨volts, amps⟩ := phaseSet_rms low (phaseSet (rmsBegun s) 0)
    rw [(phaseSet_nrg _ 0).1, (phaseSet_nrg _ 0).2.1] at volts amps
    have rest : Keeps (rmsLeft 2) (phaseSet (phaseSet (rmsBegun s) 0) 1) (mainsNoted (inputNoted (phasesSet s))) :=
      ((Keeps.refl _ _).phaseSet (by decide)).inputNoted (by decide) |>.mainsNoted (by decide)
    exact ⟨(regI_congr (rest.reg (by decide))).trans volts, (regI_congr (rest.reg (by decide))).trans amps⟩
  · obtain ⟨volts, amps⟩ := phaseSet_rms low (phaseSet (phaseSet (rmsBegun s) 0) 1)
    rw [(phaseSet_nrg _ 1).1, (phaseSet_nrg _ 1).2.1, (phaseSet_nrg _ 0).1, (phaseSet_nrg _ 0).2.1] at volts amps
    have rest : Keeps (rmsLeft 3) (phasesSet s) (mainsNoted (inputNoted (phasesSet s))) := (Keeps.refl _ _).inputNoted (by decide) |>.mainsNoted (by decide)
    exact ⟨(regI_congr (rest.reg (by decide))).trans volts, (regI_congr (rest.reg (by decide))).trans amps⟩

/-! ### Seams, commits and the restoration (R313 to R318) -/

theorem seamReceive_eq {s : State} (tally : s.present 9 = true) (ready : s.nrg.ready = true) (ts a b : Nat) : ∃ u : State,
    u.nrg = s.nrg ∧ u.mem = s.mem ∧ seamReceive ts a b s = u.setNrg { u.nrg with seams := insertSeam ⟨ts, a % 8, b % 8⟩ u.nrg.seams } := by
  refine ⟨deliverNotice 9 true (readNotice 9 0x09 s).2.2, ?_, ?_, ?_⟩
  · rw [offEvent_nrg.deliverNotice, offEvent_nrg.readNotice]
  · rw [deliverNotice_mem, readNotice_mem]
  · rw [seamReceive, if_neg (by simp [tally]), ensureTally_ready ready]

/-- An energy record's commit noted. -/
def commitNoted (at_ : Nat) (s : State) : State := (s.setNrg { s.nrg with flags := 0 }).setReg P.tlyLastCommit at_

theorem commitNoted_nrg (at_ : Nat) (s : State) : (commitNoted at_ s).nrg.flags = 0 := rfl

theorem energyCommit_eq {s : State} {flags : Nat}
    (accepted : (viaManager ⟨0x20, boundaryTime s, energyPayload s (flags ||| s.nrg.flags), false⟩ s).1 = true) : ∃ j u,
    energyCommit flags s = (viaManager j (commitNoted (boundaryTime s) u)).2 := ⟨_, _, if_pos accepted⟩

/-- An energy record accepted takes the pending flags with it and gives the commit's time. -/
theorem energyCommit_accepted {s : State} {flags : Nat}
    (accepted : (viaManager ⟨0x20, boundaryTime s, energyPayload s (flags ||| s.nrg.flags), false⟩ s).1 = true)
    (fits : boundaryTime s < 2 ^ 64) :
    (energyCommit flags s).reg P.tlyLastCommit = boundaryTime s ∧ (energyCommit flags s).nrg.flags = 0 := by
  have width : sizeOf' P.tlyLastCommit = 8 := by decide +kernel
  obtain ⟨j, u, eq⟩ := energyCommit_eq accepted
  rw [eq, viaManager_reg (by decide), viaManager_nrg, commitNoted_nrg]
  exact ⟨reg_setReg_fits (by rw [width]; exact fits) _, rfl⟩

/-- The Tally as it stands without records. -/
def tallyAfresh (s : State) : NrgState :=
  { NrgState.reset with
    ready := true, rate := rateNow s, bases := NrgState.reset.sets, phBases := NrgState.reset.phases, flags := 0
    seams := [⟨s.now, rateNow s, rateNow s⟩] }

theorem tallyRestore_empty {s : State} (none : keptPairWords s = []) : tallyRestore s = relay 9 0x0C 3 0 (s.setNrg (tallyAfresh s)) := by
  simp only [tallyRestore, none, if_true, ne_eq, not_true_eq_false, decide_false, Bool.false_and, if_false, Bool.false_eq_true]
  rfl

/-- Settles O32, command by command. -/
theorem tallyUpdates : Obligations.TallyUpdates := by
  unfold Obligations.TallyUpdates
  refine ⟨?frame, ?support, ?rms, ?anchor, ?seam, ?commit, ?restore⟩
  case frame =>
    intro s f l q old tally ready front last next fits
    refine completes_act rfl (frameReceive_next tally ready front last next) ?_
    rw [frameGap_one fits]
    obtain ⟨nrg, frames, coefs, modes⟩ := frameTaken_leaves l s
    rw [nrg, coefs, modes]
    obtain ⟨sets, lastOne, seq, cnv, keeps⟩ := adoptFrame_adopts fits
      ((frameTaken l s).setNrg (s.nrg.interval (tallyCoefs s) (tallyModes s) f.seq (frameCounts f old)))
    rw [sets, lastOne, seq, cnv, setNrg_nrg, setNrg_cnv, frames]
    exact ⟨rfl, rfl, rfl, rfl, (((Keeps.refl [] s).frameTaken l).setNrg _).trans keeps⟩
  case support =>
    intro s tally some
    refine completes_act rfl (supportingUpdate_eq tally some) ?_
    simp only [setNrg_regI, setNrg_nrg]
    exact ⟨fun x low => supported_means s low, trivial, supported_sets s, (supported_keeps s).setNrg _⟩
  case rms =>
    intro s tally some
    refine completes_act rfl (phaseUpdate_eq tally some) ?_
    refine ⟨fun p low => ?_, rfl, ?_, ?_⟩
    · rw [setNrg_regI, setNrg_regI]
      exact phaseUpdate_rms s low
    · rw [setNrg_nrg, mainsNoted_nrg, inputNoted_nrg, phasesSet_phases]
    · exact ((rmsUpdate_keeps s).setNrg _).mem
  case anchor =>
    intro s tally last
    refine completes_act rfl (if_neg ?_) rfl
    simp [tally, Option.isNone_iff_eq_none, ← Option.isSome_iff_ne_none, last]
  case seam =>
    intro s ts a b tally ready
    obtain ⟨u, nrg, mem, eq⟩ := seamReceive_eq tally ready ts a b
    refine completes_act rfl eq ⟨?_, sameMem_of_mem mem⟩
    rw [nrg, setNrg_nrg]
  case commit =>
    intro s tally ready runs board accepted fits
    refine completes_act rfl rfl ?_
    rw [tallyCommit, if_neg (by simp [tally]), ensureTally_ready ready]
    refine energyCommit_accepted ?_ fits
    rw [Nat.zero_or, viaManager_result runs board]
    exact accepted
  case restore =>
    intro s tally none
    refine completes_act rfl ((if_pos tally).trans (tallyRestore_empty none)) ?_
    rw [offEvent_nrg.relay, setNrg_nrg]
    exact ⟨rfl, rfl, rfl, rfl, rfl, sameMem_of_mem (relay_mem ..)⟩

end Sys2Proof.Machine
end

section
/-!
SUPPORT. Readings that neither the Callboard's events nor a commit changes, and the tamper log (spec/06_mram_and_prompt_book.md R155 to
R163; spec/13_box_office.md R346).
-/

namespace Sys2Proof.Machine

open Sys2Proof

/-! ### Readings outside the prompt book -/

/-- A reading that depends on nothing that an event, a commit or the prompt book's own notes change. -/
structure OffBook {β : Type} (g : State → β) : Prop extends OffEvent g where
  commits : ∀ (j : JReq) (s : State), g (commit j s).2 = g s
  book : ∀ (s : State) jnl, g { s with jnl := jnl } = g s

theorem offBook_reg {q : Nat} (other : q ∉ eventPids) : OffBook fun s => s.reg q where
  toOffEvent := offEvent_reg other
  commits := fun j s => commit_event_reg other j s
  book := fun _ _ => rfl

/-- A reading of the parts that a commit leaves alone. -/
theorem offBook_of_apart {β : Type} {g : State → β} (read : ∀ s : State, g s = g s.apart)
    (parts : ∀ (s : State) freeCtr fab pwr cbd iron sent,
      g { s with freeCtr := freeCtr, fab := fab, pwr := pwr, cbd := cbd, iron := iron, sent := sent } = g s) : OffBook g where
  parts := parts
  regs := fun s p v _ => by rw [read, setReg_apart, ← read]
  records := fun s typ payload => by rw [read, record_apart, ← read]
  commits := fun j s => by rw [read, commit_apart, ← read]
  book := fun s jnl => by rw [read, read s]; rfl

theorem offBook_box : OffBook State.box := offBook_of_apart (fun _ => rfl) fun _ _ _ _ _ _ _ => rfl

theorem offBook_nrg : OffBook State.nrg := offBook_of_apart (fun _ => rfl) fun _ _ _ _ _ _ _ => rfl

theorem offBook_mono : OffBook State.mono := offBook_of_apart (fun _ => rfl) fun _ _ _ _ _ _ _ => rfl

theorem offBook_now : OffBook State.now := offBook_of_apart (fun _ => rfl) fun _ _ _ _ _ _ _ => rfl

section
variable {β : Type} {g : State → β} (h : OffBook g)
include h

theorem OffBook.post (n sender tag kind length addr : Nat) (s : State) : g (post n sender tag kind length addr s) = g s :=
  h.toOffEvent.postNotice ..

theorem OffBook.drawBits (w : Nat) (s : State) : g (s.drawBits w).2 = g s := h.parts s ..

theorem OffBook.viaManager (j : JReq) (s : State) : g (viaManager j s).2 = g s := viaManager_keeps h.toOffEvent h.commits j s

theorem OffBook.setJournalled (p v : Nat) (s : State) : g (setJournalled p v s) = g (s.setReg p v) := (h.book _ _).trans (h.commits ..)

theorem OffBook.countJournalled (p : Nat) (s : State) : g (countJournalled p s) = g (s.count p 1) := (h.book _ _).trans (h.commits ..)

end

/-! ### An event of the tamper log (R346) -/

/-- The registers in which an event of the tamper log shows. -/
def tamperPids (e : Nat) : List Nat := [P.boxTmpCount e, P.boxTmpLast e, P.boxTmpFirst e, P.boxTamperAlarm]

/-- An event counted with its time. -/
def tamperCounted (e : Nat) (s : State) : State := (s.count (P.boxTmpCount e) 1).setReg (P.boxTmpLast e) s.now

/-- The time of the first event noted. -/
def tamperFirst (e : Nat) (first : Bool) (s : State) : State := if first then s.setReg (P.boxTmpFirst e) s.now else s

/-- The alarm bit of an event set. -/
def tamperAlarmed (e : Nat) (s : State) : State :=
  if setBit (s.reg P.boxTamperAlarm) e true = s.reg P.boxTamperAlarm then s
  else setJournalled P.boxTamperAlarm (setBit (s.reg P.boxTamperAlarm) e true) s

theorem tamperStart_eq (e detail : Nat) (s : State) : tamperStart e detail s =
    tamperRecord e 1 detail (tamperAlarmed e (tamperFirst e (s.reg (P.boxTmpCount e) == 0) (tamperCounted e s))) := rfl

section
variable {β : Type} {g : State → β} {e : Nat} (regs : ∀ (s : State) (p v : Nat), p ∈ tamperPids e → g (s.setReg p v) = g s)
include regs

theorem tamperCounted_keeps (s : State) : g (tamperCounted e s) = g s :=
  (regs _ _ _ (by simp [tamperPids])).trans (regs _ _ _ (by simp [tamperPids]))

theorem tamperFirst_keeps (first : Bool) (s : State) : g (tamperFirst e first s) = g s := by
  unfold tamperFirst
  split
  · exact regs _ _ _ (by simp [tamperPids])
  · rfl

theorem tamperAlarmed_keeps (h : OffBook g) (s : State) : g (tamperAlarmed e s) = g s := by
  unfold tamperAlarmed
  split
  · rfl
  · exact (h.setJournalled ..).trans (regs _ _ _ (by simp [tamperPids]))

theorem tamperStart_keeps (h : OffBook g) (detail : Nat) (s : State) : g (tamperStart e detail s) = g s := by
  rw [tamperStart_eq]
  exact (h.records ..).trans ((tamperAlarmed_keeps regs h _).trans ((tamperFirst_keeps regs _ _).trans (tamperCounted_keeps regs s)))

end

theorem reg_tamperStart {q e : Nat} (other : q ∉ eventPids) (apart : q ∉ tamperPids e) (detail : Nat) (s : State) :
    (tamperStart e detail s).reg q = s.reg q :=
  tamperStart_keeps (fun s _ v listed => s.reg_setReg_ne v (ne_of_mem_of_not_mem listed apart).symm) (offBook_reg other) detail s

theorem box_tamperStart (e detail : Nat) (s : State) : (tamperStart e detail s).box = s.box :=
  tamperStart_keeps (fun s p v _ => State.setReg_box s p v) offBook_box detail s

theorem tamperPids_off {e : Nat} (low : e < 11) : ∀ p ∈ tamperPids e, p ∉ eventPids := by
  have all : ∀ e < 11, ∀ p ∈ tamperPids e, p ∉ eventPids := by decide +kernel
  exact all e low

theorem tamperAlarmed_bit {e : Nat} (low : e < 11) (s : State) : bitOf ((tamperAlarmed e s).reg P.boxTamperAlarm) e = true := by
  have width : sizeOf' P.boxTamperAlarm = 2 := by decide +kernel
  unfold tamperAlarmed
  split
  · next held => rw [← held, bitOf_setBit_self]
  · rw [(offBook_reg (q := P.boxTamperAlarm) (by decide)).setJournalled, bitOf_reg_setBit (by rw [width]; omega)]

/-- An event that starts shows in its counter, its time and its alarm bit. -/
theorem tamperStart_shows {e : Nat} (low : e < 11) (detail : Nat) {s : State} (time : s.now < 2 ^ 64) :
    (tamperStart e detail s).reg (P.boxTmpCount e) = satAdd (8 * sizeOf' (P.boxTmpCount e)) (s.reg (P.boxTmpCount e)) 1 ∧
      (tamperStart e detail s).reg (P.boxTmpLast e) = s.now := by
  have width : ∀ e < 11, sizeOf' (P.boxTmpLast e) = 8 := by decide +kernel
  have later {q : Nat} (listed : q ∈ tamperPids e) (first : q ≠ P.boxTmpFirst e) (alarm : q ≠ P.boxTamperAlarm) :
      (tamperStart e detail s).reg q = (tamperCounted e s).reg q := by
    have off := offBook_reg (tamperPids_off low q listed)
    rw [tamperStart_eq]
    refine (off.records ..).trans ?_
    refine Eq.trans (b := (tamperFirst e (s.reg (P.boxTmpCount e) == 0) (tamperCounted e s)).reg q) ?_ ?_
    · unfold tamperAlarmed
      split
      · rfl
      · exact (off.setJournalled ..).trans (State.reg_setReg_ne _ _ alarm)
    · unfold tamperFirst
      split
      · exact State.reg_setReg_ne _ _ first
      · rfl
  rw [later (by simp [tamperPids]) (by simp only [P.boxTmpCount, P.boxTmpFirst]; omega) (by simp only [P.boxTmpCount, P.boxTamperAlarm]; omega),
    later (by simp [tamperPids]) (by simp only [P.boxTmpLast, P.boxTmpFirst]; omega) (by simp only [P.boxTmpLast, P.boxTamperAlarm]; omega)]
  refine ⟨?_, reg_setReg_fits (by rw [width e low]; exact time) _⟩
  rw [tamperCounted, State.reg_setReg_ne _ _ (by simp only [P.boxTmpLast, P.boxTmpCount]; omega), State.reg_count]

theorem tamperStart_alarm {e : Nat} (low : e < 11) (detail : Nat) (s : State) :
    bitOf ((tamperStart e detail s).reg P.boxTamperAlarm) e = true := by
  rw [tamperStart_eq]
  exact (congrArg (fun v => bitOf v e) ((offBook_reg (q := P.boxTamperAlarm) (by decide)).records ..)).trans (tamperAlarmed_bit low _)

/-- A lasting event that was not open opens. -/
theorem tamperOpen_first {e : Nat} {s : State} (none : s.box.tampOpen = []) :
    tamperOpen e s = tamperStart e 0 { s with box := { s.box with tampOpen := [(e, s.mono)] } } := by
  simp [tamperOpen, none]

end Sys2Proof.Machine
end

section
/-!
PROOF. O34: the calendar, cost, demand, tamper events, restoration and latches of the Box office (spec/13_box_office.md R327 to R348).
-/

namespace Sys2Proof.Machine

open Sys2Proof

theorem postSeam_mem (s : State) : (postSeam s).mem = s.mem := (postNotice_mem ..).trans rfl

theorem postSeam_keeps {β : Type} {g : State → β} (h : OffBook g) (s : State) : g (postSeam s) = g s := (h.post ..).trans (h.drawBits 16 s)

/-! ### The calendar (R327, R329) -/

theorem profileRate_lt (w m : Nat) : profileRate w m < 8 := by
  unfold profileRate
  have step : ∀ (l : List Nat) (r : Nat), r < 8 →
      l.foldl (fun r e => if bits e 12 0 ≠ 0x1FFF ∧ bits e 12 0 ≤ m then bits e 15 13 else r) r < 8 := by
    intro l
    induction l with
    | nil => exact fun _ low => low
    | cons e t ih =>
      intro r low
      refine ih _ ?_
      dsimp only
      split
      · exact Nat.mod_lt _ (by norm_num)
      · exact low
  exact step _ 0 (by norm_num)

theorem settleRate_none {s : State} (none : s.box.rateNext = none) : settleRate s = s := by simp only [settleRate, none]

theorem rateNow_none {s : State} (none : s.box.rateNext = none) : rateNow s = s.reg P.boxRateNow := by simp only [rateNow, none]

section
variable {s : State} (runs : s.managerRuns = true) (none : s.box.rateNext = none)
include runs none

theorem calendarEvaluate_now (change : rateAt s s.now ≠ s.reg P.boxRateNow) :
    calendarEvaluate false s = postSeam (s.setReg P.boxRateNow (rateAt s s.now)) := by
  simp only [calendarEvaluate, runs, settleRate_none none, rateNow_none none, Bool.true_eq_false, Bool.false_eq_true, if_false, change]

theorem calendarEvaluate_next (change : rateAt s (nextMinute s) ≠ s.reg P.boxRateNow) : calendarEvaluate true s =
    postSeam { s with box := { s.box with rateNext := some (nextMinute s, rateAt s (nextMinute s)) } } := by
  simp only [calendarEvaluate, runs, settleRate_none none, rateNow_none none, Bool.true_eq_false, if_true, if_false, change]

end

/-! ### Cost (R331, R332) -/

/-- The cost in the unit of the price, with the remainder of the accruals before. -/
def costOf (e : Session) (s : State) : Int :=
  ((List.range 8).map fun r => ((rateImports s e.set).getD r 0 - e.base.getD r 0) * (s.reg (P.boxPrice (s.reg P.boxPriceSet) r) : Int)).foldl
    (· + ·) 0 + (s.reg P.boxCostRem : Int)

/-- The accrual of a session that is not prepaid. -/
def costNoted (e : Session) (s : State) : State :=
  ((({ s with box := { s.box with session := some { e with base := rateImports s e.set } } } : State).setReg P.boxCostRem
    (costOf e s % costUnit).toNat).setRegI P.boxSessionCost (s.regI P.boxSessionCost + costOf e s / costUnit))

theorem costNoted_session (e : Session) (s : State) : (costNoted e s).box.session = some { e with base := rateImports s e.set } := by
  rw [costNoted, State.setRegI, State.setReg_box, State.setReg_box]

theorem costNoted_keeps (e : Session) (s : State) : Keeps [P.boxCostRem, P.boxSessionCost] s (costNoted e s) := by
  have kept : Keeps [P.boxCostRem, P.boxSessionCost] s
      ({ s with box := { s.box with session := some { e with base := rateImports s e.set } } } : State) := Keeps.refl _ s
  exact (kept.setReg (by decide) _).setRegI (by decide) _

theorem costAccrue_eq {s : State} {e : Session} (session : s.box.session = some e) (tally : s.present 9 = true)
    (box : s.present 12 = true) : costAccrue s = if e.prepaid then
      (costNoted e s).setRegI P.boxCredit ((costNoted e s).regI P.boxCredit - costOf e s / costUnit) else costNoted e s := by
  unfold costAccrue
  rw [session]
  exact if_neg (by simp [tally, box])

theorem floorReached_paidLater {s : State} {e : Session} (session : s.box.session = some e) (later : e.prepaid = false) :
    floorReached s = false := by simp only [floorReached, session, later, Bool.false_and]

/-! ### Maximum demand (R335, R336) -/

/-- The import of the set on demand. -/
def demandNow (s : State) : Int := nanoJoule (s.nrg.sets.getD (3 * s.reg P.boxMdSet + 1) 0)

/-- A sub-interval kept. -/
def demandKept (s : State) : State :=
  { s with box := { s.box with demand := (demandNow s :: s.box.demand).take 16, demandBad := s.box.demandBad - 1 } }

/-- The mean power of a window in W. -/
def demandMean (s : State) (b : Int) : Nat := ((demandNow s - b) / ((s.reg P.boxMdMin * 60 : Nat) * 1000)).toNat

theorem demandEnd_eq {s : State} {b : Int} (tally : s.present 9 = true) (box : s.present 12 = true) (short : s.nrg.longAt = none)
    (base : s.box.demand[s.reg P.boxMdSubs - 1]? = some b) : demandEnd s =
      let u := (demandKept s).setReg P.boxMdLast (demandMean s b)
      if s.box.demandBad = 0 ∧ u.reg (P.boxMd (rateNow u)) < demandMean s b then
        demandRecord [rateNow u] ((u.setReg (P.boxMd (rateNow u)) (demandMean s b)).setReg (P.boxMdTime (rateNow u)) u.now)
      else u := by
  have whole : gapInSub s = false := by simp only [gapInSub, short]
  unfold demandEnd
  rw [if_neg (by simp [tally, box]), whole]
  dsimp only [Bool.false_eq_true, if_false]
  simp only [Bool.false_eq_true, if_false, base]
  rfl

theorem demandKept_rate (s : State) (v : Nat) : rateNow ((demandKept s).setReg P.boxMdLast v) = rateNow s := by
  have other : ((demandKept s).setReg P.boxMdLast v).reg P.boxRateNow = s.reg P.boxRateNow := State.reg_setReg_ne _ _ (by decide)
  unfold rateNow
  rw [other]
  rfl

/-- A sub-interval that brings no new maximum. -/
theorem demandEnd_below {s : State} {b : Int} (tally : s.present 9 = true) (box : s.present 12 = true) (short : s.nrg.longAt = none)
    (base : s.box.demand[s.reg P.boxMdSubs - 1]? = some b) (below : demandMean s b ≤ s.reg (P.boxMd (rateNow s))) :
    demandEnd s = (demandKept s).setReg P.boxMdLast (demandMean s b) := by
  have other : ∀ r, ((demandKept s).setReg P.boxMdLast (demandMean s b)).reg (P.boxMd r) = s.reg (P.boxMd r) :=
    fun r => State.reg_setReg_ne _ _ (by simp only [P.boxMd, P.boxMdLast]; omega)
  rw [demandEnd_eq tally box short base]
  dsimp only
  rw [demandKept_rate, other, if_neg (by omega)]

theorem demandKept_keeps {l : List Nat} (s : State) : Keeps l s (demandKept s) := Keeps.refl l s

/-! ### Restoration and latches (R343, R348, R319) -/

theorem billingPids_nodup : billingPids.Nodup := by decide +kernel

theorem setRegs_restored {l : List Nat} (distinct : l.Nodup) (v : Nat → Nat) {p : Nat} (listed : p ∈ l) (s : State) :
    (s.setRegs (l.map fun p => (p, v p))).reg p = v p % 2 ^ (8 * sizeOf' p) := by
  induction l generalizing s with
  | nil => simp at listed
  | cons q t ih =>
    obtain ⟨fresh, distinct⟩ := List.nodup_cons.1 distinct
    obtain rfl | later := List.mem_cons.1 listed
    · refine (setRegs_reg (l := t.map fun p => (p, v p)) ?_ (s.setReg p (v p))).trans (State.reg_setReg ..)
      rintro e here rfl
      obtain ⟨q, inside, rfl⟩ := List.mem_map.1 here
      exact fresh inside
    · exact ih distinct later (s.setReg q (v q))

theorem Keeps.setRegs {k : List Nat} {s t : State} (keeps : Keeps k s t) {l : List (Nat × Nat)} (listed : ∀ e ∈ l, e.1 ∈ k) :
    Keeps k s (t.setRegs l) := by
  induction l generalizing t with
  | nil => exact keeps
  | cons e l ih => exact ih (keeps.setReg (listed e (by simp)) _) fun e here => listed e (by simp [here])

theorem setRegs_box (l : List (Nat × Nat)) (s : State) : (s.setRegs l).box = s.box :=
  foldl_keeps (f := fun s (e : Nat × Nat) => s.setReg e.1 e.2) State.box (fun e _ s => State.setReg_box s e.1 e.2) s

/-- A latch finds the session's registers where they were before its notice. -/
theorem sessionLatch_eq {s : State} {set : Nat} {e : Session} (tally : s.present 9 = true) (ready : s.nrg.ready = true) (low : set ≤ 2)
    (session : s.box.session = some e) (own : e.set = set) (start : Bool) : ∃ u : State, u.nrg = s.nrg ∧ u.box = s.box ∧ u.mem = s.mem ∧
      sessionLatch set start s = if start then
        { u with box := { u.box with session := some { e with
            imp := u.nrg.sets.getD (3 * set + 1) 0, exp := u.nrg.sets.getD (3 * set + 2) 0, base := rateImports u set } } }
      else
        let v := costAccrue u
        let r := viaManager ⟨0x24, v.now, sessionPayload v e (u.nrg.sets.getD (3 * set + 1) 0) (u.nrg.sets.getD (3 * set + 2) 0), false⟩ v
        { r.2 with box := { r.2.box with session := none, creditOut := false } } := by
  refine ⟨relay 7 0x09 3 0 s, offBook_nrg.relay .., offBook_box.relay .., relay_mem .., ?_⟩
  have open_ : (relay 7 0x09 3 0 s).box.session = some e := (congrArg BoxState.session (offBook_box.relay ..)).trans session
  unfold sessionLatch
  rw [if_neg (by simp [tally]; omega), ensureTally_ready ready]
  simp only [open_, own, not_true_eq_false, if_false]

/-- Settles O34, command by command. -/
theorem calendarCostDemand : Obligations.CalendarCostDemand := by
  unfold Obligations.CalendarCostDemand
  refine ⟨?now, ?next, ?cost, ?demand, ?tamper, ?reverse, ?restore, ?report, ?start, ?ended⟩
  case now =>
    intro s runs none change
    have width : sizeOf' P.boxRateNow = 1 := by decide +kernel
    refine completes_act rfl (calendarEvaluate_now runs none change) ⟨?_, sameMem_of_mem ((postSeam_mem _).trans rfl)⟩
    rw [postSeam_keeps (offBook_reg (q := P.boxRateNow) (by decide))]
    exact reg_setReg_fits (by rw [width]; exact (profileRate_lt _ _).trans (by norm_num)) _
  case next =>
    intro s runs none change
    refine completes_act rfl (calendarEvaluate_next runs none change) ⟨?_, ?_, sameMem_of_mem ((postSeam_mem _).trans rfl)⟩
    · rw [postSeam_keeps offBook_box]
    · exact postSeam_keeps (offBook_reg (q := P.boxRateNow) (by decide)) _
  case cost =>
    intro s e session later tally box
    have accrued : costAccrue s = costNoted e s := by rw [costAccrue_eq session tally box, later]; rfl
    have floor : floorReached (costNoted e s) = false := floorReached_paidLater (costNoted_session e s) later
    have act : execCostAccrual s = .next (costNoted e s) := by
      simp only [execCostAccrual, accrued, reportFloor, floor, Bool.false_eq_true, false_and, if_false]
    exact completes_of_eq act ⟨costNoted_session e s, costNoted_keeps e s⟩
  case demand =>
    intro s b tally box short base below
    refine completes_act rfl (demandEnd_below tally box short base below) ⟨?_, (demandKept_keeps s).setReg (by decide) _⟩
    rw [State.setReg_box]
    rfl
  case tamper =>
    intro s i runs low none time
    have act : tamperInput i true s = tamperStart i 0 { s with box := { s.box with tampOpen := [(i, s.mono)] } } := by
      rw [← tamperOpen_first none, tamperInput, if_neg (by simp [runs]; omega), if_neg (by omega : ¬ i = 2)]
      rfl
    obtain ⟨count, last⟩ := tamperStart_shows (e := i) (by omega) 0
      (s := { s with box := { s.box with tampOpen := [(i, s.mono)] } }) time
    refine completes_act rfl act ⟨?_, count, last, tamperStart_alarm (by omega) 0 _⟩
    rw [box_tamperStart]
  case reverse =>
    intro s x low works runs reverse none
    have box : (relay 8 0x09 3 0 s).box = s.box := offBook_box.relay ..
    have act : reverseTimer x s = tamperStart 3 0 { relay 8 0x09 3 0 s with
        box := { (relay 8 0x09 3 0 s).box with tampOpen := [(3, (relay 8 0x09 3 0 s).mono)] } } := by
      rw [← tamperOpen_first (by rw [box, none]), reverseTimer, if_neg (by simp [works, runs]; omega), if_pos reverse, none]
      rfl
    refine completes_act rfl act ⟨?_, tamperStart_alarm (by norm_num) 0 _⟩
    rw [box_tamperStart, offBook_mono.relay]
  case restore =>
    intro s box
    refine completes_act rfl (if_pos box) ⟨fun p listed => ?_, ?_, ?_⟩
    · exact setRegs_restored billingPids_nodup (fun p => persistVal s.jnl.persist p (dfltOf p)) listed (boxForget s)
    · rw [boxRestore, setRegs_box]
      rfl
    · refine Keeps.setRegs (t := boxForget s) (Keeps.refl _ s) fun e here => ?_
      obtain ⟨p, listed, rfl⟩ := List.mem_map.1 here
      exact listed
  case report =>
    intro s works reader on may there empty inside
    have act : tenReport s = storeNotice 10 9 (mkNotice 9 (s.drawBits 16).1 3 0 0) (s.drawBits 16).2 := by
      rw [tenReport, if_pos works]
      exact (if_pos reader).trans (congrArg Prod.snd (postNotice_accepted (s := (s.drawBits 16).2) on may there empty _))
    refine completes_act rfl act ?_
    rw [storeNotice_chan (s := (s.drawBits 16).2) inside]
    exact ⟨rfl, rfl, sameMem_of_mem (storeNotice_mem ..)⟩
  case start =>
    intro s x e tally ready low session own
    obtain ⟨u, nrg, box, mem, eq⟩ := sessionLatch_eq tally ready low session own true
    refine completes_act rfl (eq.trans (if_pos rfl)) ⟨?_, sameMem_of_mem mem⟩
    simp only [nrg, rateImports]
  case ended =>
    intro s x e tally ready low session own
    obtain ⟨u, nrg, box, mem, eq⟩ := sessionLatch_eq tally ready low session own false
    exact completes_act rfl (eq.trans (if_neg (by decide))) rfl

end Sys2Proof.Machine
end

section
/-!
PROOF. O35: tokens entered, decoded and committed, and what each class does (spec/13_box_office.md R338 to R345).
-/

namespace Sys2Proof.Machine

open Sys2Proof

section
variable {β : Type} {g : State → β} (h : OffBook g)
include h

theorem OffBook.answerTag (n tag code : Nat) (s : State) : g (answerTag n tag code s) = g s := by
  unfold Machine.answerTag
  split
  · exact (h.ackNotice ..).trans ((h.deliverNotice ..).trans (h.readNotice ..))
  · rfl

theorem OffBook.postTen (tag kind length : Nat) (s : State) : g (postTen tag kind length s) = g s := by
  unfold Machine.postTen
  split
  · exact h.post ..
  · rfl

end

theorem post_mem (n sender tag kind length addr : Nat) (s : State) : (post n sender tag kind length addr s).mem = s.mem := postNotice_mem ..

theorem setToken_mem (k : Option Token) (s : State) : (setToken k s).mem = s.mem := rfl

theorem answerTag_mem (n tag code : Nat) (s : State) : (answerTag n tag code s).mem = s.mem := by
  unfold answerTag
  split
  · exact (ackNotice_mem ..).trans ((deliverNotice_mem ..).trans (readNotice_mem ..))
  · rfl

theorem postTen_mem (tag kind length : Nat) (s : State) : (postTen tag kind length s).mem = s.mem := by
  unfold postTen
  split
  · exact post_mem ..
  · rfl

/-! ### Decoding (R339, R341) -/

theorem tokenEnd_silent {k : Token} {res : Nat} (quiet : (k.keypad && isTokenFailure res) = false) (cls : Nat) (s : State) :
    tokenEnd k res cls s = tokenResult res cls k.keypad (setToken none s) :=
  if_neg (by simpa using quiet)

/-- A token whose check digits fail. -/
theorem tokenDecode_mangled {s : State} {k : Token} (held : s.box.token = some k) (fresh : k.posted = false) (works : boxWorks s = true)
    (bad : tokenCheck s ((tokenPlain s k.digits).take 19) ≠ ofDigits ((tokenPlain s k.digits).drop 19)) :
    tokenDecode s = tokenEnd k 0x02 0xFF s := by
  unfold tokenDecode
  rw [held]
  exact (if_neg (by simp [fresh, works])).trans (if_pos bad)

/-- The token as decoded, with its tag. -/
def Token.decoded (k : Token) (p : List Nat) (tag : Nat) : Token :=
  { k with
    posted := true, cls := p.getD 0 0, serial := ofDigits (slice p 1 8), tag := tag
    value := if p.getD 0 0 = 1 ∨ p.getD 0 0 = 2 then ofDigits (slice p 1 16) else ofDigits (slice p 9 8) }

/-- The provisional notices of a token, the Stage manager's taken. -/
def tokenPosted (k : Token) (s : State) : State :=
  answerTag 8 k.tag 1 (post 8 0x09 k.tag 5 48 0 (postTen k.tag 5 48 (setToken (some k) s)))

/-- A token reported as final. -/
def tokenReported (k : Token) (s : State) : State :=
  post 8 0x09 k.tag 3 48 0 (setToken (some { k with reported := true }) (tokenPosted k s))

theorem tokenPosted_keeps {β : Type} {g : State → β} (h : OffBook g) (k : Token) (s : State) :
    g (tokenPosted k s) = g (setToken (some k) s) := (h.answerTag ..).trans ((h.post ..).trans (h.postTen ..))

theorem tokenReported_box (k : Token) (s : State) : (tokenReported k s).box.token = some { k with reported := true } :=
  congrArg BoxState.token (offBook_box.post ..)

theorem tokenReported_mem (k : Token) (s : State) : (tokenReported k s).mem = s.mem := by
  rw [tokenReported, post_mem, setToken_mem, tokenPosted, answerTag_mem, post_mem, postTen_mem, setToken_mem]

theorem serialJudge_congr {s t : State} (high : t.reg P.boxSerialHigh = s.reg P.boxSerialHigh)
    (map : t.reg P.boxSerialBitmap = s.reg P.boxSerialBitmap) (serial : Nat) : serialJudge t serial = serialJudge s serial := by
  simp only [serialJudge, high, map]

/-- The replay check of a token that was posted as provisional (R341, R342). -/
def tokenJudged (k : Token) (value : Nat) (s : State) : State :=
  let s := if k.cls = 0 then s.setReg P.boxPending (value * 100) else s
  let bad := classJudge s k.cls value
  let bad := if bad = 0 ∧ windowed k.cls then serialJudge s k.serial else bad
  if bad = 0 then post 8 0x09 k.tag 3 48 0 (setToken (some { k with reported := true }) s) else tokenCancel k bad s

/-- A token whose digits, revision and class hold is judged. -/
theorem tokenDecode_sound {s : State} {k : Token} {p : List Nat} (held : s.box.token = some k) (fresh : k.posted = false)
    (works : boxWorks s = true) (plain : p = tokenPlain s k.digits) (check : tokenCheck s (p.take 19) = ofDigits (p.drop 19))
    (rev : ofDigits (slice p 17 2) = s.reg P.boxTokenRev) (cls : p.getD 0 0 ≤ 5) :
    tokenDecode s = tokenJudged (k.decoded p (s.drawBits 16).1) (ofDigits (slice p 9 8))
      (tokenPosted (k.decoded p (s.drawBits 16).1) (s.drawBits 16).2) := by
  subst plain
  unfold tokenDecode
  rw [held]
  dsimp only
  rw [if_neg (by simp [fresh, works]), if_neg (not_not.2 check), if_neg (not_not.2 rev), if_neg (by omega)]
  rfl

/-- A test token in its window is reported. -/
theorem tokenJudged_test {k : Token} {s : State} (cls : k.cls = 5) (serial : serialJudge (tokenPosted k s) k.serial = 0) (value : Nat) :
    tokenJudged k value (tokenPosted k s) = tokenReported k s := by
  have class5 : classJudge (tokenPosted k s) 5 value = 0 := by simp [classJudge]
  have window : windowed 5 = true := rfl
  simp only [tokenJudged, cls, class5, window, serial, and_self, if_true, OfNat.ofNat_ne_zero, if_false, tokenReported]

/-! ### A token committed (R342) -/

/-- The state of a token's record once it is committed and acknowledged. -/
def tokenCommitted (k : Token) (s : State) : State := answerTag 8 k.tag 0 (commit ⟨0x21, s.now, tokenPayload s k, false⟩ s).2

/-- The window of serials after a token. -/
def tokenWindowed (k : Token) (s : State) : State :=
  (s.setReg P.boxSerialHigh (tokenWindow s k).1).setReg P.boxSerialBitmap (tokenWindow s k).2

/-- A token that ends well, with its report to E1. -/
def tokenClosed (k : Token) (s : State) : State :=
  tokenEnd k 0 k.cls (postTen (s.drawBits 16).1 3 48 ((s.drawBits 16).2.setReg P.boxPending 0))

theorem tokenAck_accepted {s : State} {k : Token} {only : Nat → Bool} (held : s.box.token = some k) (reported : k.reported = true)
    (works : boxWorks s = true) (runs : s.managerRuns = true) (own : only k.cls = true)
    (accepted : (commit ⟨0x21, s.now, tokenPayload s k, false⟩ s).1 = true) :
    tokenAck only s = tokenClosed k (classEffect k (tokenWindowed k (tokenCommitted k s))) := by
  unfold tokenAck
  rw [held]
  dsimp only
  rw [if_neg (by simp [reported, works, runs, own]), if_pos accepted, accepted]
  rfl

theorem tokenCommitted_keeps {β : Type} {g : State → β} (h : OffBook g) (k : Token) (s : State) : g (tokenCommitted k s) = g s :=
  (h.answerTag ..).trans (h.commits ..)

theorem tokenClosed_eq (k : Token) (s : State) : tokenClosed k s = tokenResult 0 k.cls k.keypad (setToken none
    (postTen (s.drawBits 16).1 3 48 ((s.drawBits 16).2.setReg P.boxPending 0))) := tokenEnd_silent (by simp [isTokenFailure]) ..

theorem tokenResult_box (res cls : Nat) (keypad : Bool) (s : State) : (tokenResult res cls keypad s).box = s.box := State.setReg_box ..

theorem tokenClosed_box (k : Token) (s : State) : (tokenClosed k s).box = { s.box with token := none } := by
  have box : (postTen (s.drawBits 16).1 3 48 ((s.drawBits 16).2.setReg P.boxPending 0)).box = s.box :=
    (offBook_box.postTen ..).trans ((State.setReg_box ..).trans (offBook_box.drawBits 16 s))
  rw [tokenClosed_eq, tokenResult_box, setToken, box]

theorem tokenClosed_reg {q : Nat} (off : q ∉ eventPids) (result : q ≠ P.boxTokenResult) (pending : q ≠ P.boxPending) (k : Token) (s : State) :
    (tokenClosed k s).reg q = s.reg q := by
  rw [tokenClosed_eq]
  exact (State.reg_setReg_ne _ _ result).trans (((offBook_reg off).postTen ..).trans (State.reg_setReg_ne _ _ pending))

theorem tokenClosed_result {k : Token} (cls : k.cls ≤ 5) (s : State) :
    (tokenClosed k s).reg P.boxTokenResult = k.cls * 256 + (if k.keypad then 1 else 2) ∧ (tokenClosed k s).reg P.boxPending = 0 := by
  have width : sizeOf' P.boxTokenResult = 4 := by decide +kernel
  rw [tokenClosed_eq]
  refine ⟨?_, ?_⟩
  · refine (reg_setReg_fits ?_ _).trans ?_
    · rw [width]
      split <;> omega
    · omega
  · refine (State.reg_setReg_ne _ _ (by decide)).trans (((offBook_reg (q := P.boxPending) (by decide)).postTen ..).trans ?_)
    rw [State.reg_setReg, Nat.zero_mod]

/-! ### The registers and the window before a class applies -/

/-- What the commit and the window leave: every register but the window's. -/
theorem tokenWindowed_reg {q : Nat} (off : q ∉ eventPids) (high : q ≠ P.boxSerialHigh) (map : q ≠ P.boxSerialBitmap) (k : Token) (s : State) :
    (tokenWindowed k (tokenCommitted k s)).reg q = s.reg q :=
  (State.reg_setReg_ne _ _ map).trans ((State.reg_setReg_ne _ _ high).trans (tokenCommitted_keeps (offBook_reg off) k s))

theorem tokenWindowed_box (k : Token) (s : State) : (tokenWindowed k (tokenCommitted k s)).box = s.box :=
  (State.setReg_box ..).trans ((State.setReg_box ..).trans (tokenCommitted_keeps offBook_box k s))

theorem tokenWindowed_mono (k : Token) (s : State) : (tokenWindowed k (tokenCommitted k s)).mono = s.mono :=
  (State.setReg_mono ..).trans ((State.setReg_mono ..).trans (tokenCommitted_keeps offBook_mono k s))

theorem tokenWindowed_high (k : Token) (s : State) :
    (tokenWindowed k (tokenCommitted k s)).reg P.boxSerialHigh = (tokenWindow s k).1 % 2 ^ 32 := by
  have width : sizeOf' P.boxSerialHigh = 4 := by decide +kernel
  have window : tokenWindow (tokenCommitted k s) k = tokenWindow s k := by
    simp only [tokenWindow, tokenCommitted_keeps (offBook_reg (q := P.boxSerialHigh) (by decide)),
      tokenCommitted_keeps (offBook_reg (q := P.boxSerialBitmap) (by decide))]
  rw [tokenWindowed, State.reg_setReg_ne _ _ (by decide), State.reg_setReg, window, width]

/-! ### The classes (R340, R345) -/

theorem regI_setRegI_eight {p : Nat} {i : Int} (width : sizeOf' p = 8) (low : -2 ^ 63 ≤ i) (high : i < 2 ^ 63) (s : State) :
    (s.setRegI p i).regI p = i := by
  rw [State.regI, State.setRegI, State.reg_setReg, width]
  unfold toSigned ofSigned
  split <;> omega

/-- Credit added. -/
def creditAdded (k : Token) (s : State) : State :=
  let s := s.setRegI P.boxCredit (s.regI P.boxCredit + k.credit)
  { s with box := { s.box with creditOut := false } }

theorem classEffect_credit {k : Token} (cls : k.cls = 0) (s : State) : classEffect k s =
    if 0 < (creditAdded k s).regI P.boxCredit then (creditAdded k s).setReg P.boxEmergActive 0 else creditAdded k s := if_pos cls

theorem classEffect_credit_reg {k : Token} (cls : k.cls = 0) {q : Nat} (other : q ≠ P.boxEmergActive) (s : State) :
    (classEffect k s).reg q = (creditAdded k s).reg q := by
  rw [classEffect_credit cls]
  split
  · exact State.reg_setReg_ne _ _ other
  · rfl

theorem creditAdded_credit {k : Token} {s : State} (low : -2 ^ 63 ≤ s.regI P.boxCredit + k.credit)
    (high : s.regI P.boxCredit + k.credit < 2 ^ 63) : (creditAdded k s).regI P.boxCredit = s.regI P.boxCredit + k.credit :=
  regI_setRegI_eight (by decide +kernel) low high s

theorem creditAdded_reg {q : Nat} (other : q ≠ P.boxCredit) (k : Token) (s : State) : (creditAdded k s).reg q = s.reg q :=
  State.reg_setRegI_ne _ _ other

theorem classEffect_partOne {k : Token} (cls : k.cls = 1) (s : State) :
    classEffect k s = { s with box := { s.box with partOne := some (k.value, s.mono) } } := by
  simp only [classEffect, cls, OfNat.one_ne_ofNat, one_ne_zero, if_false, if_true]

theorem classEffect_partTwo {k : Token} {s : State} {d : Nat} (cls : k.cls = 2) (held : heldPart s = some d) :
    classEffect k s = keyChange d k.value s := by
  simp only [classEffect, cls, OfNat.ofNat_ne_one, OfNat.ofNat_ne_zero, if_false, if_true, held]

/-- The token key and the revision after both parts. -/
theorem keyChange_changes (d1 d2 : Nat) {s : State} (rev : s.reg P.boxTokenRev ≤ 99) :
    (keyChange d1 d2 s).box = { s.box with
        tokenKey := ofBytes (aesEncrypt (toBytes 16 s.box.changeKey) (toBytesBE 8 d1 ++ toBytesBE 8 d2)), partOne := none } ∧
      (keyChange d1 d2 s).reg P.boxTokenRev = (if s.reg P.boxTokenRev = 99 then 1 else s.reg P.boxTokenRev + 1) := by
  have width : sizeOf' P.boxTokenRev = 1 := by decide +kernel
  refine ⟨?_, ?_⟩
  · exact (box_tamperStart ..).trans ((offBook_box.setJournalled ..).trans (State.setReg_box ..))
  · refine (reg_tamperStart (by decide) (by decide) ..).trans (((offBook_reg (q := P.boxTokenRev) (by decide)).setJournalled ..).trans ?_)
    refine reg_setReg_fits ?_ _
    rw [width]
    split <;> omega

theorem classEffect_clear {k : Token} (cls : k.cls = 3) {s : State} (fits : s.reg P.boxTamperAlarm < 2 ^ (8 * sizeOf' P.boxTamperAlarm)) :
    (classEffect k s).reg P.boxTamperAlarm = s.reg P.boxTamperAlarm - (s.reg P.boxTamperAlarm &&& bits k.value 10 0) := by
  have act : classEffect k s = if s.reg P.boxTamperAlarm - (s.reg P.boxTamperAlarm &&& bits k.value 10 0) = s.reg P.boxTamperAlarm then s
      else setJournalled P.boxTamperAlarm (s.reg P.boxTamperAlarm - (s.reg P.boxTamperAlarm &&& bits k.value 10 0)) s := by
    simp only [classEffect, cls, OfNat.ofNat_ne_one, OfNat.ofNat_ne_zero, Nat.reduceEqDiff, if_false, if_true]
  rw [act]
  split
  · next same => exact same.symm
  · exact ((offBook_reg (q := P.boxTamperAlarm) (by decide)).setJournalled ..).trans (reg_setReg_fits (by omega) _)

theorem classEffect_tariff {k : Token} (cls : k.cls = 4) (low : k.value ≤ 3) (s : State) :
    (classEffect k s).reg P.boxPriceSet = k.value := by
  have width : sizeOf' P.boxPriceSet = 1 := by decide +kernel
  have act : classEffect k s = if s.reg P.boxPriceSet = k.value then s else setJournalled P.boxPriceSet k.value s := by
    simp only [classEffect, cls, OfNat.ofNat_ne_one, OfNat.ofNat_ne_zero, Nat.reduceEqDiff, if_false, if_true]
  rw [act]
  split
  · next same => exact same
  · exact ((offBook_reg (q := P.boxPriceSet) (by decide)).setJournalled ..).trans (reg_setReg_fits (by rw [width]; omega) _)

theorem classEffect_test {k : Token} (cls : k.cls = 5) (s : State) : classEffect k s = s := by
  simp only [classEffect, cls, OfNat.ofNat_ne_one, OfNat.ofNat_ne_zero, Nat.reduceEqDiff, if_false]

/-- Settles O35, command by command. -/
theorem tokens : Obligations.Tokens := by
  unfold Obligations.Tokens
  refine ⟨?timeout, ?expiry, ?mangled, ?replayed, ?ack, ?credit, ?partOne, ?partTwo, ?clear, ?tariff, ?test⟩
  case timeout => exact fun s => completes_act rfl rfl rfl
  case expiry => exact fun s => completes_act rfl rfl rfl
  case mangled =>
    intro s k p held fresh entered works plain bad
    have width : sizeOf' P.boxTokenResult = 4 := by decide +kernel
    subst plain
    have act : tokenDecode s = tokenResult 0x02 0xFF false (setToken none s) := by
      rw [tokenDecode_mangled held fresh works bad, tokenEnd_silent (by simp [entered]), entered]
    refine completes_act rfl act ⟨?_, ?_, keeps_setReg (setToken none s) P.boxTokenResult _⟩
    · rw [tokenResult_box]
      rfl
    · exact reg_setReg_fits (by rw [width]; norm_num) _
  case replayed =>
    intro s k p held fresh works plain check rev cls serial
    have high := tokenPosted_keeps (offBook_reg (q := P.boxSerialHigh) (by decide)) (k.decoded p (s.drawBits 16).1) (s.drawBits 16).2
    have map := tokenPosted_keeps (offBook_reg (q := P.boxSerialBitmap) (by decide)) (k.decoded p (s.drawBits 16).1) (s.drawBits 16).2
    have judged := (serialJudge_congr (s := s) high map (ofDigits (slice p 1 8))).trans serial
    refine completes_act rfl ((tokenDecode_sound held fresh works plain check rev cls.le).trans (tokenJudged_test cls judged _)) ?_
    rw [tokenReported_box]
    exact ⟨rfl, rfl, congrArg some cls, sameMem_of_mem (tokenReported_mem ..)⟩
  case ack =>
    intro s k held reported works runs cls accepted
    obtain ⟨result, pending⟩ := tokenClosed_result cls (classEffect k (tokenWindowed k (tokenCommitted k s)))
    refine completes_act rfl (tokenAck_accepted held reported works runs rfl accepted) ⟨?_, result, pending⟩
    rw [tokenClosed_box]
  case credit =>
    intro s k held reported works runs cls accepted low high
    have before : (tokenWindowed k (tokenCommitted k s)).regI P.boxCredit = s.regI P.boxCredit :=
      regI_congr (tokenWindowed_reg (by decide) (by decide) (by decide) k s)
    refine completes_act rfl (tokenAck_accepted held reported works runs (by simp [cls]) accepted) ⟨?_, ?_, ?_⟩
    · refine (regI_congr ((tokenClosed_reg (by decide) (by decide) (by decide) ..).trans (classEffect_credit_reg cls (by decide) _))).trans ?_
      rw [creditAdded_credit (by rw [before]; exact low) (by rw [before]; exact high), before]
    · rw [tokenClosed_reg (by decide) (by decide) (by decide), classEffect_credit_reg cls (by decide), creditAdded_reg (by decide),
        tokenWindowed_high]
    · rw [tokenClosed_box]
  case partOne =>
    intro s k held reported works runs cls accepted
    refine completes_act rfl (tokenAck_accepted held reported works runs (by simp [cls]) accepted) ?_
    rw [tokenClosed_box, classEffect_partOne cls, tokenWindowed_mono]
    exact ⟨rfl, rfl⟩
  case partTwo =>
    intro s k d held reported works runs cls part rev accepted
    have box := tokenWindowed_box k s
    have same : heldPart (tokenWindowed k (tokenCommitted k s)) = some d := by
      rw [← part, heldPart, heldPart, box, tokenWindowed_mono]
    have revision : (tokenWindowed k (tokenCommitted k s)).reg P.boxTokenRev = s.reg P.boxTokenRev :=
      tokenWindowed_reg (by decide) (by decide) (by decide) k s
    obtain ⟨changed, next⟩ := keyChange_changes d k.value (s := tokenWindowed k (tokenCommitted k s)) (by rw [revision]; exact rev)
    refine completes_act rfl (tokenAck_accepted held reported works runs (by simp [cls]) accepted) ?_
    rw [tokenClosed_box, tokenClosed_reg (by decide) (by decide) (by decide), classEffect_partTwo cls same, changed, next, revision, box]
    exact ⟨rfl, rfl, rfl, rfl⟩
  case clear =>
    intro s k held reported works runs cls accepted fits
    have before : (tokenWindowed k (tokenCommitted k s)).reg P.boxTamperAlarm = s.reg P.boxTamperAlarm :=
      tokenWindowed_reg (by decide) (by decide) (by decide) k s
    refine completes_act rfl (tokenAck_accepted held reported works runs (by simp [cls]) accepted) ⟨?_, ?_⟩
    · rw [tokenClosed_reg (by decide) (by decide) (by decide), classEffect_clear cls (by rw [before]; exact fits), before]
    · rw [tokenClosed_box]
  case tariff =>
    intro s k held reported works runs cls low accepted
    refine completes_act rfl (tokenAck_accepted held reported works runs (by simp [cls]) accepted) ⟨?_, ?_⟩
    · rw [tokenClosed_reg (by decide) (by decide) (by decide), classEffect_tariff cls low]
    · rw [tokenClosed_box]
  case test =>
    intro s k held reported works runs cls accepted
    refine completes_act rfl (tokenAck_accepted held reported works runs (by simp [cls]) accepted) ⟨?_, ?_, ?_⟩
    · rw [tokenClosed_box]
    · rw [tokenClosed_reg (by decide) (by decide) (by decide), classEffect_test cls, tokenWindowed_high]
    · rw [classEffect_test cls]
      exact regI_congr ((tokenClosed_reg (by decide) (by decide) (by decide) ..).trans
        (tokenWindowed_reg (by decide) (by decide) (by decide) k s))

end Sys2Proof.Machine
end

section
/-!
PROOF. O39: the reader's judgements and the contact slots (spec/16_tags_and_cards.md R416 to R418, R431, R432).
-/

namespace Sys2Proof.Machine

open Sys2Proof

/-! ### A session granted (R240) -/

/-- The registers that a session granted may change, besides those of its notice. -/
def grantPids : List Nat := [P.tirGpState, P.boxSessionCost] ++ sessionPids

section
variable {β : Type} {g : State → β} (event : OffEvent g) (veh : ∀ (s : State) (v : VehState), g (s.setVeh v) = g s)
  (box : ∀ (s : State) (b : BoxState), g { s with box := b } = g s)
  (regs : ∀ (s : State) (p v : Nat), p ∈ grantPids → g (s.setReg p v) = g s)

section
include veh regs

theorem drive_granted (d : CpDrive) (duty : Nat) (s : State) : g (drive d duty s) = g s :=
  drive_keeps veh (fun s p v listed => regs s p v (List.mem_append_right _ listed)) d duty s

theorem driveLimit_granted (s : State) : g (driveLimit s) = g s := by
  unfold driveLimit
  split
  · exact drive_granted veh regs ..
  · exact drive_granted veh regs ..

theorem driveFive_granted (s : State) : g (driveFive s) = g s := by
  unfold driveFive
  dsimp only
  split
  · exact (regs _ P.tirGpState 1 (by decide)).trans (drive_granted veh regs ..)
  · exact drive_granted veh regs ..

end

include box regs

theorem sessionOpened_granted (auth ident set : Nat) (s : State) : g (sessionOpened auth ident set s) = g s :=
  (regs _ P.wdnSesState 2 (by decide)).trans ((regs _ P.boxSessionCost 0 (by decide)).trans (box s _))

include event veh

theorem authorise_granted (auth ident : Nat) (s : State) : g (authorise auth ident s) = g s := by
  unfold authorise
  extract_lets v u w
  have granted : g u = g s := veh s _
  split
  · split
    · exact (event.relay ..).trans granted
    · exact granted
  · have opened : g w = g s := (sessionOpened_granted box regs auth ident _ u).trans granted
    split
    · exact opened
    · split
      · exact (driveFive_granted veh regs w).trans opened
      · exact (driveLimit_granted veh regs _).trans ((veh w _).trans opened)

theorem grantSession_granted (auth ident : Nat) (s : State) : g (grantSession auth ident s) = g s := by
  have left (u : State) : g (leavePlugged u) = g u := by
    unfold leavePlugged
    cases u.veh.auth with
    | none => rfl
    | some a =>
      dsimp only
      exact (apply_ite g ..).trans (by rw [authorise_granted event veh box regs, ite_self])
  unfold grantSession
  split
  · exact (left _).trans (veh s _)
  · rfl

end

theorem grantSession_rdr (auth ident : Nat) (s : State) : (grantSession auth ident s).rdr = s.rdr :=
  grantSession_granted (offBook_of_apart (g := State.rdr) (fun _ => rfl) fun _ _ _ _ _ _ _ => rfl).toOffEvent (fun _ _ => rfl) (fun _ _ => rfl)
    (fun s p v _ => State.setReg_rdr s p v) auth ident s

theorem grantSession_reg {q : Nat} (off : q ∉ eventPids) (other : q ∉ grantPids) (auth ident : Nat) (s : State) :
    (grantSession auth ident s).reg q = s.reg q :=
  grantSession_granted (offEvent_reg off) (fun _ _ => rfl) (fun _ _ => rfl)
    (fun s _ v listed => s.reg_setReg_ne v (ne_of_mem_of_not_mem listed other).symm) auth ident s

/-! ### Judgements (R416, R417) -/

theorem cardResult_judged {res : Nat} (low : res < 256) (s : State) : (cardResult res s).rdr.judging = none ∧
    (cardResult res s).reg P.rdrAuthResult = res ∧ Keeps [P.rdrAuthResult] s (cardResult res s) := by
  have width : sizeOf' P.rdrAuthResult = 1 := by decide +kernel
  refine ⟨?_, reg_setReg_fits (by rw [width]; exact low) _, keeps_setReg (s.setRdr { s.rdr with judging := none }) _ _⟩
  rw [cardResult, State.setReg_rdr]
  rfl

/-- A card granted ends its judgement with result 0. -/
theorem cardGrant_judged (c : Card) (s : State) : (cardGrant c s).rdr.judging = none ∧ (cardGrant c s).reg P.rdrAuthResult = 0 := by
  obtain ⟨judging, result, -⟩ := cardResult_judged (res := 0) (by norm_num) s
  have kept := grantSession_rdr 3 (ofBytes c.ident) (cardResult 0 s)
  have same := (grantSession_reg (q := P.rdrAuthResult) (by decide) (by decide) 3 (ofBytes c.ident) (cardResult 0 s)).trans result
  unfold cardGrant
  dsimp only
  split
  · exact ⟨(congrArg RdrState.judging kept).trans judging, same⟩
  · exact ⟨(congrArg RdrState.judging kept).trans judging, same⟩

/-- A card noted before its judgement. -/
def cardNoted (c : Card) (s : State) : State :=
  (s.setReg P.rdrLastCard (c.ident.length % 256 * 2 ^ 48 + c.kind % 256 * 2 ^ 56 + s.now % 2 ^ 64 * 2 ^ 64)).setReg P.rdrLastUid
    (ofBytes (padTo 10 c.ident))

theorem cardNoted_keeps (c : Card) (s : State) : Keeps [P.rdrLastUid, P.rdrLastCard] s (cardNoted c s) :=
  ((Keeps.refl _ s).setReg (by decide) _).setReg (by decide) _

/-- Under the allow list a card that it does not hold is refused. -/
theorem judgeCard_barred {c : Card} {s : State} (mode : s.reg P.rdrAuthMode = 0) (barred : cardAllowed s c = false) :
    judgeCard c s = cardResult 1 (cardNoted c s) := by
  have list : cardAllowed (cardNoted c s) c = false := by
    rw [← barred, cardAllowed, (cardNoted_keeps c s).reg (by decide), cardAllowed]
  have same : (cardNoted c s).reg P.rdrAuthMode = 0 := ((cardNoted_keeps c s).reg (by decide)).trans mode
  unfold judgeCard
  dsimp only
  exact (if_pos same).trans (if_neg (by rw [Bool.not_eq_true]; exact list))

/-- The reader's notes of a card seen again. -/
def cardSeen (c : Card) (s : State) : State := s.setRdr { s.rdr with holder := none, seen := some c }

theorem readerPoll_alone {s : State} {c : Card} (on : s.present 20 = true) (power : s.domOn 60 = true) (enabled : s.reg P.rdrEnable ≠ 0)
    (normal : s.reg P.rdrTestMode = 0) (low : 1 ≤ c.kind) (high : c.kind ≤ 3) (taken : bitOf (s.reg P.rdrTypes) (c.kind - 1) = true)
    (idle : sessionOpen s = false) (free : s.rdr.judging = none) (seen : s.rdr.seen = some c) :
    readerPoll [c] s = judgeCard c (cardSeen c s) := by
  have noSession : cardSession s = false := by rw [cardSession, idle, Bool.false_and]
  have kept : [c].filter (fun c => decide (1 ≤ c.kind ∧ c.kind ≤ 3) && bitOf (s.reg P.rdrTypes) (c.kind - 1)) = [c] := by
    simp [low, high, taken]
  unfold readerPoll
  rw [if_neg (by simp [on, power, enabled, normal]), kept]
  dsimp only
  rw [noSession]
  simp only [Bool.false_eq_true, if_false, pollCards, State.setRdr, free, seen, beq_self_eq_true, if_true]
  rfl

/-! ### Contact slots (R431, R432) -/

section
variable {n : Nat} (slots : n = 3 ∨ n = 4)
include slots

theorem crdState_width : sizeOf' (P.crdState n) = 1 := by
  have both : sizeOf' (P.crdState 3) = 1 ∧ sizeOf' (P.crdState 4) = 1 := by decide +kernel
  obtain rfl | rfl := slots
  · exact both.1
  · exact both.2

theorem setCrd_state {v : Nat} (low : v < 256) (s : State) : (setCrd n v s).reg (P.crdState n) = v :=
  reg_setReg_fits (by rw [crdState_width slots]; exact low) s

theorem slot_setSlot {s : State} (two : s.crd.slots.length = 2) (x : CardSlot) : (s.setSlot n x).slot n = x := by
  have inside : n - 3 < s.crd.slots.length := by omega
  simp [State.slot, State.setSlot, setAt, inside]

end

theorem slot_congr {s t : State} (same : t.crd = s.crd) (n : Nat) : t.slot n = s.slot n := by rw [State.slot, same, State.slot]

theorem setCrd_slot (n v m : Nat) (s : State) : (setCrd n v s).slot m = s.slot m := slot_congr (State.setReg_crd ..) m

theorem Keeps.setSlot {l : List Nat} {s t : State} (keeps : Keeps l s t) (n : Nat) (x : CardSlot) : Keeps l s (t.setSlot n x) := keeps

theorem Keeps.setCrd {l : List Nat} {s t : State} (keeps : Keeps l s t) {n : Nat} (listed : P.crdState n ∈ l) (v : Nat) :
    Keeps l s (Machine.setCrd n v t) := keeps.setReg listed v

/-- A slot that tries a class. -/
def slotTries (n c : Nat) (s : State) : State := setCrd n 1 (s.setSlot n ⟨c, false, 0x11, false, (s.slot n).atrLen⟩)

theorem tryClass_next {s : State} {n below c : Nat} (next : nextClass s n below = some c) : tryClass n below s = slotTries n c s := by
  simp only [tryClass, next, slotTries]

theorem slotTries_tries {n c : Nat} {s : State} (slots : n = 3 ∨ n = 4) (two : s.crd.slots.length = 2) :
    (slotTries n c s).reg (P.crdState n) = 1 ∧ (slotTries n c s).slot n = ⟨c, false, 0x11, false, (s.slot n).atrLen⟩ ∧
      Keeps [P.crdState n] s (slotTries n c s) := by
  refine ⟨setCrd_state slots (by norm_num) _, ?_, ((Keeps.refl _ s).setSlot n _).setCrd (by simp) 1⟩
  rw [slotTries, setCrd_slot, slot_setSlot slots two]

/-- A slot whose ATR arrived. -/
def atrKept (n : Nat) (l : Bytes) (s : State) : State :=
  (s.setReg (P.crdAtr n) (ofBytes (padTo 33 l))).setSlot n { s.slot n with atrLen := min 33 l.length }

/-- A slot whose protocol is agreed. -/
def slotAgreed (n : Nat) (l : Bytes) (a : Atr) (s : State) : State :=
  setCrd n (2 + (a.protos.head?).getD 0) ((atrKept n l s).setSlot n
    { s.slot n with atrLen := min 33 l.length, ta1 := agreedTa1 a, inverse := l.headD 0 == 0x3F })

theorem cardAtr_good {s : State} {n : Nat} {l : Bytes} {a : Atr} (on : s.present 18 = true) (slots : n = 3 ∨ n = 4)
    (waits : s.reg (P.crdState n) = 1) (good : parseAtr l = some a) (fits : bitOf a.classes (classBit (s.slot n).cls) = true)
    (proto : (a.protos.head?).getD 0 ≤ 1) :
    cardAtr n l s = slotAgree n ((a.protos.head?).getD 0) (agreedTa1 a) (slotAgreed n l a s) := by
  have same : (s.setReg (P.crdAtr n) (ofBytes (padTo 33 l))).slot n = s.slot n := slot_congr (State.setReg_crd ..) n
  unfold cardAtr
  rw [if_neg (by simp [on, slots, waits])]
  dsimp only
  rw [same, good]
  dsimp only
  rw [if_neg (by simp [fits]; omega)]
  rfl

theorem slotAgree_crd (n t ta1 : Nat) (s : State) : (slotAgree n t ta1 s).crd = s.crd := by
  unfold slotAgree
  dsimp only
  split <;> rfl

theorem Keeps.slotAgree {l : List Nat} {s u : State} (keeps : Keeps l s u) (n t ta1 : Nat) : Keeps l s (Machine.slotAgree n t ta1 u) := by
  unfold Machine.slotAgree
  dsimp only
  split
  · exact (keeps.emit _).emit _
  · exact keeps.emit _

theorem slotAgree_reg (n t ta1 q : Nat) (s : State) : (slotAgree n t ta1 s).reg q = s.reg q :=
  ((Keeps.refl [] s).slotAgree n t ta1).reg (by simp)

theorem slotAgreed_slot {n : Nat} {s : State} (slots : n = 3 ∨ n = 4) (two : s.crd.slots.length = 2) (l : Bytes) (a : Atr) :
    ((slotAgreed n l a s).slot n).ta1 = agreedTa1 a := by
  have still : (atrKept n l s).crd.slots.length = 2 := by simp [atrKept, State.setSlot, setAt, two]
  rw [slotAgreed, setCrd_slot, slot_setSlot slots still]

theorem slotAgreed_keeps (n : Nat) (l : Bytes) (a : Atr) (s : State) : Keeps [P.crdState n, P.crdAtr n] s (slotAgreed n l a s) :=
  (((Keeps.refl _ s).setReg (by simp) _).setSlot n _ |>.setSlot n _).setCrd (by simp) _

/-- A slot emptied. -/
def slotEmpty (n : Nat) (s : State) : State := setCrd n 0 (s.setSlot n ⟨0, false, 0x11, false, (s.slot n).atrLen⟩)

theorem slotEmpty_empties {n : Nat} {s : State} (slots : n = 3 ∨ n = 4) (two : s.crd.slots.length = 2) :
    (slotEmpty n s).reg (P.crdState n) = 0 ∧ ((slotEmpty n s).slot n).cls = 0 ∧ Keeps [P.crdState n] s (slotEmpty n s) := by
  refine ⟨setCrd_state slots (by norm_num) _, ?_, ((Keeps.refl _ s).setSlot n _).setCrd (by simp) 0⟩
  rw [slotEmpty, setCrd_slot, slot_setSlot slots two]

theorem samLost_free {s : State} (free : s.rdr.judging = none) : samLost s = s := by simp only [samLost, free]

theorem cardRemove_free {s : State} {n : Nat} (on : s.present 18 = true) (slots : n = 3 ∨ n = 4) (free : s.rdr.judging = none) :
    cardRemove n s = slotEmpty n s := by
  have still : (slotEmpty n s).rdr.judging = none := (congrArg RdrState.judging (State.setReg_rdr ..)).trans free
  have act : cardRemove n s = if (slotEmpty n s).reg P.rdrSamSlot = n then samLost (slotEmpty n s) else slotEmpty n s :=
    if_neg (by simp [on, slots])
  rw [act, samLost_free still, ite_self]

/-- Settles O39, command by command. -/
theorem readerAndContacts : Obligations.ReaderAndContacts := by
  unfold Obligations.ReaderAndContacts
  refine ⟨?poll, ?timeout, ?refused, ?granted, ?silent, ?insert, ?atr, ?noAtr, ?remove⟩
  case poll =>
    intro s c on power enabled normal low high taken idle free seen mode barred
    have width : sizeOf' P.rdrLastUid = 10 := by decide +kernel
    have act : readerPoll [c] s = cardResult 1 (cardNoted c (cardSeen c s)) :=
      (readerPoll_alone on power enabled normal low high taken idle free seen).trans (judgeCard_barred mode barred)
    obtain ⟨-, result, keeps⟩ := cardResult_judged (res := 1) (by norm_num) (cardNoted c (cardSeen c s))
    have noted : Keeps [P.rdrLastUid, P.rdrLastCard] s (cardNoted c (cardSeen c s)) := cardNoted_keeps c (cardSeen c s)
    refine completes_act rfl act ⟨result, ?_, ⟨fun p other => ?_, fun a => (keeps.2 a).trans (noted.2 a)⟩⟩
    · rw [keeps.reg (by decide), cardNoted, State.reg_setReg, width]
    · simp only [List.mem_cons, List.not_mem_nil, or_false, not_or] at other
      exact (keeps.reg (by simp [other])).trans (noted.reg (by simp [other]))
  case timeout =>
    intro s c judged
    exact completes_act rfl (by simp only [hostGrantTimeout, judged]) (cardResult_judged (by norm_num) s)
  case refused =>
    intro s c sw judged bad
    exact completes_act rfl (by simp only [samResponse, judged, bad, if_false]) (cardResult_judged (by norm_num) s)
  case granted =>
    intro s c judged
    exact completes_act rfl (by simp only [samResponse, judged, if_true]) (cardGrant_judged c s)
  case silent =>
    intro s c judged
    exact completes_act rfl (by simp only [samLost, judged]) (cardResult_judged (by norm_num) s)
  case insert =>
    intro s n c on slots two next
    have act : cardInsert n s = slotTries n c s := (if_pos ⟨on, slots⟩).trans (tryClass_next next)
    obtain ⟨state, slot, keeps⟩ := slotTries_tries (c := c) slots two
    refine completes_act rfl act ⟨state, ?_, ?_, keeps⟩
    · rw [slot]
    · rw [slot]
  case atr =>
    intro s n l a on slots two waits good fits proto
    refine completes_act rfl (cardAtr_good on slots waits good fits proto) ⟨?_, ?_, (slotAgreed_keeps n l a s).slotAgree _ _ _⟩
    · rw [slotAgree_reg]
      exact setCrd_state slots (by omega) _
    · rw [slot_congr (slotAgree_crd ..), slotAgreed_slot slots two]
  case noAtr =>
    intro s n c on slots two waits next
    have act : cardAtrTimeout n s = slotTries n c s := (if_pos ⟨on, slots, waits⟩).trans (tryClass_next next)
    obtain ⟨state, slot, keeps⟩ := slotTries_tries (c := c) slots two
    refine completes_act rfl act ⟨state, ?_, keeps⟩
    rw [slot]
  case remove =>
    intro s n on slots free two
    exact completes_act rfl (cardRemove_free on slots free) (slotEmpty_empties slots two)

end Sys2Proof.Machine
end

section
/-!
SUPPORT. Words of memory read as bytes and stored in a row (spec/00_scope.md R5; spec/06_mram_and_prompt_book.md R139).
-/

namespace Sys2Proof.Machine

open Sys2Proof

theorem toBytes_ofBytes {l : Bytes} (bytes : ∀ b ∈ l, b < 256) : toBytes l.length (ofBytes l) = l := by
  induction l with
  | nil => rfl
  | cons b t ih =>
    have low : b < 256 := bytes b (by simp)
    have rest := ih fun c here => bytes c (by simp [here])
    have head : (b % 256 + 256 * ofBytes t) % 256 = b := by omega
    have tail : (b % 256 + 256 * ofBytes t) / 256 = ofBytes t := by omega
    rw [List.length_cons, ofBytes, toBytes, head, tail, rest]

theorem Memory.readBytes_lt (m : List Host.Cell) (x k : Nat) : ∀ b ∈ Memory.readBytes m x k, b < 256 := by
  induction k generalizing x with
  | zero => simp [Memory.readBytes]
  | succ k ih =>
    intro b here
    obtain rfl | later := List.mem_cons.1 here
    · exact Memory.read_lt m x
    · exact ih (x + 1) b later

theorem Memory.readBytes_add (m : List Host.Cell) (x k n : Nat) :
    Memory.readBytes m x (k + n) = Memory.readBytes m x k ++ Memory.readBytes m (x + k) n := by
  induction k generalizing x with
  | zero => rw [Nat.zero_add, Nat.add_zero]; rfl
  | succ k ih =>
    rw [Nat.succ_add, Memory.readBytes, ih, Memory.readBytes, Nat.add_right_comm]
    rfl

theorem State.toBytes_word (s : State) (x : Nat) : toBytes 16 (s.word x) = s.bytes x 16 := by
  have back := toBytes_ofBytes (Memory.readBytes_lt s.mem x 16)
  rw [Memory.readBytes_length] at back
  rw [State.word, State.bytes, back]

theorem State.byte_setWord_out (s : State) {x a : Nat} (w : Nat) (out : a < x ∨ x + 16 ≤ a) : (s.setWord x w).byte a = s.byte a :=
  s.byte_setBytes_out (by rw [toBytes_length]; exact out)

theorem State.byte_setWords_out {l : List Nat} (s : State) {x a : Nat} (out : a < x ∨ x + 16 * l.length ≤ a) :
    (s.setWords x l).byte a = s.byte a := by
  induction l generalizing s x with
  | nil => rfl
  | cons w t ih =>
    rw [List.length_cons] at out
    rw [State.setWords, ih (s.setWord x w) (by omega), s.byte_setWord_out w (by omega)]

theorem State.setWord_wf {s : State} (canonical : Memory.wf s.mem = true) (x w : Nat) : Memory.wf (s.setWord x w).mem = true := by
  rw [State.setWord_mem]
  exact Memory.writeBytes_wf canonical

theorem State.setWords_wf {s : State} (canonical : Memory.wf s.mem = true) (x : Nat) (l : List Nat) :
    Memory.wf (s.setWords x l).mem = true := by
  induction l generalizing s x with
  | nil => exact canonical
  | cons w t ih =>
    rw [State.setWords]
    exact ih (s.setWord_wf canonical x w) _

end Sys2Proof.Machine
end

section
/-!
PROOF. O41: the commands of the tag's application and the status page (spec/16_tags_and_cards.md R422 to R430).
-/

namespace Sys2Proof.Machine

open Sys2Proof

theorem Keeps.dropChallenge {l : List Nat} {s t : State} (keeps : Keeps l s t) : Keeps l s (Machine.dropChallenge t) := keeps

theorem Keeps.drawBits {l : List Nat} {s t : State} (keeps : Keeps l s t) (w : Nat) : Keeps l s (t.drawBits w).2 := keeps

theorem Keeps.setTag {l : List Nat} {s t : State} (keeps : Keeps l s t) (x : TagState) : Keeps l s (t.setTag x) := keeps

theorem Keeps.tagSay {l : List Nat} {s t : State} (keeps : Keeps l s t) (data : Bytes) (sw : Nat) : Keeps l s (Machine.tagSay data sw t) := keeps

theorem Keeps.tagTo {l : List Nat} {s t : State} (keeps : Keeps l s t) (listed : P.tagState ∈ l) (n : Nat) : Keeps l s (Machine.tagTo n t) :=
  keeps.setReg listed n

theorem tagSay_sent (data : Bytes) (sw : Nat) (s : State) : (tagSay data sw s).sent = .tagApdu data sw :: s.sent := rfl

theorem tagSay_reg (data : Bytes) (sw : Nat) (s : State) (q : Nat) : (tagSay data sw s).reg q = s.reg q := rfl

theorem tagSay_word (data : Bytes) (sw : Nat) (s : State) (a : Nat) : (tagSay data sw s).word a = s.word a := rfl

theorem tagSay_byte (data : Bytes) (sw : Nat) (s : State) (a : Nat) : (tagSay data sw s).byte a = s.byte a := rfl

theorem tagSay_tag (data : Bytes) (sw : Nat) (s : State) : (tagSay data sw s).tag = s.tag := rfl

theorem tagTo_state {n : Nat} (low : n < 256) (s : State) : (tagTo n s).reg P.tagState = n := by
  have width : sizeOf' P.tagState = 1 := by decide +kernel
  exact reg_setReg_fits (by rw [width]; exact low) s

theorem tagTo_reg {q : Nat} (other : q ≠ P.tagState) (n : Nat) (s : State) : (tagTo n s).reg q = s.reg q := State.reg_setReg_ne _ _ other

theorem tagTo_sent (n : Nat) (s : State) : (tagTo n s).sent = s.sent := State.setReg_sent ..

theorem tagTo_tag (n : Nat) (s : State) : (tagTo n s).tag = s.tag := State.setReg_tag ..

theorem setTag_sent (x : TagState) (s : State) : (s.setTag x).sent = s.sent := rfl

theorem dropChallenge_sent (s : State) : (dropChallenge s).sent = s.sent := rfl

/-! ### Words of bank 0 (R426) -/

/-- The addresses of a window's words. -/
def windowAddrs (i n : Nat) : List Nat := (List.range n).map fun k => 0x02001000 + 16 * (i + k)

theorem wrongAt_noteWrong {s : State} {a : Nat} (clean : s.wrongAt a = []) (b : Nat) : (noteWrong b [] s).wrongAt a = [] := by
  have kept : (noteWrong b [] s).mram.wrong = s.mram.wrong.filter fun e => !(e.1 == b) := rfl
  have word : (noteWrong b [] s).word a = s.word a := rfl
  unfold State.wrongAt at clean ⊢
  rw [kept, word, List.find?_filter]
  by_cases same : a = b
  · subst same
    have none : (s.mram.wrong.find? fun e => decide ((!e.1 == a) = true ∧ (e.1 == a) = true)) = none := by
      simp
    rw [none]
  · have as : (fun e : Nat × Nat × List Nat => decide ((!e.1 == b) = true ∧ (e.1 == a) = true)) = fun e => e.1 == a := by
      funext e
      by_cases here : e.1 = a
      · simp [here, same]
      · simp [here]
    rw [as]
    exact clean

/-- What a read of a clean word leaves: nothing but the notes of its errors. -/
structure Unread (s t : State) : Prop where
  mem : t.mem = s.mem
  regs : t.regs = s.regs
  sent : t.sent = s.sent
  clean : ∀ a, s.wrongAt a = [] → t.wrongAt a = []

theorem tagRead_clean {s : State} {a : Nat} (aligned : a / 16 * 16 = a) (clean : s.wrongAt a = []) : ∃ t, Unread s t ∧
    tagRead a s = (stOk, s.word a, t) := by
  unfold tagRead
  split
  · rw [clean, mramRead_clean, aligned]
    exact ⟨noteWrong a [] s, ⟨rfl, rfl, rfl, fun b good => wrongAt_noteWrong good a⟩, rfl⟩
  · have whole : darkBad s a = false := by simp [darkBad, clean, liveErrs]
    rw [whole]
    exact ⟨s, ⟨rfl, rfl, rfl, fun _ good => good⟩, rfl⟩

theorem Unread.trans {s t u : State} (first : Unread s t) (next : Unread t u) : Unread s u :=
  ⟨next.mem.trans first.mem, next.regs.trans first.regs, next.sent.trans first.sent, fun a good => next.clean a (first.clean a good)⟩

/-- Clean words in a row read as the bytes that stand there. -/
theorem tagWords_clean {s : State} {i n : Nat} (clean : ∀ k < n, s.wrongAt (0x02001000 + 16 * (i + k)) = []) : ∃ t, Unread s t ∧
    tagWords (windowAddrs i n) s = (some (s.bytes (0x02001000 + 16 * i) (16 * n)), t) := by
  induction n generalizing s i with
  | zero => exact ⟨s, ⟨rfl, rfl, rfl, fun _ good => good⟩, rfl⟩
  | succ n ih =>
    have split : windowAddrs i (n + 1) = (0x02001000 + 16 * i) :: windowAddrs (i + 1) n := by
      rw [windowAddrs, List.range_succ_eq_map, List.map_cons, List.map_map, windowAddrs]
      refine congrArg (List.cons _) (List.map_congr_left fun k _ => ?_)
      simp only [Function.comp_apply]
      omega
    obtain ⟨t, unread, read⟩ := tagRead_clean (s := s) (a := 0x02001000 + 16 * i) (by omega) (clean 0 (by omega))
    obtain ⟨u, rest, words⟩ := ih (s := t) (i := i + 1) fun k low => by
      refine unread.clean _ ?_
      have at_ := clean (k + 1) (by omega)
      rwa [show i + (k + 1) = i + 1 + k by omega] at at_
    refine ⟨u, unread.trans rest, ?_⟩
    have bytes : s.bytes (0x02001000 + 16 * i) (16 * (n + 1)) =
        s.bytes (0x02001000 + 16 * i) 16 ++ t.bytes (0x02001000 + 16 * (i + 1)) (16 * n) := by
      rw [State.bytes, State.bytes, State.bytes, unread.mem, show 16 * (n + 1) = 16 + 16 * n by omega, Memory.readBytes_add,
        show 0x02001000 + 16 * (i + 1) = 0x02001000 + 16 * i + 16 by omega]
    rw [split, tagWords, read]
    dsimp only
    rw [if_pos rfl, words, bytes, State.toBytes_word]
    rfl

/-- Without I14 a window that holds an uncorrectable word is not read. -/
theorem tagWords_dark {s : State} {l : List Nat} (dark : s.present 14 = false) {a : Nat} (listed : a ∈ l) (bad : darkBad s a = true) :
    tagWords l s = (none, s) := by
  induction l with
  | nil => simp at listed
  | cons b t ih =>
    have fails : stData ≠ stOk := by decide
    rw [tagWords, tagRead, dark, if_neg Bool.false_ne_true]
    by_cases here : darkBad s b = true
    · rw [if_pos here]
      exact if_neg fails
    · have later : a ∈ t := by
        obtain rfl | later := List.mem_cons.1 listed
        · exact absurd bad here
        · exact later
      rw [if_neg here]
      dsimp only
      rw [if_pos rfl, ih later]
      rfl

/-- A word with at most one wrong cell is read. -/
theorem tagRead_readable {s : State} {a : Nat} (aligned : a / 16 * 16 = a) (good : darkBad s a = false) : ∃ t,
    tagRead a s = (stOk, s.word a, t) := by
  have few : (liveErrs s a (s.wrongAt a)).length < 2 := by simpa [darkBad] using good
  unfold tagRead
  split
  · match live : liveErrs s a (s.wrongAt a) with
    | [] =>
      have noted : liveErrs (noteWrong a (s.wrongAt a) s) a (s.wrongAt a) = [] := live
      refine ⟨noteWrong a (s.wrongAt a) s, ?_⟩
      simp only [mramRead, aligned, noted]
      rfl
    | [b] =>
      have placed : liveErrs s (a / 16 * 16) (s.wrongAt a) = [b] := by rw [aligned, live]
      exact ⟨_, by rw [mramRead_single placed, aligned]⟩
    | b :: c :: l => rw [live, List.length_cons, List.length_cons] at few; omega
  · exact ⟨s, by rw [good]; rfl⟩

section
variable {s : State} (block : tagBlock s = true) (app : tagApp s = true)
include block app

theorem readIdentity_selected : readIdentity s = tagSay (s.postId ++ tagUid s ++ [0]) 0x9000 (dropChallenge s) := by
  have running : ¬ tagBlock (dropChallenge s) = false := by rw [show tagBlock (dropChallenge s) = true from block]; decide
  have chosen : ¬ tagApp (dropChallenge s) = false := by rw [show tagApp (dropChallenge s) = true from app]; decide
  exact (if_neg running).trans (if_neg chosen)

theorem readWindow_selected {i le : Nat} (length : le = 16 ∨ le = 32 ∨ le = 48) (inside : i + le / 16 ≤ 256) {x : Option Bytes × State}
    (words : tagWords (windowAddrs i (le / 16)) (dropChallenge s) = x) : readWindow i le false s = match x.1 with
      | some b => tagSay b 0x9000 x.2
      | none => tagSay [] 0x6F00 x.2 := by
  have running : ¬ tagBlock (dropChallenge s) = false := by rw [show tagBlock (dropChallenge s) = true from block]; decide
  have chosen : ¬ tagApp (dropChallenge s) = false := by rw [show tagApp (dropChallenge s) = true from app]; decide
  subst words
  exact (if_neg running).trans ((if_neg chosen).trans ((if_neg (not_not.2 length)).trans ((if_neg (by omega)).trans (if_neg (by decide)))))

theorem tagStatus_selected (vh vr : Nat) : tagStatus vh vr s = tagSay ([tagSt s, if s.pwr.darkKeeper then 2 else 1] ++ toBytes 2 vh ++
    toBytes 2 vr ++ toBytes 4 (s.reg P.tagNoteNext)) 0x9000 (dropChallenge s) := by
  have running : ¬ tagBlock (dropChallenge s) = false := by rw [show tagBlock (dropChallenge s) = true from block]; decide
  have chosen : ¬ tagApp (dropChallenge s) = false := by rw [show tagApp (dropChallenge s) = true from app]; decide
  exact (if_neg running).trans (if_neg chosen)

end

/-! ### Notes (R427, R430) -/

theorem noteWord_lt {text : Bytes} (fits : ofBytes text < 2 ^ 88) (dark aes : Bool) (count : Nat) : noteWord text dark aes count < 2 ^ 128 := by
  have one : ∀ b : Bool, ofBool b ≤ 1 := by decide
  have d := one dark
  have a := one aes
  unfold noteWord
  omega

/-- A note stored. -/
def noteStored (text : Bytes) (s : State) : State :=
  (mramStore (noteAddr (s.reg P.tagNoteNext % 192)) (noteWord text (!s.pwr.vaon) s.tag.byAes (s.reg P.tagNoteNext)) s).setReg P.tagNoteNext
    (s.reg P.tagNoteNext + 1)

theorem writeNote_secured {s : State} {text : Bytes} {vh vr : Nat} (block : tagBlock s = true) (secured : tagSt s = 4)
    (length : text.length = 11) (feed : noteFeed s vh vr = true) (free : s.tag.clearing = none) :
    writeNote text vh vr s = tagSay (toBytes 4 (s.reg P.tagNoteNext)) 0x9000 (noteStored text (dropChallenge s)) := by
  have running : ¬ tagBlock (dropChallenge s) = false := by rw [show tagBlock (dropChallenge s) = true from block]; decide
  have state : ¬ ¬ tagSt (dropChallenge s) = 4 := not_not.2 secured
  have idle : ¬ (dropChallenge s).tag.clearing.isSome = true := by
    rw [show (dropChallenge s).tag.clearing = none from free]
    decide
  have powered : ¬ noteFeed (dropChallenge s) vh vr = false := by rw [show noteFeed (dropChallenge s) vh vr = true from feed]; decide
  exact (if_neg running).trans ((if_neg state).trans ((if_neg (not_not.2 length)).trans ((if_neg idle).trans (if_neg powered))))

theorem noteStored_stores {s : State} {text : Bytes} (fits : ofBytes text < 2 ^ 88) (room : s.reg P.tagNoteNext + 1 < 2 ^ 32)
    (canonical : Memory.wf s.mem = true) :
    (noteStored text s).word (noteAddr (s.reg P.tagNoteNext % 192)) =
        noteWord text (!s.pwr.vaon) s.tag.byAes (s.reg P.tagNoteNext) ∧
      (noteStored text s).reg P.tagNoteNext = s.reg P.tagNoteNext + 1 ∧ (noteStored text s).sent = s.sent ∧
      SameRegs [P.tagNoteNext] s (noteStored text s) ∧ StoresOnly (noteAddr (s.reg P.tagNoteNext % 192)) 16 s (noteStored text s) := by
  have width : sizeOf' P.tagNoteNext = 4 := by decide +kernel
  obtain ⟨word, bytes, regs⟩ := mramStore_wrote (a := noteAddr (s.reg P.tagNoteNext % 192)) canonical
    (noteWord_lt fits (!s.pwr.vaon) s.tag.byAes (s.reg P.tagNoteNext))
  refine ⟨?_, reg_setReg_fits (by rw [width]; exact room) _, ?_, fun q other => ?_, fun a out => ?_⟩
  · rw [noteStored, State.setReg_word, word]
  · rw [noteStored, State.setReg_sent, mramStore_sent]
  · rw [noteStored, State.reg_setReg_ne _ _ (by simpa using other), regs q (by simp)]
  · rw [noteStored, State.setReg_byte, bytes a out]

/-! ### Authentication (R423 to R425) -/

section
variable {s : State} (block : tagBlock s = true) (app : tagApp s = true)
include block app

theorem verifyPassword_judged {pw : Bytes} {k : Nat} (length : pw.length = 8) (password : s.tag.password = some k)
    (allowed : authBarred s 0 = false) : verifyPassword pw s =
      if ofBytes pw = k then tagSay [] 0x9000 (tagTo tagSecured ((dropChallenge s).setTag { (dropChallenge s).tag with byAes := false }))
      else authFailed (dropChallenge s) := by
  have running : ¬ tagBlock (dropChallenge s) = false := by rw [show tagBlock (dropChallenge s) = true from block]; decide
  have chosen : ¬ tagApp (dropChallenge s) = false := by rw [show tagApp (dropChallenge s) = true from app]; decide
  have known : (dropChallenge s).tag.password = some k := password
  have free : ¬ authBarred (dropChallenge s) 0 = true := by rw [show authBarred (dropChallenge s) 0 = false from allowed]; decide
  unfold verifyPassword
  dsimp only
  rw [if_neg running, if_neg chosen, if_neg (not_not.2 length), known]
  exact if_neg free

theorem authenticateOne_challenged (allowed : authBarred s 1 = false) : authenticateOne s =
    tagSay (aesEncrypt (tagKey s) (toBytes 16 ((dropChallenge s).drawBits 128).1)) 0x9000
      (((dropChallenge s).drawBits 128).2.setTag { ((dropChallenge s).drawBits 128).2.tag with rndB := some ((dropChallenge s).drawBits 128).1 }) := by
  have running : ¬ tagBlock (dropChallenge s) = false := by rw [show tagBlock (dropChallenge s) = true from block]; decide
  have chosen : ¬ tagApp (dropChallenge s) = false := by rw [show tagApp (dropChallenge s) = true from app]; decide
  have free : ¬ authBarred (dropChallenge s) 1 = true := by rw [show authBarred (dropChallenge s) 1 = false from allowed]; decide
  exact (if_neg running).trans ((if_neg chosen).trans (if_neg free))

end

/-- A failure of authentication noted. -/
def failNoted (s : State) : State := tagTo tagOpen (s.setTag { s.tag with failAt := some s.mono, rndB := none, byAes := false })

theorem authFailed_counted {s : State} (good : s.pwr.vaon = true) : authFailed s = tagSay [] 0x6300 ((failNoted s).count P.tagAuthFails 1) := by
  have same : (failNoted s).pwr.vaon = true := (congrArg PwrState.vaon (State.setReg_pwr ..)).trans good
  exact congrArg (tagSay [] 0x6300) (if_pos same)

theorem authenticateTwo_right {s : State} {data : Bytes} {b : Nat} (block : tagBlock s = true) (challenge : s.tag.rndB = some b)
    (length : data.length = 32) (right : xorBytes (aesDecrypt (tagKey s) (data.drop 16)) (data.take 16) = rotl (toBytes 16 b)) :
    authenticateTwo data s = tagSay (aesEncrypt (tagKey s) (rotl (aesDecrypt (tagKey s) (data.take 16)))) 0x9000
      (tagTo tagSecured (s.setTag { s.tag with rndB := none, byAes := true })) := by
  unfold authenticateTwo
  rw [if_neg (by rw [block]; decide), challenge]
  dsimp only
  rw [if_neg (not_not.2 length), if_pos right]

/-! ### The status page (R428, R429) -/

theorem pageWords_length (s : State) : (pageWords s).length = 5 := by simp [pageWords]

theorem pageHead_setWord (s : State) (x w cause : Nat) : pageHead (s.setWord x w) cause = pageHead s cause := by
  simp only [pageHead, State.seat, State.setWord_reg, State.setWord_now]

/-- The page once it is rewritten. -/
def pageRewritten (cause : Nat) (w : List Nat) (s : State) : State :=
  ((s.setWord 0x02001000 (pageHead s 0)).setWords 0x02001010 w).setWord 0x02001000 (pageHead (s.setWord 0x02001000 (pageHead s 0)) cause)

theorem pageRewritten_stores {cause : Nat} {w : List Nat} {s : State} (five : w.length = 5) (canonical : Memory.wf s.mem = true) :
    (pageRewritten cause w s).word 0x02001000 = pageHead s cause % 2 ^ 128 ∧ StoresOnly 0x02001000 96 s (pageRewritten cause w s) ∧
      SameRegs [] s (pageRewritten cause w s) := by
  refine ⟨?_, fun a out => ?_, fun q _ => ?_⟩
  · rw [pageRewritten, State.word_setWord (State.setWords_wf (State.setWord_wf canonical _ _) _ _), pageHead_setWord]
  · rw [pageRewritten, State.byte_setWord_out _ _ (by omega), State.byte_setWords_out _ (by rw [five]; omega),
      State.byte_setWord_out _ _ (by omega)]
  · rw [pageRewritten, State.setWord_reg, setWords_reg, State.setWord_reg]

/-- Settles O41, command by command. -/
theorem tagApplication : Obligations.TagApplication := by
  unfold Obligations.TagApplication
  refine ⟨?identity, ?window, ?single, ?bad, ?status, ?note, ?right, ?wrong, ?one, ?two, ?page⟩
  case identity =>
    intro s block app
    exact completes_act rfl (readIdentity_selected block app) ⟨rfl, ((Keeps.refl _ s).dropChallenge).tagSay _ _⟩
  case window =>
    intro s i le block app length inside clean
    obtain ⟨t, unread, words⟩ := tagWords_clean (s := dropChallenge s) (n := le / 16) clean
    have whole : 16 * (le / 16) = le := by omega
    rw [whole] at words
    refine completes_act rfl (readWindow_selected block app length inside words) ⟨?_, (keeps_of_eq unread.regs unread.mem).tagSay _ _⟩
    rw [tagSay_sent, unread.sent]
    rfl
  case single =>
    intro s i block app low good
    obtain ⟨t, read⟩ := tagRead_readable (s := dropChallenge s) (a := 0x02001000 + 16 * i) (by omega) good
    have words : tagWords (windowAddrs i 1) (dropChallenge s) = (some (s.bytes (0x02001000 + 16 * i) 16), t) := by
      rw [show windowAddrs i 1 = [0x02001000 + 16 * i] from rfl, tagWords, read]
      dsimp only
      rw [if_pos rfl, State.toBytes_word]
      exact congrArg (fun l => (some l, t)) (List.append_nil _)
    exact completes_act rfl (readWindow_selected block app (.inl rfl) (by omega) words) rfl
  case bad =>
    intro s i le k block app dark length inside low bad
    have listed : 0x02001000 + 16 * (i + k) ∈ windowAddrs i (le / 16) := List.mem_map.2 ⟨k, List.mem_range.2 low, rfl⟩
    have words := tagWords_dark (s := dropChallenge s) dark listed bad
    exact completes_act rfl (readWindow_selected block app length inside words) ⟨rfl, ((Keeps.refl _ s).dropChallenge).tagSay _ _⟩
  case status =>
    intro s vh vr block app
    exact completes_act rfl (tagStatus_selected block app vh vr) ⟨rfl, ((Keeps.refl _ s).dropChallenge).tagSay _ _⟩
  case note =>
    intro s text vh vr c block secured length fits feed free count room canonical
    subst count
    obtain ⟨word, next, sent, regs, stores⟩ := noteStored_stores (s := dropChallenge s) fits room canonical
    refine completes_act rfl (writeNote_secured block secured length feed free)
      ⟨(tagSay_word ..).trans word, (tagSay_reg ..).trans next, ?_, fun q other => (tagSay_reg ..).trans (regs q other),
        fun a out => (tagSay_byte ..).trans (stores a out)⟩
    rw [tagSay_sent, sent]
    rfl
  case right =>
    intro s pw block app length password allowed
    refine completes_act rfl ((verifyPassword_judged block app length password allowed).trans (if_pos rfl)) ⟨?_, ?_, ?_, ?_⟩
    · rw [tagSay_reg, tagTo_state (by norm_num)]
    · rw [tagSay_tag, tagTo_tag]
      rfl
    · rw [tagSay_sent, tagTo_sent]
      rfl
    · exact (((Keeps.refl _ s).dropChallenge.setTag _).tagTo (by simp) _).tagSay _ _
  case wrong =>
    intro s pw k block app length password other allowed good
    refine completes_act rfl ((verifyPassword_judged block app length password allowed).trans ((if_neg other).trans
      (authFailed_counted good))) ⟨?_, ?_, ?_, ?_, ?_⟩
    · rw [tagSay_reg, State.reg_count_ne _ _ (by decide), failNoted, tagTo_state (by norm_num)]
    · rw [tagSay_tag, State.count_tag, failNoted, tagTo_tag]
      rfl
    · rw [tagSay_reg, State.reg_count, failNoted, tagTo_reg (by decide)]
      rfl
    · rw [tagSay_sent, State.count_sent, failNoted, tagTo_sent]
      rfl
    · exact ((((Keeps.refl _ s).dropChallenge.setTag _).tagTo (by simp) _).count (by simp) 1).tagSay _ _
  case one =>
    intro s block app allowed
    exact completes_act rfl (authenticateOne_challenged block app allowed) ⟨rfl, rfl, (((Keeps.refl _ s).dropChallenge.drawBits 128).setTag _).tagSay _ _⟩
  case two =>
    intro s data b block challenge length right
    refine completes_act rfl (authenticateTwo_right block challenge length right) ⟨?_, ?_, ?_, ?_, ?_⟩
    · rw [tagSay_reg, tagTo_state (by norm_num)]
    · rw [tagSay_tag, tagTo_tag]
      rfl
    · rw [tagSay_tag, tagTo_tag]
      rfl
    · rw [tagSay_sent, tagTo_sent]
      rfl
    · exact (((Keeps.refl _ s).setTag _).tagTo (by simp) _).tagSay _ _
  case page =>
    intro s cause runs canonical
    have act : statusPage cause s = pageRewritten cause (pageWords s) s := if_neg (by rw [runs]; decide)
    exact completes_act rfl act (pageRewritten_stores (pageWords_length s) canonical)

end Sys2Proof.Machine
end

section
/-!
PROOF. O42: what the stage door receives while SDR_DE is high is lost (spec/17_serial_keypad_stage_door.md R449).
-/

namespace Sys2Proof.Machine

open Sys2Proof

/-- A post whose stage door transmits. -/
def sendingPost : State := { Tests.up with ser := { Tests.up.ser with deRise := 0, deFall := Tests.up.mono + 1 } }

/-- A character that arrives during a transmission is lost. -/
theorem uartChar_sending {s : State} (sends : sdrDe s = true) (data : Nat) (parityErr framingErr : Bool) :
    uartChar 0 data parityErr framingErr s = s := by
  unfold uartChar
  dsimp only
  rw [if_pos rfl, if_pos (.inr (.inr sends))]

/-- Refutes O42: its clause of a character at the stage door takes no account of SDR_DE, while which the character is lost. -/
theorem not_serialPorts : ¬ Obligations.SerialPorts := by
  unfold Obligations.SerialPorts
  rintro ⟨-, -, character, -⟩
  obtain ⟨t, run, joined, -⟩ := character sendingPost 65 (by decide +kernel) (by decide +kernel) (by decide +kernel) (by decide +kernel)
    (by decide +kernel) (by decide) (by decide)
  have lost : sendingPost = t :=
    (uartChar_sending (by decide +kernel) 65 false false).symm.trans (Host.Outcome.next.inj run)
  rw [← lost] at joined
  exact absurd (congrArg List.length joined) (by simp)

end Sys2Proof.Machine
end

section
/-!
PROOF. O43: the power module interface and the keypad (spec/17_serial_keypad_stage_door.md R453 to R459).
-/

namespace Sys2Proof.Machine

open Sys2Proof

theorem emit_driven {s : State} {o : Output} (driven : s.drives o = true) : (s.emit o).sent = o :: s.sent := if_pos driven

theorem Keeps.setSer {l : List Nat} {s t : State} (keeps : Keeps l s t) (x : SerState) : Keeps l s (t.setSer x) := keeps

theorem Keeps.setEntry {l : List Nat} {s t : State} (keeps : Keeps l s t) (e : List Nat) : Keeps l s (Machine.setEntry e t) := keeps

theorem setReg_drives (p v : Nat) (o : Output) (s : State) : (s.setReg p v).drives o = s.drives o := by
  rw [State.drives, State.setReg_pwr, State.drives]

/-! ### The power module interface (R453, R454) -/

/-- The current of the next frame. -/
def pmiNext (s : State) : Nat :=
  rampTo s.ser.pmiMa (if pmiOverride s then 0 else s.veh.modI * 100) (s.reg P.wdnDcRampAs * s.reg P.pmiPeriodMs)

/-- A command that waits for its reply. -/
def pmiAwaited (s : State) : State :=
  s.setSer { s.ser with pmiMa := pmiNext s, pmiWait := some (s.ser.pmiSeq % 256), pmiSeq := (s.ser.pmiSeq + 1) % 256 }

/-- A command noted with the word of its values. -/
def pmiNoted (w : Nat) (s : State) : State :=
  ((pmiAwaited s).setReg P.pmiCmd w).setReg P.pmiStatus (setBit ((pmiAwaited s).reg P.pmiStatus) 1 (pmiOverride s))

theorem pmiCommand_runs {s : State} (runs : pmiRuns s = true) : ∃ w b, pmiCommand s = (pmiNoted w s).emit (.uart 1 b) := by
  have go : ¬ pmiRuns s = false := by rw [runs]; decide
  exact ⟨_, _, if_neg go⟩

theorem pmiNoted_ser (w : Nat) (s : State) : (pmiNoted w s).ser =
    { s.ser with pmiMa := pmiNext s, pmiWait := some (s.ser.pmiSeq % 256), pmiSeq := (s.ser.pmiSeq + 1) % 256 } := by
  rw [pmiNoted, State.setReg_ser, State.setReg_ser]
  rfl

theorem pmiNoted_keeps (w : Nat) (s : State) : Keeps [P.pmiCmd, P.pmiStatus] s (pmiNoted w s) :=
  (((Keeps.refl _ s).setSer _).setReg (by decide) _).setReg (by decide) _

theorem pmiNoted_sent (w : Nat) (s : State) : (pmiNoted w s).sent = s.sent := by
  rw [pmiNoted, State.setReg_sent, State.setReg_sent]
  rfl

theorem pmiNoted_drives (w : Nat) (o : Output) (s : State) : (pmiNoted w s).drives o = s.drives o := by
  rw [pmiNoted, setReg_drives, setReg_drives]
  rfl

theorem pmiNoted_override (w : Nat) (s : State) : bitOf ((pmiNoted w s).reg P.pmiStatus) 1 = pmiOverride s :=
  bitOf_reg_setBit (by decide +kernel) _ _ _

theorem bitOf_setBits_below {i lo : Nat} (below : i < lo) (v hi x : Nat) : bitOf (setBits v hi lo x) i = bitOf v i := by
  have whole : 2 ^ lo * (v / 2 ^ lo) + v % 2 ^ lo = v := Nat.div_add_mod v (2 ^ lo)
  have part : 2 ^ lo * (v / 2 ^ lo % 2 ^ (hi + 1 - lo)) ≤ 2 ^ lo * (v / 2 ^ lo) := Nat.mul_le_mul_left _ (Nat.mod_le _ _)
  have place : setBits v hi lo x =
      v % 2 ^ lo + 2 ^ lo * (v / 2 ^ lo - v / 2 ^ lo % 2 ^ (hi + 1 - lo) + x % 2 ^ (hi + 1 - lo)) := by
    rw [setBits, bits, Nat.mul_add, Nat.mul_sub, Nat.mul_comm _ (2 ^ lo), Nat.mul_comm _ (2 ^ lo)]
    omega
  rw [← bitOf_mod_two_pow below, place, Nat.add_mul_mod_self_left, Nat.mod_mod, bitOf_mod_two_pow below]

/-- A valid reply noted. -/
def pmiAnswered (b : Bytes) (s : State) : State :=
  ((s.setSer { s.ser with pmiWait := none, pmiMissed := 0 }).setReg P.pmiMeas (ofBytes (slice b 2 2) + ofBytes (slice b 4 2) * 2 ^ 16)).setReg
    P.pmiStatus (setBits (setBit (s.reg P.pmiStatus) 0 true) 4 2 (b.getD 6 0))

theorem pmiReply_valid {s : State} {b : Bytes} (runs : pmiRuns s = true) (valid : pmiReplyOk s b = true)
    (sound : bitOf (b.getD 6 0) 1 = false) : pmiReply b s = pmiAnswered b s :=
  (if_neg (by rw [runs, valid]; decide)).trans (if_neg (by rw [sound]; decide))

theorem pmiAnswered_answers (b : Bytes) (s : State) : (pmiAnswered b s).ser.pmiWait = none ∧ (pmiAnswered b s).ser.pmiMissed = 0 ∧
    bitOf ((pmiAnswered b s).reg P.pmiStatus) 0 = true ∧
    (pmiAnswered b s).reg P.pmiMeas = (ofBytes (slice b 2 2) + ofBytes (slice b 4 2) * 2 ^ 16) % 2 ^ (8 * sizeOf' P.pmiMeas) ∧
    Keeps [P.pmiMeas, P.pmiStatus] s (pmiAnswered b s) := by
  have ser : (pmiAnswered b s).ser = { s.ser with pmiWait := none, pmiMissed := 0 } := by
    rw [pmiAnswered, State.setReg_ser, State.setReg_ser]
    rfl
  refine ⟨by rw [ser], by rw [ser], ?_, ?_, (((Keeps.refl _ s).setSer _).setReg (by decide) _).setReg (by decide) _⟩
  · rw [pmiAnswered, bitOf_reg_setReg (by decide +kernel), bitOf_setBits_below (by norm_num), bitOf_setBit_self]
  · rw [pmiAnswered, State.reg_setReg_ne _ _ (by decide), State.reg_setReg]

/-- A reply that is missing, with the number missing in a row. -/
def pmiUnanswered (n : Nat) (s : State) : State := s.setSer { s.ser with pmiWait := none, pmiMissed := n }

theorem pmiMissing_few {s : State} (runs : pmiRuns s = true) (waits : s.ser.pmiWait ≠ none) (few : s.ser.pmiMissed < 2) :
    pmiMissing s = pmiUnanswered (s.ser.pmiMissed + 1) s := by
  have count : min 3 (s.ser.pmiMissed + 1) = s.ser.pmiMissed + 1 := by omega
  unfold pmiMissing
  dsimp only
  rw [if_neg (by simp [runs, waits]), count, if_neg (by omega)]
  rfl

/-- The link of the power module lost. -/
def pmiUnlinked (s : State) : State :=
  ((pmiUnanswered 3 s).setReg P.pmiStatus (setBit (s.reg P.pmiStatus) 0 false)).count P.pmiLost 1

theorem pmiUnlinked_ser (s : State) : (pmiUnlinked s).ser = { s.ser with pmiWait := none, pmiMissed := 3 } := by
  rw [pmiUnlinked, State.count_ser, State.setReg_ser]
  rfl

theorem pmiUnlinked_veh (s : State) : (pmiUnlinked s).veh = s.veh := by
  rw [pmiUnlinked, State.count_veh, State.setReg_veh]
  rfl

theorem pmiMissing_third {s : State} (runs : pmiRuns s = true) (waits : s.ser.pmiWait ≠ none) (third : s.ser.pmiMissed = 2)
    (ac : s.veh.dc = false) : pmiMissing s = pmiUnlinked s := by
  have act : pmiMissing s = moduleLost (pmiUnlinked s) := by
    unfold pmiMissing
    dsimp only
    rw [if_neg (by simp [runs, waits]), third, if_pos (by decide)]
    rfl
  rw [act, moduleLost, if_neg (by rw [pmiUnlinked_veh, ac]; simp)]

/-! ### The keypad (R457 to R459) -/

theorem ghosted_one (k : Nat) : ghosted [k] = false := by simp [ghosted]

/-- A key down with no other. -/
def keyAlone (k : Nat) (s : State) : State := s.setSer { s.ser with down := [k] }

/-- A key down noted as the last event. -/
def keyNoted (k : Nat) (s : State) : State := s.setReg P.kpdLast (k + 0 + (bits (s.reg P.kpdLast) 15 8 + 1) % 256 * 256)

theorem keyReport_room {k : Nat} {s : State} (room : s.ser.keys.length < 32) :
    keyReport k true s = (keyNoted k s).setSer { (keyNoted k s).ser with keys := (keyNoted k s).ser.keys ++ [k + 0] } := by
  have keys : (keyNoted k s).ser.keys = s.ser.keys := congrArg SerState.keys (State.setReg_ser s ..)
  have fits : ¬ 32 ≤ (keyNoted k s).ser.keys.length := by rw [keys]; omega
  exact if_neg fits

theorem keyEvent_first {s : State} {k : Nat} (on : s.present 18 = true) (low : k < 20) (none : s.ser.down = []) :
    keyEvent k true s = keyReport k true (keyAlone k s) := by
  have alone : ¬ ghosted (keyAlone k s).ser.down = true := by
    rw [show (keyAlone k s).ser.down = [k] from rfl, ghosted_one]
    decide
  unfold keyEvent
  rw [if_neg (by simp [on, none]; omega), if_pos rfl, none]
  exact if_neg alone

theorem keyDigit_lt {k d : Nat} (digit : keyDigit k = some d) : k < 128 := by
  unfold keyDigit at digit
  split at digit
  · omega
  · split at digit
    · omega
    · cases digit

theorem keyTake_digit {s : State} {k d : Nat} {l : List Nat} (front : s.ser.keys = k :: l) (tally : s.present 9 = true)
    (serial : s.present 18 = true) (free : s.box.token = none) (digit : keyDigit k = some d) :
    keyTake s = setEntry (s.box.entry ++ [d]) (s.setSer { s.ser with keys := l }) := by
  have low := keyDigit_lt digit
  unfold keyTake
  rw [front]
  dsimp only
  rw [if_neg (by simp [tally, serial, free]), if_neg (by omega), keyPress, digit]
  rfl

/-- Settles O43, command by command. -/
theorem moduleAndKeypad : Obligations.ModuleAndKeypad := by
  unfold Obligations.ModuleAndKeypad
  refine ⟨?command, ?reply, ?missing, ?third, ?key, ?digit⟩
  case command =>
    intro s runs powered
    obtain ⟨w, b, act⟩ := pmiCommand_runs runs
    have driven : (pmiNoted w s).drives (.uart 1 b) = true := by
      rw [pmiNoted_drives, State.drives, powered, Bool.or_true]
    refine completes_act rfl act ⟨?_, ?_, ?_, ?_, pmiNoted_override w s, (pmiNoted_keeps w s).emit _⟩
    · exact congrArg SerState.pmiSeq (pmiNoted_ser w s)
    · exact congrArg SerState.pmiWait (pmiNoted_ser w s)
    · exact congrArg SerState.pmiMa (pmiNoted_ser w s)
    · rw [emit_driven driven, pmiNoted_sent, List.length_cons]
  case reply =>
    intro s b runs valid sound
    exact completes_act rfl (pmiReply_valid runs valid sound) (pmiAnswered_answers b s)
  case missing =>
    intro s runs waits few
    exact completes_act rfl (pmiMissing_few runs waits few) ⟨rfl, rfl, (Keeps.refl _ s).setSer _⟩
  case third =>
    intro s runs waits third ac
    refine completes_act rfl (pmiMissing_third runs waits third ac) ⟨?_, ?_, ?_, ?_⟩
    · rw [pmiUnlinked_ser]
    · rw [pmiUnlinked, State.reg_count_ne _ _ (by decide), bitOf_reg_setBit (by decide +kernel)]
    · rw [pmiUnlinked, State.reg_count, State.reg_setReg_ne _ _ (by decide)]
      rfl
    · exact (((Keeps.refl _ s).setSer _).setReg (by decide) _).count (by decide) 1
  case key =>
    intro s k on low none room
    have width : sizeOf' P.kpdLast = 2 := by decide +kernel
    have ser : (keyNoted k (keyAlone k s)).ser = { s.ser with down := [k] } := State.setReg_ser (keyAlone k s) ..
    have act := (keyEvent_first on low none).trans (keyReport_room (s := keyAlone k s) room)
    refine completes_act rfl act ⟨?_, ?_, ?_, (((Keeps.refl _ s).setSer _).setReg (by decide) _).setSer _⟩
    · rw [ser]
      rfl
    · rw [ser]
      rfl
    · exact reg_setReg_fits (by rw [width]; omega) _
  case digit =>
    intro s k d l front tally serial free digit
    exact completes_act rfl (keyTake_digit front tally serial free digit) ⟨rfl, rfl, rfl, ((Keeps.refl _ s).setSer _).setEntry _⟩

end Sys2Proof.Machine
end

section
/-!
PROOF. O46: the CRC of a verified image (spec/19_wings.md R486, R489).
-/

namespace Sys2Proof.Machine

open Sys2Proof

/-- One byte of the CRC-32. -/
def crcByte (c b : Nat) : Nat := crcStepR 0xEDB88320 (c ^^^ b % 256) 8

/-- The bytes of the CRC-32 taken with each value computed before the next byte, so that the kernel evaluates it for long lists. -/
def crcFrom : Bytes → Nat → Nat
  | [], c => c
  | b :: t, 0 => crcFrom t (crcByte 0 b)
  | b :: t, c + 1 => crcFrom t (crcByte (c + 1) b)

theorem crcFrom_eq (l : Bytes) (c : Nat) : crcFrom l c = l.foldl crcByte c := by
  induction l generalizing c with
  | nil => rfl
  | cons b t ih =>
    cases c with
    | zero => exact ih _
    | succ c => exact ih _

theorem crc32_eq_crcFrom (l : Bytes) : crc32 l = crcFrom l 0xFFFFFFFF ^^^ 0xFFFFFFFF := by
  rw [crcFrom_eq]
  rfl

/-- A staging of an image of 256 bytes with one byte behind it. -/
def longStaging : State := (Tests.upW 3 { Tests.wngW with staged := 257 }).setWords wingsBank Tests.imgW

/-- The CRC shown is that of the image, not of what was staged behind it. -/
theorem verifyComplete_crc {s : State} (verifying : wngState s = 3) (sound : verifyResult true s = 0) :
    (verifyComplete true s).reg P.wngPendingCrc =
      crc32 (s.bytes wingsBank (min s.wng.staged (imageLen s wingsBank))) % 2 ^ (8 * sizeOf' P.wngPendingCrc) := by
  have status : ∀ u : State, (wngTo 4 0 u).reg P.wngPendingCrc = u.reg P.wngPendingCrc := fun u => State.reg_setReg_ne _ _ (by decide)
  simp only [verifyComplete, verifying, not_true_eq_false, if_false, sound, if_true, updateRecord]
  rw [(offBook_reg (q := P.wngPendingCrc) (by decide)).records, status, State.reg_setReg]

/-- Refutes O46: the CRC of a verified image covers the image, and its first clause takes every byte that was staged, one more here. -/
theorem not_imagesJudged : ¬ Obligations.ImagesJudged := by
  unfold Obligations.ImagesJudged
  rintro ⟨verified, -⟩
  have verifying : wngState longStaging = 3 := by decide +kernel
  have sound : verifyResult true longStaging = 0 := by decide +kernel
  obtain ⟨t, run, -, crc⟩ := verified longStaging true verifying sound
  have next : verifyComplete true longStaging = t := Host.Outcome.next.inj run
  rw [← next, verifyComplete_crc verifying sound, crc32_eq_crcFrom, crc32_eq_crcFrom] at crc
  exact absurd crc (by decide +kernel)

end Sys2Proof.Machine
end

section
/-!
PROOF. O45: the display's power-on, faults and power-off (spec/18_display.md R464, R465, R477 to R480).
-/

namespace Sys2Proof.Machine

open Sys2Proof

/-! ### The state's parts -/

theorem Keeps.setDsp {l : List Nat} {s t : State} (keeps : Keeps l s t) (d : DspState) : Keeps l s (t.setDsp d) := keeps

theorem Keeps.toDsp {l : List Nat} {s t : State} (keeps : Keeps l s t) (listed : P.dspState ∈ l) (n : Nat) : Keeps l s (Machine.toDsp n t) :=
  keeps.setReg listed n

theorem Keeps.dspResult {l : List Nat} {s t : State} (keeps : Keeps l s t) (listed : P.dspResult ∈ l) (n : Nat) :
    Keeps l s (Machine.dspResult n t) := keeps.setReg listed n

theorem Keeps.readTemp {l : List Nat} {s t : State} (keeps : Keeps l s t)
    (listed : P.dspTemp ∈ l ∧ P.dspTempUsed ∈ l ∧ P.dspBand ∈ l) : Keeps l s (Machine.readTemp t) :=
  ((keeps.setRegI listed.1 _).setReg listed.2.1 _).setReg listed.2.2 _

theorem dspState_toDsp {n : Nat} (low : n < 256) (s : State) : dspState (toDsp n s) = n := by
  have width : sizeOf' P.dspState = 1 := by decide +kernel
  exact reg_setReg_fits (by rw [width]; exact low) s

theorem toDsp_dsp (n : Nat) (s : State) : (toDsp n s).dsp = s.dsp := State.setReg_dsp ..

theorem toDsp_reg {q : Nat} (other : q ≠ P.dspState) (n : Nat) (s : State) : (toDsp n s).reg q = s.reg q := State.reg_setReg_ne _ _ other

theorem readTemp_dsp (s : State) : (readTemp s).dsp = s.dsp := by
  rw [readTemp, State.setReg_dsp, State.setReg_dsp, State.setRegI, State.setReg_dsp]

theorem readTemp_reg {q : Nat} (other : q ∉ [P.dspTemp, P.dspTempUsed, P.dspBand]) (s : State) : (readTemp s).reg q = s.reg q :=
  ((Keeps.refl _ s).readTemp (by decide)).reg other

/-! ### Power-on (R477) -/

/-- The rails rising at the band that the panel's temperature calls for. -/
def dspRising (s : State) : State :=
  toDsp 1 (s.setDsp { s.dsp with
    band := s.reg P.dspBand, lastBand := some (s.reg P.dspBand), frames := 0, runs := [], waiting := none, offReq := false })

theorem powerOn_warm {s : State} (on : s.present 19 = true) (power : s.domOn 61 = true) (off : dspState s = 0 ∨ dspState s = 6)
    (loaded : s.dsp.loaded = true) (warm : tooCold (readTemp s) = false) : powerOn s = dspRising (readTemp s) := by
  unfold powerOn
  rw [if_neg (by simp [on, power, off]), if_pos loaded]
  dsimp only
  rw [if_neg (by omega), if_neg (by rw [warm]; decide)]
  rfl

theorem dspRising_rises (s : State) : dspState (dspRising s) = 1 ∧ (dspRising s).dsp.frames = 0 ∧ (dspRising s).dsp.offReq = false ∧
    (dspRising s).dsp.band = s.reg P.dspBand := by
  rw [dspRising, dspState_toDsp (by norm_num), toDsp_dsp]
  exact ⟨rfl, rfl, rfl, rfl⟩

theorem dspRising_keeps (s : State) : Keeps [P.dspState, P.dspTemp, P.dspTempUsed, P.dspBand] s (dspRising (readTemp s)) :=
  (((Keeps.refl _ s).readTemp (by decide)).setDsp _).toDsp (by decide) 1

/-! ### Updates cut (R476 to R479) -/

theorem cutUpdate_cuts {st : Nat} (low : st < 256) (result : Nat) (s : State) : dspState (cutUpdate result st s) = st ∧
    (cutUpdate result st s).dsp.runs = [] ∧ (cutUpdate result st s).dsp.waiting = none ∧
    Keeps [P.dspState, P.dspResult] s (cutUpdate result st s) := by
  unfold cutUpdate
  dsimp only
  rw [dspState_toDsp low, toDsp_dsp]
  refine ⟨rfl, rfl, rfl, ?_⟩
  split
  · exact (((Keeps.refl _ s).dspResult (by decide) _).setDsp _).toDsp (by decide) st
  · exact ((Keeps.refl _ s).setDsp _).toDsp (by decide) st

theorem Keeps.weaken {l m : List Nat} {s t : State} (keeps : Keeps l s t) (sub : ∀ p ∈ l, p ∈ m) : Keeps m s t :=
  ⟨fun p other => keeps.1 p fun here => other (sub p here), keeps.2⟩

/-- A fault bit of the display set. -/
def dspFaulted (b : Nat) (s : State) : State := s.setReg P.irnDspFaults (setBit (s.reg P.irnDspFaults) b true)

theorem dspDriven_faulted (b : Nat) (s : State) : dspDriven (dspFaulted b s) = dspDriven s := by
  rw [dspDriven, dspState, dspFaulted, State.reg_setReg_ne _ _ (by decide), dspDriven, dspState]

theorem dspFaulted_bit {b : Nat} (low : b < 8) (s : State) : bitOf ((dspFaulted b s).reg P.irnDspFaults) b = true := by
  have width : sizeOf' P.irnDspFaults = 1 := by decide +kernel
  exact bitOf_reg_setBit (by rw [width]; omega) _ _ s

/-- A fault cuts the update and shows its bit. -/
theorem cutUpdate_faulted {st b : Nat} (low : st < 256) (bit : b < 8) (result : Nat) (s : State) :
    dspState (cutUpdate result st (dspFaulted b s)) = st ∧ bitOf ((cutUpdate result st (dspFaulted b s)).reg P.irnDspFaults) b = true ∧
      (cutUpdate result st (dspFaulted b s)).dsp.runs = [] ∧
      Keeps [P.dspState, P.dspResult, P.irnDspFaults] s (cutUpdate result st (dspFaulted b s)) := by
  obtain ⟨state, runs, -, keeps⟩ := cutUpdate_cuts low result (dspFaulted b s)
  refine ⟨state, ?_, runs, ?_⟩
  · rw [keeps.reg (by decide), dspFaulted_bit bit]
  · have faulted : Keeps [P.irnDspFaults] s (dspFaulted b s) := keeps_setReg s _ _
    exact (faulted.trans keeps).weaken (by decide)

theorem slotMissing_cut {s : State} (power : s.domOn 61 = true) (rails : s.reg P.irnDspRails ≠ 0) (driven : dspDriven s = true) :
    slotMissing s = cutUpdate 2 5 (dspFaulted 2 s) :=
  (if_neg (by simp [power, rails])).trans (if_pos ((dspDriven_faulted 2 s).trans driven))

/-! ### Power-off (R478) -/

/-- A display that is asked to switch off while it stands idle. -/
def dspLeaving (s : State) : State := toDsp 5 (s.setDsp { s.dsp with offReq := true, waiting := none })

theorem displayPowerOff_idle {s : State} (idle : dspState s = 3) (free : s.dsp.waiting = none) : displayPowerOff s = dspLeaving s := by
  unfold displayPowerOff
  rw [idle, free]
  rfl

/-- A display whose rails are discharged. -/
def dspGone (s : State) : State := toDsp 0 (s.setReg P.irnDspRails 0)

theorem railsDischarged_off {s : State} (discharging : dspState s = 5) (asked : s.dsp.offReq = true) :
    railsDischarged s = ((dspGone s).setDsp { (dspGone s).dsp with offReq := false }).setDom 61 .off := by
  have same : dspState (s.setReg P.irnDspRails 0) = 5 := (State.reg_setReg_ne _ _ (by decide)).trans discharging
  have still : (dspGone s).dsp.offReq = true := by
    rw [dspGone, toDsp_dsp, State.setReg_dsp]
    exact asked
  unfold railsDischarged
  dsimp only
  rw [if_neg (by simp [discharging]), if_pos (Or.inl same)]
  exact if_pos still

/-- The tier brought up to date leaves what neither the Callboard, the clocks nor SMG_TIER hold. -/
theorem updateTier_keeps {β : Type} {g : State → β} (event : OffEvent g) (clocks : ∀ (s : State) clk, g { s with clk := clk } = g s)
    (tier : ∀ (s : State) v, g (s.setReg P.smgTier v) = g s) (s : State) : g (updateTier s) = g s := by
  unfold updateTier
  split
  · rfl
  · exact (event.relay ..).trans ((clocks _ _).trans (tier s _))

theorem updateTier_reg {q : Nat} (off : q ∉ eventPids) (other : q ≠ P.smgTier) (s : State) : (updateTier s).reg q = s.reg q :=
  updateTier_keeps (offEvent_reg off) (fun _ _ => rfl) (fun s _ => State.reg_setReg_ne s _ other) s

theorem updateTier_dsp (s : State) : (updateTier s).dsp = s.dsp :=
  updateTier_keeps (offBook_of_apart (g := State.dsp) (fun _ => rfl) fun _ _ _ _ _ _ _ => rfl).toOffEvent (fun _ _ => rfl)
    (fun s _ => State.setReg_dsp s ..) s

theorem updateTier_mem (s : State) : (updateTier s).mem = s.mem := by
  unfold updateTier
  split
  · rfl
  · exact (relay_mem ..).trans (State.setReg_mem s P.smgTier (tierNow s))

theorem Keeps.setDom {l : List Nat} {s t : State} (keeps : Keeps l s t) (d : Nat) (x : DomState) : Keeps l s (t.setDom d x) := keeps

/-- Settles O45, command by command. -/
theorem displayPower : Obligations.DisplayPower := by
  unfold Obligations.DisplayPower
  refine ⟨?on, ?retry, ?rail, ?slot, ?off, ?timeout, ?abrupt, ?discharged⟩
  case on =>
    intro s present power off loaded warm
    obtain ⟨state, frames, asked, band⟩ := dspRising_rises (readTemp s)
    exact completes_act rfl ((if_pos off).trans (powerOn_warm present power (.inl off) loaded warm))
      ⟨state, frames, asked, band, dspRising_keeps s⟩
  case retry =>
    intro s present power cold loaded warm
    obtain ⟨state, frames, asked, -⟩ := dspRising_rises (readTemp s)
    exact completes_act rfl ((if_pos cold).trans (powerOn_warm present power (.inr cold) loaded warm))
      ⟨state, frames, asked, dspRising_keeps s⟩
  case rail =>
    intro s late driven
    have act : railFault late s = cutUpdate 3 7 (dspFaulted (if late then 0 else 1) s) := if_neg (by rw [driven]; decide)
    exact completes_act rfl act (cutUpdate_faulted (by norm_num) (by split <;> norm_num) 3 s)
  case slot =>
    intro s power rails driven
    exact completes_act rfl (slotMissing_cut power rails driven) (cutUpdate_faulted (by norm_num) (by norm_num) 2 s)
  case off =>
    intro s present idle free
    refine completes_act rfl ((if_pos present).trans (displayPowerOff_idle idle free)) ⟨dspState_toDsp (by norm_num) _, ?_, ?_⟩
    · rw [dspLeaving, toDsp_dsp]
      rfl
    · exact ((Keeps.refl _ s).setDsp _).toDsp (by decide) 5
  case timeout =>
    intro s asked driven
    obtain ⟨state, runs, -, keeps⟩ := cutUpdate_cuts (st := 5) (by norm_num) 2 s
    exact completes_act rfl ((if_pos asked).trans (if_pos driven)) ⟨state, runs, keeps⟩
  case abrupt =>
    intro s driven
    exact completes_act rfl (if_pos driven) (cutUpdate_cuts (by norm_num) 2 s)
  case discharged =>
    intro s discharging asked
    have keeps : Keeps [P.dspState, P.irnDspRails] s (dspGone s) := ((Keeps.refl _ s).setReg (by decide) _).toDsp (by decide) 0
    have rails : (dspGone s).reg P.irnDspRails = 0 := (toDsp_reg (by decide) 0 _).trans ((State.reg_setReg ..).trans (Nat.zero_mod _))
    refine completes_act rfl (congrArg updateTier (railsDischarged_off discharging asked)) ⟨?_, ?_, ?_, ?_⟩
    · rw [dspState, updateTier_reg (by decide) (by decide)]
      exact dspState_toDsp (n := 0) (by norm_num) (s.setReg P.irnDspRails 0)
    · rw [updateTier_reg (by decide) (by decide)]
      exact rails
    · rw [updateTier_dsp]
      rfl
    · exact fun a => (sameMem_of_mem (updateTier_mem _) a).trans ((keeps.setDsp _).setDom 61 .off |>.mem a)

end Sys2Proof.Machine
end

section
/-!
PROOF. O44: targets, frames, blinking, temperature and the waveform set of the display (spec/18_display.md R467 to R476).
-/

namespace Sys2Proof.Machine

open Sys2Proof

theorem dspResult_dsp (n : Nat) (s : State) : (dspResult n s).dsp = s.dsp := State.setReg_dsp ..

theorem dspResult_result {n : Nat} (low : n < 256) (s : State) : (dspResult n s).reg P.dspResult = n := by
  have width : sizeOf' P.dspResult = 1 := by decide +kernel
  exact reg_setReg_fits (by rw [width]; exact low) s

theorem dspResult_reg {q : Nat} (other : q ≠ P.dspResult) (n : Nat) (s : State) : (dspResult n s).reg q = s.reg q :=
  State.reg_setReg_ne _ _ other

/-! ### Targets (R471 to R473) -/

/-- What the numeric fields leave: all but their own levels. -/
theorem renderFields_eq (s : State) : ∃ l b, renderFields s = s.setDsp { s.dsp with fields := l, fieldBlink := b } := by
  unfold renderFields
  split
  · exact ⟨s.dsp.fields, s.dsp.fieldBlink, rfl⟩
  · exact ⟨_, _, rfl⟩

theorem Keeps.renderFields {l : List Nat} {s t : State} (keeps : Keeps l s t) : Keeps l s (Machine.renderFields t) := by
  obtain ⟨fields, blink, eq⟩ := renderFields_eq t
  rw [eq]
  exact keeps.setDsp _

theorem renderFields_reg (q : Nat) (s : State) : (renderFields s).reg q = s.reg q := ((Keeps.refl [] s).renderFields).reg (by simp)

theorem renderFields_dsp (s : State) : (renderFields s).dsp.offReq = s.dsp.offReq ∧ (renderFields s).dsp.dark = s.dsp.dark := by
  obtain ⟨fields, blink, eq⟩ := renderFields_eq s
  rw [eq]
  exact ⟨rfl, rfl⟩

theorem renderFields_state (s : State) : dspState (renderFields s) = dspState s := renderFields_reg ..

/-- A target that waits for the update in progress. -/
def targetWaits (s : State) : State :=
  dspResult 4 ((s.setDsp { s.dsp with waiting := some (composeTarget s) }).count P.dspUpdates 1)

theorem newTarget_busy {s : State} (on : s.present 19 = true) (updating : dspState s = 4) (stays : s.dsp.offReq = false) :
    newTarget s = targetWaits (renderFields s) := by
  have state : dspState (renderFields s) = 4 := (renderFields_state s).trans updating
  have off : (renderFields s).dsp.offReq = false := (renderFields_dsp s).1.trans stays
  have runs : ¬ (dspState (renderFields s) = 0 ∨ dspState (renderFields s) = 5 ∨ (renderFields s).dsp.offReq = true) := by
    simp [state, off]
  exact (if_neg (by rw [on]; decide)).trans ((if_neg (by omega)).trans ((if_neg runs).trans ((if_neg (by omega)).trans
    ((if_neg (by omega)).trans ((if_neg (by omega)).trans (if_pos state))))))

theorem targetWaits_waits (s : State) : (targetWaits s).dsp.waiting = some (composeTarget s) ∧ (targetWaits s).dsp.dark = s.dsp.dark ∧
    (targetWaits s).reg P.dspResult = 4 ∧
    (targetWaits s).reg P.dspUpdates = satAdd (8 * sizeOf' P.dspUpdates) (s.reg P.dspUpdates) 1 ∧
    Keeps [P.dspResult, P.dspUpdates] s (targetWaits s) := by
  have dsp : (targetWaits s).dsp = { s.dsp with waiting := some (composeTarget s) } := by
    rw [targetWaits, dspResult_dsp, State.count_dsp]
    rfl
  have keeps : Keeps [P.dspResult, P.dspUpdates] s (targetWaits s) := by
    unfold targetWaits
    exact (((Keeps.refl _ s).setDsp _).count (by decide) 1).dspResult (by decide) 4
  have result : (targetWaits s).reg P.dspResult = 4 := by
    unfold targetWaits
    exact dspResult_result (by norm_num) _
  have updates : (targetWaits s).reg P.dspUpdates = satAdd (8 * sizeOf' P.dspUpdates) (s.reg P.dspUpdates) 1 := by
    rw [targetWaits, dspResult_reg (by decide), State.reg_count]
    rfl
  rw [dsp]
  exact ⟨rfl, rfl, result, updates, keeps⟩

theorem newTarget_idle {s : State} (on : s.present 19 = true) (idle : dspState s = 3) (stays : s.dsp.offReq = false) :
    newTarget s = idleTarget (composeTarget (renderFields s)) (renderFields s) := by
  have state : dspState (renderFields s) = 3 := (renderFields_state s).trans idle
  have off : (renderFields s).dsp.offReq = false := (renderFields_dsp s).1.trans stays
  have runs : ¬ (dspState (renderFields s) = 0 ∨ dspState (renderFields s) = 5 ∨ (renderFields s).dsp.offReq = true) := by
    simp [state, off]
  exact (if_neg (by rw [on]; decide)).trans ((if_neg (by omega)).trans ((if_neg runs).trans ((if_neg (by omega)).trans
    ((if_neg (by omega)).trans (if_pos state)))))

/-! ### Segments started (R471) -/

/-- The registers that an update writes. -/
def updatePids : List Nat := [P.dspImageNow, P.dspResult, P.dspLastDurMs, P.dspState]

section
variable {β : Type} {g : State → β} (regs : ∀ (s : State) (p v : Nat), p ∈ updatePids → g (s.setReg p v) = g s)
  (runs : ∀ (s : State) l, g (s.setDsp { s.dsp with runs := l }) = g s)
  (waits : ∀ (s : State) t, g (s.setDsp { s.dsp with waiting := t }) = g s)
  (slots : ∀ (s : State) l, g (putSlots l s) = g s)

include regs runs in
theorem startResting_keeps (s : State) : g (startResting s) = g s := by
  refine foldl_keeps g (fun i _ u => ?_) s
  split
  · rfl
  · unfold startRun
    split
    · exact regs _ _ _ (by decide)
    · exact runs _ _

include regs waits slots in
theorem updateGoes_keeps (s : State) : g (updateGoes s) = g s := by
  unfold updateGoes
  split
  · dsimp only
    exact (regs _ P.dspState _ (by decide)).trans ((waits _ _).trans ((regs _ P.dspLastDurMs _ (by decide)).trans
      (regs _ P.dspResult _ (by decide))))
  · exact slots s _

end

theorem putSlots_reg (l : List Nat) (s : State) (q : Nat) : (putSlots l s).reg q = s.reg q := by
  rw [putSlots, State.setBytes_reg]
  rfl

theorem putSlots_dsp (l : List Nat) (s : State) : (putSlots l s).dsp = s.dsp := by
  rw [putSlots, State.setBytes_dsp]
  rfl

theorem putSlots_stores (l : List Nat) (s : State) : StoresOnly 0x20010000 64 s (putSlots l s) := by
  intro a out
  rw [putSlots, State.byte_setBytes_out _ (by rw [List.length_append, toBytes_length, toBytes_length]; exact out)]
  rfl

/-- The state in which an update of a target begins. -/
def updateBegun (t : Nat) (s : State) : State :=
  toDsp 4 (((s.setDsp { s.dsp with
    target := t, waiting := none, runs := [], frames := 0, band := s.reg P.dspBand, lastBand := some (s.reg P.dspBand) })).setReg
      P.irnDspRails (railWord (s.setDsp { s.dsp with
        target := t, waiting := none, runs := [], frames := 0, band := s.reg P.dspBand, lastBand := some (s.reg P.dspBand) }) (s.reg P.dspBand)))

theorem startUpdate_eq (t : Nat) (s : State) : startUpdate t s = updateGoes (startResting (updateBegun t s)) := rfl

theorem startUpdate_target (t : Nat) (s : State) : (startUpdate t s).dsp.target = t := by
  have regs : ∀ (u : State) (p v : Nat), p ∈ updatePids → (u.setReg p v).dsp.target = u.dsp.target :=
    fun u p v _ => congrArg DspState.target (State.setReg_dsp u p v)
  rw [startUpdate_eq, updateGoes_keeps (g := fun u => u.dsp.target) regs (fun _ _ => rfl) (fun u l => congrArg DspState.target (putSlots_dsp l u)),
    startResting_keeps (g := fun u => u.dsp.target) regs (fun _ _ => rfl), updateBegun, toDsp_dsp, State.setReg_dsp]
  rfl

theorem startUpdate_reg {q : Nat} (other : q ∉ updatePids) (rails : q ≠ P.irnDspRails) (t : Nat) (s : State) :
    (startUpdate t s).reg q = s.reg q := by
  have regs : ∀ (u : State) (p v : Nat), p ∈ updatePids → (u.setReg p v).reg q = u.reg q :=
    fun u p v listed => u.reg_setReg_ne v (ne_of_mem_of_not_mem listed other).symm
  have state : q ≠ P.dspState := fun eq => other (by rw [eq]; decide)
  rw [startUpdate_eq, updateGoes_keeps (g := fun u => u.reg q) regs (fun _ _ => rfl) (fun u l => putSlots_reg l u q),
    startResting_keeps (g := fun u => u.reg q) regs (fun _ _ => rfl), updateBegun, toDsp_reg state, State.reg_setReg_ne _ _ rails]
  rfl

theorem idleTarget_warm {s : State} (warm : tooCold (readTemp s) = false) (t : Nat) :
    idleTarget t s = startUpdate t ((readTemp s).count P.dspUpdates 1) := if_neg (by rw [warm]; decide)

/-! ### Frames (R472, R476) -/

theorem frameEnd_clear {s : State} (on : s.present 19 = true) (power : s.domOn 61 = true) (clearing : dspState s = 2)
    (more : s.dsp.frames + 1 < waveLen s s.dsp.band 3 0) : frameEnd s =
      putSlots (clearSlots s (s.dsp.frames + 1)) (s.setDsp { s.dsp with frames := s.dsp.frames + 1 }) := by
  have goes : ¬ waveLen (s.setDsp { s.dsp with frames := s.dsp.frames + 1 }) s.dsp.band 3 0 ≤ s.dsp.frames + 1 := by
    rw [show waveLen (s.setDsp { s.dsp with frames := s.dsp.frames + 1 }) s.dsp.band 3 0 = waveLen s s.dsp.band 3 0 from rfl]
    omega
  unfold frameEnd
  rw [if_neg (by simp [on, power]), clearing]
  exact if_neg goes

/-- Where every segment runs or stands at its target, none is started. -/
theorem startResting_still {s : State} (still : ∀ i < 768, (s.dsp.runs.map (·.seg)).contains i = true ∨
    levelAt (s.reg P.dspImageNow) i = levelAt s.dsp.target i) : startResting s = s := by
  refine List.foldlRecOn (motive := fun u => u = s) _ _ rfl fun u same i here => ?_
  have low : i < 768 := List.mem_range.1 here
  rw [same]
  exact if_pos (still i low)

/-- The next frame of a segment whose waveform goes on. -/
def SegRun.next (r : SegRun) : SegRun := { r with frame := r.frame + 1 }

/-- An update with one running segment that goes on. -/
def runGoesOn (r : SegRun) (s : State) : State :=
  s.setDsp { s.dsp with waiting := none, runs := [r.next], frames := s.dsp.frames + 1 }

/-- An update at the end of a frame, before its running segments are judged. -/
def frameCounted (s : State) : State := s.setDsp { s.dsp with waiting := none, runs := [], frames := s.dsp.frames + 1 }

theorem judgeRun_goesOn {s : State} {r : SegRun} (more : r.frame + 1 < waveLen s s.dsp.band r.old r.new)
    (stays : s.dsp.offReq = false) (same : levelAt s.dsp.target r.seg = r.new) : judgeRun r (frameCounted s) = runGoesOn r s := by
  have short : ¬ r.frame + 1 = waveLen (frameCounted s) (frameCounted s).dsp.band r.old r.new := by
    rw [show waveLen (frameCounted s) (frameCounted s).dsp.band r.old r.new = waveLen s s.dsp.band r.old r.new from rfl]
    omega
  have want : (if (frameCounted s).dsp.offReq then r.new else levelAt (frameCounted s).dsp.target r.seg) = r.new := by
    rw [show (frameCounted s).dsp.offReq = false from stays, if_neg Bool.false_ne_true]
    exact same
  unfold judgeRun
  dsimp only
  rw [if_neg short, want, if_neg (by simp)]
  rfl

theorem updateFrame_goesOn {s : State} {r : SegRun} (running : s.dsp.runs = [r]) (free : s.dsp.waiting = none) (stays : s.dsp.offReq = false)
    (more : r.frame + 1 < waveLen s s.dsp.band r.old r.new) (same : levelAt s.dsp.target r.seg = r.new)
    (still : ∀ i < 768, i = r.seg ∨ levelAt (s.reg P.dspImageNow) i = levelAt s.dsp.target i) :
    updateFrame s = putSlots (frameSlots (runGoesOn r s)) (runGoesOn r s) := by
  have resting : startResting (runGoesOn r s) = runGoesOn r s := startResting_still fun i low => by
    obtain rfl | level := still i low
    · exact .inl (by simp [runGoesOn, State.setDsp, SegRun.next])
    · exact .inr level
  have goes : updateGoes (runGoesOn r s) = putSlots (frameSlots (runGoesOn r s)) (runGoesOn r s) := if_neg (by simp [runGoesOn, State.setDsp])
  have counted : s.setDsp { s.dsp with
      target := s.dsp.waiting.getD s.dsp.target, waiting := none, runs := [], frames := s.dsp.frames + 1 } = frameCounted s := by
    rw [free]
    rfl
  have judged : [r].foldl (fun s r => judgeRun r s) (frameCounted s) = runGoesOn r s := judgeRun_goesOn more stays same
  have on : ¬ (runGoesOn r s).dsp.offReq = true := by rw [show (runGoesOn r s).dsp.offReq = false from stays]; decide
  unfold updateFrame
  dsimp only
  rw [counted, running, judged, if_neg on, resting, goes]

theorem frameEnd_update {s : State} (on : s.present 19 = true) (power : s.domOn 61 = true) (updating : dspState s = 4) :
    frameEnd s = updateFrame s := by
  unfold frameEnd
  rw [if_neg (by simp [on, power]), updating]
  rfl

/-! ### Temperature, frontlight and the waveform set (R467 to R469, R475) -/

theorem readTemp_reads (s : State) :
    (readTemp s).regI P.dspTemp = max (-32768) (min 32767 ((panelTemp s).2 + s.regI P.dspTempOffset)) ∧
      (readTemp s).reg P.dspTempUsed = (panelTemp s).1 % 256 := by
  have width : sizeOf' P.dspTemp = 2 ∧ sizeOf' P.dspTempUsed = 1 := by decide +kernel
  obtain ⟨temp, used⟩ := width
  refine ⟨?_, ?_⟩
  · have same : (readTemp s).reg P.dspTemp = (s.setRegI P.dspTemp (max (-32768) (min 32767 ((panelTemp s).2 + s.regI P.dspTempOffset)))).reg
        P.dspTemp := by
      rw [readTemp, State.reg_setReg_ne _ _ (by decide), State.reg_setReg_ne _ _ (by decide)]
    rw [regI_congr same]
    exact regI_setRegI_two temp (by omega) (by omega) s
  · rw [readTemp, State.reg_setReg_ne _ _ (by decide), State.reg_setReg, used]
    norm_num

theorem sinkFault_shows {s : State} {k : Nat} (low : k < 2) (lit : sinkCurrent s k ≠ 0) : sinkFault k s = dspFaulted (3 + k) s :=
  if_pos ⟨low, lit⟩

/-- The waveform set of the cast taken over. -/
def setTaken (s : State) : State := (toDsp 0 s).setDsp { s.dsp with set := s.wordsAt 0x02F10100 265, loaded := true }

theorem wordsAt_congr {s t : State} (same : t.mem = s.mem) (x n : Nat) : t.wordsAt x n = s.wordsAt x n := by
  induction n generalizing x with
  | zero => rfl
  | succ n ih => rw [State.wordsAt, ih, State.word, State.bytes, same, State.wordsAt, State.word, State.bytes]

theorem setOk_dsp (s : State) : setOk s = setOk (State.reset.setDsp s.dsp) := rfl

theorem setOk_congr {s t : State} (same : t.dsp = s.dsp) : setOk t = setOk s := by rw [setOk_dsp, same, ← setOk_dsp]

theorem loadSet_good {s : State} (stands : castStands s 8 = true) (good : setOk (s.setDsp
    { s.dsp with set := s.wordsAt 0x02F10100 265, loaded := true }) = true) : loadSet (toDsp 0 s) = setTaken s := by
  have set : (toDsp 0 s).setDsp { (toDsp 0 s).dsp with set := (toDsp 0 s).wordsAt 0x02F10100 265, loaded := true } = setTaken s := by
    have words : (toDsp 0 s).wordsAt 0x02F10100 265 = s.wordsAt 0x02F10100 265 := wordsAt_congr (State.setReg_mem s P.dspState 0) ..
    rw [words, toDsp_dsp, setTaken]
  have cast : castStands (setTaken s) 8 = true := by
    have same : (setTaken s).reg (P.wngCast 8) = s.reg (P.wngCast 8) := toDsp_reg (by decide) 0 s
    rw [castStands, castOf, same]
    exact stands
  have sound : setOk (setTaken s) = true := (setOk_congr rfl).trans good
  unfold loadSet
  dsimp only
  rw [set, cast, sound]
  rfl

theorem Keeps.setTaken {l : List Nat} {s t : State} (keeps : Keeps l s t) (listed : P.dspState ∈ l) : Keeps l s (Machine.setTaken t) :=
  (keeps.toDsp listed 0).setDsp _

/-- Settles O44, command by command. -/
theorem displayUpdates : Obligations.DisplayUpdates := by
  unfold Obligations.DisplayUpdates
  refine ⟨?waits, ?drawn, ?still, ?blinks, ?clear, ?frame, ?temp, ?hold, ?sink, ?set⟩
  case waits =>
    intro s reader on updating stays
    obtain ⟨waiting, -, result, updates, keeps⟩ := targetWaits_waits (renderFields s)
    refine completes_act rfl ((if_pos reader).trans (newTarget_busy on updating stays)) ⟨waiting, result, ?_, ?_⟩
    · rw [updates, renderFields_reg]
    · exact ((Keeps.refl [] s).renderFields).trans keeps
  case drawn =>
    intro s reader on idle stays warm
    refine completes_act rfl ((if_pos reader).trans ((newTarget_idle on idle stays).trans (idleTarget_warm warm _))) ⟨?_, ?_⟩
    · rw [startUpdate_target]
    · rw [startUpdate_reg (by decide) (by decide), State.reg_count, readTemp_reg (by decide), renderFields_reg]
  case still =>
    intro s blink field same
    refine completes_act rfl (if_neg ?_) rfl
    rintro ⟨-, any | changed⟩
    · simp [blink, field] at any
    · exact changed same
  case blinks =>
    intro s on blink updating stays
    have act : blinkPhase s = targetWaits (renderFields (s.setDsp { s.dsp with dark := !s.dsp.dark })) :=
      (if_pos ⟨on, .inl (by simp [blink])⟩).trans
        (newTarget_busy (s := s.setDsp { s.dsp with dark := !s.dsp.dark }) on updating stays)
    obtain ⟨waiting, dark, result, -, keeps⟩ := targetWaits_waits (renderFields (s.setDsp { s.dsp with dark := !s.dsp.dark }))
    refine completes_act rfl act ⟨?_, ?_, result, ?_⟩
    · rw [dark, (renderFields_dsp _).2]
      rfl
    · rw [waiting, Option.isSome_some]
    · exact ((((Keeps.refl [] s).setDsp _).renderFields).trans keeps).mem
  case clear =>
    intro s on power clearing more
    refine completes_act rfl (frameEnd_clear on power clearing more) ⟨rfl, ?_, fun q _ => ?_⟩
    · exact putSlots_stores _ (s.setDsp { s.dsp with frames := s.dsp.frames + 1 })
    · rw [putSlots_reg]
      rfl
  case frame =>
    intro s r on power updating stays free running more same still
    refine completes_act rfl ((frameEnd_update on power updating).trans (updateFrame_goesOn running free stays more same still))
      ⟨?_, ?_, ?_, fun q _ => ?_⟩
    · rw [putSlots_dsp]
      rfl
    · rw [putSlots_dsp]
      rfl
    · exact putSlots_stores _ (runGoesOn r s)
    · rw [putSlots_reg]
      rfl
  case temp =>
    intro s on idle
    obtain ⟨temp, used⟩ := readTemp_reads s
    exact completes_act rfl (if_pos ⟨on, idle⟩) ⟨temp, used, (Keeps.refl _ s).readTemp (by decide)⟩
  case hold => exact fun s => completes_act rfl rfl rfl
  case sink =>
    intro s k low lit
    exact completes_act rfl (sinkFault_shows low lit) ⟨dspFaulted_bit (by omega) s, keeps_setReg s _ _⟩
  case set =>
    intro s on state stands good
    refine completes_act rfl ((if_pos ⟨on, state⟩).trans (loadSet_good stands good)) ⟨?_, rfl, rfl, (Keeps.refl _ s).setTaken (by decide)⟩
    exact dspState_toDsp (n := 0) (by norm_num) s

end Sys2Proof.Machine
end

section
/-!
PROOF. O50: a frame whose originator is no seat goes no further (spec/14_tirwa_house_network.md R360 and R8).
-/

namespace Sys2Proof.Machine

open Sys2Proof

/-- A Cue frame for seat 5, whole, whose ORIGIN is no seat. -/
def unseatedFrame : Bytes := Tests.rxMac 1 0x1000 5 7 0 [1, 2, 3]

/-- Refutes O50: its clause of the forwarded frame leaves ORIGIN free, while a frame whose ORIGIN is no seat is discarded. -/
theorem not_tirwaFrames : ¬ Obligations.TirwaFrames := by
  unfold Obligations.TirwaFrames
  rintro ⟨-, -, forwarded, -⟩
  obtain ⟨t, run, queued, -⟩ := forwarded Tests.upR (Tests.rxFc 1 8 7 9 1) unseatedFrame (by decide +kernel) (by decide +kernel)
    (by decide +kernel) (by decide +kernel) (by decide +kernel) (by decide +kernel) (by decide +kernel) (by decide +kernel)
  have left : cueFrame (Tests.rxFc 1 8 7 9 1) unseatedFrame Tests.upR = t := Host.Outcome.next.inj run
  have empty : (cueFrame (Tests.rxFc 1 8 7 9 1) unseatedFrame Tests.upR).tir.queue = [] := by decide +kernel
  rw [← left, empty] at queued
  exact absurd (congrArg List.length queued) (by simp)

end Sys2Proof.Machine
end

section
/-!
PROOF. O51: a hello whose originator is no seat is not counted (spec/14_tirwa_house_network.md R360 and R8).
-/

namespace Sys2Proof.Machine

open Sys2Proof

/-- A post of another house key than that of `Tests.rxMac`. -/
def strangerPost : State := { Tests.upR with tir := { Tests.upR.tir with houseKey := some 6 } }

/-- A hello, whole, whose ORIGIN is no seat. -/
def unseatedHello : Bytes := Tests.rxMac 2 0x1000 0xFFFF 0 5 (helloBody Tests.upR [])

/-- Refutes O51: its clause of the refused hello leaves ORIGIN free, while a frame whose ORIGIN is no seat is discarded before its house
MAC is looked at, and not counted in TIR_MAC_FAILS. -/
theorem not_neighboursAndRoutes : ¬ Obligations.NeighboursAndRoutes := by
  unfold Obligations.NeighboursAndRoutes
  rintro ⟨-, refused, -⟩
  obtain ⟨t, run, counted, -⟩ := refused strangerPost (Tests.rxFc 1 8 0xFFFF 9 0) unseatedHello false (by decide +kernel)
    (by decide +kernel) (by decide +kernel) (by decide +kernel) (by decide +kernel) (by decide +kernel) (by decide +kernel)
    (by decide +kernel) (by decide +kernel) (.inl (by decide +kernel))
  have left : helloReceive (Tests.rxFc 1 8 0xFFFF 9 0) unseatedHello false strangerPost = t := Host.Outcome.next.inj run
  have uncounted : (helloReceive (Tests.rxFc 1 8 0xFFFF 9 0) unseatedHello false strangerPost).reg P.tirMacFails = 0 := by decide +kernel
  have one : satAdd 32 (strangerPost.reg P.tirMacFails) 1 = 1 := by decide +kernel
  rw [← left, uncounted, one] at counted
  exact absurd counted (by decide)

end Sys2Proof.Machine
end

section
/-!
PROOF. O52: while E1 is off, a beacon is only relayed (spec/14_tirwa_house_network.md R379, spec/05_power.md R114).
-/

namespace Sys2Proof.Machine

open Sys2Proof

/-- A post of a house whose E1 is in reset. -/
def shedPost : State := Tests.upR.setIsl 3 { Tests.upR.isl 3 with inReset := true }

/-- A beacon of the lead on seat 2. -/
def heardBeacon : Bytes := Tests.rxMac 3 2 0xFFFF 1 5 Tests.bcnW

/-- Refutes O52: its clause of the accepted beacon leaves E1 free, and without E1 TIR_LEAD_SEAT keeps its value. -/
theorem not_houseLead : ¬ Obligations.HouseLead := by
  unfold Obligations.HouseLead
  rintro ⟨accepted, -⟩
  obtain ⟨t, run, seat, -⟩ := accepted shedPost (Tests.rxFc 1 8 0xFFFF 9 0) heardBeacon (ofBytes ((macBody heardBeacon).take 16))
    (ofBytes (slice (macBody heardBeacon) 16 16)) (by decide +kernel) (by decide +kernel) rfl rfl
  have left : beaconReceive (Tests.rxFc 1 8 0xFFFF 9 0) heardBeacon shedPost = t := Host.Outcome.next.inj run
  have unknown : (beaconReceive (Tests.rxFc 1 8 0xFFFF 9 0) heardBeacon shedPost).reg P.tirLeadSeat = 0xFFFE := by decide +kernel
  have two : bits (ofBytes ((macBody heardBeacon).take 16)) 31 16 = 2 := by decide +kernel
  rw [← left, unknown, two] at seat
  exact absurd seat (by decide)

end Sys2Proof.Machine
end

section
/-!
PROOF. O53: a lead without a seat keeps no report of its own (spec/14_tirwa_house_network.md R377).
-/

namespace Sys2Proof.Machine

open Sys2Proof

/-- A lead in session that holds no seat. -/
def seatlessLead : State :=
  { ((Tests.upR.setReg P.wdnSesState 5).setReg P.smgSeat 0xFFFE) with tir := { Tests.upR.tir with lead := true } }

/-- Refutes O53: its clause of the lead's own report leaves SMG_SEAT free, while a lead without a seat keeps no report of itself. -/
theorem not_seatsAndShares : ¬ Obligations.SeatsAndShares := by
  unfold Obligations.SeatsAndShares
  rintro ⟨-, -, -, own, -⟩
  obtain ⟨t, run, kept, -⟩ := own seatlessLead (by decide +kernel) (by decide +kernel) (by decide +kernel) (by decide +kernel)
    (by decide +kernel)
  have left : demandTimer seatlessLead = t := Host.Outcome.next.inj run
  have none : (demandTimer seatlessLead).tir.reports = [] := by decide +kernel
  rw [← left, none] at kept
  exact absurd kept (by simp)

end Sys2Proof.Machine
end

section
/-!
PROOF. O54: a map from a new neighbour that takes a full table's slowest place (spec/14_tirwa_house_network.md R361, R368, R370).
-/

namespace Sys2Proof.Machine

open Sys2Proof

/-! ### What a frame heard leaves unchanged -/

section
variable {β : Type} {g : State → β} (tables : ∀ (s : State) n r, g (s.setTir { s.tir with neigh := n, routes := r }) = g s)

include tables in
theorem putRoute_keeps (r : Route) (s : State) : g (putRoute r s) = g s := tables s s.tir.neigh _

include tables in
theorem updNeigh_keeps (seat : Nat) (f : Neigh → Neigh) (s : State) : g (updNeigh seat f s) = g s := tables s _ s.tir.routes

include tables in
theorem chooseRoute_keeps (fresh dest : Nat) (s : State) : g (chooseRoute fresh dest s) = g s := by
  unfold chooseRoute
  split
  · rfl
  · dsimp only
    split
    · split
      · exact putRoute_keeps tables _ s
      · rfl
    · rfl
    · exact putRoute_keeps tables _ s
    · exact putRoute_keeps tables _ s
    · rfl

include tables in
theorem chooseRoutes_keeps (fresh : Nat) (s : State) : g (chooseRoutes fresh s) = g s :=
  foldl_keeps g (fun d _ u => chooseRoute_keeps tables fresh d u) s

include tables in
theorem noteGeneration_keeps (fc : Nat) (s : State) : g (noteGeneration fc s) = g s := by
  unfold noteGeneration
  split
  · exact updNeigh_keeps tables _ _ s
  · rfl

variable (count : ∀ (s : State) (v : Nat), g (s.setReg P.tirNeighCount v) = g s)

include tables count in
theorem setNeighs_keeps (l : List Neigh) (s : State) : g (setNeighs l s) = g s := (count _ _).trans (tables s l s.tir.routes)

include tables count in
theorem addNeigh_keeps (seat : Nat) (s : State) : g (addNeigh seat s) = g s := by
  unfold addNeigh
  dsimp only
  split
  · exact setNeighs_keeps tables count _ s
  · exact setNeighs_keeps tables count _ s

/-- The phase sample that a frame control may give (R376). -/
def samplePhase (fc : Nat) (s : State) : State :=
  match ownPhase s s.now with
  | none => s
  | some p =>
    if bitOf fc 114 then updNeigh (fcSrc fc) (fun n => n.sampled (phaseClass ((p + 65536 - bits fc 95 80) % 65536))) s else s

include tables in
theorem samplePhase_keeps (fc : Nat) (s : State) : g (samplePhase fc s) = g s := by
  unfold samplePhase
  split
  · rfl
  · split
    · exact updNeigh_keeps tables _ _ s
    · rfl

/-- A new neighbour heard while the table is full. -/
def crowdedBy (fc : Nat) (s : State) : State := samplePhase fc (updateRepeater (chooseRoutes 0xFFFF (addNeigh (fcSrc fc) s)))

theorem heardFrom_full {fc : Nat} {s : State} (seat : fcSrc fc ≤ 0x0FFF) (other : fcSrc fc ≠ s.seat) (new : s.neigh (fcSrc fc) = none)
    (full : 256 ≤ s.tir.neigh.length) : heardFrom fc s = crowdedBy fc s := by
  unfold heardFrom
  dsimp only
  rw [if_neg (by omega), new]
  dsimp only
  rw [if_neg (by omega)]
  rfl

include tables count in
theorem crowdedBy_keeps (role : ∀ (s : State) (v : Nat), g (s.setReg P.smgRole v) = g s) (fc : Nat) (s : State) :
    g (crowdedBy fc s) = g s :=
  (samplePhase_keeps tables fc _).trans ((role _ _).trans ((chooseRoutes_keeps tables _ _).trans (addNeigh_keeps tables count _ s)))

end

theorem tables_reg (q : Nat) (s : State) (n : List Neigh) (r : List Route) :
    (s.setTir { s.tir with neigh := n, routes := r }).reg q = s.reg q := rfl

theorem crowdedBy_reg {q : Nat} (count : q ≠ P.tirNeighCount) (role : q ≠ P.smgRole) (fc : Nat) (s : State) :
    (crowdedBy fc s).reg q = s.reg q :=
  crowdedBy_keeps (g := fun u => u.reg q) (tables_reg q) (fun u v => u.reg_setReg_ne v count) (fun u v => u.reg_setReg_ne v role) fc s

theorem chooseRoutes_neigh (fresh : Nat) (s : State) : (chooseRoutes fresh s).tir.neigh = s.tir.neigh := by
  refine foldl_keeps (fun u => u.tir.neigh) (fun d _ u => ?_) s
  unfold chooseRoute
  split
  · rfl
  · dsimp only
    split
    · split
      · rfl
      · rfl
    · rfl
    · rfl
    · rfl
    · rfl

theorem crowdedBy_role (fc : Nat) (s : State) :
    (crowdedBy fc s).reg P.smgRole = setBit (s.reg P.smgRole) 0 ((addNeigh (fcSrc fc) s).tir.neigh.any Neigh.via) % 2 ^ (8 * sizeOf' P.smgRole) := by
  have role : (chooseRoutes 0xFFFF (addNeigh (fcSrc fc) s)).reg P.smgRole = s.reg P.smgRole :=
    (chooseRoutes_keeps (g := fun u => u.reg P.smgRole) (tables_reg _) _ _).trans
      (addNeigh_keeps (g := fun u => u.reg P.smgRole) (tables_reg _) (fun u v => u.reg_setReg_ne v (by decide)) _ s)
  rw [crowdedBy, samplePhase_keeps (g := fun u => u.reg P.smgRole) (tables_reg _), updateRepeater, State.reg_setReg, role,
    chooseRoutes_neigh]

/-! ### A control frame accepted -/

/-- The state in which a data frame for the post is looked at. -/
def dataTaken (fc : Nat) (s : State) : State := noteGeneration fc ((heardFrom fc s).count P.tirRxFrames 1)

theorem dataTaken_keeps {β : Type} {g : State → β} (tables : ∀ (s : State) n r, g (s.setTir { s.tir with neigh := n, routes := r }) = g s)
    (frames : ∀ s : State, g (s.count P.tirRxFrames 1) = g s) (fc : Nat) (s : State) : g (dataTaken fc s) = g (heardFrom fc s) :=
  (noteGeneration_keeps tables fc _).trans (frames _)

theorem sendAck_reg (fc status q : Nat) (s : State) : (sendAck fc status s).reg q = s.reg q := by
  unfold sendAck
  split
  · rfl
  · rfl

theorem sendAck_tir (fc status : Nat) (s : State) : (sendAck fc status s).tir = s.tir := by
  unfold sendAck
  split
  · rfl
  · rfl

theorem sendAck_mono (fc status : Nat) (s : State) : (sendAck fc status s).mono = s.mono := by
  unfold sendAck
  split
  · rfl
  · rfl

theorem takeFrame_whole {fc : Nat} {mac : Bytes} {s : State} (ok : fcOk s fc = true) (data : fcType fc = 1)
    (mine : fcDst fc = (heardFrom fc s).seat) (crc : macCrcOk mac = true) (seats : macSeatsOk mac = true) :
    takeFrame fc mac s = (bits (macHead mac) 127 96 == (dataTaken fc s).reg P.smgHouseId, sendAck fc 0 (dataTaken fc s)) := by
  unfold takeFrame
  dsimp only
  rw [if_neg (by simp [ok, data]), if_neg (by simp [mine]), if_neg (by simp [crc]), if_neg (by simp [seats])]
  rfl

theorem takeControl_accepts {kind fc : Nat} {mac : Bytes} {s t : State} (taken : takeFrame fc mac s = (true, t)) (kinds : macKind mac = kind)
    (authentic : macAuthentic t mac = true) (other : macOrigin mac ≠ t.seat) (fresh : countFresh t mac = true) :
    takeControl kind fc mac s = (true, keepCount mac t) := by
  unfold takeControl
  rw [taken]
  dsimp only
  rw [if_neg (by simp [kinds]), if_neg (by simp [authentic]), if_neg (by simp [other]), if_neg (by simp [fresh])]

theorem macAuthentic_congr {s t : State} (key : t.tir.houseKey = s.tir.houseKey) (mac : Bytes) : macAuthentic t mac = macAuthentic s mac := by
  unfold macAuthentic houseMac
  rw [key]

theorem countFresh_first {s : State} (first : s.tir.counts = []) (mac : Bytes) : countFresh s mac = true := by
  unfold countFresh
  rw [first]
  rfl

/-! ### A control frame made -/

theorem nextRoundKey_length (rc : Nat) (k : Bytes) : (nextRoundKey rc k).length = 16 := by simp [nextRoundKey, xorBytes]

theorem expandKey_length {rcs : List Nat} {k : Bytes} (whole : k.length = 16) : ∀ e ∈ expandKey rcs k, e.length = 16 := by
  induction rcs generalizing k with
  | nil => simpa [expandKey] using whole
  | cons rc t ih =>
    intro e here
    obtain rfl | later := List.mem_cons.1 here
    · exact whole
    · exact ih (nextRoundKey_length rc k) e later

theorem aesRounds_length {keys : List Bytes} (whole : ∀ e ∈ keys, e.length = 16) {block : Bytes} (length : block.length = 16) :
    (aesRounds keys block).length = 16 := by
  have mixed : ∀ b, (mixColumns 2 3 1 1 b).length = 16 := fun b => by simp [mixColumns, mixColumn]
  induction keys generalizing block with
  | nil => exact length
  | cons k t ih =>
    have key : k.length = 16 := whole k (by simp)
    cases t with
    | nil => simp [aesRounds, xorBytes, shiftRows, key]
    | cons l t => exact ih (fun e here => whole e (by simp [here])) (by simp [xorBytes, mixed, key])

theorem padTo_length (n : Nat) (l : Bytes) : (padTo n l).length = n := by
  rw [padTo, List.length_take, List.length_append, List.length_replicate]
  omega

theorem aesEncrypt_length (key block : Bytes) : (aesEncrypt key block).length = 16 := by
  have whole := expandKey_length (rcs := roundConstants) (padTo_length 16 key)
  unfold aesEncrypt
  split
  next none => simp [roundConstants, expandKey] at none
  next k t keys =>
    rw [keys] at whole
    exact aesRounds_length (fun e here => whole e (by simp [here])) (by simp [xorBytes, padTo_length, whole k (by simp)])

theorem cmacChain_length (key : Bytes) (l : List Bytes) (last x : Bytes) : (cmacChain key (l ++ [last]) x).length = 16 := by
  induction l generalizing x with
  | nil =>
    rw [List.nil_append, cmacChain, cmacChain]
    exact aesEncrypt_length _ _
  | cons b t ih =>
    rw [List.cons_append, cmacChain]
    exact ih _

theorem aesCmac_length (key msg : Bytes) : (aesCmac key msg).length = 16 := by
  unfold aesCmac
  exact cmacChain_length _ _ _ _

theorem houseMac_length (s : State) (l : Bytes) : (houseMac s l).length = 8 := by
  rw [houseMac, List.length_take, aesCmac_length]
  rfl

theorem crcStepR_lt {w poly : Nat} (low : poly < 2 ^ w) (k : Nat) {c : Nat} (fits : c < 2 ^ w) : crcStepR poly c k < 2 ^ w := by
  induction k generalizing c with
  | zero => exact fits
  | succ k ih =>
    refine ih ?_
    have half : c / 2 < 2 ^ w := by omega
    split
    · exact Nat.xor_lt_two_pow half low
    · exact half

theorem crc32_lt (l : Bytes) : crc32 l < 2 ^ 32 := by
  refine Nat.xor_lt_two_pow ?_ (by decide)
  refine List.foldlRecOn (motive := fun c => c < 2 ^ 32) _ _ (by decide) fun c fits b _ => ?_
  exact crcStepR_lt (w := 32) (by decide) 8 (Nat.xor_lt_two_pow fits (by omega))

/-- A control frame under a state's house key: header and body, their house MAC, and the CRC-32. -/
def sealedMac (s : State) (l : Bytes) : Bytes := (l ++ houseMac s l) ++ toBytes 4 (crc32 (l ++ houseMac s l))

theorem sealedMac_length (s : State) (l : Bytes) : (sealedMac s l).length = l.length + 12 := by
  simp [sealedMac, houseMac_length, toBytes_length]

theorem sealedMac_take (s : State) {l : Bytes} {n : Nat} (within : n ≤ l.length) : (sealedMac s l).take n = l.take n := by
  rw [sealedMac, List.append_assoc, List.take_append_of_le_length within]

theorem sealedMac_head (s : State) {l : Bytes} (head : 16 ≤ l.length) : macHead (sealedMac s l) = macHead l := by
  rw [macHead, sealedMac_take s head, macHead]

theorem sealedMac_whole (s : State) {l : Bytes} (head : 16 ≤ l.length) (length : macLength l = l.length + 12) :
    macCrcOk (sealedMac s l) = true := by
  have same : macLength (sealedMac s l) = l.length + 12 := by
    rw [← length, macLength, macKind, sealedMac_head s head]
    rfl
  have checked : (l ++ houseMac s l).length = (sealedMac s l).length - 4 := by
    rw [sealedMac_length, List.length_append, houseMac_length]
    omega
  have crc : ofBytes ((sealedMac s l).drop ((sealedMac s l).length - 4)) = crc32 ((sealedMac s l).take ((sealedMac s l).length - 4)) := by
    rw [← checked, sealedMac, List.drop_left, List.take_left, ofBytes_toBytes]
    exact Nat.mod_eq_of_lt (crc32_lt _)
  have long : 20 ≤ (sealedMac s l).length := by
    rw [sealedMac_length]
    omega
  have fits : (sealedMac s l).length = macLength (sealedMac s l) := (sealedMac_length s l).trans same.symm
  rw [macCrcOk, crc, ← fits, decide_eq_true long, beq_self_eq_true, beq_self_eq_true]
  rfl

theorem sealedMac_authentic (s : State) (l : Bytes) : macAuthentic s (sealedMac s l) = true := by
  have length : (sealedMac s l).length - 12 = l.length := by
    rw [sealedMac_length]
    omega
  have mac : ((l ++ houseMac s l) ++ toBytes 4 (crc32 (l ++ houseMac s l))).drop l.length = houseMac s l ++ toBytes 4 (crc32 (l ++ houseMac s l)) := by
    rw [List.append_assoc, List.drop_left]
  have slice_ : slice (sealedMac s l) l.length 8 = houseMac s l := by
    rw [slice, sealedMac, mac, ← houseMac_length s l, List.take_left]
  unfold macAuthentic
  rw [length]
  dsimp only
  rw [slice_, sealedMac_take s le_rfl, List.take_length]
  exact beq_self_eq_true _

/-! ### The full table -/

/-- Neighbours of one rate. -/
theorem slowest_zero {mono : Nat} {l : List Neigh} (level : ∀ i, (l.getD i (Neigh.fresh 0 0)).rate mono = 48) : slowest mono l = 0 := by
  refine List.foldlRecOn (motive := fun b => b = 0) _ _ rfl fun b zero i _ => ?_
  rw [if_neg (by rw [level, level]; decide)]
  exact zero

/-- The neighbours of a repeater whose table is full: the first alone routes through it. -/
def crowd : List Neigh := (List.range 256).map fun i => { Neigh.fresh (1000 + i) (999 * second) with via := i == 0 }

theorem crowd_rate (mono i : Nat) : (crowd.getD i (Neigh.fresh 0 0)).rate mono = 48 := by
  unfold crowd
  rw [List.getD_eq_getElem?_getD, List.getElem?_map]
  cases (List.range 256)[i]? with
  | none => rfl
  | some k => rfl

/-- A repeater whose table is full. -/
def fullRepeater : State := { Tests.upR.setReg P.smgRole 1 with tir := { Tests.upR.tir with neigh := crowd } }

/-- A tone-map message from seat 300: its header, with KIND 7, COUNT 5 and HOUSE 0x12345678, and its body. -/
def mapText : Bytes := [5, 0, 0, 0, 136, 1, 0, 7, 7, 0, 44, 1, 0x78, 0x56, 0x34, 0x12] ++ 4 :: List.replicate 391 0

/-- The message as seat 300 sends it. -/
def heardMap : Bytes := sealedMac Tests.upR mapText

/-- The frame control of the map. -/
def mapFc : Nat := Tests.rxFc 1 300 7 9 1

/-- The state in which the repeater looks at the map. -/
def mapTaken : State := sendAck mapFc 0 (dataTaken mapFc fullRepeater)

theorem heardFrom_fullRepeater : heardFrom mapFc fullRepeater = crowdedBy mapFc fullRepeater :=
  heardFrom_full (by decide +kernel) (by decide +kernel) (by decide +kernel) (by decide +kernel)

theorem mapTaken_reg {q : Nat} (frames : q ≠ P.tirRxFrames) : mapTaken.reg q = (crowdedBy mapFc fullRepeater).reg q := by
  rw [mapTaken, sendAck_reg, dataTaken_keeps (g := fun u => u.reg q) (tables_reg q) (fun u => u.reg_count_ne 1 frames),
    heardFrom_fullRepeater]

theorem mapTaken_steady {q : Nat} (frames : q ≠ P.tirRxFrames) (count : q ≠ P.tirNeighCount) (role : q ≠ P.smgRole) :
    mapTaken.reg q = fullRepeater.reg q := (mapTaken_reg frames).trans (crowdedBy_reg count role mapFc fullRepeater)

theorem mapTaken_tir {β : Type} {g : TirState → β} (tables : ∀ (x : TirState) n r, g { x with neigh := n, routes := r } = g x) :
    g mapTaken.tir = g Tests.upR.tir := by
  rw [mapTaken, sendAck_tir, dataTaken_keeps (g := fun u => g u.tir) (fun u => tables u.tir) (fun _ => rfl), heardFrom_fullRepeater,
    crowdedBy_keeps (g := fun u => g u.tir) (fun u => tables u.tir) (fun _ _ => rfl) (fun _ _ => rfl)]
  exact tables Tests.upR.tir crowd Tests.upR.tir.routes

theorem heardMap_whole : macCrcOk heardMap = true := by
  exact sealedMac_whole _ (by decide +kernel) (by decide +kernel)

theorem fullRepeater_takes : takeFrame mapFc heardMap fullRepeater = (true, mapTaken) := by
  have seat : (heardFrom mapFc fullRepeater).seat = 7 := by
    rw [heardFrom_fullRepeater]
    exact (crowdedBy_reg (by decide) (by decide) mapFc fullRepeater).trans (by decide +kernel)
  have house : (dataTaken mapFc fullRepeater).reg P.smgHouseId = 0x12345678 := by
    have steady := mapTaken_steady (q := P.smgHouseId) (by decide) (by decide) (by decide)
    rw [mapTaken, sendAck_reg] at steady
    exact steady.trans (by decide +kernel)
  have head : bits (macHead heardMap) 127 96 = 0x12345678 := by decide +kernel
  rw [takeFrame_whole (by decide +kernel) (by decide +kernel) (by rw [seat]; decide +kernel) heardMap_whole (by decide +kernel),
    house, head]
  rfl

theorem fullRepeater_accepts : takeControl 7 mapFc heardMap fullRepeater = (true, keepCount heardMap mapTaken) := by
  have seat : mapTaken.seat = 7 := (mapTaken_steady (by decide) (by decide) (by decide)).trans (by decide +kernel)
  have authentic : macAuthentic mapTaken heardMap = macAuthentic Tests.upR heardMap :=
    macAuthentic_congr (mapTaken_tir (g := TirState.houseKey) fun _ _ _ => rfl) heardMap
  refine takeControl_accepts fullRepeater_takes (by decide +kernel) (authentic.trans (sealedMac_authentic Tests.upR mapText)) ?_ ?_
  · rw [seat]
    decide +kernel
  · exact countFresh_first (mapTaken_tir (g := TirState.counts) fun _ _ _ => rfl) heardMap

theorem mapReceive_reg {fc q : Nat} {mac : Bytes} {s t : State} (accepted : takeControl 7 fc mac s = (true, t))
    (length : (macBody mac).length = 392) : (mapReceive fc mac s).reg q = t.reg q := by
  unfold mapReceive
  dsimp only
  rw [accepted, if_neg (by simp [length]), chooseRoutes_keeps (g := fun u => u.reg q) (tables_reg q)]
  rfl

theorem addNeigh_full {s : State} (full : ¬ s.tir.neigh.length < 256) (seat : Nat) :
    (addNeigh seat s).tir.neigh = setAt s.tir.neigh (slowest s.mono s.tir.neigh) (Neigh.fresh seat s.mono) := by
  unfold addNeigh
  dsimp only
  rw [if_neg full]
  rfl

theorem fullRepeater_neigh : fullRepeater.tir.neigh = crowd := rfl

theorem fullRepeater_role : (mapReceive mapFc heardMap fullRepeater).reg P.smgRole = 0 := by
  have none : (setAt crowd 0 (Neigh.fresh (fcSrc mapFc) fullRepeater.mono)).any Neigh.via = false := by decide +kernel
  have was : fullRepeater.reg P.smgRole = 1 := by decide +kernel
  have width : sizeOf' P.smgRole = 1 := by decide +kernel
  rw [mapReceive_reg fullRepeater_accepts (by decide +kernel), keepCount, State.setTir_reg, mapTaken_reg (by decide), crowdedBy_role,
    addNeigh_full (by decide +kernel), fullRepeater_neigh, slowest_zero (crowd_rate _), none, was, width]
  rfl

/-- Refutes O54: its clause of the received map leaves the neighbour table free; in a full one the new sender takes the slowest
neighbour's place, and SMG_ROLE changes where that one alone routed through the post. -/
theorem not_toneMapsAndSlac : ¬ Obligations.ToneMapsAndSlac := by
  unfold Obligations.ToneMapsAndSlac
  rintro ⟨-, received, -⟩
  obtain ⟨t, run, -, kept, -⟩ := received fullRepeater mapFc heardMap (by rw [fullRepeater_accepts]) (by decide +kernel)
    (by decide +kernel) (by decide +kernel)
  have left : mapReceive mapFc heardMap fullRepeater = t := Host.Outcome.next.inj run
  have was : fullRepeater.reg P.smgRole = 1 := by decide +kernel
  have same : t.reg P.smgRole = fullRepeater.reg P.smgRole := kept P.smgRole (by decide)
  rw [← left, fullRepeater_role, was] at same
  exact absurd same (by decide)

end Sys2Proof.Machine
end

section
/-!
PROOF. O49: an offset that SL_PTP_OFFSET_NS cannot hold (spec/15_stage_link.md R405).
-/

namespace Sys2Proof.Machine

open Sys2Proof

/-- A slave that has seen fifteen good Sync messages. -/
def slavePost : State :=
  { (Tests.up.setReg P.slPtpMode 1).setReg P.slPtpState 2 with sl := { Tests.up.sl with inside := 15 } }

/-- The slave with a lock offset above what SL_PTP_LOCK_NS holds: the statement bounds no register by its width. -/
def wideLockPost : State := { slavePost with regs := Regs.put slavePost.regs P.slPtpLockNs (2 ^ 64) }

/-- Refutes O49: its clause of the lock bounds the offset by SL_PTP_LOCK_NS alone, as its clause of the loss of lock does not; a state
whose SL_PTP_LOCK_NS reads 2^64 allows an offset of 2^63, which the 64 bits of SL_PTP_OFFSET_NS hold as -2^63. -/
theorem not_portFourAndPtp : ¬ Obligations.PortFourAndPtp := by
  unfold Obligations.PortFourAndPtp
  rintro ⟨-, -, -, -, -, locks, -⟩
  obtain ⟨t, run, -, offset, -⟩ := locks wideLockPost (2 ^ 63) 0 0 (by decide +kernel) (by decide +kernel) (by decide +kernel)
    (by decide +kernel) (by decide +kernel)
  have left : ptpSync (2 ^ 63) 0 0 wideLockPost = t := Host.Outcome.next.inj run
  have wrapped : (ptpSync (2 ^ 63) 0 0 wideLockPost).regI P.slPtpOffsetNs = -2 ^ 63 := by decide +kernel
  rw [← left, wrapped] at offset
  exact absurd offset (by decide)

end Sys2Proof.Machine
end

section
/-!
SUPPORT. What the lanes of the Stage link read, and what a lane that changes its state leaves unchanged (spec/15_stage_link.md R391 to
R394).
-/

namespace Sys2Proof.Machine

open Sys2Proof

theorem Keeps.setSl {l : List Nat} {s t : State} (keeps : Keeps l s t) (x : SlState) : Keeps l s (t.setSl x) := keeps

/-- The widths of a lane's registers. -/
theorem lane_widths : ∀ n < 4, sizeOf' (P.slLaneState n) = 1 ∧ sizeOf' (P.slLaneLinkDowns n) = 4 ∧ sizeOf' (P.slModId n) = 128 ∧
    sizeOf' (P.slModA2 n) = 16 := by decide +kernel

/-- The test settings of a lane. -/
def lanePids (n : Nat) : List Nat := [P.slLanePatGen n, P.slLanePatChk n, P.slLaneLoopback n]

theorem laneTests_congr {s t : State} {n : Nat} (same : ∀ q ∈ lanePids n, t.reg q = s.reg q) : laneTests t n = laneTests s n := by
  unfold laneTests
  rw [same _ (by simp [lanePids]), same _ (by simp [lanePids]), same _ (by simp [lanePids])]

theorem domOn_congr {s t : State} (pwr : t.pwr = s.pwr) (n : Nat) : t.domOn n = s.domOn n := by
  unfold State.domOn State.dom
  rw [pwr]

theorem laneState_congr {s t : State} {n : Nat} (pwr : t.pwr = s.pwr) (clk : t.clk = s.clk) (tests : ∀ q ∈ lanePids n, t.reg q = s.reg q)
    (state : t.reg (P.slLaneState n) = s.reg (P.slLaneState n)) (therm : t.reg P.pwThermLevel = s.reg P.pwThermLevel) :
    laneState t n = laneState s n := by
  have powered : lanePowered t n = lanePowered s n := by
    unfold lanePowered
    rw [present_congr pwr clk, domOn_congr pwr]
  have shed : laneShed t n = laneShed s n := by
    unfold laneShed
    rw [therm]
  unfold laneState
  rw [powered, shed, laneTests_congr tests, state]

theorem laneUp_congr {s t : State} {n : Nat} (same : laneState t n = laneState s n) : laneUp t n = laneUp s n := by
  unfold laneUp
  rw [same]

theorem lanePowered_lane {s : State} {n : Nat} (on : lanePowered s n = true) : n < 4 := by
  simp only [lanePowered, Bool.and_eq_true, decide_eq_true_eq] at on
  exact on.1.1

/-- A link that is up has a lane with power. -/
theorem laneUp_powered {s : State} {n : Nat} (up : laneUp s n = true) : lanePowered s n = true := by
  by_contra off
  unfold laneUp laneState at up
  rw [if_neg off] at up
  split at up
  · simp at up
  · simp at up

theorem laneRest_free {s : State} {n : Nat} (tests : laneTests s n = false) (auto : s.reg (P.slLaneSpeed n) = 0) :
    laneRest s n = if s.sl.mods.getD n false then 2 else 1 := by
  unfold laneRest
  rw [if_neg (by rw [tests]; decide), if_neg (by omega)]

/-! ### A lane without a link -/

theorem laneInto_state {n v : Nat} (lane : n < 4) (low : v < 256) (s : State) : (laneInto n v s).reg (P.slLaneState n) = v :=
  reg_setReg_fits (by rw [(lane_widths n lane).1]; exact low) _

theorem laneInto_reg {n q : Nat} (other : q ≠ P.slLaneState n) (v : Nat) (s : State) : (laneInto n v s).reg q = s.reg q :=
  State.reg_setReg_ne _ _ other

theorem Keeps.laneInto {l : List Nat} {s t : State} (keeps : Keeps l s t) {n : Nat} (listed : P.slLaneState n ∈ l) (v : Nat) :
    Keeps l s (Machine.laneInto n v t) := (keeps.setSl _).setReg listed v

/-- A lane whose link goes down: its state, and the loss counted. -/
theorem laneDown_counts {s : State} {n v : Nat} (up : laneUp s n = true) (low : v < 256) :
    (laneDown n v s).reg (P.slLaneState n) = v ∧
      (laneDown n v s).reg (P.slLaneLinkDowns n) = satAdd 32 (s.reg (P.slLaneLinkDowns n)) 1 ∧
      (∀ q, q ≠ P.slLaneState n → q ≠ P.slLaneLinkDowns n → (laneDown n v s).reg q = s.reg q) ∧
      (laneDown n v s).sl.mods = s.sl.mods ∧ Keeps [P.slLaneState n, P.slLaneLinkDowns n] s (laneDown n v s) := by
  have lane : n < 4 := lanePowered_lane (laneUp_powered up)
  have down : laneDown n v s = laneInto n v (s.count (P.slLaneLinkDowns n) 1) := congrArg (laneInto n v) (if_pos up)
  have apart : P.slLaneLinkDowns n ≠ P.slLaneState n := by simp only [P.slLaneLinkDowns, P.slLaneState]; omega
  have keeps : Keeps [P.slLaneState n, P.slLaneLinkDowns n] s (laneDown n v s) := by
    rw [down]
    exact ((Keeps.refl _ s).count (by simp) 1).laneInto (by simp) v
  refine ⟨by rw [down]; exact laneInto_state lane low _, ?_, fun q state downs => keeps.reg (by simp [state, downs]), by rw [down]; rfl, keeps⟩
  rw [down, laneInto_reg apart, State.reg_count, (lane_widths n lane).2.1]

end Sys2Proof.Machine
end
section
/-!
PROOF. O47: the lanes of the Stage link and their modules (spec/15_stage_link.md R391 to R394, R411, R412).
-/

namespace Sys2Proof.Machine

open Sys2Proof

/-! ### Modules (R411, R412) -/

theorem padTo_of_length {n : Nat} {l : Bytes} (length : l.length = n) : padTo n l = l := by
  unfold padTo
  simp [length]

/-- What the reading of a module writes. -/
def moduleRead (n : Nat) (ident a2 : Option Bytes) (s : State) : State :=
  ((s.setSl { s.sl with mods := setAt s.sl.mods n true }).setReg (P.slModId n)
    (((ident.map fun b => ofBytes (padTo 128 b))).getD 0)).setReg (P.slModA2 n) (((a2.map fun b => ofBytes (padTo 16 b))).getD 0)

theorem moduleInsert_eq {n : Nat} {s : State} (on : s.present 16 = true) (lane : n < 4) (ident a2 : Option Bytes) :
    moduleInsert n ident a2 s =
      if laneUp (moduleRead n ident a2 s) n then moduleRead n ident a2 s else laneReset n (moduleRead n ident a2 s) := by
  unfold moduleInsert
  rw [if_neg (by simp [on]; omega)]
  rfl

theorem moduleRead_reg {n q : Nat} (ident : q ≠ P.slModId n) (diag : q ≠ P.slModA2 n) (i a : Option Bytes) (s : State) :
    (moduleRead n i a s).reg q = s.reg q := by
  rw [moduleRead, State.reg_setReg_ne _ _ diag, State.reg_setReg_ne _ _ ident, State.setSl_reg]

theorem modId_ne_modA2 (n : Nat) : P.slModId n ≠ P.slModA2 n := by simp only [P.slModId, P.slModA2]; omega
theorem modId_ne_laneState (n : Nat) : P.slModId n ≠ P.slLaneState n := by simp only [P.slModId, P.slLaneState]; omega
theorem modA2_ne_laneState (n : Nat) : P.slModA2 n ≠ P.slLaneState n := by simp only [P.slModA2, P.slLaneState]; omega

theorem moduleRead_ident {n : Nat} (lane : n < 4) {ident : Option Bytes} (fits : (ident.map fun b => ofBytes (padTo 128 b)).getD 0 < 2 ^ 1024)
    (a2 : Option Bytes) (s : State) :
    (moduleRead n ident a2 s).reg (P.slModId n) = (ident.map fun b => ofBytes (padTo 128 b)).getD 0 := by
  have bits : 8 * 128 = 1024 := rfl
  rw [moduleRead, State.reg_setReg_ne _ _ (modId_ne_modA2 n)]
  exact reg_setReg_fits (by rw [(lane_widths n lane).2.2.1, bits]; exact fits) _

theorem moduleRead_diag {n : Nat} (lane : n < 4) {a2 : Option Bytes} (fits : (a2.map fun b => ofBytes (padTo 16 b)).getD 0 < 2 ^ 128)
    (ident : Option Bytes) (s : State) :
    (moduleRead n ident a2 s).reg (P.slModA2 n) = (a2.map fun b => ofBytes (padTo 16 b)).getD 0 := by
  rw [moduleRead]
  exact reg_setReg_fits (by rw [(lane_widths n lane).2.2.2]; exact fits) _

theorem keeps_moduleRead (n : Nat) (ident a2 : Option Bytes) (s : State) : Keeps [P.slModId n, P.slModA2 n] s (moduleRead n ident a2 s) := by
  unfold moduleRead
  exact (((Keeps.refl _ s).setSl _).setReg (by simp) _).setReg (by simp) _

/-- A module read: its bytes stand in its objects, and of the rest only the lane's state may change. -/
theorem moduleInsert_reads {n : Nat} {s : State} (on : s.present 16 = true) (lane : n < 4) (ident a2 : Option Bytes) :
    (moduleInsert n ident a2 s).reg (P.slModId n) = (moduleRead n ident a2 s).reg (P.slModId n) ∧
      (moduleInsert n ident a2 s).reg (P.slModA2 n) = (moduleRead n ident a2 s).reg (P.slModA2 n) ∧
      Keeps [P.slModId n, P.slModA2 n, P.slLaneState n] s (moduleInsert n ident a2 s) := by
  have keeps : Keeps [P.slModId n, P.slModA2 n, P.slLaneState n] s (moduleRead n ident a2 s) :=
    (keeps_moduleRead n ident a2 s).weaken (by simp)
  rw [moduleInsert_eq on lane]
  split
  · exact ⟨rfl, rfl, keeps⟩
  · exact ⟨laneInto_reg (modId_ne_laneState n) _ _, laneInto_reg (modA2_ne_laneState n) _ _, keeps.laneInto (by simp) _⟩

/-- The lane of a module that is read without a link: it searches where its speed is automatic. -/
theorem moduleInsert_searches {n : Nat} {s : State} (on : s.present 16 = true) (lane : n < 4) (down : laneUp s n = false)
    (tests : laneTests s n = false) (auto : s.reg (P.slLaneSpeed n) = 0) (four : s.sl.mods.length = 4) (ident a2 : Option Bytes) :
    (moduleInsert n ident a2 s).reg (P.slLaneState n) = 2 ∧ (moduleInsert n ident a2 s).sl.mods.getD n false = true := by
  have same : ∀ q, q ≠ P.slModId n → q ≠ P.slModA2 n → (moduleRead n ident a2 s).reg q = s.reg q :=
    fun q i a => moduleRead_reg i a ident a2 s
  have settings : ∀ q ∈ lanePids n, (moduleRead n ident a2 s).reg q = s.reg q := by
    intro q listed
    simp only [lanePids, List.mem_cons, List.not_mem_nil, or_false] at listed
    refine same q ?_ ?_
    · simp only [P.slLanePatGen, P.slLanePatChk, P.slLaneLoopback, P.slModId] at *; omega
    · simp only [P.slLanePatGen, P.slLanePatChk, P.slLaneLoopback, P.slModA2] at *; omega
  have state : laneState (moduleRead n ident a2 s) n = laneState s n := laneState_congr rfl rfl settings
    (same _ (modId_ne_laneState n).symm (modA2_ne_laneState n).symm)
    (same _ (by simp only [P.pwThermLevel, P.slModId]; omega) (by simp only [P.pwThermLevel, P.slModA2]; omega))
  have stays : laneUp (moduleRead n ident a2 s) n = false := (laneUp_congr state).trans down
  have module_ : (moduleRead n ident a2 s).sl.mods.getD n false = true := by
    show (setAt s.sl.mods n true).getD n false = true
    simp [setAt, List.getD_eq_getElem?_getD, four, lane]
  have rest : laneRest (moduleRead n ident a2 s) n = 2 := by
    have speed : (moduleRead n ident a2 s).reg (P.slLaneSpeed n) = 0 := by
      rw [same _ (by simp only [P.slLaneSpeed, P.slModId]; omega) (by simp only [P.slLaneSpeed, P.slModA2]; omega)]
      exact auto
    rw [laneRest_free ((laneTests_congr settings).trans tests) speed, module_]
    rfl
  rw [moduleInsert_eq on lane, if_neg (by rw [stays]; decide), laneReset, rest]
  exact ⟨laneInto_state lane (by decide) _, module_⟩

/-- The module of a lane taken out. -/
def moduleTaken (n : Nat) (s : State) : State := s.setSl { s.sl with mods := setAt s.sl.mods n false }

/-! ### A frame cut short (R393) -/

theorem laneCut_counts {s : State} {n p : Nat} (up : laneUp s n = true) (port : p < 4) (tests : laneTests s n = false)
    (auto : s.reg (P.slLaneSpeed n) = 0) (module_ : s.sl.mods.getD n false = true) :
    laneUp (s.count (P.slPortDrops p) 1) n = true ∧ laneRest (s.count (P.slPortDrops p) 1) n = 2 := by
  have same : ∀ q, q ≠ P.slPortDrops p → (s.count (P.slPortDrops p) 1).reg q = s.reg q := fun q other => s.reg_count_ne 1 other
  have settings : ∀ q ∈ lanePids n, (s.count (P.slPortDrops p) 1).reg q = s.reg q := by
    intro q listed
    simp only [lanePids, List.mem_cons, List.not_mem_nil, or_false] at listed
    refine same q ?_
    simp only [P.slLanePatGen, P.slLanePatChk, P.slLaneLoopback, P.slPortDrops] at *; omega
  have state : laneState (s.count (P.slPortDrops p) 1) n = laneState s n := laneState_congr rfl rfl settings
    (same _ (by simp only [P.slLaneState, P.slPortDrops]; omega)) (same _ (by simp only [P.pwThermLevel, P.slPortDrops]; omega))
  have speed : (s.count (P.slPortDrops p) 1).reg (P.slLaneSpeed n) = 0 := by
    rw [same _ (by simp only [P.slLaneSpeed, P.slPortDrops]; omega)]
    exact auto
  have stays : (s.count (P.slPortDrops p) 1).sl.mods.getD n false = true := module_
  refine ⟨(laneUp_congr state).trans up, ?_⟩
  rw [laneRest_free ((laneTests_congr settings).trans tests) speed, stays]
  rfl

theorem portDrops_width : ∀ p < 4, sizeOf' (P.slPortDrops p) = 4 := by decide +kernel

/-- Settles O47, command by command. -/
theorem lanesAndModules : Obligations.LanesAndModules := by
  unfold Obligations.LanesAndModules
  refine ⟨?search, ?linkUp, ?fault, ?loss, ?read, ?unread, ?poll, ?removed, ?aged⟩
  case search =>
    intro s n on searching auto slow
    refine completes_act rfl (if_pos ⟨on, searching, auto⟩) ⟨?_, (Keeps.refl _ s).setSl _⟩
    show (setAt s.sl.slow n _).getD n false = _
    simp [setAt, List.getD_eq_getElem?_getD, slow]
  case linkUp =>
    intro s n on searching auto clock
    have slow : laneSlow s n = s.sl.slow.getD n false := by simp [laneSlow, auto]
    refine completes_act rfl (if_pos ⟨on, .inl searching, clock⟩) ⟨?_, keeps_setReg ..⟩
    rw [slow]
    exact reg_setReg_fits (by rw [(lane_widths n (lanePowered_lane on)).1]; split <;> decide) s
  case fault =>
    intro s n on up
    obtain ⟨state, downs, -, -, keeps⟩ := laneDown_counts up (v := 6) (by decide)
    exact completes_act rfl (if_neg (by rw [on]; decide)) ⟨state, downs, keeps⟩
  case loss =>
    intro s n p on up port auto tests module_
    obtain ⟨stays, rest⟩ := laneCut_counts up port tests auto module_
    have act : laneLinkDown n false (some p) s = laneDown n 2 (s.count (P.slPortDrops p) 1) := by
      unfold laneLinkDown
      dsimp only
      rw [if_neg (by rw [on]; decide), if_neg Bool.false_ne_true, if_pos ⟨up, by omega⟩, rest]
    obtain ⟨state, downs, others, -, keeps⟩ := laneDown_counts (v := 2) stays (by decide)
    have notState : P.slPortDrops p ≠ P.slLaneState n := by simp only [P.slLaneState, P.slPortDrops]; omega
    have notDowns : P.slPortDrops p ≠ P.slLaneLinkDowns n := by simp only [P.slLaneLinkDowns, P.slPortDrops]; omega
    have cut : Keeps [P.slPortDrops p] s (s.count (P.slPortDrops p) 1) := (Keeps.refl _ s).count (by simp) 1
    refine completes_act rfl act ⟨state, ?_, ?_, (cut.trans keeps).weaken (by simp)⟩
    · rw [downs, s.reg_count_ne 1 notDowns.symm]
    · rw [others _ notState notDowns, State.reg_count, portDrops_width p port]
  case read =>
    intro s n a b on lane la lb fa fb
    obtain ⟨ident, diag, keeps⟩ := moduleInsert_reads on lane (some a) (some b)
    have wholeA : ((some a).map fun b => ofBytes (padTo 128 b)).getD 0 = ofBytes a := congrArg ofBytes (padTo_of_length la)
    have wholeB : ((some b).map fun b => ofBytes (padTo 16 b)).getD 0 = ofBytes b := congrArg ofBytes (padTo_of_length lb)
    refine completes_act rfl rfl ⟨?_, ?_, keeps⟩
    · rw [ident, moduleRead_ident lane (by rw [wholeA]; exact fa), wholeA]
    · rw [diag, moduleRead_diag lane (by rw [wholeB]; exact fb), wholeB]
  case unread =>
    intro s n on lane down tests auto four
    obtain ⟨ident, diag, keeps⟩ := moduleInsert_reads on lane none none
    obtain ⟨state, module_⟩ := moduleInsert_searches on lane down tests auto four none none
    exact completes_act rfl rfl ⟨ident.trans (moduleRead_ident lane (Nat.two_pow_pos _) ..), diag.trans (moduleRead_diag lane (Nat.two_pow_pos _) ..), state, module_, keeps⟩
  case poll =>
    intro s n b on lane module_ length fits
    refine completes_act rfl (if_pos ⟨on, lane, module_⟩) ⟨?_, keeps_setReg ..⟩
    have whole : ofBytes (padTo 16 b) = ofBytes b := congrArg ofBytes (padTo_of_length length)
    show (s.setReg (P.slModA2 n) (ofBytes (padTo 16 b))).reg (P.slModA2 n) = ofBytes b
    rw [whole]
    exact reg_setReg_fits (by rw [(lane_widths n lane).2.2.2]; exact fits) s
  case removed =>
    intro s n on lane up tests auto four
    have gone : (setAt s.sl.mods n false).getD n true = false := by simp [setAt, List.getD_eq_getElem?_getD, four, lane]
    have empty : (setAt s.sl.mods n false).getD n false = false := by simp [setAt, List.getD_eq_getElem?_getD, four, lane]
    have rest : laneRest (moduleTaken n s) n = 1 := by
      have mods : (moduleTaken n s).sl.mods.getD n false = false := empty
      rw [laneRest_free (s := moduleTaken n s) tests auto, mods]
      rfl
    have act : moduleRemoved n s = laneDown n 1 (moduleTaken n s) := by
      rw [← rest]
      exact if_neg (by simp [on]; omega)
    obtain ⟨state, downs, -, mods, keeps⟩ := laneDown_counts (s := moduleTaken n s) (v := 1) up (by decide)
    exact completes_act rfl act ⟨by rw [mods]; exact gone, state, downs, keeps⟩
  case aged =>
    intro s vid mac
    refine completes_act rfl rfl ⟨?_, List.length_filter_le .., (Keeps.refl _ s).setSl _⟩
    rintro e listed ⟨rfl, rfl⟩
    simpa using (List.mem_filter.1 listed).2

end Sys2Proof.Machine
end

section
/-!
SUPPORT. What the switch reads, which no port counter is (spec/15_stage_link.md R395 to R399).
-/

namespace Sys2Proof.Machine

open Sys2Proof

/-- A counter of a port of the switch: SL_PORTp_RX_FRAMES and those behind it. -/
def PortCounter (q : Nat) : Prop := 0x901000 ≤ q ∧ q < 0x901400 ∧ 5 ≤ q % 256

theorem rxFrames_counter {p : Nat} (port : p < 4) : PortCounter (P.slPortRxFrames p) := by simp only [PortCounter, P.slPortRxFrames]; omega
theorem txFrames_counter {p : Nat} (port : p < 4) : PortCounter (P.slPortTxFrames p) := by simp only [PortCounter, P.slPortTxFrames]; omega
theorem rxFcsErr_counter {p : Nat} (port : p < 4) : PortCounter (P.slPortRxFcsErr p) := by simp only [PortCounter, P.slPortRxFcsErr]; omega

/-- The widths of a port's counters. -/
theorem port_widths : ∀ p < 4, sizeOf' (P.slPortRxFrames p) = 4 ∧ sizeOf' (P.slPortTxFrames p) = 4 ∧ sizeOf' (P.slPortRxFcsErr p) = 4 ∧
    sizeOf' (P.slPortTxStomped p) = 4 := by decide +kernel

/-- Two states between which the switch has only counted, learned or sent. -/
structure SameSwitch (s t : State) : Prop where
  pwr : t.pwr = s.pwr
  clk : t.clk = s.clk
  regs : ∀ q, ¬ PortCounter q → t.reg q = s.reg q

theorem SameSwitch.count {s t : State} (same : SameSwitch s t) {q : Nat} (counter : PortCounter q) (k : Nat) : SameSwitch s (t.count q k) where
  pwr := same.pwr
  clk := same.clk
  regs := fun r other => (t.reg_count_ne k (fun eq => other (by rw [eq]; exact counter))).trans (same.regs r other)

theorem SameSwitch.learn {s t : State} (same : SameSwitch s t) (vid mac port : Nat) : SameSwitch s (Machine.learn vid mac port t) := by
  unfold Machine.learn
  split
  · exact same
  · dsimp only
    split
    · exact ⟨same.pwr, same.clk, same.regs⟩
    · exact same

theorem SameSwitch.refl (s : State) : SameSwitch s s := ⟨rfl, rfl, fun _ _ => rfl⟩

section
variable {s t : State} (same : SameSwitch s t)

include same

theorem SameSwitch.frameTci (port : Nat) (l : Bytes) : Machine.frameTci t port l = Machine.frameTci s port l := by
  unfold Machine.frameTci
  rw [same.regs (P.slPortPcp port) (by simp only [PortCounter, P.slPortPcp]; omega),
    same.regs (P.slPortPvid port) (by simp only [PortCounter, P.slPortPvid]; omega)]

theorem SameSwitch.frameVlan (port : Nat) (l : Bytes) : Machine.frameVlan t port l = Machine.frameVlan s port l := by
  unfold Machine.frameVlan
  rw [same.frameTci]

theorem SameSwitch.vlanEntry (vid : Nat) : Machine.vlanEntry t vid = Machine.vlanEntry s vid := by
  unfold Machine.vlanEntry
  rw [same.regs P.slVlanTable (by simp only [PortCounter, P.slVlanTable]; omega)]

theorem SameSwitch.laneState (n : Nat) : Machine.laneState t n = Machine.laneState s n := by
  refine laneState_congr same.pwr same.clk (fun q listed => same.regs q ?_) (same.regs _ ?_) (same.regs _ ?_)
  · simp only [lanePids, List.mem_cons, List.not_mem_nil, or_false] at listed
    simp only [PortCounter, P.slLanePatGen, P.slLanePatChk, P.slLaneLoopback] at *
    omega
  · simp only [PortCounter, P.slLaneState]; omega
  · simp only [PortCounter, P.pwThermLevel]; omega

theorem SameSwitch.portForwards (p : Nat) : Machine.portForwards t p = Machine.portForwards s p := by
  have state : ∀ r, t.reg (P.slPortState r) = s.reg (P.slPortState r) := fun r =>
    same.regs _ (by simp only [PortCounter, P.slPortState]; omega)
  unfold Machine.portForwards portTakes
  rw [laneUp_congr (same.laneState p), state, state]

theorem SameSwitch.queueOf (pcp : Nat) (l : Bytes) : Machine.queueOf t pcp l = Machine.queueOf s pcp l := by
  unfold Machine.queueOf
  rw [same.regs P.slPcpMap (by simp only [PortCounter, P.slPcpMap]; omega)]

theorem SameSwitch.egressBytes (port tci residence : Nat) (l : Bytes) :
    Machine.egressBytes t port tci residence l = Machine.egressBytes s port tci residence l := by
  unfold Machine.egressBytes
  rw [same.regs P.slPtpTcEn (by simp only [PortCounter, P.slPtpTcEn]; omega), same.vlanEntry]

theorem SameSwitch.cutsThrough (p q busy : Nat) : Machine.cutsThrough t p q busy = Machine.cutsThrough s p q busy := by
  unfold Machine.cutsThrough
  rw [same.regs (P.slPortFwd p) (by simp only [PortCounter, P.slPortFwd]; omega), same.laneState, same.laneState]

end

end Sys2Proof.Machine
end
section
/-!
PROOF. O48: what the switch does with a frame (spec/15_stage_link.md R395 to R400, R404).
-/

namespace Sys2Proof.Machine

open Sys2Proof

/-! ### One egress port -/

/-- A frame sent on a port, and counted there. -/
def frameOut (q tci residence fcs : Nat) (l : Bytes) (s : State) : State :=
  (s.emit (.slFrame q (queueOf s (tci / 8192) l) (egressBytes s q tci residence l ++ toBytes 4 fcs))).count (P.slPortTxFrames q) 1

theorem egress_good {q full : Nat} (room : bitOf full q = false) (lane : q ≠ 4) (p tci busy residence : Nat) (l : Bytes) (u : State) :
    egress p tci busy full residence true l q u = frameOut q tci residence (fcsOf (egressBytes u q tci residence l)) l u := by
  unfold egress
  rw [if_neg (by rw [room]; decide), if_neg lane]
  rfl

theorem egress_stomps {p q busy full : Nat} {u : State} (room : bitOf full q = false) (lane : q ≠ 4) (cut : cutsThrough u p q busy = true)
    (tci residence : Nat) (l : Bytes) : egress p tci busy full residence false l q u =
      (frameOut q tci residence (0xFFFFFFFF - fcsOf (egressBytes u q tci residence l)) l u).count (P.slPortTxStomped q) 1 := by
  unfold egress
  rw [if_neg (by rw [room]; decide), if_neg lane]
  dsimp only
  rw [if_neg Bool.false_ne_true, cut, if_pos rfl]
  rfl

theorem frameOut_sent {s u : State} (same : SameSwitch s u) (sent : u.sent = s.sent) (q tci residence fcs : Nat) (l : Bytes) :
    (frameOut q tci residence fcs l u).sent =
      .slFrame q (queueOf s (tci / 8192) l) (egressBytes s q tci residence l ++ toBytes 4 fcs) :: s.sent := by
  unfold frameOut
  rw [same.queueOf, same.egressBytes, ← sent]
  refine (State.count_sent ..).trans (emit_driven ?_)
  rfl

theorem frameOut_reg {q r : Nat} (other : r ≠ P.slPortTxFrames q) (tci residence fcs : Nat) (l : Bytes) (u : State) :
    (frameOut q tci residence fcs l u).reg r = u.reg r := State.reg_count_ne _ _ other

theorem frameOut_counted {q : Nat} (port : q < 4) (tci residence fcs : Nat) (l : Bytes) (u : State) :
    (frameOut q tci residence fcs l u).reg (P.slPortTxFrames q) = satAdd 32 (u.reg (P.slPortTxFrames q)) 1 := by
  unfold frameOut
  rw [State.reg_count, (port_widths q port).2.1]
  rfl

theorem Keeps.frameOut {k : List Nat} {s t : State} (keeps : Keeps k s t) {q : Nat} (listed : P.slPortTxFrames q ∈ k)
    (tci residence fcs : Nat) (l : Bytes) : Keeps k s (Machine.frameOut q tci residence fcs l t) := (keeps.emit _).count listed 1

/-! ### One frame -/

theorem learn_sent (vid mac port : Nat) (s : State) : (learn vid mac port s).sent = s.sent := by
  unfold learn
  split
  · rfl
  · dsimp only
    split
    · rfl
    · rfl

theorem Keeps.learn {k : List Nat} {s t : State} (keeps : Keeps k s t) (vid mac port : Nat) : Keeps k s (Machine.learn vid mac port t) := by
  unfold Machine.learn
  split
  · exact keeps
  · dsimp only
    split
    · exact keeps.setSl _
    · exact keeps

theorem learn_reg (vid mac port q : Nat) (s : State) : (learn vid mac port s).reg q = s.reg q :=
  ((Keeps.refl [] s).learn vid mac port).reg (by simp)

/-- A frame of a VLAN of its port that leaves through one port. -/
theorem switchFrame_one {p q busy full residence pcp vid e : Nat} {good : Bool} {l : Bytes} {s u : State}
    (vlan : frameVlan s p l = (pcp, vid)) (entry : vlanEntry s vid = some e) (member : vlanMember e p = true)
    (learned : u = if good = true ∧ portForwards s p = true then learn vid (macAt l 6) p s else s)
    (ports : egressPorts u p vid (macAt l 0) (ptpType (untag l)).isSome = ([q], false)) :
    switchFrame p busy full residence good l s = egress p (frameTci u p l) busy full residence good (untag l) q u := by
  unfold switchFrame
  dsimp only
  rw [vlan]
  dsimp only
  rw [entry]
  dsimp only
  rw [if_neg (by rw [member]; decide), ← learned, ports]
  rfl

theorem switchFrame_stray {p busy full residence : Nat} {l : Bytes} {s : State} (stray : vlanEntry s (frameVlan s p l).2 = none) :
    switchFrame p busy full residence true l s = s.count (P.slPortDrops p) 1 := by
  unfold switchFrame
  dsimp only
  rw [stray]
  rfl

section
variable {s : State} {p : Nat} {l : Bytes} (on : s.present 15 = true) (port : p < 4) (takes : portTakes s p = true)

include on port takes

theorem ingressFrame_short (bad : l.length < 64 ∨ 9216 < l.length) (busy full residence : Nat) :
    ingressFrame p l busy full residence s = s.count (P.slPortDrops p) 1 :=
  (if_neg (by simp [on, takes]; omega)).trans (if_pos bad)

variable (least : 64 ≤ l.length) (most : l.length ≤ 9216)

include least most

theorem ingressFrame_good (fcs : frameFcs l = fcsOf (frameBody l)) (busy full residence : Nat) :
    ingressFrame p l busy full residence s = switchFrame p busy full residence true l (s.count (P.slPortRxFrames p) 1) :=
  (if_neg (by simp [on, takes]; omega)).trans ((if_neg (by omega)).trans (if_pos fcs))

theorem ingressFrame_stomped (wrong : ¬ frameFcs l = fcsOf (frameBody l)) (stomped : frameFcs l = 0xFFFFFFFF - fcsOf (frameBody l))
    (busy full residence : Nat) : ingressFrame p l busy full residence s = s.count (P.slPortRxStomped p) 1 :=
  (if_neg (by simp [on, takes]; omega)).trans ((if_neg (by omega)).trans ((if_neg wrong).trans (if_pos stomped)))

theorem ingressFrame_bad (wrong : ¬ frameFcs l = fcsOf (frameBody l)) (other : ¬ frameFcs l = 0xFFFFFFFF - fcsOf (frameBody l))
    (busy full residence : Nat) :
    ingressFrame p l busy full residence s = switchFrame p busy full residence false l (s.count (P.slPortRxFcsErr p) 1) :=
  (if_neg (by simp [on, takes]; omega)).trans ((if_neg (by omega)).trans ((if_neg wrong).trans (if_neg other)))

end

/-- Settles O48, kind of frame by kind of frame. -/
theorem switchedFrames : Obligations.SwitchedFrames := by
  unfold Obligations.SwitchedFrames
  refine ⟨?short, ?stomped, ?stray, ?good, ?cut⟩
  case short =>
    intro s p busy full residence l on port takes bad
    exact completes_act rfl (ingressFrame_short on port takes bad ..) rfl
  case stomped =>
    intro s p busy full residence l on port takes least most wrong stomped
    exact completes_act rfl (ingressFrame_stomped on port takes least most wrong stomped ..) rfl
  case stray =>
    intro s p busy full residence l on port takes least most fcs none
    have same : SameSwitch s (s.count (P.slPortRxFrames p) 1) := (SameSwitch.refl s).count (rxFrames_counter port) 1
    refine completes_act rfl ((ingressFrame_good on port takes least most fcs ..).trans (switchFrame_stray ?_)) rfl
    rw [same.frameVlan, same.vlanEntry, none]
  case good =>
    intro s u p q pcp vid e busy full residence l on port port' takes forwards least most fcs vlan entry member learned ports room
    have counted : SameSwitch s (s.count (P.slPortRxFrames p) 1) := (SameSwitch.refl s).count (rxFrames_counter port) 1
    have same : SameSwitch s u := learned ▸ counted.learn vid (macAt l 6) p
    have sent : u.sent = s.sent := learned ▸ learn_sent ..
    have rx : P.slPortRxFrames p ≠ P.slPortTxFrames q := by simp only [P.slPortRxFrames, P.slPortTxFrames]; omega
    have tci : frameTci s p l / 8192 = pcp := congrArg Prod.fst vlan
    have one := switchFrame_one (good := true) (busy := busy) (full := full) (residence := residence) ((counted.frameVlan p l).trans vlan)
      ((counted.vlanEntry vid).trans entry) member (learned.trans (if_pos ⟨rfl, (counted.portForwards p).trans forwards⟩).symm) ports
    rw [egress_good room (by omega), same.frameTci, same.egressBytes] at one
    have keeps : Keeps [P.slPortRxFrames p, P.slPortTxFrames q] s u :=
      learned ▸ ((Keeps.refl _ s).count (by simp) 1).learn vid (macAt l 6) p
    refine completes_act rfl ((ingressFrame_good on port takes least most fcs ..).trans one) ⟨?_, ?_, ?_, rfl, keeps.frameOut (by simp) ..⟩
    · rw [frameOut_sent same sent, tci]
      rfl
    · rw [frameOut_reg rx, learned, learn_reg, State.reg_count, (port_widths p port).1]
    · rw [frameOut_counted port', learned, learn_reg, State.reg_count_ne _ _ rx.symm]
  case cut =>
    intro s u p q pcp vid e busy full residence l on port port' takes least most wrong other vlan entry member counts ports room cut
    have same : SameSwitch s u := counts ▸ (SameSwitch.refl s).count (rxFcsErr_counter port) 1
    have sent : u.sent = s.sent := by rw [counts, State.count_sent]
    have stays : u.sl = s.sl := by rw [counts, State.count_sl]
    have rx : P.slPortRxFcsErr p ≠ P.slPortTxFrames q := by simp only [P.slPortRxFcsErr, P.slPortTxFrames]; omega
    have rxStomped : P.slPortRxFcsErr p ≠ P.slPortTxStomped q := by simp only [P.slPortRxFcsErr, P.slPortTxStomped]; omega
    have tx : P.slPortTxStomped q ≠ P.slPortTxFrames q := by simp only [P.slPortTxStomped, P.slPortTxFrames]; omega
    have tci : frameTci s p l / 8192 = pcp := congrArg Prod.fst vlan
    have one := switchFrame_one (good := false) (busy := busy) (full := full) (residence := residence) (u := u) (s := u)
      ((same.frameVlan p l).trans vlan) ((same.vlanEntry vid).trans entry) member (if_neg (by simp)).symm ports
    rw [egress_stomps room (by omega) ((same.cutsThrough p q busy).trans cut), same.frameTci, same.egressBytes] at one
    have keeps : Keeps [P.slPortRxFcsErr p, P.slPortTxFrames q, P.slPortTxStomped q] s u := counts ▸ (Keeps.refl _ s).count (by simp) 1
    have act := ingressFrame_bad on port takes least most wrong other busy full residence
    rw [← counts, one] at act
    refine completes_act rfl act ⟨?_, ?_, ?_, stays, (keeps.frameOut (by simp) ..).count (by simp) 1⟩
    · rw [State.count_sent, frameOut_sent same sent, tci]
      rfl
    · rw [State.reg_count_ne _ _ rxStomped, frameOut_reg rx, counts, State.reg_count, (port_widths p port).2.2.1]
    · rw [State.reg_count, frameOut_reg tx, counts, State.reg_count_ne _ _ rxStomped.symm, (port_widths q port').2.2.2]

end Sys2Proof.Machine
end

section
/-!
SUPPORT. The MRAM and the prompt book do not look at the tag: what they do commutes with a change of the tag's state, up to a word read
through the fabric (spec/06_mram_and_prompt_book.md R139 to R163).
-/

namespace Sys2Proof.Machine

open Sys2Proof

/-- The tag's state replaced in the state of a result. -/
def retag {β : Type} (x : TagState) (r : β × State) : β × State := (r.1, r.2.setTag x)

section
variable (x : TagState)

theorem setTag_ite {c : Prop} [Decidable c] {a b a' b' : State} (yes : a' = a.setTag x) (no : b' = b.setTag x) :
    (if c then a' else b') = (if c then a else b).setTag x := by
  split
  · exact yes
  · exact no

theorem retag_ite {β : Type} {c : Prop} [Decidable c] {a b a' b' : β × State} (yes : a' = retag x a) (no : b' = retag x b) :
    (if c then a' else b') = retag x (if c then a else b) := by
  split
  · exact yes
  · exact no

/-! ### What is written and read -/

theorem setReg_setTag (s : State) (p v : Nat) : (s.setTag x).setReg p v = (s.setReg p v).setTag x := rfl
theorem count_setTag (s : State) (p k : Nat) : (s.setTag x).count p k = (s.count p k).setTag x := rfl
theorem setWord_setTag (s : State) (a w : Nat) : (s.setTag x).setWord a w = (s.setWord a w).setTag x := rfl
theorem emit_setTag (s : State) (o : Output) : (s.setTag x).emit o = (s.emit o).setTag x := rfl
theorem setDom_setTag (s : State) (d : Nat) (v : DomState) : (s.setTag x).setDom d v = (s.setDom d v).setTag x := rfl
theorem drawBits_setTag (s : State) (w : Nat) : (s.setTag x).drawBits w = retag x (s.drawBits w) := rfl
theorem noteRec_setTag (r : Rec) (counted : Bool) (s : State) : noteRec r counted (s.setTag x) = (noteRec r counted s).setTag x := rfl
theorem liveBank_setTag (s : State) : (s.setTag x).liveBank = s.liveBank := rfl
theorem otherBank_setTag (s : State) : (s.setTag x).otherBank = s.otherBank := rfl
theorem fill_setTag (s : State) : (s.setTag x).fill = s.fill := rfl
theorem nextSeq_setTag (s : State) : (s.setTag x).nextSeq = s.nextSeq := rfl
theorem recOf_setTag (j : JReq) (s : State) : (s.setTag x).recOf j = s.recOf j := rfl
theorem dom_setTag (s : State) (d : Nat) : (s.setTag x).dom d = s.dom d := rfl
theorem domOn_setTag (s : State) (d : Nat) : (s.setTag x).domOn d = s.domOn d := rfl

/-! ### Records written (R155 to R158) -/

theorem setWords_setTag (l : List Nat) (a : Nat) (s : State) : (s.setTag x).setWords a l = (s.setWords a l).setTag x := by
  induction l generalizing a s with
  | nil => rfl
  | cons w t ih => exact ih (a + 16) (s.setWord a w)

theorem setRegs_setTag (l : List (Nat × Nat)) (s : State) : (s.setTag x).setRegs l = (s.setRegs l).setTag x := by
  induction l generalizing s with
  | nil => rfl
  | cons e t ih => exact ih (s.setReg e.1 e.2)

theorem writeRec_setTag (bank pos : Nat) (r : Rec) (s : State) : writeRec (s.setTag x) bank pos r = (writeRec s bank pos r).setTag x :=
  setWords_setTag x _ _ s

theorem appendRec_setTag (j : JReq) (s : State) : appendRec j (s.setTag x) = (appendRec j s).setTag x := by
  simp only [appendRec, recOf_setTag, liveBank_setTag, fill_setTag, nextSeq_setTag, writeRec_setTag, noteRec_setTag, setReg_setTag]

theorem payOwed_setTag (s : State) : payOwed (s.setTag x) = (payOwed s).setTag x :=
  setTag_ite x rfl (appendRec_setTag x _ { s with jnl := { s.jnl with owed := [] } })

theorem finishSlot_setTag (s : State) : finishSlot (s.setTag x) = (finishSlot s).setTag x := by
  unfold finishSlot
  rw [State.setTag_jnl]
  cases s.jnl.slot with
  | none => rfl
  | some e => rfl

/-! ### Compaction (R160 to R162) -/

theorem startCompaction_setTag (s : State) : startCompaction (s.setTag x) = (startCompaction s).setTag x := by
  unfold startCompaction
  rw [State.setTag_jnl]
  cases s.jnl.comp with
  | none => rfl
  | some c => rfl

theorem compactRec_setTag (c : Compaction) (typ stime : Nat) (payload : List Nat) (s : State) :
    compactRec c typ stime payload (s.setTag x) = retag x (compactRec c typ stime payload s) := by
  simp only [compactRec, otherBank_setTag, nextSeq_setTag, writeRec_setTag, setReg_setTag, retag]

/-- The tag's state replaced behind two results. -/
def retag₂ {β γ : Type} (r : β × γ × State) : β × γ × State := (r.1, retag x r.2)

theorem compactSome_setTag (k room : Nat) (c : Compaction) (l : List (Nat × Nat × List Nat)) (s : State) :
    compactSome k room c l (s.setTag x) = retag₂ x (compactSome k room c l s) := by
  induction k generalizing room c l s with
  | zero => rfl
  | succ k ih =>
    match l with
    | [] => rfl
    | (typ, stime, p) :: t =>
      rw [compactSome, compactSome]
      split
      · rfl
      · dsimp only
        rw [compactRec_setTag]
        exact ih _ _ _ _

theorem releaseHeld_setTag (k : Nat) (s : State) : releaseHeld k (s.setTag x) = (releaseHeld k s).setTag x := by
  induction k generalizing s with
  | zero => rfl
  | succ k ih =>
    rw [releaseHeld, releaseHeld, State.setTag_jnl]
    match s.jnl.held with
    | [] => rfl
    | (who, j) :: t =>
      have appended := appendRec_setTag x j { s with jnl := { s.jnl with held := t } }
      have sent := congrArg (fun u : State => releaseHeld k (u.emit (.commitAck who 0))) appended
      rw [emit_setTag, ih] at sent
      exact sent

/-- The book of the half just written. -/
def bookSwitched (c : Compaction) (s : State) : State :=
  { s with jnl := { s.jnl with comp := none, recs := c.written, persist := c.written.reverse.foldl applyRec [] } }

theorem bookSwitched_setTag (c : Compaction) (s : State) : bookSwitched c (s.setTag x) = (bookSwitched c s).setTag x := rfl

theorem switchHalf_eq (c : Compaction) (s : State) : switchHalf c s =
    bookSwitched c (((s.setReg P.pbkLiveHalf (if s.liveBank = 1 then 2 else 1)).setReg P.pbkFill c.pos).count P.pbkCompactions 1) := rfl

theorem switchHalf_setTag (c : Compaction) (s : State) : switchHalf c (s.setTag x) = (switchHalf c s).setTag x := by
  rw [switchHalf_eq, switchHalf_eq, liveBank_setTag, setReg_setTag, setReg_setTag, count_setTag, bookSwitched_setTag]

/-- A compaction that goes on. -/
def bookCompacting (c : Compaction) (s : State) : State := { s with jnl := { s.jnl with comp := some c } }

theorem bookCompacting_setTag (c : Compaction) (s : State) : bookCompacting c (s.setTag x) = (bookCompacting c s).setTag x := rfl

theorem tail_setTag (s : State) (above : Nat) : (s.setTag x).tail above = s.tail above := rfl

theorem compactionSector_setTag (s : State) : compactionSector (s.setTag x) = (compactionSector s).setTag x := by
  unfold compactionSector
  rw [State.setTag_jnl]
  cases s.jnl.comp with
  | none => rfl
  | some c =>
    simp only [tail_setTag, compactSome_setTag, retag₂, retag, State.setTag_now, compactRec_setTag, switchHalf_setTag, releaseHeld_setTag,
      State.setTag_jnl]
    exact setTag_ite x (setTag_ite x rfl (bookCompacting_setTag x _ _)) (bookCompacting_setTag x _ _)

theorem compactAll_setTag (k : Nat) (s : State) : compactAll k (s.setTag x) = (compactAll k s).setTag x := by
  induction k generalizing s with
  | zero => rfl
  | succ k ih =>
    refine setTag_ite x rfl ?_
    rw [compactionSector_setTag]
    exact ih _

theorem compactNow_setTag (s : State) : compactNow (s.setTag x) = (compactNow s).setTag x := by
  unfold compactNow
  rw [startCompaction_setTag, compactAll_setTag]

theorem compactIfFull_setTag (s : State) : compactIfFull (s.setTag x) = (compactIfFull s).setTag x :=
  setTag_ite x (startCompaction_setTag x s) rfl

theorem bookRest_setTag (s : State) : bookRest (s.setTag x) = (bookRest s).setTag x := by
  unfold bookRest
  rw [finishSlot_setTag]
  exact setTag_ite x rfl (compactNow_setTag x _)

/-! ### Recovery (R163) -/

theorem wordsAt_setTag (s : State) (a n : Nat) : (s.setTag x).wordsAt a n = s.wordsAt a n := wordsAt_congr (State.setTag_mem s x) a n

theorem scanHalf_setTag (bad : List Nat) (bank k : Nat) (c : Scan) (s : State) :
    scanHalf (s.setTag x) bad bank k c = scanHalf s bad bank k c := by
  have word : ∀ a, (s.setTag x).word a = s.word a := fun _ => rfl
  induction k generalizing c with
  | zero => rfl
  | succ k ih => simp only [scanHalf, word, wordsAt_setTag, State.setTag_jnl, ih]

theorem restoreOwn_setTag (s : State) : restoreOwn (s.setTag x) = (restoreOwn s).setTag x := setRegs_setTag x _ s

/-- The engine's state taken from a half. -/
def halfTaken (c : Scan) (s : State) : State :=
  { s with jnl := { s.jnl with
    ready := true, recs := c.recs, persist := c.recs.reverse.foldl applyRec [], slot := none, held := [], comp := none, window := [] } }

theorem halfTaken_setTag (c : Scan) (s : State) : halfTaken c (s.setTag x) = (halfTaken c s).setTag x := rfl

theorem adoptHalf_eq (bank : Nat) (c : Scan) (next status us : Nat) (s : State) : adoptHalf bank c next status us s =
    (restoreOwn (halfTaken c s)).setRegs [(P.pbkSeqNext, next), (P.pbkLiveHalf, bank), (P.pbkFill, c.pos),
      (P.pbkRecoveryStatus, status), (P.pbkRecoveryUs, us)] := rfl

theorem adoptHalf_setTag (bank : Nat) (c : Scan) (next status us : Nat) (s : State) :
    adoptHalf bank c next status us (s.setTag x) = (adoptHalf bank c next status us s).setTag x := by
  rw [adoptHalf_eq, adoptHalf_eq, halfTaken_setTag, restoreOwn_setTag, setRegs_setTag]

theorem scan_setTag (bad : List Nat) (bank : Nat) (s : State) : (s.setTag x).scan bad bank = s.scan bad bank := scanHalf_setTag x bad bank _ _ s

theorem recover_setTag (us : Nat) (bad : List Nat) (s : State) : recover us bad (s.setTag x) = (recover us bad s).setTag x := by
  unfold recover
  dsimp only
  rw [scan_setTag, scan_setTag]
  refine setTag_ite x ?_ (setTag_ite x ?_ ?_)
  · rw [State.setTag_now, writeRec_setTag, writeRec_setTag, adoptHalf_setTag]
  · rw [adoptHalf_setTag, startCompaction_setTag]
  · rw [adoptHalf_setTag]

theorem ensureReady_setTag (s : State) : ensureReady (s.setTag x) = (ensureReady s).setTag x :=
  setTag_ite x rfl (recover_setTag x _ _ (s.drawBits 15).2)

/-! ### Commits (R159, R160) -/

theorem commitOn_setTag (j : JReq) (s : State) : commitOn j (s.setTag x) = retag x (commitOn j s) := by
  unfold commitOn
  dsimp only
  rw [bookRest_setTag, show ((bookRest s).setTag x).judgeCommit j = (bookRest s).judgeCommit j from rfl]
  match (bookRest s).judgeCommit j with
  | .busy => rfl
  | .accepted =>
    dsimp only
    rw [appendRec_setTag, payOwed_setTag, compactIfFull_setTag]
    rfl
  | .held =>
    dsimp only
    rw [compactNow_setTag, appendRec_setTag, payOwed_setTag]
    rfl

theorem ownEntryOn_setTag (s : State) : ownEntryOn (s.setTag x) = (ownEntryOn s).setTag x :=
  setTag_ite x rfl (congrArg Prod.snd (commitOn_setTag x _ s))

/-- The engine's state lost with PD36. -/
def bookForgotten (s : State) : State := { s with jnl := { s.jnl with ready := false, window := [] } }

theorem bookForgotten_setTag (s : State) : bookForgotten (s.setTag x) = (bookForgotten s).setTag x := rfl

/-- The engine stopped before PD36 falls. -/
def bookStopped (s : State) : State := { s with jnl := { s.jnl with ready := false } }

theorem bookStopped_setTag (s : State) : bookStopped (s.setTag x) = (bookStopped s).setTag x := rfl

theorem keeperUp_setTag (s : State) : keeperUp (s.setTag x) = (keeperUp s).setTag x := by
  have on : (if (s.setTag x).domOn 36 then s.setTag x else bookForgotten (s.setTag x)) =
      (if s.domOn 36 then s else bookForgotten s).setTag x := setTag_ite x rfl (bookForgotten_setTag x s)
  have powered := congrArg (fun u : State => ensureReady (((u.setDom 36 .on).setDom 29 .on).setDom 30 .on)) on
  rw [setDom_setTag, setDom_setTag, setDom_setTag, ensureReady_setTag] at powered
  exact powered

theorem keeperDown_setTag (was s : State) : keeperDown (was.setTag x) (s.setTag x) = (keeperDown was s).setTag x := by
  have entry : (if (was.setTag x).domOn 36 then s.setTag x else ownEntryOn (compactAll 600 (s.setTag x))) =
      (if was.domOn 36 then s else ownEntryOn (compactAll 600 s)).setTag x :=
    setTag_ite x rfl (by rw [compactAll_setTag, ownEntryOn_setTag])
  unfold keeperDown
  dsimp only
  rw [entry, dom_setTag, dom_setTag, dom_setTag, domOn_setTag]
  generalize (if was.domOn 36 then s else ownEntryOn (compactAll 600 s)) = u
  have stopped : (if was.domOn 36 then u.setTag x else bookStopped (u.setTag x)) = (if was.domOn 36 then u else bookStopped u).setTag x :=
    setTag_ite x rfl (bookStopped_setTag x u)
  have off := congrArg (fun v : State => ((v.setDom 36 (was.dom 36)).setDom 29 (was.dom 29)).setDom 30 (was.dom 30)) stopped
  rw [setDom_setTag, setDom_setTag, setDom_setTag] at off
  exact off

theorem commit_setTag (j : JReq) (s : State) : commit j (s.setTag x) = retag x (commit j s) := by
  refine retag_ite x ?_ ?_
  · rw [ensureReady_setTag, commitOn_setTag]
  · dsimp only
    rw [keeperUp_setTag, commitOn_setTag]
    exact congrArg (Prod.mk _) (keeperDown_setTag x s _)

theorem record_setTag (typ : Nat) (payload : List Nat) (s : State) : record typ payload (s.setTag x) = (record typ payload s).setTag x :=
  congrArg Prod.snd (commit_setTag x ⟨typ, s.now, payload, false⟩ s)

/-! ### Reads (R139 to R142) -/

theorem recordFault_setTag (w : Nat) (s : State) : recordFault w (s.setTag x) = (recordFault w s).setTag x :=
  record_setTag x _ _ (s.setReg P.pbkLastMramFault w)

theorem uncorrectable_setTag (a : Nat) (s : State) : uncorrectable a (s.setTag x) = (uncorrectable a s).setTag x :=
  recordFault_setTag x _ (s.count P.pbkUncorr 1)

theorem writeRepairEntry_setTag (i : Nat) (s : State) : writeRepairEntry i (s.setTag x) = (writeRepairEntry i s).setTag x := rfl

theorem updateSpares_setTag (bank sub : Nat) (s : State) : updateSpares bank sub (s.setTag x) = (updateSpares bank sub s).setTag x := rfl

/-- A repair taken into the list. -/
def repairAdded (e : Repair) (s : State) : State := { s with mram := { s.mram with repairs := s.mram.repairs ++ [e] } }

theorem repairAdded_setTag (e : Repair) (s : State) : repairAdded e (s.setTag x) = (repairAdded e s).setTag x := rfl

/-- A repair entered. -/
def columnRepaired (e : Repair) (s : State) : State :=
  updateSpares e.bank e.sub (writeRepairEntry ((repairAdded e s).mram.repairs.length - 1) (repairAdded e s))

theorem columnRepaired_setTag (e : Repair) (s : State) : columnRepaired e (s.setTag x) = (columnRepaired e s).setTag x := by
  simp only [columnRepaired, repairAdded_setTag, State.setTag_mram, writeRepairEntry_setTag, updateSpares_setTag]

/-- A column that no spare is left for. -/
def columnLost (bank sub slot bit : Nat) (s : State) : State :=
  ({ s with mram := { s.mram with exhausted := (bank, sub, slot, bit) :: s.mram.exhausted } } : State).count P.pbkColumnFaults 1

theorem columnLost_setTag (bank sub slot bit : Nat) (s : State) :
    columnLost bank sub slot bit (s.setTag x) = (columnLost bank sub slot bit s).setTag x := rfl

/-- The repair of a column by a spare. -/
def repairBy (bank sub slot bit k : Nat) (s : State) : Repair :=
  { bank := bank, sub := sub, slot := slot, bit := bit, spare := k, row := 0, done := false, time := s.now, missed := [] }

theorem knownColumn_setTag (bank sub slot bit : Nat) (s : State) : knownColumn (s.setTag x) bank sub slot bit = knownColumn s bank sub slot bit := rfl

theorem spareFree_setTag (bank sub : Nat) (s : State) : spareFree (s.setTag x) bank sub = spareFree s bank sub := rfl

theorem repairBy_setTag (bank sub slot bit k : Nat) (s : State) :
    repairBy bank sub slot bit k (s.setTag x) = repairBy bank sub slot bit k s := rfl

theorem columnFault_eq (bank sub slot bit : Nat) (s : State) : columnFault bank sub slot bit s =
    if knownColumn s bank sub slot bit then s
    else ((List.range 4).find? (spareFree s bank sub)).elim
      (recordFault (mramFault s.now 5 bank sub slot bit 7 (columnAddr bank sub slot)) (columnLost bank sub slot bit s))
      fun k => columnRepaired (repairBy bank sub slot bit k s) s := by
  unfold columnFault
  cases (List.range 4).find? (spareFree s bank sub) with
  | none => rfl
  | some k => rfl

theorem cellFault_setTag (a bit : Nat) (s : State) : cellFault a bit (s.setTag x) = (cellFault a bit s).setTag x := by
  rw [cellFault, count_setTag, State.setTag_now, setReg_setTag, cellFault]

theorem columnFault_setTag (bank sub slot bit : Nat) (s : State) :
    columnFault bank sub slot bit (s.setTag x) = (columnFault bank sub slot bit s).setTag x := by
  rw [columnFault_eq, columnFault_eq, knownColumn_setTag, spareFree_setTag, columnLost_setTag, recordFault_setTag, State.setTag_now]
  refine setTag_ite x rfl ?_
  cases (List.range 4).find? (spareFree s bank sub) with
  | none => rw [Option.elim_none, Option.elim_none]
  | some k =>
    rw [Option.elim_some, Option.elim_some, repairBy_setTag]
    exact columnRepaired_setTag x (repairBy bank sub slot bit k s) s

theorem pairReads_setTag (b : Option Bool) (s : State) : pairReads b (s.setTag x) = retag x (pairReads b s) := by
  cases b with
  | none => rfl
  | some b => rfl

theorem corrected_setTag (a bit : Nat) (b : Option Bool) (s : State) : corrected a bit b (s.setTag x) = (corrected a bit b s).setTag x := by
  refine setTag_ite x rfl (setTag_ite x ?_ (cellFault_setTag x a bit (notePass a bit s)))
  have read : pairReads b (notePass a bit (s.setTag x)) = retag x (pairReads b (notePass a bit s)) := pairReads_setTag x b (notePass a bit s)
  dsimp only
  rw [read]
  exact setTag_ite x (columnFault_setTag x _ _ _ _ _) (cellFault_setTag x _ _ _)

theorem noteWrong_setTag (a : Nat) (errs : List Nat) (s : State) : noteWrong a errs (s.setTag x) = (noteWrong a errs s).setTag x := rfl

theorem liveErrs_setTag (s : State) (a : Nat) (errs : List Nat) : liveErrs (s.setTag x) a errs = liveErrs s a errs := rfl

theorem mramRead_setTag (a : Nat) (errs : List Nat) (b : Option Bool) (s : State) :
    mramRead a errs b (s.setTag x) = retag₂ x (mramRead a errs b s) := by
  unfold mramRead
  dsimp only
  rw [noteWrong_setTag, liveErrs_setTag]
  match liveErrs (noteWrong (a / 16 * 16) errs s) (a / 16 * 16) errs with
  | [] => rfl
  | [c] =>
    dsimp only
    rw [corrected_setTag]
    rfl
  | [c, d] =>
    dsimp only
    rw [uncorrectable_setTag]
    rfl
  | c :: d :: e :: l =>
    dsimp only
    rw [drawBits_setTag]
    simp only [retag, uncorrectable_setTag]
    split
    · rfl
    · rfl

theorem tagRead_setTag (a : Nat) (s : State) : tagRead a (s.setTag x) = retag₂ x (tagRead a s) := by
  unfold tagRead
  rw [show (s.setTag x).present 14 = s.present 14 from rfl, show (s.setTag x).wrongAt a = s.wrongAt a from rfl,
    show darkBad (s.setTag x) a = darkBad s a from rfl, mramRead_setTag]
  split
  · rfl
  · split
    · rfl
    · rfl

theorem noteScan_setTag (l : List Nat) (n : Nat) (s : State) : noteScan l (n, s.setTag x) = retag x (noteScan l (n, s)) := by
  induction l generalizing n s with
  | nil => rfl
  | cons i l ih =>
    rw [noteScan, noteScan]
    dsimp only
    rw [tagRead_setTag]
    exact ih _ _

end

end Sys2Proof.Machine
end

section
/-!
PROOF. O40: the dark tag from the field to the selected application (spec/16_tags_and_cards.md R419 to R421, R430).
-/

namespace Sys2Proof.Machine

open Sys2Proof

/-! ### The field (R419) -/

/-- PD62 and PD02 raised by a field. -/
def fieldRaised (s : State) : State := ((s.setDom 62 .on).setDom 2 .on).setSrc 9 0

/-- The tag as a field finds it. -/
def fieldTag (s : State) : TagState :=
  { s.tag with
    field := true, fieldAt := s.mono, level := 1, woken := false, rats := false, rndB := none, byAes := false, failAt := none }

theorem tagTo_dom (n : Nat) (s : State) (d : Nat) : (tagTo n s).dom d = s.dom d := congrArg (fun p : PwrState => p.dom.getD d .off) (State.setReg_pwr ..)

theorem fieldOn_powers {s : State} (none : s.tag.field = false) (domains : s.pwr.dom.length = 64) :
    (fieldOn s).reg P.tagState = 1 ∧ (fieldOn s).tag.field = true ∧ (fieldOn s).tag.fieldAt = s.mono ∧ (fieldOn s).dom 62 = .on ∧
      (fieldOn s).dom 2 = .on ∧ Keeps [P.tagState] s (fieldOn s) := by
  have act : fieldOn s = tagTo tagIdle ((fieldRaised s).setTag (fieldTag s)) := if_neg (by rw [none]; decide)
  have length : (s.setDom 62 .on).pwr.dom.length = 64 := (List.length_set ..).trans domains
  have two : (fieldRaised s).dom 2 = .on := dom_setDom (s := s.setDom 62 .on) .on (by rw [length]; decide)
  have radio : (fieldRaised s).dom 62 = .on :=
    (dom_setDom_ne (s.setDom 62 .on) .on (by decide)).trans (dom_setDom .on (by rw [domains]; decide))
  have raised : Keeps [P.tagState] s (fieldRaised s) := keeps_of_eq rfl rfl |>.weaken (by simp)
  rw [act, tagTo_dom, tagTo_dom, tagTo_tag]
  exact ⟨tagTo_state (by decide) _, rfl, rfl, radio, two, (raised.setTag _).tagTo (by decide) _⟩

/-- The tag without a field. -/
def darkTag (s : State) : TagState :=
  { s.tag with field := false, level := 1, woken := false, rats := false, rndB := none, byAes := false, failAt := none }

theorem fieldLoss_unpowers {s : State} (keeper : s.pwr.darkKeeper = true) (domains : s.pwr.dom.length = 64) :
    (fieldLoss s).reg P.tagState = 0 ∧ (fieldLoss s).tag.field = false ∧ (fieldLoss s).dom 62 = .off ∧ Keeps [P.tagState] s (fieldLoss s) := by
  have held : (tagTo tagOff ((s.setDom 62 .off).setTag (darkTag s))).pwr.darkKeeper = true :=
    (congrArg PwrState.darkKeeper (State.setReg_pwr ..)).trans keeper
  have act : fieldLoss s = tagTo tagOff ((s.setDom 62 .off).setTag (darkTag s)) := if_pos held
  rw [act, tagTo_dom, tagTo_tag]
  exact ⟨tagTo_state (by decide) _, rfl, dom_setDom (s := s) .off (by rw [domains]; decide),
    (((Keeps.refl _ s).setDom 62 .off).setTag _).tagTo (by decide) _⟩

/-! ### Selection (R420, R421) -/

theorem tagBack_waiting {s : State} (ready : tagSt s = 2) : tagBack s = tagTo (if s.tag.woken then tagHalted else tagIdle) s :=
  if_pos (by simp [tagSelecting, ready])

theorem tagBack_elsewhere {s : State} (outside : tagSelecting s = false) : tagBack s = s := if_neg (by rw [outside]; decide)

/-- The tag called by REQA or WUPA. -/
def tagCalled (s : State) : State :=
  tagTo tagReady (s.setTag { s.tag with level := 1, rats := false, woken := tagSt s == tagHalted })

theorem requestA_calls {s : State} {wake : Bool} (ready : tagReadyToAnswer s = true) (state : tagSt s = 1 ∨ (wake = true ∧ tagSt s = 6)) :
    requestA wake s = (tagCalled s).emit (.tag atqa (some (frameDelay wake))) :=
  (if_neg (by rw [ready]; decide)).trans (if_pos state)

theorem tagCalled_answers (s : State) (wake : Bool) : ((tagCalled s).emit (.tag atqa (some (frameDelay wake)))).sent =
    .tag atqa (some (frameDelay wake)) :: s.sent := by
  have driven : (tagCalled s).drives (.tag atqa (some (frameDelay wake))) = true := rfl
  rw [emit_driven driven, tagCalled, tagTo_sent, setTag_sent]

theorem tagCalled_ready (s : State) : (tagCalled s).reg P.tagState = 2 := tagTo_state (by decide) _

theorem tagCalled_tag (s : State) : (tagCalled s).tag = { s.tag with level := 1, rats := false, woken := tagSt s == tagHalted } :=
  tagTo_tag ..

theorem Keeps.tagCalled {s : State} : Keeps [P.tagState] s (Machine.tagCalled s) := by
  unfold Machine.tagCalled
  exact ((Keeps.refl _ s).setTag _).tagTo (by decide) _

theorem selectCascade_selects {s : State} {lv : Nat} (ready : tagSt s = 2) (level : s.tag.level = lv) :
    selectCascade lv (uidPart s lv) s =
      if lv = 1 then (s.setTag { s.tag with level := 2 }).emit (.tag [0x04] (some (selectDelay lv (uidPart s lv))))
      else (tagTo tagActive s).emit (.tag [0x20] (some (selectDelay lv (uidPart s lv)))) :=
  if_neg (by simp [ready, level])

/-! ### The selected application (R430) -/

/-- Clean slots are scanned without a trace. -/
theorem noteScan_clean {l : List Nat} {s : State} (clean : ∀ k ∈ l, s.wrongAt (noteAddr k) = []) (n : Nat) : Unread s (noteScan l (n, s)).2 := by
  induction l generalizing n s with
  | nil => exact ⟨rfl, rfl, rfl, fun _ good => good⟩
  | cons i l ih =>
    obtain ⟨t, unread, read⟩ := tagRead_clean (s := s) (a := noteAddr i) (by unfold noteAddr; omega) (clean i (by simp))
    rw [noteScan, read]
    exact unread.trans (ih (fun k here => unread.clean _ (clean k (by simp [here]))) _)

/-- The notes scanned from the state in which the challenge is forgotten. -/
def notesScanned (s : State) : State := (noteScan (List.range 192) (0, dropChallenge s)).2

/-- The application selected. -/
def appSelected (s : State) : State := (tagTo tagOpen (notesScanned s)).setReg P.tagNoteNext (nextNote s)

theorem selectApplication_active {s : State} (block : tagBlock s = true) (active : tagSt s = 5) :
    selectApplication tagAid s = tagSay [] 0x9000 (appSelected s) := by
  have running : ¬ tagBlock (dropChallenge s) = false := by rw [show tagBlock (dropChallenge s) = true from block]; decide
  have state : tagSt (dropChallenge s) = tagActive := active
  have highest : (noteScan (List.range 192) (0, dropChallenge s)).1 + 1 = nextNote s := by
    unfold nextNote dropChallenge
    rw [noteScan_setTag, retag]
  have act : selectApplication tagAid s = tagSay [] 0x9000 ((tagTo tagOpen (notesScanned s)).setReg P.tagNoteNext
      ((noteScan (List.range 192) (0, dropChallenge s)).1 + 1)) :=
    (if_neg running).trans ((if_neg (not_not.2 rfl)).trans ((if_neg (not_not.2 rfl)).trans (if_pos state)))
  rw [act, highest, appSelected]

theorem appSelected_state (s : State) : (appSelected s).reg P.tagState = 3 := by
  rw [appSelected, State.reg_setReg_ne _ _ (by decide)]
  exact tagTo_state (n := 3) (by decide) _

theorem appSelected_next (s : State) : (appSelected s).reg P.tagNoteNext = nextNote s % 2 ^ 32 := by
  have width : sizeOf' P.tagNoteNext = 4 := by decide +kernel
  rw [appSelected, State.reg_setReg, width]

theorem appSelected_sent (s : State) : (appSelected s).sent = (notesScanned s).sent := by rw [appSelected, State.setReg_sent, tagTo_sent]

/-- Settles O40, command by command. -/
theorem tagProtocol : Obligations.TagProtocol := by
  unfold Obligations.TagProtocol
  refine ⟨?fieldOn, ?fieldLoss, ?reqa, ?wupa, ?anticollision, ?selectOne, ?selectTwo, ?outside, ?wrongLevel, ?rats, ?halt, ?deselect,
    ?clean, ?select⟩
  case fieldOn => exact fun s none domains => completes_act rfl rfl (fieldOn_powers none domains)
  case fieldLoss => exact fun s keeper domains => completes_act rfl rfl (fieldLoss_unpowers keeper domains)
  case reqa =>
    intro s ready idle
    refine completes_act rfl (requestA_calls ready (.inl idle)) ⟨tagCalled_ready s, ?_, tagCalled_answers s false, Keeps.tagCalled.emit _⟩
    rw [State.emit_tag, tagCalled_tag]
  case wupa =>
    intro s ready halted
    refine completes_act rfl (requestA_calls ready (.inr ⟨rfl, halted⟩)) ⟨tagCalled_ready s, ?_, ?_, tagCalled_answers s true,
      Keeps.tagCalled.emit _⟩
    · rw [State.emit_tag, tagCalled_tag]
    · rw [State.emit_tag, tagCalled_tag, halted]
      rfl
  case anticollision =>
    intro s n p ready few same
    exact completes_act rfl ((if_pos ⟨ready, rfl, few⟩).trans (if_pos same)) rfl
  case selectOne =>
    intro s ready level
    exact completes_act rfl ((selectCascade_selects ready level).trans (if_pos rfl)) ⟨rfl, rfl, ((Keeps.refl _ s).setTag _).emit _⟩
  case selectTwo =>
    intro s ready level
    refine completes_act rfl ((selectCascade_selects ready level).trans (if_neg (by decide))) ⟨?_, ?_,
      ((Keeps.refl _ s).tagTo (by decide) _).emit _⟩
    · exact tagTo_state (n := 5) (by decide) s
    · rw [emit_driven rfl, tagTo_sent]
  case outside =>
    intro s lv part outside
    have elsewhere : tagSt s ≠ tagReady := fun ready => by simp [tagSelecting, ready] at outside
    exact completes_act rfl ((if_pos (.inl elsewhere)).trans (tagBack_elsewhere outside)) rfl
  case wrongLevel =>
    intro s lv part ready wrong
    refine completes_act rfl ((if_pos (.inr (.inl wrong))).trans (tagBack_waiting ready)) ⟨?_, tagTo_sent .., (Keeps.refl _ s).tagTo (by decide) _⟩
    split
    · exact tagTo_state (n := 6) (by decide) s
    · exact tagTo_state (n := 1) (by decide) s
  case rats =>
    intro s active first
    exact completes_act rfl (if_pos ⟨active, first⟩) ⟨rfl, rfl, ((Keeps.refl _ s).setTag _).emit _⟩
  case halt =>
    intro s active first
    exact completes_act rfl (if_pos ⟨active, first⟩) ⟨tagTo_state (n := 6) (by decide) s, (Keeps.refl _ s).tagTo (by decide) _⟩
  case deselect =>
    intro s block state
    have runs : tagSt s = tagActive ∨ tagSt s = tagOpen ∨ tagSt s = tagSecured := state
    refine completes_act rfl (if_pos ⟨block, runs⟩) ⟨?_, ?_, ?_, (((Keeps.refl _ s).setTag _).tagTo (by decide) _).emit _⟩
    · exact tagTo_state (n := 6) (by decide) (s.setTag { s.tag with rats := false, rndB := none, byAes := false })
    · rw [State.emit_tag, tagTo_tag]
      rfl
    · rw [emit_driven rfl, tagTo_sent, setTag_sent]
  case clean =>
    intro s block active clean
    have slots : ∀ k ∈ List.range 192, (dropChallenge s).wrongAt (noteAddr k) = [] := fun k here => clean k (List.mem_range.1 here)
    have unread : Unread (dropChallenge s) (notesScanned s) := by
      unfold notesScanned
      exact noteScan_clean slots 0
    have scanned : Keeps [P.tagState, P.tagNoteNext] s (notesScanned s) :=
      (keeps_of_eq (s := s) unread.regs unread.mem).weaken (by simp)
    refine completes_act rfl (selectApplication_active block active) ⟨?_, ?_, ?_, ?_⟩
    · rw [tagSay_reg, appSelected_state]
    · rw [tagSay_sent, appSelected_sent, unread.sent, dropChallenge_sent]
    · rw [tagSay_reg, appSelected_next]
    · unfold appSelected
      exact ((scanned.tagTo (by decide) _).setReg (by decide) _).tagSay _ _
  case select =>
    intro s block active
    refine completes_act rfl (selectApplication_active block active) ⟨?_, ?_, ?_⟩
    · rw [tagSay_reg, appSelected_state]
    · rw [tagSay_reg, appSelected_next]
    · rw [tagSay_sent, List.head?_cons]

end Sys2Proof.Machine
end
